-- ==== Sys2Proof/Word.lean ====
section
/-! DEFINITION. The words of the part: a byte and a 32-bit word (spec/00_scope.md, Notation: "A word is 32 bits"), the
pairing of a word's bytes (R3, little-endian), and two's complement readings of a numbered field. Numbers of the
part's registers are kept as natural numbers below 2^width; these are the plainest conversions. -/

namespace Sys2Proof

/-- A byte. -/
abbrev Byte := BitVec 8

/-- A word of 32 bits (spec/00_scope.md, Notation). -/
abbrev Word := BitVec 32

/-- Who makes an access of the fabric (spec/01_line_hub_architecture.md R9): a Course, the control core, the Portcullis
core, a DMA stream engine acting for a translation context, a Tablature engine, the host physical function through its
BARs, virtual function `f` (14 R323), or the debug access port (17 R383). -/
inductive Requester where
  | course (n : Fin 32)
  | cc
  | pcs
  | dma (ctx : Fin 64)
  | tab
  | pf
  | vf (f : Fin 16)
  | debug
deriving DecidableEq, Repr

/-- The number under which a requester's half accesses and held values are kept (00 R4, 02 R39). -/
def Requester.num : Requester → Nat
  | .course n => n.val
  | .cc => 32
  | .pcs => 33
  | .tab => 34
  | .pf => 35
  | .vf f => 36 + f.val
  | .debug => 52
  | .dma c => 64 + c.val

/-- A frame that has arrived on a field port (0 to 31) or a trunk port (32 to 39), as the MAC saw it: its octets from the
destination address to the FCS, whether the FCS was good and no error code was forced; how many octets had crossed the
MAC/reconciliation boundary before the first line-cycle boundary since its first octet (0 where none has come), and how many
boundaries have come after that one (03 R67); whether its receive writes land after the frame (03 R68); how many core clock cycles
ago its first octet crossed, and the phase detector's fraction of that tick in 1/65,536 (02 R40); and whether a copy of its twin
pair that began earlier is still arriving on the partner port (03 R70). -/
structure RxFrame where
  port : Fin 40
  bytes : List Byte
  fcsOk : Bool
  crossed : Nat
  spans : Nat
  late : Bool
  age : Nat
  phase : Nat
  held : Bool
deriving DecidableEq, Repr

/-- What the error check of the words that a command reads finds (04 R80, 07 R158): nothing, a corrected single-bit
error, or an uncorrectable double-bit error. -/
inductive Ecc where
  | none | corr | uncorr
deriving DecidableEq, Repr

/-- What a read of a Ledger sector finds (16 R354, R355): good codewords, corrected bits by codeword, an uncorrectable
codeword, or a tag that does not verify. -/
inductive LdgEcc where
  | good
  | corr (bits : List (Fin 4))
  | uncorr
  | auth
deriving DecidableEq, Repr

/-- A Praben core issues an instruction (08 R190, R191): the core (Courses 0 to 31, the control core 32, the Portcullis core
33), the word it fetches, and what the error check finds of the fetch, and of the vector word if the instruction faults. -/
structure Issue where
  core : Fin 34
  word : Word
  ecc : Ecc
  vec : Ecc
deriving DecidableEq, Repr

/-- A core at an entry, or at an element of a block instruction, which may fault (08 R210, R216): what the error check finds of the
vector word. -/
structure EntryIn where
  core : Fin 34
  vec : Ecc
deriving DecidableEq, Repr

/-- What a core's data access meets: the error check of a memory, a Ledger sector, and what host memory answers to a read
(none: an unsuccessful completion). -/
structure Meets where
  ecc : Ecc
  ledger : LdgEcc
  host : Option (List Byte)
deriving DecidableEq, Repr

/-- What a host command's own access to host memory meets (21 R464): it completes, a read with its octets, or it ends with
STATUS code `why` + 1 of 13 R310. -/
inductive HostMem where
  | done (bs : List Byte)
  | fault (why : Fin 5)
deriving DecidableEq, Repr

/-- What an L1 asks the directory for (07 R182): a read, ownership, or an upgrade of a Shared copy. -/
inductive DirKind where
  | rd | own | upg
deriving DecidableEq, Repr

/-- A frame of the arbitrated message bus (10 R248, R254). -/
structure AmbFrame where
  id : BitVec 29
  ide : Bool
  rtr : Bool
  fdf : Bool
  brs : Bool
  esi : Bool
  dlc : BitVec 4
  data : List Byte
deriving DecidableEq, Repr

/-- How a transmit attempt of an arbitrated message bus channel ends (10 R250): sent, arbitration lost, an error of kind LEC,
which the transmit error counter counts unless ISO 11898-1 excepts it, or a data phase whose bits RXD shows as sent only from `lo`
to `hi` peripheral clock periods after each bit's start (R240): a check outside that span is a bit error of kind LEC; or nominal bits
that hang on the sampling (R241), in order, each as its levels and the level sent, the first `arb` of them in the arbitration
field: the first one taken otherwise loses arbitration where it stands there and was sent recessive, and is else an error. -/
inductive AmbEnd where
  | ok
  | arb
  | error (lec : Fin 7) (counted : Bool)
  | data (lo hi : BitVec 12) (lec : Fin 7)
  | nominal (ws : List (Nat × Bool)) (arb : Nat) (lec : Fin 7) (counted : Bool)
deriving DecidableEq, Repr

/-- What a channel receives (10 R253): a valid frame; an error of kind LEC, which the receive error counter counts with 8 instead
of 1 when `big`; or a frame some of whose nominal bits hang on the sampling (R241): each comes as its levels and the level the frame
has there, and a bit taken otherwise makes it the error. -/
inductive AmbRx where
  | frame (f : AmbFrame)
  | error (lec : Fin 7) (big : Bool)
  | bits (ws : List (Nat × Bool)) (f : AmbFrame) (lec : Fin 7) (big : Bool)
deriving DecidableEq, Repr

/-- A frame of the time-triggered bus (11 R270, R272): its slot or frame ID, cycle count, indicators, payload. -/
structure TtbFrame where
  id : BitVec 11
  cycle : BitVec 6
  null : Bool
  sync : Bool
  startup : Bool
  ppi : Bool
  payload : List Byte
deriving DecidableEq, Repr

/-- A ring whose head the next delivery goes to, Courses 0 to 31 and the control core 32, and what its reads find (07 R179, 04 R80). -/
structure RxTake where
  ring : Fin 33
  ecc : Ecc
deriving DecidableEq, Repr

/-- A DMA stream, and what the read of the descriptor that it takes meets (13 R308, 04 R80). -/
structure StreamAct where
  stream : Fin 128
  ecc : Ecc
deriving DecidableEq, Repr

/-- A direct-transmit frame at its launch (05 R125): its port, whether a half-duplex frame is discarded after 16 or a late collision
(R114), and what the read of its first octets and that of the rest find (04 R80). -/
structure Launch where
  port : Fin 32
  coll : Bool
  head : Ecc
  body : Ecc
deriving DecidableEq, Repr

/-- The port through which a frame passes, and what the read of the bytes that TX entries write in it finds (05 R131, 04 R80). -/
structure PassIn where
  port : Fin 32
  ecc : Ecc
deriving DecidableEq, Repr

/-- Nominal bits of an arbitrated message bus channel, each as its levels, one for each peripheral clock period: bit 0 is RXD in the last
period before the bit, bit j RXD in its period j (10 R241). -/
structure NominalBits where
  chan : Fin 16
  levels : List Nat
deriving DecidableEq, Repr

/-- A dominant level on a channel of the arbitrated message bus and how long it held, in periods of 10 ns (10 R257). -/
structure AmbWake where
  chan : Fin 16
  held : BitVec 16
deriving DecidableEq, Repr

/-- A channel's reference instant, and whether a reference message is on the bus that started since the last one (10 R258, R259). -/
structure RefInstant where
  chan : Fin 16
  started : Bool
deriving DecidableEq, Repr

/-- How a wakeup ends: the result, and the repetitions of the symbol that left before a collision or an abort (11 R266). -/
structure WakeupEnd where
  result : Fin 8
  sent : Fin 64
deriving DecidableEq, Repr

/-- A low level on a channel (0 A, 1 B) of a cluster and how long it held, in periods of 10 ns (11 R267). -/
structure TtbWake where
  chan : Fin 2
  held : BitVec 16
deriving DecidableEq, Repr

/-- A channel (0 A, 1 B) of a cluster (11 R261). -/
structure TtbChan where
  cluster : Fin 4
  chan : Fin 2
deriving DecidableEq, Repr

/-- An output stage in current limit: for how long, in µs, and whether its switch overheats (12 R287). -/
structure Limiting where
  output : Fin 16
  us : BitVec 16
  hot : Bool
deriving DecidableEq, Repr

/-- The level after an edge and for how long it held, in units of 1.25 ns (12 R291). -/
structure MarkLevel where
  rise : Bool
  held : BitVec 16
deriving DecidableEq, Repr

/-- What the tamper sensors measure (17 R395): the traces of the shield that read open or shorted at this check and at the one 1 µs
before; for how many µs light has exceeded the photodiode's threshold; the extreme of an excursion of VCORE in mV, 0 for none, what it
has returned to (0: it has not) and after how many 0.1 µs; VAO in mV; and the junction in °C, with the µs for which it has been out of
range. -/
structure TamperReads where
  mesh : BitVec 16
  meshWas : BitVec 16
  light : BitVec 16
  core : BitVec 16
  coreBack : BitVec 16
  coreAfter : BitVec 16
  vao : BitVec 16
  tj : Int
  tjFor : BitVec 16
deriving DecidableEq, Repr

/-- What the tamper pins show now, and for how long each has held its level (17 R395). -/
structure TamperLevels where
  pins : BitVec 2
  held0 : Byte
  held1 : Byte
deriving DecidableEq, Repr

/-- A sync frame on a channel (11 R268). -/
structure SyncFrame where
  chan : Fin 2
  id : BitVec 11
deriving DecidableEq, Repr

/-- What a cluster measured of a sync frame on a channel (11 R268, ISO 17458-2): the deviation of its start in the present cycle, and
the change of its period over the cycle pair, in microticks, signed. -/
structure SyncDev where
  chan : Fin 2
  id : BitVec 11
  off : BitVec 16
  rate : BitVec 12
deriving DecidableEq, Repr

/-- The signed number that `w` bits spell in two's complement. -/
def toSigned (w v : Nat) : Int :=
  if v % 2 ^ w < 2 ^ (w - 1) then ((v % 2 ^ w : Nat) : Int) else ((v % 2 ^ w : Nat) : Int) - ((2 ^ w : Nat) : Int)

/-- The `w` low bits of a signed number, in two's complement. -/
def ofSigned (w : Nat) (z : Int) : Nat := (z % ((2 ^ w : Nat) : Int)).toNat

/-- Bits `lo` to `lo + w - 1` of a number. -/
def bitsOf (v lo w : Nat) : Nat := v / 2 ^ lo % 2 ^ w

/-- Bit `k` of a number. -/
def bitOf (v k : Nat) : Bool := v / 2 ^ k % 2 == 1

/-- The nearest whole number to `n / d`, ties to even (`d` positive). -/
def roundDiv (n d : Int) : Int :=
  let q := n.fdiv d
  let r := n - q * d
  if 2 * r < d then q else if 2 * r > d then q + 1 else if q % 2 = 0 then q else q + 1

/-- The number that a list of bytes spells, least significant byte first (R3). -/
def ofBytes : List Byte → Nat
  | [] => 0
  | b :: bs => b.toNat + 256 * ofBytes bs

/-- The `n` low bytes of a number, least significant byte first (R3). -/
def toBytes : Nat → Nat → List Byte
  | 0, _ => []
  | n + 1, v => BitVec.ofNat 8 v :: toBytes n (v / 256)

end Sys2Proof
end

