-- ==== Sys2Proof/Syntax.lean ====
section
/-! DEFINITION. The commands: one constructor for each row of spec/opcode_table.json. Numbers of registers, ports, cores and
queues are bounded as the specification numbers them; a written value is as wide as its register. -/

namespace Sys2Proof

/-- A command. The queue of waiting commands holds these. -/
inductive Instr where
  /-- REGISTER_WRITE (R6). -/
  | registerWrite (q : Requester) (a : BitVec 43) (size : Fin 4) (v : BitVec 64)
  /-- READ_CLEAR (R6). -/
  | readClear (q : Requester) (a : BitVec 43) (size : Fin 4)
  /-- LOWER_HALF_READ (R4). -/
  | lowerHalfRead (q : Requester) (a : BitVec 43)
  /-- UPPER_HALF_READ (R4). -/
  | upperHalfRead (q : Requester) (a : BitVec 43)
  /-- LOWER_HALF_WRITE (R4). -/
  | lowerHalfWrite (q : Requester) (a : BitVec 43) (v : Word)
  /-- UPPER_HALF_WRITE (R4). -/
  | upperHalfWrite (q : Requester) (a : BitVec 43) (v : Word)
  /-- LOCK_BIT_SET (R7). -/
  | lockBitSet (q : Requester) (a : Word)
  /-- REFERENCE_LOST (R14). -/
  | referenceLost
  /-- REFERENCE_RESTORED (R14). -/
  | referenceRestored
  /-- HOLDOVER_LIMIT_EXPIRY (R14). -/
  | holdoverLimitExpiry
  /-- SERDES_REFERENCE_LOSS (R15). -/
  | serdesReferenceLoss
  /-- PCIE_REFERENCE_LOSS (R15). -/
  | pcieReferenceLoss
  /-- DOMAIN_TURN_ON (R17). -/
  | domainTurnOn (d : Fin 94)
  /-- DOMAIN_TURN_OFF (R16). -/
  | domainTurnOff (d : Fin 94)
  /-- TIME_BASE_TICK (R31). -/
  | timeBaseTick (n : Nat)
  /-- TMB_DOM_INC_WRITE (R32). -/
  | tmbDomIncWrite (q : Requester) (d : Fin 16) (v : BitVec 64)
  /-- TMB_SNAP (R35). -/
  | tmbSnap (q : Requester)
  /-- TMB_DOM_STEP (R38). -/
  | tmbDomStep (q : Requester) (d : Fin 16) (v : BitVec 40)
  /-- STEP_APPLY (R38). -/
  | stepApply (d : Fin 16)
  /-- TMB_DOM_CFG_WRITE (R46). -/
  | tmbDomCfgWrite (q : Requester) (d : Fin 16) (v : Word)
  /-- EPOCH_REF_HOLD (R39). -/
  | epochRefHold (q : Requester) (d : Fin 16) (v : Word)
  /-- EPOCH_COMMIT (R39). -/
  | epochCommit (q : Requester) (d : Fin 16) (sec : BitVec 48)
  /-- EPOCH_REF_REACHED (R39). -/
  | epochRefReached (d : Fin 16)
  /-- EPOCH_STALE_EXPIRY (R39). -/
  | epochStaleExpiry (d : Fin 16)
  /-- VAR_PART_TRACK (R44). -/
  | varPartTrack (p : Fin 40) (tx : BitVec 16) (rx : BitVec 16)
  /-- SAMPLE_SUBMIT (R45). -/
  | sampleSubmit (q : Requester) (d : Fin 16) (theta : BitVec 40) (port : BitVec 6)
  /-- SERVO_UPDATE (R45). -/
  | servoUpdate (d : Fin 16)
  /-- SERVO_HOLDOVER (R46). -/
  | servoHoldover (d : Fin 16)
  /-- LIM_RUN_START (R52). -/
  | limRunStart (q : Requester)
  /-- LIM_RUN_STOP (R53). -/
  | limRunStop (q : Requester)
  /-- LIM_CYC_CHG_ARM (R54). -/
  | limCycChgArm (q : Requester) (period : BitVec 23) (at' : Word)
  /-- BOUNDARY (R51). -/
  | boundary
  /-- STATUS_PASS (R69). -/
  | statusPass
  /-- STATUS_PASS_END (R69). -/
  | statusPassEnd
  /-- SOUNDBOARD_WRITE (R60). -/
  | soundboardWrite (q : Requester) (off : BitVec 26) (bs : List Byte)
  /-- WRITE_THROUGH_DRAIN (R61). -/
  | writeThroughDrain (n : Fin 32)
  /-- TX_ASSEMBLY (R65). -/
  | txAssembly (p : Fin 32) (e : Fin 64) (ecc : Ecc)
  /-- FRAME_RECEIVE (R116). -/
  | frameReceive (r : RxFrame)
  /-- RX_DRAIN (R68). -/
  | rxDrain
  /-- LIM_TAB_DONE (R71). -/
  | limTabDone (q : Requester) (t : Fin 33)
  /-- LIM_TAB_COPY (R71). -/
  | limTabCopy (q : Requester) (t : Fin 33)
  /-- TAB_COPY_COMPLETE (R71). -/
  | tabCopyComplete (t : Fin 33)
  /-- LIM_TAB_REOPEN (R71). -/
  | limTabReopen (q : Requester) (t : Fin 33)
  /-- LIM_BASE_WRITE (R71). -/
  | limBaseWrite (q : Requester) (v : Word)
  /-- TAB_VERIFICATION_END (R72). -/
  | tabVerificationEnd (t : Fin 33)
  /-- LIM_TAB_COMMIT_GO (R73). -/
  | limTabCommitGo (q : Requester) (ports : Word) (slices : Bool)
  /-- LIM_TAB_COMMIT_CANCEL (R73). -/
  | limTabCommitCancel (q : Requester)
  /-- SLICE_READ (R146). -/
  | sliceRead (e : Fin 64) (torn : List Nat) (ecc : List (Nat × Ecc))
  /-- SLICE_FRAME_EGRESS (R145). -/
  | sliceFrameEgress (e : Fin 64)
  /-- SLICE_FRAME_RECEIVE (R77). -/
  | sliceFrameReceive
  /-- SBD_EN_SET (R83). -/
  | sbdEnSet (q : Requester)
  /-- SCRUB_ROUND_LATE (R81). -/
  | scrubRoundLate
  /-- FDB_AGE_OUT (R90). -/
  | fdbAgeOut (mac : BitVec 48) (vid : BitVec 12)
  /-- FLOW_DONE (R88). -/
  | flowDone (q : Requester)
  /-- FLOW_COPY (R88). -/
  | flowCopy (q : Requester)
  /-- FLOW_REOPEN (R88). -/
  | flowReopen (q : Requester)
  /-- FLOW_GO (R88). -/
  | flowGo (q : Requester)
  /-- FLOW_CANCEL (R88). -/
  | flowCancel (q : Requester)
  /-- FLOW_VERIFICATION_END (R88). -/
  | flowVerificationEnd
  /-- EGRESS_START (R102). -/
  | egressStart (p : Fin 40) (coll : Bool) (head : Ecc) (body : Ecc)
  /-- TX_COMPLETION (R119). -/
  | txCompletion (n : Fin 33)
  /-- LOUVRE_CYCLE_START (R101). -/
  | louvreCycleStart (p : Fin 40)
  /-- GATE_ENTRY (R101). -/
  | gateEntry (p : Fin 40)
  /-- LVR_DONE (R103). -/
  | lvrDone (q : Requester) (p : Fin 40)
  /-- LVR_COPY (R103). -/
  | lvrCopy (q : Requester) (p : Fin 40)
  /-- LVR_REOPEN (R103). -/
  | lvrReopen (q : Requester) (p : Fin 40)
  /-- LVR_GO (R103). -/
  | lvrGo (q : Requester) (p : Fin 40)
  /-- LVR_CANCEL (R103). -/
  | lvrCancel (q : Requester) (p : Fin 40)
  /-- LVR_VERIFICATION_END (R103). -/
  | lvrVerificationEnd (p : Fin 40)
  /-- PREEMPT_VERIFY_END (R104). -/
  | preemptVerifyEnd (p : Fin 40) (ok : Bool)
  /-- RECOVERY_RESET (R111). -/
  | recoveryReset (h : Fin 1024)
  /-- MAC_PORT_ENABLE (R113). -/
  | macPortEnable (q : Requester) (p : Fin 32) (v : Word)
  /-- MAC_LINK_UP (R126). -/
  | macLinkUp (p : Fin 32) (speed : Fin 6) (fdx : Bool) (tx : BitVec 16) (rx : BitVec 16)
  /-- MAC_LINK_DOWN (R126). -/
  | macLinkDown (p : Fin 32)
  /-- MAC_MARGIN_MEASURE (R127). -/
  | macMarginMeasure (p : Fin 32) (m : Byte)
  /-- MAC_RETRAIN_REQ (R127). -/
  | macRetrainReq (q : Requester) (p : Fin 32)
  /-- MAC_RETRAIN_WINDOW (R127). -/
  | macRetrainWindow (p : Fin 32)
  /-- MAC_RETRAIN_DONE (R127). -/
  | macRetrainDone (p : Fin 32) (degraded : Bool) (tx : BitVec 16) (rx : BitVec 16)
  /-- TIMED_FRAME_EGRESS (R124). -/
  | timedFrameEgress (p : Fin 32) (e : Fin 64)
  /-- DIRECT_TRANSMIT_LAUNCH (R125). -/
  | directTransmitLaunch (x : Launch)
  /-- TIMED_FRAME_LATE_DROP (R124). -/
  | timedFrameLateDrop (p : Fin 32) (e : Option (Fin 64))
  /-- PASS_THROUGH_FRAME (R131). -/
  | passThroughFrame (x : PassIn) (excess : BitVec 8)
  /-- SCAN_GO (R133). -/
  | scanGo (q : Requester) (p : Fin 32)
  /-- SCAN_ABORT (R133). -/
  | scanAbort (q : Requester) (p : Fin 32)
  /-- SCAN_RESPONSE (R133). -/
  | scanResponse (p : Fin 32) (r : RxFrame)
  /-- SCAN_TIMEOUT (R133). -/
  | scanTimeout (p : Fin 32)
  /-- SCAN_ADDR_WRITE (R134). -/
  | scanAddrWrite (q : Requester) (p : Fin 32) (n : Fin 256) (v : Word)
  /-- TRK_GRP_CFG_WRITE (R137). -/
  | trkGrpCfgWrite (q : Requester) (g : Fin 2) (v : Word)
  /-- TRK_PORT_ENABLE (R139). -/
  | trkPortEnable (q : Requester) (l : Fin 8) (v : Word)
  /-- SYNTH_LOCK_TIMEOUT (R139). -/
  | synthLockTimeout (k : Fin 8)
  /-- SYNTH_RETRY (R139). -/
  | synthRetry (k : Fin 8)
  /-- LINK_TRAINING_DONE (R139). -/
  | linkTrainingDone (l : Fin 8) (rate : Fin 3) (tx : BitVec 16) (rx : BitVec 16)
  /-- TRAINING_FAILURE (R139). -/
  | trainingFailure (k : Fin 8)
  /-- DESKEW_LOST (R140). -/
  | deskewLost (l : Fin 8)
  /-- TRK_LINK_DOWN (R140). -/
  | trkLinkDown (l : Fin 8)
  /-- TRK_MARGIN_MEASURE (R141). -/
  | trkMarginMeasure (k : Fin 8) (m : Byte) (corr : Word) (uncorr : Word)
  /-- TRK_RETRAIN_REQ (R142). -/
  | trkRetrainReq (q : Requester) (k : Fin 8)
  /-- TRK_RATE_WRITE (R140). -/
  | trkRateWrite (q : Requester) (k : Fin 8) (v : Word)
  /-- TRK_RETRAIN_WINDOW (R142). -/
  | trkRetrainWindow (k : Fin 8)
  /-- TRK_RETRAIN_DONE (R142). -/
  | trkRetrainDone (k : Fin 8) (degraded : Bool) (rate : Fin 3) (tx : BitVec 16) (rx : BitVec 16)
  /-- SA_INSTALL (R152). -/
  | saInstall (l : Fin 8) (tx : Bool) (chan : Fin 4) (an : Fin 4)
  /-- SA_RETIRE (R152). -/
  | saRetire (l : Fin 8) (chan : Fin 4) (an : Fin 4)
  /-- TX_AN_CHANGE (R152). -/
  | txAnChange (l : Fin 8) (an : Fin 4)
  /-- TT_REQUEST_SEND (R153). -/
  | ttRequestSend (ch : Fin 9)
  /-- TT_REQUEST_ANSWER (R153). -/
  | ttRequestAnswer (ch : Fin 9)
  /-- TT_RESPONSE_RECEIVE (R155). -/
  | ttResponseReceive (ch : Fin 9)
  /-- CRS_START (R173). -/
  | crsStart (q : Requester) (n : Fin 32)
  /-- CRS_STOP (R161). -/
  | crsStop (q : Requester) (n : Fin 32)
  /-- CRS_GSTART_ARM (R174). -/
  | crsGstartArm (q : Requester) (mask : Word) (at' : Word)
  /-- CRS_WDOG_KICK (R162). -/
  | crsWdogKick (q : Requester) (n : Fin 32)
  /-- COURSE_WATCHDOG_WARNING (R162). -/
  | courseWatchdogWarning (n : Fin 32)
  /-- COURSE_WATCHDOG_EXPIRY (R162). -/
  | courseWatchdogExpiry (n : Fin 32)
  /-- CRS_TCMP_ARM (R171). -/
  | crsTcmpArm (q : Requester) (n : Fin 32) (i : Fin 4) (ns : Word) (frac : Byte) (dom : Fin 16)
  /-- TCMP_MATCH (R171). -/
  | tcmpMatch (n : Fin 32) (i : Fin 4)
  /-- EVENT_DELIVERY (R302). -/
  | eventDelivery
  /-- INTERRUPT_ENTRY (R210). -/
  | interruptEntry (core : EntryIn)
  /-- PROFILE_LOADED (R166). -/
  | profileLoaded (i : Fin 16)
  /-- HOOK_TAG (R175). -/
  | hookTag (q : Requester) (n : Fin 32) (p : Fin 32) (tag : Byte)
  /-- CRS_HOOK_WR (R176). -/
  | crsHookWr (q : Requester) (n : Fin 32) (v : BitVec 64)
  /-- CRS_TXR_TAIL (R178). -/
  | crsTxrTail (q : Requester) (n : Fin 32) (v : BitVec 12)
  /-- TX_DESCRIPTOR_TAKE (R178). -/
  | txDescriptorTake (n : Fin 33) (ecc : Ecc)
  /-- CRS_RXR_TAIL (R179). -/
  | crsRxrTail (q : Requester) (n : Fin 32) (v : BitVec 12)
  /-- RX_RING_DELIVERY (R179). -/
  | rxRingDelivery (n : RxTake)
  /-- CRS_SWEVT (R180). -/
  | crsSwevt (q : Requester) (n : Fin 32) (v : BitVec 3)
  /-- CRS_MSG_SEND (R181). -/
  | crsMsgSend (q : Requester) (n : Fin 32) (k : Fin 64)
  /-- CRS_Q_POP (R181). -/
  | crsQPop (q : Requester) (n : Fin 32) (k : Fin 64)
  /-- CRS_Q_ENABLE (R181). -/
  | crsQEnable (q : Requester) (k : Fin 64) (v : BitVec 30)
  /-- DIRECTORY_REQUEST (R182). -/
  | directoryRequest (line : BitVec 20) (rs : List (Fin 33 × DirKind))
  /-- DIRECTORY_ROUND_END (R182). -/
  | directoryRoundEnd (line : BitVec 20)
  /-- L1_RETRY_REISSUE (R183). -/
  | l1RetryReissue (k : Fin 33) (line : BitVec 20)
  /-- L1_WRITEBACK (R182). -/
  | l1Writeback (k : Fin 33) (line : BitVec 20)
  /-- ADD (R192). -/
  | add (x : Issue)
  /-- ADC (R192). -/
  | adc (x : Issue)
  /-- SUB (R192). -/
  | sub (x : Issue)
  /-- SBC (R192). -/
  | sbc (x : Issue)
  /-- AND (R192). -/
  | and (x : Issue)
  /-- OR (R192). -/
  | or (x : Issue)
  /-- XOR (R192). -/
  | xor (x : Issue)
  /-- ANDN (R192). -/
  | andn (x : Issue)
  /-- SHL (R192). -/
  | shl (x : Issue)
  /-- SHR (R192). -/
  | shr (x : Issue)
  /-- SAR (R192). -/
  | sar (x : Issue)
  /-- ROR (R192). -/
  | ror (x : Issue)
  /-- MIN (R192). -/
  | min (x : Issue)
  /-- MAX (R192). -/
  | max (x : Issue)
  /-- MINU (R192). -/
  | minu (x : Issue)
  /-- MAXU (R192). -/
  | maxu (x : Issue)
  /-- ADDI (R193). -/
  | addi (x : Issue)
  /-- ANDI (R193). -/
  | andi (x : Issue)
  /-- ORI (R193). -/
  | ori (x : Issue)
  /-- XORI (R193). -/
  | xori (x : Issue)
  /-- LOGI_SHIFT (R193). -/
  | logiShift (x : Issue)
  /-- MOVI (R193). -/
  | movi (x : Issue)
  /-- MUL (R205). -/
  | mul (x : Issue)
  /-- MULH (R205). -/
  | mulh (x : Issue)
  /-- MULHU (R205). -/
  | mulhu (x : Issue)
  /-- ITERATIVE_MULTIPLY_DONE (R205). -/
  | iterativeMultiplyDone (core : Fin 34)
  /-- LOAD (R194). -/
  | load (x : Issue) (m : Meets)
  /-- STORE (R194). -/
  | store (x : Issue)
  /-- BRANCH (R203). -/
  | branch (x : Issue)
  /-- BRL (R203). -/
  | brl (x : Issue)
  /-- JR (R202). -/
  | jr (x : Issue)
  /-- CALL (R207). -/
  | call (x : Issue)
  /-- CALLR (R207). -/
  | callr (x : Issue)
  /-- RET (R207). -/
  | ret (x : Issue) (m : Meets)
  /-- RETI (R210). -/
  | reti (x : Issue) (m : Meets)
  /-- JMP (R202). -/
  | jmp (x : Issue)
  /-- TRAP (R209). -/
  | trap (x : Issue)
  /-- MFS (R188). -/
  | mfs (x : Issue)
  /-- MTS (R187). -/
  | mts (x : Issue)
  /-- RDFEAT (R219). -/
  | rdfeat (x : Issue)
  /-- WAIT (R217). -/
  | wait (x : Issue)
  /-- FENCE (R217). -/
  | fence (x : Issue)
  /-- MTB (R195). -/
  | mtb (x : Issue)
  /-- MFB (R195). -/
  | mfb (x : Issue)
  /-- SWEEP (R213). -/
  | sweep (x : Issue)
  /-- CRCB (R213). -/
  | crcb (x : Issue)
  /-- SEEK (R214). -/
  | seek (x : Issue)
  /-- BLOCK_ELEMENT (R213). -/
  | blockElement (core : EntryIn) (m : Meets)
  /-- LDX (R218). -/
  | ldx (x : Issue) (m : Meets)
  /-- STX (R218). -/
  | stx (x : Issue)
  /-- FRET_CYCLE (R226). -/
  | fretCycle (f : Fin 64) (ins : BitVec 8)
  /-- FRT_START (R233). -/
  | frtStart (q : Requester) (f : Fin 64)
  /-- FRT_STOP (R233). -/
  | frtStop (q : Requester) (f : Fin 64)
  /-- FRT_QFLUSH (R230). -/
  | frtQflush (q : Requester) (f : Fin 64)
  /-- FRT_TXQ_WRITE (R230). -/
  | frtTxqWrite (q : Requester) (f : Fin 64) (v : Word)
  /-- FRT_RXQ_READ (R230). -/
  | frtRxqRead (q : Requester) (f : Fin 64)
  /-- FRT_PROGRAM_WRITE (R224). -/
  | frtProgramWrite (q : Requester) (a : Word) (v : BitVec 64)
  /-- FRT_GSTART_ARM (R234). -/
  | frtGstartArm (q : Requester) (at' : Word)
  /-- FRT_TCMP_ARM (R232). -/
  | frtTcmpArm (q : Requester) (f : Fin 64) (ns : Word) (frac : Byte) (dom : Fin 16)
  /-- FRET_TIME_MATCH (R232). -/
  | fretTimeMatch (f : Fin 64)
  /-- AMB_MODE_REQUEST (R242). -/
  | ambModeRequest (q : Requester) (c : Fin 16) (m : Fin 8)
  /-- AMB_INTEGRATION_DONE (R242): a channel and its last 11 nominal bits. -/
  | ambIntegrationDone (c : NominalBits)
  /-- AMB_SLEEP_ENTRY (R256). -/
  | ambSleepEntry (c : Fin 16)
  /-- AMB_TX_REQ (R249). -/
  | ambTxReq (q : Requester) (c : Fin 16) (mask : Word)
  /-- AMB_TX_CANCEL (R251). -/
  | ambTxCancel (q : Requester) (c : Fin 16) (mask : Word)
  /-- AMB_FRAME_CHOICE (R249). -/
  | ambFrameChoice (c : Fin 16)
  /-- AMB_ATTEMPT_END (R250): the line time of its start of frame, and the loop delay, none when the FDF edge was not sent (R240). -/
  | ambAttemptEnd (c : Fin 16) (r : AmbEnd) (sof : BitVec 40) (delay : Option (BitVec 7))
  /-- AMB_RECOVERY_DONE (R247). -/
  | ambRecoveryDone (c : NominalBits)
  /-- AMB_FRAME_RECEIVE (R253). -/
  | ambFrameReceive (c : Fin 16) (r : AmbRx) (sof : BitVec 40)
  /-- AMB_RXQ_ACK (R255). -/
  | ambRxqAck (q : Requester) (c : Fin 16) (k : Fin 4) (n : BitVec 11)
  /-- AMB_TIMED_ELIGIBLE (R252). -/
  | ambTimedEligible (c : Fin 16) (b : Fin 32)
  /-- AMB_TIMED_DEADLINE (R252). -/
  | ambTimedDeadline (c : Fin 16) (b : Fin 32)
  /-- AMB_WAKE_EDGE (R257). -/
  | ambWakeEdge (c : AmbWake)
  /-- REFERENCE_INSTANT (R258). -/
  | referenceInstant (c : RefInstant)
  /-- REFERENCE_DEADLINE (R258). -/
  | referenceDeadline (c : Fin 16)
  /-- REF_SLAVE_TIMEOUT (R259). -/
  | refSlaveTimeout (c : Fin 16)
  /-- POC_CONFIG (R264). -/
  | pocConfig (q : Requester) (k : Fin 4)
  /-- POC_READY (R264). -/
  | pocReady (q : Requester) (k : Fin 4)
  /-- POC_WAKEUP (R264). -/
  | pocWakeup (q : Requester) (k : Fin 4)
  /-- POC_RUN (R264). -/
  | pocRun (q : Requester) (k : Fin 4)
  /-- POC_ALLOW_COLDSTART (R264). -/
  | pocAllowColdstart (q : Requester) (k : Fin 4)
  /-- POC_ALL_SLOTS (R264). -/
  | pocAllSlots (q : Requester) (k : Fin 4)
  /-- POC_HALT (R264). -/
  | pocHalt (q : Requester) (k : Fin 4)
  /-- POC_FREEZE (R264). -/
  | pocFreeze (q : Requester) (k : Fin 4)
  /-- TTB_STARTUP_DONE (R265). -/
  | ttbStartupDone (k : Fin 4) (c : BitVec 6)
  /-- TTB_COLDSTART_FAIL (R265). -/
  | ttbColdstartFail (k : Fin 4)
  /-- TTB_WAKEUP_DONE (R266). -/
  | ttbWakeupDone (k : Fin 4) (r : WakeupEnd)
  /-- TTB_WAKE_RX (R266). -/
  | ttbWakeRx (k : Fin 4)
  /-- TTB_WAKE_EDGE (R267). -/
  | ttbWakeEdge (k : Fin 4) (ch : TtbWake)
  /-- TTB_CYCLE_START (R269). -/
  | ttbCycleStart (k : Fin 4)
  /-- CLOCK_CORRECTION (R268): the sync frames in the order of their slots, and of each the deviation of its start and the change of its
  period that the cluster measured. -/
  | clockCorrection (k : Fin 4) (fs : List SyncFrame) (offs : List (BitVec 16)) (rates : List (BitVec 12))
  /-- STATIC_SLOT_READ (R273). -/
  | staticSlotRead (k : Fin 4) (slot : BitVec 11)
  /-- STATIC_SLOT (R273). -/
  | staticSlot (k : Fin 4) (slot : BitVec 11)
  /-- DYNAMIC_SLOT (R274): a channel reaches a frame ID at one of its minislots. -/
  | dynamicSlot (k : TtbChan) (id : BitVec 11) (minislot : BitVec 13)
  /-- TTB_FRAME_RECEIVE (R275). -/
  | ttbFrameReceive (k : Fin 4) (ch : Fin 2) (ts : BitVec 40) (f : TtbFrame)
  /-- TTB_SLOT_END (R275). -/
  | ttbSlotEnd (k : Fin 4) (id : BitVec 11) (syntaxErr : Bool) (contentErr : Bool) (boundary : Bool)
  /-- MODE_VALID_WRITE (R271). -/
  | modeValidWrite (q : Requester) (k : Fin 4) (v : BitVec 16)
  /-- TTB_MODE_CTRL_REQ (R278). -/
  | ttbModeCtrlReq (q : Requester) (k : Fin 4) (m : Fin 8)
  /-- MODE_AGREEMENT (R278). -/
  | modeAgreement (k : Fin 4)
  /-- COUPLER_FAILURE (R281). -/
  | couplerFailure (c : Fin 48)
  /-- COUPLER_RECOVERY (R281). -/
  | couplerRecovery (c : Fin 48)
  /-- FIO_ISLAND_DOWN (R281). -/
  | fioIslandDown
  /-- FIO_ISLAND_UP (R281). -/
  | fioIslandUp
  /-- FIO_SAMPLE_WINDOW (R282). -/
  | fioSampleWindow (mv : List (BitVec 16)) (ua : List (BitVec 16))
  /-- FIO_OUT_WRITE (R286). -/
  | fioOutWrite (q : Requester) (v : BitVec 16)
  /-- OUTPUT_UPDATE_INSTANT (R286). -/
  | outputUpdateInstant
  /-- SHORT_LATCH_OFF (R287). -/
  | shortLatchOff (j : Limiting)
  /-- SHORT_RETRY (R287). -/
  | shortRetry (j : Fin 16)
  /-- FIO_SHORT_CLEAR (R287). -/
  | fioShortClear (q : Requester) (mask : BitVec 16)
  /-- OPEN_LOAD (R287). -/
  | openLoad (j : Fin 16)
  /-- FIO_WDOG_EXPIRY (R288). -/
  | fioWdogExpiry
  /-- FIO_WDOG_KICK (R288). -/
  | fioWdogKick (q : Requester)
  /-- FIO_EN_WRITE (R288). -/
  | fioEnWrite (q : Requester) (v : Word)
  /-- FIO_SAFE_CLEAR (R288). -/
  | fioSafeClear (q : Requester) (mask : BitVec 16)
  /-- MARK_EDGE (R291): an edge, its timestamp, and the level after it. -/
  | markEdge (i : Fin 16) (ts : BitVec 40) (level : MarkLevel)
  /-- ADC_SAMPLE (R292). -/
  | adcSample (ts : BitVec 40) (codes : List (BitVec 14))
  /-- ADC_RESULT (R292). -/
  | adcResult
  /-- SEQ_SW_TRIG (R293). -/
  | seqSwTrig (q : Requester) (k : Fin 12)
  /-- SEQ_START (R293). -/
  | seqStart (k : Fin 12)
  /-- SEQ_COMPLETION (R296). -/
  | seqCompletion (k : Fin 12)
  /-- MKC_SEQ_ACK (R296). -/
  | mkcSeqAck (q : Requester) (k : Fin 12) (n : BitVec 9)
  /-- MKC_LOG_ACK (R298). -/
  | mkcLogAck (q : Requester) (k : Fin 12) (n : BitVec 9)
  /-- MKC_SEQ_EN_WRITE (R299). -/
  | mkcSeqEnWrite (q : Requester) (k : Fin 12) (v : Word)
  /-- MKC_SEQ_STOP (R299). -/
  | mkcSeqStop (q : Requester) (k : Fin 12)
  /-- EVT_ROUTE_WRITE (R304). -/
  | evtRouteWrite (q : Requester) (src : Fin 4096) (v : BitVec 64)
  /-- MSIX_MESSAGE_SEND (R305). -/
  | msixMessageSend (v : Fin 2048)
  /-- MSIX_TIME_LIMIT (R305). -/
  | msixTimeLimit (v : Fin 2048)
  /-- MSIX_UNMASK (R305). -/
  | msixUnmask (f : Fin 16) (v : Option (Fin 2048))
  /-- LOG_RECORD_WRITE (R307). -/
  | logRecordWrite (l : Fin 16)
  /-- EVT_LOG_ACK (R307). -/
  | evtLogAck (q : Requester) (l : Fin 16) (n : BitVec 15)
  /-- EVT_LOG_ENABLE (R307). -/
  | evtLogEnable (q : Requester) (l : Fin 16) (v : BitVec 16)
  /-- XLT_STR_TAIL (R308). -/
  | xltStrTail (q : Requester) (k : StreamAct) (tail : BitVec 12)
  /-- STREAM_AT_MATCH (R308). -/
  | streamAtMatch (k : Fin 128)
  /-- CHUNK_ISSUE (R309). -/
  | chunkIssue (host : Option (List Byte)) (ecc : Ecc)
  /-- WALK_ENTRY_READ (R311). -/
  | walkEntryRead (i : Fin 16) (r : Option (BitVec 64))
  /-- DESCRIPTOR_COMPLETE (R310). -/
  | descriptorComplete (k : StreamAct)
  /-- STREAM_FAULTED (R316). -/
  | streamFaulted (k : Fin 128)
  /-- XLT_STR_RESUME (R318). -/
  | xltStrResume (q : Requester) (k : StreamAct)
  /-- XLT_STR_ABORT (R318). -/
  | xltStrAbort (q : Requester) (k : StreamAct)
  /-- XLT_INV_GO (R315). -/
  | xltInvGo (q : Requester) (kind : Fin 4) (ctx : Fin 64)
  /-- INVALIDATION_COMPLETE (R315). -/
  | invalidationComplete
  /-- XLT_FQ_ACK (R318). -/
  | xltFqAck (q : Requester) (c : Fin 64) (n : BitVec 11)
  /-- FUNCTION_LEVEL_RESET (R338). -/
  | functionLevelReset (f : Fin 16)
  /-- D3HOT_ENTRY (R338). -/
  | d3hotEntry (f : Fin 16)
  /-- PCIE_LINK_DOWN (R338). -/
  | pcieLinkDown
  /-- HIF_DB_CMD (R327). -/
  | hifDbCmd (q : Requester) (r : Fin 32) (v : BitVec 12)
  /-- HIF_DB_STS (R327). -/
  | hifDbSts (q : Requester) (r : Fin 32) (v : BitVec 12)
  /-- DESCRIPTOR_FETCH (R327). -/
  | descriptorFetch (r : Fin 32) (host : Option (List Byte))
  /-- HIF_RING_ENABLE (R329). -/
  | hifRingEnable (q : Requester) (r : Fin 32) (v : Byte)
  /-- NOP (R331). -/
  | nop (r : Fin 32)
  /-- DEV_INFO (R331). -/
  | devInfo (r : Fin 32)
  /-- DOMAIN_POWER (R331). -/
  | domainPower (r : Fin 32)
  /-- RESET (R430). -/
  | reset (r : Fin 32)
  /-- ROUTE_SET (R304). -/
  | routeSet (r : Fin 32)
  /-- XLT_INVALIDATE (R315). -/
  | xltInvalidate (r : Fin 32)
  /-- STREAM_CTRL (R318). -/
  | streamCtrl (r : Fin 32)
  /-- CYCLE_START (R52). -/
  | cycleStart (r : Fin 32)
  /-- CYCLE_STOP (R53). -/
  | cycleStop (r : Fin 32)
  /-- PERIOD_CHANGE (R54). -/
  | periodChange (r : Fin 32)
  /-- TAB_COMMIT (R73). -/
  | tabCommit (r : Fin 32)
  /-- IMAGE_SET (R57). -/
  | imageSet (r : Fin 32)
  /-- TOPO_SCAN (R133). -/
  | topoScan (r : Fin 32)
  /-- FDB_ADD (R90). -/
  | fdbAdd (r : Fin 32)
  /-- FDB_DEL (R90). -/
  | fdbDel (r : Fin 32)
  /-- FLOW_COMMIT (R88). -/
  | flowCommit (r : Fin 32)
  /-- LVR_COMMIT (R103). -/
  | lvrCommit (r : Fin 32)
  /-- PROFILE_LOAD (R165). -/
  | profileLoad (r : Fin 32)
  /-- PROFILE_UNLOAD (R167). -/
  | profileUnload (r : Fin 32)
  /-- PROFILE_START (R174). -/
  | profileStart (r : Fin 32)
  /-- PROFILE_INFO (R331). -/
  | profileInfo (r : Fin 32)
  /-- COURSE_STOP (R161). -/
  | courseStop (r : Fin 32)
  /-- LEDGER_READ (R377). -/
  | ledgerRead (r : Fin 32) (ecc : List LdgEcc) (host : HostMem)
  /-- LEDGER_WRITE (R377). -/
  | ledgerWrite (r : Fin 32) (host : HostMem)
  /-- IMAGE_INSTALL (R372). -/
  | imageInstall (r : Fin 32) (host : HostMem)
  /-- LEDGER_INFO (R377). -/
  | ledgerInfo (r : Fin 32)
  /-- LEDGER_COMPACT (R374). -/
  | ledgerCompact (r : Fin 32)
  /-- ATTEST (R397). -/
  | attest (r : Fin 32) (host : HostMem)
  /-- SEC_SESSION (R390). -/
  | secSession (r : Fin 32) (host : HostMem)
  /-- LIFECYCLE_SET (R392). -/
  | lifecycleSet (r : Fin 32) (host : HostMem)
  /-- KEY_ROTATE (R375). -/
  | keyRotate (r : Fin 32)
  /-- CAK_INSTALL (R391). -/
  | cakInstall (r : Fin 32) (host : HostMem)
  /-- PAIR_CONFIG (R415). -/
  | pairConfig (r : Fin 32)
  /-- CLAIM_SET (R417). -/
  | claimSet (r : Fin 32)
  /-- PAIR_STATUS (R415). -/
  | pairStatus (r : Fin 32)
  /-- HEALTH_REPORT (R405). -/
  | healthReport (r : Fin 32) (host : HostMem)
  /-- POWER_CAP (R410). -/
  | powerCap (r : Fin 32)
  /-- ENERGY_READ (R410). -/
  | energyRead (r : Fin 32)
  /-- FEED_TEST (R403). -/
  | feedTest (r : Fin 32)
  /-- TIME_READ (R331). -/
  | timeRead (r : Fin 32)
  /-- DOMAIN_SET (R331). -/
  | domainSet (r : Fin 32)
  /-- TIME_STEP (R37). -/
  | timeStep (r : Fin 32)
  /-- PTP_SERVICE (R331). -/
  | ptpService (r : Fin 32)
  /-- WKT_DATA_WRITE (R334). -/
  | wktDataWrite (q : Requester) (w : Fin 64) (d : Fin 2) (i : Fin 16) (v : Word)
  /-- WKT_GO (R333). -/
  | wktGo (q : Requester) (w : Fin 64) (d : Fin 2) (len : BitVec 5)
  /-- WKT_ACK (R333). -/
  | wktAck (q : Requester) (w : Fin 64) (d : Fin 2)
  /-- WICKET_CROSSED (R336). -/
  | wicketCrossed (w : Fin 64)
  /-- WKT_CFG_WRITE (R332). -/
  | wktCfgWrite (q : Requester) (w : Fin 64) (v : BitVec 20)
  /-- TRANSOM_READ (R341). -/
  | transomRead (q : Requester) (a : Word) (n : Fin 64)
  /-- TRANSOM_WRITE (R344). -/
  | transomWrite (q : Requester) (a : Word) (bs : List Byte)
  /-- QUEUED_WRITE_PERFORM (R344). -/
  | queuedWritePerform
  /-- BEAT_COMPLETE (R341). -/
  | beatComplete (data : Word) (err : Bool)
  /-- RDY_TIMEOUT (R341). -/
  | rdyTimeout
  /-- TRY_AGAIN (R345). -/
  | tryAgain
  /-- RETRY_GAP_EXPIRY (R345). -/
  | retryGapExpiry
  /-- LOCK_TIMEOUT (R348). -/
  | lockTimeout
  /-- SIDEBAND_POLL (R349). -/
  | sidebandPoll (raw : Byte)
  /-- LEDGER_WINDOW_WRITE (R357). -/
  | ledgerWindowWrite (q : Requester) (off : BitVec 26) (size : Fin 3) (v : Word)
  /-- LEDGER_WRITE_ACCEPT (R358). -/
  | ledgerWriteAccept
  /-- JOURNAL_RECORD_WRITE (R359). -/
  | journalRecordWrite
  /-- LDG_FLUSH_GO (R360). -/
  | ldgFlushGo (q : Requester) (v : Word)
  /-- LDG_QUOTA_WRITE (R358). -/
  | ldgQuotaWrite (q : Requester) (v : Word)
  /-- APPLIER_QUANTUM (R361). -/
  | applierQuantum (bad : List (Fin 15360))
  /-- COMPACTION_COMPLETE (R374). -/
  | compactionComplete
  /-- LEDGER_SCRUB_QUANTUM (R363). -/
  | ledgerScrubQuantum (finds : List LdgEcc) (again : List LdgEcc)
  /-- LEDGER_SCRUB_LATE (R363). -/
  | ledgerScrubLate
  /-- PAGE_REMAP (R364). -/
  | pageRemap (l : Fin 15360) (spare : Fin 1024)
  /-- KEY_ROTATION_COMPLETE (R375). -/
  | keyRotationComplete
  /-- POWER_FAIL_COMMIT (R367). -/
  | powerFailCommit
  /-- PF_SEAL (R367). -/
  | pfSeal
  /-- TAMPER (R396). -/
  | tamper (sensors : TamperReads) (live : TamperLevels)
  /-- WIPE_DONE (R393). -/
  | wipeDone
  /-- SCRATCHPAD_CLEAR_DONE (R380). -/
  | scratchpadClearDone
  /-- DRBG_HEALTH_FAIL (R385). -/
  | drbgHealthFail (repetition : Bool) (proportion : Bool)
  /-- DRBG_START_RETRY (R385). -/
  | drbgStartRetry (pass : Bool)
  /-- DRBG_RESEED (R385). -/
  | drbgReseed
  /-- SESSION_EXPIRY (R390). -/
  | sessionExpiry
  /-- PCS_STBY (R400). -/
  | pcsStby (q : Requester) (v : Word)
  /-- PORTCULLIS_WAKE (R400). -/
  | portcullisWake
  /-- FEED_LOST (R402). -/
  | feedLost (f : Fin 4) (mv : BitVec 16)
  /-- FEED_RESTORED (R402). -/
  | feedRestored (f : Fin 4) (mv : BitVec 16)
  /-- FEED_TEST_ROUND (R403). -/
  | feedTestRound
  /-- FEED_TEST_STEP (R403). -/
  | feedTestStep (mv : BitVec 16) (carries : Bool) (c : BitVec 16)
  /-- RAIL_MEASURE (R406). -/
  | railMeasure (rails : List (BitVec 16 × BitVec 16)) (feeds : List (BitVec 16 × BitVec 16 × Bool)) (tj : BitVec 16)
  /-- PLANNER_ROUND (R408). -/
  | plannerRound (words : List Ecc)
  /-- POWER_FAILURE_DECLARE (R411). -/
  | powerFailureDeclare (mv : BitVec 16)
  /-- PF_ENERGY_HANDOVER (R412). -/
  | pfEnergyHandover (ma : BitVec 16) (mv : BitVec 16) (dv : BitVec 16)
  /-- POWER_FAIL_RESTART (R411). -/
  | powerFailRestart (mv : BitVec 16)
  /-- CLAIM_WORD_SEND (R416). -/
  | claimWordSend
  /-- CLAIM_WORD_RECEIVE (R416). -/
  | claimWordReceive (path : Fin 2) (w : Word)
  /-- CLAIM_PATH_ABSENT (R418). -/
  | claimPathAbsent (path : Fin 2)
  /-- LATCH_EVALUATION (R419). -/
  | latchEvaluation
  /-- HOLD_EXPIRY (R421). -/
  | holdExpiry
  /-- MIRROR_READ (R423). -/
  | mirrorRead (torn : List (Fin 253952))
  /-- MIRROR_FRAME_RECEIVE (R423). -/
  | mirrorFrameReceive (i : Fin 8) (first : Fin 4096) (slots : List (List Byte × Byte))
  /-- MIRROR_DEADLINE (R423). -/
  | mirrorDeadline
  /-- STANDBY_SELF_TEST (R424). -/
  | standbySelfTest (results : BitVec 6)
  /-- PAIR_LINK_LANE_UP (R426). -/
  | pairLinkLaneUp (l : Fin 2)
  /-- PAIR_LINK_LANE_DOWN (R426). -/
  | pairLinkLaneDown (l : Fin 2)
  /-- POWER_ON_RESET (R427). -/
  | powerOnReset
  /-- RESET_N_ASSERT (R427). -/
  | resetNAssert
  /-- RESET_N_RELEASE (R427). -/
  | resetNRelease
  /-- PERST_N (R427). -/
  | perstN
  /-- RST_CTRL_COLD (R431). -/
  | rstCtrlCold (q : Requester)
  /-- RST_CTRL_WARM (R431). -/
  | rstCtrlWarm (q : Requester)
  /-- RST_HOST_WRITE (R430). -/
  | rstHostWrite (q : Requester) (v : Word)
  /-- RESET_TAKES_EFFECT (R431). -/
  | resetTakesEffect
  /-- REFERENCE_STABLE (R433). -/
  | referenceStable
  /-- RST_WDOG_KICK (R434). -/
  | rstWdogKick (q : Requester) (v : Word)
  /-- RST_WDOG_WARN (R434). -/
  | rstWdogWarn
  /-- CC_WATCHDOG_EXPIRY (R434). -/
  | ccWatchdogExpiry
  /-- SELF_TEST (R435). -/
  | selfTest
  /-- FW_SELECT (R436). -/
  | fwSelect
  /-- FW_LOAD (R435). -/
  | fwLoad
  /-- LEDGER_RECOVERY (R376). -/
  | ledgerRecovery
  /-- RST_READY (R435). -/
  | rstReady
  /-- SAFE_HALT (R437). -/
  | safeHalt
  /-- BOOT_DONE (R436). -/
  | bootDone (q : Requester)
  /-- RAIL_OUT_OF_RANGE (R445). -/
  | railOutOfRange (r : Fin 16)
  /-- PWR_TJ_HIGH (R457). -/
  | pwrTjHigh (tj : BitVec 16)
  /-- PWR_TJ_OVER (R457). -/
  | pwrTjOver (tj : BitVec 16)
  /-- SERDES_REFERENCE_RESTORED (R15). -/
  | serdesReferenceRestored
  /-- PCIE_REFERENCE_RESTORED (R15). -/
  | pcieReferenceRestored
  /-- PCIE_LINK_UP (R335). -/
  | pcieLinkUp
  /-- D0_ENTRY (R335). -/
  | d0Entry (f : Fin 16)
  /-- PERST_N_RELEASE (R435). -/
  | perstNRelease
  /-- RAIL_BACK_IN_RANGE (R445). -/
  | railBackInRange (r : Fin 16)
  /-- PORTCULLIS_READY (R400). -/
  | portcullisReady
  /-- FINAL_REPLY (R327). -/
  | finalReply (r : Fin 32) (k : Nat) (host : HostMem)
  /-- XLT_FQ_ENABLE (R318). -/
  | xltFqEnable (q : Requester) (c : Fin 64) (v : BitVec 25)
  /-- AMB_RXQ_ENABLE (R255). -/
  | ambRxqEnable (q : Requester) (c : Fin 16) (k : Fin 4) (v : BitVec 24)
deriving DecidableEq, Repr

end Sys2Proof
end

