-- ==== Sys2Proof/Decode.lean ====
section
/-! DEFINITION. Command words. The rows of the command table give no bits (every row's `fields` is empty): no word spells a
command. The words that the block itself decodes, those of the Praben cores, are in Machine/Operands.lean. -/

namespace Sys2Proof

/-- The command that a word of the command table spells: none for every word. -/
def decodeTableWord (_nbits _w : Nat) : Option Instr := none

end Sys2Proof
end

