-- ==== Sys2Proof/Config.lean ====
section
/-! DEFINITION. What the specification leaves open: the free values. Each is an opaque constant, so that nothing can
be proved of its value; the step applies it to a counter of the state, or to the operands it depends on. -/

namespace Sys2Proof.Config

/-- The n-th value the specification leaves open (log entry 3). -/
opaque freeValue : Nat → Nat

/-- What a byte of a local memory reads as, that nothing has written since its domain last turned on (01 R17): the
first argument counts the domain's turn-ons, the second is the device address (log entry 8). -/
opaque sramByte : Nat → Nat → BitVec 8

/-- Byte `off` of the boot ROM of core `k` (08 R205, 17 R379): the specification gives no ROM contents (log entry 32). -/
opaque romByte : Nat → Nat → BitVec 8

/-- The bucket of the forwarding database in which a MAC and VID are placed (04 R90: "hashed over 8 ways"; the hash is not
given; log entry 20). -/
opaque fdbBucket : Nat → Nat → Nat
/-- Vendor ID and revision ID of the PCI Express functions (14 R320 gives the device IDs alone). -/
opaque pciVendor : BitVec 16
opaque pciRevision : BitVec 8

/-- The set of the directory in which a line is placed (07, "It has 33,792 entries in 16 ways"; the placement is not
given; log entry 25). -/
opaque dirSet : Nat → Nat

/-- The set of an L1 data cache in which a line is placed (07: "32 KiB, 64-byte lines, 8 ways"; the placement is not given; log
entry 25). -/
opaque l1Set : Nat → Nat

/-- The set of the TLB in which a leaf of a context at a first page is placed (13 R314: "256 sets of 8 ways"; the placement
is not given; log entry 26). -/
opaque tlbSet : Nat → Nat → Nat

/-! The standard algorithms of the Portcullis (17 R384), not computed here: nothing in the model says what they give (log
entry 28). -/

/-- Octet `i` of the SHA-384 of some octets. -/
opaque sha384Byte : List Byte → Nat → BitVec 8

/-- Whether an ML-DSA-87 public key verifies a signature over a message, and an ECDSA P-384 public key. -/
opaque mlDsaOk : List Byte → List Byte → List Byte → Bool
opaque ecdsaOk : List Byte → List Byte → List Byte → Bool

/-- ML-KEM-1024 decapsulation under the identity key of a seed, and AES-256-GCM opening by key, nonce, additional data,
ciphertext and tag. -/
opaque kemOpen : Nat → List Byte → Option (List Byte)
opaque gcmOpen : List Byte → List Byte → List Byte → List Byte → List Byte → Option (List Byte)

/-- AES-256 in counter mode by key, first counter block and plaintext. -/
opaque aesCtr : List Byte → List Byte → List Byte → List Byte

/-- AES-256-GCM sealing by key, nonce, additional data and plaintext: the ciphertext, and the tag. -/
opaque gcmText : List Byte → List Byte → List Byte → List Byte → List Byte
opaque gcmTag : List Byte → List Byte → List Byte → List Byte → List Byte

/-- Octet `i` of the device-unique secret; the label and the context from which a key of the Ledger is derived, by class, generation
and wipe epoch (17 R386 names the inputs, not their encoding). -/
opaque deviceSecret : Nat → BitVec 8
opaque keyLabel : Nat → List Byte
opaque keyContext : Nat → Nat → Nat → List Byte

/-- The KEK and the ICK that MACsec Key Agreement derives from a CAK and its CKN, AES key unwrap and key wrap by a KEK, and the ICV of an
MKA protocol data unit under an ICK (06 R152). -/
opaque mkaKek : List Byte → List Byte
opaque mkaIck : List Byte → List Byte
opaque keyUnwrap : List Byte → List Byte → List Byte
opaque keyWrap : List Byte → List Byte → List Byte
opaque mkaIcv : List Byte → List Byte → List Byte

/-- Octet `i` of the identity public block of a seed, and of the identity keys' signature block over a message (17 R397). -/
opaque identityByte : Nat → Nat → BitVec 8
opaque identitySign : Nat → List Byte → Nat → BitVec 8

/-- What the fuses of this device hold (17 R386): octet `i` of root key digest `k`, and of the device serial. -/
opaque rootDigest : Nat → Nat → BitVec 8
opaque deviceSerial : Nat → BitVec 8

end Sys2Proof.Config
end

