-- ==== Sys2Proof/Machine/State.lean ====
section
/-! DEFINITION. The machine's state as plain data: the queue of waiting commands, every register field and every
numbered piece of internal state as cells (keyed by field and copy, in one canonical form), the byte memories, the
structured queues of the blocks, and what has left the part. INVENTORY.md lists each piece with the rule naming it. -/

namespace Sys2Proof.Machine

/-- How software may access a field (00_scope.md R6). `int` marks internal state, which is no register. -/
inductive Acc where
  | ro | rw | wo | w1c | w1s | rc | rwl | rws | int
deriving DecidableEq, Repr

/-- What a warm reset does to a field (00_scope.md R8): back to its cold value, kept, or a live value. -/
inductive Warm where
  | reset | keep | hw
deriving DecidableEq, Repr

/-- Who may write a field (00_scope.md R467): `fw` is Damair firmware, the firmware of the control core and of the Portcullis core. -/
inductive Who where
  | any | cc | pcs | fw | none
deriving DecidableEq, Repr

/-- A field of a register, or a numbered piece of internal state: its number, its lowest bit, its width, its access
code, its value after cold reset, what a warm reset does to it, and who may write it. -/
structure Fld where
  id : Nat
  lo : Nat
  w : Nat
  acc : Acc
  cold : Nat
  warm : Warm
  who : Who
deriving DecidableEq, Repr

/-- A register: its number, its name in the specification, the device address of its first copy (01 R23), its width,
its copies (one stride and count for each index), and its fields from the least significant up. -/
structure RegInfo where
  num : Nat
  name : String
  base : Nat
  width : Nat
  dims : List (Nat × Nat)
  flds : List Fld
deriving DecidableEq, Repr

/-- One route of an event source (13 R301): its kind, core input, Course, vector and log. -/
structure Route where
  kind : Nat
  input : Nat
  course : Nat
  vector : Nat
  log : Nat
deriving DecidableEq, Repr

/-- A raised event: its source number (01 R27), the DETAIL word of its log record (21 R465, R466), the core clock count
at which it was raised, its two routes as they stood then (13 R303), and for each the timestamp (1/256 ns) and domain
that its log record carries (13 R306). -/
structure Raised where
  src : Nat
  detail : Nat
  cycle : Nat
  routeA : Route
  routeB : Route
  stampA : Nat × Nat
  stampB : Nat × Nat
deriving DecidableEq, Repr

/-- A record that waits to be written to its event log (13 R306): the log, its source, timestamp, domain and DETAIL, and the
core clock count at which the event was raised. -/
structure LogRec where
  log : Nat
  src : Nat
  detail : Nat
  ts : Nat
  dom : Nat
  cycle : Nat
deriving DecidableEq, Repr

/-- A translation in the TLB (13 R314): its context, the level of its leaf (0 a 4 KiB page, 1 2 MiB, 2 1 GiB), its first
device-virtual page, its host physical address, and its rights. -/
structure TlbEntry where
  ctx : Nat
  level : Nat
  page : Nat
  pa : Nat
  rd : Bool
  wr : Bool
deriving DecidableEq, Repr

/-- An intermediate entry of the walk cache (13 R314): its context, the level of the table it leads to, the first page
that table maps, and the table's host physical address. -/
structure WalkEntry where
  ctx : Nat
  level : Nat
  page : Nat
  pa : Nat
deriving DecidableEq, Repr

/-- Who waits for a translation (13 R317): 0 to 31 a Course, 32 the control core, 64 + s a stream, 192 + l an event log,
256 + r a command ring; whether it writes, and the device-virtual address. -/
structure Waiter where
  req : Nat
  write : Bool
  va : Nat
deriving DecidableEq, Repr

/-- A walk (13 R311): its context and page, the level and table of the entry it reads next, who waits for it, and whether
an invalidation makes it start again (R315). -/
structure Walk where
  ctx : Nat
  page : Nat
  level : Nat
  table : Nat
  waiters : List Waiter
  again : Bool
deriving DecidableEq, Repr

/-- A failed translation that its requester has not met yet (13 R311, R316): STATUS code, level, and the host physical
address of the record. -/
structure XltFault where
  who : Waiter
  ctx : Nat
  kind : Nat
  level : Nat
  pa : Nat
deriving DecidableEq, Repr

/-- An access to the Transom window (15 R344, R345): its requester (0 to 31 Course, 32 control core, 64 + s stream s), who
gets an answer on the outside, its far address, its length, its bytes (of a write; of a read those read so far), whether
it is a read of an LDX or a write of an STX, whether it continues the burst of the entry before it, the bytes done, the
beats since the last address phase, the retries, why it stands aside (0 not, 1 for RETRY_GAP), the core clock count at
which that, or its present beat, began, and its place in the order of arrival. -/
structure TrbAccess where
  req : Nat
  answer : Option Requester
  addr : Nat
  len : Nat
  write : Bool
  bytes : List Byte
  lock : Bool
  chain : Bool
  done : Nat
  beats : Nat
  retries : Nat
  aside : Bool
  since : Nat
  seq : Nat
deriving DecidableEq, Repr

/-- A Transom read, or write of an STX, that has ended (15 R346, R348): its requester, address, data, and whether it ended as an error.
The write of an STX that its lock did not outlast has no data. -/
structure TrbReply where
  req : Nat
  addr : Nat
  bytes : List Byte
  error : Bool
deriving DecidableEq, Repr

/-- A sample of the contrast ADC whose result is not ready (12 R292): its instant (1/256 ns), the core clock count at which
it was taken, the results of the 8 channels, and the sequences that take it. -/
structure AdcSample where
  ts : Nat
  cycle : Nat
  codes : List Nat
  seqs : List Nat
deriving DecidableEq, Repr

/-- A job of background work (18 R407). -/
inductive BgJob where
  | adapt (lane : Nat)
  | table (t : Nat)
  | louvre (q : Nat)
  | flow
  | applier
  | compaction
  | scrub
  | ledgerScrub
  | selfTest
deriving DecidableEq, Repr

/-- A request for a grant, with the grant rounds it has waited (18 R408). -/
structure BgReq where
  job : BgJob
  rounds : Nat
deriving DecidableEq, Repr

/-- Bytes on their way to the Soundboard at a device address: a receive write that lands late (03 R68), or a store of
the write-through buffer of Course `who` (03 R61). -/
structure Landing where
  who : Nat
  addr : Nat
  bytes : List Byte
deriving DecidableEq, Repr

/-- A copy of a twin pair that has ended (03 R70): its port, whether it was valid, and, where it ended while the primary was
still arriving, what the MAC holds of it: the line-image bytes it maps with their values. -/
structure TwinCopy where
  port : Nat
  good : Bool
  held : Option (List (Nat × Byte))
deriving DecidableEq, Repr

/-- A twin pair in the present fill period, or with 256 above its tag in the one before (03 R70): its tag, its two ports; of an
ended period the slots it maps; whether SINGLE_COPY counted it, whether its period is settled; and the copies that have ended,
in the order of their ends. -/
structure TwinRec where
  tag : Nat
  lo : Nat
  hi : Nat
  slots : List Nat
  counted : Bool
  settled : Bool
  copies : List TwinCopy
deriving DecidableEq, Repr

/-- What an accepted host command still waits for before its final reply (14 R327, R331). -/
inductive CmdWait where
  | tabCommit
  | flowCommit
  | louvre (q : Nat)
  | scan (p : Nat)
  | stop
  | load (inst : Nat)
  | unload (inst : Nat)
  | invalidate
  | power (dom : Nat) (on : Bool)
  | compact
  | ledger (id next : Nat)
  | flush (target next : Nat)
  | step (n : Nat)
  | rotate
  | firmware
deriving DecidableEq, Repr

/-- A fetched host command that has not started (14 R326, R328): its ring, tag and opcode, its flags, its 56 parameter
bytes, and whether its replies are discarded (R329, R338). -/
structure HostCmd where
  ring : Nat
  tag : Nat
  opcode : Nat
  flags : Nat
  params : List Byte
  mute : Bool
deriving DecidableEq, Repr

/-- An accepted host command: its ring, tag and opcode, whether its replies are discarded, what it waits for, once that has
happened its status, DETAIL and result values (14 R326, R327), and for a command that firmware still works on its
parameters and what it read from host memory. -/
structure AsyncCmd where
  ring : Nat
  tag : Nat
  opcode : Nat
  mute : Bool
  wait : CmdWait
  done : Option (Nat × Nat × List Nat)
  params : List Byte
  data : List Byte
deriving DecidableEq, Repr

/-- A reply on its way to a status ring (14 R326): its ring and 32 bytes, none for a write of the write-back block alone,
and whether HIF_CMD_DONE is raised once it is written. -/
structure HostReply where
  ring : Nat
  bytes : List Byte
  done : Bool
deriving DecidableEq, Repr

/-- A sector entry of the Ledger's staging memory (16 R357): its sector (offset in the window / 256), its newest bytes by
their offset, its class (0 ROUTINE, 1 IMPORTANT, 2 CRITICAL), and the number of the first accepted write it holds. -/
structure LdgEntry where
  sector : Nat
  bytes : List (Nat × Byte)
  cls : Nat
  first : Nat
deriving DecidableEq, Repr

/-- A record of the Ledger's journal ring (16 R359, R364): its sequence number, the sector, the class, the sector's content (none for a
record of the directory alone), the same encrypted, its tag, what it makes of the sector's page in the directory (state, physical page
plus 1), and the CRC-32C over the whole. -/
structure LdgRecord where
  seq : Nat
  sector : Nat
  cls : Nat
  bytes : List Byte
  text : List Byte
  tag : List Byte
  dir : Option (Nat × Nat)
  crc : Nat
deriving DecidableEq, Repr

/-- An anchor copy of the Ledger (16 R374): which of the two, its sequence, the directory copy it names, the journal position up to
which records are contained in that directory, and the CRC-32C. -/
structure LdgAnchor where
  copy : Nat
  seq : Nat
  dir : Nat
  pos : Nat
  crc : Nat
deriving DecidableEq, Repr

/-- A directory copy of the Ledger (16 R352): which of the two, the states of pages, and the physical pages that serve them. -/
structure LdgDir where
  copy : Nat
  pages : List (Nat × Nat)
  phys : List (Nat × Nat)
deriving DecidableEq, Repr

/-- A write to the Ledger window that waits for its class's quota (16 R358): whose write it is, and the number of the host command it
belongs to, neither for a refresh; its offset in the window, its bytes within one sector (a refresh: what the sector holds when it
is accepted), its class if a command gave it. -/
structure LdgWrite where
  who : Option Requester
  cmd : Option Nat
  off : Nat
  bytes : List Byte
  cls : Nat
deriving DecidableEq, Repr

/-- What the receive descriptor of a frame reports (05 R121): timestamp (1/256 ns) and its domain, outer VID and PCP, the
number of VLAN tags, flow entry and whether one was hit, whether the default rule delivered it, the checksum results,
whether it is a mirror sample, its class, and its stream handle. -/
structure FrameMeta where
  ts : Nat
  dom : Nat
  vid : Nat
  pcp : Nat
  tags : Nat
  flow : Option Nat
  miss : Bool
  l3Seen : Bool
  l3Ok : Bool
  l4Seen : Bool
  l4Ok : Bool
  mirror : Bool
  handle : Option Nat
deriving DecidableEq, Repr

/-- Where a frame from a transmit ring came from: the ring (Course 0 to 31, 32 the control core), the device address of
its descriptor, and its flags TS_REQ, LAUNCH and LSO with the descriptor's words 2 and 3 (05 R119, 07 R178). -/
structure TxOrigin where
  ring : Nat
  desc : Nat
  word2 : Nat
  word3 : Nat
deriving DecidableEq, Repr

/-- A frame stored in the Soundboard (04 R95): its number, its octets without FCS processing, its cells, the references
that egress queues hold, its ingress switch port (73 the time-transfer engine, 74 + k scan k), the core clock count of its first cell write (R105), its report, its
transmit descriptor, the STATUS code of the first copy not sent, the egress timestamp (1/256 ns) and domain of the first
copy started, the VID under which it was bridged, with 4,096 added where it passed yellow (R90, R109), and
whether its flow action makes it a source for mirror sessions (R86), and the next segment of a large send (05 R120). -/
structure Frame where
  id : Nat
  bytes : List Byte
  cells : Nat
  refs : Nat
  inPort : Nat
  arrived : Nat
  info : FrameMeta
  origin : Option TxOrigin
  status : Nat
  stamp : Option (Nat × Nat)
  bridge : Option Nat
  sampled : Bool
  seg : Nat
deriving DecidableEq, Repr

/-- A transmit descriptor whose buffer has been released and that waits for its completion (05 R119): where it came from,
the STATUS code, and the egress timestamp with its domain. -/
structure TxDone where
  origin : TxOrigin
  status : Nat
  stamp : Option (Nat × Nat)
deriving DecidableEq, Repr

/-- A copy of a frame in a class queue of an egress port, in order of arrival (04 R99). -/
structure QCopy where
  port : Nat
  cls : Nat
  frame : Nat
deriving DecidableEq, Repr

/-- A copy on the wire of a port: its class, when it ends (core clock count), when it was preempted how many core
clock cycles are left, and the core clock count at which its present fragment began (04 R104). -/
structure OnWire where
  port : Nat
  cls : Nat
  frame : Nat
  until' : Nat
  paused : Option Nat
  since : Nat
deriving DecidableEq, Repr

/-- An entry of the forwarding database (04 R90): MAC, VID, set of egress ports (bit p port p), static or learnt, core
clock count last seen. -/
structure FdbEntry where
  mac : Nat
  vid : Nat
  ports : Nat
  static : Bool
  seen : Nat
deriving DecidableEq, Repr

/-- A direct-transmit frame accepted by a field port (05 R125): the frame, its class, launch time (1/256 ns), domain, and whether
it has been judged at its launch time and waits for the wire (R124). -/
structure Direct where
  port : Nat
  frame : Nat
  cls : Nat
  launch : Nat
  dom : Nat
  armed : Bool
deriving DecidableEq, Repr

/-- A copy of a cyclic frame that has been judged at its E and waits for the wire (05 R124): the port it leaves on, the port and
entry of its list, its class, its octets with FCS, whether it ends with a forced error, its E (1/256 ns) and domain. -/
structure TimedCopy where
  port : Nat
  list : Nat
  entry : Nat
  cls : Nat
  bytes : List Byte
  bad : Bool
  at' : Nat
  dom : Nat
deriving DecidableEq, Repr

/-- What a frame was stamped with as it came in (02 R40): its ingress timestamp (1/256 ns) and domain, and its timestamp in
the domain of the port's mirror samples. -/
structure Stamps where
  ts : Nat
  dom : Nat
  mir : Nat
deriving DecidableEq, Repr

/-- A received frame that waits for the tag of the owning Course, until the core clock count at which its octet 64
crosses (07 R175); the core clock count at which its first octet crossed; what it was stamped with. -/
structure HookHeld where
  deadline : Nat
  first : Nat
  frame : RxFrame
  stamps : Stamps
deriving DecidableEq, Repr

/-- A frame of the Tablature that is still arriving (03 R66): its tag, whether it is valid, and the core clock counts at which its
first octet crossed and its last one will. -/
structure Arriving where
  tag : Nat
  valid : Bool
  first : Nat
  ends : Nat
  frame : RxFrame
deriving DecidableEq, Repr

/-- A stretch of a domain's time (02 R31, R40): at core clock count `since` its counter, an accepted step included, stood at `ctr`, and
from then on it advances by `adv` a cycle, with the increment `inc`. -/
structure CtrRun where
  dom : Nat
  since : Nat
  ctr : Nat
  adv : Nat
  inc : Nat
deriving DecidableEq, Repr

/-- From core clock count `since` on, what moves an ingress timestamp of port index `port` to the reference plane is `corr`, in
1/256 ns (02 R41). -/
structure CorrRun where
  port : Nat
  since : Nat
  corr : Int
deriving DecidableEq, Repr

/-- A frame passing through a node-role port toward its ring peer (05 R131): the port it came in on, its octets, its tag
if it is cyclic, its decision octet, whether it came in bad, the bank of the port's table that maps it (03 R74), the core clock
count at which its first octet crossed, and what it was stamped with. -/
structure Passing where
  inPort : Nat
  bytes : List Byte
  tag : Option Nat
  decision : Nat
  bad : Bool
  bank : Nat
  first : Nat
  stamps : Stamps
deriving DecidableEq, Repr

/-- A cyclic frame assembled for the present cycle (05 R123): its port, its list entry, its octets without FCS, and
whether an uncorrectable word was read (04 R80). -/
structure Assembled where
  port : Nat
  entry : Nat
  bytes : List Byte
  bad : Bool
deriving DecidableEq, Repr

/-- A slice frame read for the present cycle (03 R76, 06 R146): the TX entry, the number of the frame within the slice,
its octets without FCS, and whether it has been judged at its egress instant and waits for the wire (06 R145). -/
structure SliceRead where
  entry : Nat
  k : Nat
  bytes : List Byte
  armed : Bool
deriving DecidableEq, Repr

/-- The first octets of a frame that go into the hook area of a port's owner as they arrive (07 R175, R176): the port, the core
clock count at which the first of them crossed, the octets (64 at most). -/
structure HookIn where
  port : Nat
  first : Nat
  bytes : List Byte
deriving DecidableEq, Repr

/-- What a key slot of a trunk port's MACsec holds (06 R152): the port, the SA (0 to 15 receive, 4 × channel + AN; 16 to 19
transmit, 16 + AN), the SAK, the salt, and the SSCI. No requester can read it. -/
structure SaKey where
  port : Nat
  sa : Nat
  sak : List Byte
  salt : List Byte
  ssci : Nat
deriving DecidableEq, Repr

/-- The MACsec Key Agreement of a trunk port, begun anew by its CAK (06 R152, 17 R391): the KEK and ICK, what the ICV check of the last
MKA protocol data unit said, and the SAK drawn last, wrapped under the KEK. -/
structure Mka where
  port : Nat
  kek : List Byte
  ick : List Byte
  icvOk : Option Bool
  wrapped : List Byte
deriving DecidableEq, Repr

/-- A slice frame handed to the slice receiver (06 R147): the frame, after MACsec, whether it was good, the cycle number
at its end, and the bank of table 32 that maps it (03 R74). -/
structure SliceIn where
  frame : RxFrame
  good : Bool
  cycle : Nat
  bank : Nat
deriving DecidableEq, Repr

/-- A time-transfer frame handed to the engine (06 R147, R153): the channel it came in on, its payload, and its ingress
instant in every domain (1/256 ns). -/
structure TtIn where
  chan : Nat
  payload : List Byte
  stamps : List Nat
deriving DecidableEq, Repr

/-- Where a result in flight of a Praben core lands (08 R197, R205): a general register, a bank register, the flags of a mask
in the places of SR, the product, a special register by MTS; or, for R199, the bytes that stood at an address before a store, which the core's
own loads still read. -/
inductive FlightDst where
  | g (r : Nat)
  | b (k : Nat)
  | flags (mask : Nat)
  | product
  | special (i : Nat)
  | old (addr : Nat) (bytes : List Byte)
deriving DecidableEq, Repr

/-- A result in flight (08 R197): its core, how many more instructions end before it lands, where, and its value. -/
structure Flight where
  core : Nat
  left : Nat
  dst : FlightDst
  value : Nat
deriving DecidableEq, Repr

/-- The reservation of a core (08 R218): the first device address and the length of its granule. -/
structure Resv where
  core : Nat
  addr : Nat
  len : Nat
deriving DecidableEq, Repr

/-- An entry of the directory (07 R182): the line (device address / 64), the L1 that owns it (Exclusive, or Modified when
`dirty`), or the L1s that share it; Courses 0 to 31, the control core 32. -/
structure DirEntry where
  line : Nat
  owner : Option Nat
  dirty : Bool
  sharers : List Nat
deriving DecidableEq, Repr

/-- A request for a line that has not been granted (07 R182, R183): its L1, its ticket, and whether it waits at the
directory (else its L1 holds it after RETRY, until it issues it again). -/
structure DirReq where
  line : Nat
  who : Nat
  kind : DirKind
  ticket : Option Nat
  atDir : Bool
deriving DecidableEq, Repr

/-- The payload of a buffer that a cluster read for a static slot, ready to be sent (11 R273). -/
structure TtbRead where
  cluster : Nat
  slot : Nat
  buf : Nat
  payload : List Byte
deriving DecidableEq, Repr

/-- The entry of a transmit buffer as an arbitrated message bus channel read it at its choice (10 R249): RETRY_LIM, IRQ, whether it
is timed, its deadline in 1/256 ns, and its frame. -/
structure AmbTry where
  chan : Nat
  lim : Nat
  irq : Bool
  timed : Bool
  deadline : Nat
  frame : AmbFrame
deriving DecidableEq, Repr

/-- A valid frame that arrived on a channel (0 A, 1 B) of a cluster in the present slot (11 R275). -/
structure TtbRx where
  cluster : Nat
  chan : Nat
  frame : TtbFrame
deriving DecidableEq, Repr

/-- A valid sync frame of a cluster in cycle `cyc`, with its mode byte if it carried one (11 R277, R278). -/
structure TtbSync where
  cluster : Nat
  cyc : Nat
  id : Nat
  mode : Option Nat
deriving DecidableEq, Repr

/-- What leaves the part, in the order in which it left. -/
inductive Output where
  | readData (q : Requester) (addr v : Nat)
  /-- An error response, with the KIND that 08 R209 gives it: 1 not allowed, 2 bus error, 3 ECC, 4 translation. -/
  | errorResponse (q : Requester) (addr kind : Nat)
  /-- A frame starts on a switch port; `ts` is its egress timestamp (1/256 ns); `bad` ends it with a forced error. -/
  | frame (port : Nat) (bytes : List Byte) (ts : Nat) (bad : Bool)
  /-- An arbitrated message bus channel (10) sent a frame; it acknowledged one (R253); it sent an error flag, passive or active. -/
  | amb (chan : Nat) (f : AmbFrame)
  | ambAck (chan : Nat)
  | ambFlag (chan : Nat) (passive : Bool)
  /-- On channels of a time-triggered bus cluster, bit 0 A, bit 1 B: a frame, a collision avoidance symbol (11 R265), repetitions of the
  wakeup symbol (R266). -/
  | ttb (cluster chans : Nat) (f : TtbFrame)
  | ttbCas (cluster chans : Nat)
  | ttbWakeup (cluster chans n : Nat)
  /-- The Transom's far bus (15): an address phase in a window, and a beat with its byte lanes and their data. -/
  | farPhase (window addr : Nat) (write locked : Bool)
  | farBeat (window addr lanes data : Nat) (write : Bool)
  /-- PCI Express (13, 14): a memory read or write by a function, with the PASID it carries; an MSI-X message; PME; and what a command itself reads or
  writes in host memory, at a device-virtual address of its context (21 R464). -/
  | hostRead (ctx va len : Nat)
  | hostWrite (ctx va : Nat) (bytes : List Byte)
  | pcieRead (func : Nat) (pasid : Option Nat) (addr len : Nat)
  | pcieWrite (func : Nat) (pasid : Option Nat) (addr : Nat) (bytes : List Byte)
  | msix (func addr data : Nat)
  | pme (func : Nat)
  /-- The redundant pair (18): a claim word on the unit's own claim line. -/
  | claimWord (word : Nat)
deriving DecidableEq, Repr

/-- The state. Numbered state is in `cells` (and read only through the operations of Machine/Ops.lean). -/
structure State where
  /-- The commands that wait, first in, first out. -/
  pending : List Instr
  /-- Register fields and numbered internal state: (key, value), keys rising, none equal to its cold value. -/
  cells : List (Nat × Nat)
  /-- Byte memories that read 0 where nothing is listed: control-core SRAM, Soundboard, Ledger pages, scratchpad. -/
  mem : List Host.Cell
  /-- Local memories of the Courses and of the Portcullis: the bytes written since the domain turned on (01 R17, 17 R379). -/
  sram : List Host.Cell
  /-- Requests for background work, oldest first, and grants not yet ended (18 R407, R408). -/
  bgReqs : List BgReq
  bgGrants : List BgJob
  /-- Receive writes that have not landed yet (03 R68), and the write-through buffers, oldest first (03 R61). -/
  drain : List Landing
  wtb : List Landing
  /-- Twin pairs of the present fill period (03 R70). -/
  twins : List TwinRec
  /-- The slots the present status pass has still to judge (03 R69). -/
  passSlots : List Nat
  /-- Frames stored in the Soundboard, the egress queues, the copies on the wires (04 R95, R99, R104). -/
  frames : List Frame
  queues : List QCopy
  wires : List OnWire
  /-- The forwarding database (04 R90). -/
  fdb : List FdbEntry
  /-- Accepted direct-transmit frames (05 R125); copies of cyclic frames that wait for the wire (R124). -/
  directs : List Direct
  timed : List TimedCopy
  /-- Transmit descriptors to be completed (05 R119), frames that wait for a Course's tag (07 R175), frames passing through (05 R131), frames assembled and slice frames
  read for their egress in this cycle (05 R123, 06 R146). -/
  txDone : List TxDone
  hooked : List HookHeld
  hookIn : List HookIn
  /-- Frames of the Tablature that are still arriving (03 R66), and what their timestamps rest on: the courses of the domains' counters
  and of the ports' corrections, the newest first (02 R40, R41). -/
  arriving : List Arriving
  ctrRuns : List CtrRun
  corrRuns : List CorrRun
  passing : List Passing
  assembled : List Assembled
  sliceReads : List SliceRead
  sliceIn : List SliceIn
  ttIn : List TtIn
  /-- Results in flight, the oldest first (08 R197); reservations (08 R218). -/
  flights : List Flight
  resvs : List Resv
  /-- The directory's entries, the requests not granted, the lines with a round under way (07 R182, R183). -/
  dir : List DirEntry
  dirReqs : List DirReq
  dirRounds : List Nat
  /-- The entries that channels of the arbitrated message bus have in an attempt (10 R249). -/
  ambTries : List AmbTry
  /-- What the clusters have read to send, received in the present slot, and seen of sync frames (11 R273, R275, R278). -/
  ttbReads : List TtbRead
  ttbRx : List TtbRx
  ttbSync : List TtbSync
  /-- Samples of the contrast ADC whose results are not ready, the oldest first (12 R292). -/
  adc : List AdcSample
  /-- Records that wait for their event logs (13 R306); the TLB, most recently used first, and the walk cache (R314); walks
  in flight and failed translations not met yet (R311, R316). -/
  logRecs : List LogRec
  tlb : List TlbEntry
  walkCache : List WalkEntry
  walks : List Walk
  xltFaults : List XltFault
  /-- Writes stalled by a full write queue, with what their requesters ask for after them, accesses that wait at the Transom in order
  of arrival, the one on the far bus, and what has ended (15 R344, R345). -/
  trbWait : List TrbAccess
  trbQueue : List TrbAccess
  trbNow : Option TrbAccess
  trbDone : List TrbReply
  /-- Fetched host commands that have not started, accepted ones without a final reply, and replies on their way (14 R326 to
  R328). -/
  fetched : List HostCmd
  cmds : List AsyncCmd
  replies : List HostReply
  /-- The Ledger's staged entries, the oldest first, the writes that wait for quota, the records of its journal ring, the oldest first,
  its anchor copies and its directory copies (16 R352, R357 to R361, R374). -/
  staged : List LdgEntry
  ldgWait : List LdgWrite
  journal : List LdgRecord
  anchors : List LdgAnchor
  dirCopies : List LdgDir
  /-- The Portcullis: the owner record, the root key blocks by entry, and the CAKs of the trunk ports with their CKNs in the
  secure partition (17 R386, R389, R391). -/
  ownerRec : List Byte
  rootKeys : List (Nat × List Byte)
  caks : List (Nat × List Byte)
  /-- The key slots of the trunk ports' MACsec, and the MACsec Key Agreement of each port that holds a CAK (06 R152). -/
  saKeys : List SaKey
  mkas : List Mka
  /-- What rails 0 to 13 together spent in each microsecond measured, in pJ, the newest first (18 R406). -/
  powers : List Nat
  /-- Raised events the event matrix has not delivered yet, oldest first (13 R302). -/
  events : List Raised
  /-- What has left the part, oldest first. -/
  out : List Output
  /-- The index of the next free value: the model's own field. -/
  freeCtr : Nat
deriving DecidableEq, Repr

/-- The state right after reset: every cell at its cold value, the memories empty, the queues empty. -/
def State.reset : State :=
  ⟨[], [], [], [], [], [], [], [], [], [], [], [], [], [], [], [], [], [], [], [], [], [], [], [], [], [], [], [], [], [], [], [], [],
    [], [], [], [], [], [], [], [], [], [], [], none, [], [], [], [], [], [], [], [], [], [], [], [], [], [], [], [], [], 0⟩

/-- The machine never stops with a fault: an error of an access is an error response, and a fault of a Praben core is
a state of that core (08 R209). No command raises one. -/
inductive Fault where
deriving DecidableEq, Repr

/-- Why a step answers no state. -/
inductive Refusal where
  /-- The command has no meaning in the model yet; raised by exec's arms alone. Safe. -/
  | notModelled (mnemonic : String)
deriving DecidableEq, Repr

end Sys2Proof.Machine
end

