-- ==== Sys2Proof/Machine/Fields.lean ====
section
/-! DEFINITION. The register fields of the part, one constant per field of the register tables of spec/ (all
chapters from 01_line_hub_architecture.md to 20_electrical_package.md), in the order of those tables: the number of the field, its lowest bit,
its width, its access code (00_scope.md R6), its value after cold reset and what a warm reset does to it (R8), and who may write
it (R467). A cold or warm entry `hw` is a live value; the value the model holds for it at reset is log entry 6.
Reserved fields hold nothing (R5). The registers themselves, with their addresses (R23), follow the fields. -/

namespace Sys2Proof.Machine

def CLK_STAT_ROOT_LOCK : Fld := ⟨1, 0, 1, .ro, 1, .hw, .any⟩
def CLK_STAT_REF_OK : Fld := ⟨2, 1, 1, .ro, 1, .hw, .any⟩
def CLK_STAT_HOLDOVER : Fld := ⟨3, 2, 1, .ro, 0, .hw, .any⟩
def CLK_STAT_BACKUP_OSC : Fld := ⟨4, 3, 1, .ro, 0, .hw, .any⟩
def CLK_STAT_SERDES_REF_OK : Fld := ⟨5, 4, 1, .ro, 1, .hw, .any⟩
def CLK_STAT_PCIE_REF_OK : Fld := ⟨6, 5, 1, .ro, 1, .hw, .any⟩
def CLK_HOLD_LIMIT_LIMIT : Fld := ⟨7, 0, 16, .rw, 100, .keep, .any⟩
def DEV_ID_ID : Fld := ⟨8, 0, 32, .ro, 2537607329, .reset, .any⟩
def DEV_STEP_MINOR : Fld := ⟨9, 0, 8, .ro, 0, .hw, .any⟩
def DEV_STEP_MAJOR : Fld := ⟨10, 8, 8, .ro, 0, .hw, .any⟩
def DEV_RES0_COURSES : Fld := ⟨11, 0, 6, .ro, 32, .reset, .any⟩
def DEV_RES0_FRETS : Fld := ⟨12, 8, 7, .ro, 64, .reset, .any⟩
def DEV_RES0_FIELD_PORTS : Fld := ⟨13, 16, 6, .ro, 32, .reset, .any⟩
def DEV_RES0_TRUNK_LANES : Fld := ⟨14, 24, 4, .ro, 8, .reset, .any⟩
def DEV_RES1_AMB_CHANNELS : Fld := ⟨15, 0, 5, .ro, 16, .reset, .any⟩
def DEV_RES1_TTB_CLUSTERS : Fld := ⟨16, 5, 3, .ro, 4, .reset, .any⟩
def DEV_RES1_FIO_INPUTS : Fld := ⟨17, 8, 6, .ro, 32, .reset, .any⟩
def DEV_RES1_FIO_OUTPUTS : Fld := ⟨18, 14, 5, .ro, 16, .reset, .any⟩
def DEV_RES1_MARK_INPUTS : Fld := ⟨19, 19, 5, .ro, 16, .reset, .any⟩
def DEV_RES1_ADC_CHANNELS : Fld := ⟨20, 24, 4, .ro, 8, .reset, .any⟩
def DEV_CAP_TRUNK : Fld := ⟨21, 0, 1, .ro, 1, .reset, .any⟩
def DEV_CAP_MACSEC : Fld := ⟨22, 1, 1, .ro, 1, .reset, .any⟩
def DEV_CAP_REDUNDANCY : Fld := ⟨23, 2, 1, .ro, 1, .reset, .any⟩
def DEV_CAP_FIELD_IO : Fld := ⟨24, 3, 1, .ro, 1, .reset, .any⟩
def DEV_CAP_RESUMABLE : Fld := ⟨25, 4, 1, .ro, 1, .reset, .any⟩
def DEV_CAP_L1_CACHE : Fld := ⟨26, 5, 1, .ro, 1, .reset, .any⟩
def DEV_CAP_DEBUG_OPEN : Fld := ⟨27, 6, 1, .ro, 1, .hw, .any⟩
def DEV_HUB_HUB_NUM : Fld := ⟨28, 0, 6, .rwl, 0, .keep, .any⟩
def DEV_HUB_LINE_ID : Fld := ⟨29, 8, 16, .rwl, 0, .keep, .any⟩
def DEV_LOCK_LOCK : Fld := ⟨30, 0, 1, .w1s, 0, .keep, .any⟩
def TMB_CTRL_CORR_EN : Fld := ⟨31, 0, 1, .rw, 0, .keep, .any⟩
def TMB_CTRL_VAR_TRACK_EN : Fld := ⟨32, 1, 1, .rw, 1, .keep, .any⟩
def TMB_CTRL_ASYM_EVT : Fld := ⟨33, 8, 8, .rw, 8, .keep, .any⟩
def TMB_CTRL_LOCK : Fld := ⟨34, 31, 1, .w1s, 0, .keep, .any⟩
def TMB_SNAP_SNAP : Fld := ⟨35, 0, 1, .wo, 0, .reset, .any⟩
def TMB_SUMMARY_LOCKED : Fld := ⟨36, 0, 16, .ro, 0, .hw, .any⟩
def TMB_SUMMARY_HOLDOVER : Fld := ⟨37, 16, 16, .ro, 0, .hw, .any⟩
def TMB_PTPMAP_DOM : Fld := ⟨38, 0, 4, .rwl, 0, .keep, .any⟩
def TMB_PTPMAP_MAJOR_SDO : Fld := ⟨39, 4, 4, .rwl, 0, .keep, .any⟩
def TMB_PTPMAP_VALID : Fld := ⟨40, 15, 1, .rwl, 0, .keep, .any⟩
def TMB_DOM_CFG_MODE : Fld := ⟨41, 0, 2, .rw, 1, .keep, .any⟩
def TMB_DOM_CFG_STEP_EN : Fld := ⟨42, 2, 1, .rw, 1, .keep, .any⟩
def TMB_DOM_CFG_SRC_PORT : Fld := ⟨43, 8, 6, .rw, 63, .keep, .any⟩
def TMB_DOM_TIME_NS : Fld := ⟨44, 0, 32, .ro, 0, .hw, .any⟩
def TMB_DOM_TIME_FRAC : Fld := ⟨45, 32, 8, .ro, 0, .hw, .any⟩
def TMB_DOM_INC_FRAC : Fld := ⟨46, 0, 40, .rw, 274877906944, .keep, .any⟩
def TMB_DOM_INC_NS : Fld := ⟨47, 40, 4, .rw, 1, .keep, .any⟩
def TMB_DOM_STEP_STEP : Fld := ⟨48, 0, 40, .wo, 0, .reset, .any⟩
def TMB_DOM_SERVO_KP_ACQ : Fld := ⟨49, 0, 4, .rw, 1, .keep, .any⟩
def TMB_DOM_SERVO_KI_ACQ : Fld := ⟨50, 4, 4, .rw, 3, .keep, .any⟩
def TMB_DOM_SERVO_KP_LOCK : Fld := ⟨51, 8, 4, .rw, 2, .keep, .any⟩
def TMB_DOM_SERVO_KI_LOCK : Fld := ⟨52, 12, 4, .rw, 6, .keep, .any⟩
def TMB_DOM_SERVO_SLEW_MAX : Fld := ⟨53, 16, 10, .rw, 200, .keep, .any⟩
def TMB_DOM_THRESH_LOCK_THR : Fld := ⟨54, 0, 8, .rw, 8, .keep, .any⟩
def TMB_DOM_THRESH_UNLOCK_THR : Fld := ⟨55, 8, 8, .rw, 50, .keep, .any⟩
def TMB_DOM_THRESH_GATE : Fld := ⟨56, 16, 8, .rw, 50, .keep, .any⟩
def TMB_DOM_THRESH_STEP_THR : Fld := ⟨57, 24, 8, .rw, 10, .keep, .any⟩
def TMB_DOM_LOCKCNT_LOCK_N : Fld := ⟨58, 0, 8, .rw, 16, .keep, .any⟩
def TMB_DOM_LOCKCNT_UNLOCK_M : Fld := ⟨59, 8, 4, .rw, 4, .keep, .any⟩
def TMB_DOM_LOCKCNT_HOLD_MS : Fld := ⟨60, 16, 16, .rw, 100, .keep, .any⟩
def TMB_DOM_SMPT_TS : Fld := ⟨61, 0, 32, .rw, 0, .keep, .any⟩
def TMB_DOM_SAMPLE_OFFSET : Fld := ⟨62, 0, 40, .wo, 0, .reset, .any⟩
def TMB_DOM_SAMPLE_PORT : Fld := ⟨63, 40, 6, .wo, 0, .reset, .any⟩
def TMB_DOM_STAT_STATE : Fld := ⟨64, 0, 2, .ro, 0, .hw, .any⟩
def TMB_DOM_STAT_EPOCH_STALE : Fld := ⟨65, 2, 1, .ro, 1, .hw, .any⟩
def TMB_DOM_OFFS_THETA : Fld := ⟨66, 0, 32, .ro, 0, .hw, .any⟩
def TMB_DOM_CNT0_ACCEPTED : Fld := ⟨67, 0, 16, .rc, 0, .reset, .any⟩
def TMB_DOM_CNT0_REJECTED : Fld := ⟨68, 16, 16, .rc, 0, .reset, .any⟩
def TMB_DOM_CNT1_STALE : Fld := ⟨69, 0, 8, .rc, 0, .reset, .any⟩
def TMB_DOM_CNT1_STEP_BLOCKED : Fld := ⟨70, 8, 8, .rc, 0, .reset, .any⟩
def TMB_DOM_CNT1_EPOCH_DROP : Fld := ⟨71, 16, 16, .rc, 0, .reset, .any⟩
def TMB_DOM_EPOCH_SECONDS : Fld := ⟨72, 0, 48, .rw, 0, .keep, .any⟩
def TMB_DOM_EPOCH_REF_REF_NS : Fld := ⟨73, 0, 32, .rw, 0, .keep, .any⟩
def TMB_DOM_SNAP_NS : Fld := ⟨74, 0, 32, .ro, 0, .keep, .any⟩
def TMB_DOM_SNAP_FRAC : Fld := ⟨75, 32, 8, .ro, 0, .keep, .any⟩
def TMB_PCFG_DEF_DOM : Fld := ⟨76, 0, 4, .rwl, 0, .keep, .any⟩
def TMB_PCFG_TC_EN : Fld := ⟨77, 4, 1, .rw, 0, .keep, .any⟩
def TMB_PUSER_USER_TX : Fld := ⟨78, 0, 16, .rwl, 0, .keep, .any⟩
def TMB_PUSER_USER_RX : Fld := ⟨79, 16, 16, .rwl, 0, .keep, .any⟩
def TMB_PVAR_VAR_TX : Fld := ⟨80, 0, 16, .ro, 0, .hw, .any⟩
def TMB_PVAR_VAR_RX : Fld := ⟨81, 16, 16, .ro, 0, .hw, .any⟩
def TMB_PBASE_BASE_TX : Fld := ⟨82, 0, 16, .ro, 0, .hw, .any⟩
def TMB_PBASE_BASE_RX : Fld := ⟨83, 16, 16, .ro, 0, .hw, .any⟩
def LIM_CYC_CTRL_RUN : Fld := ⟨84, 0, 1, .rw, 0, .reset, .any⟩
def LIM_CYC_CTRL_DOM : Fld := ⟨85, 4, 4, .rwl, 0, .keep, .any⟩
def LIM_CYC_CTRL_LOCK : Fld := ⟨86, 31, 1, .w1s, 0, .keep, .any⟩
def LIM_CYC_PERIOD_PERIOD : Fld := ⟨87, 0, 23, .rw, 25000, .keep, .any⟩
def LIM_CYC_START_START : Fld := ⟨88, 0, 32, .rw, 0, .keep, .any⟩
def LIM_CYC_NUM0_NUM0 : Fld := ⟨89, 0, 32, .rw, 0, .keep, .any⟩
def LIM_CYC_NUM_NUM : Fld := ⟨90, 0, 32, .ro, 0, .hw, .any⟩
def LIM_CYC_CHG_NEW_PERIOD : Fld := ⟨91, 0, 23, .rw, 0, .reset, .any⟩
def LIM_CYC_CHG_AT : Fld := ⟨92, 32, 32, .rw, 0, .reset, .any⟩
def LIM_STAT_RUNNING : Fld := ⟨93, 0, 1, .ro, 0, .hw, .any⟩
def LIM_STAT_FILL_HALF : Fld := ⟨94, 1, 1, .ro, 0, .hw, .any⟩
def LIM_STAT_STATUS_PEND : Fld := ⟨95, 2, 1, .ro, 0, .hw, .any⟩
def LIM_STAT_CHG_PEND : Fld := ⟨96, 3, 1, .ro, 0, .hw, .any⟩
def LIM_STAT_COMMIT_PEND : Fld := ⟨97, 4, 1, .ro, 0, .hw, .any⟩
def LIM_STAT_CHG_REJ : Fld := ⟨98, 5, 1, .w1c, 0, .reset, .any⟩
def LIM_STAT_START_ERR : Fld := ⟨99, 6, 1, .w1c, 0, .reset, .any⟩
def LIM_BASE_BASE : Fld := ⟨100, 0, 10, .rwl, 0, .keep, .any⟩
def LIM_BASE_SLOTS_K : Fld := ⟨101, 16, 8, .rwl, 0, .keep, .any⟩
def LIM_CNT0_OUT_WR : Fld := ⟨102, 0, 16, .rc, 0, .reset, .any⟩
def LIM_CNT0_SLICE_DROP : Fld := ⟨103, 16, 16, .rc, 0, .reset, .any⟩
def LIM_CNT1_STALE_LAST : Fld := ⟨104, 0, 18, .ro, 0, .hw, .any⟩
def LIM_TAB_COMMIT_PORTS : Fld := ⟨105, 0, 32, .rw, 0, .reset, .any⟩
def LIM_TAB_COMMIT_SLICES : Fld := ⟨106, 32, 1, .rw, 0, .reset, .any⟩
def LIM_TAB_COMMIT_CANCEL : Fld := ⟨107, 62, 1, .wo, 0, .reset, .any⟩
def LIM_TAB_COMMIT_GO : Fld := ⟨108, 63, 1, .wo, 0, .reset, .any⟩
def LIM_TAB_CTRL_COUNT : Fld := ⟨109, 0, 10, .rw, 0, .keep, .any⟩
def LIM_TAB_CTRL_DONE : Fld := ⟨110, 16, 1, .w1s, 0, .hw, .any⟩
def LIM_TAB_CTRL_COPY : Fld := ⟨111, 17, 1, .wo, 0, .reset, .any⟩
def LIM_TAB_CTRL_REOPEN : Fld := ⟨112, 18, 1, .wo, 0, .reset, .any⟩
def LIM_TAB_CRC_CRC : Fld := ⟨113, 0, 32, .rw, 0, .keep, .any⟩
def LIM_TAB_STAT_STATE : Fld := ⟨114, 0, 3, .ro, 0, .hw, .any⟩
def LIM_TAB_STAT_FAIL_WHY : Fld := ⟨115, 3, 2, .ro, 0, .hw, .any⟩
def LIM_TAB_STAT_DEFER : Fld := ⟨116, 8, 8, .rc, 0, .reset, .any⟩
def LIM_TAB_STAT_WR_LOCKED : Fld := ⟨117, 16, 16, .rc, 0, .reset, .any⟩
def LIM_PCNT_STRADDLE : Fld := ⟨118, 0, 8, .rc, 0, .reset, .any⟩
def LIM_PCNT_FCS_STALE : Fld := ⟨119, 8, 8, .rc, 0, .reset, .any⟩
def LIM_PCNT_SINGLE_COPY : Fld := ⟨120, 16, 8, .rc, 0, .reset, .any⟩
def LIM_PCNT_NO_COPY : Fld := ⟨121, 24, 8, .rc, 0, .reset, .any⟩
def SBD_CTRL_EN : Fld := ⟨122, 0, 1, .rw, 0, .reset, .any⟩
def SBD_CTRL_SCRUB_S : Fld := ⟨123, 8, 8, .rw, 10, .keep, .any⟩
def SBD_CTRL_LOCK : Fld := ⟨124, 31, 1, .w1s, 0, .keep, .any⟩
def SBD_RSV_BASE : Fld := ⟨125, 0, 10, .rwl, 0, .keep, .any⟩
def SBD_RSV_SIZE : Fld := ⟨126, 16, 10, .rwl, 0, .keep, .any⟩
def SBD_POOL_FREE : Fld := ⟨127, 0, 19, .ro, 0, .hw, .any⟩
def SBD_POOL_TOTAL : Fld := ⟨128, 32, 19, .ro, 0, .hw, .any⟩
def SBD_ECC_CORR : Fld := ⟨129, 0, 16, .rc, 0, .reset, .any⟩
def SBD_ECC_UNCORR : Fld := ⟨130, 16, 16, .rc, 0, .reset, .any⟩
def SBD_STAT_SCRUB_LATE : Fld := ⟨131, 0, 1, .w1c, 0, .reset, .any⟩
def SBD_STAT_CFG_ERR : Fld := ⟨132, 1, 1, .w1c, 0, .reset, .any⟩
def SBD_STAT_POOL_WR : Fld := ⟨133, 2, 1, .w1c, 0, .reset, .any⟩
def SBD_QCFG_HEADROOM : Fld := ⟨134, 0, 18, .rw, 4096, .keep, .any⟩
def SBD_QLOW_LOW : Fld := ⟨135, 0, 18, .rw, 8192, .keep, .any⟩
def SBD_FLOW_CTRL_DONE : Fld := ⟨136, 16, 1, .w1s, 0, .hw, .any⟩
def SBD_FLOW_CTRL_COPY : Fld := ⟨137, 17, 1, .wo, 0, .reset, .any⟩
def SBD_FLOW_CTRL_REOPEN : Fld := ⟨138, 18, 1, .wo, 0, .reset, .any⟩
def SBD_FLOW_CRC_CRC : Fld := ⟨139, 0, 32, .rw, 0, .keep, .any⟩
def SBD_FLOW_STAT_STATE : Fld := ⟨140, 0, 3, .ro, 0, .hw, .any⟩
def SBD_FLOW_STAT_FAIL_WHY : Fld := ⟨141, 3, 2, .ro, 0, .hw, .any⟩
def SBD_FLOW_STAT_PEND : Fld := ⟨142, 5, 1, .ro, 0, .hw, .any⟩
def SBD_FLOW_STAT_DEFER : Fld := ⟨143, 8, 8, .rc, 0, .reset, .any⟩
def SBD_FLOW_STAT_WR_LOCKED : Fld := ⟨144, 16, 16, .rc, 0, .reset, .any⟩
def SBD_FLOW_COMMIT_GO : Fld := ⟨145, 0, 1, .wo, 0, .reset, .any⟩
def SBD_FLOW_COMMIT_CANCEL : Fld := ⟨146, 1, 1, .wo, 0, .reset, .any⟩
def SBD_ARD_SEL_ENTRY : Fld := ⟨147, 0, 13, .rw, 0, .keep, .any⟩
def SBD_ARD_SEL_TABLE : Fld := ⟨148, 16, 7, .rw, 0, .keep, .any⟩
def SBD_MIR_CFG_NM1 : Fld := ⟨149, 0, 16, .rw, 0, .keep, .any⟩
def SBD_MIR_CFG_EN : Fld := ⟨150, 16, 1, .rw, 0, .reset, .any⟩
def SBD_MIR_CFG_DIR : Fld := ⟨151, 17, 1, .rw, 0, .keep, .any⟩
def SBD_MIR_CFG_TC : Fld := ⟨152, 18, 3, .rw, 0, .keep, .any⟩
def SBD_MIR_CFG_DEST : Fld := ⟨153, 21, 7, .rw, 72, .keep, .any⟩
def SBD_MIR_SRC_PORTS : Fld := ⟨154, 0, 40, .rw, 0, .keep, .any⟩
def SBD_MIR_SRC_FLOW : Fld := ⟨155, 40, 1, .rw, 0, .keep, .any⟩
def SBD_FDB_CFG_AGE_S : Fld := ⟨156, 0, 20, .rw, 300, .keep, .any⟩
def SBD_FDB_STAT_USED : Fld := ⟨157, 0, 16, .ro, 0, .hw, .any⟩
def SBD_FDB_STAT_LEARN_FAIL : Fld := ⟨158, 16, 16, .rc, 0, .reset, .any⟩
def SBD_PORT_CFG_FLOW_KEYS : Fld := ⟨159, 0, 3, .rw, 0, .keep, .any⟩
def SBD_PORT_CFG_MISS_ACT : Fld := ⟨160, 3, 2, .rw, 0, .keep, .any⟩
def SBD_PORT_CFG_SLOW_COURSE : Fld := ⟨161, 5, 5, .rw, 0, .keep, .any⟩
def SBD_PORT_CFG_SLOW_CC : Fld := ⟨162, 10, 1, .rw, 1, .keep, .any⟩
def SBD_PORT_CFG_FHASH_SEL : Fld := ⟨163, 11, 1, .rw, 0, .keep, .any⟩
def SBD_PORT_CFG_CT_EN : Fld := ⟨164, 12, 1, .rw, 1, .keep, .any⟩
def SBD_PORT_CFG_LEARN : Fld := ⟨165, 13, 1, .rw, 0, .keep, .any⟩
def SBD_PORT_CFG_ING_FILT : Fld := ⟨166, 14, 1, .rw, 1, .keep, .any⟩
def SBD_PORT_CFG_PVID : Fld := ⟨167, 16, 12, .rw, 1, .keep, .any⟩
def SBD_PORT_PCPMAP_TC : Fld := ⟨168, 0, 24, .rw, 16434824, .keep, .any⟩
def SBD_PORT_PCPMAP_DEF_PCP : Fld := ⟨169, 24, 3, .rw, 0, .keep, .any⟩
def SBD_PORT_PREEMPT_PREEMPTABLE : Fld := ⟨170, 0, 8, .rw, 0, .keep, .any⟩
def SBD_PORT_PREEMPT_ADD_FRAG : Fld := ⟨171, 8, 2, .rw, 0, .keep, .any⟩
def SBD_PORT_PREEMPT_VERIFY_DIS : Fld := ⟨172, 10, 1, .rw, 0, .keep, .any⟩
def SBD_PORT_PREEMPT_STATUS : Fld := ⟨173, 11, 2, .ro, 0, .hw, .any⟩
def SBD_LVR_CTRL_COUNT : Fld := ⟨174, 0, 11, .rw, 1, .keep, .any⟩
def SBD_LVR_CTRL_EN : Fld := ⟨175, 11, 1, .rw, 0, .reset, .any⟩
def SBD_LVR_CTRL_DOM : Fld := ⟨176, 12, 4, .rwl, 0, .keep, .any⟩
def SBD_LVR_CTRL_DONE : Fld := ⟨177, 16, 1, .w1s, 0, .hw, .any⟩
def SBD_LVR_CTRL_COPY : Fld := ⟨178, 17, 1, .wo, 0, .reset, .any⟩
def SBD_LVR_CTRL_REOPEN : Fld := ⟨179, 18, 1, .wo, 0, .reset, .any⟩
def SBD_LVR_CTRL_GO : Fld := ⟨180, 19, 1, .wo, 0, .reset, .any⟩
def SBD_LVR_CTRL_CANCEL : Fld := ⟨181, 20, 1, .wo, 0, .reset, .any⟩
def SBD_LVR_CTRL_ADMIN_GATES : Fld := ⟨182, 21, 8, .rw, 255, .keep, .any⟩
def SBD_LVR_CT_CT : Fld := ⟨183, 0, 23, .rw, 25000, .keep, .any⟩
def SBD_LVR_BASE_BASE : Fld := ⟨184, 0, 32, .rw, 0, .keep, .any⟩
def SBD_LVR_CRC_CRC : Fld := ⟨185, 0, 32, .rw, 0, .keep, .any⟩
def SBD_LVR_STAT_STATE : Fld := ⟨186, 0, 3, .ro, 0, .hw, .any⟩
def SBD_LVR_STAT_FAIL_WHY : Fld := ⟨187, 3, 2, .ro, 0, .hw, .any⟩
def SBD_LVR_STAT_PEND : Fld := ⟨188, 5, 1, .ro, 0, .hw, .any⟩
def SBD_LVR_STAT_ACTIVE : Fld := ⟨189, 6, 1, .ro, 0, .hw, .any⟩
def SBD_LVR_STAT_DEFER : Fld := ⟨190, 8, 8, .rc, 0, .reset, .any⟩
def SBD_LVR_STAT_WR_LOCKED : Fld := ⟨191, 16, 16, .rc, 0, .reset, .any⟩
def SBD_QCLASS_MIN : Fld := ⟨192, 0, 12, .rw, 0, .keep, .any⟩
def SBD_QCLASS_ALPHA : Fld := ⟨193, 12, 3, .rw, 4, .keep, .any⟩
def SBD_QCLASS_RES_LIMIT : Fld := ⟨194, 16, 16, .rw, 0, .keep, .any⟩
def SBD_QCNT_ADMIT_DROP : Fld := ⟨195, 0, 32, .rc, 0, .reset, .any⟩
def SBD_QCNT_AGE_DROP : Fld := ⟨196, 32, 32, .rc, 0, .reset, .any⟩
def SBD_PCNT_MISS_DEFAULT : Fld := ⟨197, 0, 32, .rc, 0, .reset, .any⟩
def SBD_PCNT_CT_BAD : Fld := ⟨198, 32, 16, .rc, 0, .reset, .any⟩
def SBD_PCNT_LINK_DROP : Fld := ⟨199, 48, 16, .rc, 0, .reset, .any⟩
def MAC_CFG_EN : Fld := ⟨200, 0, 1, .rw, 0, .reset, .any⟩
def MAC_CFG_MODE : Fld := ⟨201, 1, 4, .rwl, 0, .keep, .any⟩
def MAC_CFG_AN_EN : Fld := ⟨202, 5, 1, .rw, 1, .keep, .any⟩
def MAC_CFG_SPEED : Fld := ⟨203, 6, 3, .rw, 2, .keep, .any⟩
def MAC_CFG_HDX : Fld := ⟨204, 9, 1, .rw, 0, .keep, .any⟩
def MAC_CFG_FCS_STRIP : Fld := ⟨205, 10, 1, .rw, 1, .keep, .any⟩
def MAC_CFG_RING_ROLE : Fld := ⟨206, 11, 2, .rwl, 0, .keep, .any⟩
def MAC_CFG_RING_PEER : Fld := ⟨207, 13, 5, .rwl, 0, .keep, .any⟩
def MAC_CFG_TAG_BY_COURSE : Fld := ⟨208, 18, 1, .rwl, 0, .keep, .any⟩
def MAC_CFG_LOCK : Fld := ⟨209, 31, 1, .w1s, 0, .keep, .any⟩
def MAC_MAXLEN_MAX_LEN : Fld := ⟨210, 0, 14, .rw, 1522, .keep, .any⟩
def MAC_STAT_LINK : Fld := ⟨211, 0, 1, .ro, 0, .hw, .any⟩
def MAC_STAT_SPEED : Fld := ⟨212, 1, 3, .ro, 0, .hw, .any⟩
def MAC_STAT_FDX : Fld := ⟨213, 4, 1, .ro, 0, .hw, .any⟩
def MAC_STAT_LANE : Fld := ⟨214, 5, 3, .ro, 0, .hw, .any⟩
def MAC_STAT_TX_READY : Fld := ⟨215, 8, 1, .ro, 0, .hw, .any⟩
def MAC_STAT_AN_DONE : Fld := ⟨216, 9, 1, .ro, 0, .hw, .any⟩
def MAC_STAT_CFG_ERR : Fld := ⟨217, 10, 1, .w1c, 0, .reset, .any⟩
def MAC_STAT_CYC_BANK : Fld := ⟨218, 11, 1, .ro, 0, .hw, .any⟩
def MAC_STAT_LATE_WHY : Fld := ⟨219, 12, 3, .ro, 0, .hw, .any⟩
def MAC_STAT_MARGIN : Fld := ⟨220, 16, 8, .ro, 0, .hw, .any⟩
def MAC_LANE_THRESH : Fld := ⟨221, 0, 8, .rw, 64, .keep, .any⟩
def MAC_LANE_FLOOR : Fld := ⟨222, 8, 8, .rw, 32, .keep, .any⟩
def MAC_LANE_RECOVER_N : Fld := ⟨223, 16, 8, .rw, 100, .keep, .any⟩
def MAC_LANE_RETRAIN_REQ : Fld := ⟨224, 24, 1, .wo, 0, .reset, .any⟩
def MAC_EB_EXCESS : Fld := ⟨225, 0, 8, .ro, 0, .hw, .any⟩
def MAC_EB_PEAK : Fld := ⟨226, 8, 8, .rc, 0, .reset, .any⟩
def MAC_CYC_CTRL_EN : Fld := ⟨227, 0, 1, .rw, 0, .reset, .any⟩
def MAC_CYC_CTRL_BANK_NEXT : Fld := ⟨228, 1, 1, .rw, 0, .reset, .any⟩
def MAC_CYC_CTRL_FOLLOW_COMMIT : Fld := ⟨229, 2, 1, .rw, 1, .keep, .any⟩
def MAC_CYC_CTRL_LATE_MAX : Fld := ⟨230, 8, 16, .rw, 0, .keep, .any⟩
def MAC_CNT_RX_RX_OK : Fld := ⟨231, 0, 32, .rc, 0, .reset, .any⟩
def MAC_CNT_RX_RX_FCS : Fld := ⟨232, 32, 16, .rc, 0, .reset, .any⟩
def MAC_CNT_RX_RX_LEN : Fld := ⟨233, 48, 16, .rc, 0, .reset, .any⟩
def MAC_CNT_RX2_RX_CSUM : Fld := ⟨234, 0, 16, .rc, 0, .reset, .any⟩
def MAC_CNT_RX2_RX_PAUSE : Fld := ⟨235, 16, 16, .rc, 0, .reset, .any⟩
def MAC_CNT_RX2_RX_CYCLIC : Fld := ⟨236, 32, 32, .rc, 0, .reset, .any⟩
def MAC_CNT_TX_TX_OK : Fld := ⟨237, 0, 32, .rc, 0, .reset, .any⟩
def MAC_CNT_TX_TX_LATE_DROP : Fld := ⟨238, 32, 16, .rc, 0, .reset, .any⟩
def MAC_CNT_TX_TX_NOT_READY : Fld := ⟨239, 48, 16, .rc, 0, .reset, .any⟩
def MAC_CNT_PT_PT_FWD : Fld := ⟨240, 0, 32, .rc, 0, .reset, .any⟩
def MAC_CNT_PT_ELASTIC_OVERRUN : Fld := ⟨241, 32, 8, .rc, 0, .reset, .any⟩
def MAC_CNT_PT_PT_LATE : Fld := ⟨242, 40, 8, .rc, 0, .reset, .any⟩
def MAC_CNT_PT_PT_BAD : Fld := ⟨243, 48, 8, .rc, 0, .reset, .any⟩
def MAC_CNT_PT_HDX_DISCARD : Fld := ⟨244, 56, 8, .rc, 0, .reset, .any⟩
def MAC_CNT_LANE_RETRAINS : Fld := ⟨245, 0, 16, .rc, 0, .reset, .any⟩
def MAC_CNT_LANE_DEGRADES : Fld := ⟨246, 16, 16, .rc, 0, .reset, .any⟩
def MAC_SCAN_CTRL_GO : Fld := ⟨247, 0, 1, .wo, 0, .reset, .any⟩
def MAC_SCAN_CTRL_ABORT : Fld := ⟨248, 1, 1, .wo, 0, .reset, .any⟩
def MAC_SCAN_CTRL_CHG_EN : Fld := ⟨249, 2, 1, .rw, 0, .keep, .any⟩
def MAC_SCAN_CTRL_TC : Fld := ⟨250, 3, 3, .rw, 0, .keep, .any⟩
def MAC_SCAN_CTRL_MAXHOP : Fld := ⟨251, 8, 8, .rw, 255, .keep, .any⟩
def MAC_SCAN_CTRL_TMO : Fld := ⟨252, 16, 16, .rw, 10, .keep, .any⟩
def MAC_SCAN_TPL_OFFSET : Fld := ⟨253, 0, 26, .rw, 0, .keep, .any⟩
def MAC_SCAN_TPL_LEN : Fld := ⟨254, 32, 14, .rw, 60, .keep, .any⟩
def MAC_SCAN_TPL_HOP_OFF : Fld := ⟨255, 48, 14, .rw, 0, .keep, .any⟩
def MAC_SCAN_RSP_ID_OFF : Fld := ⟨256, 0, 14, .rw, 0, .keep, .any⟩
def MAC_SCAN_RSP_CHG_OFF : Fld := ⟨257, 16, 14, .rw, 0, .keep, .any⟩
def MAC_SCAN_STAT_STATE : Fld := ⟨258, 0, 3, .ro, 0, .hw, .any⟩
def MAC_SCAN_STAT_RESTARTED : Fld := ⟨259, 3, 1, .ro, 0, .hw, .any⟩
def MAC_SCAN_STAT_NODES : Fld := ⟨260, 8, 8, .ro, 0, .hw, .any⟩
def MAC_SCAN_STAT_CONFIRMED : Fld := ⟨261, 16, 8, .ro, 0, .hw, .any⟩
def MAC_SCAN_STAT_FROM_PORT : Fld := ⟨262, 24, 5, .ro, 0, .hw, .any⟩
def TRK_GRP_CFG_EN : Fld := ⟨263, 0, 1, .rw, 0, .reset, .any⟩
def TRK_GRP_CFG_SPLIT : Fld := ⟨264, 1, 1, .rwl, 0, .keep, .any⟩
def TRK_SLICE_DA_DA : Fld := ⟨265, 0, 48, .rwl, 395136991235, .keep, .any⟩
def TRK_SLICE_TAG_ETYPE : Fld := ⟨266, 0, 16, .rwl, 34997, .keep, .any⟩
def TRK_SLICE_TAG_VID : Fld := ⟨267, 16, 12, .rwl, 0, .keep, .any⟩
def TRK_SLICE_TAG_LOCK : Fld := ⟨268, 31, 1, .w1s, 0, .keep, .any⟩
def TRK_LANE_CFG_RATE : Fld := ⟨269, 0, 2, .rw, 2, .keep, .any⟩
def TRK_LANE_CFG_IF : Fld := ⟨270, 2, 2, .rwl, 0, .keep, .any⟩
def TRK_LANE_CFG_AN_EN : Fld := ⟨271, 4, 1, .rw, 1, .keep, .any⟩
def TRK_LANE_CFG_FALLBACK : Fld := ⟨272, 5, 1, .rw, 1, .keep, .any⟩
def TRK_LANE_CFG_TX_INV : Fld := ⟨273, 6, 1, .rwl, 0, .keep, .any⟩
def TRK_LANE_CFG_RX_INV : Fld := ⟨274, 7, 1, .rwl, 0, .keep, .any⟩
def TRK_LANE_STAT_LANE : Fld := ⟨275, 0, 3, .ro, 0, .hw, .any⟩
def TRK_LANE_STAT_SYNTH_LOCK : Fld := ⟨276, 3, 1, .ro, 0, .hw, .any⟩
def TRK_LANE_STAT_RATE : Fld := ⟨277, 4, 2, .ro, 0, .hw, .any⟩
def TRK_LANE_STAT_MARGIN : Fld := ⟨278, 8, 8, .ro, 0, .hw, .any⟩
def TRK_LANE_THR_THRESH : Fld := ⟨279, 0, 8, .rw, 48, .keep, .any⟩
def TRK_LANE_THR_FLOOR : Fld := ⟨280, 8, 8, .rw, 24, .keep, .any⟩
def TRK_LANE_THR_RECOVER_N : Fld := ⟨281, 16, 8, .rw, 100, .keep, .any⟩
def TRK_LANE_THR_RETRAIN_REQ : Fld := ⟨282, 24, 1, .wo, 0, .reset, .any⟩
def TRK_LANE_CNT_RETRAINS : Fld := ⟨283, 0, 16, .rc, 0, .reset, .any⟩
def TRK_LANE_CNT_DEGRADES : Fld := ⟨284, 16, 16, .rc, 0, .reset, .any⟩
def TRK_PORT_CFG_EN : Fld := ⟨285, 0, 1, .rw, 0, .reset, .any⟩
def TRK_PORT_CFG_FACING : Fld := ⟨286, 1, 2, .rwl, 0, .keep, .any⟩
def TRK_PORT_CFG_SLICE_EN : Fld := ⟨287, 3, 1, .rw, 1, .keep, .any⟩
def TRK_PORT_CFG_MAX_LEN : Fld := ⟨288, 4, 14, .rw, 16000, .keep, .any⟩
def TRK_PORT_CFG_UNCORR_MAX : Fld := ⟨289, 18, 8, .rw, 4, .keep, .any⟩
def TRK_PORT_STAT_LINK : Fld := ⟨290, 0, 1, .ro, 0, .hw, .any⟩
def TRK_PORT_STAT_TX_READY : Fld := ⟨291, 1, 1, .ro, 0, .hw, .any⟩
def TRK_PORT_STAT_LIVE : Fld := ⟨292, 2, 1, .ro, 0, .hw, .any⟩
def TRK_PORT_STAT_ALIGNED : Fld := ⟨293, 3, 1, .ro, 0, .hw, .any⟩
def TRK_PORT_STAT_FEC_LOCK : Fld := ⟨294, 4, 1, .ro, 0, .hw, .any⟩
def TRK_PORT_STAT_CFG_ERR : Fld := ⟨295, 5, 1, .w1c, 0, .reset, .any⟩
def TRK_PORT_STAT_LATE_WHY : Fld := ⟨296, 8, 3, .ro, 0, .hw, .any⟩
def TRK_PORT_MAC_MAC : Fld := ⟨297, 0, 48, .rwl, 0, .keep, .any⟩
def TRK_CNT_FEC_CORR : Fld := ⟨298, 0, 32, .rc, 0, .reset, .any⟩
def TRK_CNT_FEC_UNCORR : Fld := ⟨299, 32, 32, .rc, 0, .reset, .any⟩
def TRK_CNT_RX_RX_OK : Fld := ⟨300, 0, 32, .rc, 0, .reset, .any⟩
def TRK_CNT_RX_RX_ERR : Fld := ⟨301, 32, 16, .rc, 0, .reset, .any⟩
def TRK_CNT_RX_LINE_DROP : Fld := ⟨302, 48, 16, .rc, 0, .reset, .any⟩
def TRK_CNT_TX_TX_OK : Fld := ⟨303, 0, 32, .rc, 0, .reset, .any⟩
def TRK_CNT_TX_TX_LATE_DROP : Fld := ⟨304, 32, 16, .rc, 0, .reset, .any⟩
def TRK_TT_CFG_EN : Fld := ⟨305, 0, 1, .rw, 0, .reset, .any⟩
def TRK_TT_CFG_LOG_INT : Fld := ⟨306, 4, 4, .rw, 7, .keep, .any⟩
def TRK_TT_CFG_TC : Fld := ⟨307, 8, 3, .rw, 6, .keep, .any⟩
def TRK_TT_CFG_ASYM : Fld := ⟨308, 16, 16, .rwl, 0, .keep, .any⟩
def TRK_TT_DOM_SLAVE : Fld := ⟨309, 0, 16, .rwl, 0, .keep, .any⟩
def TRK_TT_DOM_MASTER : Fld := ⟨310, 16, 16, .rwl, 0, .keep, .any⟩
def TRK_TT_DELAY_DELAY : Fld := ⟨311, 0, 24, .ro, 0, .hw, .any⟩
def TRK_TT_CNT_SAMPLES : Fld := ⟨312, 0, 32, .rc, 0, .reset, .any⟩
def TRK_TT_CNT_LOST : Fld := ⟨313, 32, 16, .rc, 0, .reset, .any⟩
def TRK_TT_CNT_REFUSED : Fld := ⟨314, 48, 16, .rc, 0, .reset, .any⟩
def TRK_MSEC_CFG_EN : Fld := ⟨315, 0, 1, .rwl, 0, .keep, .any⟩
def TRK_MSEC_CFG_CONF : Fld := ⟨316, 1, 1, .rwl, 1, .keep, .any⟩
def TRK_MSEC_CFG_VALIDATE : Fld := ⟨317, 2, 2, .rwl, 2, .keep, .any⟩
def TRK_MSEC_CFG_REPLAY_PROTECT : Fld := ⟨318, 4, 1, .rwl, 1, .keep, .any⟩
def TRK_MSEC_CFG_PN_THR : Fld := ⟨319, 8, 6, .rw, 62, .keep, .any⟩
def TRK_MSEC_CFG_TX_AN : Fld := ⟨320, 16, 2, .ro, 0, .hw, .any⟩
def TRK_MSEC_WIN_WINDOW : Fld := ⟨321, 0, 30, .rwl, 0, .keep, .any⟩
def TRK_MSEC_TXSCI_SCI : Fld := ⟨322, 0, 64, .rwl, 0, .keep, .any⟩
def TRK_MSEC_RXSCI_SCI : Fld := ⟨323, 0, 64, .rwl, 0, .keep, .any⟩
def TRK_MSEC_SA_TX_SA : Fld := ⟨324, 0, 4, .ro, 0, .hw, .any⟩
def TRK_MSEC_SA_RX_SA : Fld := ⟨325, 4, 16, .ro, 0, .hw, .any⟩
def TRK_MSEC_SA_RXSC_EN : Fld := ⟨326, 20, 4, .rwl, 0, .keep, .any⟩
def TRK_MSEC_TXPN_PN : Fld := ⟨327, 0, 64, .ro, 0, .hw, .any⟩
def TRK_MSEC_CNT_PROTECTED : Fld := ⟨328, 0, 32, .rc, 0, .reset, .any⟩
def TRK_MSEC_CNT_NOT_VALID : Fld := ⟨329, 32, 16, .rc, 0, .reset, .any⟩
def TRK_MSEC_CNT_LATE : Fld := ⟨330, 48, 16, .rc, 0, .reset, .any⟩
def CRS_CTRL_START : Fld := ⟨331, 0, 1, .wo, 0, .reset, .cc⟩
def CRS_CTRL_STOP : Fld := ⟨332, 1, 1, .wo, 0, .reset, .cc⟩
def CRS_CTRL_HALT_PORTS : Fld := ⟨333, 2, 1, .rw, 1, .keep, .cc⟩
def CRS_CTRL_WDOG_N : Fld := ⟨334, 8, 8, .rw, 0, .reset, .cc⟩
def CRS_CTRL_WDOG_KICK : Fld := ⟨335, 16, 1, .wo, 0, .reset, .any⟩
def CRS_STAT_STATE : Fld := ⟨336, 0, 2, .ro, 0, .hw, .any⟩
def CRS_STAT_HALT_WHY : Fld := ⟨337, 2, 2, .ro, 0, .hw, .any⟩
def CRS_STAT_ECC_CORR : Fld := ⟨338, 16, 16, .rc, 0, .reset, .any⟩
def CRS_IDENT_INST : Fld := ⟨339, 0, 4, .rw, 0, .keep, .cc⟩
def CRS_IDENT_RANK : Fld := ⟨340, 4, 5, .rw, 0, .keep, .cc⟩
def CRS_IDENT_SIZE : Fld := ⟨341, 9, 6, .rw, 0, .keep, .cc⟩
def CRS_OWN_PORTS : Fld := ⟨342, 0, 32, .rw, 0, .keep, .cc⟩
def CRS_RIGHTS_TMB_SAMPLE : Fld := ⟨343, 0, 1, .rw, 0, .keep, .cc⟩
def CRS_RIGHTS_FRT : Fld := ⟨344, 1, 1, .rw, 0, .keep, .cc⟩
def CRS_RIGHTS_AMB : Fld := ⟨345, 2, 1, .rw, 0, .keep, .cc⟩
def CRS_RIGHTS_TTB : Fld := ⟨346, 3, 1, .rw, 0, .keep, .cc⟩
def CRS_RIGHTS_FIO_MKC : Fld := ⟨347, 4, 1, .rw, 0, .keep, .cc⟩
def CRS_RIGHTS_TRANSOM : Fld := ⟨348, 5, 1, .rw, 0, .keep, .cc⟩
def CRS_RIGHTS_HOSTMEM : Fld := ⟨349, 6, 1, .rw, 0, .keep, .cc⟩
def CRS_RIGHTS_LEDGER_READ : Fld := ⟨350, 7, 1, .rw, 0, .keep, .cc⟩
def CRS_XLT_CTX : Fld := ⟨351, 0, 6, .rw, 0, .keep, .cc⟩
def CRS_XLT_EN : Fld := ⟨352, 6, 1, .rw, 0, .keep, .cc⟩
def CRS_EVT_EN_EN : Fld := ⟨353, 0, 64, .rw, 0, .reset, .any⟩
def CRS_EVT_LVL_URGENT : Fld := ⟨354, 0, 64, .rw, 0, .reset, .any⟩
def CRS_EVT_PEND_PEND : Fld := ⟨355, 0, 64, .w1c, 0, .reset, .any⟩
def CRS_EVT_DUP_DUP : Fld := ⟨356, 0, 64, .w1c, 0, .reset, .any⟩
def CRS_TCMP_NS : Fld := ⟨357, 0, 32, .rw, 0, .keep, .any⟩
def CRS_TCMP_FRAC : Fld := ⟨358, 32, 8, .rw, 0, .keep, .any⟩
def CRS_TCMP_DOM : Fld := ⟨359, 40, 4, .rw, 0, .keep, .any⟩
def CRS_TCMP_ARM : Fld := ⟨360, 44, 1, .rw, 0, .reset, .any⟩
def CRS_TCMP_FIRED : Fld := ⟨361, 45, 1, .w1c, 0, .reset, .any⟩
def CRS_SWEVT_RAISE : Fld := ⟨362, 0, 3, .wo, 0, .reset, .any⟩
def CRS_BUSY_BUSY_LAST : Fld := ⟨363, 0, 23, .ro, 0, .hw, .any⟩
def CRS_BUSY_BUSY_MAX : Fld := ⟨364, 32, 23, .rc, 0, .reset, .any⟩
def CRS_STALL_STALL_CYC : Fld := ⟨365, 0, 32, .rc, 0, .reset, .any⟩
def CRS_STALL_RETRY : Fld := ⟨366, 32, 16, .rc, 0, .reset, .any⟩
def CRS_STALL_RETRY_WAIT : Fld := ⟨367, 48, 16, .rc, 0, .reset, .any⟩
def CRS_FAULT_ADDR : Fld := ⟨368, 0, 40, .ro, 0, .hw, .any⟩
def CRS_FAULT_KIND : Fld := ⟨369, 40, 4, .ro, 0, .hw, .any⟩
def CRS_FAULT_VALID : Fld := ⟨370, 63, 1, .w1c, 0, .reset, .any⟩
def CRS_TXR_CFG_BASE : Fld := ⟨371, 0, 20, .rw, 0, .keep, .cc⟩
def CRS_TXR_CFG_LOG2 : Fld := ⟨372, 20, 4, .rw, 4, .keep, .cc⟩
def CRS_TXR_CFG_RXBUF : Fld := ⟨373, 24, 8, .rw, 0, .keep, .cc⟩
def CRS_RXR_CFG_BASE : Fld := ⟨374, 0, 20, .rw, 0, .keep, .cc⟩
def CRS_RXR_CFG_LOG2 : Fld := ⟨375, 20, 4, .rw, 4, .keep, .cc⟩
def CRS_RXR_CFG_RXBUF : Fld := ⟨376, 24, 8, .rw, 0, .keep, .cc⟩
def CRS_TXR_PTR_TAIL : Fld := ⟨377, 0, 12, .rw, 0, .reset, .any⟩
def CRS_TXR_PTR_HEAD : Fld := ⟨378, 16, 12, .ro, 0, .reset, .any⟩
def CRS_RXR_PTR_TAIL : Fld := ⟨379, 0, 12, .rw, 0, .reset, .any⟩
def CRS_RXR_PTR_HEAD : Fld := ⟨380, 16, 12, .ro, 0, .reset, .any⟩
def CRS_RING_CNT_RX_TOOBIG : Fld := ⟨381, 0, 16, .rc, 0, .reset, .any⟩
def CRS_RING_CNT_TX_BAD : Fld := ⟨382, 16, 16, .rc, 0, .reset, .any⟩
def CRS_MSG_DATA : Fld := ⟨383, 0, 32, .rw, 0, .keep, .any⟩
def CRS_MSG_SEND_QUEUE : Fld := ⟨384, 0, 6, .wo, 0, .reset, .any⟩
def CRS_MSG_STAT_FULL : Fld := ⟨385, 0, 1, .ro, 0, .hw, .any⟩
def CRS_MSG_STAT_FULL_CNT : Fld := ⟨386, 16, 16, .rc, 0, .reset, .any⟩
def CRS_Q_POP_QUEUE : Fld := ⟨387, 0, 6, .wo, 0, .reset, .any⟩
def CRS_HOOK_TAG : Fld := ⟨388, 0, 8, .rw, 0, .reset, .any⟩
def CRS_HOOK_SET : Fld := ⟨389, 8, 1, .wo, 0, .reset, .any⟩
def CRS_HOOK_LEN : Fld := ⟨390, 16, 7, .ro, 0, .hw, .any⟩
def CRS_HOOK_WR_DATA : Fld := ⟨391, 0, 32, .wo, 0, .reset, .any⟩
def CRS_HOOK_WR_OFF : Fld := ⟨392, 32, 14, .wo, 0, .reset, .any⟩
def CRS_HOOK_WR_PORT : Fld := ⟨393, 48, 5, .wo, 0, .reset, .any⟩
def CRS_HOOK_WR_BYTE_EN : Fld := ⟨394, 53, 4, .wo, 0, .reset, .any⟩
def CRS_Q_CFG_BASE : Fld := ⟨395, 0, 20, .rw, 0, .keep, .cc⟩
def CRS_Q_CFG_LOG2 : Fld := ⟨396, 20, 4, .rw, 4, .keep, .cc⟩
def CRS_Q_CFG_CONSUMER : Fld := ⟨397, 24, 6, .rw, 32, .keep, .cc⟩
def CRS_Q_CFG_EN : Fld := ⟨398, 30, 1, .rw, 0, .reset, .cc⟩
def CRS_Q_PTR_HEAD : Fld := ⟨399, 0, 12, .ro, 0, .reset, .any⟩
def CRS_Q_PTR_TAIL : Fld := ⟨400, 16, 12, .ro, 0, .reset, .any⟩
def CRS_GSTART_MASK : Fld := ⟨401, 0, 32, .rw, 0, .reset, .cc⟩
def CRS_GSTART_AT : Fld := ⟨402, 32, 32, .rw, 0, .reset, .cc⟩
def CRS_DIR_CNT_RETRY : Fld := ⟨403, 0, 32, .rc, 0, .reset, .any⟩
def CRS_DIR_CNT_BACKINV : Fld := ⟨404, 32, 32, .rc, 0, .reset, .any⟩
def FRT_GMASK_MASK : Fld := ⟨405, 0, 64, .rw, 0, .reset, .any⟩
def FRT_GSTART_AT : Fld := ⟨406, 0, 32, .rw, 0, .reset, .any⟩
def FRT_PIN_MODE : Fld := ⟨407, 0, 2, .rw, 0, .keep, .any⟩
def FRT_PIN_FRET : Fld := ⟨408, 2, 6, .rw, 0, .keep, .any⟩
def FRT_PIN_SLOT : Fld := ⟨409, 8, 3, .rw, 0, .keep, .any⟩
def FRT_PIN_OE_SLOT : Fld := ⟨410, 11, 3, .rw, 0, .keep, .any⟩
def FRT_PIN_DRIVE : Fld := ⟨411, 14, 2, .rw, 1, .keep, .any⟩
def FRT_PIN_PULL : Fld := ⟨412, 16, 2, .rw, 0, .keep, .any⟩
def FRT_CTRL_START : Fld := ⟨413, 0, 1, .wo, 0, .reset, .any⟩
def FRT_CTRL_STOP : Fld := ⟨414, 1, 1, .wo, 0, .reset, .any⟩
def FRT_CTRL_QFLUSH : Fld := ⟨415, 2, 1, .wo, 0, .reset, .any⟩
def FRT_STAT_RUN : Fld := ⟨416, 0, 1, .ro, 0, .reset, .any⟩
def FRT_STAT_STALLED : Fld := ⟨417, 1, 1, .ro, 0, .reset, .any⟩
def FRT_STAT_STOP_WHY : Fld := ⟨418, 2, 2, .ro, 0, .hw, .any⟩
def FRT_STAT_STATE : Fld := ⟨419, 8, 6, .ro, 0, .hw, .any⟩
def FRT_STAT_F0 : Fld := ⟨420, 16, 1, .ro, 0, .hw, .any⟩
def FRT_STAT_F1 : Fld := ⟨421, 17, 1, .ro, 0, .hw, .any⟩
def FRT_STAT_TM : Fld := ⟨422, 18, 1, .ro, 0, .hw, .any⟩
def FRT_STAT_WR_IGN : Fld := ⟨423, 24, 1, .w1c, 0, .reset, .any⟩
def FRT_STAT_TXQ_OVF : Fld := ⟨424, 25, 1, .w1c, 0, .reset, .any⟩
def FRT_STAT_RXQ_UNF : Fld := ⟨425, 26, 1, .w1c, 0, .reset, .any⟩
def FRT_CFG_INIT_STATE : Fld := ⟨426, 0, 6, .rw, 0, .keep, .any⟩
def FRT_CFG_QJOIN : Fld := ⟨427, 6, 2, .rw, 0, .keep, .any⟩
def FRT_CFG_SHIFT_DIR : Fld := ⟨428, 8, 1, .rw, 0, .keep, .any⟩
def FRT_CFG_SHIFT_LEN : Fld := ⟨429, 9, 5, .rw, 0, .keep, .any⟩
def FRT_CFG_SFILL : Fld := ⟨430, 14, 1, .rw, 0, .keep, .any⟩
def FRT_CFG_SOUT_EN : Fld := ⟨431, 15, 1, .rw, 0, .keep, .any⟩
def FRT_CFG_SOUT_SLOT : Fld := ⟨432, 16, 3, .rw, 0, .keep, .any⟩
def FRT_CFG_SIN_SLOT : Fld := ⟨433, 19, 3, .rw, 0, .keep, .any⟩
def FRT_CFG_STOP_SAFE : Fld := ⟨434, 22, 1, .rw, 1, .keep, .any⟩
def FRT_CFG_SAFE : Fld := ⟨435, 24, 8, .rw, 0, .keep, .any⟩
def FRT_RELOAD_RELOAD0 : Fld := ⟨436, 0, 16, .rw, 0, .keep, .any⟩
def FRT_RELOAD_RELOAD1 : Fld := ⟨437, 16, 16, .rw, 0, .keep, .any⟩
def FRT_QCFG_TX_LOW : Fld := ⟨438, 0, 4, .rw, 0, .keep, .any⟩
def FRT_QCFG_RX_HIGH : Fld := ⟨439, 4, 4, .rw, 1, .keep, .any⟩
def FRT_INSEL_IN0 : Fld := ⟨440, 0, 8, .rw, 255, .keep, .any⟩
def FRT_INSEL_IN1 : Fld := ⟨441, 8, 8, .rw, 255, .keep, .any⟩
def FRT_INSEL_IN2 : Fld := ⟨442, 16, 8, .rw, 255, .keep, .any⟩
def FRT_INSEL_IN3 : Fld := ⟨443, 24, 8, .rw, 255, .keep, .any⟩
def FRT_INSEL_IN4 : Fld := ⟨444, 32, 8, .rw, 255, .keep, .any⟩
def FRT_INSEL_IN5 : Fld := ⟨445, 40, 8, .rw, 255, .keep, .any⟩
def FRT_INSEL_IN6 : Fld := ⟨446, 48, 8, .rw, 255, .keep, .any⟩
def FRT_INSEL_IN7 : Fld := ⟨447, 56, 8, .rw, 255, .keep, .any⟩
def FRT_TCMP_NS : Fld := ⟨448, 0, 32, .rw, 0, .keep, .any⟩
def FRT_TCMP_FRAC : Fld := ⟨449, 32, 8, .rw, 0, .keep, .any⟩
def FRT_TCMP_DOM : Fld := ⟨450, 40, 4, .rw, 0, .keep, .any⟩
def FRT_TCMP_ARM : Fld := ⟨451, 44, 1, .rw, 0, .reset, .any⟩
def FRT_TSTEP_STEP : Fld := ⟨452, 0, 32, .rw, 0, .keep, .any⟩
def FRT_TXQ_DATA : Fld := ⟨453, 0, 32, .wo, 0, .reset, .any⟩
def FRT_RXQ_DATA : Fld := ⟨454, 0, 32, .rc, 0, .reset, .any⟩
def FRT_QSTAT_TX_CNT : Fld := ⟨455, 0, 4, .ro, 0, .hw, .any⟩
def FRT_QSTAT_RX_CNT : Fld := ⟨456, 4, 4, .ro, 0, .hw, .any⟩
def FRT_DBG_CNT : Fld := ⟨457, 0, 16, .ro, 0, .hw, .any⟩
def FRT_DBG_BITCNT : Fld := ⟨458, 16, 6, .ro, 0, .hw, .any⟩
def FRT_DBG_SR : Fld := ⟨459, 32, 32, .ro, 0, .hw, .any⟩
def FRT_CNT_STALL_CYC : Fld := ⟨460, 0, 32, .rc, 0, .reset, .any⟩
def FRT_CNT_STALLS : Fld := ⟨461, 32, 16, .rc, 0, .reset, .any⟩
def FRT_CNT_WR_IGN_CNT : Fld := ⟨462, 48, 16, .rc, 0, .reset, .any⟩
def FRT_SSEL_SEL0 : Fld := ⟨463, 0, 4, .rw, 0, .keep, .any⟩
def FRT_SSEL_SEL1 : Fld := ⟨464, 4, 4, .rw, 0, .keep, .any⟩
def FRT_SSEL_SEL2 : Fld := ⟨465, 8, 4, .rw, 0, .keep, .any⟩
def FRT_SSEL_SEL3 : Fld := ⟨466, 12, 4, .rw, 0, .keep, .any⟩
def FRT_SSEL_USE : Fld := ⟨467, 16, 4, .rw, 0, .keep, .any⟩
def AMB_CH_CTRL_MODE : Fld := ⟨468, 0, 3, .rw, 0, .reset, .any⟩
def AMB_CH_CFG_FD_EN : Fld := ⟨469, 0, 1, .rw, 0, .keep, .any⟩
def AMB_CH_CFG_PXHD : Fld := ⟨470, 1, 1, .rw, 0, .keep, .any⟩
def AMB_CH_CFG_TRIPLE : Fld := ⟨471, 2, 1, .rw, 0, .keep, .any⟩
def AMB_CH_CFG_AUTO_RECOVER : Fld := ⟨472, 3, 1, .rw, 1, .keep, .any⟩
def AMB_CH_CFG_ABORT_BUSOFF : Fld := ⟨473, 4, 1, .rw, 0, .keep, .any⟩
def AMB_CH_CFG_SELF_RX : Fld := ⟨474, 5, 1, .rw, 0, .keep, .any⟩
def AMB_CH_CFG_NOMATCH_EN : Fld := ⟨475, 6, 1, .rw, 0, .keep, .any⟩
def AMB_CH_CFG_NOMATCH_Q : Fld := ⟨476, 7, 2, .rw, 0, .keep, .any⟩
def AMB_CH_CFG_DOM : Fld := ⟨477, 9, 4, .rw, 0, .keep, .any⟩
def AMB_CH_CFG_TDC_EN : Fld := ⟨478, 13, 1, .rw, 0, .keep, .any⟩
def AMB_NBT_NBRP_M1 : Fld := ⟨479, 0, 8, .rw, 0, .keep, .any⟩
def AMB_NBT_NTSEG1_M1 : Fld := ⟨480, 8, 8, .rw, 126, .keep, .any⟩
def AMB_NBT_NTSEG2_M1 : Fld := ⟨481, 16, 7, .rw, 31, .keep, .any⟩
def AMB_NBT_NSJW_M1 : Fld := ⟨482, 23, 7, .rw, 31, .keep, .any⟩
def AMB_DBT_DBRP_M1 : Fld := ⟨483, 0, 5, .rw, 0, .keep, .any⟩
def AMB_DBT_DTSEG1_M1 : Fld := ⟨484, 8, 5, .rw, 28, .keep, .any⟩
def AMB_DBT_DTSEG2_M1 : Fld := ⟨485, 16, 4, .rw, 9, .keep, .any⟩
def AMB_DBT_DSJW_M1 : Fld := ⟨486, 24, 4, .rw, 9, .keep, .any⟩
def AMB_TDC_TDCO : Fld := ⟨487, 0, 7, .rw, 30, .keep, .any⟩
def AMB_TDC_TDCV : Fld := ⟨488, 8, 7, .ro, 0, .hw, .any⟩
def AMB_TDC_SAT : Fld := ⟨489, 15, 1, .w1c, 0, .reset, .any⟩
def AMB_CH_STAT_STATE : Fld := ⟨490, 0, 3, .ro, 0, .hw, .any⟩
def AMB_CH_STAT_FAULT : Fld := ⟨491, 3, 2, .ro, 0, .hw, .any⟩
def AMB_CH_STAT_CLAIMED : Fld := ⟨492, 5, 1, .ro, 1, .hw, .any⟩
def AMB_CH_STAT_PRIV : Fld := ⟨493, 6, 1, .ro, 0, .hw, .any⟩
def AMB_CH_STAT_CFG_ERR : Fld := ⟨494, 7, 1, .w1c, 0, .reset, .any⟩
def AMB_CH_STAT_WR_IGN : Fld := ⟨495, 8, 1, .w1c, 0, .reset, .any⟩
def AMB_CH_STAT_WOKE : Fld := ⟨496, 9, 1, .w1c, 0, .reset, .any⟩
def AMB_ERRC_TEC : Fld := ⟨497, 0, 8, .ro, 0, .hw, .any⟩
def AMB_ERRC_REC : Fld := ⟨498, 8, 8, .ro, 0, .hw, .any⟩
def AMB_ERRC_LEC : Fld := ⟨499, 16, 3, .ro, 0, .hw, .any⟩
def AMB_TXB_CFG_BASE : Fld := ⟨500, 0, 20, .rw, 0, .keep, .any⟩
def AMB_TX_REQ_REQ : Fld := ⟨501, 0, 32, .w1s, 0, .reset, .any⟩
def AMB_TX_CANCEL_CANCEL : Fld := ⟨502, 0, 32, .w1s, 0, .reset, .any⟩
def AMB_TX_PEND_PEND : Fld := ⟨503, 0, 32, .ro, 0, .reset, .any⟩
def AMB_TX_DONE_DONE : Fld := ⟨504, 0, 32, .w1c, 0, .reset, .any⟩
def AMB_RXQ_CFG_BASE : Fld := ⟨505, 0, 20, .rw, 0, .keep, .any⟩
def AMB_RXQ_CFG_LOG2 : Fld := ⟨506, 20, 4, .rw, 4, .keep, .any⟩
def AMB_RXQ_CFG_EN : Fld := ⟨507, 24, 1, .rw, 0, .keep, .any⟩
def AMB_RXQ_PTR_HEAD : Fld := ⟨508, 0, 10, .ro, 0, .reset, .any⟩
def AMB_RXQ_PTR_COUNT : Fld := ⟨509, 10, 11, .ro, 0, .reset, .any⟩
def AMB_RXQ_PTR_OVR : Fld := ⟨510, 21, 1, .w1c, 0, .reset, .any⟩
def AMB_RXQ_PTR_ACK_ERR : Fld := ⟨511, 22, 1, .w1c, 0, .reset, .any⟩
def AMB_RXQ_ACK_N : Fld := ⟨512, 0, 11, .wo, 0, .reset, .any⟩
def AMB_WAKE_ID_ID : Fld := ⟨513, 0, 29, .rw, 0, .keep, .any⟩
def AMB_WAKE_ID_IDE : Fld := ⟨514, 29, 1, .rw, 0, .keep, .any⟩
def AMB_WAKE_ID_MASK : Fld := ⟨515, 32, 29, .rw, 0, .keep, .any⟩
def AMB_WAKE_DATA_DATA : Fld := ⟨516, 0, 64, .rw, 0, .keep, .any⟩
def AMB_WAKE_DMASK_DATA : Fld := ⟨517, 0, 64, .rw, 0, .keep, .any⟩
def AMB_REF_CFG_ROLE : Fld := ⟨518, 0, 2, .rw, 0, .keep, .any⟩
def AMB_REF_CFG_REF_TIME : Fld := ⟨519, 2, 1, .rw, 0, .keep, .any⟩
def AMB_REF_CFG_CYC_MAX : Fld := ⟨520, 3, 6, .rw, 0, .keep, .any⟩
def AMB_REF_CFG_REF_ID : Fld := ⟨521, 9, 11, .rw, 0, .keep, .any⟩
def AMB_REF_CFG_LATE_MAX : Fld := ⟨522, 20, 12, .rw, 100, .keep, .any⟩
def AMB_REF_PERIOD_PERIOD : Fld := ⟨523, 0, 23, .rw, 25000, .keep, .any⟩
def AMB_REF_BASE_BASE : Fld := ⟨524, 0, 32, .rw, 0, .keep, .any⟩
def AMB_REF_STAT_CYCLE : Fld := ⟨525, 0, 6, .ro, 0, .hw, .any⟩
def AMB_REF_STAT_LAST_LATE : Fld := ⟨526, 16, 16, .ro, 0, .hw, .any⟩
def AMB_REF_TS_NS : Fld := ⟨527, 0, 32, .ro, 0, .hw, .any⟩
def AMB_REF_TS_FRAC : Fld := ⟨528, 32, 8, .ro, 0, .hw, .any⟩
def AMB_CNT0_TX_OK : Fld := ⟨529, 0, 32, .rc, 0, .reset, .any⟩
def AMB_CNT0_ARB_LOST : Fld := ⟨530, 32, 16, .rc, 0, .reset, .any⟩
def AMB_CNT0_ERR_FRAMES : Fld := ⟨531, 48, 16, .rc, 0, .reset, .any⟩
def AMB_CNT1_RX_OK : Fld := ⟨532, 0, 32, .rc, 0, .reset, .any⟩
def AMB_CNT1_RX_OVR : Fld := ⟨533, 32, 16, .rc, 0, .reset, .any⟩
def AMB_CNT1_PROTO_EXC : Fld := ⟨534, 48, 8, .rc, 0, .reset, .any⟩
def AMB_CNT1_TX_LATE_DROP : Fld := ⟨535, 56, 8, .rc, 0, .reset, .any⟩
def AMB_FLT_ID : Fld := ⟨536, 0, 29, .rw, 0, .keep, .any⟩
def AMB_FLT_IDE : Fld := ⟨537, 29, 1, .rw, 0, .keep, .any⟩
def AMB_FLT_VALID : Fld := ⟨538, 30, 1, .rw, 0, .keep, .any⟩
def AMB_FLT_REJECT : Fld := ⟨539, 31, 1, .rw, 0, .keep, .any⟩
def AMB_FLT_MASK : Fld := ⟨540, 32, 29, .rw, 0, .keep, .any⟩
def AMB_FLT_QUEUE : Fld := ⟨541, 61, 2, .rw, 0, .keep, .any⟩
def AMB_AO_CFG_EDGE_EN : Fld := ⟨542, 0, 16, .rw, 0, .keep, .any⟩
def AMB_AO_CFG_WUP_MIN : Fld := ⟨543, 16, 8, .rw, 50, .keep, .any⟩
def AMB_AO_CFG_AUTO_ON : Fld := ⟨544, 24, 1, .rw, 0, .keep, .any⟩
def AMB_AO_STAT_WOKE : Fld := ⟨545, 0, 16, .w1c, 0, .keep, .any⟩
def TTB_CL_T0_MT_UT : Fld := ⟨546, 0, 9, .rw, 80, .keep, .any⟩
def TTB_CL_T0_MPC : Fld := ⟨547, 16, 14, .rw, 1000, .keep, .any⟩
def TTB_CL_T1_STATIC_SLOTS : Fld := ⟨548, 0, 10, .rw, 2, .keep, .any⟩
def TTB_CL_T1_SLOT_MT : Fld := ⟨549, 10, 10, .rw, 4, .keep, .any⟩
def TTB_CL_T1_STATIC_PLEN : Fld := ⟨550, 20, 7, .rw, 0, .keep, .any⟩
def TTB_CL_T2_MINISLOTS : Fld := ⟨551, 0, 13, .rw, 0, .keep, .any⟩
def TTB_CL_T2_MINISLOT_MT : Fld := ⟨552, 13, 6, .rw, 2, .keep, .any⟩
def TTB_CL_T2_MS_AP : Fld := ⟨553, 19, 5, .rw, 1, .keep, .any⟩
def TTB_CL_T2_AP_OFF : Fld := ⟨554, 24, 6, .rw, 1, .keep, .any⟩
def TTB_CL_T3_SYMWIN_MT : Fld := ⟨555, 0, 8, .rw, 0, .keep, .any⟩
def TTB_CL_T3_NIT_MT : Fld := ⟨556, 8, 10, .rw, 2, .keep, .any⟩
def TTB_CL_T3_OFFCORR_START : Fld := ⟨557, 18, 14, .rw, 9, .keep, .any⟩
def TTB_CL_T4_LATEST_TX : Fld := ⟨558, 0, 13, .rw, 0, .keep, .any⟩
def TTB_CL_T4_TSS_BITS : Fld := ⟨559, 13, 4, .rw, 11, .keep, .any⟩
def TTB_CL_T4_COLD_ATT : Fld := ⟨560, 17, 5, .rw, 8, .keep, .any⟩
def TTB_CL_T4_LISTEN_NOISE : Fld := ⟨561, 22, 4, .rw, 2, .keep, .any⟩
def TTB_CL_T4_WU_PAT : Fld := ⟨562, 26, 6, .rw, 50, .keep, .any⟩
def TTB_CL_SYNC_OFFSET_OUT : Fld := ⟨563, 0, 14, .rw, 15, .keep, .any⟩
def TTB_CL_SYNC_RATE_OUT : Fld := ⟨564, 14, 11, .rw, 2, .keep, .any⟩
def TTB_CL_SYNC_PASSIVE_LIM : Fld := ⟨565, 25, 4, .rw, 1, .keep, .any⟩
def TTB_CL_SYNC2_FATAL_LIM : Fld := ⟨566, 0, 4, .rw, 2, .keep, .any⟩
def TTB_CL_SYNC2_SYNC_MAX : Fld := ⟨567, 4, 4, .rw, 15, .keep, .any⟩
def TTB_CL_SYNC2_LISTEN_TO : Fld := ⟨568, 8, 21, .rw, 1926, .keep, .any⟩
def TTB_KEY_KEY_ID : Fld := ⟨569, 0, 11, .rw, 0, .keep, .any⟩
def TTB_KEY_SYNC : Fld := ⟨570, 11, 1, .rw, 0, .keep, .any⟩
def TTB_KEY_STARTUP : Fld := ⟨571, 12, 1, .rw, 0, .keep, .any⟩
def TTB_KEY_KEY_BUF : Fld := ⟨572, 13, 7, .rw, 0, .keep, .any⟩
def TTB_KEY_SINGLE_SLOT : Fld := ⟨573, 20, 1, .rw, 0, .keep, .any⟩
def TTB_KEY_CH : Fld := ⟨574, 21, 2, .rw, 3, .keep, .any⟩
def TTB_KEY_WU_CH : Fld := ⟨575, 23, 1, .rw, 0, .keep, .any⟩
def TTB_BUF_CFG_BASE : Fld := ⟨576, 0, 20, .rw, 0, .keep, .any⟩
def TTB_POC_CMD_CMD : Fld := ⟨577, 0, 4, .wo, 0, .reset, .any⟩
def TTB_POC_STAT_STATE : Fld := ⟨578, 0, 3, .ro, 0, .hw, .any⟩
def TTB_POC_STAT_CMD_IGN : Fld := ⟨579, 3, 1, .w1c, 0, .reset, .any⟩
def TTB_POC_STAT_CFG_ERR : Fld := ⟨580, 4, 1, .w1c, 0, .reset, .any⟩
def TTB_POC_STAT_WU_RESULT : Fld := ⟨581, 5, 3, .ro, 0, .hw, .any⟩
def TTB_POC_STAT_CYCLE : Fld := ⟨582, 8, 6, .ro, 0, .hw, .any⟩
def TTB_POC_STAT_CLAIMED : Fld := ⟨583, 14, 1, .ro, 1, .hw, .any⟩
def TTB_POC_STAT_COLD_FAIL : Fld := ⟨584, 15, 1, .w1c, 0, .reset, .any⟩
def TTB_SYNC_STAT_OFFSET : Fld := ⟨585, 0, 16, .ro, 0, .hw, .any⟩
def TTB_SYNC_STAT_RATE : Fld := ⟨586, 16, 12, .ro, 0, .hw, .any⟩
def TTB_SYNC_STAT_NSYNC : Fld := ⟨587, 28, 4, .ro, 0, .hw, .any⟩
def TTB_ALIGN_EN : Fld := ⟨588, 0, 1, .rw, 0, .reset, .any⟩
def TTB_ALIGN_DOM : Fld := ⟨589, 1, 4, .rw, 0, .keep, .any⟩
def TTB_ALIGN_DB : Fld := ⟨590, 5, 10, .rw, 100, .keep, .any⟩
def TTB_ALIGN_DB_RATE : Fld := ⟨591, 15, 10, .rw, 25, .keep, .any⟩
def TTB_ALIGN_BASE : Fld := ⟨592, 32, 32, .rw, 0, .keep, .any⟩
def TTB_ALIGN_EXT_EXT_OFF : Fld := ⟨593, 0, 5, .rw, 0, .keep, .any⟩
def TTB_ALIGN_EXT_EXT_RATE : Fld := ⟨594, 5, 5, .rw, 0, .keep, .any⟩
def TTB_ALIGN_EXT_ALIGN_MAX : Fld := ⟨595, 10, 20, .rw, 1000, .keep, .any⟩
def TTB_ALIGN_STAT_DEV : Fld := ⟨596, 0, 24, .ro, 0, .hw, .any⟩
def TTB_ALIGN_STAT_OFF_CTL : Fld := ⟨597, 24, 2, .ro, 0, .hw, .any⟩
def TTB_ALIGN_STAT_RATE_CTL : Fld := ⟨598, 26, 2, .ro, 0, .hw, .any⟩
def TTB_CYC_TS_NS : Fld := ⟨599, 0, 32, .ro, 0, .hw, .any⟩
def TTB_CYC_TS_FRAC : Fld := ⟨600, 32, 8, .ro, 0, .hw, .any⟩
def TTB_CYC_TS_CYCLE : Fld := ⟨601, 40, 6, .ro, 0, .hw, .any⟩
def TTB_MODE_CTRL_START_MODE : Fld := ⟨602, 0, 3, .rw, 0, .keep, .any⟩
def TTB_MODE_CTRL_AGREE_EN : Fld := ⟨603, 3, 1, .rw, 0, .keep, .any⟩
def TTB_MODE_CTRL_REQ_MODE : Fld := ⟨604, 4, 3, .rw, 0, .keep, .any⟩
def TTB_MODE_CTRL_REQ : Fld := ⟨605, 7, 1, .wo, 0, .reset, .any⟩
def TTB_MODE_CTRL_VETO : Fld := ⟨606, 8, 8, .rw, 0, .keep, .any⟩
def TTB_MODE_CTRL_MODE_OFF : Fld := ⟨607, 16, 8, .rw, 0, .keep, .any⟩
def TTB_MODE_VALID_VALID : Fld := ⟨608, 0, 8, .rw, 0, .keep, .any⟩
def TTB_MODE_VALID_FAIL : Fld := ⟨609, 8, 8, .w1c, 0, .reset, .any⟩
def TTB_MODE_STAT_ACTIVE : Fld := ⟨610, 0, 3, .ro, 0, .hw, .any⟩
def TTB_MODE_STAT_PEND : Fld := ⟨611, 3, 1, .ro, 0, .hw, .any⟩
def TTB_MODE_STAT_TARGET : Fld := ⟨612, 4, 3, .ro, 0, .hw, .any⟩
def TTB_MODE_STAT_REQ_CYC : Fld := ⟨613, 8, 6, .ro, 0, .hw, .any⟩
def TTB_CNT0_NULL_SENT : Fld := ⟨614, 0, 16, .rc, 0, .reset, .any⟩
def TTB_CNT0_DYN_MISSED : Fld := ⟨615, 16, 16, .rc, 0, .reset, .any⟩
def TTB_CNT0_SLOT_ERR : Fld := ⟨616, 32, 16, .rc, 0, .reset, .any⟩
def TTB_CNT0_CH_DIFF : Fld := ⟨617, 48, 16, .rc, 0, .reset, .any⟩
def TTB_CNT1_MODE_SWITCH : Fld := ⟨618, 0, 8, .rc, 0, .reset, .any⟩
def TTB_CNT1_MODE_LAPSED : Fld := ⟨619, 8, 8, .rc, 0, .reset, .any⟩
def TTB_CNT1_MODE_MISMATCH : Fld := ⟨620, 16, 8, .rc, 0, .reset, .any⟩
def TTB_CNT1_WR_IGN : Fld := ⟨621, 24, 8, .rc, 0, .reset, .any⟩
def TTB_CNT1_SYNC_ERR : Fld := ⟨622, 32, 16, .rc, 0, .reset, .any⟩
def TTB_AO_CFG_EDGE_EN : Fld := ⟨623, 0, 8, .rw, 0, .keep, .any⟩
def TTB_AO_CFG_WUP_MIN : Fld := ⟨624, 8, 8, .rw, 10, .keep, .any⟩
def TTB_AO_CFG_AUTO_ON : Fld := ⟨625, 16, 1, .rw, 0, .keep, .any⟩
def TTB_AO_STAT_WOKE : Fld := ⟨626, 0, 8, .w1c, 0, .keep, .any⟩
def FIO_CTRL_EN : Fld := ⟨627, 0, 1, .rw, 0, .reset, .any⟩
def FIO_CTRL_DOM : Fld := ⟨628, 4, 4, .rwl, 0, .keep, .any⟩
def FIO_CTRL_SAMPLE_PER : Fld := ⟨629, 8, 10, .rw, 250, .keep, .any⟩
def FIO_CTRL_LOCK : Fld := ⟨630, 31, 1, .w1s, 0, .keep, .any⟩
def FIO_SBASE_SBASE : Fld := ⟨631, 0, 32, .rw, 0, .keep, .any⟩
def FIO_STAT_ISL_UP : Fld := ⟨632, 0, 1, .ro, 0, .hw, .any⟩
def FIO_STAT_CLAIMED : Fld := ⟨633, 1, 1, .ro, 1, .hw, .any⟩
def FIO_WDOG_N : Fld := ⟨634, 0, 8, .rw, 0, .reset, .any⟩
def FIO_WDOG_KICK : Fld := ⟨635, 8, 1, .wo, 0, .reset, .any⟩
def FIO_IN_IN : Fld := ⟨636, 0, 32, .ro, 0, .hw, .any⟩
def FIO_IN_SNAP_IN : Fld := ⟨637, 0, 32, .ro, 0, .hw, .any⟩
def FIO_IN_WB_IN : Fld := ⟨638, 0, 32, .ro, 0, .hw, .any⟩
def FIO_IN_WBL_WBL : Fld := ⟨639, 0, 32, .w1c, 0, .reset, .any⟩
def FIO_CPL_IN : Fld := ⟨640, 0, 32, .ro, 0, .hw, .any⟩
def FIO_CPL_OUT : Fld := ⟨641, 32, 16, .ro, 0, .hw, .any⟩
def FIO_OUT_VALUE : Fld := ⟨642, 0, 16, .rw, 0, .reset, .any⟩
def FIO_OUT_ST_DRIVEN : Fld := ⟨643, 0, 16, .ro, 0, .hw, .any⟩
def FIO_OUT_FLT_SHORT : Fld := ⟨644, 0, 16, .w1c, 0, .keep, .any⟩
def FIO_OUT_FLT_OPEN : Fld := ⟨645, 16, 16, .w1c, 0, .keep, .any⟩
def FIO_OUT_FLT_SAFE : Fld := ⟨646, 32, 16, .w1c, 65535, .hw, .any⟩
def FIO_OUT_OFFS_OFFSET : Fld := ⟨647, 0, 23, .rw, 0, .keep, .any⟩
def FIO_CNT_WB_CNT : Fld := ⟨648, 0, 16, .rc, 0, .reset, .any⟩
def FIO_CNT_SHORT_CNT : Fld := ⟨649, 16, 16, .rc, 0, .reset, .any⟩
def FIO_CNT_CPL_CNT : Fld := ⟨650, 32, 16, .rc, 0, .reset, .any⟩
def FIO_CNT_WDOG_CNT : Fld := ⟨651, 48, 16, .rc, 0, .reset, .any⟩
def FIO_IN_CFG_TYPE : Fld := ⟨652, 0, 1, .rw, 1, .keep, .any⟩
def FIO_IN_CFG_INVERT : Fld := ⟨653, 1, 1, .rw, 0, .keep, .any⟩
def FIO_IN_CFG_FILT_N : Fld := ⟨654, 2, 4, .rw, 2, .keep, .any⟩
def FIO_IN_CFG_WB_EN : Fld := ⟨655, 6, 1, .rw, 0, .keep, .any⟩
def FIO_IN_CFG_WB_N : Fld := ⟨656, 7, 4, .rw, 3, .keep, .any⟩
def FIO_IN_CFG_EVT_EN : Fld := ⟨657, 11, 1, .rw, 0, .keep, .any⟩
def FIO_OUT_CFG_SAFE : Fld := ⟨658, 0, 2, .rw, 0, .keep, .any⟩
def FIO_OUT_CFG_UPDATE : Fld := ⟨659, 2, 1, .rw, 0, .keep, .any⟩
def FIO_OUT_CFG_OL_EN : Fld := ⟨660, 3, 1, .rw, 0, .keep, .any⟩
def FIO_OUT_CFG_SC_US : Fld := ⟨661, 4, 10, .rw, 100, .keep, .any⟩
def FIO_OUT_CFG_RETRY_MS : Fld := ⟨662, 16, 16, .rw, 0, .keep, .any⟩
def MKC_CTRL_DOM : Fld := ⟨663, 0, 4, .rwl, 0, .keep, .any⟩
def MKC_CTRL_ADC_EN : Fld := ⟨664, 4, 1, .rw, 0, .reset, .any⟩
def MKC_IN_CFG_EDGE : Fld := ⟨665, 0, 2, .rw, 0, .keep, .any⟩
def MKC_IN_CFG_EVT_EN : Fld := ⟨666, 2, 1, .rw, 0, .keep, .any⟩
def MKC_IN_CFG_GLITCH : Fld := ⟨667, 8, 8, .rw, 2, .keep, .any⟩
def MKC_IN_TS_NS : Fld := ⟨668, 0, 32, .ro, 0, .hw, .any⟩
def MKC_IN_TS_FRAC : Fld := ⟨669, 32, 8, .ro, 0, .hw, .any⟩
def MKC_IN_TS_RISE : Fld := ⟨670, 40, 1, .ro, 0, .hw, .any⟩
def MKC_ADC_THR_THR : Fld := ⟨671, 0, 14, .rw, 8192, .keep, .any⟩
def MKC_ADC_THR_HYST : Fld := ⟨672, 16, 8, .rw, 64, .keep, .any⟩
def MKC_ADC_THR_CROSS_EN : Fld := ⟨673, 24, 2, .rw, 0, .keep, .any⟩
def MKC_ADC_LAST_VALUE : Fld := ⟨674, 0, 14, .ro, 0, .hw, .any⟩
def MKC_SEQ_CFG_TRIG : Fld := ⟨675, 0, 3, .rw, 0, .keep, .any⟩
def MKC_SEQ_CFG_TSEL : Fld := ⟨676, 3, 4, .rw, 0, .keep, .any⟩
def MKC_SEQ_CFG_POLICY : Fld := ⟨677, 7, 2, .rw, 0, .keep, .any⟩
def MKC_SEQ_CFG_EN : Fld := ⟨678, 9, 1, .rw, 0, .reset, .any⟩
def MKC_SEQ_CFG_SW_TRIG : Fld := ⟨679, 10, 1, .wo, 0, .reset, .any⟩
def MKC_SEQ_CFG_STOP : Fld := ⟨680, 11, 1, .wo, 0, .reset, .any⟩
def MKC_SEQ_CFG_MASK : Fld := ⟨681, 16, 16, .rw, 0, .keep, .any⟩
def MKC_SEQ_DELAY_VALUE : Fld := ⟨682, 0, 23, .rw, 0, .keep, .any⟩
def MKC_SEQ_LEN_VALUE : Fld := ⟨683, 0, 23, .rw, 0, .keep, .any⟩
def MKC_SEQ_N_MAXN : Fld := ⟨684, 0, 12, .rw, 1, .keep, .any⟩
def MKC_SEQ_N_DIV : Fld := ⟨685, 16, 4, .rw, 1, .keep, .any⟩
def MKC_SEQ_RING_BASE : Fld := ⟨686, 0, 20, .rw, 0, .keep, .any⟩
def MKC_SEQ_RING_LOG2 : Fld := ⟨687, 20, 4, .rw, 2, .keep, .any⟩
def MKC_SEQ_RING_SLOT_K : Fld := ⟨688, 24, 8, .rw, 1, .keep, .any⟩
def MKC_SEQ_PTR_HEAD : Fld := ⟨689, 0, 8, .ro, 0, .reset, .any⟩
def MKC_SEQ_PTR_COUNT : Fld := ⟨690, 8, 9, .ro, 0, .reset, .any⟩
def MKC_SEQ_PTR_ACK_ERR : Fld := ⟨691, 17, 1, .w1c, 0, .reset, .any⟩
def MKC_SEQ_ACK_N : Fld := ⟨692, 0, 9, .wo, 0, .reset, .any⟩
def MKC_LOG_ACK_N : Fld := ⟨693, 0, 9, .wo, 0, .reset, .any⟩
def MKC_SEQ_STAT_STATE : Fld := ⟨694, 0, 2, .ro, 0, .hw, .any⟩
def MKC_SEQ_STAT_PEND : Fld := ⟨695, 2, 1, .ro, 0, .hw, .any⟩
def MKC_SEQ_STAT_CFG_ERR : Fld := ⟨696, 3, 1, .w1c, 0, .reset, .any⟩
def MKC_SEQ_STAT_WR_IGN : Fld := ⟨697, 4, 1, .w1c, 0, .reset, .any⟩
def MKC_SEQ_CNT_TRIGGERS : Fld := ⟨698, 0, 16, .rc, 0, .reset, .any⟩
def MKC_SEQ_CNT_DISCARDED : Fld := ⟨699, 16, 16, .rc, 0, .reset, .any⟩
def MKC_SEQ_CNT_RESTARTS : Fld := ⟨700, 32, 16, .rc, 0, .reset, .any⟩
def MKC_SEQ_CNT_NO_SLOT : Fld := ⟨701, 48, 16, .rc, 0, .reset, .any⟩
def MKC_LOG_PTR_HEAD : Fld := ⟨702, 0, 4, .ro, 0, .reset, .any⟩
def MKC_LOG_PTR_COUNT : Fld := ⟨703, 4, 5, .ro, 0, .reset, .any⟩
def MKC_LOG_PTR_LOST : Fld := ⟨704, 16, 16, .rc, 0, .reset, .any⟩
def MKC_LOG_NS : Fld := ⟨705, 0, 32, .ro, 0, .keep, .any⟩
def MKC_LOG_FRAC : Fld := ⟨706, 32, 8, .ro, 0, .keep, .any⟩
def MKC_LOG_ACTION : Fld := ⟨707, 40, 2, .ro, 0, .keep, .any⟩
def EVT_ROUTE_KIND_A : Fld := ⟨708, 0, 2, .rw, 0, .keep, .any⟩
def EVT_ROUTE_KIND_B : Fld := ⟨709, 32, 2, .rw, 0, .keep, .any⟩
def EVT_ROUTE_INPUT_A : Fld := ⟨710, 2, 6, .rw, 0, .keep, .any⟩
def EVT_ROUTE_INPUT_B : Fld := ⟨711, 34, 6, .rw, 0, .keep, .any⟩
def EVT_ROUTE_COURSE_A : Fld := ⟨712, 8, 5, .rw, 0, .keep, .any⟩
def EVT_ROUTE_COURSE_B : Fld := ⟨713, 40, 5, .rw, 0, .keep, .any⟩
def EVT_ROUTE_VECTOR_A : Fld := ⟨714, 13, 11, .rw, 0, .keep, .any⟩
def EVT_ROUTE_VECTOR_B : Fld := ⟨715, 45, 11, .rw, 0, .keep, .any⟩
def EVT_ROUTE_LOG_A : Fld := ⟨716, 24, 5, .rw, 31, .keep, .any⟩
def EVT_ROUTE_LOG_B : Fld := ⟨717, 56, 5, .rw, 31, .keep, .any⟩
def EVT_VEC_MOD_COUNT_N : Fld := ⟨718, 0, 8, .rw, 1, .keep, .any⟩
def EVT_VEC_MOD_TIME_US : Fld := ⟨719, 8, 16, .rw, 0, .keep, .any⟩
def EVT_VEC_MOD_BOUNDARY : Fld := ⟨720, 24, 1, .rw, 0, .keep, .any⟩
def EVT_SEEN_SEEN : Fld := ⟨721, 0, 32, .w1c, 0, .reset, .any⟩
def EVT_LOG_CFG_EN : Fld := ⟨722, 0, 1, .rw, 0, .reset, .any⟩
def EVT_LOG_CFG_LOC : Fld := ⟨723, 1, 1, .rw, 0, .keep, .any⟩
def EVT_LOG_CFG_LOG2 : Fld := ⟨724, 2, 4, .rw, 4, .keep, .any⟩
def EVT_LOG_CFG_CTX : Fld := ⟨725, 6, 6, .rw, 0, .keep, .any⟩
def EVT_LOG_CFG_DOM : Fld := ⟨726, 12, 4, .rw, 0, .keep, .any⟩
def EVT_LOG_ADDR_ADDR : Fld := ⟨727, 6, 42, .rw, 0, .keep, .any⟩
def EVT_LOG_PTR_HEAD : Fld := ⟨728, 0, 14, .ro, 0, .reset, .any⟩
def EVT_LOG_PTR_COUNT : Fld := ⟨729, 14, 15, .ro, 0, .reset, .any⟩
def EVT_LOG_PTR_FAULT : Fld := ⟨730, 29, 1, .w1c, 0, .reset, .any⟩
def EVT_LOG_PTR_ACK_ERR : Fld := ⟨731, 30, 1, .w1c, 0, .reset, .any⟩
def EVT_LOG_ACK_N : Fld := ⟨732, 0, 15, .wo, 0, .reset, .any⟩
def EVT_CNT_ROUTE_OFF : Fld := ⟨733, 0, 32, .rc, 0, .reset, .any⟩
def EVT_CNT_LOG_LOST : Fld := ⟨734, 32, 32, .rc, 0, .reset, .any⟩
def XLT_CFG_DOM : Fld := ⟨735, 0, 4, .rw, 0, .keep, .any⟩
def XLT_CFG_CC_CTX : Fld := ⟨736, 4, 6, .rw, 0, .keep, .cc⟩
def XLT_CFG_CC_EN : Fld := ⟨737, 10, 1, .rw, 0, .keep, .cc⟩
def XLT_PEER_BASE_ADDR : Fld := ⟨738, 12, 40, .rw, 1, .keep, .any⟩
def XLT_PEER_LIMIT_ADDR : Fld := ⟨739, 12, 40, .rw, 0, .keep, .any⟩
def XLT_INV_KIND : Fld := ⟨740, 0, 2, .rw, 0, .keep, .any⟩
def XLT_INV_CTX : Fld := ⟨741, 2, 6, .rw, 0, .keep, .any⟩
def XLT_INV_GO : Fld := ⟨742, 8, 1, .wo, 0, .reset, .any⟩
def XLT_INV_BUSY : Fld := ⟨743, 9, 1, .ro, 0, .reset, .any⟩
def XLT_INV_RANGE_VA : Fld := ⟨744, 12, 36, .rw, 0, .keep, .any⟩
def XLT_INV_RANGE_PAGES : Fld := ⟨745, 48, 16, .rw, 0, .keep, .any⟩
def XLT_TLB_CNT_MISSES : Fld := ⟨746, 0, 32, .rc, 0, .reset, .any⟩
def XLT_TLB_CNT_WALK_READS : Fld := ⟨747, 32, 32, .rc, 0, .reset, .any⟩
def XLT_CTX_CFG_EN : Fld := ⟨748, 0, 1, .rw, 0, .reset, .cc⟩
def XLT_CTX_CFG_PASID_EN : Fld := ⟨749, 1, 1, .rw, 0, .keep, .cc⟩
def XLT_CTX_CFG_FUNC : Fld := ⟨750, 2, 4, .rw, 0, .keep, .cc⟩
def XLT_CTX_CFG_WIN : Fld := ⟨751, 6, 9, .rw, 0, .keep, .cc⟩
def XLT_CTX_PASID_PASID : Fld := ⟨752, 0, 20, .rw, 0, .keep, .cc⟩
def XLT_CTX_ROOT_ROOT : Fld := ⟨753, 12, 40, .rw, 0, .keep, .cc⟩
def XLT_FQ_CFG_BASE : Fld := ⟨754, 0, 20, .rw, 0, .keep, .cc⟩
def XLT_FQ_CFG_LOG2 : Fld := ⟨755, 20, 4, .rw, 4, .keep, .cc⟩
def XLT_FQ_CFG_EN : Fld := ⟨756, 24, 1, .rw, 0, .reset, .cc⟩
def XLT_FQ_PTR_HEAD : Fld := ⟨757, 0, 10, .ro, 0, .reset, .any⟩
def XLT_FQ_PTR_COUNT : Fld := ⟨758, 10, 11, .ro, 0, .reset, .any⟩
def XLT_FQ_PTR_OVR : Fld := ⟨759, 21, 1, .w1c, 0, .reset, .any⟩
def XLT_FQ_PTR_ACK_ERR : Fld := ⟨760, 22, 1, .w1c, 0, .reset, .any⟩
def XLT_FQ_ACK_N : Fld := ⟨761, 0, 11, .wo, 0, .reset, .any⟩
def XLT_FQ_LOST_LOST : Fld := ⟨762, 0, 16, .rc, 0, .reset, .any⟩
def XLT_STR_CFG_OWNER : Fld := ⟨763, 0, 6, .rw, 63, .keep, .cc⟩
def XLT_STR_CFG_CTX : Fld := ⟨764, 6, 6, .rw, 0, .keep, .cc⟩
def XLT_STR_CFG_PRIO : Fld := ⟨765, 12, 2, .rw, 0, .keep, .cc⟩
def XLT_STR_CFG_DOM : Fld := ⟨766, 14, 4, .rw, 0, .keep, .any⟩
def XLT_STR_RING_BASE : Fld := ⟨767, 0, 20, .rw, 0, .keep, .cc⟩
def XLT_STR_RING_LOG2 : Fld := ⟨768, 20, 4, .rw, 4, .keep, .cc⟩
def XLT_STR_PTR_TAIL : Fld := ⟨769, 0, 12, .rw, 0, .reset, .any⟩
def XLT_STR_PTR_HEAD : Fld := ⟨770, 16, 12, .ro, 0, .reset, .any⟩
def XLT_STR_CTRL_RESUME : Fld := ⟨771, 0, 1, .wo, 0, .reset, .any⟩
def XLT_STR_CTRL_ABORT : Fld := ⟨772, 1, 1, .wo, 0, .reset, .any⟩
def XLT_STR_STAT_STATE : Fld := ⟨773, 0, 2, .ro, 0, .hw, .any⟩
def XLT_STR_STAT_CAUSE : Fld := ⟨774, 2, 4, .ro, 0, .hw, .any⟩
def XLT_STR_STAT_DONE_BYTES : Fld := ⟨775, 8, 24, .ro, 0, .hw, .any⟩
def HIF_DB_CMD_INDEX : Fld := ⟨776, 0, 12, .wo, 0, .reset, .any⟩
def HIF_DB_STS_INDEX : Fld := ⟨777, 0, 12, .wo, 0, .reset, .any⟩
def HIF_RING_CTRL_EN : Fld := ⟨778, 0, 1, .rw, 0, .reset, .any⟩
def HIF_RING_CTRL_LOG2 : Fld := ⟨779, 4, 4, .rw, 4, .keep, .any⟩
def HIF_RING_CMD_VA : Fld := ⟨780, 6, 42, .rw, 0, .keep, .any⟩
def HIF_RING_STS_VA : Fld := ⟨781, 6, 42, .rw, 0, .keep, .any⟩
def HIF_RING_WB_VA : Fld := ⟨782, 6, 42, .rw, 0, .keep, .any⟩
def HIF_RING_STAT_STATE : Fld := ⟨783, 0, 2, .ro, 0, .hw, .any⟩
def HIF_RING_STAT_CAUSE : Fld := ⟨784, 2, 4, .ro, 0, .hw, .any⟩
def HIF_RING_STAT_CMD_HEAD : Fld := ⟨785, 8, 12, .ro, 0, .hw, .any⟩
def HIF_RING_STAT_DB_OFF : Fld := ⟨786, 20, 12, .rc, 0, .reset, .any⟩
def HIF_PF_SEC_SEC_EN : Fld := ⟨787, 0, 1, .rw, 0, .reset, .fw⟩
def HIF_CNT_DB_FOREIGN : Fld := ⟨788, 0, 16, .rc, 0, .reset, .any⟩
def HIF_RING_OWN_FUNC : Fld := ⟨789, 0, 4, .rw, 0, .keep, .cc⟩
def HIF_RING_OWN_CTX : Fld := ⟨790, 4, 6, .rw, 0, .keep, .cc⟩
def HIF_VF_CFG_VEC_BASE : Fld := ⟨791, 0, 11, .rw, 0, .keep, .cc⟩
def HIF_VF_CFG_VEC_N : Fld := ⟨792, 11, 8, .rw, 0, .keep, .cc⟩
def HIF_VF_CFG_SBW : Fld := ⟨793, 32, 4, .rw, 0, .keep, .cc⟩
def HIF_VF_CFG_SBW_EN : Fld := ⟨794, 36, 1, .rw, 0, .keep, .cc⟩
def WKT_CTL_AB_LEN : Fld := ⟨795, 0, 5, .rw, 0, .reset, .any⟩
def WKT_CTL_AB_GO : Fld := ⟨796, 8, 1, .w1s, 0, .reset, .any⟩
def WKT_CTL_AB_ACK : Fld := ⟨797, 9, 1, .wo, 0, .reset, .any⟩
def WKT_CTL_AB_COLLISION : Fld := ⟨798, 10, 1, .w1c, 0, .reset, .any⟩
def WKT_CTL_BA_LEN : Fld := ⟨799, 0, 5, .rw, 0, .reset, .any⟩
def WKT_CTL_BA_GO : Fld := ⟨800, 8, 1, .w1s, 0, .reset, .any⟩
def WKT_CTL_BA_ACK : Fld := ⟨801, 9, 1, .wo, 0, .reset, .any⟩
def WKT_CTL_BA_COLLISION : Fld := ⟨802, 10, 1, .w1c, 0, .reset, .any⟩
def WKT_CFG_SIDE_A : Fld := ⟨803, 0, 6, .rw, 63, .keep, .cc⟩
def WKT_CFG_SIDE_B : Fld := ⟨804, 6, 6, .rw, 63, .keep, .cc⟩
def WKT_CFG_PRIO_A : Fld := ⟨805, 12, 4, .rw, 0, .keep, .cc⟩
def WKT_CFG_PRIO_B : Fld := ⟨806, 16, 4, .rw, 1, .keep, .cc⟩
def WKT_MODE_COMPAT : Fld := ⟨807, 0, 1, .rw, 0, .keep, .any⟩
def WKT_MODE_WAKE_A : Fld := ⟨808, 1, 1, .rw, 0, .keep, .any⟩
def WKT_MODE_WAKE_B : Fld := ⟨809, 2, 1, .rw, 0, .keep, .any⟩
def WKT_MODE_CROSS_TIMEOUT : Fld := ⟨810, 8, 10, .rw, 20, .keep, .any⟩
def WKT_STAT_CROSSED : Fld := ⟨811, 0, 1, .w1c, 0, .reset, .any⟩
def WKT_STAT_FLR_DROP : Fld := ⟨812, 1, 1, .w1c, 0, .reset, .any⟩
def WKT_STAT_REJ_AB : Fld := ⟨813, 8, 8, .rc, 0, .reset, .any⟩
def WKT_STAT_REJ_BA : Fld := ⟨814, 16, 8, .rc, 0, .reset, .any⟩
def WKT_STAT_DOWN_REJ : Fld := ⟨815, 24, 8, .rc, 0, .reset, .any⟩
def TRB_CFG_EN : Fld := ⟨816, 0, 1, .rw, 0, .reset, .any⟩
def TRB_CFG_CLK_EN : Fld := ⟨817, 1, 1, .rw, 0, .keep, .any⟩
def TRB_CFG_DOM : Fld := ⟨818, 2, 4, .rw, 0, .keep, .any⟩
def TRB_CFG_POLL : Fld := ⟨819, 8, 8, .rw, 10, .keep, .any⟩
def TRB_CFG_LOCK_TMO : Fld := ⟨820, 16, 8, .rw, 10, .keep, .any⟩
def TRB_CFG_LOCK : Fld := ⟨821, 31, 1, .w1s, 0, .keep, .any⟩
def TRB_STAT_WQ_COUNT : Fld := ⟨822, 0, 6, .ro, 0, .hw, .any⟩
def TRB_STAT_LOCKED : Fld := ⟨823, 6, 1, .ro, 0, .hw, .any⟩
def TRB_STAT_LOCK_OWNER : Fld := ⟨824, 7, 6, .ro, 0, .hw, .any⟩
def TRB_RETRY_RETRY_GAP : Fld := ⟨825, 0, 8, .rw, 1, .keep, .any⟩
def TRB_RETRY_RETRY_MAX : Fld := ⟨826, 8, 8, .rw, 16, .keep, .any⟩
def TRB_ERR_ADDR : Fld := ⟨827, 0, 32, .ro, 0, .hw, .any⟩
def TRB_ERR_KIND : Fld := ⟨828, 32, 3, .ro, 0, .hw, .any⟩
def TRB_ERR_WRITE : Fld := ⟨829, 35, 1, .ro, 0, .hw, .any⟩
def TRB_ERR_REQ : Fld := ⟨830, 36, 6, .ro, 0, .hw, .any⟩
def TRB_ERR_VALID : Fld := ⟨831, 63, 1, .w1c, 0, .reset, .any⟩
def TRB_CNT_WR_ERR : Fld := ⟨832, 0, 16, .rc, 0, .reset, .any⟩
def TRB_CNT_RD_ERR : Fld := ⟨833, 16, 16, .rc, 0, .reset, .any⟩
def TRB_CNT_LOCK_TO : Fld := ⟨834, 32, 16, .rc, 0, .reset, .any⟩
def TRB_CNT_RETRIES : Fld := ⟨835, 48, 16, .rc, 0, .reset, .any⟩
def TRB_SB_CFG_COND : Fld := ⟨836, 0, 24, .rw, 0, .keep, .any⟩
def TRB_SB_CFG_FILT : Fld := ⟨837, 24, 8, .rw, 0, .keep, .any⟩
def TRB_SB_STAT_LEVEL : Fld := ⟨838, 0, 8, .ro, 0, .hw, .any⟩
def TRB_SB_STAT_PEND : Fld := ⟨839, 8, 8, .w1c, 0, .reset, .any⟩
def TRB_SB_STAT_MISSED : Fld := ⟨840, 16, 16, .rc, 0, .reset, .any⟩
def TRB_SB_TS_NS : Fld := ⟨841, 0, 32, .ro, 0, .hw, .any⟩
def TRB_SB_TS_FRAC : Fld := ⟨842, 32, 8, .ro, 0, .hw, .any⟩
def TRB_WIN_BASE : Fld := ⟨843, 0, 16, .rwl, 0, .keep, .any⟩
def TRB_WIN_SIZE : Fld := ⟨844, 32, 17, .rwl, 0, .keep, .any⟩
def TRB_WIN_CFG_WIDTH : Fld := ⟨845, 0, 2, .rwl, 0, .keep, .any⟩
def TRB_WIN_CFG_BIG : Fld := ⟨846, 2, 1, .rwl, 0, .keep, .any⟩
def TRB_WIN_CFG_MODE : Fld := ⟨847, 3, 1, .rwl, 1, .keep, .any⟩
def TRB_WIN_CFG_RDY_EN : Fld := ⟨848, 4, 1, .rwl, 0, .keep, .any⟩
def TRB_WIN_CFG_WC_EN : Fld := ⟨849, 5, 1, .rw, 0, .keep, .any⟩
def TRB_WIN_CFG_BURST_MAX : Fld := ⟨850, 8, 8, .rwl, 16, .keep, .any⟩
def TRB_WIN_CFG_WAIT_MIN : Fld := ⟨851, 16, 4, .rwl, 1, .keep, .any⟩
def TRB_WIN_CFG_RDY_TMO : Fld := ⟨852, 24, 8, .rw, 5, .keep, .any⟩
def TRB_WIN_TIM_ALE : Fld := ⟨853, 0, 4, .rwl, 2, .keep, .any⟩
def TRB_WIN_TIM_AHOLD : Fld := ⟨854, 4, 4, .rwl, 1, .keep, .any⟩
def TRB_WIN_TIM_STROBE : Fld := ⟨855, 8, 8, .rwl, 6, .keep, .any⟩
def TRB_WIN_TIM_HOLD : Fld := ⟨856, 16, 4, .rwl, 1, .keep, .any⟩
def TRB_WIN_TIM_TURN : Fld := ⟨857, 20, 4, .rwl, 2, .keep, .any⟩
def LDG_CTRL_SCRUB_H : Fld := ⟨858, 0, 8, .rw, 24, .keep, .any⟩
def LDG_CTRL_REFRESH_THR : Fld := ⟨859, 8, 2, .rw, 1, .keep, .any⟩
def LDG_CTRL_REMAP_THR : Fld := ⟨860, 10, 2, .rw, 2, .keep, .any⟩
def LDG_CTRL_SPARES_LOW : Fld := ⟨861, 12, 10, .rw, 64, .keep, .any⟩
def LDG_CTRL_LOCK : Fld := ⟨862, 31, 1, .w1s, 0, .keep, .any⟩
def LDG_STAT_STATE : Fld := ⟨863, 0, 2, .ro, 0, .reset, .any⟩
def LDG_STAT_SPARES_EXHAUSTED : Fld := ⟨864, 2, 1, .ro, 0, .hw, .any⟩
def LDG_STAT_JOURNAL_SHORT : Fld := ⟨865, 3, 1, .ro, 0, .hw, .any⟩
def LDG_STAT_ROTATING : Fld := ⟨866, 4, 1, .ro, 0, .hw, .any⟩
def LDG_STAT_COMPACTING : Fld := ⟨867, 5, 1, .ro, 0, .reset, .any⟩
def LDG_STAT_SCRUB_LATE : Fld := ⟨868, 6, 1, .w1c, 0, .reset, .any⟩
def LDG_WCLS_CC_CLASS : Fld := ⟨869, 0, 2, .rw, 0, .reset, .cc⟩
def LDG_WCLS_PC_CLASS : Fld := ⟨870, 8, 2, .rw, 0, .reset, .pcs⟩
def LDG_QUOTA_CRIT : Fld := ⟨871, 0, 5, .rw, 16, .keep, .cc⟩
def LDG_QUOTA_IMP : Fld := ⟨872, 8, 5, .rw, 8, .keep, .cc⟩
def LDG_QUOTA_ROUT : Fld := ⟨873, 16, 5, .rw, 8, .keep, .cc⟩
def LDG_STAGED_CRIT : Fld := ⟨874, 0, 13, .ro, 0, .reset, .any⟩
def LDG_STAGED_IMP : Fld := ⟨875, 16, 13, .ro, 0, .reset, .any⟩
def LDG_STAGED_ROUT : Fld := ⟨876, 32, 13, .ro, 0, .reset, .any⟩
def LDG_FLUSH_GO : Fld := ⟨877, 0, 1, .wo, 0, .reset, .any⟩
def LDG_FLUSH_BUSY : Fld := ⟨878, 1, 1, .ro, 0, .reset, .any⟩
def LDG_SPARES_GEN_FREE : Fld := ⟨879, 0, 10, .ro, 960, .hw, .any⟩
def LDG_SPARES_SEC_FREE : Fld := ⟨880, 10, 7, .ro, 64, .hw, .any⟩
def LDG_SPARES_RETIRED : Fld := ⟨881, 17, 14, .ro, 0, .hw, .any⟩
def LDG_CAP_USABLE_PAGES : Fld := ⟨882, 0, 14, .ro, 14848, .hw, .any⟩
def LDG_CAP_JOURNAL_PAGES : Fld := ⟨883, 16, 9, .ro, 446, .hw, .any⟩
def LDG_ECC_CORR : Fld := ⟨884, 0, 32, .rc, 0, .reset, .any⟩
def LDG_ECC_UNCORR : Fld := ⟨885, 32, 16, .rc, 0, .reset, .any⟩
def LDG_ECC_AUTH_FAIL : Fld := ⟨886, 48, 8, .rc, 0, .reset, .any⟩
def LDG_ECC_REMAPS : Fld := ⟨887, 56, 8, .rc, 0, .reset, .any⟩
def LDG_ERR_ADDR : Fld := ⟨888, 0, 26, .ro, 0, .hw, .any⟩
def LDG_ERR_KIND : Fld := ⟨889, 26, 3, .ro, 0, .hw, .any⟩
def LDG_ERR_VALID : Fld := ⟨890, 63, 1, .w1c, 0, .reset, .any⟩
def LDG_PF_CRIT_LOST : Fld := ⟨891, 0, 13, .ro, 0, .hw, .any⟩
def LDG_PF_IMP_LOST : Fld := ⟨892, 13, 13, .ro, 0, .hw, .any⟩
def LDG_PF_ROUT_LOST : Fld := ⟨893, 26, 13, .ro, 0, .hw, .any⟩
def LDG_PF_GRANT : Fld := ⟨894, 39, 13, .ro, 0, .hw, .any⟩
def LDG_PF_VALID : Fld := ⟨895, 52, 1, .ro, 0, .hw, .any⟩
def LDG_PF_SEALED : Fld := ⟨896, 53, 1, .ro, 0, .hw, .any⟩
def PCS_LC_STATE : Fld := ⟨897, 0, 3, .ro, 0, .hw, .any⟩
def PCS_LC_INCOMPLETE : Fld := ⟨898, 3, 1, .ro, 0, .hw, .any⟩
def PCS_LC_SEED_SLOT : Fld := ⟨899, 4, 2, .ro, 0, .hw, .any⟩
def PCS_CTRL_STBY : Fld := ⟨900, 0, 1, .wo, 0, .reset, .cc⟩
def PCS_CTRL_LOCK : Fld := ⟨901, 31, 1, .w1s, 0, .keep, .any⟩
def PCS_STAT_STATE : Fld := ⟨902, 0, 2, .ro, 0, .hw, .any⟩
def PCS_STAT_DRBG_OK : Fld := ⟨903, 2, 1, .ro, 0, .hw, .any⟩
def PCS_STAT_WIPING : Fld := ⟨904, 3, 1, .ro, 0, .hw, .any⟩
def PCS_CC_GATE_N : Fld := ⟨905, 0, 9, .rwl, 16, .keep, .any⟩
def PCS_CC_GATE_SVBASE : Fld := ⟨906, 18, 10, .rwl, 0, .keep, .any⟩
def PCS_TMP_EN_EN : Fld := ⟨907, 0, 6, .rwl, 0, .keep, .any⟩
def PCS_TMP_CFG_POL0 : Fld := ⟨908, 0, 1, .rwl, 1, .keep, .any⟩
def PCS_TMP_CFG_POL1 : Fld := ⟨909, 1, 1, .rwl, 1, .keep, .any⟩
def PCS_TMP_CFG_KILL_SAK : Fld := ⟨910, 2, 1, .rwl, 1, .keep, .any⟩
def PCS_TMP_CFG_FILT0 : Fld := ⟨911, 8, 8, .rwl, 10, .keep, .any⟩
def PCS_TMP_CFG_FILT1 : Fld := ⟨912, 16, 8, .rwl, 10, .keep, .any⟩
def PCS_TMP_STAT_LIVE : Fld := ⟨913, 0, 6, .ro, 0, .hw, .any⟩
def PCS_TMP_STAT_SEEN : Fld := ⟨914, 8, 6, .w1c, 0, .keep, .any⟩
def PCS_TMP_LOG_NS : Fld := ⟨915, 0, 32, .ro, 0, .keep, .any⟩
def PCS_TMP_LOG_FRAC : Fld := ⟨916, 32, 8, .ro, 0, .keep, .any⟩
def PCS_TMP_LOG_SENSOR : Fld := ⟨917, 40, 3, .ro, 0, .keep, .any⟩
def PCS_TMP_LOG_STATE : Fld := ⟨918, 43, 3, .ro, 0, .keep, .any⟩
def PCS_TMP_LOG_VALID : Fld := ⟨919, 63, 1, .ro, 0, .keep, .any⟩
def PCS_FUSE_DEBUG_KILL : Fld := ⟨920, 0, 1, .ro, 0, .hw, .any⟩
def PCS_FUSE_SCRAP : Fld := ⟨921, 1, 1, .ro, 0, .hw, .any⟩
def PCS_FUSE_ROOT_REVOKED : Fld := ⟨922, 2, 4, .ro, 0, .hw, .any⟩
def PCS_FUSE_SEEDS : Fld := ⟨923, 6, 4, .ro, 0, .hw, .any⟩
def PCS_BOOT_SLOT : Fld := ⟨924, 0, 1, .ro, 0, .hw, .any⟩
def PCS_BOOT_FAIL_WHY : Fld := ⟨925, 1, 3, .ro, 0, .hw, .any⟩
def PCS_CNT_NS_REJ : Fld := ⟨926, 0, 16, .rc, 0, .reset, .any⟩
def PCS_CNT_TAMPER_CNT : Fld := ⟨927, 16, 16, .rc, 0, .keep, .any⟩
def PWR_CAP_CAP_MW : Fld := ⟨928, 0, 20, .rw, 0, .keep, .any⟩
def PWR_CAP_WIN : Fld := ⟨929, 20, 8, .rw, 10, .keep, .any⟩
def PWR_BUDGET_BG_MW : Fld := ⟨930, 0, 16, .rw, 1500, .keep, .any⟩
def PWR_TOTAL_CYCLE_UJ : Fld := ⟨931, 0, 24, .ro, 0, .hw, .any⟩
def PWR_TOTAL_POWER_MW : Fld := ⟨932, 32, 20, .ro, 0, .hw, .any⟩
def PWR_STAT_PF : Fld := ⟨933, 0, 1, .ro, 0, .reset, .any⟩
def PWR_STAT_CAP_EXCEEDED : Fld := ⟨934, 1, 1, .ro, 0, .hw, .any⟩
def PWR_STAT_HOLDUP_LOW : Fld := ⟨935, 2, 1, .ro, 1, .hw, .any⟩
def PWR_STAT_TESTING : Fld := ⟨936, 3, 1, .ro, 0, .hw, .any⟩
def PWR_FEED_CFG_TEST_S : Fld := ⟨937, 0, 16, .rw, 10, .keep, .any⟩
def PWR_PF_PF_WARN : Fld := ⟨938, 0, 10, .rwl, 440, .keep, .any⟩
def PWR_PF_PF_OK : Fld := ⟨939, 10, 10, .rwl, 470, .keep, .any⟩
def PWR_PF_VHOLD_MIN : Fld := ⟨940, 20, 10, .rwl, 300, .keep, .any⟩
def PWR_PF_LOCK : Fld := ⟨941, 31, 1, .w1s, 0, .keep, .any⟩
def PWR_PF_STAT_C_UF : Fld := ⟨942, 0, 16, .ro, 0, .hw, .any⟩
def PWR_PF_STAT_E_UJ : Fld := ⟨943, 16, 16, .ro, 0, .hw, .any⟩
def PWR_PF_STAT_C_EST_UF : Fld := ⟨944, 32, 16, .ro, 0, .hw, .any⟩
def PWR_PF_STAT_EST_UJ : Fld := ⟨945, 48, 16, .ro, 0, .hw, .any⟩
def PWR_RAIL_MV : Fld := ⟨946, 0, 16, .ro, 0, .hw, .any⟩
def PWR_RAIL_MA : Fld := ⟨947, 16, 16, .ro, 0, .hw, .any⟩
def PWR_RAIL_E_CYC : Fld := ⟨948, 32, 24, .ro, 0, .hw, .any⟩
def PWR_BG_GRANTS : Fld := ⟨949, 0, 32, .rc, 0, .reset, .any⟩
def PWR_BG_OVERDRAFT : Fld := ⟨950, 32, 16, .rc, 0, .reset, .any⟩
def PWR_BG_WAIT_MAX : Fld := ⟨951, 48, 16, .rc, 0, .reset, .any⟩
def PWR_FEED_MV : Fld := ⟨952, 0, 16, .ro, 0, .hw, .any⟩
def PWR_FEED_MA : Fld := ⟨953, 16, 16, .ro, 0, .hw, .any⟩
def PWR_FEED_PATH : Fld := ⟨954, 32, 2, .ro, 0, .hw, .any⟩
def PWR_FEED_PRESENT : Fld := ⟨955, 34, 1, .ro, 0, .hw, .any⟩
def PWR_FEED_TEST : Fld := ⟨956, 35, 2, .ro, 0, .hw, .any⟩
def RDN_CFG_EN : Fld := ⟨957, 0, 1, .rwl, 0, .keep, .any⟩
def RDN_CFG_MIRROR_EN : Fld := ⟨958, 1, 1, .rw, 1, .keep, .any⟩
def RDN_CFG_TIME_EN : Fld := ⟨959, 2, 1, .rw, 1, .keep, .any⟩
def RDN_CFG_AUTO_YIELD : Fld := ⟨960, 3, 1, .rw, 1, .keep, .any⟩
def RDN_CFG_LOG_INT : Fld := ⟨961, 4, 4, .rw, 7, .keep, .any⟩
def RDN_CFG_LOCK : Fld := ⟨962, 31, 1, .w1s, 0, .keep, .any⟩
def RDN_CLAIM_CLAIM : Fld := ⟨963, 0, 8, .rw, 0, .reset, .any⟩
def RDN_CLAIM_EFFECTIVE : Fld := ⟨964, 8, 8, .ro, 0, .hw, .any⟩
def RDN_STAT_ROLE : Fld := ⟨965, 0, 2, .ro, 0, .hw, .any⟩
def RDN_STAT_PEER_CLAIM : Fld := ⟨966, 2, 8, .ro, 0, .hw, .any⟩
def RDN_STAT_PEER_SEEN : Fld := ⟨967, 10, 1, .ro, 0, .hw, .any⟩
def RDN_STAT_PATHS : Fld := ⟨968, 11, 2, .ro, 0, .hw, .any⟩
def RDN_STAT_LINK : Fld := ⟨969, 13, 2, .ro, 0, .hw, .any⟩
def RDN_STAT_OWN_FIT : Fld := ⟨970, 15, 1, .ro, 1, .hw, .any⟩
def RDN_STAT_PEER_FIT : Fld := ⟨971, 16, 1, .ro, 0, .hw, .any⟩
def RDN_HOLD_HOLD : Fld := ⟨972, 0, 20, .rw, 1000, .keep, .any⟩
def RDN_PORT_GATE_MASK : Fld := ⟨973, 0, 30, .rwl, 0, .keep, .any⟩
def RDN_FRT_GATE_MASK : Fld := ⟨974, 0, 30, .rwl, 0, .keep, .any⟩
def RDN_MIR_CFG_OFFSET : Fld := ⟨975, 0, 23, .rw, 0, .keep, .any⟩
def RDN_MIR_CFG_MIRROR_END : Fld := ⟨976, 32, 23, .rw, 0, .keep, .any⟩
def RDN_TEST_PERIOD_S : Fld := ⟨977, 0, 16, .rw, 60, .keep, .any⟩
def RDN_TEST_RESULT : Fld := ⟨978, 16, 6, .ro, 63, .hw, .any⟩
def RDN_CNT_SWITCHOVERS : Fld := ⟨979, 0, 16, .ro, 0, .keep, .any⟩
def RDN_CNT_MIRROR_LATE : Fld := ⟨980, 16, 16, .rc, 0, .reset, .any⟩
def RDN_CNT_CLAIM_CRC : Fld := ⟨981, 32, 16, .rc, 0, .reset, .any⟩
def RDN_CNT_GATED_TX : Fld := ⟨982, 48, 16, .rc, 0, .reset, .any⟩
def RDN_LAST_SW_CYCLE : Fld := ⟨983, 0, 32, .ro, 0, .keep, .any⟩
def RDN_MIR_FIRST_SLOT : Fld := ⟨984, 0, 18, .rw, 0, .keep, .any⟩
def RDN_MIR_NSLOTS : Fld := ⟨985, 18, 12, .rw, 0, .keep, .any⟩
def RDN_MIR_VALID : Fld := ⟨986, 30, 1, .rw, 0, .keep, .any⟩
def RST_CAUSE_CLASS : Fld := ⟨987, 0, 2, .ro, 0, .hw, .any⟩
def RST_CAUSE_SRC : Fld := ⟨988, 2, 4, .ro, 0, .hw, .any⟩
def RST_CTRL_COLD : Fld := ⟨989, 0, 1, .wo, 0, .reset, .cc⟩
def RST_CTRL_WARM : Fld := ⟨990, 1, 1, .wo, 0, .reset, .cc⟩
def RST_HOST_CLASS : Fld := ⟨991, 0, 2, .wo, 0, .reset, .any⟩
def RST_HOST_BAD_KEY : Fld := ⟨992, 8, 8, .rc, 0, .reset, .any⟩
def RST_HOST_KEY : Fld := ⟨993, 16, 16, .wo, 0, .reset, .any⟩
def RST_BOOT_STAGE : Fld := ⟨994, 0, 3, .ro, 0, .reset, .any⟩
def RST_BOOT_SLOT : Fld := ⟨995, 3, 1, .ro, 0, .hw, .any⟩
def RST_BOOT_FAILS : Fld := ⟨996, 4, 3, .rws, 0, .keep, .none⟩
def RST_BOOT_BOOT_DONE : Fld := ⟨997, 7, 1, .w1s, 0, .reset, .cc⟩
def RST_BOOT_RESETS : Fld := ⟨998, 16, 16, .ro, 0, .keep, .any⟩
def RST_WDOG_TIMEOUT_MS : Fld := ⟨999, 0, 16, .rw, 0, .reset, .cc⟩
def RST_WDOG_KICK : Fld := ⟨1000, 16, 1, .wo, 0, .reset, .cc⟩
def RST_FATAL_CAUSE : Fld := ⟨1001, 0, 8, .ro, 0, .keep, .any⟩
def RST_FATAL_PC : Fld := ⟨1002, 8, 16, .ro, 0, .keep, .any⟩
def RST_FATAL_CP : Fld := ⟨1003, 24, 4, .ro, 0, .keep, .any⟩
def RST_FATAL_TIME_NS : Fld := ⟨1004, 32, 32, .ro, 0, .keep, .any⟩
def PWR_TJ_TJ : Fld := ⟨1005, 0, 16, .ro, 0, .hw, .any⟩
def PWR_TJ_WARN : Fld := ⟨1006, 16, 8, .rw, 105, .keep, .any⟩

/-! ### Register numbers -/

def N_CLK_STAT : Nat := 0
def N_CLK_HOLD_LIMIT : Nat := 1
def N_DEV_ID : Nat := 2
def N_DEV_STEP : Nat := 3
def N_DEV_RES0 : Nat := 4
def N_DEV_RES1 : Nat := 5
def N_DEV_CAP : Nat := 6
def N_DEV_HUB : Nat := 7
def N_DEV_LOCK : Nat := 8
def N_TMB_CTRL : Nat := 9
def N_TMB_SNAP : Nat := 10
def N_TMB_SUMMARY : Nat := 11
def N_TMB_PTPMAP : Nat := 12
def N_TMB_DOM_CFG : Nat := 13
def N_TMB_DOM_TIME : Nat := 14
def N_TMB_DOM_INC : Nat := 15
def N_TMB_DOM_STEP : Nat := 16
def N_TMB_DOM_SERVO : Nat := 17
def N_TMB_DOM_THRESH : Nat := 18
def N_TMB_DOM_LOCKCNT : Nat := 19
def N_TMB_DOM_SMPT : Nat := 20
def N_TMB_DOM_SAMPLE : Nat := 21
def N_TMB_DOM_STAT : Nat := 22
def N_TMB_DOM_OFFS : Nat := 23
def N_TMB_DOM_CNT0 : Nat := 24
def N_TMB_DOM_CNT1 : Nat := 25
def N_TMB_DOM_EPOCH : Nat := 26
def N_TMB_DOM_EPOCH_REF : Nat := 27
def N_TMB_DOM_SNAP : Nat := 28
def N_TMB_PCFG : Nat := 29
def N_TMB_PUSER : Nat := 30
def N_TMB_PVAR : Nat := 31
def N_TMB_PBASE : Nat := 32
def N_LIM_CYC_CTRL : Nat := 33
def N_LIM_CYC_PERIOD : Nat := 34
def N_LIM_CYC_START : Nat := 35
def N_LIM_CYC_NUM0 : Nat := 36
def N_LIM_CYC_NUM : Nat := 37
def N_LIM_CYC_CHG : Nat := 38
def N_LIM_STAT : Nat := 39
def N_LIM_BASE : Nat := 40
def N_LIM_CNT0 : Nat := 41
def N_LIM_CNT1 : Nat := 42
def N_LIM_TAB_COMMIT : Nat := 43
def N_LIM_TAB_CTRL : Nat := 44
def N_LIM_TAB_CRC : Nat := 45
def N_LIM_TAB_STAT : Nat := 46
def N_LIM_PCNT : Nat := 47
def N_SBD_CTRL : Nat := 48
def N_SBD_RSV : Nat := 49
def N_SBD_POOL : Nat := 50
def N_SBD_ECC : Nat := 51
def N_SBD_STAT : Nat := 52
def N_SBD_QCFG : Nat := 53
def N_SBD_QLOW : Nat := 54
def N_SBD_FLOW_CTRL : Nat := 55
def N_SBD_FLOW_CRC : Nat := 56
def N_SBD_FLOW_STAT : Nat := 57
def N_SBD_FLOW_COMMIT : Nat := 58
def N_SBD_ARD_SEL : Nat := 59
def N_SBD_MIR_CFG : Nat := 60
def N_SBD_MIR_SRC : Nat := 61
def N_SBD_FDB_CFG : Nat := 62
def N_SBD_FDB_STAT : Nat := 63
def N_SBD_PORT_CFG : Nat := 64
def N_SBD_PORT_PCPMAP : Nat := 65
def N_SBD_PORT_PREEMPT : Nat := 66
def N_SBD_LVR_CTRL : Nat := 67
def N_SBD_LVR_CT : Nat := 68
def N_SBD_LVR_BASE : Nat := 69
def N_SBD_LVR_CRC : Nat := 70
def N_SBD_LVR_STAT : Nat := 71
def N_SBD_QCLASS : Nat := 72
def N_SBD_QCNT : Nat := 73
def N_SBD_PCNT : Nat := 74
def N_MAC_CFG : Nat := 75
def N_MAC_MAXLEN : Nat := 76
def N_MAC_STAT : Nat := 77
def N_MAC_LANE : Nat := 78
def N_MAC_EB : Nat := 79
def N_MAC_CYC_CTRL : Nat := 80
def N_MAC_CNT_RX : Nat := 81
def N_MAC_CNT_RX2 : Nat := 82
def N_MAC_CNT_TX : Nat := 83
def N_MAC_CNT_PT : Nat := 84
def N_MAC_CNT_LANE : Nat := 85
def N_MAC_SCAN_CTRL : Nat := 86
def N_MAC_SCAN_TPL : Nat := 87
def N_MAC_SCAN_RSP : Nat := 88
def N_MAC_SCAN_STAT : Nat := 89
def N_TRK_GRP_CFG : Nat := 90
def N_TRK_SLICE_DA : Nat := 91
def N_TRK_SLICE_TAG : Nat := 92
def N_TRK_LANE_CFG : Nat := 93
def N_TRK_LANE_STAT : Nat := 94
def N_TRK_LANE_THR : Nat := 95
def N_TRK_LANE_CNT : Nat := 96
def N_TRK_PORT_CFG : Nat := 97
def N_TRK_PORT_STAT : Nat := 98
def N_TRK_PORT_MAC : Nat := 99
def N_TRK_CNT_FEC : Nat := 100
def N_TRK_CNT_RX : Nat := 101
def N_TRK_CNT_TX : Nat := 102
def N_TRK_TT_CFG : Nat := 103
def N_TRK_TT_DOM : Nat := 104
def N_TRK_TT_DELAY : Nat := 105
def N_TRK_TT_CNT : Nat := 106
def N_TRK_MSEC_CFG : Nat := 107
def N_TRK_MSEC_WIN : Nat := 108
def N_TRK_MSEC_TXSCI : Nat := 109
def N_TRK_MSEC_RXSCI : Nat := 110
def N_TRK_MSEC_SA : Nat := 111
def N_TRK_MSEC_TXPN : Nat := 112
def N_TRK_MSEC_CNT : Nat := 113
def N_CRS_CTRL : Nat := 114
def N_CRS_STAT : Nat := 115
def N_CRS_IDENT : Nat := 116
def N_CRS_OWN : Nat := 117
def N_CRS_RIGHTS : Nat := 118
def N_CRS_XLT : Nat := 119
def N_CRS_EVT_EN : Nat := 120
def N_CRS_EVT_LVL : Nat := 121
def N_CRS_EVT_PEND : Nat := 122
def N_CRS_EVT_DUP : Nat := 123
def N_CRS_TCMP : Nat := 124
def N_CRS_SWEVT : Nat := 125
def N_CRS_BUSY : Nat := 126
def N_CRS_STALL : Nat := 127
def N_CRS_FAULT : Nat := 128
def N_CRS_TXR_CFG : Nat := 129
def N_CRS_RXR_CFG : Nat := 130
def N_CRS_TXR_PTR : Nat := 131
def N_CRS_RXR_PTR : Nat := 132
def N_CRS_RING_CNT : Nat := 133
def N_CRS_MSG : Nat := 134
def N_CRS_MSG_SEND : Nat := 135
def N_CRS_MSG_STAT : Nat := 136
def N_CRS_Q_POP : Nat := 137
def N_CRS_HOOK : Nat := 138
def N_CRS_HOOK_WR : Nat := 139
def N_CRS_Q_CFG : Nat := 140
def N_CRS_Q_PTR : Nat := 141
def N_CRS_GSTART : Nat := 142
def N_CRS_DIR_CNT : Nat := 143
def N_FRT_GMASK : Nat := 144
def N_FRT_GSTART : Nat := 145
def N_FRT_PIN : Nat := 146
def N_FRT_CTRL : Nat := 147
def N_FRT_STAT : Nat := 148
def N_FRT_CFG : Nat := 149
def N_FRT_RELOAD : Nat := 150
def N_FRT_QCFG : Nat := 151
def N_FRT_INSEL : Nat := 152
def N_FRT_TCMP : Nat := 153
def N_FRT_TSTEP : Nat := 154
def N_FRT_TXQ : Nat := 155
def N_FRT_RXQ : Nat := 156
def N_FRT_QSTAT : Nat := 157
def N_FRT_DBG : Nat := 158
def N_FRT_CNT : Nat := 159
def N_FRT_SSEL : Nat := 160
def N_AMB_CH_CTRL : Nat := 161
def N_AMB_CH_CFG : Nat := 162
def N_AMB_NBT : Nat := 163
def N_AMB_DBT : Nat := 164
def N_AMB_TDC : Nat := 165
def N_AMB_CH_STAT : Nat := 166
def N_AMB_ERRC : Nat := 167
def N_AMB_TXB_CFG : Nat := 168
def N_AMB_TX_REQ : Nat := 169
def N_AMB_TX_CANCEL : Nat := 170
def N_AMB_TX_PEND : Nat := 171
def N_AMB_TX_DONE : Nat := 172
def N_AMB_RXQ_CFG : Nat := 173
def N_AMB_RXQ_PTR : Nat := 174
def N_AMB_RXQ_ACK : Nat := 175
def N_AMB_WAKE_ID : Nat := 176
def N_AMB_WAKE_DATA : Nat := 177
def N_AMB_WAKE_DMASK : Nat := 178
def N_AMB_REF_CFG : Nat := 179
def N_AMB_REF_PERIOD : Nat := 180
def N_AMB_REF_BASE : Nat := 181
def N_AMB_REF_STAT : Nat := 182
def N_AMB_REF_TS : Nat := 183
def N_AMB_CNT0 : Nat := 184
def N_AMB_CNT1 : Nat := 185
def N_AMB_FLT : Nat := 186
def N_AMB_AO_CFG : Nat := 187
def N_AMB_AO_STAT : Nat := 188
def N_TTB_CL_T0 : Nat := 189
def N_TTB_CL_T1 : Nat := 190
def N_TTB_CL_T2 : Nat := 191
def N_TTB_CL_T3 : Nat := 192
def N_TTB_CL_T4 : Nat := 193
def N_TTB_CL_SYNC : Nat := 194
def N_TTB_CL_SYNC2 : Nat := 195
def N_TTB_KEY : Nat := 196
def N_TTB_BUF_CFG : Nat := 197
def N_TTB_POC_CMD : Nat := 198
def N_TTB_POC_STAT : Nat := 199
def N_TTB_SYNC_STAT : Nat := 200
def N_TTB_ALIGN : Nat := 201
def N_TTB_ALIGN_EXT : Nat := 202
def N_TTB_ALIGN_STAT : Nat := 203
def N_TTB_CYC_TS : Nat := 204
def N_TTB_MODE_CTRL : Nat := 205
def N_TTB_MODE_VALID : Nat := 206
def N_TTB_MODE_STAT : Nat := 207
def N_TTB_CNT0 : Nat := 208
def N_TTB_CNT1 : Nat := 209
def N_TTB_AO_CFG : Nat := 210
def N_TTB_AO_STAT : Nat := 211
def N_FIO_CTRL : Nat := 212
def N_FIO_SBASE : Nat := 213
def N_FIO_STAT : Nat := 214
def N_FIO_WDOG : Nat := 215
def N_FIO_IN : Nat := 216
def N_FIO_IN_SNAP : Nat := 217
def N_FIO_IN_WB : Nat := 218
def N_FIO_IN_WBL : Nat := 219
def N_FIO_CPL : Nat := 220
def N_FIO_OUT : Nat := 221
def N_FIO_OUT_ST : Nat := 222
def N_FIO_OUT_FLT : Nat := 223
def N_FIO_OUT_OFFS : Nat := 224
def N_FIO_CNT : Nat := 225
def N_FIO_IN_CFG : Nat := 226
def N_FIO_OUT_CFG : Nat := 227
def N_MKC_CTRL : Nat := 228
def N_MKC_IN_CFG : Nat := 229
def N_MKC_IN_TS : Nat := 230
def N_MKC_ADC_THR : Nat := 231
def N_MKC_ADC_LAST : Nat := 232
def N_MKC_SEQ_CFG : Nat := 233
def N_MKC_SEQ_DELAY : Nat := 234
def N_MKC_SEQ_LEN : Nat := 235
def N_MKC_SEQ_N : Nat := 236
def N_MKC_SEQ_RING : Nat := 237
def N_MKC_SEQ_PTR : Nat := 238
def N_MKC_SEQ_ACK : Nat := 239
def N_MKC_LOG_ACK : Nat := 240
def N_MKC_SEQ_STAT : Nat := 241
def N_MKC_SEQ_CNT : Nat := 242
def N_MKC_LOG_PTR : Nat := 243
def N_MKC_LOG : Nat := 244
def N_EVT_ROUTE : Nat := 245
def N_EVT_VEC_MOD : Nat := 246
def N_EVT_SEEN : Nat := 247
def N_EVT_LOG_CFG : Nat := 248
def N_EVT_LOG_ADDR : Nat := 249
def N_EVT_LOG_PTR : Nat := 250
def N_EVT_LOG_ACK : Nat := 251
def N_EVT_CNT : Nat := 252
def N_XLT_CFG : Nat := 253
def N_XLT_PEER_BASE : Nat := 254
def N_XLT_PEER_LIMIT : Nat := 255
def N_XLT_INV : Nat := 256
def N_XLT_INV_RANGE : Nat := 257
def N_XLT_TLB_CNT : Nat := 258
def N_XLT_CTX_CFG : Nat := 259
def N_XLT_CTX_PASID : Nat := 260
def N_XLT_CTX_ROOT : Nat := 261
def N_XLT_FQ_CFG : Nat := 262
def N_XLT_FQ_PTR : Nat := 263
def N_XLT_FQ_ACK : Nat := 264
def N_XLT_FQ_LOST : Nat := 265
def N_XLT_STR_CFG : Nat := 266
def N_XLT_STR_RING : Nat := 267
def N_XLT_STR_PTR : Nat := 268
def N_XLT_STR_CTRL : Nat := 269
def N_XLT_STR_STAT : Nat := 270
def N_HIF_DB_CMD : Nat := 271
def N_HIF_DB_STS : Nat := 272
def N_HIF_RING_CTRL : Nat := 273
def N_HIF_RING_CMD : Nat := 274
def N_HIF_RING_STS : Nat := 275
def N_HIF_RING_WB : Nat := 276
def N_HIF_RING_STAT : Nat := 277
def N_HIF_PF_SEC : Nat := 278
def N_HIF_CNT : Nat := 279
def N_HIF_RING_OWN : Nat := 280
def N_HIF_VF_CFG : Nat := 281
def N_WKT_CTL_AB : Nat := 282
def N_WKT_CTL_BA : Nat := 283
def N_WKT_CFG : Nat := 284
def N_WKT_MODE : Nat := 285
def N_WKT_STAT : Nat := 286
def N_TRB_CFG : Nat := 287
def N_TRB_STAT : Nat := 288
def N_TRB_RETRY : Nat := 289
def N_TRB_ERR : Nat := 290
def N_TRB_CNT : Nat := 291
def N_TRB_SB_CFG : Nat := 292
def N_TRB_SB_STAT : Nat := 293
def N_TRB_SB_TS : Nat := 294
def N_TRB_WIN : Nat := 295
def N_TRB_WIN_CFG : Nat := 296
def N_TRB_WIN_TIM : Nat := 297
def N_LDG_CTRL : Nat := 298
def N_LDG_STAT : Nat := 299
def N_LDG_WCLS : Nat := 300
def N_LDG_QUOTA : Nat := 301
def N_LDG_STAGED : Nat := 302
def N_LDG_FLUSH : Nat := 303
def N_LDG_SPARES : Nat := 304
def N_LDG_CAP : Nat := 305
def N_LDG_ECC : Nat := 306
def N_LDG_ERR : Nat := 307
def N_LDG_PF : Nat := 308
def N_PCS_LC : Nat := 309
def N_PCS_CTRL : Nat := 310
def N_PCS_STAT : Nat := 311
def N_PCS_CC_GATE : Nat := 312
def N_PCS_TMP_EN : Nat := 313
def N_PCS_TMP_CFG : Nat := 314
def N_PCS_TMP_STAT : Nat := 315
def N_PCS_TMP_LOG : Nat := 316
def N_PCS_FUSE : Nat := 317
def N_PCS_BOOT : Nat := 318
def N_PCS_CNT : Nat := 319
def N_PWR_CAP : Nat := 320
def N_PWR_BUDGET : Nat := 321
def N_PWR_TOTAL : Nat := 322
def N_PWR_STAT : Nat := 323
def N_PWR_FEED_CFG : Nat := 324
def N_PWR_PF : Nat := 325
def N_PWR_PF_STAT : Nat := 326
def N_PWR_RAIL : Nat := 327
def N_PWR_BG : Nat := 328
def N_PWR_FEED : Nat := 329
def N_RDN_CFG : Nat := 330
def N_RDN_CLAIM : Nat := 331
def N_RDN_STAT : Nat := 332
def N_RDN_HOLD : Nat := 333
def N_RDN_PORT_GATE : Nat := 334
def N_RDN_FRT_GATE : Nat := 335
def N_RDN_MIR_CFG : Nat := 336
def N_RDN_TEST : Nat := 337
def N_RDN_CNT : Nat := 338
def N_RDN_LAST_SW : Nat := 339
def N_RDN_MIR : Nat := 340
def N_RST_CAUSE : Nat := 341
def N_RST_CTRL : Nat := 342
def N_RST_HOST : Nat := 343
def N_RST_BOOT : Nat := 344
def N_RST_WDOG : Nat := 345
def N_RST_FATAL : Nat := 346
def N_PWR_TJ : Nat := 347

/-- Registers 0 to 28 of the tables. -/
def regTable0 : List RegInfo := [
  ⟨0, "CLK_STAT", 0x40100800, 32, [], [CLK_STAT_ROOT_LOCK, CLK_STAT_REF_OK, CLK_STAT_HOLDOVER, CLK_STAT_BACKUP_OSC, CLK_STAT_SERDES_REF_OK, CLK_STAT_PCIE_REF_OK]⟩,
  ⟨1, "CLK_HOLD_LIMIT", 0x40100804, 32, [], [CLK_HOLD_LIMIT_LIMIT]⟩,
  ⟨2, "DEV_ID", 0x40000000, 32, [], [DEV_ID_ID]⟩,
  ⟨3, "DEV_STEP", 0x40000004, 32, [], [DEV_STEP_MINOR, DEV_STEP_MAJOR]⟩,
  ⟨4, "DEV_RES0", 0x40000010, 32, [], [DEV_RES0_COURSES, DEV_RES0_FRETS, DEV_RES0_FIELD_PORTS, DEV_RES0_TRUNK_LANES]⟩,
  ⟨5, "DEV_RES1", 0x40000014, 32, [], [DEV_RES1_AMB_CHANNELS, DEV_RES1_TTB_CLUSTERS, DEV_RES1_FIO_INPUTS, DEV_RES1_FIO_OUTPUTS, DEV_RES1_MARK_INPUTS, DEV_RES1_ADC_CHANNELS]⟩,
  ⟨6, "DEV_CAP", 0x40000018, 32, [], [DEV_CAP_TRUNK, DEV_CAP_MACSEC, DEV_CAP_REDUNDANCY, DEV_CAP_FIELD_IO, DEV_CAP_RESUMABLE, DEV_CAP_L1_CACHE, DEV_CAP_DEBUG_OPEN]⟩,
  ⟨7, "DEV_HUB", 0x40000020, 32, [], [DEV_HUB_HUB_NUM, DEV_HUB_LINE_ID]⟩,
  ⟨8, "DEV_LOCK", 0x40000024, 32, [], [DEV_LOCK_LOCK]⟩,
  ⟨9, "TMB_CTRL", 0x40300000, 32, [], [TMB_CTRL_CORR_EN, TMB_CTRL_VAR_TRACK_EN, TMB_CTRL_ASYM_EVT, TMB_CTRL_LOCK]⟩,
  ⟨10, "TMB_SNAP", 0x40300004, 32, [], [TMB_SNAP_SNAP]⟩,
  ⟨11, "TMB_SUMMARY", 0x40300008, 32, [], [TMB_SUMMARY_LOCKED, TMB_SUMMARY_HOLDOVER]⟩,
  ⟨12, "TMB_PTPMAP", 0x40300200, 16, [(0x2, 256)], [TMB_PTPMAP_DOM, TMB_PTPMAP_MAJOR_SDO, TMB_PTPMAP_VALID]⟩,
  ⟨13, "TMB_DOM_CFG", 0x40301000, 32, [(0x100, 16)], [TMB_DOM_CFG_MODE, TMB_DOM_CFG_STEP_EN, TMB_DOM_CFG_SRC_PORT]⟩,
  ⟨14, "TMB_DOM_TIME", 0x40301008, 64, [(0x100, 16)], [TMB_DOM_TIME_NS, TMB_DOM_TIME_FRAC]⟩,
  ⟨15, "TMB_DOM_INC", 0x40301010, 64, [(0x100, 16)], [TMB_DOM_INC_FRAC, TMB_DOM_INC_NS]⟩,
  ⟨16, "TMB_DOM_STEP", 0x40301018, 64, [(0x100, 16)], [TMB_DOM_STEP_STEP]⟩,
  ⟨17, "TMB_DOM_SERVO", 0x40301020, 32, [(0x100, 16)], [TMB_DOM_SERVO_KP_ACQ, TMB_DOM_SERVO_KI_ACQ, TMB_DOM_SERVO_KP_LOCK, TMB_DOM_SERVO_KI_LOCK, TMB_DOM_SERVO_SLEW_MAX]⟩,
  ⟨18, "TMB_DOM_THRESH", 0x40301024, 32, [(0x100, 16)], [TMB_DOM_THRESH_LOCK_THR, TMB_DOM_THRESH_UNLOCK_THR, TMB_DOM_THRESH_GATE, TMB_DOM_THRESH_STEP_THR]⟩,
  ⟨19, "TMB_DOM_LOCKCNT", 0x40301028, 32, [(0x100, 16)], [TMB_DOM_LOCKCNT_LOCK_N, TMB_DOM_LOCKCNT_UNLOCK_M, TMB_DOM_LOCKCNT_HOLD_MS]⟩,
  ⟨20, "TMB_DOM_SMPT", 0x40301030, 32, [(0x100, 16)], [TMB_DOM_SMPT_TS]⟩,
  ⟨21, "TMB_DOM_SAMPLE", 0x40301038, 64, [(0x100, 16)], [TMB_DOM_SAMPLE_OFFSET, TMB_DOM_SAMPLE_PORT]⟩,
  ⟨22, "TMB_DOM_STAT", 0x40301040, 32, [(0x100, 16)], [TMB_DOM_STAT_STATE, TMB_DOM_STAT_EPOCH_STALE]⟩,
  ⟨23, "TMB_DOM_OFFS", 0x40301044, 32, [(0x100, 16)], [TMB_DOM_OFFS_THETA]⟩,
  ⟨24, "TMB_DOM_CNT0", 0x40301050, 32, [(0x100, 16)], [TMB_DOM_CNT0_ACCEPTED, TMB_DOM_CNT0_REJECTED]⟩,
  ⟨25, "TMB_DOM_CNT1", 0x40301054, 32, [(0x100, 16)], [TMB_DOM_CNT1_STALE, TMB_DOM_CNT1_STEP_BLOCKED, TMB_DOM_CNT1_EPOCH_DROP]⟩,
  ⟨26, "TMB_DOM_EPOCH", 0x40301058, 64, [(0x100, 16)], [TMB_DOM_EPOCH_SECONDS]⟩,
  ⟨27, "TMB_DOM_EPOCH_REF", 0x40301060, 32, [(0x100, 16)], [TMB_DOM_EPOCH_REF_REF_NS]⟩,
  ⟨28, "TMB_DOM_SNAP", 0x40301068, 64, [(0x100, 16)], [TMB_DOM_SNAP_NS, TMB_DOM_SNAP_FRAC]⟩]

/-- Registers 29 to 57 of the tables. -/
def regTable1 : List RegInfo := [
  ⟨29, "TMB_PCFG", 0x40303000, 32, [(0x10, 40)], [TMB_PCFG_DEF_DOM, TMB_PCFG_TC_EN]⟩,
  ⟨30, "TMB_PUSER", 0x40303004, 32, [(0x10, 40)], [TMB_PUSER_USER_TX, TMB_PUSER_USER_RX]⟩,
  ⟨31, "TMB_PVAR", 0x40303008, 32, [(0x10, 40)], [TMB_PVAR_VAR_TX, TMB_PVAR_VAR_RX]⟩,
  ⟨32, "TMB_PBASE", 0x4030300C, 32, [(0x10, 40)], [TMB_PBASE_BASE_TX, TMB_PBASE_BASE_RX]⟩,
  ⟨33, "LIM_CYC_CTRL", 0x40400000, 32, [], [LIM_CYC_CTRL_RUN, LIM_CYC_CTRL_DOM, LIM_CYC_CTRL_LOCK]⟩,
  ⟨34, "LIM_CYC_PERIOD", 0x40400004, 32, [], [LIM_CYC_PERIOD_PERIOD]⟩,
  ⟨35, "LIM_CYC_START", 0x40400008, 32, [], [LIM_CYC_START_START]⟩,
  ⟨36, "LIM_CYC_NUM0", 0x4040000C, 32, [], [LIM_CYC_NUM0_NUM0]⟩,
  ⟨37, "LIM_CYC_NUM", 0x40400010, 32, [], [LIM_CYC_NUM_NUM]⟩,
  ⟨38, "LIM_CYC_CHG", 0x40400018, 64, [], [LIM_CYC_CHG_NEW_PERIOD, LIM_CYC_CHG_AT]⟩,
  ⟨39, "LIM_STAT", 0x40400020, 32, [], [LIM_STAT_RUNNING, LIM_STAT_FILL_HALF, LIM_STAT_STATUS_PEND, LIM_STAT_CHG_PEND, LIM_STAT_COMMIT_PEND, LIM_STAT_CHG_REJ, LIM_STAT_START_ERR]⟩,
  ⟨40, "LIM_BASE", 0x40400030, 32, [], [LIM_BASE_BASE, LIM_BASE_SLOTS_K]⟩,
  ⟨41, "LIM_CNT0", 0x40400040, 32, [], [LIM_CNT0_OUT_WR, LIM_CNT0_SLICE_DROP]⟩,
  ⟨42, "LIM_CNT1", 0x40400044, 32, [], [LIM_CNT1_STALE_LAST]⟩,
  ⟨43, "LIM_TAB_COMMIT", 0x40400100, 64, [], [LIM_TAB_COMMIT_PORTS, LIM_TAB_COMMIT_SLICES, LIM_TAB_COMMIT_CANCEL, LIM_TAB_COMMIT_GO]⟩,
  ⟨44, "LIM_TAB_CTRL", 0x40401000, 32, [(0x20, 33)], [LIM_TAB_CTRL_COUNT, LIM_TAB_CTRL_DONE, LIM_TAB_CTRL_COPY, LIM_TAB_CTRL_REOPEN]⟩,
  ⟨45, "LIM_TAB_CRC", 0x40401004, 32, [(0x20, 33)], [LIM_TAB_CRC_CRC]⟩,
  ⟨46, "LIM_TAB_STAT", 0x40401008, 32, [(0x20, 33)], [LIM_TAB_STAT_STATE, LIM_TAB_STAT_FAIL_WHY, LIM_TAB_STAT_DEFER, LIM_TAB_STAT_WR_LOCKED]⟩,
  ⟨47, "LIM_PCNT", 0x4040100C, 32, [(0x20, 32)], [LIM_PCNT_STRADDLE, LIM_PCNT_FCS_STALE, LIM_PCNT_SINGLE_COPY, LIM_PCNT_NO_COPY]⟩,
  ⟨48, "SBD_CTRL", 0x40500000, 32, [], [SBD_CTRL_EN, SBD_CTRL_SCRUB_S, SBD_CTRL_LOCK]⟩,
  ⟨49, "SBD_RSV", 0x40500010, 32, [(0x4, 4)], [SBD_RSV_BASE, SBD_RSV_SIZE]⟩,
  ⟨50, "SBD_POOL", 0x40500040, 64, [], [SBD_POOL_FREE, SBD_POOL_TOTAL]⟩,
  ⟨51, "SBD_ECC", 0x40500048, 32, [], [SBD_ECC_CORR, SBD_ECC_UNCORR]⟩,
  ⟨52, "SBD_STAT", 0x4050004C, 32, [], [SBD_STAT_SCRUB_LATE, SBD_STAT_CFG_ERR, SBD_STAT_POOL_WR]⟩,
  ⟨53, "SBD_QCFG", 0x40500100, 32, [], [SBD_QCFG_HEADROOM]⟩,
  ⟨54, "SBD_QLOW", 0x40500104, 32, [], [SBD_QLOW_LOW]⟩,
  ⟨55, "SBD_FLOW_CTRL", 0x40500200, 32, [], [SBD_FLOW_CTRL_DONE, SBD_FLOW_CTRL_COPY, SBD_FLOW_CTRL_REOPEN]⟩,
  ⟨56, "SBD_FLOW_CRC", 0x40500204, 32, [], [SBD_FLOW_CRC_CRC]⟩,
  ⟨57, "SBD_FLOW_STAT", 0x40500208, 32, [], [SBD_FLOW_STAT_STATE, SBD_FLOW_STAT_FAIL_WHY, SBD_FLOW_STAT_PEND, SBD_FLOW_STAT_DEFER, SBD_FLOW_STAT_WR_LOCKED]⟩]

/-- Registers 58 to 86 of the tables. -/
def regTable2 : List RegInfo := [
  ⟨58, "SBD_FLOW_COMMIT", 0x4050020C, 32, [], [SBD_FLOW_COMMIT_GO, SBD_FLOW_COMMIT_CANCEL]⟩,
  ⟨59, "SBD_ARD_SEL", 0x40500300, 32, [], [SBD_ARD_SEL_ENTRY, SBD_ARD_SEL_TABLE]⟩,
  ⟨60, "SBD_MIR_CFG", 0x40500400, 32, [(0x10, 4)], [SBD_MIR_CFG_NM1, SBD_MIR_CFG_EN, SBD_MIR_CFG_DIR, SBD_MIR_CFG_TC, SBD_MIR_CFG_DEST]⟩,
  ⟨61, "SBD_MIR_SRC", 0x40500408, 64, [(0x10, 4)], [SBD_MIR_SRC_PORTS, SBD_MIR_SRC_FLOW]⟩,
  ⟨62, "SBD_FDB_CFG", 0x40500600, 32, [], [SBD_FDB_CFG_AGE_S]⟩,
  ⟨63, "SBD_FDB_STAT", 0x40500604, 32, [], [SBD_FDB_STAT_USED, SBD_FDB_STAT_LEARN_FAIL]⟩,
  ⟨64, "SBD_PORT_CFG", 0x40502000, 32, [(0x200, 73)], [SBD_PORT_CFG_FLOW_KEYS, SBD_PORT_CFG_MISS_ACT, SBD_PORT_CFG_SLOW_COURSE, SBD_PORT_CFG_SLOW_CC, SBD_PORT_CFG_FHASH_SEL, SBD_PORT_CFG_CT_EN, SBD_PORT_CFG_LEARN, SBD_PORT_CFG_ING_FILT, SBD_PORT_CFG_PVID]⟩,
  ⟨65, "SBD_PORT_PCPMAP", 0x40502004, 32, [(0x200, 73)], [SBD_PORT_PCPMAP_TC, SBD_PORT_PCPMAP_DEF_PCP]⟩,
  ⟨66, "SBD_PORT_PREEMPT", 0x40502008, 32, [(0x200, 73)], [SBD_PORT_PREEMPT_PREEMPTABLE, SBD_PORT_PREEMPT_ADD_FRAG, SBD_PORT_PREEMPT_VERIFY_DIS, SBD_PORT_PREEMPT_STATUS]⟩,
  ⟨67, "SBD_LVR_CTRL", 0x40502010, 32, [(0x200, 73)], [SBD_LVR_CTRL_COUNT, SBD_LVR_CTRL_EN, SBD_LVR_CTRL_DOM, SBD_LVR_CTRL_DONE, SBD_LVR_CTRL_COPY, SBD_LVR_CTRL_REOPEN, SBD_LVR_CTRL_GO, SBD_LVR_CTRL_CANCEL, SBD_LVR_CTRL_ADMIN_GATES]⟩,
  ⟨68, "SBD_LVR_CT", 0x40502014, 32, [(0x200, 73)], [SBD_LVR_CT_CT]⟩,
  ⟨69, "SBD_LVR_BASE", 0x40502018, 32, [(0x200, 73)], [SBD_LVR_BASE_BASE]⟩,
  ⟨70, "SBD_LVR_CRC", 0x4050201C, 32, [(0x200, 73)], [SBD_LVR_CRC_CRC]⟩,
  ⟨71, "SBD_LVR_STAT", 0x40502020, 32, [(0x200, 73)], [SBD_LVR_STAT_STATE, SBD_LVR_STAT_FAIL_WHY, SBD_LVR_STAT_PEND, SBD_LVR_STAT_ACTIVE, SBD_LVR_STAT_DEFER, SBD_LVR_STAT_WR_LOCKED]⟩,
  ⟨72, "SBD_QCLASS", 0x40502040, 32, [(0x200, 73), (0x4, 8)], [SBD_QCLASS_MIN, SBD_QCLASS_ALPHA, SBD_QCLASS_RES_LIMIT]⟩,
  ⟨73, "SBD_QCNT", 0x40502080, 64, [(0x200, 73), (0x8, 8)], [SBD_QCNT_ADMIT_DROP, SBD_QCNT_AGE_DROP]⟩,
  ⟨74, "SBD_PCNT", 0x405020C0, 64, [(0x200, 73)], [SBD_PCNT_MISS_DEFAULT, SBD_PCNT_CT_BAD, SBD_PCNT_LINK_DROP]⟩,
  ⟨75, "MAC_CFG", 0x40600000, 32, [(0x4000, 32)], [MAC_CFG_EN, MAC_CFG_MODE, MAC_CFG_AN_EN, MAC_CFG_SPEED, MAC_CFG_HDX, MAC_CFG_FCS_STRIP, MAC_CFG_RING_ROLE, MAC_CFG_RING_PEER, MAC_CFG_TAG_BY_COURSE, MAC_CFG_LOCK]⟩,
  ⟨76, "MAC_MAXLEN", 0x40600004, 32, [(0x4000, 32)], [MAC_MAXLEN_MAX_LEN]⟩,
  ⟨77, "MAC_STAT", 0x40600010, 32, [(0x4000, 32)], [MAC_STAT_LINK, MAC_STAT_SPEED, MAC_STAT_FDX, MAC_STAT_LANE, MAC_STAT_TX_READY, MAC_STAT_AN_DONE, MAC_STAT_CFG_ERR, MAC_STAT_CYC_BANK, MAC_STAT_LATE_WHY, MAC_STAT_MARGIN]⟩,
  ⟨78, "MAC_LANE", 0x40600014, 32, [(0x4000, 32)], [MAC_LANE_THRESH, MAC_LANE_FLOOR, MAC_LANE_RECOVER_N, MAC_LANE_RETRAIN_REQ]⟩,
  ⟨79, "MAC_EB", 0x40600018, 32, [(0x4000, 32)], [MAC_EB_EXCESS, MAC_EB_PEAK]⟩,
  ⟨80, "MAC_CYC_CTRL", 0x40600040, 32, [(0x4000, 32)], [MAC_CYC_CTRL_EN, MAC_CYC_CTRL_BANK_NEXT, MAC_CYC_CTRL_FOLLOW_COMMIT, MAC_CYC_CTRL_LATE_MAX]⟩,
  ⟨81, "MAC_CNT_RX", 0x40600080, 64, [(0x4000, 32)], [MAC_CNT_RX_RX_OK, MAC_CNT_RX_RX_FCS, MAC_CNT_RX_RX_LEN]⟩,
  ⟨82, "MAC_CNT_RX2", 0x40600088, 64, [(0x4000, 32)], [MAC_CNT_RX2_RX_CSUM, MAC_CNT_RX2_RX_PAUSE, MAC_CNT_RX2_RX_CYCLIC]⟩,
  ⟨83, "MAC_CNT_TX", 0x40600090, 64, [(0x4000, 32)], [MAC_CNT_TX_TX_OK, MAC_CNT_TX_TX_LATE_DROP, MAC_CNT_TX_TX_NOT_READY]⟩,
  ⟨84, "MAC_CNT_PT", 0x40600098, 64, [(0x4000, 32)], [MAC_CNT_PT_PT_FWD, MAC_CNT_PT_ELASTIC_OVERRUN, MAC_CNT_PT_PT_LATE, MAC_CNT_PT_PT_BAD, MAC_CNT_PT_HDX_DISCARD]⟩,
  ⟨85, "MAC_CNT_LANE", 0x406000A0, 32, [(0x4000, 32)], [MAC_CNT_LANE_RETRAINS, MAC_CNT_LANE_DEGRADES]⟩,
  ⟨86, "MAC_SCAN_CTRL", 0x40600300, 32, [(0x4000, 32)], [MAC_SCAN_CTRL_GO, MAC_SCAN_CTRL_ABORT, MAC_SCAN_CTRL_CHG_EN, MAC_SCAN_CTRL_TC, MAC_SCAN_CTRL_MAXHOP, MAC_SCAN_CTRL_TMO]⟩]

/-- Registers 87 to 115 of the tables. -/
def regTable3 : List RegInfo := [
  ⟨87, "MAC_SCAN_TPL", 0x40600308, 64, [(0x4000, 32)], [MAC_SCAN_TPL_OFFSET, MAC_SCAN_TPL_LEN, MAC_SCAN_TPL_HOP_OFF]⟩,
  ⟨88, "MAC_SCAN_RSP", 0x40600310, 32, [(0x4000, 32)], [MAC_SCAN_RSP_ID_OFF, MAC_SCAN_RSP_CHG_OFF]⟩,
  ⟨89, "MAC_SCAN_STAT", 0x40600318, 32, [(0x4000, 32)], [MAC_SCAN_STAT_STATE, MAC_SCAN_STAT_RESTARTED, MAC_SCAN_STAT_NODES, MAC_SCAN_STAT_CONFIRMED, MAC_SCAN_STAT_FROM_PORT]⟩,
  ⟨90, "TRK_GRP_CFG", 0x40700010, 32, [(0x10, 2)], [TRK_GRP_CFG_EN, TRK_GRP_CFG_SPLIT]⟩,
  ⟨91, "TRK_SLICE_DA", 0x40700040, 64, [], [TRK_SLICE_DA_DA]⟩,
  ⟨92, "TRK_SLICE_TAG", 0x40700048, 32, [], [TRK_SLICE_TAG_ETYPE, TRK_SLICE_TAG_VID, TRK_SLICE_TAG_LOCK]⟩,
  ⟨93, "TRK_LANE_CFG", 0x40701000, 32, [(0x100, 8)], [TRK_LANE_CFG_RATE, TRK_LANE_CFG_IF, TRK_LANE_CFG_AN_EN, TRK_LANE_CFG_FALLBACK, TRK_LANE_CFG_TX_INV, TRK_LANE_CFG_RX_INV]⟩,
  ⟨94, "TRK_LANE_STAT", 0x40701004, 32, [(0x100, 8)], [TRK_LANE_STAT_LANE, TRK_LANE_STAT_SYNTH_LOCK, TRK_LANE_STAT_RATE, TRK_LANE_STAT_MARGIN]⟩,
  ⟨95, "TRK_LANE_THR", 0x40701008, 32, [(0x100, 8)], [TRK_LANE_THR_THRESH, TRK_LANE_THR_FLOOR, TRK_LANE_THR_RECOVER_N, TRK_LANE_THR_RETRAIN_REQ]⟩,
  ⟨96, "TRK_LANE_CNT", 0x40701010, 32, [(0x100, 8)], [TRK_LANE_CNT_RETRAINS, TRK_LANE_CNT_DEGRADES]⟩,
  ⟨97, "TRK_PORT_CFG", 0x40704000, 32, [(0x400, 8)], [TRK_PORT_CFG_EN, TRK_PORT_CFG_FACING, TRK_PORT_CFG_SLICE_EN, TRK_PORT_CFG_MAX_LEN, TRK_PORT_CFG_UNCORR_MAX]⟩,
  ⟨98, "TRK_PORT_STAT", 0x40704004, 32, [(0x400, 8)], [TRK_PORT_STAT_LINK, TRK_PORT_STAT_TX_READY, TRK_PORT_STAT_LIVE, TRK_PORT_STAT_ALIGNED, TRK_PORT_STAT_FEC_LOCK, TRK_PORT_STAT_CFG_ERR, TRK_PORT_STAT_LATE_WHY]⟩,
  ⟨99, "TRK_PORT_MAC", 0x40704008, 64, [(0x400, 8)], [TRK_PORT_MAC_MAC]⟩,
  ⟨100, "TRK_CNT_FEC", 0x40704018, 64, [(0x400, 8)], [TRK_CNT_FEC_CORR, TRK_CNT_FEC_UNCORR]⟩,
  ⟨101, "TRK_CNT_RX", 0x40704020, 64, [(0x400, 8)], [TRK_CNT_RX_RX_OK, TRK_CNT_RX_RX_ERR, TRK_CNT_RX_LINE_DROP]⟩,
  ⟨102, "TRK_CNT_TX", 0x40704030, 64, [(0x400, 8)], [TRK_CNT_TX_TX_OK, TRK_CNT_TX_TX_LATE_DROP]⟩,
  ⟨103, "TRK_TT_CFG", 0x40704040, 32, [(0x400, 8)], [TRK_TT_CFG_EN, TRK_TT_CFG_LOG_INT, TRK_TT_CFG_TC, TRK_TT_CFG_ASYM]⟩,
  ⟨104, "TRK_TT_DOM", 0x40704044, 32, [(0x400, 8)], [TRK_TT_DOM_SLAVE, TRK_TT_DOM_MASTER]⟩,
  ⟨105, "TRK_TT_DELAY", 0x40704048, 32, [(0x400, 8)], [TRK_TT_DELAY_DELAY]⟩,
  ⟨106, "TRK_TT_CNT", 0x40704050, 64, [(0x400, 8)], [TRK_TT_CNT_SAMPLES, TRK_TT_CNT_LOST, TRK_TT_CNT_REFUSED]⟩,
  ⟨107, "TRK_MSEC_CFG", 0x40704080, 32, [(0x400, 8)], [TRK_MSEC_CFG_EN, TRK_MSEC_CFG_CONF, TRK_MSEC_CFG_VALIDATE, TRK_MSEC_CFG_REPLAY_PROTECT, TRK_MSEC_CFG_PN_THR, TRK_MSEC_CFG_TX_AN]⟩,
  ⟨108, "TRK_MSEC_WIN", 0x40704084, 32, [(0x400, 8)], [TRK_MSEC_WIN_WINDOW]⟩,
  ⟨109, "TRK_MSEC_TXSCI", 0x40704088, 64, [(0x400, 8)], [TRK_MSEC_TXSCI_SCI]⟩,
  ⟨110, "TRK_MSEC_RXSCI", 0x40704090, 64, [(0x400, 8), (0x8, 4)], [TRK_MSEC_RXSCI_SCI]⟩,
  ⟨111, "TRK_MSEC_SA", 0x407040B0, 32, [(0x400, 8)], [TRK_MSEC_SA_TX_SA, TRK_MSEC_SA_RX_SA, TRK_MSEC_SA_RXSC_EN]⟩,
  ⟨112, "TRK_MSEC_TXPN", 0x407040B8, 64, [(0x400, 8)], [TRK_MSEC_TXPN_PN]⟩,
  ⟨113, "TRK_MSEC_CNT", 0x407040C0, 64, [(0x400, 8)], [TRK_MSEC_CNT_PROTECTED, TRK_MSEC_CNT_NOT_VALID, TRK_MSEC_CNT_LATE]⟩,
  ⟨114, "CRS_CTRL", 0x40800000, 32, [(0x4000, 32)], [CRS_CTRL_START, CRS_CTRL_STOP, CRS_CTRL_HALT_PORTS, CRS_CTRL_WDOG_N, CRS_CTRL_WDOG_KICK]⟩,
  ⟨115, "CRS_STAT", 0x40800004, 32, [(0x4000, 32)], [CRS_STAT_STATE, CRS_STAT_HALT_WHY, CRS_STAT_ECC_CORR]⟩]

/-- Registers 116 to 144 of the tables. -/
def regTable4 : List RegInfo := [
  ⟨116, "CRS_IDENT", 0x40800008, 32, [(0x4000, 32)], [CRS_IDENT_INST, CRS_IDENT_RANK, CRS_IDENT_SIZE]⟩,
  ⟨117, "CRS_OWN", 0x40800010, 32, [(0x4000, 32)], [CRS_OWN_PORTS]⟩,
  ⟨118, "CRS_RIGHTS", 0x40800014, 32, [(0x4000, 32)], [CRS_RIGHTS_TMB_SAMPLE, CRS_RIGHTS_FRT, CRS_RIGHTS_AMB, CRS_RIGHTS_TTB, CRS_RIGHTS_FIO_MKC, CRS_RIGHTS_TRANSOM, CRS_RIGHTS_HOSTMEM, CRS_RIGHTS_LEDGER_READ]⟩,
  ⟨119, "CRS_XLT", 0x40800018, 32, [(0x4000, 32)], [CRS_XLT_CTX, CRS_XLT_EN]⟩,
  ⟨120, "CRS_EVT_EN", 0x40800100, 64, [(0x4000, 32)], [CRS_EVT_EN_EN]⟩,
  ⟨121, "CRS_EVT_LVL", 0x40800108, 64, [(0x4000, 32)], [CRS_EVT_LVL_URGENT]⟩,
  ⟨122, "CRS_EVT_PEND", 0x40800110, 64, [(0x4000, 32)], [CRS_EVT_PEND_PEND]⟩,
  ⟨123, "CRS_EVT_DUP", 0x40800118, 64, [(0x4000, 32)], [CRS_EVT_DUP_DUP]⟩,
  ⟨124, "CRS_TCMP", 0x40800200, 64, [(0x4000, 32), (0x10, 4)], [CRS_TCMP_NS, CRS_TCMP_FRAC, CRS_TCMP_DOM, CRS_TCMP_ARM, CRS_TCMP_FIRED]⟩,
  ⟨125, "CRS_SWEVT", 0x40800300, 32, [(0x4000, 32)], [CRS_SWEVT_RAISE]⟩,
  ⟨126, "CRS_BUSY", 0x40800310, 64, [(0x4000, 32)], [CRS_BUSY_BUSY_LAST, CRS_BUSY_BUSY_MAX]⟩,
  ⟨127, "CRS_STALL", 0x40800318, 64, [(0x4000, 32)], [CRS_STALL_STALL_CYC, CRS_STALL_RETRY, CRS_STALL_RETRY_WAIT]⟩,
  ⟨128, "CRS_FAULT", 0x40800320, 64, [(0x4000, 32)], [CRS_FAULT_ADDR, CRS_FAULT_KIND, CRS_FAULT_VALID]⟩,
  ⟨129, "CRS_TXR_CFG", 0x40800400, 32, [(0x4000, 32)], [CRS_TXR_CFG_BASE, CRS_TXR_CFG_LOG2, CRS_TXR_CFG_RXBUF]⟩,
  ⟨130, "CRS_RXR_CFG", 0x40800410, 32, [(0x4000, 32)], [CRS_RXR_CFG_BASE, CRS_RXR_CFG_LOG2, CRS_RXR_CFG_RXBUF]⟩,
  ⟨131, "CRS_TXR_PTR", 0x40800408, 32, [(0x4000, 32)], [CRS_TXR_PTR_TAIL, CRS_TXR_PTR_HEAD]⟩,
  ⟨132, "CRS_RXR_PTR", 0x40800418, 32, [(0x4000, 32)], [CRS_RXR_PTR_TAIL, CRS_RXR_PTR_HEAD]⟩,
  ⟨133, "CRS_RING_CNT", 0x40800420, 32, [(0x4000, 32)], [CRS_RING_CNT_RX_TOOBIG, CRS_RING_CNT_TX_BAD]⟩,
  ⟨134, "CRS_MSG", 0x40800500, 32, [(0x4000, 32), (0x4, 4)], [CRS_MSG_DATA]⟩,
  ⟨135, "CRS_MSG_SEND", 0x40800510, 32, [(0x4000, 32)], [CRS_MSG_SEND_QUEUE]⟩,
  ⟨136, "CRS_MSG_STAT", 0x40800514, 32, [(0x4000, 32)], [CRS_MSG_STAT_FULL, CRS_MSG_STAT_FULL_CNT]⟩,
  ⟨137, "CRS_Q_POP", 0x40800518, 32, [(0x4000, 32)], [CRS_Q_POP_QUEUE]⟩,
  ⟨138, "CRS_HOOK", 0x40800800, 32, [(0x4000, 32), (0x8, 32)], [CRS_HOOK_TAG, CRS_HOOK_SET, CRS_HOOK_LEN]⟩,
  ⟨139, "CRS_HOOK_WR", 0x40800A00, 64, [(0x4000, 32)], [CRS_HOOK_WR_DATA, CRS_HOOK_WR_OFF, CRS_HOOK_WR_PORT, CRS_HOOK_WR_BYTE_EN]⟩,
  ⟨140, "CRS_Q_CFG", 0x40880000, 64, [(0x10, 64)], [CRS_Q_CFG_BASE, CRS_Q_CFG_LOG2, CRS_Q_CFG_CONSUMER, CRS_Q_CFG_EN]⟩,
  ⟨141, "CRS_Q_PTR", 0x40880008, 32, [(0x10, 64)], [CRS_Q_PTR_HEAD, CRS_Q_PTR_TAIL]⟩,
  ⟨142, "CRS_GSTART", 0x40881000, 64, [], [CRS_GSTART_MASK, CRS_GSTART_AT]⟩,
  ⟨143, "CRS_DIR_CNT", 0x40881010, 64, [], [CRS_DIR_CNT_RETRY, CRS_DIR_CNT_BACKINV]⟩,
  ⟨144, "FRT_GMASK", 0x40900000, 64, [], [FRT_GMASK_MASK]⟩]

/-- Registers 145 to 173 of the tables. -/
def regTable5 : List RegInfo := [
  ⟨145, "FRT_GSTART", 0x40900008, 32, [], [FRT_GSTART_AT]⟩,
  ⟨146, "FRT_PIN", 0x40900100, 32, [(0x4, 192)], [FRT_PIN_MODE, FRT_PIN_FRET, FRT_PIN_SLOT, FRT_PIN_OE_SLOT, FRT_PIN_DRIVE, FRT_PIN_PULL]⟩,
  ⟨147, "FRT_CTRL", 0x40910000, 32, [(0x2000, 64)], [FRT_CTRL_START, FRT_CTRL_STOP, FRT_CTRL_QFLUSH]⟩,
  ⟨148, "FRT_STAT", 0x40910004, 32, [(0x2000, 64)], [FRT_STAT_RUN, FRT_STAT_STALLED, FRT_STAT_STOP_WHY, FRT_STAT_STATE, FRT_STAT_F0, FRT_STAT_F1, FRT_STAT_TM, FRT_STAT_WR_IGN, FRT_STAT_TXQ_OVF, FRT_STAT_RXQ_UNF]⟩,
  ⟨149, "FRT_CFG", 0x40910008, 32, [(0x2000, 64)], [FRT_CFG_INIT_STATE, FRT_CFG_QJOIN, FRT_CFG_SHIFT_DIR, FRT_CFG_SHIFT_LEN, FRT_CFG_SFILL, FRT_CFG_SOUT_EN, FRT_CFG_SOUT_SLOT, FRT_CFG_SIN_SLOT, FRT_CFG_STOP_SAFE, FRT_CFG_SAFE]⟩,
  ⟨150, "FRT_RELOAD", 0x4091000C, 32, [(0x2000, 64)], [FRT_RELOAD_RELOAD0, FRT_RELOAD_RELOAD1]⟩,
  ⟨151, "FRT_QCFG", 0x40910010, 32, [(0x2000, 64)], [FRT_QCFG_TX_LOW, FRT_QCFG_RX_HIGH]⟩,
  ⟨152, "FRT_INSEL", 0x40910018, 64, [(0x2000, 64)], [FRT_INSEL_IN0, FRT_INSEL_IN1, FRT_INSEL_IN2, FRT_INSEL_IN3, FRT_INSEL_IN4, FRT_INSEL_IN5, FRT_INSEL_IN6, FRT_INSEL_IN7]⟩,
  ⟨153, "FRT_TCMP", 0x40910020, 64, [(0x2000, 64)], [FRT_TCMP_NS, FRT_TCMP_FRAC, FRT_TCMP_DOM, FRT_TCMP_ARM]⟩,
  ⟨154, "FRT_TSTEP", 0x40910028, 32, [(0x2000, 64)], [FRT_TSTEP_STEP]⟩,
  ⟨155, "FRT_TXQ", 0x40910030, 32, [(0x2000, 64)], [FRT_TXQ_DATA]⟩,
  ⟨156, "FRT_RXQ", 0x40910034, 32, [(0x2000, 64)], [FRT_RXQ_DATA]⟩,
  ⟨157, "FRT_QSTAT", 0x40910038, 32, [(0x2000, 64)], [FRT_QSTAT_TX_CNT, FRT_QSTAT_RX_CNT]⟩,
  ⟨158, "FRT_DBG", 0x40910040, 64, [(0x2000, 64)], [FRT_DBG_CNT, FRT_DBG_BITCNT, FRT_DBG_SR]⟩,
  ⟨159, "FRT_CNT", 0x40910048, 64, [(0x2000, 64)], [FRT_CNT_STALL_CYC, FRT_CNT_STALLS, FRT_CNT_WR_IGN_CNT]⟩,
  ⟨160, "FRT_SSEL", 0x40910800, 32, [(0x2000, 64), (0x4, 64)], [FRT_SSEL_SEL0, FRT_SSEL_SEL1, FRT_SSEL_SEL2, FRT_SSEL_SEL3, FRT_SSEL_USE]⟩,
  ⟨161, "AMB_CH_CTRL", 0x40A00000, 32, [(0x1000, 16)], [AMB_CH_CTRL_MODE]⟩,
  ⟨162, "AMB_CH_CFG", 0x40A00004, 32, [(0x1000, 16)], [AMB_CH_CFG_FD_EN, AMB_CH_CFG_PXHD, AMB_CH_CFG_TRIPLE, AMB_CH_CFG_AUTO_RECOVER, AMB_CH_CFG_ABORT_BUSOFF, AMB_CH_CFG_SELF_RX, AMB_CH_CFG_NOMATCH_EN, AMB_CH_CFG_NOMATCH_Q, AMB_CH_CFG_DOM, AMB_CH_CFG_TDC_EN]⟩,
  ⟨163, "AMB_NBT", 0x40A00008, 32, [(0x1000, 16)], [AMB_NBT_NBRP_M1, AMB_NBT_NTSEG1_M1, AMB_NBT_NTSEG2_M1, AMB_NBT_NSJW_M1]⟩,
  ⟨164, "AMB_DBT", 0x40A0000C, 32, [(0x1000, 16)], [AMB_DBT_DBRP_M1, AMB_DBT_DTSEG1_M1, AMB_DBT_DTSEG2_M1, AMB_DBT_DSJW_M1]⟩,
  ⟨165, "AMB_TDC", 0x40A00010, 32, [(0x1000, 16)], [AMB_TDC_TDCO, AMB_TDC_TDCV, AMB_TDC_SAT]⟩,
  ⟨166, "AMB_CH_STAT", 0x40A00014, 32, [(0x1000, 16)], [AMB_CH_STAT_STATE, AMB_CH_STAT_FAULT, AMB_CH_STAT_CLAIMED, AMB_CH_STAT_PRIV, AMB_CH_STAT_CFG_ERR, AMB_CH_STAT_WR_IGN, AMB_CH_STAT_WOKE]⟩,
  ⟨167, "AMB_ERRC", 0x40A00018, 32, [(0x1000, 16)], [AMB_ERRC_TEC, AMB_ERRC_REC, AMB_ERRC_LEC]⟩,
  ⟨168, "AMB_TXB_CFG", 0x40A00020, 32, [(0x1000, 16)], [AMB_TXB_CFG_BASE]⟩,
  ⟨169, "AMB_TX_REQ", 0x40A00024, 32, [(0x1000, 16)], [AMB_TX_REQ_REQ]⟩,
  ⟨170, "AMB_TX_CANCEL", 0x40A00028, 32, [(0x1000, 16)], [AMB_TX_CANCEL_CANCEL]⟩,
  ⟨171, "AMB_TX_PEND", 0x40A0002C, 32, [(0x1000, 16)], [AMB_TX_PEND_PEND]⟩,
  ⟨172, "AMB_TX_DONE", 0x40A00030, 32, [(0x1000, 16)], [AMB_TX_DONE_DONE]⟩,
  ⟨173, "AMB_RXQ_CFG", 0x40A00040, 32, [(0x1000, 16), (0x8, 4)], [AMB_RXQ_CFG_BASE, AMB_RXQ_CFG_LOG2, AMB_RXQ_CFG_EN]⟩]

/-- Registers 174 to 202 of the tables. -/
def regTable6 : List RegInfo := [
  ⟨174, "AMB_RXQ_PTR", 0x40A00060, 32, [(0x1000, 16), (0x8, 4)], [AMB_RXQ_PTR_HEAD, AMB_RXQ_PTR_COUNT, AMB_RXQ_PTR_OVR, AMB_RXQ_PTR_ACK_ERR]⟩,
  ⟨175, "AMB_RXQ_ACK", 0x40A00064, 32, [(0x1000, 16), (0x8, 4)], [AMB_RXQ_ACK_N]⟩,
  ⟨176, "AMB_WAKE_ID", 0x40A00090, 64, [(0x1000, 16)], [AMB_WAKE_ID_ID, AMB_WAKE_ID_IDE, AMB_WAKE_ID_MASK]⟩,
  ⟨177, "AMB_WAKE_DATA", 0x40A00098, 64, [(0x1000, 16)], [AMB_WAKE_DATA_DATA]⟩,
  ⟨178, "AMB_WAKE_DMASK", 0x40A000A0, 64, [(0x1000, 16)], [AMB_WAKE_DMASK_DATA]⟩,
  ⟨179, "AMB_REF_CFG", 0x40A000B0, 32, [(0x1000, 16)], [AMB_REF_CFG_ROLE, AMB_REF_CFG_REF_TIME, AMB_REF_CFG_CYC_MAX, AMB_REF_CFG_REF_ID, AMB_REF_CFG_LATE_MAX]⟩,
  ⟨180, "AMB_REF_PERIOD", 0x40A000B4, 32, [(0x1000, 16)], [AMB_REF_PERIOD_PERIOD]⟩,
  ⟨181, "AMB_REF_BASE", 0x40A000B8, 32, [(0x1000, 16)], [AMB_REF_BASE_BASE]⟩,
  ⟨182, "AMB_REF_STAT", 0x40A000BC, 32, [(0x1000, 16)], [AMB_REF_STAT_CYCLE, AMB_REF_STAT_LAST_LATE]⟩,
  ⟨183, "AMB_REF_TS", 0x40A000C0, 64, [(0x1000, 16)], [AMB_REF_TS_NS, AMB_REF_TS_FRAC]⟩,
  ⟨184, "AMB_CNT0", 0x40A000D0, 64, [(0x1000, 16)], [AMB_CNT0_TX_OK, AMB_CNT0_ARB_LOST, AMB_CNT0_ERR_FRAMES]⟩,
  ⟨185, "AMB_CNT1", 0x40A000D8, 64, [(0x1000, 16)], [AMB_CNT1_RX_OK, AMB_CNT1_RX_OVR, AMB_CNT1_PROTO_EXC, AMB_CNT1_TX_LATE_DROP]⟩,
  ⟨186, "AMB_FLT", 0x40A00200, 64, [(0x1000, 16), (0x8, 32)], [AMB_FLT_ID, AMB_FLT_IDE, AMB_FLT_VALID, AMB_FLT_REJECT, AMB_FLT_MASK, AMB_FLT_QUEUE]⟩,
  ⟨187, "AMB_AO_CFG", 0x40A10000, 32, [], [AMB_AO_CFG_EDGE_EN, AMB_AO_CFG_WUP_MIN, AMB_AO_CFG_AUTO_ON]⟩,
  ⟨188, "AMB_AO_STAT", 0x40A10004, 32, [], [AMB_AO_STAT_WOKE]⟩,
  ⟨189, "TTB_CL_T0", 0x40B00010, 32, [(0x4000, 4)], [TTB_CL_T0_MT_UT, TTB_CL_T0_MPC]⟩,
  ⟨190, "TTB_CL_T1", 0x40B00014, 32, [(0x4000, 4)], [TTB_CL_T1_STATIC_SLOTS, TTB_CL_T1_SLOT_MT, TTB_CL_T1_STATIC_PLEN]⟩,
  ⟨191, "TTB_CL_T2", 0x40B00018, 32, [(0x4000, 4)], [TTB_CL_T2_MINISLOTS, TTB_CL_T2_MINISLOT_MT, TTB_CL_T2_MS_AP, TTB_CL_T2_AP_OFF]⟩,
  ⟨192, "TTB_CL_T3", 0x40B0001C, 32, [(0x4000, 4)], [TTB_CL_T3_SYMWIN_MT, TTB_CL_T3_NIT_MT, TTB_CL_T3_OFFCORR_START]⟩,
  ⟨193, "TTB_CL_T4", 0x40B00020, 32, [(0x4000, 4)], [TTB_CL_T4_LATEST_TX, TTB_CL_T4_TSS_BITS, TTB_CL_T4_COLD_ATT, TTB_CL_T4_LISTEN_NOISE, TTB_CL_T4_WU_PAT]⟩,
  ⟨194, "TTB_CL_SYNC", 0x40B00024, 32, [(0x4000, 4)], [TTB_CL_SYNC_OFFSET_OUT, TTB_CL_SYNC_RATE_OUT, TTB_CL_SYNC_PASSIVE_LIM]⟩,
  ⟨195, "TTB_CL_SYNC2", 0x40B00028, 32, [(0x4000, 4)], [TTB_CL_SYNC2_FATAL_LIM, TTB_CL_SYNC2_SYNC_MAX, TTB_CL_SYNC2_LISTEN_TO]⟩,
  ⟨196, "TTB_KEY", 0x40B00030, 32, [(0x4000, 4)], [TTB_KEY_KEY_ID, TTB_KEY_SYNC, TTB_KEY_STARTUP, TTB_KEY_KEY_BUF, TTB_KEY_SINGLE_SLOT, TTB_KEY_CH, TTB_KEY_WU_CH]⟩,
  ⟨197, "TTB_BUF_CFG", 0x40B00034, 32, [(0x4000, 4)], [TTB_BUF_CFG_BASE]⟩,
  ⟨198, "TTB_POC_CMD", 0x40B00040, 32, [(0x4000, 4)], [TTB_POC_CMD_CMD]⟩,
  ⟨199, "TTB_POC_STAT", 0x40B00044, 32, [(0x4000, 4)], [TTB_POC_STAT_STATE, TTB_POC_STAT_CMD_IGN, TTB_POC_STAT_CFG_ERR, TTB_POC_STAT_WU_RESULT, TTB_POC_STAT_CYCLE, TTB_POC_STAT_CLAIMED, TTB_POC_STAT_COLD_FAIL]⟩,
  ⟨200, "TTB_SYNC_STAT", 0x40B00048, 32, [(0x4000, 4)], [TTB_SYNC_STAT_OFFSET, TTB_SYNC_STAT_RATE, TTB_SYNC_STAT_NSYNC]⟩,
  ⟨201, "TTB_ALIGN", 0x40B00050, 64, [(0x4000, 4)], [TTB_ALIGN_EN, TTB_ALIGN_DOM, TTB_ALIGN_DB, TTB_ALIGN_DB_RATE, TTB_ALIGN_BASE]⟩,
  ⟨202, "TTB_ALIGN_EXT", 0x40B00058, 32, [(0x4000, 4)], [TTB_ALIGN_EXT_EXT_OFF, TTB_ALIGN_EXT_EXT_RATE, TTB_ALIGN_EXT_ALIGN_MAX]⟩]

/-- Registers 203 to 231 of the tables. -/
def regTable7 : List RegInfo := [
  ⟨203, "TTB_ALIGN_STAT", 0x40B0005C, 32, [(0x4000, 4)], [TTB_ALIGN_STAT_DEV, TTB_ALIGN_STAT_OFF_CTL, TTB_ALIGN_STAT_RATE_CTL]⟩,
  ⟨204, "TTB_CYC_TS", 0x40B00060, 64, [(0x4000, 4)], [TTB_CYC_TS_NS, TTB_CYC_TS_FRAC, TTB_CYC_TS_CYCLE]⟩,
  ⟨205, "TTB_MODE_CTRL", 0x40B00070, 32, [(0x4000, 4)], [TTB_MODE_CTRL_START_MODE, TTB_MODE_CTRL_AGREE_EN, TTB_MODE_CTRL_REQ_MODE, TTB_MODE_CTRL_REQ, TTB_MODE_CTRL_VETO, TTB_MODE_CTRL_MODE_OFF]⟩,
  ⟨206, "TTB_MODE_VALID", 0x40B00074, 32, [(0x4000, 4)], [TTB_MODE_VALID_VALID, TTB_MODE_VALID_FAIL]⟩,
  ⟨207, "TTB_MODE_STAT", 0x40B00078, 32, [(0x4000, 4)], [TTB_MODE_STAT_ACTIVE, TTB_MODE_STAT_PEND, TTB_MODE_STAT_TARGET, TTB_MODE_STAT_REQ_CYC]⟩,
  ⟨208, "TTB_CNT0", 0x40B00080, 64, [(0x4000, 4)], [TTB_CNT0_NULL_SENT, TTB_CNT0_DYN_MISSED, TTB_CNT0_SLOT_ERR, TTB_CNT0_CH_DIFF]⟩,
  ⟨209, "TTB_CNT1", 0x40B00088, 64, [(0x4000, 4)], [TTB_CNT1_MODE_SWITCH, TTB_CNT1_MODE_LAPSED, TTB_CNT1_MODE_MISMATCH, TTB_CNT1_WR_IGN, TTB_CNT1_SYNC_ERR]⟩,
  ⟨210, "TTB_AO_CFG", 0x40B10000, 32, [], [TTB_AO_CFG_EDGE_EN, TTB_AO_CFG_WUP_MIN, TTB_AO_CFG_AUTO_ON]⟩,
  ⟨211, "TTB_AO_STAT", 0x40B10004, 32, [], [TTB_AO_STAT_WOKE]⟩,
  ⟨212, "FIO_CTRL", 0x40C00000, 32, [], [FIO_CTRL_EN, FIO_CTRL_DOM, FIO_CTRL_SAMPLE_PER, FIO_CTRL_LOCK]⟩,
  ⟨213, "FIO_SBASE", 0x40C00004, 32, [], [FIO_SBASE_SBASE]⟩,
  ⟨214, "FIO_STAT", 0x40C00008, 32, [], [FIO_STAT_ISL_UP, FIO_STAT_CLAIMED]⟩,
  ⟨215, "FIO_WDOG", 0x40C0000C, 32, [], [FIO_WDOG_N, FIO_WDOG_KICK]⟩,
  ⟨216, "FIO_IN", 0x40C00020, 32, [], [FIO_IN_IN]⟩,
  ⟨217, "FIO_IN_SNAP", 0x40C00024, 32, [], [FIO_IN_SNAP_IN]⟩,
  ⟨218, "FIO_IN_WB", 0x40C00028, 32, [], [FIO_IN_WB_IN]⟩,
  ⟨219, "FIO_IN_WBL", 0x40C0002C, 32, [], [FIO_IN_WBL_WBL]⟩,
  ⟨220, "FIO_CPL", 0x40C00030, 64, [], [FIO_CPL_IN, FIO_CPL_OUT]⟩,
  ⟨221, "FIO_OUT", 0x40C00040, 32, [], [FIO_OUT_VALUE]⟩,
  ⟨222, "FIO_OUT_ST", 0x40C00044, 32, [], [FIO_OUT_ST_DRIVEN]⟩,
  ⟨223, "FIO_OUT_FLT", 0x40C00048, 64, [], [FIO_OUT_FLT_SHORT, FIO_OUT_FLT_OPEN, FIO_OUT_FLT_SAFE]⟩,
  ⟨224, "FIO_OUT_OFFS", 0x40C00050, 32, [], [FIO_OUT_OFFS_OFFSET]⟩,
  ⟨225, "FIO_CNT", 0x40C00058, 64, [], [FIO_CNT_WB_CNT, FIO_CNT_SHORT_CNT, FIO_CNT_CPL_CNT, FIO_CNT_WDOG_CNT]⟩,
  ⟨226, "FIO_IN_CFG", 0x40C00100, 32, [(0x4, 32)], [FIO_IN_CFG_TYPE, FIO_IN_CFG_INVERT, FIO_IN_CFG_FILT_N, FIO_IN_CFG_WB_EN, FIO_IN_CFG_WB_N, FIO_IN_CFG_EVT_EN]⟩,
  ⟨227, "FIO_OUT_CFG", 0x40C00200, 32, [(0x4, 16)], [FIO_OUT_CFG_SAFE, FIO_OUT_CFG_UPDATE, FIO_OUT_CFG_OL_EN, FIO_OUT_CFG_SC_US, FIO_OUT_CFG_RETRY_MS]⟩,
  ⟨228, "MKC_CTRL", 0x40C08000, 32, [], [MKC_CTRL_DOM, MKC_CTRL_ADC_EN]⟩,
  ⟨229, "MKC_IN_CFG", 0x40C08100, 32, [(0x4, 16)], [MKC_IN_CFG_EDGE, MKC_IN_CFG_EVT_EN, MKC_IN_CFG_GLITCH]⟩,
  ⟨230, "MKC_IN_TS", 0x40C08200, 64, [(0x8, 16)], [MKC_IN_TS_NS, MKC_IN_TS_FRAC, MKC_IN_TS_RISE]⟩,
  ⟨231, "MKC_ADC_THR", 0x40C08300, 32, [(0x4, 8)], [MKC_ADC_THR_THR, MKC_ADC_THR_HYST, MKC_ADC_THR_CROSS_EN]⟩]

/-- Registers 232 to 260 of the tables. -/
def regTable8 : List RegInfo := [
  ⟨232, "MKC_ADC_LAST", 0x40C08340, 32, [(0x4, 8)], [MKC_ADC_LAST_VALUE]⟩,
  ⟨233, "MKC_SEQ_CFG", 0x40C09000, 32, [(0x100, 12)], [MKC_SEQ_CFG_TRIG, MKC_SEQ_CFG_TSEL, MKC_SEQ_CFG_POLICY, MKC_SEQ_CFG_EN, MKC_SEQ_CFG_SW_TRIG, MKC_SEQ_CFG_STOP, MKC_SEQ_CFG_MASK]⟩,
  ⟨234, "MKC_SEQ_DELAY", 0x40C09004, 32, [(0x100, 12)], [MKC_SEQ_DELAY_VALUE]⟩,
  ⟨235, "MKC_SEQ_LEN", 0x40C09008, 32, [(0x100, 12)], [MKC_SEQ_LEN_VALUE]⟩,
  ⟨236, "MKC_SEQ_N", 0x40C0900C, 32, [(0x100, 12)], [MKC_SEQ_N_MAXN, MKC_SEQ_N_DIV]⟩,
  ⟨237, "MKC_SEQ_RING", 0x40C09010, 32, [(0x100, 12)], [MKC_SEQ_RING_BASE, MKC_SEQ_RING_LOG2, MKC_SEQ_RING_SLOT_K]⟩,
  ⟨238, "MKC_SEQ_PTR", 0x40C09014, 32, [(0x100, 12)], [MKC_SEQ_PTR_HEAD, MKC_SEQ_PTR_COUNT, MKC_SEQ_PTR_ACK_ERR]⟩,
  ⟨239, "MKC_SEQ_ACK", 0x40C09018, 32, [(0x100, 12)], [MKC_SEQ_ACK_N]⟩,
  ⟨240, "MKC_LOG_ACK", 0x40C0902C, 32, [(0x100, 12)], [MKC_LOG_ACK_N]⟩,
  ⟨241, "MKC_SEQ_STAT", 0x40C0901C, 32, [(0x100, 12)], [MKC_SEQ_STAT_STATE, MKC_SEQ_STAT_PEND, MKC_SEQ_STAT_CFG_ERR, MKC_SEQ_STAT_WR_IGN]⟩,
  ⟨242, "MKC_SEQ_CNT", 0x40C09020, 64, [(0x100, 12)], [MKC_SEQ_CNT_TRIGGERS, MKC_SEQ_CNT_DISCARDED, MKC_SEQ_CNT_RESTARTS, MKC_SEQ_CNT_NO_SLOT]⟩,
  ⟨243, "MKC_LOG_PTR", 0x40C09028, 32, [(0x100, 12)], [MKC_LOG_PTR_HEAD, MKC_LOG_PTR_COUNT, MKC_LOG_PTR_LOST]⟩,
  ⟨244, "MKC_LOG", 0x40C09040, 64, [(0x100, 12), (0x8, 16)], [MKC_LOG_NS, MKC_LOG_FRAC, MKC_LOG_ACTION]⟩,
  ⟨245, "EVT_ROUTE", 0x40D00000, 64, [(0x8, 4096)], [EVT_ROUTE_KIND_A, EVT_ROUTE_KIND_B, EVT_ROUTE_INPUT_A, EVT_ROUTE_INPUT_B, EVT_ROUTE_COURSE_A, EVT_ROUTE_COURSE_B, EVT_ROUTE_VECTOR_A, EVT_ROUTE_VECTOR_B, EVT_ROUTE_LOG_A, EVT_ROUTE_LOG_B]⟩,
  ⟨246, "EVT_VEC_MOD", 0x40D10000, 32, [(0x4, 2048)], [EVT_VEC_MOD_COUNT_N, EVT_VEC_MOD_TIME_US, EVT_VEC_MOD_BOUNDARY]⟩,
  ⟨247, "EVT_SEEN", 0x40D20000, 32, [(0x4, 128)], [EVT_SEEN_SEEN]⟩,
  ⟨248, "EVT_LOG_CFG", 0x40D30000, 32, [(0x20, 16)], [EVT_LOG_CFG_EN, EVT_LOG_CFG_LOC, EVT_LOG_CFG_LOG2, EVT_LOG_CFG_CTX, EVT_LOG_CFG_DOM]⟩,
  ⟨249, "EVT_LOG_ADDR", 0x40D30008, 64, [(0x20, 16)], [EVT_LOG_ADDR_ADDR]⟩,
  ⟨250, "EVT_LOG_PTR", 0x40D30010, 32, [(0x20, 16)], [EVT_LOG_PTR_HEAD, EVT_LOG_PTR_COUNT, EVT_LOG_PTR_FAULT, EVT_LOG_PTR_ACK_ERR]⟩,
  ⟨251, "EVT_LOG_ACK", 0x40D30014, 32, [(0x20, 16)], [EVT_LOG_ACK_N]⟩,
  ⟨252, "EVT_CNT", 0x40D31000, 64, [], [EVT_CNT_ROUTE_OFF, EVT_CNT_LOG_LOST]⟩,
  ⟨253, "XLT_CFG", 0x40E00000, 32, [], [XLT_CFG_DOM, XLT_CFG_CC_CTX, XLT_CFG_CC_EN]⟩,
  ⟨254, "XLT_PEER_BASE", 0x40E00008, 64, [], [XLT_PEER_BASE_ADDR]⟩,
  ⟨255, "XLT_PEER_LIMIT", 0x40E00010, 64, [], [XLT_PEER_LIMIT_ADDR]⟩,
  ⟨256, "XLT_INV", 0x40E00020, 32, [], [XLT_INV_KIND, XLT_INV_CTX, XLT_INV_GO, XLT_INV_BUSY]⟩,
  ⟨257, "XLT_INV_RANGE", 0x40E00028, 64, [], [XLT_INV_RANGE_VA, XLT_INV_RANGE_PAGES]⟩,
  ⟨258, "XLT_TLB_CNT", 0x40E00030, 64, [], [XLT_TLB_CNT_MISSES, XLT_TLB_CNT_WALK_READS]⟩,
  ⟨259, "XLT_CTX_CFG", 0x40E10000, 32, [(0x40, 64)], [XLT_CTX_CFG_EN, XLT_CTX_CFG_PASID_EN, XLT_CTX_CFG_FUNC, XLT_CTX_CFG_WIN]⟩,
  ⟨260, "XLT_CTX_PASID", 0x40E10004, 32, [(0x40, 64)], [XLT_CTX_PASID_PASID]⟩]

/-- Registers 261 to 289 of the tables. -/
def regTable9 : List RegInfo := [
  ⟨261, "XLT_CTX_ROOT", 0x40E10008, 64, [(0x40, 64)], [XLT_CTX_ROOT_ROOT]⟩,
  ⟨262, "XLT_FQ_CFG", 0x40E10010, 32, [(0x40, 64)], [XLT_FQ_CFG_BASE, XLT_FQ_CFG_LOG2, XLT_FQ_CFG_EN]⟩,
  ⟨263, "XLT_FQ_PTR", 0x40E10014, 32, [(0x40, 64)], [XLT_FQ_PTR_HEAD, XLT_FQ_PTR_COUNT, XLT_FQ_PTR_OVR, XLT_FQ_PTR_ACK_ERR]⟩,
  ⟨264, "XLT_FQ_ACK", 0x40E10018, 32, [(0x40, 64)], [XLT_FQ_ACK_N]⟩,
  ⟨265, "XLT_FQ_LOST", 0x40E1001C, 32, [(0x40, 64)], [XLT_FQ_LOST_LOST]⟩,
  ⟨266, "XLT_STR_CFG", 0x40E20000, 32, [(0x20, 128)], [XLT_STR_CFG_OWNER, XLT_STR_CFG_CTX, XLT_STR_CFG_PRIO, XLT_STR_CFG_DOM]⟩,
  ⟨267, "XLT_STR_RING", 0x40E20004, 32, [(0x20, 128)], [XLT_STR_RING_BASE, XLT_STR_RING_LOG2]⟩,
  ⟨268, "XLT_STR_PTR", 0x40E20008, 32, [(0x20, 128)], [XLT_STR_PTR_TAIL, XLT_STR_PTR_HEAD]⟩,
  ⟨269, "XLT_STR_CTRL", 0x40E2000C, 32, [(0x20, 128)], [XLT_STR_CTRL_RESUME, XLT_STR_CTRL_ABORT]⟩,
  ⟨270, "XLT_STR_STAT", 0x40E20010, 32, [(0x20, 128)], [XLT_STR_STAT_STATE, XLT_STR_STAT_CAUSE, XLT_STR_STAT_DONE_BYTES]⟩,
  ⟨271, "HIF_DB_CMD", 0x0, 32, [(0x1000, 32)], [HIF_DB_CMD_INDEX]⟩,
  ⟨272, "HIF_DB_STS", 0x4, 32, [(0x1000, 32)], [HIF_DB_STS_INDEX]⟩,
  ⟨273, "HIF_RING_CTRL", 0x10, 32, [(0x1000, 32)], [HIF_RING_CTRL_EN, HIF_RING_CTRL_LOG2]⟩,
  ⟨274, "HIF_RING_CMD", 0x18, 64, [(0x1000, 32)], [HIF_RING_CMD_VA]⟩,
  ⟨275, "HIF_RING_STS", 0x20, 64, [(0x1000, 32)], [HIF_RING_STS_VA]⟩,
  ⟨276, "HIF_RING_WB", 0x28, 64, [(0x1000, 32)], [HIF_RING_WB_VA]⟩,
  ⟨277, "HIF_RING_STAT", 0x30, 32, [(0x1000, 32)], [HIF_RING_STAT_STATE, HIF_RING_STAT_CAUSE, HIF_RING_STAT_CMD_HEAD, HIF_RING_STAT_DB_OFF]⟩,
  ⟨278, "HIF_PF_SEC", 0x40F00000, 32, [], [HIF_PF_SEC_SEC_EN]⟩,
  ⟨279, "HIF_CNT", 0x40F00008, 32, [], [HIF_CNT_DB_FOREIGN]⟩,
  ⟨280, "HIF_RING_OWN", 0x40F00100, 32, [(0x4, 32)], [HIF_RING_OWN_FUNC, HIF_RING_OWN_CTX]⟩,
  ⟨281, "HIF_VF_CFG", 0x40F00200, 64, [(0x8, 16)], [HIF_VF_CFG_VEC_BASE, HIF_VF_CFG_VEC_N, HIF_VF_CFG_SBW, HIF_VF_CFG_SBW_EN]⟩,
  ⟨282, "WKT_CTL_AB", 0x40F10040, 32, [(0x100, 64)], [WKT_CTL_AB_LEN, WKT_CTL_AB_GO, WKT_CTL_AB_ACK, WKT_CTL_AB_COLLISION]⟩,
  ⟨283, "WKT_CTL_BA", 0x40F100C0, 32, [(0x100, 64)], [WKT_CTL_BA_LEN, WKT_CTL_BA_GO, WKT_CTL_BA_ACK, WKT_CTL_BA_COLLISION]⟩,
  ⟨284, "WKT_CFG", 0x40F100E0, 32, [(0x100, 64)], [WKT_CFG_SIDE_A, WKT_CFG_SIDE_B, WKT_CFG_PRIO_A, WKT_CFG_PRIO_B]⟩,
  ⟨285, "WKT_MODE", 0x40F100E4, 32, [(0x100, 64)], [WKT_MODE_COMPAT, WKT_MODE_WAKE_A, WKT_MODE_WAKE_B, WKT_MODE_CROSS_TIMEOUT]⟩,
  ⟨286, "WKT_STAT", 0x40F100E8, 32, [(0x100, 64)], [WKT_STAT_CROSSED, WKT_STAT_FLR_DROP, WKT_STAT_REJ_AB, WKT_STAT_REJ_BA, WKT_STAT_DOWN_REJ]⟩,
  ⟨287, "TRB_CFG", 0x41000000, 32, [], [TRB_CFG_EN, TRB_CFG_CLK_EN, TRB_CFG_DOM, TRB_CFG_POLL, TRB_CFG_LOCK_TMO, TRB_CFG_LOCK]⟩,
  ⟨288, "TRB_STAT", 0x41000004, 32, [], [TRB_STAT_WQ_COUNT, TRB_STAT_LOCKED, TRB_STAT_LOCK_OWNER]⟩,
  ⟨289, "TRB_RETRY", 0x41000008, 32, [], [TRB_RETRY_RETRY_GAP, TRB_RETRY_RETRY_MAX]⟩]

/-- Registers 290 to 318 of the tables. -/
def regTable10 : List RegInfo := [
  ⟨290, "TRB_ERR", 0x41000010, 64, [], [TRB_ERR_ADDR, TRB_ERR_KIND, TRB_ERR_WRITE, TRB_ERR_REQ, TRB_ERR_VALID]⟩,
  ⟨291, "TRB_CNT", 0x41000018, 64, [], [TRB_CNT_WR_ERR, TRB_CNT_RD_ERR, TRB_CNT_LOCK_TO, TRB_CNT_RETRIES]⟩,
  ⟨292, "TRB_SB_CFG", 0x41000040, 32, [], [TRB_SB_CFG_COND, TRB_SB_CFG_FILT]⟩,
  ⟨293, "TRB_SB_STAT", 0x41000044, 32, [], [TRB_SB_STAT_LEVEL, TRB_SB_STAT_PEND, TRB_SB_STAT_MISSED]⟩,
  ⟨294, "TRB_SB_TS", 0x41000080, 64, [(0x8, 8)], [TRB_SB_TS_NS, TRB_SB_TS_FRAC]⟩,
  ⟨295, "TRB_WIN", 0x41000100, 64, [(0x20, 8)], [TRB_WIN_BASE, TRB_WIN_SIZE]⟩,
  ⟨296, "TRB_WIN_CFG", 0x41000108, 32, [(0x20, 8)], [TRB_WIN_CFG_WIDTH, TRB_WIN_CFG_BIG, TRB_WIN_CFG_MODE, TRB_WIN_CFG_RDY_EN, TRB_WIN_CFG_WC_EN, TRB_WIN_CFG_BURST_MAX, TRB_WIN_CFG_WAIT_MIN, TRB_WIN_CFG_RDY_TMO]⟩,
  ⟨297, "TRB_WIN_TIM", 0x41000110, 32, [(0x20, 8)], [TRB_WIN_TIM_ALE, TRB_WIN_TIM_AHOLD, TRB_WIN_TIM_STROBE, TRB_WIN_TIM_HOLD, TRB_WIN_TIM_TURN]⟩,
  ⟨298, "LDG_CTRL", 0x41100000, 32, [], [LDG_CTRL_SCRUB_H, LDG_CTRL_REFRESH_THR, LDG_CTRL_REMAP_THR, LDG_CTRL_SPARES_LOW, LDG_CTRL_LOCK]⟩,
  ⟨299, "LDG_STAT", 0x41100004, 32, [], [LDG_STAT_STATE, LDG_STAT_SPARES_EXHAUSTED, LDG_STAT_JOURNAL_SHORT, LDG_STAT_ROTATING, LDG_STAT_COMPACTING, LDG_STAT_SCRUB_LATE]⟩,
  ⟨300, "LDG_WCLS", 0x41100010, 32, [], [LDG_WCLS_CC_CLASS, LDG_WCLS_PC_CLASS]⟩,
  ⟨301, "LDG_QUOTA", 0x41100014, 32, [], [LDG_QUOTA_CRIT, LDG_QUOTA_IMP, LDG_QUOTA_ROUT]⟩,
  ⟨302, "LDG_STAGED", 0x41100018, 64, [], [LDG_STAGED_CRIT, LDG_STAGED_IMP, LDG_STAGED_ROUT]⟩,
  ⟨303, "LDG_FLUSH", 0x41100020, 32, [], [LDG_FLUSH_GO, LDG_FLUSH_BUSY]⟩,
  ⟨304, "LDG_SPARES", 0x41100024, 32, [], [LDG_SPARES_GEN_FREE, LDG_SPARES_SEC_FREE, LDG_SPARES_RETIRED]⟩,
  ⟨305, "LDG_CAP", 0x41100028, 32, [], [LDG_CAP_USABLE_PAGES, LDG_CAP_JOURNAL_PAGES]⟩,
  ⟨306, "LDG_ECC", 0x41100030, 64, [], [LDG_ECC_CORR, LDG_ECC_UNCORR, LDG_ECC_AUTH_FAIL, LDG_ECC_REMAPS]⟩,
  ⟨307, "LDG_ERR", 0x41100038, 64, [], [LDG_ERR_ADDR, LDG_ERR_KIND, LDG_ERR_VALID]⟩,
  ⟨308, "LDG_PF", 0x41100040, 64, [], [LDG_PF_CRIT_LOST, LDG_PF_IMP_LOST, LDG_PF_ROUT_LOST, LDG_PF_GRANT, LDG_PF_VALID, LDG_PF_SEALED]⟩,
  ⟨309, "PCS_LC", 0x41200000, 32, [], [PCS_LC_STATE, PCS_LC_INCOMPLETE, PCS_LC_SEED_SLOT]⟩,
  ⟨310, "PCS_CTRL", 0x41200004, 32, [], [PCS_CTRL_STBY, PCS_CTRL_LOCK]⟩,
  ⟨311, "PCS_STAT", 0x41200008, 32, [], [PCS_STAT_STATE, PCS_STAT_DRBG_OK, PCS_STAT_WIPING]⟩,
  ⟨312, "PCS_CC_GATE", 0x41200010, 32, [], [PCS_CC_GATE_N, PCS_CC_GATE_SVBASE]⟩,
  ⟨313, "PCS_TMP_EN", 0x41200020, 32, [], [PCS_TMP_EN_EN]⟩,
  ⟨314, "PCS_TMP_CFG", 0x41200024, 32, [], [PCS_TMP_CFG_POL0, PCS_TMP_CFG_POL1, PCS_TMP_CFG_KILL_SAK, PCS_TMP_CFG_FILT0, PCS_TMP_CFG_FILT1]⟩,
  ⟨315, "PCS_TMP_STAT", 0x41200028, 32, [], [PCS_TMP_STAT_LIVE, PCS_TMP_STAT_SEEN]⟩,
  ⟨316, "PCS_TMP_LOG", 0x41200100, 64, [(0x8, 16)], [PCS_TMP_LOG_NS, PCS_TMP_LOG_FRAC, PCS_TMP_LOG_SENSOR, PCS_TMP_LOG_STATE, PCS_TMP_LOG_VALID]⟩,
  ⟨317, "PCS_FUSE", 0x41200030, 32, [], [PCS_FUSE_DEBUG_KILL, PCS_FUSE_SCRAP, PCS_FUSE_ROOT_REVOKED, PCS_FUSE_SEEDS]⟩,
  ⟨318, "PCS_BOOT", 0x41200040, 32, [], [PCS_BOOT_SLOT, PCS_BOOT_FAIL_WHY]⟩]

/-- Registers 319 to 347 of the tables. -/
def regTable11 : List RegInfo := [
  ⟨319, "PCS_CNT", 0x41200050, 32, [], [PCS_CNT_NS_REJ, PCS_CNT_TAMPER_CNT]⟩,
  ⟨320, "PWR_CAP", 0x40200004, 32, [], [PWR_CAP_CAP_MW, PWR_CAP_WIN]⟩,
  ⟨321, "PWR_BUDGET", 0x40200008, 32, [], [PWR_BUDGET_BG_MW]⟩,
  ⟨322, "PWR_TOTAL", 0x40200010, 64, [], [PWR_TOTAL_CYCLE_UJ, PWR_TOTAL_POWER_MW]⟩,
  ⟨323, "PWR_STAT", 0x40200018, 32, [], [PWR_STAT_PF, PWR_STAT_CAP_EXCEEDED, PWR_STAT_HOLDUP_LOW, PWR_STAT_TESTING]⟩,
  ⟨324, "PWR_FEED_CFG", 0x40200020, 32, [], [PWR_FEED_CFG_TEST_S]⟩,
  ⟨325, "PWR_PF", 0x40200028, 32, [], [PWR_PF_PF_WARN, PWR_PF_PF_OK, PWR_PF_VHOLD_MIN, PWR_PF_LOCK]⟩,
  ⟨326, "PWR_PF_STAT", 0x40200030, 64, [], [PWR_PF_STAT_C_UF, PWR_PF_STAT_E_UJ, PWR_PF_STAT_C_EST_UF, PWR_PF_STAT_EST_UJ]⟩,
  ⟨327, "PWR_RAIL", 0x40200100, 64, [(0x8, 16)], [PWR_RAIL_MV, PWR_RAIL_MA, PWR_RAIL_E_CYC]⟩,
  ⟨328, "PWR_BG", 0x40200200, 64, [(0x8, 6)], [PWR_BG_GRANTS, PWR_BG_OVERDRAFT, PWR_BG_WAIT_MAX]⟩,
  ⟨329, "PWR_FEED", 0x40200300, 64, [(0x8, 4)], [PWR_FEED_MV, PWR_FEED_MA, PWR_FEED_PATH, PWR_FEED_PRESENT, PWR_FEED_TEST]⟩,
  ⟨330, "RDN_CFG", 0x41300000, 32, [], [RDN_CFG_EN, RDN_CFG_MIRROR_EN, RDN_CFG_TIME_EN, RDN_CFG_AUTO_YIELD, RDN_CFG_LOG_INT, RDN_CFG_LOCK]⟩,
  ⟨331, "RDN_CLAIM", 0x41300004, 32, [], [RDN_CLAIM_CLAIM, RDN_CLAIM_EFFECTIVE]⟩,
  ⟨332, "RDN_STAT", 0x41300008, 32, [], [RDN_STAT_ROLE, RDN_STAT_PEER_CLAIM, RDN_STAT_PEER_SEEN, RDN_STAT_PATHS, RDN_STAT_LINK, RDN_STAT_OWN_FIT, RDN_STAT_PEER_FIT]⟩,
  ⟨333, "RDN_HOLD", 0x4130000C, 32, [], [RDN_HOLD_HOLD]⟩,
  ⟨334, "RDN_PORT_GATE", 0x41300010, 32, [], [RDN_PORT_GATE_MASK]⟩,
  ⟨335, "RDN_FRT_GATE", 0x41300014, 32, [], [RDN_FRT_GATE_MASK]⟩,
  ⟨336, "RDN_MIR_CFG", 0x41300018, 64, [], [RDN_MIR_CFG_OFFSET, RDN_MIR_CFG_MIRROR_END]⟩,
  ⟨337, "RDN_TEST", 0x41300020, 32, [], [RDN_TEST_PERIOD_S, RDN_TEST_RESULT]⟩,
  ⟨338, "RDN_CNT", 0x41300030, 64, [], [RDN_CNT_SWITCHOVERS, RDN_CNT_MIRROR_LATE, RDN_CNT_CLAIM_CRC, RDN_CNT_GATED_TX]⟩,
  ⟨339, "RDN_LAST_SW", 0x41300038, 32, [], [RDN_LAST_SW_CYCLE]⟩,
  ⟨340, "RDN_MIR", 0x41300100, 64, [(0x8, 8)], [RDN_MIR_FIRST_SLOT, RDN_MIR_NSLOTS, RDN_MIR_VALID]⟩,
  ⟨341, "RST_CAUSE", 0x40100000, 32, [], [RST_CAUSE_CLASS, RST_CAUSE_SRC]⟩,
  ⟨342, "RST_CTRL", 0x40100004, 32, [], [RST_CTRL_COLD, RST_CTRL_WARM]⟩,
  ⟨343, "RST_HOST", 0x40100008, 32, [], [RST_HOST_CLASS, RST_HOST_BAD_KEY, RST_HOST_KEY]⟩,
  ⟨344, "RST_BOOT", 0x40100010, 32, [], [RST_BOOT_STAGE, RST_BOOT_SLOT, RST_BOOT_FAILS, RST_BOOT_BOOT_DONE, RST_BOOT_RESETS]⟩,
  ⟨345, "RST_WDOG", 0x40100018, 32, [], [RST_WDOG_TIMEOUT_MS, RST_WDOG_KICK]⟩,
  ⟨346, "RST_FATAL", 0x40100020, 64, [], [RST_FATAL_CAUSE, RST_FATAL_PC, RST_FATAL_CP, RST_FATAL_TIME_NS]⟩,
  ⟨347, "PWR_TJ", 0x40200040, 32, [], [PWR_TJ_TJ, PWR_TJ_WARN]⟩]

/-- Every register of the tables (00_scope.md R4, 01_line_hub_architecture.md R23). -/
def regTable : List RegInfo :=
  regTable0 ++ regTable1 ++ regTable2 ++ regTable3 ++ regTable4 ++ regTable5 ++ regTable6 ++ regTable7 ++ regTable8 ++ regTable9 ++ regTable10 ++ regTable11

end Sys2Proof.Machine
end

