-- ==== Sys2Proof/Machine/Ops.lean ====
section
/-! DEFINITION. The named operations over the state: sparse tables in canonical form, cells (register fields and
numbered internal state), byte memories, events, outputs, free values, and line time. -/

namespace Sys2Proof.Machine

/-! ### Sparse tables: lists of (key, value), keys strictly rising, no entry equal to the default. -/

/-- The value at a key, `d` where none is listed. -/
def tblGet {α : Type} (d : α) : List (Nat × α) → Nat → α
  | [], _ => d
  | (a, x) :: r, k => if a = k then x else tblGet d r k

/-- A table without a key. -/
def tblErase {α : Type} : List (Nat × α) → Nat → List (Nat × α)
  | [], _ => []
  | (a, x) :: r, k => if a = k then tblErase r k else (a, x) :: tblErase r k

/-- A table with an entry put before the first larger key. -/
def tblInsert {α : Type} : List (Nat × α) → Nat → α → List (Nat × α)
  | [], k, v => [(k, v)]
  | (a, x) :: r, k, v => if k < a then (k, v) :: (a, x) :: r else (a, x) :: tblInsert r k v

/-- A table with a value at a key, in canonical form: the default is not listed. -/
def tblSet {α : Type} [DecidableEq α] (d : α) (t : List (Nat × α)) (k : Nat) (v : α) : List (Nat × α) :=
  if v = d then tblErase t k else tblInsert (tblErase t k) k v

/-- A table with an entry for a key whatever its value (used where no value is the default). -/
def tblPut {α : Type} (t : List (Nat × α)) (k : Nat) (v : α) : List (Nat × α) :=
  tblInsert (tblErase t k) k v

/-- The entry at a key, if one is listed. -/
def tblFind {α : Type} : List (Nat × α) → Nat → Option α
  | [], _ => none
  | (a, x) :: r, k => if a = k then some x else tblFind r k

/-- The keys rise strictly. -/
def tblSorted {α : Type} : List (Nat × α) → Bool
  | [] => true
  | [_] => true
  | (a, _) :: (b, y) :: r => decide (a < b) && tblSorted ((b, y) :: r)

/-- The canonical form of a table: keys strictly rising, no entry equal to the default. -/
def tblWf {α : Type} [DecidableEq α] (d : α) (t : List (Nat × α)) : Bool :=
  tblSorted t && t.all (fun e => decide (e.2 ≠ d))

/-- The canonical form of a byte memory: addresses strictly rising, no entry equal to the 0 that an unlisted byte
reads as (log entry 7). -/
def Memory.wf (m : List Host.Cell) : Bool := tblWf (0 : Byte) m

/-! ### Cells -/

/-- The key of copy `i` of a field. -/
def cellKey (F : Fld) (i : Nat) : Nat := i * 4096 + F.id % 4096

/-- The value of copy `i` of a field. -/
def State.get (s : State) (F : Fld) (i : Nat) : Nat := tblGet F.cold s.cells (cellKey F i)

/-- The state with copy `i` of a field at `v`, reduced to the field's width. -/
def State.put (s : State) (F : Fld) (i v : Nat) : State :=
  { s with cells := tblSet F.cold s.cells (cellKey F i) (v % 2 ^ F.w) }

/-- A field as a flag. -/
def State.flag (s : State) (F : Fld) (i : Nat) : Bool := s.get F i != 0

/-- The state with a flag field written. -/
def State.putFlag (s : State) (F : Fld) (i : Nat) (b : Bool) : State := s.put F i (if b then 1 else 0)

/-- Bit `k` of a field. -/
def State.bit (s : State) (F : Fld) (i k : Nat) : Bool := bitOf (s.get F i) k

/-- The state with bit `k` of a field written. -/
def State.putBit (s : State) (F : Fld) (i k : Nat) (b : Bool) : State :=
  let v := s.get F i
  s.put F i (if b then (if bitOf v k then v else v + 2 ^ k) else (if bitOf v k then v - 2 ^ k else v))

/-- A field as a signed number. -/
def State.getS (s : State) (F : Fld) (i : Nat) : Int := toSigned F.w (s.get F i)

/-- The state with a field at a signed number, in two's complement. -/
def State.putS (s : State) (F : Fld) (i : Nat) (z : Int) : State := s.put F i (ofSigned F.w z)

/-- The state with a saturating counter advanced by `n`. -/
def State.sat (s : State) (F : Fld) (i : Nat) (n : Nat := 1) : State :=
  s.put F i (min (s.get F i + n) (2 ^ F.w - 1))

/-- The state with a field at its cold value. -/
def State.clear (s : State) (F : Fld) (i : Nat) : State := s.put F i F.cold

/-! ### Outputs and free values -/

/-- The state after something has left the part. -/
def State.emit (s : State) (o : Output) : State := { s with out := s.out ++ [o] }

/-- The next free value: nothing constrains it (log entry 3). -/
def State.fresh (s : State) : Nat := Config.freeValue s.freeCtr

/-- The state after a free value was used. -/
def State.used (s : State) : State := { s with freeCtr := s.freeCtr + 1 }

/-! ### Line time (02 R31) -/

/-- The counter of a domain: 32 bits of nanoseconds above 40 bits of fraction. Internal. -/
def TMB_CTR : Fld := ⟨1100, 0, 72, .int, 0, .keep, .none⟩

/-- The free-running count of the 800 MHz core clock (04 R105). Internal; a warm reset keeps the clocks running. -/
def CORE_COUNT : Fld := ⟨1101, 0, 64, .int, 0, .keep, .none⟩

/-- Line time of domain `d` in units of 1/256 ns, 40 bits (02 R31). -/
def State.now (s : State) (d : Nat) : Nat := s.get TMB_CTR d / 2 ^ 32

/-- Line time of domain `d` in nanoseconds, 32 bits (02 R31). -/
def State.nowNs (s : State) (d : Nat) : Nat := s.get TMB_CTR d / 2 ^ 40

/-- A compare against `c` (1/256 ns, 40 bits) in domain `d` matches (02 R34). -/
def State.reached (s : State) (d c : Nat) : Bool :=
  decide ((s.now d + 2 ^ 40 - c % 2 ^ 40) % 2 ^ 40 < 2 ^ 39)

/-- A compare against `c` whole nanoseconds in domain `d` matches (02 R34). -/
def State.reachedNs (s : State) (d c : Nat) : Bool := s.reached d (c % 2 ^ 32 * 256)

/-! ### Events (01 R27, 13 R302) -/

/-- The routes of a source as they stand (13 R301). -/
def State.routeA (s : State) (n : Nat) : Route :=
  ⟨s.get EVT_ROUTE_KIND_A n, s.get EVT_ROUTE_INPUT_A n, s.get EVT_ROUTE_COURSE_A n, s.get EVT_ROUTE_VECTOR_A n,
    s.get EVT_ROUTE_LOG_A n⟩
def State.routeB (s : State) (n : Nat) : Route :=
  ⟨s.get EVT_ROUTE_KIND_B n, s.get EVT_ROUTE_INPUT_B n, s.get EVT_ROUTE_COURSE_B n, s.get EVT_ROUTE_VECTOR_B n,
    s.get EVT_ROUTE_LOG_B n⟩

/-- The timestamp of a record for log `l`: the event's own, or line time in the log's domain (13 R306). -/
def State.recordStamp (s : State) (own : Option (Nat × Nat)) (l : Nat) : Nat × Nat :=
  match own with
  | some x => x
  | none => let d := s.get EVT_LOG_CFG_DOM l; (s.now d, d)

/-- MSI-X moderation of vector v (13 R305): events collected since the last message, the core clock count of the first of
them, messages due, the vector's pending bit; and one more than the core clock count of the last boundary. Internal. -/
def VEC_K : Fld := ⟨1341, 0, 8, .int, 0, .reset, .none⟩
def VEC_FIRST : Fld := ⟨1342, 0, 64, .int, 0, .reset, .none⟩
def VEC_DUE : Fld := ⟨1343, 0, 16, .int, 0, .reset, .none⟩
def VEC_PEND : Fld := ⟨1344, 0, 1, .int, 0, .reset, .none⟩
def BND_COUNT : Fld := ⟨1345, 0, 64, .int, 0, .reset, .none⟩
/-- One more than the core clock count of the boundary whose message vector v has due. Internal. -/
def VEC_BND : Fld := ⟨1552, 0, 64, .int, 0, .reset, .none⟩

/-- A vector's message is due: the events collected start anew (13 R305). -/
def State.vecDue (s : State) (v : Nat) : State := (s.sat VEC_DUE v).put VEC_K v 0

/-- The core clock cycle is that of a boundary, and the vector has that boundary's message due (13 R305). -/
def State.vecAtBoundary (s : State) (v : Nat) : Bool :=
  s.get BND_COUNT 0 == s.get CORE_COUNT 0 + 1 && s.get VEC_BND v == s.get BND_COUNT 0

/-- A vector's message of the present boundary is due. -/
def State.vecBoundary (s : State) (v : Nat) : State := (s.vecDue v).put VEC_BND v (s.get BND_COUNT 0)

/-- An event is collected by a vector (13 R305): it joins a held message, or counts, and the message is due at COUNT_N
events, or at a boundary in this very cycle, whose one message carries all the events of that cycle. -/
def State.collect (s : State) (v : Nat) : State :=
  if s.flag VEC_PEND v || s.vecAtBoundary v then s else
  let k := s.get VEC_K v + 1
  let s := if k = 1 then s.put VEC_FIRST v (s.get CORE_COUNT 0) else s
  if max 1 (s.get EVT_VEC_MOD_COUNT_N v) ≤ k then s.vecDue v
  else if s.flag EVT_VEC_MOD_BOUNDARY v && s.get BND_COUNT 0 == s.get CORE_COUNT 0 + 1 then s.vecBoundary v
  else s.put VEC_K v k

/-- A route of a raised event collects in its MSI-X vector (13 R301, R305). -/
def State.routeMsix (s : State) (r : Route) : State := if r.kind = 3 then s.collect r.vector else s

/-- The state after event `n` was raised with a DETAIL word: its EVT_SEEN bit sets (13 R301), its MSI-X vectors collect it
(R305), and it waits for the event matrix with the routes that stand now (R303). A source that raises its event twice in
one core clock cycle has one record (21 R466). -/
def State.raise (s : State) (n : Nat) (detail : Nat := 0) (own : Option (Nat × Nat) := none) : State :=
  let s := s.putBit EVT_SEEN_SEEN (n / 32) (n % 32) true
  let c := s.get CORE_COUNT 0
  if s.events.any (fun e => e.src == n && e.cycle == c) then s else
  let a := s.routeA n
  let b := s.routeB n
  let s : State := { s with events := s.events ++
      [⟨n, detail % 2 ^ 32, c, a, b, s.recordStamp own a.log, s.recordStamp own b.log⟩] }
  let s := s.routeMsix a
  if a.kind = 3 ∧ b.kind = 3 ∧ a.vector = b.vector then s else s.routeMsix b

/-- A saturating counter advanced by one; the first count after a read raises event `n` (00 R468): the counter holds 0
exactly when no count has happened since its last read or reset. -/
def State.count1 (s : State) (F : Fld) (i n : Nat) (detail : Nat := 0) : State :=
  if s.get F i = 0 then (s.sat F i).raise n detail else s.sat F i

/-! ### Loops -/

/-- A state changed for each number below `n`, from 0 up. -/
def overRange (f : Nat → State → State) : Nat → State → State
  | 0, s => s
  | n + 1, s => f n (overRange f n s)

/-- A state changed for each element of a list in turn. -/
def overList {α : Type} (f : α → State → State) : List α → State → State
  | [], s => s
  | x :: xs, s => overList f xs (f x s)

/-- The copies of a field that are not at their cold value, with their values, in rising order of copy. -/
def State.listed (s : State) (F : Fld) : List (Nat × Nat) :=
  s.cells.filterMap (fun e => if e.1 % 4096 = F.id % 4096 then some (e.1 / 4096, e.2) else none)

/-- `n` copies of a field from `src` on, written to the copies from `dst` on. -/
def State.copyRange (s : State) (F : Fld) (dst src n : Nat) : State :=
  let gone := (s.listed F).filter (fun e => decide (dst ≤ e.1) && decide (e.1 < dst + n))
  let come := (s.listed F).filter (fun e => decide (src ≤ e.1) && decide (e.1 < src + n))
  let s := overList (fun (e : Nat × Nat) (t : State) => t.clear F e.1) gone s
  overList (fun (e : Nat × Nat) (t : State) => t.put F (dst + (e.1 - src)) e.2) come s

/-! ### Background work (18 R407) -/

/-- A job asks the planner for a grant; one request for each job waits at a time. -/
def State.bgAsk (s : State) (j : BgJob) : State :=
  if s.bgReqs.any (fun r => r.job = j) then s else { s with bgReqs := s.bgReqs ++ [⟨j, 0⟩] }

/-- The request of a job is withdrawn. -/
def State.bgDrop (s : State) (j : BgJob) : State := { s with bgReqs := s.bgReqs.filter (fun r => r.job ≠ j) }

/-- A quantum of the job was granted and has not ended. -/
def State.bgGranted (s : State) (j : BgJob) : Bool := s.bgGrants.contains j

/-- The granted quantum of a job has ended. -/
def State.bgEnd (s : State) (j : BgJob) : State := { s with bgGrants := s.bgGrants.erase j }

/-! ### Accepted host commands (14 R327) -/

/-- Every accepted command that waits for `w` now has its outcome: a status (21 R463), DETAIL and result words. -/
def State.settle (s : State) (w : CmdWait) (status detail : Nat) (res : List Nat) : State :=
  { s with cmds := s.cmds.map (fun c =>
      if c.wait = w ∧ c.done = none then { c with done := some (status, detail, res) } else c) }

/-! ### CRC-32C (03 R72) -/

/-- Eight bit steps of the reflected CRC-32C, polynomial 0x1EDC_6F41 (reflected 0x82F6_3B78). -/
def crcBits : Nat → Nat → Nat
  | 0, c => c
  | n + 1, c => crcBits n (if c % 2 = 1 then (c / 2) ^^^ 0x82F63B78 else c / 2)

/-- The register after a run of bytes. -/
def crcBytes : Nat → List Byte → Nat
  | c, [] => c
  | c, b :: bs => crcBytes (crcBits 8 (c ^^^ b.toNat)) bs

/-- CRC-32C with initial value and final XOR 0xFFFF_FFFF (03 R72). -/
def crc32c (bs : List Byte) : Nat := crcBytes 0xFFFFFFFF bs ^^^ 0xFFFFFFFF

/-! ### Byte memories -/

/-- A byte of the memories that read 0 where nothing was written. -/
def State.byte (s : State) (a : Nat) : Byte := tblGet 0 s.mem a

/-- The state with a byte of those memories written. A write through the directory invalidates every L1 copy of its line
(01 R11, 07 R182), and a reservation on its granule is lost (08 R218). -/
def State.putByte (s : State) (a : Nat) (b : Byte) : State :=
  { s with
    mem := tblSet 0 s.mem a b
    dir := s.dir.filter (fun e => e.line ≠ a / 64)
    resvs := s.resvs.filter (fun r => !(decide (r.addr ≤ a) && decide (a < r.addr + r.len))) }

/-- A write by core `k` itself: its own reservation stays (08 R218). -/
def State.keepResv (k : Nat) (f : State → State) (s : State) : State :=
  let t := f s
  { t with resvs := t.resvs.filter (fun r => r.core ≠ k) ++ s.resvs.filter (fun r => r.core = k) }

/-- The L1s that hold a line of the directory. -/
def DirEntry.holders (e : DirEntry) : List Nat :=
  match e.owner with
  | some k => [k]
  | none => e.sharers

/-- A store by core `k` itself: every other L1 loses the lines, its own L1 keeps them, with what it stored (03 R61, 07 R184). -/
def State.keepL1 (k : Nat) (f : State → State) (s : State) : State :=
  let t := s.keepResv k f
  let mine := s.dir.filter (fun e => e.holders.contains k && !t.dir.any (fun x => x.line = e.line))
  { t with dir := t.dir ++ mine.map (fun e => if e.owner = some k then e else { e with sharers := [k] }) }

/-- `n` bytes from address `a`. -/
def State.bytes (s : State) (a n : Nat) : List Byte := (List.range n).map (fun k => s.byte (a + k))

/-- The state with a run of bytes written from address `a`. -/
def State.putBytes (s : State) (a : Nat) : List Byte → State
  | [] => s
  | b :: bs => State.putBytes (s.putByte a b) (a + 1) bs

/-- A 32-bit word, least significant byte first (00 R3). -/
def State.word (s : State) (a : Nat) : Nat := ofBytes (s.bytes a 4)

/-- The state with a 32-bit word written, least significant byte first (00 R3). -/
def State.putWord (s : State) (a v : Nat) : State := s.putBytes a (toBytes 4 v)

end Sys2Proof.Machine
end

