-- ==== Sys2Proof/Machine/Registers.lean ====
section
/-! DEFINITION. Register access in general (00_scope.md R4 to R8, R467; 01 R16, R18, R22; 07 R168; 17 R381): finding
the register of an address, who may reach it, reading and writing fields by their access codes, the halves of 64-bit
registers. What a block does beyond the access codes stands in the block's own file. -/

namespace Sys2Proof.Machine

/-! ### Internal cells of this file -/

/-- Captured upper halves, one for each requester (R4): held, register address, value. -/
def HALF_CAP_ON : Fld := ⟨1110, 0, 1, .int, 0, .reset, .none⟩
def HALF_CAP_ADDR : Fld := ⟨1111, 0, 40, .int, 0, .reset, .none⟩
def HALF_CAP_VAL : Fld := ⟨1112, 0, 32, .int, 0, .reset, .none⟩
/-- Held lower halves, one for each requester (R4). -/
def HALF_HELD_ON : Fld := ⟨1113, 0, 1, .int, 0, .reset, .none⟩
def HALF_HELD_ADDR : Fld := ⟨1114, 0, 40, .int, 0, .reset, .none⟩
def HALF_HELD_VAL : Fld := ⟨1115, 0, 32, .int, 0, .reset, .none⟩

/-- 1 = a switchable power domain is off (01 R16), by domain number; Courses are off after cold reset (19 R428). -/
def DOM_OFF : Fld := ⟨1116, 0, 1, .int, 0, .keep, .none⟩

/-- 1 = a Course domain is on: Courses are off after cold reset (19 R428). -/
def CRS_ON : Fld := ⟨1117, 0, 1, .int, 0, .reset, .none⟩

/-- 1 = the domain of an arbitrated message bus channel is on: `AMB_CH_STAT`.STATE is OFF after cold reset (10). -/
def AMB_ON : Fld := ⟨1269, 0, 1, .int, 0, .keep, .none⟩

/-- 1 = a clear of the secure scratchpad runs (17 R380). -/
def SPAD_CLR : Fld := ⟨1405, 0, 1, .int, 1, .reset, .none⟩

/-- How often a Course's domain has turned on: what its memory holds then is open (R17). -/
def CRS_EPOCH : Fld := ⟨1119, 0, 64, .int, 0, .keep, .none⟩

/-- 1 = a monitored rail (18 R406) is out of its range (20 R445). Live: it survives every reset. -/
def RAIL_BAD : Fld := ⟨1458, 0, 1, .int, 0, .keep, .none⟩
/-- A reset that is asked for and waits (19 R429, R431): its class 1 cold, 2 warm (0 none). -/
def RST_REQ : Fld := ⟨1459, 0, 2, .int, 0, .reset, .none⟩
/-- The control core is on its fatal-fault path (19 R433): 1 a warm reset follows, 2 it waits for the reference. -/
def FATAL_PATH : Fld := ⟨1460, 0, 2, .int, 0, .reset, .none⟩

/-- Code page CP of a Praben core (08 R186): Courses 0 to 31, the control core 32, the Portcullis core 33. -/
def CORE_CP : Fld := ⟨1118, 0, 4, .int, 0, .reset, .none⟩

/-! ### Power domains: numbers used by DOM_OFF and by DOMAIN_POWER (14 R331) -/

def domPortcullis : Nat := 32
def domFretBank (b : Nat) : Nat := 33 + b
def domPhy (p : Nat) : Nat := 39 + p
def domSerdes (p : Nat) : Nat := 55 + (p - 16)
def domTrunk (g : Nat) : Nat := 71 + g
def domAmb (c : Nat) : Nat := 73 + c
def domTtb (k : Nat) : Nat := 89 + k

def domAdc : Nat := 93

/-- The rails (18 R406) without which a domain has no power (20 R445): VANA_T and VHV_T for a trunk group, VANA_F for the
field SerDes and with VPHY for the PHYs, VIO b for Fret bank b. -/
def domRails (d : Nat) : List Nat :=
  if d < 33 then []
  else if d < 39 then [6 + (d - 33)]
  else if d < 55 then [4, 5]
  else if d < 71 then [4]
  else if d < 73 then [2, 3]
  else []

/-- Domain `d` is on. -/
def State.domOn (s : State) (d : Nat) : Bool :=
  if d < 32 then s.flag CRS_ON d
  else if 73 ≤ d ∧ d < 89 then s.flag AMB_ON (d - 73)
  else if d = 93 then s.flag MKC_CTRL_ADC_EN 0
  else !s.flag DOM_OFF d && (domRails d).all (fun r => !s.flag RAIL_BAD r)

/-! ### The address map (01 R18) -/

/-- A region of the device address map. -/
inductive Region where
  | course (n : Nat) | own | ccSram | ccSecure | soundboard | ledger | ledgerSecure | scratchpad
  | registers | transom | hostSpace | unmapped
deriving DecidableEq, Repr

/-- The region of one address (01 R18; the secure page of the control core, 17 R382). -/
def regionOf (a : Nat) : Region :=
  if a < 0x100_0000 then .course (a / 0x8_0000)
  else if a < 0x400_0000 then .unmapped
  else if a < 0x408_0000 then .own
  else if a < 0x800_0000 then .unmapped
  else if a < 0x80C_0000 then .ccSram
  else if a < 0x810_0000 then .ccSecure
  else if a < 0x1000_0000 then .unmapped
  else if a < 0x1400_0000 then .soundboard
  else if a < 0x2000_0000 then .unmapped
  else if a < 0x23B0_0000 then .ledger
  else if a < 0x23C0_0000 then .ledgerSecure
  else if a < 0x3000_0000 then .unmapped
  else if a < 0x3004_0000 then .scratchpad
  else if a < 0x4000_0000 then .unmapped
  else if a < 0x4140_0000 then .registers
  else if a < 0x1_0000_0000 then .unmapped
  else if a < 0x2_0000_0000 then .transom
  else if a < 0x80_0000_0000 then .unmapped
  else if a < 0x100_0000_0000 then .hostSpace
  else .unmapped

/-- Two regions that are parts of one listed region count as one (R18: an access must lie in one listed region). -/
def Region.listed : Region → Region
  | .course _ => .course 0
  | .ccSecure => .ccSram
  | .ledgerSecure => .ledger
  | r => r

/-- The region of an access of `n` bytes: unmapped unless every byte lies in one listed region (R18). -/
def regionOfAccess (a n : Nat) : Region :=
  let r := regionOf a
  if (regionOf (a + n - 1)).listed = r.listed then
    (if r = .ledger ∨ r = .ccSram then regionOf (a + n - 1) else r)
  else .unmapped

/-- The secure attribute of an access (01 R9, 14 R322, 17 R382): SR.SEC is 1 exactly while CP = 3. -/
def State.secure (s : State) : Requester → Bool
  | .pcs => true
  | .cc => s.get CORE_CP 32 == 3
  | .pf => s.flag HIF_PF_SEC_SEC_EN 0
  | _ => false

/-- The register block of an address: its 1 MiB step (01 R23). -/
def blockOf (a : Nat) : Nat := a / 0x10_0000 % 1024

/-- Offset within the register block. -/
def blockOff (a : Nat) : Nat := a % 0x10_0000

/-- A configuration register of channels 12 to 15 of the arbitrated message bus: every register of theirs but TX_REQ, TX_CANCEL,
TX_DONE and RXQ_ACK (10 R237). -/
def ambPrivileged (a : Nat) : Bool :=
  decide (blockOf a = 10) && decide (0xC000 ≤ blockOff a) && decide (blockOff a < 0x1_0000) &&
    !([0x24, 0x28, 0x30, 0x64, 0x6C, 0x74, 0x7C].contains (blockOff a % 0x1000))

/-- The Course may write the register at `a` as far as R168 goes. -/
def courseMayWrite (s : State) (n a : Nat) : Bool :=
  let off := blockOff a
  match blockOf a with
  | 3 => s.flag CRS_RIGHTS_TMB_SAMPLE n && decide (0x1000 ≤ off) && decide (off < 0x2000) &&
      ([0x30, 0x38, 0x3C, 0x58, 0x5C, 0x60].contains (off % 0x100))
  | 4 => -- Tablature tables and control registers of an owned port; table 32 and the global registers are read only
      if 0x1000 ≤ off ∧ off < 0x1400 then s.bit CRS_OWN_PORTS n (off % 0x1000 / 0x20)
      else if 0x8_0000 ≤ off then s.bit CRS_OWN_PORTS n (off % 0x8_0000 / 0x4000)
      else false
  | 6 => s.bit CRS_OWN_PORTS n (off / 0x4000)
  | 8 => decide (off < 0x8_0000) && decide (off / 0x4000 = n)
  | 9 => s.flag CRS_RIGHTS_FRT n
  | 10 => s.flag CRS_RIGHTS_AMB n && !ambPrivileged a
  | 11 => s.flag CRS_RIGHTS_TTB n
  | 12 => s.flag CRS_RIGHTS_FIO_MKC n
  | _ => false

/-- Registers that are secure-only beyond the PCS block: Wickets 0 to 31 and HIF_PF_SEC (17 R381, 14). -/
def secureOnly (a : Nat) : Bool :=
  decide (blockOf a = 18) || (decide (blockOf a = 15) &&
    ((decide (0x1_0000 ≤ blockOff a) && decide (blockOff a < 0x1_2000)) || decide (blockOff a < 4)))

/-- What R22, R168 and R381 say of an access: allowed, refused, or refused for want of the secure attribute. -/
inductive Permit where
  | yes | no | insecure
deriving DecidableEq, Repr

/-- The memory or the registers of a region at `a` have power (R16): a Course's memory with its domain, the scratchpad
with the Portcullis while no clear runs (17 R380), the FRT block while a bank is on (09 R221). All other registers lie in the core domain. -/
def State.powered (s : State) (r : Region) (a : Nat) : Bool :=
  match r with
  | .course n => s.domOn n
  | .scratchpad => s.domOn domPortcullis && !s.flag SPAD_CLR 0
  | .registers => blockOf a != 9 || (List.range 6).any (fun b => s.domOn (domFretBank b))
  | _ => true

/-- What a host function reaches of the Soundboard through its BAR2: the physical function all of it, a virtual one its window of
4 MiB while SBW_EN = 1 (01 R24, 14 R323). -/
def State.boardWindow (s : State) (q : Requester) (a : Nat) : Bool :=
  match q with
  | .vf f => f.val != 0 && s.flag HIF_VF_CFG_SBW_EN f.val && (a - 0x1000_0000) / 0x40_0000 == s.get HIF_VF_CFG_SBW f.val
  | _ => true

/-- Whether a requester may make an access of a region (01 R16, R22, 07 R168, 10 R237, 17 R381). What R381 names refuses every requester
that lacks the secure attribute as insecure, whatever R22 says of one that has it. The debug port, while it is open, reaches the Courses,
the control core while SEC = 0, and the registers that are not secure-only (17 R383). -/
def State.permit (s : State) (q : Requester) (r : Region) (a : Nat) (wr : Bool) : Permit :=
  if !s.powered r a then .no else
  let ok (b : Bool) : Permit := if b then .yes else .no
  let sec (b : Bool) : Permit := if !s.secure q then .insecure else ok b
  match r with
  | .unmapped => .no
  | .course _ => match q with
    | .course _ | .cc | .dma _ | .tab => .yes
    | .debug => ok (s.flag DEV_CAP_DEBUG_OPEN 0)
    | _ => .no
  | .own => match q with
    | .course _ => .yes
    | _ => .no
  | .ccSram => ok (q = .cc || (q = .debug && s.flag DEV_CAP_DEBUG_OPEN 0 && s.get CORE_CP 32 != 3))
  | .ccSecure => sec (q = .cc)
  | .soundboard => ok (q != .debug && s.boardWindow q a)
  | .ledger => match q with
    | .course n => ok (!wr && s.flag CRS_RIGHTS_LEDGER_READ n.val)
    | .cc | .pcs => .yes
    | _ => .no
  | .ledgerSecure => sec (q = .pcs || q = .cc)
  | .scratchpad => sec (q = .pcs)
  | .registers =>
      if secureOnly a then sec (q = .pcs || q = .cc || q = .pf)
      else match q with
        | .dma _ | .tab | .vf _ => .no
        | .course n => ok (!wr || courseMayWrite s n.val a)
        | .pcs => ok (!wr || !ambPrivileged a)
        | .debug => ok (s.flag DEV_CAP_DEBUG_OPEN 0)
        | _ => .yes
  | .transom => match q with
    | .course n => ok (s.flag CRS_RIGHTS_TRANSOM n.val)
    | .cc | .dma _ | .tab => .yes
    | _ => .no
  | .hostSpace => match q with
    | .course n => ok (s.flag CRS_RIGHTS_HOSTMEM n.val && s.flag CRS_XLT_EN n.val)
    | .cc => ok (s.flag XLT_CFG_CC_EN 0)
    | .dma _ | .tab => .yes
    | _ => .no

/-! ### Error responses -/

/-- The first fault of a Course since VALID was cleared is recorded in CRS_FAULT (07 R168). -/
def State.courseFault (s : State) (n kind a : Nat) : State :=
  if s.flag CRS_FAULT_VALID n then s
  else ((s.put CRS_FAULT_ADDR n a).put CRS_FAULT_KIND n kind).put CRS_FAULT_VALID n 1

/-- An error response: a completer abort for a host, a bus error inside (R4); a Course's is recorded with KIND. -/
def State.refuse (s : State) (q : Requester) (a : Nat) (kind : Nat := 1) : State :=
  let s := match q with
    | .course n => s.courseFault n.val kind a
    | _ => s
  s.emit (.errorResponse q a kind)

/-- An access refused for want of the secure attribute counts in NS_REJ; the first count since a read raises
PCS_NS_ACCESS, event 97 (17 R381). -/
def State.refuseInsecure (s : State) (q : Requester) (a : Nat) : State :=
  (s.count1 PCS_CNT_NS_REJ 0 97).refuse q a

/-- The error response for a refused access. -/
def State.denied (s : State) (q : Requester) (a : Nat) : Permit → State
  | .insecure => s.refuseInsecure q a
  | _ => s.refuse q a

/-- A register write by a requester, performed when R22, R168 and R381 allow it, else answered with an error. -/
def State.gate (s : State) (q : Requester) (a : Nat) (k : State → State) : State :=
  match s.permit q .registers a true with
  | .yes => k s
  | p => s.denied q a p

/-- A register write that only the control core may make (R467). -/
def State.gateCC (s : State) (q : Requester) (a : Nat) (k : State → State) : State :=
  if q = .cc then s.gate q a k else s.denied q a (if s.permit q .registers a true = .insecure then .insecure else .no)

/-! ### Finding a register -/

/-- The copy of a register at an address, by its strides. -/
def RegInfo.copyAt (r : RegInfo) (a : Nat) : Option Nat :=
  if a < r.base then none else
  let o := a - r.base
  match r.dims with
  | [] => if o = 0 then some 0 else none
  | [(st, n)] => if o % st = 0 ∧ o / st < n then some (o / st) else none
  | (s1, n1) :: (s2, n2) :: _ =>
    if o / s1 < n1 ∧ o % s1 % s2 = 0 ∧ o % s1 / s2 < n2 then some (o / s1 * n2 + o % s1 / s2) else none

/-- The address of a copy of a register. -/
def RegInfo.addr (r : RegInfo) (i : Nat) : Nat :=
  match r.dims with
  | [] => r.base
  | [(st, _)] => r.base + st * i
  | (s1, _) :: (s2, n2) :: _ => r.base + s1 * (i / n2) + s2 * (i % n2)

/-- The register at an address, with its copy. -/
def findReg (a : Nat) : List RegInfo → Option (RegInfo × Nat)
  | [] => none
  | r :: rs => match r.copyAt a with
    | some i => some (r, i)
    | none => findReg a rs

/-- The lock bit of the block a register lies in, with its copy (00 R7 and each block's LOCK field). -/
def lockOf (a : Nat) : Option (Fld × Nat) :=
  match blockOf a with
  | 0 => some (DEV_LOCK_LOCK, 0)
  | 2 => some (PWR_PF_LOCK, 0)
  | 3 => some (TMB_CTRL_LOCK, 0)
  | 4 => some (LIM_CYC_CTRL_LOCK, 0)
  | 5 => some (SBD_CTRL_LOCK, 0)
  | 6 => some (MAC_CFG_LOCK, blockOff a / 0x4000)
  | 7 => some (TRK_SLICE_TAG_LOCK, 0)
  | 12 => some (FIO_CTRL_LOCK, 0)
  | 16 => some (TRB_CFG_LOCK, 0)
  | 17 => some (LDG_CTRL_LOCK, 0)
  | 18 => some (PCS_CTRL_LOCK, 0)
  | 19 => some (RDN_CFG_LOCK, 0)
  | _ => none

/-- The block of an address is locked (R7). -/
def State.locked (s : State) (a : Nat) : Bool :=
  match lockOf a with
  | some (L, i) => s.flag L i
  | none => false

/-! ### Fields by access code (R6, R467) -/

/-- Whether a requester may write a field (R467). -/
def Who.admits : Who → Requester → Bool
  | .any, _ => true
  | .cc, q => q = .cc
  | .pcs, q => q = .pcs
  | .fw, q => q = .cc ∨ q = .pcs
  | .none, _ => false

/-- A field that some write acts on. -/
def Acc.writable : Acc → Bool
  | .ro | .rc | .int => false
  | _ => true

/-- One field of a written register, by its access code (R6). WO fields act by the rules of their block alone. -/
def State.writeFld (s : State) (q : Requester) (a : Nat) (F : Fld) (i v : Nat) : State :=
  if !F.who.admits q then s else
  match F.acc with
  | .rw | .rws => s.put F i v
  | .rwl => if s.locked a then s else s.put F i v
  | .w1c => s.put F i (s.get F i &&& (2 ^ F.w - 1 - v % 2 ^ F.w))
  | .w1s => s.put F i (s.get F i ||| v % 2 ^ F.w)
  | .ro | .rc | .wo | .int => s

/-- All fields of a written register, from the lowest up. -/
def State.writeFlds (s : State) (q : Requester) (a i v : Nat) : List Fld → State
  | [] => s
  | F :: Fs => State.writeFlds (s.writeFld q a F i (bitsOf v F.lo F.w)) q a i v Fs

/-- Every field of a register at the bits of a value. -/
def State.setFlds (s : State) (i v : Nat) : List Fld → State
  | [] => s
  | F :: Fs => State.setFlds (s.put F i (bitsOf v F.lo F.w)) i v Fs

/-- A requester may write no field of a register that has writable fields (R467). -/
def RegInfo.closedTo (r : RegInfo) (q : Requester) : Bool :=
  let ws := r.flds.filter (fun F => F.acc.writable)
  !ws.isEmpty && ws.all (fun F => !F.who.admits q)

/-- A field as it reads (R6): WO reads zero. -/
def State.readFld (s : State) (F : Fld) (i : Nat) : Nat :=
  if F.acc = .wo then 0 else s.get F i

/-- A register as it reads, from the lowest field up. -/
def State.readFlds (s : State) (i : Nat) : List Fld → Nat
  | [] => 0
  | F :: Fs => s.readFld F i * 2 ^ F.lo + State.readFlds s i Fs

/-- The RC fields whose lowest bit lies in a range clear (R6; R4 for the halves). -/
def State.clearRC (s : State) (i lo hi : Nat) : List Fld → State
  | [] => s
  | F :: Fs =>
    let s := if F.acc = .rc ∧ lo ≤ F.lo ∧ F.lo < hi then s.put F i 0 else s
    State.clearRC s i lo hi Fs

/-- The lower half of a 64-bit register as an upper-half write without a held half combines with it: its RW, RWL and
RWS fields as they stand, its WO, W1C and W1S fields as zero (R4). -/
def State.standing (s : State) (i : Nat) : List Fld → Nat
  | [] => 0
  | F :: Fs =>
    (if F.acc = .rw ∨ F.acc = .rwl ∨ F.acc = .rws then s.get F i * 2 ^ F.lo else 0) % 2 ^ 32 + State.standing s i Fs

/-- PCS_STATE.STATE (17 R398). -/
def pcsOff : Nat := 0
def pcsBooting : Nat := 1
def pcsReady : Nat := 2
def pcsFatalState : Nat := 3

end Sys2Proof.Machine
end

