-- ==== Sys2Proof/Machine/TimeBase.lean ====
section
/-! DEFINITION. The time base and the Peg servo (spec/02_line_time_and_peg_servo.md): ticks, increments, steps, the
epoch pair, the variable parts, the servo and its states, timestamps. -/

namespace Sys2Proof.Machine

/-! ### Internal cells, one of each per domain unless said otherwise -/

/-- An accepted step waits for the next tick (R38): held, and its signed value in 1/256 ns. -/
def TMB_STEP_ON : Fld := ⟨1120, 0, 1, .int, 0, .reset, .none⟩
def TMB_STEP_VAL : Fld := ⟨1121, 0, 40, .int, 0, .reset, .none⟩
/-- Held REF_NS, by requester and domain (requester number × 16 + domain) (R39). -/
def EPOCH_HELD_ON : Fld := ⟨1122, 0, 1, .int, 0, .reset, .none⟩
def EPOCH_HELD_VAL : Fld := ⟨1123, 0, 32, .int, 0, .reset, .none⟩
/-- A pair was committed since cold reset; it waits for a future REF_NS; it has run out (R39). -/
def EPOCH_COMMITTED : Fld := ⟨1124, 0, 1, .int, 0, .keep, .none⟩
def EPOCH_WAIT : Fld := ⟨1125, 0, 1, .int, 0, .keep, .none⟩
/-- Servo: no first sample yet; ts of the last accepted sample; the integrator in units of 2^-48; consecutive samples
counted toward LOCKED, UNLOCKED and gating (R45, R46). -/
def SRV_FIRST : Fld := ⟨1126, 0, 1, .int, 0, .keep, .none⟩
def SRV_LAST_TS : Fld := ⟨1127, 0, 32, .int, 0, .keep, .none⟩
def SRV_INTEG : Fld := ⟨1128, 0, 64, .int, 0, .keep, .none⟩
def SRV_GOOD : Fld := ⟨1129, 0, 16, .int, 0, .keep, .none⟩
def SRV_BAD : Fld := ⟨1130, 0, 16, .int, 0, .keep, .none⟩
def SRV_GATED : Fld := ⟨1131, 0, 4, .int, 0, .keep, .none⟩
/-- Line time in ns of the last step, and of the software write of the increment that no step has followed, with whether there is
one (R45). -/
def SRV_STEP_SEEN : Fld := ⟨1132, 0, 1, .int, 0, .keep, .none⟩
def SRV_STEP_NS : Fld := ⟨1133, 0, 32, .int, 0, .keep, .none⟩
def SRV_INCW_SEEN : Fld := ⟨1134, 0, 1, .int, 0, .keep, .none⟩
def SRV_INCW_NS : Fld := ⟨1135, 0, 32, .int, 0, .keep, .none⟩
/-- The core clock counts at which they happened: 2^31 ns later no sample lies before them (R36, R45). -/
def SRV_STEP_AT : Fld := ⟨1473, 0, 64, .int, 0, .keep, .none⟩
def SRV_INCW_AT : Fld := ⟨1474, 0, 64, .int, 0, .keep, .none⟩
/-- Line time in ns just before the last step (R38). -/
def SRV_STEP_PRE : Fld := ⟨1523, 0, 32, .int, 0, .keep, .none⟩
/-- Core clock count of the last acceptance, or of the setting of SERVO (R46). -/
def SRV_ACC_AT : Fld := ⟨1136, 0, 64, .int, 0, .keep, .none⟩
/-- The sample in progress: present, θ in 1/256 ns, ts in ns, port index (R45). -/
def SMP_ON : Fld := ⟨1137, 0, 1, .int, 0, .reset, .none⟩
def SMP_THETA : Fld := ⟨1138, 0, 40, .int, 0, .reset, .none⟩
def SMP_TS : Fld := ⟨1139, 0, 32, .int, 0, .reset, .none⟩
def SMP_PORT : Fld := ⟨1140, 0, 6, .int, 0, .reset, .none⟩
/-- Per port index: TMB_ASYM_SHIFT was raised and the parts have not both returned (R44). -/
def ASYM_OUT : Fld := ⟨1141, 0, 1, .int, 0, .reset, .none⟩
/-- Per port index: the core clock count from which the applied parts may move again (R44). -/
def VAR_NEXT : Fld := ⟨1524, 0, 64, .int, 0, .keep, .none⟩

/-- The address of a domain's register (02, TMB registers). -/
def tmbAddr (off d : Nat) : Nat := 0x4030_1000 + 0x100 * d + off

/-! ### The increment (R31, R32) -/

/-- The nominal increment, 1.25 ns in units of 2^-40 ns. -/
def incNominal : Nat := 0x0140_0000_0000

/-- 1,000 ppm of the nominal increment, as a whole number of units that stays inside the range (R32). -/
def incSpan : Nat := 1374389534

/-- A wanted increment, clamped to nominal ±1,000 ppm (R32). -/
def incClamp (v : Int) : Nat :=
  if v < (incNominal : Int) - incSpan then incNominal - incSpan
  else if v > (incNominal : Int) + incSpan then incNominal + incSpan
  else v.toNat

/-- The increment in force in units of 2^-40 ns. -/
def State.inc (s : State) (d : Nat) : Nat := s.get TMB_DOM_INC_NS d * 2 ^ 40 + s.get TMB_DOM_INC_FRAC d

/-- The state with a domain's increment set, clamped (R32). -/
def State.putInc (s : State) (d : Nat) (v : Int) : State :=
  let c := incClamp v
  (s.put TMB_DOM_INC_FRAC d c).put TMB_DOM_INC_NS d (c / 2 ^ 40)

/-! ### Steps (R37, R38) -/

/-- Line cycles run in domain `d` (R37; 03 R52). -/
def State.linesRunIn (s : State) (d : Nat) : Bool := s.flag LIM_STAT_RUNNING 0 && s.get LIM_CYC_CTRL_DOM 0 == d

/-- A refused step is counted and raises TMB_STEP_BLOCKED (R37). -/
def stepBlocked (d : Nat) (s : State) : State := (s.sat TMB_DOM_CNT1_STEP_BLOCKED d).raise (1923 + 4 * d)

/-- EPOCH_STALE of a domain, live: the opposite of the pair's validity (R39). -/
def epochStale (s : State) (d : Nat) : Bool :=
  !s.flag EPOCH_COMMITTED d || s.flag EPOCH_WAIT d ||
    decide (4000000000 ≤ (s.nowNs d + 2 ^ 32 - s.get TMB_DOM_EPOCH_REF_REF_NS d) % 2 ^ 32)

/-- TMB_DOM_STAT.EPOCH_STALE follows. -/
def refreshEpoch (d : Nat) (s : State) : State := s.putFlag TMB_DOM_STAT_EPOCH_STALE d (epochStale s d)

/-- What a domain's counter advances by in one core clock cycle, in units of 2^-40 ns (R31, R32). -/
def State.advance (s : State) (d : Nat) : Nat := if s.get TMB_DOM_CFG_MODE d = 0 then 0 else s.inc d

/-- A step of a signed number of 1/256 ns is added to a counter (R37). The line time before it and that of its tick, which the
cycle's own advance completes, are remembered for stale samples (R38); what was measured before an earlier write of the increment was
measured before the step too (R45). -/
def addStep (d : Nat) (z : Int) (s : State) : State :=
  let s := s.put SRV_STEP_PRE d (s.nowNs d)
  let s := s.put TMB_CTR d (((s.get TMB_CTR d : Int) + z * 2 ^ 32) % 2 ^ 72).toNat
  let s := s.put SRV_STEP_NS d ((s.get TMB_CTR d + s.advance d) % 2 ^ 72 / 2 ^ 40)
  refreshEpoch d (((s.put SRV_STEP_SEEN d 1).put SRV_INCW_SEEN d 0).put SRV_STEP_AT d (s.get CORE_COUNT 0))

/-- A software step write (R37, R38): held for the next tick, or refused while line cycles run in the domain. -/
def tmbDomStep (d v : Nat) (s : State) : State :=
  if s.linesRunIn d then stepBlocked d s else (s.put TMB_STEP_ON d 1).put TMB_STEP_VAL d v

/-- The step accepted for this tick, if any, is added; a sample in progress becomes stale (R38). Line cycles that have begun in the
domain since the write refuse it (R37; log entry 141). -/
def applyStep (d : Nat) (s : State) : State :=
  if s.flag TMB_STEP_ON d then
    if s.linesRunIn d then stepBlocked d (s.put TMB_STEP_ON d 0)
    else
      let s := addStep d (s.getS TMB_STEP_VAL d) (s.put TMB_STEP_ON d 0)
      if s.flag SMP_ON d then (s.put SMP_ON d 0).sat TMB_DOM_CNT1_STALE d else s
  else s

/-! ### The epoch pair (R39) -/

/-- A committed REF_NS that lay in the future has been reached: the pair becomes valid (R39, matched as R34). -/
def epochReached (d : Nat) (s : State) : State :=
  if s.flag EPOCH_WAIT d && s.reachedNs d (s.get TMB_DOM_EPOCH_REF_REF_NS d) then
    refreshEpoch d (s.put EPOCH_WAIT d 0)
  else s

/-- A write of TMB_DOM_EPOCH_REF is held for its requester and domain (R39). -/
def epochRefHold (q : Requester) (d v : Nat) (s : State) : State :=
  (s.put EPOCH_HELD_ON (q.num * 16 + d) 1).put EPOCH_HELD_VAL (q.num * 16 + d) v

/-- A commit of the pair by a write of TMB_DOM_EPOCH (R39). -/
def epochCommit (q : Requester) (d sec : Nat) (s : State) : State :=
  let h := q.num * 16 + d
  let ref := if s.flag EPOCH_HELD_ON h then s.get EPOCH_HELD_VAL h else s.get TMB_DOM_EPOCH_REF_REF_NS d
  let ahead := (ref + 2 ^ 32 - s.nowNs d) % 2 ^ 32
  let s := (s.put EPOCH_HELD_ON h 0).put TMB_DOM_EPOCH_REF_REF_NS d ref
  let s := (s.put TMB_DOM_EPOCH_SECONDS d sec).put EPOCH_COMMITTED d 1
  refreshEpoch d (s.putFlag EPOCH_WAIT d (decide (1 ≤ ahead) && decide (ahead < 2 ^ 31)))

/-! ### The tick (R31) -/

/-- One domain's counter at a tick: the accepted step first, then `n` increments unless the domain is OFF. -/
def tickDom (n d : Nat) (s : State) : State :=
  let s := applyStep d s
  let s := if s.get TMB_DOM_CFG_MODE d = 0 then s else s.put TMB_CTR d (s.get TMB_CTR d + n * s.inc d)
  refreshEpoch d s

/-- The counter of a domain at the latest edge of the Fret clock, at the one before it and at the one before that, 72 bits each, the
latest lowest (09 R227). The Fret clock's edges are the even counts of the core clock. -/
def TMB_EDGES : Fld := ⟨1533, 0, 216, .int, 0, .reset, .none⟩

/-- The counter of domain `d` at the even core clock count `e`, when `n` cycles have passed since count `c0`, with `s` before them: in
these cycles it was `ctr` at their end and advanced by `inc` in each. -/
def ctrAt (s : State) (d c0 n ctr inc e : Nat) : Nat :=
  if c0 < e then (ctr + 2 ^ 72 - (c0 + n - e) * inc % 2 ^ 72) % 2 ^ 72
  else s.get TMB_EDGES d / 2 ^ (72 * ((c0 / 2 * 2 - e) / 2)) % 2 ^ 72

/-- The edges of domain `d` after `n` core clock cycles; `s` is the state before them. -/
def edgesNote (s : State) (n d : Nat) (t : State) : State :=
  let c0 := s.get CORE_COUNT 0
  let inc := if t.get TMB_DOM_CFG_MODE d = 0 then 0 else t.inc d
  let last := (c0 + n) / 2 * 2
  let v (i : Nat) : Nat := ctrAt s d c0 n (t.get TMB_CTR d) inc (last - 2 * i)
  t.put TMB_EDGES d (v 0 + v 1 * 2 ^ 72 + v 2 * 2 ^ 144)

/-- How far back a frame's first octet can lie when the frame is taken in: 2^24 core clock cycles, 21 ms (R40). -/
def longAgo : Nat := 2 ^ 24

/-- The latest `n` cycles of domain `d` continue the newest of its stretches: no step, and the same increment. -/
def runsOn (s : State) (n d : Nat) : Bool :=
  match s.ctrRuns.find? (fun r => r.dom = d) with
  | some r => decide (r.adv = s.advance d) && decide (r.inc = s.inc d) &&
      decide ((r.ctr + (s.get CORE_COUNT 0 - r.since) * r.adv) % 2 ^ 72 = s.get TMB_CTR d)
  | none => n == 0

/-- The latest `n` cycles of domain `d` begin a stretch of their own unless they continue the newest; stretches that ended long ago
are forgotten (R40). -/
def runNote (n d : Nat) (s : State) : State :=
  if runsOn s n d then s
  else
    let now := s.get CORE_COUNT 0
    let r : CtrRun := ⟨d, now - n, (s.get TMB_CTR d + 2 ^ 72 - n * s.advance d % 2 ^ 72) % 2 ^ 72, s.advance d, s.inc d⟩
    { s with ctrRuns := r :: s.ctrRuns.filter (fun x => x.dom ≠ d ||
        !s.ctrRuns.any (fun y => y.dom = d && decide (x.since < y.since) && decide (y.since + longAgo ≤ now))) }

/-- `n` core clock cycles in which nothing else happens: every counter advances by its increment in each (R31). -/
def timeBaseTick (n : Nat) (s : State) : State :=
  overRange (fun d t => runNote n d (edgesNote s n d (tickDom n d t))) 16 (s.put CORE_COUNT 0 (s.get CORE_COUNT 0 + n))

/-- The counter of domain `d` as it stood `age` core clock cycles ago, and the increment then in force (R40). -/
def State.domAgo (s : State) (d age : Nat) : Nat × Nat :=
  if age = 0 then (s.get TMB_CTR d, s.inc d)
  else
    let c := s.get CORE_COUNT 0 - age
    let ctr := match s.ctrRuns.find? (fun r => r.dom = d && decide (r.since < c)) with
      | some r => (r.ctr + (c - r.since) * r.adv) % 2 ^ 72
      | none => (s.get TMB_CTR d + 2 ^ 72 - age * s.advance d % 2 ^ 72) % 2 ^ 72
    (ctr, match s.ctrRuns.find? (fun r => r.dom = d && decide (r.since ≤ c)) with
      | some r => r.inc
      | none => s.inc d)

/-- TMB_SNAP captures all 16 counters in one core clock cycle (R35). -/
def tmbSnap (s : State) : State :=
  overRange (fun d t => (t.put TMB_DOM_SNAP_NS d (s.nowNs d)).put TMB_DOM_SNAP_FRAC d (s.now d)) 16 s

/-! ### The Peg servo (R45, R46) -/

/-- Servo states of TMB_DOM_STAT.STATE. -/
def srvAcquire : Nat := 1
def srvLocked : Nat := 2
def srvHoldover : Nat := 3

/-- The servo's state set, with its bits of TMB_SUMMARY (R46). -/
def setServo (d st : Nat) (s : State) : State :=
  ((s.put TMB_DOM_STAT_STATE d st).putBit TMB_SUMMARY_LOCKED 0 d (st == srvLocked)).putBit
    TMB_SUMMARY_HOLDOVER 0 d (st == srvHoldover)

/-- A servo step, or slewing in its place where R37 blocks it: the state, and whether it stepped. -/
def stepOrSlew (d : Nat) (z : Int) (s : State) : State × Bool :=
  if s.linesRunIn d || !s.flag TMB_DOM_CFG_STEP_EN d then (stepBlocked d s, false) else (addStep d z s, true)

/-- `ts` lies before instant `t`, both in ns modulo 2^32. -/
def nsBefore (ts t : Nat) : Bool := decide ((t + 2 ^ 32 - ts) % 2 ^ 32 ≠ 0) && decide ((t + 2 ^ 32 - ts) % 2 ^ 32 < 2 ^ 31)

/-- `ts` lies before the last step of `d`, or the last software write of its increment (R45): 32 bits of nanoseconds tell that
within 2^31 ns (R36), which are 1,717,986,918 core clock cycles. After a backward step an instant that line time has not reached
again, up to the time before the step, was measured before it too (R38). -/
def staleSample (d ts : Nat) (s : State) : Bool :=
  let recent (A : Fld) : Bool := decide (s.get CORE_COUNT 0 < s.get A d + 1717986918)
  (s.flag SRV_STEP_SEEN d && recent SRV_STEP_AT && (nsBefore ts (s.get SRV_STEP_NS d) ||
    (nsBefore (s.nowNs d) ts && !nsBefore (s.get SRV_STEP_PRE d) ts))) ||
    (s.flag SRV_INCW_SEEN d && recent SRV_INCW_AT && nsBefore ts (s.get SRV_INCW_NS d))

/-- SLEW_MAX in ppm; values above 1,000 act as 1,000. -/
def slewMax (s : State) (d : Nat) : Nat := min (s.get TMB_DOM_SERVO_SLEW_MAX d) 1000

/-- update_lock of R45: consecutive accepted samples move the state between ACQUIRE and LOCKED (R46). -/
def updateLock (d : Nat) (th : Int) (s : State) : State :=
  if s.get TMB_DOM_STAT_STATE d = srvLocked then
    let bad := if th.natAbs > s.get TMB_DOM_THRESH_UNLOCK_THR d * 256 then s.get SRV_BAD d + 1 else 0
    if max (s.get TMB_DOM_LOCKCNT_UNLOCK_M d) 1 ≤ bad then
      (setServo d srvAcquire ((s.put SRV_BAD d 0).put SRV_GOOD d 0)).raise (1921 + 4 * d)
    else s.put SRV_BAD d bad
  else
    let good := if th.natAbs ≤ s.get TMB_DOM_THRESH_LOCK_THR d * 256 then s.get SRV_GOOD d + 1 else 0
    if max (s.get TMB_DOM_LOCKCNT_LOCK_N d) 1 ≤ good then
      (setServo d srvLocked (((s.put SRV_GOOD d 0).put SRV_BAD d 0).put SRV_GATED d 0)).raise (1920 + 4 * d)
    else s.put SRV_GOOD d good

/-- A signed relative frequency `n / 2^63`, limited to ±SLEW_MAX ppm, applied to the nominal increment (R45):
round(nominal × (1 + y)), ties to even, then the clamp of R32. -/
def incOf (slew : Nat) (n : Int) : Int :=
  let lim : Int := slew
  if n * 1000000 > lim * 2 ^ 63 then incNominal + roundDiv (incNominal * lim) 1000000
  else if n * 1000000 < -(lim * 2 ^ 63) then incNominal + roundDiv (-(incNominal * lim)) 1000000
  else incNominal + roundDiv (incNominal * n) (2 ^ 63)

/-- The integrator limited to ±SLEW_MAX ppm, in whole units of 2^-48. -/
def clampInteg (slew : Nat) (n : Int) : Int :=
  let lim := roundDiv ((slew : Int) * 2 ^ 48) 1000000
  if n > lim then lim else if n < -lim then -lim else n

/-- The PI path of R45: θ/τ to a relative 2^-48, the integrator, the increment. -/
def piUpdate (d : Nat) (th : Int) (tau : Nat) (s : State) : State :=
  let locked := s.get TMB_DOM_STAT_STATE d = srvLocked
  let kp := if locked then s.get TMB_DOM_SERVO_KP_LOCK d else s.get TMB_DOM_SERVO_KP_ACQ d
  let ki := if locked then s.get TMB_DOM_SERVO_KI_LOCK d else s.get TMB_DOM_SERVO_KI_ACQ d
  let r := roundDiv (th * 2 ^ 40) tau
  let integ := clampInteg (slewMax s d) (roundDiv (s.getS SRV_INTEG d * 2 ^ ki + r) (2 ^ ki))
  let y := -(r * 2 ^ (15 - kp) + integ * 2 ^ 15)
  updateLock d th ((s.putS SRV_INTEG d integ).putInc d (incOf (slewMax s d) y))

/-- An accepted sample leaves θ in TMB_DOM_OFFS and restarts the holdover time (R45, R46). -/
def acceptSample (d : Nat) (th : Int) (ts : Nat) (s : State) : State :=
  let c := if th > 2147483647 then 2147483647 else if th < -2147483648 then -2147483648 else th
  (((s.sat TMB_DOM_CNT0_ACCEPTED d).put SRV_LAST_TS d ts).put SRV_ACC_AT d (s.get CORE_COUNT 0)).putS TMB_DOM_OFFS_THETA d c

/-- An accepted sample ends HOLDOVER (R46), the first one too. -/
def leaveHoldover (d : Nat) (s : State) : State :=
  if s.get TMB_DOM_STAT_STATE d = srvHoldover then setServo d srvAcquire (s.put SRV_GOOD d 0) else s

/-- The processing of one sample, as R45 lists it (θ in 1/256 ns, ts in ns). -/
def servoSample (d : Nat) (th : Int) (ts port : Nat) (s : State) : State :=
  if s.get TMB_DOM_CFG_MODE d ≠ 2 then s.sat TMB_DOM_CNT0_REJECTED d
  else if s.get TMB_DOM_CFG_SRC_PORT d ≠ 63 ∧ port ≠ s.get TMB_DOM_CFG_SRC_PORT d then s.sat TMB_DOM_CNT0_REJECTED d
  else if staleSample d ts s then s.sat TMB_DOM_CNT1_STALE d
  else
    let stepThr := max (s.get TMB_DOM_THRESH_STEP_THR d) 1 * 100 * 256
    if s.flag SRV_FIRST d then
      let s := acceptSample d th ts (s.put SRV_FIRST d 0)
      let s := leaveHoldover d s
      if th.natAbs > stepThr then (stepOrSlew d (-th) s).1 else s
    else
      let tau := (ts + 2 ^ 32 - s.get SRV_LAST_TS d) % 2 ^ 32
      if tau < 250000 then s.sat TMB_DOM_CNT0_REJECTED d
      else
        let tau := min tau 2000000000
        if s.get TMB_DOM_STAT_STATE d = srvLocked ∧ th.natAbs > s.get TMB_DOM_THRESH_GATE d * 4 * 256 then
          let g := s.get SRV_GATED d + 1
          let s := s.sat TMB_DOM_CNT0_REJECTED d
          if g = 4 then (setServo d srvAcquire ((s.put SRV_GOOD d 0).put SRV_GATED d 0)).raise (1921 + 4 * d)
          else s.put SRV_GATED d g
        else
          let s := acceptSample d th ts (s.put SRV_GATED d 0)
          let s := leaveHoldover d s
          let r := if th.natAbs > stepThr then stepOrSlew d (-th) s else (s, false)
          let s := r.1
          if r.2 then
            let s := if s.get TMB_DOM_STAT_STATE d = srvLocked then s.raise (1921 + 4 * d) else s
            setServo d srvAcquire (s.put SRV_GOOD d 0)
          else piUpdate d th tau s

/-- A sample is submitted (R45): it replaces one in progress, which counts as rejected. -/
def sampleSubmit (d : Nat) (th ts port : Nat) (s : State) : State :=
  let s := if s.flag SMP_ON d then s.sat TMB_DOM_CNT0_REJECTED d else s
  (((s.put SMP_ON d 1).put SMP_THETA d th).put SMP_TS d ts).put SMP_PORT d port

/-- The servo processes the sample in progress (R45). -/
def servoUpdate (d : Nat) (s : State) : State :=
  if s.flag SMP_ON d then
    servoSample d (s.getS SMP_THETA d) (s.get SMP_TS d) (s.get SMP_PORT d) (s.put SMP_ON d 0)
  else s

/-- HOLD_MS has passed without an accepted sample: HOLDOVER, with y := −integ (R46). HOLD_MS 0 acts as 1; a
millisecond is 800,000 core clock cycles. -/
def servoHoldover (d : Nat) (s : State) : State :=
  let st := s.get TMB_DOM_STAT_STATE d
  if s.get TMB_DOM_CFG_MODE d = 2 ∧ (st = srvAcquire ∨ st = srvLocked) ∧
      max (s.get TMB_DOM_LOCKCNT_HOLD_MS d) 1 * 800000 ≤ s.get CORE_COUNT 0 - s.get SRV_ACC_AT d then
    let y := -(s.getS SRV_INTEG d * 2 ^ 15)
    ((setServo d srvHoldover (s.put SRV_GOOD d 0)).putInc d (incOf (slewMax s d) y)).raise (1922 + 4 * d)
  else s

/-- A write of TMB_DOM_CFG (R32, R46): SERVO entered from another mode starts in ACQUIRE with the integrator at the
present rate; leaving SERVO ends the servo's states and keeps the increment. -/
def tmbDomCfgWrite (d v : Nat) (s : State) : State :=
  let was := s.get TMB_DOM_CFG_MODE d
  let s := ((s.put TMB_DOM_CFG_MODE d v).put TMB_DOM_CFG_STEP_EN d (bitsOf v 2 1)).put TMB_DOM_CFG_SRC_PORT d (bitsOf v 8 6)
  if bitsOf v 0 2 = 2 then
    if was = 2 then s
    else
      let i := roundDiv (((s.inc d : Int) - incNominal) * 2 ^ 48) incNominal
      let s := (s.put SRV_FIRST d 1).putS SRV_INTEG d i
      let s := ((s.put SRV_GOOD d 0).put SRV_BAD d 0).put SRV_GATED d 0
      setServo d srvAcquire (s.put SRV_ACC_AT d (s.get CORE_COUNT 0))
  else setServo d 0 s

/-- A software write of TMB_DOM_INC: takes effect clamped outside SERVO, ignored in SERVO (R32, R38). -/
def tmbDomIncWrite (d v : Nat) (s : State) : State :=
  if s.get TMB_DOM_CFG_MODE d = 2 then s
  else
    (((s.putInc d ((v % 2 ^ 44 : Nat) : Int)).put SRV_INCW_SEEN d 1).put SRV_INCW_NS d (s.nowNs d)).put SRV_INCW_AT d
      (s.get CORE_COUNT 0)

/-! ### Variable parts (R44) -/

/-- The port's TMB_ASYM_SHIFT, once for each departure of an applied part from its link-up value (R44); ASYM_EVT is in
units of 1/16 ns. -/
def asymCheck (p : Nat) (s : State) : State :=
  let thr : Int := (s.get TMB_CTRL_ASYM_EVT 0 * 16 : Nat)
  let out (A B : Fld) : Bool := decide ((((s.get A p : Int) - s.get B p).natAbs : Int) > thr)
  if out TMB_PVAR_VAR_TX TMB_PBASE_BASE_TX || out TMB_PVAR_VAR_RX TMB_PBASE_BASE_RX then
    if s.flag ASYM_OUT p then s else (s.put ASYM_OUT p 1).raise (1984 + p)
  else s.put ASYM_OUT p 0

/-- A millisecond of the core clock passes before the applied parts of a port may move again (R44). -/
def varMoved (p : Nat) (s : State) : State := s.put VAR_NEXT p (s.get CORE_COUNT 0 + 800000)

/-- At link-up the measurement is recorded and applied (R44). -/
def varLinkUp (p tx rx : Nat) (s : State) : State :=
  asymCheck p <| varMoved p ((((s.put TMB_PBASE_BASE_TX p tx).put TMB_PBASE_BASE_RX p rx).put TMB_PVAR_VAR_TX p tx).put TMB_PVAR_VAR_RX p rx)

/-- A value moved toward another by at most 4/256 ns, which is 1/64 ns (R44). -/
def moveToward (v m : Nat) : Nat := if v < m then min m (v + 4) else max m (v - 4)

/-- A measurement, every 1 ms or after a retrain, with VAR_TRACK_EN = 1: each applied part moves toward it by at most 1/64 ns in 1 ms
(R44). With VAR_TRACK_EN = 0 nothing moves: parts that tracking has moved since link-up stay as they are (log entry 142). -/
def varTrack (p tx rx : Nat) (s : State) : State :=
  if s.flag TMB_CTRL_VAR_TRACK_EN 0 && decide (s.get VAR_NEXT p ≤ s.get CORE_COUNT 0) then
    asymCheck p <| varMoved p ((s.put TMB_PVAR_VAR_TX p (moveToward (s.get TMB_PVAR_VAR_TX p) tx)).put TMB_PVAR_VAR_RX p
      (moveToward (s.get TMB_PVAR_VAR_RX p) rx))
  else s

/-! ### Timestamps (R40, R41) -/

/-- The raw timestamp, in 1/256 ns, of a capture at counter `x.1` with the increment `x.2`: the counter at the tick plus the phase
detector's fraction (`ph` / 65,536 of the tick) at the increment in force, rounded to the nearest 1/256 ns (R40). -/
def rawOf (x : Nat × Nat) (ph : Nat) : Nat :=
  (((x.1 * 65536 + x.2 * (ph % 65536)) * 2 + 2 ^ 32 * 65536) / (2 ^ 32 * 65536 * 2)) % 2 ^ 40

/-- The raw timestamp of a capture in domain `d` now. -/
def rawStamp (s : State) (d ph : Nat) : Nat := rawOf (s.get TMB_CTR d, s.inc d) ph

/-- An egress timestamp moved to the reference plane (R41): `fixed` in 1/256 ns, by port index. -/
def stampTx (s : State) (p fixed raw : Nat) : Nat :=
  if s.flag TMB_CTRL_CORR_EN 0 then
    (((raw : Int) + fixed + s.get TMB_PVAR_VAR_TX p + s.getS TMB_PUSER_USER_TX p * 16) % 2 ^ 40).toNat
  else raw

/-- What moves an ingress timestamp to the reference plane now (R41): `fixed` in 1/256 ns, by port index. -/
def corrRx (s : State) (p fixed : Nat) : Int :=
  if s.flag TMB_CTRL_CORR_EN 0 then -(fixed : Int) - s.get TMB_PVAR_VAR_RX p - s.getS TMB_PUSER_USER_RX p * 16 else 0

/-- The correction of port index `p` from now on is a stretch of its own unless it continues the newest; those that ended long ago are
forgotten (R41). -/
def corrNote (p : Nat) (corr : Int) (s : State) : State :=
  if ((s.corrRuns.find? (fun r => r.port = p)).map (fun r => r.corr)).getD 0 = corr then s
  else
    let now := s.get CORE_COUNT 0
    { s with corrRuns := ⟨p, now, corr⟩ :: s.corrRuns.filter (fun x => x.port ≠ p ||
        !s.corrRuns.any (fun y => y.port = p && decide (x.since < y.since) && decide (y.since + longAgo ≤ now))) }

/-- The correction that was in force on port index `p`, now with `fixed`, `age` core clock cycles ago (R41). -/
def State.corrAgo (s : State) (p fixed age : Nat) : Int :=
  if age = 0 then corrRx s p fixed
  else ((s.corrRuns.find? (fun r => r.port = p && decide (r.since ≤ s.get CORE_COUNT 0 - age))).map (fun r => r.corr)).getD 0

/-- The domain of a frame's timestamp (R40): a PTP event message by TMB_PTPMAP when its entry is valid and matches,
otherwise the port's DEF_DOM. -/
def stampDomain (s : State) (p : Nat) (ptp : Option (Nat × Nat)) : Nat :=
  match ptp with
  | some (sdo, n) =>
    if s.flag TMB_PTPMAP_VALID n && s.get TMB_PTPMAP_MAJOR_SDO n == sdo then s.get TMB_PTPMAP_DOM n
    else s.get TMB_PCFG_DEF_DOM p
  | none => s.get TMB_PCFG_DEF_DOM p

/-- The seconds and nanoseconds that a one-step message carries for egress time `t` (ns) (R49). -/
def oneStepTime (s : State) (d t : Nat) : Nat × Nat :=
  let e := (t + 2 ^ 32 - s.get TMB_DOM_EPOCH_REF_REF_NS d) % 2 ^ 32
  (s.get TMB_DOM_EPOCH_SECONDS d + e / 1000000000, e % 1000000000)

/-! ### The commands' meanings -/

abbrev Result := Host.Outcome State Fault Refusal

/-- TMB_DOM_INC_WRITE (R32). -/
def execTmbDomIncWrite (q : Requester) (d : Fin 16) (v : BitVec 64) (s : State) : Result :=
  .next (s.gate q (tmbAddr 0x10 d) (tmbDomIncWrite d v.toNat))

/-- TMB_SNAP (R35). -/
def execTmbSnap (q : Requester) (s : State) : Result := .next (s.gate q 0x4030_0004 tmbSnap)

/-- TMB_DOM_STEP (R37, R38). -/
def execTmbDomStep (q : Requester) (d : Fin 16) (v : BitVec 40) (s : State) : Result :=
  .next (s.gate q (tmbAddr 0x18 d) (tmbDomStep d v.toNat))

/-- STEP_APPLY (R38). -/
def execStepApply (d : Fin 16) (s : State) : Result := .next (refreshEpoch d (applyStep d s))

/-- TMB_DOM_CFG_WRITE (R46). -/
def execTmbDomCfgWrite (q : Requester) (d : Fin 16) (v : Word) (s : State) : Result :=
  .next (s.gate q (tmbAddr 0 d) (tmbDomCfgWrite d v.toNat))

/-- EPOCH_REF_HOLD (R39). -/
def execEpochRefHold (q : Requester) (d : Fin 16) (v : Word) (s : State) : Result :=
  .next (s.gate q (tmbAddr 0x60 d) (epochRefHold q d v.toNat))

/-- EPOCH_COMMIT (R39). -/
def execEpochCommit (q : Requester) (d : Fin 16) (sec : BitVec 48) (s : State) : Result :=
  .next (s.gate q (tmbAddr 0x58 d) (epochCommit q d sec.toNat))

/-- EPOCH_REF_REACHED (R39). -/
def execEpochRefReached (d : Fin 16) (s : State) : Result := .next (epochReached d s)

/-- EPOCH_STALE_EXPIRY (R39). -/
def execEpochStaleExpiry (d : Fin 16) (s : State) : Result := .next (refreshEpoch d s)

/-- VAR_PART_TRACK (R44): a copper port at 10 or 100 Mbit/s has no variable part (R42). -/
def execVarPartTrack (p : Fin 40) (tx rx : BitVec 16) (s : State) : Result :=
  .next (if p.val < 16 ∧ s.get MAC_STAT_SPEED p ≤ 1 then s else varTrack p tx.toNat rx.toNat s)

/-- SAMPLE_SUBMIT (R45): ts is the value then held in TMB_DOM_SMPT. -/
def execSampleSubmit (q : Requester) (d : Fin 16) (theta : BitVec 40) (port : BitVec 6) (s : State) : Result :=
  .next (s.gate q (tmbAddr 0x38 d) (fun s => sampleSubmit d theta.toNat (s.get TMB_DOM_SMPT_TS d) port.toNat s))

/-- SERVO_UPDATE (R45). -/
def execServoUpdate (d : Fin 16) (s : State) : Result := .next (servoUpdate d s)

/-- SERVO_HOLDOVER (R46). -/
def execServoHoldover (d : Fin 16) (s : State) : Result := .next (servoHoldover d s)

end Sys2Proof.Machine
end

