-- ==== Sys2Proof/Machine/LineCycle.lean ====
section
/-! DEFINITION. The cycle timer, the line image, the Shutter and the Tablatures
(spec/03_line_cycle_shutter_tablature.md). What a boundary does to the other blocks stands in Boundary.lean. -/

namespace Sys2Proof.Machine

/-! ### Internal cells -/

/-- The cycle timer: 0 stopped, 1 started but before the first boundary, 2 cycling (R52); a stop waits (R53). -/
def LIM_PHASE : Fld := ⟨1150, 0, 2, .int, 0, .reset, .none⟩
def LIM_STOP : Fld := ⟨1151, 0, 1, .int, 0, .reset, .none⟩
/-- Line time of the next boundary, 1/256 ns (R51). -/
def LIM_NEXT : Fld := ⟨1152, 0, 40, .int, 0, .reset, .none⟩
/-- A discarded out-half write was counted in this cycle (R60). -/
def LIM_OUT_SEEN : Fld := ⟨1153, 0, 1, .int, 0, .reset, .none⟩
/-- The status pass: 0 idle, 1 waiting for the drain, 2 running; slots it has marked (R69). -/
def PASS_PHASE : Fld := ⟨1154, 0, 2, .int, 0, .reset, .none⟩
def PASS_COUNT : Fld := ⟨1155, 0, 18, .int, 0, .reset, .none⟩
/-- Table words: copy ((2 × t + bank) × 2,048 + 4 × entry + word); the bank of table t that is active (R63, R71). -/
def LIM_TW : Fld := ⟨1156, 0, 32, .int, 0, .keep, .none⟩
def TAB_BANK : Fld := ⟨1157, 0, 1, .int, 0, .keep, .none⟩
/-- A copy of the active table into the shadow is under way, and a DONE waits for it (R71). -/
def TAB_COPYING : Fld := ⟨1158, 0, 1, .int, 0, .reset, .none⟩
def TAB_DONE_WAIT : Fld := ⟨1159, 0, 1, .int, 0, .reset, .none⟩
/-- The tables of the pending group commit, a bit each (R73). -/
def TAB_GROUP : Fld := ⟨1160, 0, 33, .int, 0, .reset, .none⟩
/-- Line time of the boundary that opened the present cycle, 1/256 ns (R51). -/
def LIM_CUR : Fld := ⟨1162, 0, 40, .int, 0, .reset, .none⟩
/-- Which of the latest boundaries committed table t: bit 0 the latest, bit i the one i before it (R74). -/
def TAB_SWAPPED : Fld := ⟨1161, 0, 512, .int, 0, .reset, .none⟩

/-! ### The line image (R56, R57) -/

/-- Slots for each half: SLOTS_K × 1,024, SLOTS_K above 248 acting as 248. -/
def State.slots (s : State) : Nat := min (s.get LIM_BASE_SLOTS_K 0) 248 * 1024

/-- STRIDE: SLOTS_K × 33 KiB rounded up to a multiple of 64 KiB. -/
def State.stride (s : State) : Nat := (min (s.get LIM_BASE_SLOTS_K 0) 248 * 33 + 63) / 64 * 0x1_0000

/-- Soundboard offset of half `h`. -/
def State.halfBase (s : State) (h : Nat) : Nat := s.get LIM_BASE_BASE 0 * 0x1_0000 + h * s.stride

/-- Device address of Soundboard offset 0 (01 R18). -/
def sbBase : Nat := 0x1000_0000

/-- Device address of line-image byte `o` of half `h`. -/
def State.slotAddr (s : State) (h o : Nat) : Nat := sbBase + s.halfBase h + o

/-- Device address of the status byte of slot `n` of half `h` (R56). -/
def State.statusAddr (s : State) (h n : Nat) : Nat := sbBase + s.halfBase h + 32 * s.slots + n

/-- A Soundboard offset lies in half `h`'s range. -/
def State.inHalf (s : State) (h off : Nat) : Bool :=
  decide (s.halfBase h ≤ off) && decide (off < s.halfBase h + s.stride)

/-- A Soundboard offset is a status byte of half `h` (R56). -/
def State.inStatus (s : State) (h off : Nat) : Bool :=
  decide (s.halfBase h + 32 * s.slots ≤ off) && decide (off < s.halfBase h + 33 * s.slots)

/-- The line image fits the Soundboard, or there is none (R57). -/
def State.imageFits (s : State) : Bool :=
  s.get LIM_BASE_SLOTS_K 0 == 0 || decide (s.get LIM_BASE_BASE 0 * 0x1_0000 + 2 * s.stride ≤ 0x400_0000)

/-- Cycling has started (R52). -/
def State.started (s : State) : Bool := s.get LIM_PHASE 0 == 2

/-- The fill half (R59). -/
def State.fillHalf (s : State) : Nat := s.get LIM_STAT_FILL_HALF 0

/-! ### Reserved windows and the cell pool (04 R82, R83) -/

/-- Window `i` is on and ends within the Soundboard. -/
def State.windowOk (s : State) (i : Nat) : Bool :=
  s.get SBD_RSV_SIZE i != 0 && decide ((s.get SBD_RSV_BASE i + s.get SBD_RSV_SIZE i) * 0x1_0000 ≤ 0x400_0000)

/-- A 64 KiB unit of the Soundboard lies in some reserved window. -/
def State.unitReserved (s : State) (u : Nat) : Bool :=
  (List.range 4).any (fun i => s.windowOk i && decide (s.get SBD_RSV_BASE i ≤ u) &&
    decide (u < s.get SBD_RSV_BASE i + s.get SBD_RSV_SIZE i))

/-- Every byte of an area lies in a reserved window (04 R83). -/
def State.areaReserved (s : State) (off n : Nat) : Bool :=
  n == 0 || (List.range ((off + n - 1) / 0x1_0000 + 1 - off / 0x1_0000)).all
    (fun k => s.unitReserved (off / 0x1_0000 + k))

/-- A Soundboard offset lies in a pool cell (04 R82): EN is 1 and it is outside the line image and every enabled
window. Images and windows are whole numbers of cells. -/
def State.inPool (s : State) (off : Nat) : Bool :=
  s.flag SBD_CTRL_EN 0 && !(s.inHalf 0 off || s.inHalf 1 off) && !s.unitReserved (off / 0x1_0000)

/-- A write of bytes to the Soundboard at an offset, by any requester but the switch and the receive engines: bytes of
the out half are discarded and the write counts in OUT_WR, once an event in each cycle (R60); status bytes do not change
(R58); bytes of pool cells are discarded and POOL_WR sets (04 R82); before cycling has started both halves accept (R62). -/
def soundboardWrite (off : Nat) (bs : List Byte) (s : State) : State :=
  let outHalf (o : Nat) : Bool := s.started && s.inHalf (1 - s.fillHalf) o
  let cells := (List.range bs.length).zip bs
  let anyOut := cells.any (fun e => outHalf (off + e.1))
  let anyPool := cells.any (fun e => s.inPool (off + e.1))
  let t := overList (fun (e : Nat × Byte) (t : State) =>
    if outHalf (off + e.1) || s.inStatus 0 (off + e.1) || s.inStatus 1 (off + e.1) || s.inPool (off + e.1) then t else t.putByte (sbBase + off + e.1) e.2) cells s
  let t := if anyPool then t.put SBD_STAT_POOL_WR 0 1 else t
  if anyOut then
    let t := t.sat LIM_CNT0_OUT_WR 0
    if t.flag LIM_OUT_SEEN 0 then t else (t.put LIM_OUT_SEEN 0 1).raise 2050
  else t

/-! ### The cycle timer (R51 to R55) -/

/-- Why a start is refused, as the DETAIL of START_REFUSED (21 R463): 0 the start is accepted; 1 START not between 1 µs
and 2 s ahead, 2 PERIOD, 3 the line image, 4 DEV_LOCK (R52). -/
def startRefusal (s : State) : Nat :=
  let d := s.get LIM_CYC_CTRL_DOM 0
  let ahead := (s.get LIM_CYC_START_START 0 * 256 + 2 ^ 40 - s.now d) % 2 ^ 40
  if ahead < 1000 * 256 ∨ 2000000000 * 256 < ahead then 1
  else if s.get LIM_CYC_PERIOD_PERIOD 0 < 25000 ∨ 6400000 < s.get LIM_CYC_PERIOD_PERIOD 0 then 2
  else if !s.imageFits then 3
  else if !s.flag DEV_LOCK_LOCK 0 then 4
  else 0

/-- A write of 1 to RUN (R52, R53): ignored while RUNNING; otherwise cycling is armed, or START_ERR sets. -/
def runStart (s : State) : State :=
  if s.flag LIM_STAT_RUNNING 0 then s
  else if startRefusal s ≠ 0 then s.put LIM_STAT_START_ERR 0 1
  else
    let n0 := (s.get LIM_CYC_NUM0_NUM0 0 + 2 ^ 32 - 1) % 2 ^ 32
    let s := (((s.put LIM_CYC_CTRL_RUN 0 1).put LIM_STAT_RUNNING 0 1).put LIM_PHASE 0 1).put LIM_STOP 0 0
    ((s.put LIM_CYC_NUM_NUM 0 n0).put LIM_STAT_FILL_HALF 0 (n0 % 2)).put LIM_NEXT 0
      (s.get LIM_CYC_START_START 0 * 256)

/-- A write of 0 to RUN: the next boundary is the last (R53). -/
def runStop (s : State) : State :=
  let s := s.put LIM_CYC_CTRL_RUN 0 0
  if s.flag LIM_STAT_RUNNING 0 then s.put LIM_STOP 0 1 else s

/-- A period change is acceptable (R54): AT ahead of the cycle number, the period in range. -/
def changeOk (s : State) (period at' : Nat) : Bool :=
  let ahead := (at' % 2 ^ 32 + 2 ^ 32 - s.get LIM_CYC_NUM_NUM 0) % 2 ^ 32
  decide (1 ≤ ahead) && decide (ahead < 2 ^ 31) && decide (25000 ≤ period) && decide (period ≤ 6400000)

/-- An upper-half write of LIM_CYC_CHG arms a period change; a rejected one sets CHG_REJ and leaves an armed change (R54). -/
def cycChgArm (period at' : Nat) (s : State) : State :=
  if changeOk s period at' then
    ((s.put LIM_CYC_CHG_NEW_PERIOD 0 period).put LIM_CYC_CHG_AT 0 at').put LIM_STAT_CHG_PEND 0 1
  else s.put LIM_STAT_CHG_REJ 0 1

/-! ### Tables (R63, R71 to R75) -/

/-- A table's word: table `t` (0 to 32), bank, word index. -/
def State.tabWord (s : State) (t bank w : Nat) : Nat := s.get LIM_TW ((t * 2 + bank) * 2048 + w)

/-- The words of a table: 4 for each of 512 entries, or of 128 slice entries for table 32. -/
def tabWords (t : Nat) : Nat := if t = 32 then 512 else 2048

/-- The active bank of a table. -/
def State.active (s : State) (t : Nat) : Nat := s.get TAB_BANK t

/-- The entries of a table's bank whose word 0 is not zero, as word indices, rising: of two that map one byte the later one wins
(DESIGN CHOICE, log entry 186). -/
def State.usedEntries (s : State) (t bank : Nat) : List Nat :=
  (s.listed LIM_TW).filterMap (fun e =>
    if e.1 / 2048 = t * 2 + bank ∧ e.1 % 4 = 0 then some (e.1 % 2048) else none)

/-- A Tablature entry (R63). -/
structure TabEntry where
  kind : Nat
  swap : Nat
  twin : Bool
  frame : Nat
  twinPort : Nat
  off : Nat
  len : Nat
  slot : Nat
  slotOff : Nat
  rep : Nat
  fstride : Nat
  sstride : Nat
deriving DecidableEq, Repr

/-- The entry that four words spell (R63). -/
def tabEntry (w0 w1 w2 w3 : Nat) : TabEntry :=
  ⟨bitsOf w0 0 2, bitsOf w0 2 2, bitOf w0 4, bitsOf w0 8 8, bitsOf w0 16 5, bitsOf w1 0 14, bitsOf w1 14 9,
    bitsOf w2 0 18, bitsOf w2 18 5, bitsOf w3 0 9, bitsOf w3 9 14, bitsOf w3 23 8⟩

/-- The bank of table `t` that maps a frame of which `crossed` octets crossed before a boundary that `spans` boundaries have
followed: the copy active before that boundary, or the present one (R74). -/
def State.bankOf (s : State) (t crossed spans : Nat) : Nat :=
  if crossed = 0 then s.active t
  else (s.active t + ((List.range (spans + 1)).filter (fun i => s.bit TAB_SWAPPED t i)).length) % 2

/-- The entry at a word index of a table's bank. -/
def State.entryAt (s : State) (t bank w : Nat) : TabEntry :=
  tabEntry (s.tabWord t bank w) (s.tabWord t bank (w + 1)) (s.tabWord t bank (w + 2)) (s.tabWord t bank (w + 3))

/-- The entries in use of field port `p`'s table in a bank. -/
def State.tabEntries (s : State) (p bank : Nat) : List TabEntry :=
  (s.usedEntries p bank).map (fun w => s.entryAt p bank w)

/-- Those that map: none while the line image has no slots (R57). -/
def State.liveEntries (s : State) (p bank : Nat) : List TabEntry := if s.slots = 0 then [] else s.tabEntries p bank

/-- The byte of a unit that SWAP puts at place `j` of a run (R63). -/
def swapAt (sw j : Nat) : Nat :=
  let u := 2 ^ sw
  j / u * u + (u - 1 - j % u)

/-- The pairs (frame byte, line-image byte) that an entry maps (R63). -/
def TabEntry.pairs (e : TabEntry) : List (Nat × Nat) :=
  (List.range (e.rep + 1)).flatMap (fun i => (List.range e.len).map (fun j =>
    (e.off + i * e.fstride + j, 32 * (e.slot + i * e.sstride) + e.slotOff + swapAt e.swap j)))

/-- Those of them that lie in the slots of the line image: an entry of a table made active when the image was larger reaches nothing
behind them (R56). -/
def State.pairsOf (s : State) (e : TabEntry) : List (Nat × Nat) := e.pairs.filter (fun x => decide (x.2 < 32 * s.slots))

/-- The slots an entry touches, each once. -/
def State.slotsOf (s : State) (e : TabEntry) : List Nat := ((s.pairsOf e).map (fun x => x.2 / 32)).eraseDups

/-- The entry one past the last line-image byte mapped. -/
def TabEntry.top (e : TabEntry) : Nat := 32 * (e.slot + e.rep * e.sstride) + e.slotOff + e.len

/-- The range check of one Tablature entry of port `p` (R72). -/
def TabEntry.ok (e : TabEntry) (s : State) (p : Nat) : Bool :=
  e.kind != 3 && decide (1 ≤ e.len) && decide (e.len ≤ 256) && decide (e.len % 2 ^ e.swap = 0) &&
    decide (e.off + e.rep * e.fstride + e.len ≤ 16000) && decide (e.top ≤ 32 * s.slots) &&
    (!e.twin || e.twinPort != p)

/-- The range check of a slice entry at index `i` of table 32 (R72, R75). -/
def sliceOk (s : State) (bank i : Nat) : Bool :=
  let w0 := s.tabWord 32 bank (4 * i)
  let w1 := s.tabWord 32 bank (4 * i + 1)
  let n := bitsOf w1 18 12
  !bitOf w0 0 || (decide (1 ≤ n) && decide (bitsOf w1 0 18 + n ≤ s.slots) &&
    (decide (64 ≤ i) || decide (bitsOf (s.tabWord 32 bank (4 * i + 2)) 0 23 < s.get LIM_CYC_PERIOD_PERIOD 0)))

/-- The bytes that a table's CRC covers: entries 0 to COUNT − 1, or all slice entries (R72). -/
def tabCrcBytes (s : State) (t bank : Nat) : List Byte :=
  let n := if t = 32 then 512 else 4 * s.get LIM_TAB_CTRL_COUNT t
  (List.range n).flatMap (fun w => toBytes 4 (s.tabWord t bank w))

/-- The verification of a table's shadow: 0 it succeeds, 1 CRC mismatch, 2 range check (R72). -/
def tabVerify (s : State) (t : Nat) : Nat :=
  let b := 1 - s.active t
  if t ≠ 32 ∧ 512 < s.get LIM_TAB_CTRL_COUNT t then 2
  else if crc32c (tabCrcBytes s t b) ≠ s.get LIM_TAB_CRC_CRC t then 1
  else if t = 32 then (if (s.usedEntries 32 b).all (fun w => sliceOk s b (w / 4)) then 0 else 2)
  else if (s.tabEntries t b).all (fun e => e.kind == 0 || e.ok s t) then 0 else 2

/-- A table's state set, with DONE reading 1 while it is not OPEN (R71). -/
def setTab (t st : Nat) (s : State) : State :=
  (s.put LIM_TAB_STAT_STATE t st).put LIM_TAB_CTRL_DONE t (if st = 0 then 0 else 1)

/-- The table is part of the pending group commit. -/
def State.inGroup (s : State) (t : Nat) : Bool := s.flag LIM_STAT_COMMIT_PEND 0 && s.bit TAB_GROUP 0 t

/-- The tables of the pending group. -/
def State.group (s : State) : List Nat := (List.range 33).filter (fun t => s.bit TAB_GROUP 0 t)

/-- A pending group commit ends without a swap, and the TAB_COMMIT command with it (R73). -/
def abandonCommit (why : Nat) (s : State) : State :=
  ((s.put LIM_STAT_COMMIT_PEND 0 0).put TAB_GROUP 0 0).settle .tabCommit 0x0207 why [s.get LIM_CYC_NUM_NUM 0]

/-- Every table of the group swaps its copies and returns to OPEN (R73 rule 1). -/
def doCommit (s : State) : State :=
  let n := s.get LIM_CYC_NUM_NUM 0
  let s := overList (fun t u => setTab t 0 (u.put TAB_BANK t (1 - u.get TAB_BANK t))) s.group s
  (((s.put LIM_STAT_COMMIT_PEND 0 0).put TAB_GROUP 0 0).settle .tabCommit 0 0 [n]).raise 2056 n

/-- The first table of the group in a state, if any. -/
def State.groupFirst (s : State) (st : Nat) : Option Nat :=
  s.group.find? (fun t => s.get LIM_TAB_STAT_STATE t == st)

/-- A commit is pending and every table of its group is VERIFIED (R73 rule 1). -/
def commitReady (s : State) : Bool :=
  s.flag LIM_STAT_COMMIT_PEND 0 && s.group.all (fun t => s.get LIM_TAB_STAT_STATE t == 2)

/-- Rules 1 and 2 of R73: they apply at a boundary, and at once while cycling has not started. -/
def tryCommit (s : State) : State :=
  if commitReady s then doCommit s
  else if !s.flag LIM_STAT_COMMIT_PEND 0 then s
  else match s.groupFirst 3 with
    | some t => abandonCommit t s
    | none => s

/-- The pending commit while cycling has not started (R73). -/
def commitIdle (s : State) : State := if s.started then s else tryCommit s

/-- The pending commit at a boundary, also at one that stops cycling (DESIGN CHOICE, log entry 184): rules 1 to 3 of R73. -/
def commitBoundary (s : State) : State :=
  let now := if commitReady s then s.group else []
  let s := overRange (fun t u => u.put TAB_SWAPPED t (u.get TAB_SWAPPED t * 2 + (if now.contains t then 1 else 0))) 33 s
  let s := tryCommit s
  if s.flag LIM_STAT_COMMIT_PEND 0 then
    let s := overList (fun t u =>
      if u.get LIM_TAB_STAT_STATE t = 2 then u else u.sat LIM_TAB_STAT_DEFER t) s.group s
    s.raise 2057 (s.get LIM_CYC_NUM_NUM 0)
  else s

/-- DONE closes the shadow and asks for verification; during a copy it waits (R71). -/
def tabDone (t : Nat) (s : State) : State :=
  if s.get LIM_TAB_STAT_STATE t ≠ 0 then s
  else if s.flag TAB_COPYING t then s.put TAB_DONE_WAIT t 1
  else (setTab t 1 s).bgAsk (.table t)

/-- COPY starts a copy of the active table into the shadow, in OPEN only (R71). -/
def tabCopy (t : Nat) (s : State) : State :=
  if s.get LIM_TAB_STAT_STATE t = 0 then s.put TAB_COPYING t 1 else s

/-- The copy completes; a waiting DONE takes effect (R71). It overwrites what was written to the shadow meanwhile (DESIGN CHOICE, log
entry 185). -/
def tabCopyComplete (t : Nat) (s : State) : State :=
  if s.flag TAB_COPYING t then
    let a := s.active t
    let s := s.copyRange LIM_TW ((t * 2 + (1 - a)) * 2048) ((t * 2 + a) * 2048) (tabWords t)
    let s := s.put TAB_COPYING t 0
    if s.flag TAB_DONE_WAIT t then tabDone t (s.put TAB_DONE_WAIT t 0) else s
  else s

/-- REOPEN returns a table to OPEN unless it is part of a pending commit (R71). -/
def tabReopen (t : Nat) (s : State) : State :=
  if s.get LIM_TAB_STAT_STATE t = 0 ∨ s.inGroup t = true then s
  else (setTab t 0 s).bgDrop (.table t)

/-- A write of LIM_TAB_CTRL: COUNT in OPEN only; then REOPEN, COPY and DONE in that order (R71). COUNT is judged before REOPEN
acts (DESIGN CHOICE, log entry 143). -/
def tabCtrlWrite (t v : Nat) (s : State) : State :=
  let s := if s.get LIM_TAB_STAT_STATE t = 0 then s.put LIM_TAB_CTRL_COUNT t v else s
  let s := if bitOf v 18 then tabReopen t s else s
  let s := if bitOf v 17 then tabCopy t s else s
  if bitOf v 16 then tabDone t s else s

/-- A write of the expected CRC, ignored outside OPEN (R72). -/
def tabCrcWrite (t v : Nat) (s : State) : State :=
  if s.get LIM_TAB_STAT_STATE t = 0 then s.put LIM_TAB_CRC_CRC t v else s

/-- The bits of word `w` of a table that hold fields (R63, R75); the others are reserved and read as zero (00 R5). -/
def tabWordMask (t w : Nat) : Nat :=
  if t = 32 then
    (if w / 4 < 64 then [0x7_FF77, 0x3FFF_FFFF, 0x7F_FFFF, 0x3F3F] else [0xFF_3F01, 0x3FFF_FFFF, 0, 0]).getD (w % 4) 0
  else [0x1F_FF1F, 0x7F_FFFF, 0x7F_FFFF, 0x7FFF_FFFF].getD (w % 4) 0

/-- A write of a shadow word: its fields taken in OPEN, otherwise ignored and counted (R71). -/
def tabWordWrite (t w v : Nat) (s : State) : State :=
  if s.get LIM_TAB_STAT_STATE t = 0 then s.put LIM_TW ((t * 2 + (1 - s.active t)) * 2048 + w) (v &&& tabWordMask t w)
  else s.sat LIM_TAB_STAT_WR_LOCKED t

/-- A granted verification pass ends (R72). A table reopened meanwhile is left alone. -/
def tabVerificationEnd (t : Nat) (s : State) : State :=
  if s.bgGranted (.table t) then
    let s := s.bgEnd (.table t)
    if s.get LIM_TAB_STAT_STATE t = 1 then
      let why := tabVerify s t
      let s := if why = 0 then setTab t 2 (s.put LIM_TAB_STAT_FAIL_WHY t 0)
        else (setTab t 3 (s.put LIM_TAB_STAT_FAIL_WHY t why)).raise 2058
      commitIdle s
    else s
  else s

/-- A write of LIM_BASE (R53, R71, 04 R83): ignored while cycling runs, while the switch is on, or when locked; a
change of value returns every VERIFIED table to DONE. -/
def limBaseWrite (v : Nat) (s : State) : State :=
  if s.flag LIM_STAT_RUNNING 0 || s.flag SBD_CTRL_EN 0 || s.flag LIM_CYC_CTRL_LOCK 0 then s
  else
    let t := (s.put LIM_BASE_BASE 0 v).put LIM_BASE_SLOTS_K 0 (bitsOf v 16 8)
    if t.get LIM_BASE_BASE 0 = s.get LIM_BASE_BASE 0 ∧ t.get LIM_BASE_SLOTS_K 0 = s.get LIM_BASE_SLOTS_K 0 then t
    else overRange (fun k u =>
      if u.get LIM_TAB_STAT_STATE k = 2 then (setTab k 1 u).bgAsk (.table k) else u) 33 t

/-- CANCEL abandons the pending commit (R73); the DETAIL of its command then names no table the specification states. -/
def tabCancel (s : State) : State := if s.flag LIM_STAT_COMMIT_PEND 0 then abandonCommit (s.fresh % 2 ^ 16) s.used else s

/-- PORTS and SLICES as a write of LIM_TAB_COMMIT leaves them. -/
def tabNames (mask : Nat) (s : State) : State :=
  (s.put LIM_TAB_COMMIT_PORTS 0 mask).put LIM_TAB_COMMIT_SLICES 0 (bitsOf mask 32 1)

/-- A write with GO is ignored, all of it: a commit is pending, or it names no table (R73). -/
def goIgnored (mask : Nat) (s : State) : Bool := s.flag LIM_STAT_COMMIT_PEND 0 || mask % 2 ^ 33 == 0

/-- GO requests a group commit of the named tables, a bit each, 32 for the slice tables (R73). -/
def tabGo (mask : Nat) (s : State) : State :=
  if goIgnored mask s then s
  else commitIdle (((tabNames mask s).put TAB_GROUP 0 mask).put LIM_STAT_COMMIT_PEND 0 1)

/-- A write of LIM_TAB_COMMIT: CANCEL first, then GO (R73). -/
def tabCommitWrite (v : Nat) (s : State) : State :=
  let s := if bitOf v 62 then tabCancel s else s
  if bitOf v 63 then tabGo (bitsOf v 0 33) s else tabNames v s

/-! ### Receive engine (R66 to R68, R70) -/

/-- A status byte (R58). -/
def statusByte (cyc : Nat) (stale single trunk : Bool) : Byte :=
  BitVec.ofNat 8 (cyc % 16 + (if stale then 16 else 0) + (if single then 32 else 0) + (if trunk then 64 else 0))

/-- A receive write: at once, or on its way when the frame's last writes land after the swap (R68). -/
def land (late : Bool) (a : Nat) (bs : List Byte) (s : State) : State :=
  if late then { s with drain := s.drain ++ [⟨0, a, bs⟩] } else s.putBytes a bs

/-- The status bytes of a list of slots of half `h` written alike. -/
def markSlots (late : Bool) (h : Nat) (b : Byte) (ns : List Nat) (s : State) : State :=
  overList (fun n t => land late (t.statusAddr h n) [b] t) ns s

/-- The mapped bytes of a received frame among its octets from `lo` to `hi` − 1, written to half `h`. -/
def writeMapped (late : Bool) (h : Nat) (fr : List Byte) (lo hi : Nat) (e : TabEntry) (s : State) : State :=
  overList (fun (x : Nat × Nat) (t : State) =>
    if lo ≤ x.1 ∧ x.1 < hi then
      match fr[x.1]? with
      | some b => land late (t.slotAddr h x.2) [b] t
      | none => t
    else t) (s.pairsOf e) s

/-- The pair of twin entries exists (R70): the copy of the partner's table that is in force with this one holds the identical
entry naming this port. -/
def twinPartner (s : State) (p bank2 : Nat) (e : TabEntry) : Bool :=
  e.twin && e.twinPort != p && (s.liveEntries e.twinPort bank2).any
    (fun f => f.twinPort == p && { f with twinPort := e.twinPort } == e)

/-- The record of a pair in a fill period. -/
def State.twinRec (s : State) (tag lo hi : Nat) : TwinRec :=
  match s.twins.find? (fun r => r.tag = tag && r.lo = lo && r.hi = hi) with
  | some r => r
  | none => ⟨tag, lo, hi, [], false, false, []⟩

/-- The record of a pair replaced. -/
def State.putTwin (s : State) (r : TwinRec) : State :=
  { s with twins := s.twins.filter (fun x => !(x.tag = r.tag && x.lo = r.lo && x.hi = r.hi)) ++ [r] }

/-- The line-image bytes that an entry maps from a frame, with their values. -/
def mappedBytes (s : State) (fr : List Byte) (e : TabEntry) : List (Nat × Byte) :=
  (s.pairsOf e).filterMap (fun x => (fr[x.1]?).map (fun b => (x.2, b)))

/-- Line-image bytes of half `h` written. -/
def writeImage (late : Bool) (h : Nat) (xs : List (Nat × Byte)) (s : State) : State :=
  overList (fun (x : Nat × Byte) (t : State) => land late (t.slotAddr h x.1) [x.2] t) xs s

/-- A pair's cycle counts as SINGLE_COPY, once, on its lower port (R70). -/
def singleCopy (lo : Nat) (s : State) : State := (s.sat LIM_PCNT_SINGLE_COPY lo).raise 2055

/-- The second copy of a pair has ended beside `o`, the first to end: what is written to half `h` for the slots `ns` (R70).
Where `o` was held, this copy is the primary, and wrote its `bytes` at wire speed. -/
def twinSecond (late : Bool) (h cyc : Nat) (o : TwinCopy) (bytes : List (Nat × Byte)) (valid : Bool) (ns : List Nat)
    (s : State) : State :=
  let mark (stale single : Bool) (t : State) : State := markSlots late h (statusByte cyc stale single false) ns t
  match o.held with
  | some kept =>
    let s := writeImage late h bytes s
    if valid then mark false (!o.good) s
    else if o.good then mark false true (writeImage late h kept s)
    else mark true false s
  | none =>
    if o.good then (if valid then s else mark false true s)
    else if valid then mark false true (writeImage late h bytes s)
    else s

/-- A copy of a twin pair ends: what it writes for the pair's entries `es` (R70), in half `h` of cycle `cyc`. `held` says that
the primary is still arriving: the MAC then keeps this copy. -/
def twinCopyEnd (late : Bool) (h cyc p other tag : Nat) (held : Bool) (fr : List Byte) (valid : Bool) (es : List TabEntry)
    (s : State) : State :=
  let r := s.twinRec tag (min p other) (max p other)
  if r.copies.any (fun c => c.port = p) || decide (2 ≤ r.copies.length) then s  -- a later frame is outside the pair
  else
    let ns := es.flatMap s.slotsOf
    let bytes := es.flatMap (mappedBytes s fr)
    match r.copies with
    | [] =>
      let s := s.putTwin { r with copies := [⟨p, valid, if held then some bytes else none⟩] }
      if held then s else markSlots late h (statusByte cyc (!valid) false false) ns (writeImage late h bytes s)
    | o :: _ =>
      let one := o.good != valid && !r.counted
      let s := s.putTwin { r with counted := r.counted || one, copies := r.copies ++ [⟨p, valid, none⟩] }
      twinSecond late h cyc o bytes valid ns (if one then singleCopy r.lo s else s)

/-- A straddler of a pair writes nothing: it is the held copy, or the copy of the partner has been written in its place
(R70; log entry 144). -/
def straddlerSilent (p : Nat) (r : RxFrame) (tag : Nat) (e : TabEntry) (s : State) : Bool :=
  twinPartner s p (s.bankOf e.twinPort r.crossed r.spans) e && (r.held ||
    (s.twinRec (tag + 256) (min p e.twinPort) (max p e.twinPort)).copies.any (fun o => o.held.isNone || o.good))

/-- A cyclic frame `r` with tag `tag` has arrived on field port `p` (R66 to R68, R70, R74); `valid` is its FCS (and no forced
error). A straddler takes no place in a pair (DESIGN CHOICE, log entry 183). -/
def tabReceive (p tag : Nat) (r : RxFrame) (valid : Bool) (s : State) : State :=
  let fr := r.bytes
  let es := (s.liveEntries p (s.bankOf p r.crossed r.spans)).filter (fun e => e.kind = 1 && e.frame = tag)
  let short := es.any (fun e => e.pairs.any (fun x => decide (fr.length ≤ x.1)))
  let bad := !valid || short
  let s := if bad then s.sat LIM_PCNT_FCS_STALE p else s
  let before := (s.fillHalf + 1 + r.spans) % 2  -- the half that was being filled when its first octets crossed
  if r.crossed ≠ 0 ∧ r.crossed < fr.length then
    let s := overList (fun e t => writeMapped r.late before fr 0 r.crossed e t)
      (es.filter (fun e => !straddlerSilent p r tag e s)) s
    (s.sat LIM_PCNT_STRADDLE p).raise 2053
  else
    let ended := decide (r.crossed ≠ 0)
    let h := if ended then before else s.fillHalf
    let cyc := s.get LIM_CYC_NUM_NUM 0 + (if ended then 2 ^ 32 - 1 - r.spans % 2 ^ 32 else 0)
    let pair (e : TabEntry) : Bool := twinPartner s p (s.bankOf e.twinPort r.crossed r.spans) e
    let plain := es.filter (fun e => !pair e)
    let twin := if ended && r.spans != 0 then [] else es.filter pair  -- the pair's period is long settled
    let s := overList (fun e t => writeMapped r.late h fr 0 fr.length e t) plain s
    let s := markSlots r.late h (statusByte cyc bad false false) (plain.flatMap s.slotsOf) s
    overList (fun q t => twinCopyEnd r.late h cyc p q (if ended then tag + 256 else tag) r.held fr (!bad)
      (twin.filter (fun e => e.twinPort = q)) t) ((twin.map (fun e => e.twinPort)).eraseDups) s

/-- The oldest receive write that is on its way lands (R68). -/
def rxDrain (s : State) : State :=
  match s.drain with
  | [] => s
  | l :: ls => State.putBytes { s with drain := ls } l.addr l.bytes

/-- The twin pairs of the active tables: tag and the two ports, the lower first. -/
def twinPairs (s : State) : List (Nat × Nat × Nat) :=
  ((List.range 32).flatMap (fun p => ((s.liveEntries p (s.active p)).filter
    (fun e => e.kind = 1 && decide (p < e.twinPort) && twinPartner s p (s.active e.twinPort) e)).map
      (fun e => (e.frame, p, e.twinPort)))).eraseDups

/-- The entries of a pair on its lower port. -/
def pairEntries (s : State) (x : Nat × Nat × Nat) : List TabEntry :=
  (s.liveEntries x.2.1 (s.active x.2.1)).filter (fun e => e.kind = 1 && e.frame = x.1 && e.twinPort = x.2.2 && e.twin)

/-- The records of the fill period that ends: one for each pair, with 256 above its tag, and with the slots it maps. Frames that
crossed before this boundary belong to them until the next one (R66, R70). -/
def twinsEnded (s : State) : List TwinRec :=
  (twinPairs s).map (fun x => { s.twinRec x.1 x.2.1 x.2.2 with
    tag := x.1 + 256, slots := (pairEntries s x).flatMap s.slotsOf })

/-- A pair of an ended fill period is settled (R70): none of its copies was valid, or one alone, whose partner has not ended; half
`h` held the period `cyc`. NO_COPY counts on the lower port (DESIGN CHOICE, log entry 182). -/
def twinSettleOne (h cyc : Nat) (r : TwinRec) (s : State) : State :=
  if r.settled then s
  else
    let s := s.putTwin { r with settled := true, counted := true }
    match r.copies.filter (fun c => c.good) with
    | [] => s.sat LIM_PCNT_NO_COPY r.lo
    | [c] =>
      if r.counted then s
      else singleCopy r.lo (markSlots false h (statusByte cyc false true false) r.slots
        (writeImage false h (c.held.getD []) s))
    | _ => s

/-- Every pair of the ended fill period is settled: behind the drain, before the status pass (R69, R70). -/
def twinSettle (h cyc : Nat) (s : State) : State :=
  overList (twinSettleOne h cyc) (s.twins.filter (fun r => decide (256 ≤ r.tag))) s

/-! ### Transmit engine (R65) -/

/-- A frame overlaid by the TX entries of a port's active table with a tag, from the out half (R65). Bytes beyond the
frame's length are not read. -/
def overlayTx (s : State) (p tag : Nat) (fr : List Byte) : List Byte :=
  let es := (s.liveEntries p (s.active p)).filter (fun e => e.kind = 2 && e.frame = tag)
  let h := 1 - s.fillHalf
  es.foldl (fun f e => (s.pairsOf e).foldl (fun g x =>
    if x.1 < g.length then g.set x.1 (s.byte (s.slotAddr h x.2)) else g) f) fr

/-! ### The status pass (R69) -/

/-- The mapped RX slots of the active copies: RX entries and RX slice entries (R56, R64, R69). -/
def mappedRx (s : State) : List Nat :=
  let ts := (List.range 32).flatMap (fun p =>
    ((s.liveEntries p (s.active p)).filter (fun e => e.kind = 1)).flatMap s.slotsOf)
  let b := s.active 32
  let ss := (if s.slots = 0 then [] else s.usedEntries 32 b).flatMap (fun w =>
    if 256 ≤ w ∧ bitOf (s.tabWord 32 b w) 0 = true then
      (List.range (bitsOf (s.tabWord 32 b (w + 1)) 18 12)).map (fun k => bitsOf (s.tabWord 32 b (w + 1)) 0 18 + k)
    else [])
  (ts ++ ss.filter (fun n => decide (n < s.slots))).eraseDups

/-- One slot judged by the pass: marked STALE when its CYC differs from that of the ended fill period (R69). -/
def passSlot (n : Nat) (s : State) : State :=
  let h := 1 - s.fillHalf
  let cyc := (s.get LIM_CYC_NUM_NUM 0 + 15) % 16
  if (s.byte (s.statusAddr h n)).toNat % 16 = cyc then s
  else (s.putByte (s.statusAddr h n) (statusByte cyc true false false)).sat PASS_COUNT 0

/-- The pass starts once the drain has ended. Which marks become visible before its end is not specified: a free value
says it, slot by slot (R69; log entry 12). -/
def statusPass (s : State) : State :=
  if s.get PASS_PHASE 0 = 1 ∧ s.drain = [] then
    let s := twinSettle (1 - s.fillHalf) (s.get LIM_CYC_NUM_NUM 0 + 15) s
    let m := s.fresh
    let s := (s.used.put PASS_PHASE 0 2).put PASS_COUNT 0 0
    let now := ((List.range s.passSlots.length).zip s.passSlots).filter (fun e => bitOf m e.1)
    let rest := ((List.range s.passSlots.length).zip s.passSlots).filter (fun e => !bitOf m e.1)
    overList (fun (e : Nat × Nat) (t : State) => passSlot e.2 t) now { s with passSlots := rest.map (fun e => e.2) }
  else s

/-- The pass ends: the remaining marks, STALE_LAST, LIM_STALE and LIM_IMAGE_READY (R69). -/
def statusPassEnd (s : State) : State :=
  if s.get PASS_PHASE 0 = 2 then
    let s := overList passSlot s.passSlots s
    let n := s.get PASS_COUNT 0
    let s := { s with passSlots := [] }
    let s := ((s.put LIM_CNT1_STALE_LAST 0 n).put PASS_PHASE 0 0).put LIM_STAT_STATUS_PEND 0 0
    (if n = 0 then s else s.raise 2054 n).raise 2049
  else s

/-- The pass of a new boundary is due; one still running is abandoned (R69). -/
def passDue (mapped : List Nat) (s : State) : State :=
  { (s.put PASS_PHASE 0 1).put LIM_STAT_STATUS_PEND 0 1 with passSlots := mapped }

/-! ### Write-through buffer (R61) -/

/-- The oldest buffered store of Course `n`. -/
def wtbFirst (n : Nat) : List Landing → Option Landing
  | [] => none
  | l :: ls => if l.who = n then some l else wtbFirst n ls

/-- The buffers without the oldest store of Course `n`. -/
def wtbRest (n : Nat) : List Landing → List Landing
  | [] => []
  | l :: ls => if l.who = n then ls else l :: wtbRest n ls

/-- The oldest store of a Course's buffer reaches the Soundboard; its own L1 keeps its copy (R61). -/
def writeThroughDrain (n : Nat) (s : State) : State :=
  match wtbFirst n s.wtb with
  | none => s
  | some l => State.keepL1 n (soundboardWrite (l.addr - sbBase) l.bytes) { s with wtb := wtbRest n s.wtb }

/-- The whole buffer of Course `n` drains, in order. -/
def drainThrough (n : Nat) (s : State) : State :=
  overRange (fun _ t => writeThroughDrain n t) (s.wtb.filter (fun l => l.who = n)).length s

/-- The stores that a requester has issued to the Soundboard before the present access complete first: those of a Course's buffer
(01 R10). -/
def State.inOrder (s : State) : Requester → State
  | .course n => drainThrough n.val s
  | _ => s

/-- A 64-byte line lies in the line image; no L1 ever holds such a line dirty (R61). -/
def State.imageLine (s : State) (line : Nat) : Bool := s.inHalf 0 (64 * line - sbBase) || s.inHalf 1 (64 * line - sbBase)

/-! ### Writes of the LIM registers that act beyond the access codes -/

/-- A write of LIM_CYC_CTRL: DOM while not RUNNING and not locked (R53), LOCK, then RUN (R52, R53). -/
def cycCtrlWrite (v : Nat) (s : State) : State :=
  let s := if s.flag LIM_STAT_RUNNING 0 || s.flag LIM_CYC_CTRL_LOCK 0 then s else s.put LIM_CYC_CTRL_DOM 0 (bitsOf v 4 4)
  let s := if bitOf v 31 then s.put LIM_CYC_CTRL_LOCK 0 1 else s
  if bitOf v 0 then runStart s else runStop s

/-! ### The commands' meanings -/

/-- LIM_RUN_START (R52, R53). -/
def execLimRunStart (q : Requester) (s : State) : Result := .next (s.gate q 0x4040_0000 runStart)

/-- LIM_RUN_STOP (R53). -/
def execLimRunStop (q : Requester) (s : State) : Result := .next (s.gate q 0x4040_0000 runStop)

/-- LIM_CYC_CHG_ARM (R54). -/
def execLimCycChgArm (q : Requester) (period : BitVec 23) (at' : Word) (s : State) : Result :=
  .next (s.gate q 0x4040_0018 (cycChgArm period.toNat at'.toNat))

/-- STATUS_PASS (R69). -/
def execStatusPass (s : State) : Result := .next (statusPass s)

/-- STATUS_PASS_END (R69). -/
def execStatusPassEnd (s : State) : Result := .next (statusPassEnd s)

/-- SOUNDBOARD_WRITE (R59, R60, R62): a write by a requester that R22 lets reach the Soundboard, behind its earlier ones (01 R10). -/
def execSoundboardWrite (q : Requester) (off : BitVec 26) (bs : List Byte) (s : State) : Result :=
  let a := sbBase + off.toNat
  .next (if regionOfAccess a bs.length = .soundboard ∧ s.boardWindow q a = true ∧ s.boardWindow q (a + bs.length - 1) = true then
      soundboardWrite off.toNat bs (s.inOrder q)
    else s.refuse q a)

/-- WRITE_THROUGH_DRAIN (R61). -/
def execWriteThroughDrain (n : Fin 32) (s : State) : Result := .next (writeThroughDrain n s)

/-- RX_DRAIN (R68). -/
def execRxDrain (s : State) : Result := .next (rxDrain s)

/-- The address of a table's control registers. -/
def tabAddr (t : Nat) : Nat := 0x4040_1000 + 0x20 * t

/-- LIM_TAB_DONE (R71). -/
def execLimTabDone (q : Requester) (t : Fin 33) (s : State) : Result := .next (s.gate q (tabAddr t) (tabDone t))

/-- LIM_TAB_COPY (R71). -/
def execLimTabCopy (q : Requester) (t : Fin 33) (s : State) : Result := .next (s.gate q (tabAddr t) (tabCopy t))

/-- TAB_COPY_COMPLETE (R71). -/
def execTabCopyComplete (t : Fin 33) (s : State) : Result := .next (tabCopyComplete t s)

/-- LIM_TAB_REOPEN (R71). -/
def execLimTabReopen (q : Requester) (t : Fin 33) (s : State) : Result := .next (s.gate q (tabAddr t) (tabReopen t))

/-- LIM_BASE_WRITE (R71). -/
def execLimBaseWrite (q : Requester) (v : Word) (s : State) : Result :=
  .next (s.gate q 0x4040_0030 (limBaseWrite v.toNat))

/-- TAB_VERIFICATION_END (R72). -/
def execTabVerificationEnd (t : Fin 33) (s : State) : Result := .next (tabVerificationEnd t s)

/-- LIM_TAB_COMMIT_GO (R73). -/
def execLimTabCommitGo (q : Requester) (ports : Word) (slices : Bool) (s : State) : Result :=
  .next (s.gate q 0x4040_0100 (fun s =>
    tabGo (ports.toNat + (if slices then 2 ^ 32 else 0)) s))

/-- LIM_TAB_COMMIT_CANCEL (R73). -/
def execLimTabCommitCancel (q : Requester) (s : State) : Result := .next (s.gate q 0x4040_0100 tabCancel)

end Sys2Proof.Machine
end

