-- ==== Sys2Proof/Machine/Frames.lean ====
section
/-! DEFINITION. Frame octets: tags, addresses and IP headers as the receive path reads them (05 R116, R118), flow keys
(04 R86, R92), checksums and the FCS, and how long a frame occupies a wire. -/

namespace Sys2Proof.Machine

/-- Octet `k` of a frame, 0 beyond its end. -/
def octet (fr : List Byte) (k : Nat) : Nat := (fr[k]?.getD 0).toNat

/-- Two octets, most significant first. -/
def be16 (fr : List Byte) (k : Nat) : Nat := octet fr k * 256 + octet fr (k + 1)

/-- `n` octets from `k`, as a number, most significant first. -/
def beNum (fr : List Byte) (k : Nat) : Nat → Nat
  | 0 => 0
  | n + 1 => beNum fr k n * 256 + octet fr (k + n)

/-- `n` octets of a number, most significant first. -/
def beBytes (n v : Nat) : List Byte := (toBytes n v).reverse

/-- The number of VLAN tags recognised (05 R116): an outer tag 0x88A8 or 0x8100, then an inner tag 0x8100. -/
def tagCount (fr : List Byte) : Nat :=
  if be16 fr 12 = 0x88A8 ∨ be16 fr 12 = 0x8100 then (if be16 fr 16 = 0x8100 then 2 else 1) else 0

/-- Where the Ethertype after the last recognised tag stands (05 R116). -/
def etypeAt (fr : List Byte) : Nat := 12 + 4 * tagCount fr

/-- The Ethertype of a frame (05 R116). -/
def etype (fr : List Byte) : Nat := be16 fr (etypeAt fr)

/-- Outer VID, 0 if untagged. -/
def outerVid (fr : List Byte) : Nat := if tagCount fr = 0 then 0 else be16 fr 14 % 4096

/-- Outer PCP, 0 if untagged. -/
def outerPcp (fr : List Byte) : Nat := if tagCount fr = 0 then 0 else be16 fr 14 / 8192

/-- Drop eligible indicator of the outer tag. -/
def outerDei (fr : List Byte) : Bool := tagCount fr != 0 && bitOf (be16 fr 14) 12

/-- Destination and source MAC as numbers, octet 0 most significant. -/
def dstMac (fr : List Byte) : Nat := beNum fr 0 6
def srcMac (fr : List Byte) : Nat := beNum fr 6 6

/-- Where the payload after the Ethertype starts. -/
def payloadAt (fr : List Byte) : Nat := etypeAt fr + 2

def isIPv4 (fr : List Byte) : Bool := etype fr == 0x0800 && octet fr (payloadAt fr) / 16 == 4
def isIPv6 (fr : List Byte) : Bool := etype fr == 0x86DD && octet fr (payloadAt fr) / 16 == 6

/-- IPv4 header length in octets. -/
def ihl (fr : List Byte) : Nat := octet fr (payloadAt fr) % 16 * 4

/-- The packet is a fragment of an IPv4 datagram (MF set or an offset). -/
def isFragment (fr : List Byte) : Bool := isIPv4 fr && be16 fr (payloadAt fr + 6) % 0x4000 != 0

/-- The transport protocol: IPv4 PROTO, or the first next-header of IPv6. -/
def ipProto (fr : List Byte) : Nat :=
  if isIPv4 fr then octet fr (payloadAt fr + 9) else if isIPv6 fr then octet fr (payloadAt fr + 6) else 0

/-- Where the transport header starts. -/
def l4At (fr : List Byte) : Nat := if isIPv4 fr then payloadAt fr + ihl fr else payloadAt fr + 40

/-- The packet carries a TCP or UDP header that is not a fragment. -/
def hasL4 (fr : List Byte) : Bool :=
  (isIPv4 fr || isIPv6 fr) && !isFragment fr && (ipProto fr == 6 || ipProto fr == 17)

/-! ### Checksums (05 R118) -/

/-- The ones' complement sum of `n` octets from `k`, an odd last octet padded with zero. -/
def onesSum (fr : List Byte) (k : Nat) : Nat → Nat → Nat
  | _, 0 => 0
  | i, f + 1 => be16 fr (k + i) + onesSum fr k (i + 2) f

/-- A sum folded to 16 bits. -/
def fold16 (v : Nat) : Nat :=
  let a := v % 65536 + v / 65536
  let b := a % 65536 + a / 65536
  b % 65536 + b / 65536

/-- The sum of `n` octets from `k`, the octet after an odd end not counted. -/
def sumOctets (fr : List Byte) (k n : Nat) : Nat := onesSum ((fr.drop k).take n) 0 0 ((n + 1) / 2)

/-- The IPv4 header checksum is good. -/
def l3Good (fr : List Byte) : Bool := fold16 (sumOctets fr (payloadAt fr) (ihl fr)) == 65535

/-- Octets of the transport segment, by the IP length fields. -/
def l4Len (fr : List Byte) : Nat :=
  if isIPv4 fr then be16 fr (payloadAt fr + 2) - ihl fr else be16 fr (payloadAt fr + 4)

/-- The pseudo-header's sum. -/
def pseudoSum (fr : List Byte) : Nat :=
  let p := payloadAt fr
  (if isIPv4 fr then sumOctets fr (p + 12) 8 else sumOctets fr (p + 8) 32) + ipProto fr + l4Len fr

/-- The TCP or UDP checksum is good; a UDP checksum of zero over IPv4 means none was sent. -/
def l4Good (fr : List Byte) : Bool :=
  (ipProto fr == 17 && isIPv4 fr && be16 fr (l4At fr + 6) == 0) ||
    fold16 (sumOctets fr (l4At fr) (l4Len fr) + pseudoSum fr) == 65535

/-! ### FCS -/

/-- Eight bit steps of the reflected CRC-32 of IEEE 802.3. -/
def fcsBits : Nat → Nat → Nat
  | 0, c => c
  | n + 1, c => fcsBits n (if c % 2 = 1 then (c / 2) ^^^ 0xEDB88320 else c / 2)

/-- The register after a run of octets. -/
def fcsRun : Nat → List Byte → Nat
  | c, [] => c
  | c, b :: bs => fcsRun (fcsBits 8 (c ^^^ b.toNat)) bs

/-- A frame closed by its FCS (05 R119 FCS_INS, R123). -/
def withFcs (fr : List Byte) : List Byte := fr ++ toBytes 4 (fcsRun 0xFFFFFFFF fr ^^^ 0xFFFFFFFF)

/-! ### Flow keys (04 R86) -/

/-- The five words of the key area for a key type, with VALID, IN_PORT, PCP_MATCH and PCP taken as zero. -/
def flowKey (kt : Nat) (fr : List Byte) : List Nat :=
  let w0 := kt * 2
  let le (k : Nat) : Nat := ofBytes ((fr.drop k).take 4)
  match kt with
  | 0 => [w0, le 0, octet fr 4 + octet fr 5 * 256 + outerVid fr * 65536, 0, 0]
  | 1 => [w0, le 6, octet fr 10 + octet fr 11 * 256 + outerVid fr * 65536, 0, 0]
  | 2 =>
    let p := payloadAt fr
    [w0, le (p + 12), le (p + 16), if hasL4 fr then le (l4At fr) else 0, ipProto fr]
  | _ => let p := payloadAt fr; [w0, le (p + 24), le (p + 28), le (p + 32), le (p + 36)]

/-- The bucket of a key: bits [9:0] of the CRC-32C over its 20 bytes (04). -/
def flowBucket (key : List Nat) : Nat := crc32c (key.flatMap (toBytes 4)) % 1024

/-- The flow hash of R92: FHASH_SEL 0 takes the IP addresses, protocol and ports, 1 VID, PCP and destination MAC. The order of
the fields and their octets is the model's (DESIGN CHOICE, log entry 146); the PCP of an untagged frame is 0 (log entry 145). -/
def flowHash (sel : Nat) (fr : List Byte) : Nat :=
  let p := payloadAt fr
  let ip (a n : Nat) : List Byte :=
    (fr.drop a).take n ++ [BitVec.ofNat 8 (ipProto fr)] ++ (if hasL4 fr then (fr.drop (l4At fr)).take 4 else [0, 0, 0, 0])
  let l2 : List Byte := beBytes 2 (outerVid fr + outerPcp fr * 4096) ++ fr.take 6
  let fields := if sel = 0 ∧ isIPv4 fr = true then ip (p + 12) 8 else if sel = 0 ∧ isIPv6 fr = true then ip (p + 8) 32 else l2
  crc32c fields % 65536

/-! ### Rates and lengths -/

/-- The rate of a switch port in Mbit/s: field ports by MAC_STAT.SPEED, trunk ports by group and lane rate, internal
ports as the fabric. -/
def portRate (s : State) (q : Nat) : Nat :=
  if q < 32 then
    match s.get MAC_STAT_SPEED q with
    | 0 => 10 | 1 => 100 | 2 => 1000 | 3 => 2500 | 4 => 5000 | _ => 10000
  else if q < 40 then
    if s.flag TRK_GRP_CFG_SPLIT ((q - 32) / 4) then 400000
    else match s.get TRK_LANE_STAT_RATE (q - 32) with
      | 0 => 25000 | 1 => 50000 | _ => 100000
  else 1000000

/-- How long `n` octets with 20 octets of preamble and gap take at a rate, in 1/256 ns, rounded up. -/
def wireTime (rate n : Nat) : Nat := ((n + 20) * 2048000 + rate - 1) / rate

/-- The same in core clock cycles, rounded up. -/
def wireCycles (rate n : Nat) : Nat := (wireTime rate n + 319) / 320

/-- The longest frame of an ingress port (05 R115, 06 R138). -/
def portMaxLen (s : State) (q : Nat) : Nat :=
  if q < 32 then max 64 (min 16000 (s.get MAC_MAXLEN_MAX_LEN q))
  else max 64 (min 16000 (s.get TRK_PORT_CFG_MAX_LEN (q - 32)))

/-- Cells of 256 bytes that a length needs (04). -/
def cellsOf (n : Nat) : Nat := (n + 255) / 256

/-- The link of a switch port is up. Internal ports are always up. -/
def portLink (s : State) (q : Nat) : Bool :=
  if q < 32 then s.flag MAC_STAT_LINK q else if q < 40 then s.flag TRK_PORT_STAT_LINK (q - 32) else true

/-- The group of lane `l` runs as one four-lane port (06 R137). -/
def fourLane (s : State) (l : Nat) : Bool := s.flag TRK_GRP_CFG_SPLIT (l / 4)

/-- The port that lane `l` belongs to, by its lowest lane (06 R137). -/
def portOfLane (s : State) (l : Nat) : Nat := if fourLane s l then l / 4 * 4 else l

/-- The lanes of the port named by lane `l`. -/
def lanesOf (s : State) (l : Nat) : List Nat := if fourLane s l then (List.range 4).map (fun k => l / 4 * 4 + k) else [l]

/-- The lane is UP or DEGRADED: these states read 2 and 4 (06 R140). -/
def laneRuns (s : State) (l : Nat) : Bool := s.get TRK_LANE_STAT_LANE l == 2 || s.get TRK_LANE_STAT_LANE l == 4

/-- The lanes, the FEC and the alignment of a trunk port let it send (06 R140). -/
def lanesReady (s : State) (l : Nat) : Bool :=
  (lanesOf s l).all (laneRuns s) && s.flag TRK_PORT_STAT_FEC_LOCK l && (!fourLane s l || s.flag TRK_PORT_STAT_ALIGNED l)

/-- TX_READY of a switch port (05 R126, 06 R140). -/
def portReady (s : State) (q : Nat) : Bool :=
  if q < 32 then s.flag MAC_STAT_TX_READY q else if q < 40 then s.flag TRK_PORT_STAT_TX_READY (q - 32) else true

/-- This unit drives the line: redundant-pair operation is off, or it owns (18 R415, R419, R420). -/
def owning (s : State) : Bool := !s.flag RDN_CFG_EN 0 || s.get RDN_STAT_ROLE 0 == 1

/-- The ring role in which a field port acts: 3 acts as 0; a gated master of a unit that does not own acts as a node
(05, 18 R420). -/
def ringRole (s : State) (p : Nat) : Nat :=
  match s.get MAC_CFG_RING_ROLE p with
  | 1 => if !owning s && s.bit RDN_PORT_GATE_MASK 0 p then 2 else 1
  | 2 => 2
  | _ => 0

/-- A field port whose transmitter a unit that does not own holds idle (18 R420). -/
def gatedPort (s : State) (p : Nat) : Bool :=
  decide (p < 32) && !owning s && s.bit RDN_PORT_GATE_MASK 0 p && s.get MAC_CFG_RING_ROLE p != 1

/-- Frames switched to a port are dropped as for a down link: its link is down, it is in the node role (05 R131), or a
unit that does not own gates it, or does not forward on its trunk: `mka` names the MKA and time-transfer frames that it sends (18
R420). -/
def portClosed (s : State) (mka : Bool) (p : Nat) : Bool :=
  !portLink s p || (decide (p < 32) && (ringRole s p == 2 || gatedPort s p)) ||
    (decide (32 ≤ p) && decide (p < 40) && !owning s && !mka)

/-- A member of a path set is live: its link is up and its lane is not degraded (04 R92). -/
def portLive (s : State) (q : Nat) : Bool :=
  if q < 32 then s.flag MAC_STAT_LINK q && s.get MAC_STAT_LANE q != 4
  else if q < 40 then s.flag TRK_PORT_STAT_LIVE (q - 32) else false

end Sys2Proof.Machine
end

