-- ==== Sys2Proof/Machine/Switch.lean ====
section
/-! DEFINITION. The Soundboard switch (spec/04_soundboard_switch.md): the flow table, bridging, path sets, classes and
admission, Louvres, mirroring, stream filters and meters, seamless redundancy. The egress of a frame, which the MACs
take part in, stands in Egress.lean. -/

namespace Sys2Proof.Machine

/-! ### Internal cells -/

/-- Flow-table words: copy (bank × 65,536 + 8 × entry + word); the active bank (R88). -/
def SBD_FT : Fld := ⟨1170, 0, 32, .int, 0, .keep, .none⟩
def FT_BANK : Fld := ⟨1171, 0, 1, .int, 0, .keep, .none⟩
/-- Gate-list words: copy ((2 × q + bank) × 2,048 + 2 × entry + word); the active bank, its COUNT, CT and BASE, and
whether a list was ever committed (R103). -/
def LVR_W : Fld := ⟨1172, 0, 32, .int, 0, .keep, .none⟩
def LVR_BANK : Fld := ⟨1173, 0, 1, .int, 0, .keep, .none⟩
def LVR_A_COUNT : Fld := ⟨1174, 0, 11, .int, 1, .keep, .none⟩
def LVR_A_CT : Fld := ⟨1175, 0, 23, .int, 25000, .keep, .none⟩
def LVR_A_BASE : Fld := ⟨1176, 0, 32, .int, 0, .keep, .none⟩
def LVR_HAVE : Fld := ⟨1177, 0, 1, .int, 0, .keep, .none⟩
/-- The entry in force, the starts of the present and the next schedule cycle and of the cycle at which a pending commit
is judged, in 1/256 ns, and whether a hold is in force (R101, R103, R104). -/
def LVR_POS : Fld := ⟨1178, 0, 10, .int, 0, .reset, .none⟩
def LVR_START : Fld := ⟨1179, 0, 40, .int, 0, .reset, .none⟩
def LVR_NEXT : Fld := ⟨1180, 0, 40, .int, 0, .reset, .none⟩
def LVR_AT : Fld := ⟨1181, 0, 40, .int, 0, .reset, .none⟩
def LVR_HOLD : Fld := ⟨1182, 0, 1, .int, 0, .reset, .none⟩
/-- VLAN table words, copy 4 × VID + word (R90); path sets (R91); multicast group words (R95). -/
def SBD_VLAN : Fld := ⟨1183, 0, 32, .int, 0, .keep, .none⟩
def SBD_PATH : Fld := ⟨1184, 0, 64, .rw, 0, .keep, .any⟩
def SBD_GRP : Fld := ⟨1185, 0, 32, .int, 0, .keep, .none⟩
/-- Stream filter, meter and redundancy words (R108, R109, R110). -/
def SBD_FILT : Fld := ⟨1186, 0, 32, .int, 0, .keep, .none⟩
def SBD_METER : Fld := ⟨1187, 0, 32, .int, 0, .keep, .none⟩
def SBD_FRER : Fld := ⟨1188, 0, 32, .int, 0, .keep, .none⟩
/-- A meter's used-up tokens, committed and excess, in 1/64,000 octet, and the core clock count they hold at (R109). -/
def METER_C : Fld := ⟨1189, 0, 48, .int, 0, .keep, .none⟩
def METER_E : Fld := ⟨1190, 0, 48, .int, 0, .keep, .none⟩
def METER_AT : Fld := ⟨1191, 0, 64, .int, 0, .keep, .none⟩
/-- A recovery function's history (bit 0 the latest number), whether it has accepted a frame since its reset, and when
it last did (core clock count) (R110, R111). -/
def FRER_HIST : Fld := ⟨1192, 0, 64, .int, 0, .keep, .none⟩
def FRER_RUN : Fld := ⟨1193, 0, 1, .int, 0, .keep, .none⟩
def FRER_AT : Fld := ⟨1194, 0, 64, .int, 0, .keep, .none⟩
/-- A mirror session's frames since its last sample, and its samples (R106, R107). -/
def MIR_SKIP : Fld := ⟨1195, 0, 16, .int, 0, .keep, .none⟩
def MIR_SEQ : Fld := ⟨1196, 0, 16, .int, 0, .keep, .none⟩
/-- The number of the next stored frame; SBD_POOL_LOW was raised and FREE has not risen above 2 × LOW since (R82). -/
def FRAME_NEXT : Fld := ⟨1197, 0, 32, .int, 1, .reset, .none⟩
def POOL_WAS_LOW : Fld := ⟨1198, 0, 1, .int, 0, .reset, .none⟩

/-- The address of a register of switch port `q`. -/
def sbdPortAddr (off q : Nat) : Nat := 0x4050_2000 + 0x200 * q + off

/-! ### Error correction (R80) -/

/-- What the error check of a memory finds, as a free value leaves it open. -/
def freeEcc (v : Nat) : Ecc :=
  match v % 3 with
  | 0 => .none
  | 1 => .corr
  | _ => .uncorr

/-- What the error check of a read of the Soundboard leaves (R80). -/
def eccSeen (e : Ecc) (s : State) : State :=
  match e with
  | .none => s
  | .corr => s.sat SBD_ECC_CORR 0
  | .uncorr => (s.sat SBD_ECC_UNCORR 0).raise 899

/-! ### The cell pool (R82, R83) -/

/-- 64 KiB units of the reserved windows and of the line image together. -/
def unitsTaken (s : State) : Nat :=
  ((List.range 1024).filter (fun u => s.unitReserved u || s.inHalf 0 (u * 0x1_0000) || s.inHalf 1 (u * 0x1_0000))).length

/-- An enabled window overlaps the line image. -/
def windowOnImage (s : State) (i : Nat) : Bool :=
  s.get SBD_RSV_SIZE i != 0 && s.stride != 0 &&
    decide (s.get SBD_RSV_BASE i * 0x1_0000 < s.halfBase 0 + 2 * s.stride) &&
    decide (s.halfBase 0 < (s.get SBD_RSV_BASE i + s.get SBD_RSV_SIZE i) * 0x1_0000)

/-- The windows and the line image allow EN (R83). -/
def layoutOk (s : State) : Bool :=
  s.imageFits && (List.range 4).all (fun i =>
    (s.get SBD_RSV_SIZE i == 0 || s.windowOk i) && !windowOnImage s i)

/-- Cells taken from the pool, with SBD_POOL_LOW (R82). -/
def poolTake (n : Nat) (s : State) : State :=
  let s := s.put SBD_POOL_FREE 0 (s.get SBD_POOL_FREE 0 - n)
  if s.get SBD_POOL_FREE 0 < s.get SBD_QLOW_LOW 0 ∧ s.flag POOL_WAS_LOW 0 = false then
    (s.put POOL_WAS_LOW 0 1).raise 900
  else s

/-- Cells given back to the pool (R82). -/
def poolGive (n : Nat) (s : State) : State :=
  let s := s.put SBD_POOL_FREE 0 (min (s.get SBD_POOL_FREE 0 + n) (s.get SBD_POOL_TOTAL 0))
  if 2 * s.get SBD_QLOW_LOW 0 < s.get SBD_POOL_FREE 0 then s.put POOL_WAS_LOW 0 0 else s

/-! ### Stored frames (R95) -/

/-- A stored frame. -/
def State.frame (s : State) (id : Nat) : Option Frame := s.frames.find? (fun f => f.id = id)

/-- A stored frame replaced. -/
def State.putFrame (s : State) (f : Frame) : State :=
  { s with frames := s.frames.map (fun g => if g.id = f.id then f else g) }

/-- A descriptor's buffer is released: its completion is due (05 R119). -/
def completeTx (o : TxOrigin) (status : Nat) (stamp : Option (Nat × Nat)) (s : State) : State :=
  { s with txDone := s.txDone ++ [⟨o, status, stamp⟩] }

/-- A reference to a frame ends; `status` is the STATUS code of this copy, 0 if it was sent. With the last reference the
cells are freed and the descriptor it came from completes (R95, 05 R119). -/
def dropRef (id status : Nat) (s : State) : State :=
  match s.frame id with
  | none => s
  | some f =>
    let f := { f with refs := f.refs - 1, status := if f.status = 0 then status else f.status }
    if f.refs = 0 then
      let s := poolGive f.cells { s with frames := s.frames.filter (fun g => g.id ≠ id) }
      match f.origin with
      | some o => completeTx o f.status f.stamp s
      | none => s
    else s.putFrame f

/-- SBD_CTRL.EN cleared: no pool exists, and what it held is gone (R82). -/
def switchOff (s : State) : State :=
  let s := { s with frames := [], queues := [], wires := [], directs := [] }
  ((s.put SBD_CTRL_EN 0 0).put SBD_POOL_FREE 0 0).put SBD_POOL_TOTAL 0 0

/-- EN set: the pool is formed, or CFG_ERR sets (R83). -/
def switchOn (s : State) : State :=
  if s.flag SBD_CTRL_EN 0 then s
  else if layoutOk s then
    let n := (1024 - unitsTaken s) * 256
    ((s.put SBD_CTRL_EN 0 1).put SBD_POOL_TOTAL 0 n).put SBD_POOL_FREE 0 n
  else s.put SBD_STAT_CFG_ERR 0 1

/-- A write of SBD_CTRL. -/
def sbdCtrlWrite (v : Nat) (s : State) : State :=
  let s := s.put SBD_CTRL_SCRUB_S 0 (bitsOf v 8 8)
  let s := if bitOf v 31 then s.put SBD_CTRL_LOCK 0 1 else s
  if bitOf v 0 then switchOn s else if s.flag SBD_CTRL_EN 0 then switchOff s else s

/-- A write of a reserved window: ignored while EN is 1 or when locked (R83). -/
def sbdRsvWrite (i v : Nat) (s : State) : State :=
  if s.flag SBD_CTRL_EN 0 || s.flag SBD_CTRL_LOCK 0 then s
  else (s.put SBD_RSV_BASE i v).put SBD_RSV_SIZE i (bitsOf v 16 10)

/-! ### The flow table (R86 to R89) -/

/-- A word of a flow entry in a bank. -/
def State.ftWord (s : State) (bank e w : Nat) : Nat := s.get SBD_FT (bank * 65536 + e * 8 + w)

/-- What a lookup decided: kind and destination, the class it overrides, mirroring, no cut-through, the stream handle,
the entry hit, and whether the default rule acts (R86, R87). -/
structure Action where
  kind : Nat
  dest : Nat
  tc : Option Nat
  mirror : Bool
  ctDis : Bool
  handle : Option Nat
  entry : Option Nat
  miss : Bool
deriving DecidableEq, Repr

/-- The action in word 5 of an entry (R86). -/
def actionOf (e w5 : Nat) : Action :=
  ⟨bitsOf w5 0 3, bitsOf w5 3 8, if bitOf w5 11 then some (bitsOf w5 12 3) else none, bitOf w5 15, bitOf w5 16,
    if bitOf w5 27 then some (bitsOf w5 17 10) else none, some e, false⟩

/-- A way matches (R86): valid, the key type and key, PCP only with PCP_MATCH, the ingress port or any. -/
def wayMatch (s : State) (bank e q kt : Nat) (key : List Nat) (pcp : Nat) : Bool :=
  let w0 := s.ftWord bank e 0
  let w2 := s.ftWord bank e 2
  bitOf w0 0 && bitsOf w0 1 2 == kt && (bitsOf w0 3 6 == q || bitsOf w0 3 6 == 63) &&
    key.getD 1 0 == s.ftWord bank e 1 && key.getD 2 0 == (if kt < 2 then w2 % 2 ^ 28 else w2) &&
    key.getD 3 0 == s.ftWord bank e 3 && key.getD 4 0 == s.ftWord bank e 4 &&
    (decide (2 ≤ kt) || !bitOf w0 9 || bitsOf w2 28 3 == pcp)

/-- The key types looked up for a frame on ingress port `q`, in order (R86). -/
def keyTypes (s : State) (q : Nat) (fr : List Byte) : List Nat :=
  let en := s.get SBD_PORT_CFG_FLOW_KEYS q
  (if bitOf en 0 then (if isIPv4 fr then [2] else if isIPv6 fr then [3] else []) else []) ++
    (if bitOf en 1 then [0] else []) ++ (if bitOf en 2 then [1] else [])

/-- The entry that a frame hits in the active copy (R86, R89). The PCP of an untagged frame is taken as 0, not as DEF_PCP
(DESIGN CHOICE, log entry 145). -/
def flowFind (s : State) (q : Nat) (fr : List Byte) : Option Nat :=
  let bank := s.get FT_BANK 0
  (keyTypes s q fr).findSome? (fun kt =>
    let key := flowKey kt fr
    let b := flowBucket key
    ((List.range 8).map (fun w => 8 * b + w)).find? (fun e => wayMatch s bank e q kt key (outerPcp fr)))

/-- The switch port of an ingress port's slow path (R87). -/
def slowPath (s : State) (q : Nat) : Nat :=
  if s.flag SBD_PORT_CFG_SLOW_CC q then 72 else 40 + s.get SBD_PORT_CFG_SLOW_COURSE q

/-- The action for a frame (R85 paths 3 and 4), with the count of a default-rule frame (R87). -/
def flowLookup (q : Nat) (fr : List Byte) (s : State) : Action × State :=
  match flowFind s q fr with
  | some e =>
    let a := actionOf e (s.ftWord (s.get FT_BANK 0) e 5)
    (if a.kind = 4 then { a with kind := 1, dest := slowPath s q } else a, s)
  | none =>
    let s := s.count1 SBD_PCNT_MISS_DEFAULT q (1029 + 8 * q)
    let d : Action := ⟨0, 0, none, false, false, none, none, true⟩
    match s.get SBD_PORT_CFG_MISS_ACT q with
    | 0 => ({ d with kind := 1, dest := slowPath s q }, s)
    | 1 => ({ d with kind := 5 }, s)
    | _ => (d, s)

/-- The used entries of a bank of the flow table. -/
def flowUsed (s : State) (bank : Nat) : List Nat :=
  (s.listed SBD_FT).filterMap (fun e =>
    if e.1 / 65536 = bank ∧ e.1 % 8 = 0 ∧ bitOf e.2 0 = true then some (e.1 % 65536 / 8) else none)

/-- The range check of an entry (R88). -/
def flowEntryOk (s : State) (bank e : Nat) : Bool :=
  let w5 := s.ftWord bank e 5
  match bitsOf w5 0 3 with
  | 0 | 3 | 4 | 5 => true
  | 1 => decide (bitsOf w5 3 8 ≤ 72)
  | 2 => decide (bitsOf w5 3 8 ≤ 63)
  | _ => false

/-- The bucket that an entry's key hashes to (04): VALID, IN_PORT, PCP_MATCH and PCP taken as zero. -/
def entryBucket (s : State) (bank e : Nat) : Nat :=
  let w0 := s.ftWord bank e 0
  let kt := bitsOf w0 1 2
  let w2 := s.ftWord bank e 2
  flowBucket [w0 / 1024 * 1024 + kt * 2, s.ftWord bank e 1, if kt < 2 then w2 % 2 ^ 28 + w2 / 2 ^ 31 * 2 ^ 31 else w2,
    s.ftWord bank e 3, s.ftWord bank e 4]

/-- The verification of the flow shadow: 0 good, 1 CRC, 2 range, 3 bucket placement (R88). -/
def flowVerify (s : State) : Nat :=
  let b := 1 - s.get FT_BANK 0
  if crc32c ((List.range 65536).flatMap (fun w => toBytes 4 (s.get SBD_FT (b * 65536 + w)))) ≠ s.get SBD_FLOW_CRC_CRC 0 then 1
  else if !(flowUsed s b).all (flowEntryOk s b) then 2
  else if !(flowUsed s b).all (fun e => entryBucket s b e == e / 8) then 3
  else 0

/-- The flow shadow's state set, DONE reading 1 while it is not OPEN. -/
def setFlow (st : Nat) (s : State) : State :=
  (s.put SBD_FLOW_STAT_STATE 0 st).put SBD_FLOW_CTRL_DONE 0 (if st = 0 then 0 else 1)

/-- A pending flow commit ends without a swap (R88). -/
def flowAbandon (s : State) : State := (s.put SBD_FLOW_STAT_PEND 0 0).settle .flowCommit 0x0207 64 []

/-- The flow copies swap (R88). -/
def flowSwap (s : State) : State :=
  ((setFlow 0 ((s.put FT_BANK 0 (1 - s.get FT_BANK 0)).put SBD_FLOW_STAT_PEND 0 0)).settle .flowCommit 0 0 []).raise 896

/-- The pending flow commit judged by the shadow's state (R88). -/
def flowTry (s : State) : State :=
  if !s.flag SBD_FLOW_STAT_PEND 0 then s
  else if s.get SBD_FLOW_STAT_STATE 0 = 2 then flowSwap s
  else if s.get SBD_FLOW_STAT_STATE 0 = 3 then flowAbandon s
  else s

/-- While cycling has not started the commit does not wait for a boundary (R88). -/
def flowIdle (s : State) : State := if s.started then s else flowTry s

/-- The pending flow commit at a boundary (R88). -/
def flowBoundary (s : State) : State :=
  let s := flowTry s
  if s.flag SBD_FLOW_STAT_PEND 0 then (s.sat SBD_FLOW_STAT_DEFER 0).raise 897 else s

/-- DONE, COPY and REOPEN of the flow shadow (R88, R71). -/
def flowDone (s : State) : State :=
  if s.get SBD_FLOW_STAT_STATE 0 = 0 then (setFlow 1 s).bgAsk .flow else s

def flowCopy (s : State) : State :=
  if s.get SBD_FLOW_STAT_STATE 0 = 0 then
    let b := s.get FT_BANK 0
    s.copyRange SBD_FT ((1 - b) * 65536) (b * 65536) 65536
  else s

def flowReopen (s : State) : State :=
  if s.get SBD_FLOW_STAT_STATE 0 = 0 ∨ s.flag SBD_FLOW_STAT_PEND 0 = true then s else (setFlow 0 s).bgDrop .flow

/-- A write of SBD_FLOW_CTRL: REOPEN, COPY and DONE in the order of R71. -/
def flowCtrlWrite (v : Nat) (s : State) : State :=
  let s := if bitOf v 18 then flowReopen s else s
  let s := if bitOf v 17 then flowCopy s else s
  if bitOf v 16 then flowDone s else s

/-- GO and CANCEL of SBD_FLOW_COMMIT (R88). -/
def flowGo (s : State) : State := if s.flag SBD_FLOW_STAT_PEND 0 then s else flowIdle (s.put SBD_FLOW_STAT_PEND 0 1)

def flowCancel (s : State) : State := if s.flag SBD_FLOW_STAT_PEND 0 then flowAbandon s else s

/-- A write of SBD_FLOW_COMMIT: CANCEL first, then GO (R88). -/
def flowCommitWrite (v : Nat) (s : State) : State :=
  let s := if bitOf v 1 then flowCancel s else s
  if bitOf v 0 then flowGo s else s

/-- A write of the expected CRC, ignored outside OPEN. -/
def flowCrcWrite (v : Nat) (s : State) : State := if s.get SBD_FLOW_STAT_STATE 0 = 0 then s.put SBD_FLOW_CRC_CRC 0 v else s

/-- A write of a shadow word: its fields (R86) taken in OPEN, else ignored and counted (R88, R71). -/
def flowWordWrite (w v : Nat) (s : State) : State :=
  if s.get SBD_FLOW_STAT_STATE 0 = 0 then
    s.put SBD_FT ((1 - s.get FT_BANK 0) * 65536 + w)
      (v &&& [0x3FF, 0xFFFF_FFFF, 0xFFFF_FFFF, 0xFFFF_FFFF, 0xFFFF_FFFF, 0xFFF_FFFF, 0, 0].getD (w % 8) 0)
  else s.sat SBD_FLOW_STAT_WR_LOCKED 0

/-- A granted flow verification ends (R88). -/
def flowVerificationEnd (s : State) : State :=
  if s.bgGranted .flow then
    let s := s.bgEnd .flow
    if s.get SBD_FLOW_STAT_STATE 0 = 1 then
      let why := flowVerify s
      let s := s.put SBD_FLOW_STAT_FAIL_WHY 0 why
      flowIdle (if why = 0 then setFlow 2 s else (setFlow 3 s).raise 898)
    else s
  else s

/-! ### The VLAN table and the forwarding database (R90) -/

/-- Bit `q` of a set held in words `w` (ports 0 to 31) and `w` + 1 (ports 32 to 39) of a VID's entry. -/
def vlanBit (s : State) (vid w q : Nat) : Bool :=
  if q < 32 then bitOf (s.get SBD_VLAN (4 * vid + w)) q else bitOf (s.get SBD_VLAN (4 * vid + w + 1)) (q - 32)

/-- The VID's entry is valid. -/
def vlanValid (s : State) (vid : Nat) : Bool := bitOf (s.get SBD_VLAN (4 * vid + 1)) 8

/-- An entry has not been seen for AGE_S seconds (R90); the core clock runs at 800 MHz. -/
def fdbAged (s : State) (e : FdbEntry) : Bool :=
  !e.static && s.get SBD_FDB_CFG_AGE_S 0 != 0 &&
    decide (s.get SBD_FDB_CFG_AGE_S 0 * 800000000 ≤ s.get CORE_COUNT 0 - e.seen)

/-- The database with its count of entries (SBD_FDB_STAT.USED). -/
def putFdb (l : List FdbEntry) (s : State) : State := { (s.put SBD_FDB_STAT_USED 0 l.length) with fdb := l }

/-- The entries that share the bucket of a MAC and VID. With fewer than 8 entries in all, no bucket is full. -/
def fdbRoom (l : List FdbEntry) (mac vid : Nat) : Bool :=
  decide (l.length < 8) || decide ((l.filter (fun e =>
    Config.fdbBucket e.mac e.vid % 4096 = Config.fdbBucket mac vid % 4096)).length < 8)

/-- An aged entry in the same bucket, that a new one may replace (R90; log entry 20). -/
def fdbVictim (s : State) (mac vid : Nat) : Option FdbEntry :=
  s.fdb.find? (fun e => fdbAged s e && Config.fdbBucket e.mac e.vid % 4096 == Config.fdbBucket mac vid % 4096)

/-- A source address is learnt (R90): an entry is renewed, added, or the learn fails. -/
def fdbLearn (mac vid q : Nat) (s : State) : State :=
  let now := s.get CORE_COUNT 0
  match s.fdb.find? (fun e => e.mac = mac && e.vid = vid) with
  | some e =>
    if e.static then s
    else putFdb (s.fdb.map (fun x => if x = e then { e with ports := 2 ^ q, seen := now } else x)) s
  | none =>
    if fdbRoom s.fdb mac vid then putFdb (s.fdb ++ [⟨mac, vid, 2 ^ q, false, now⟩]) s
    else match fdbVictim s mac vid with
      | some v => putFdb (s.fdb.filter (fun x => x ≠ v) ++ [⟨mac, vid, 2 ^ q, false, now⟩]) s
      | none => (s.sat SBD_FDB_STAT_LEARN_FAIL 0).raise 901

/-- A static entry for a set of ports is added, false where its bucket is full (14 R331). -/
def fdbAddStatic (mac vid ports : Nat) (s : State) : State × Bool :=
  let l := s.fdb.filter (fun e => !(e.mac = mac && e.vid = vid))
  let e : FdbEntry := ⟨mac, vid, ports, true, s.get CORE_COUNT 0⟩
  if fdbRoom l mac vid then (putFdb (l ++ [e]) s, true)
  else match fdbVictim s mac vid with
    | some v => (putFdb (l.filter (fun x => x ≠ v) ++ [e]) s, true)
    | none => (s, false)

/-- A static entry is removed; false where there is none. -/
def fdbRemove (mac vid : Nat) (s : State) : State × Bool :=
  if s.fdb.any (fun e => e.static && e.mac = mac && e.vid = vid) then
    (putFdb (s.fdb.filter (fun e => !(e.mac = mac && e.vid = vid))) s, true)
  else (s, false)

/-- The VID under which a frame is bridged: PVID for an untagged or priority-tagged frame (R90). -/
def bridgeVid (s : State) (q : Nat) (fr : List Byte) : Nat :=
  if outerVid fr = 0 then s.get SBD_PORT_CFG_PVID q else outerVid fr

/-- The VID's entry is valid, and with ING_FILT the ingress port is a member (R90). -/
def bridgeAdmits (s : State) (q vid : Nat) : Bool :=
  vlanValid s vid && (!s.flag SBD_PORT_CFG_ING_FILT q || vlanBit s vid 0 q)

/-- The egress ports of a bridged frame (R90): of its entry in the database, or all, those that are members of the VID
(IEEE 802.1Q, log entry 20). -/
def bridgePorts (s : State) (q vid : Nat) (fr : List Byte) : List Nat :=
  if !bridgeAdmits s q vid then []
  else match s.fdb.find? (fun e => e.mac = dstMac fr && e.vid = vid) with
    | some e => (List.range 40).filter (fun p => p ≠ q && bitOf e.ports p && vlanBit s vid 0 p)
    | none => (List.range 40).filter (fun p => p ≠ q && vlanBit s vid 0 p)

/-! ### Path sets (R91, R92) -/

/-- Member `i` of a path set. -/
def pathMember (v i : Nat) : Nat := bitsOf v (8 + 7 * i) 7

/-- The ports that a frame takes on a path set, none where no member is live (R92). -/
def pathPorts (s : State) (q set : Nat) (fr : List Byte) : List Nat :=
  let v := s.get SBD_PATH set
  let n := bitsOf v 0 3 + 1
  let h := flowHash (s.get SBD_PORT_CFG_FHASH_SEL q) fr
  let pick (l : List Nat) : Option Nat := l[h * l.length / 65536]?
  if bitOf v 3 then
    match pick ((List.range (n / 2)).filter (fun i =>
      portLive s (pathMember v (2 * i)) || portLive s (pathMember v (2 * i + 1)))) with
    | some i => [pathMember v (2 * i), pathMember v (2 * i + 1)].filter (portLive s)
    | none => []
  else
    match pick ((List.range n).filter (fun i => portLive s (pathMember v i))) with
    | some i => [pathMember v i]
    | none => []

/-- The switch ports of a multicast group (R95). -/
def groupPorts (s : State) (g : Nat) : List Nat :=
  (List.range 73).filter (fun p => bitOf (s.get SBD_GRP (4 * g + p / 32)) (p % 32))

/-! ### Stream filters, meters and redundancy (R108 to R111) -/

/-- Tokens refilled up to now: CIR and EIR are units of 100 kbit/s, which is 1/64,000 octet for each core clock cycle;
with CF the overflow of the committed bucket goes to the excess bucket (R109). -/
def meterRefill (m : Nat) (s : State) : State :=
  let dt := s.get CORE_COUNT 0 - s.get METER_AT m
  let c := s.get METER_C m
  let add := s.get SBD_METER (4 * m) % 2 ^ 24 * dt
  let spill := if bitOf (s.get SBD_METER (4 * m + 3)) 24 then add - c else 0
  let e := s.get METER_E m - (s.get SBD_METER (4 * m + 2) % 2 ^ 24 * dt + spill)
  ((s.put METER_C m (c - add)).put METER_E m e).put METER_AT m (s.get CORE_COUNT 0)

/-- Colours of the bandwidth profile. -/
inductive Colour where
  | green | yellow | red
deriving DecidableEq, Repr

/-- A frame of `n` octets metered (R109; the bandwidth profile of IEEE 802.1Qci, log entry 21). -/
def meterFrame (m n : Nat) (dei : Bool) (s : State) : Colour × State :=
  let s := meterRefill m s
  let w3 := s.get SBD_METER (4 * m + 3)
  let cost := n * 64000
  let red (t : State) : Colour × State :=
    (.red, if bitOf w3 27 then t.putBit SBD_METER (4 * m + 3) 28 true else t)
  if bitOf w3 27 && bitOf w3 28 then (.red, s)
  else if !(bitOf w3 25 && dei) && decide (s.get METER_C m + cost ≤ s.get SBD_METER (4 * m + 1) % 2 ^ 24 * 64000) then
    (.green, s.put METER_C m (s.get METER_C m + cost))
  else if s.get METER_E m + cost ≤ w3 % 2 ^ 24 * 64000 then (.yellow, s.put METER_E m (s.get METER_E m + cost))
  else red s

/-- A meter's word written: MARK_ALL_RED, bit 28 of word 3, clears by writing 0, and a 1 leaves it as it is (R109). -/
def meterWordWrite (w v : Nat) (s : State) : State :=
  if w % 4 = 3 then s.put SBD_METER w (v % 2 ^ 28 + (if bitOf v 28 && bitOf (s.get SBD_METER w) 28 then 2 ^ 28 else 0))
  else s.put SBD_METER w (v % 2 ^ 24)

/-- A filter's word counter advanced, saturating. -/
def filtCount (h w lim : Nat) (s : State) : State :=
  let v := s.get SBD_FILT (4 * h + w)
  s.put SBD_FILT (4 * h + w) (if v % (lim + 1) < lim then v + 1 else v)

/-- A stream's frame of priority `pcp` and `n` octets filtered and policed: whether it passes, whether it was oversize,
and whether it passes yellow (R108, R109). -/
def streamFilter (h pcp n : Nat) (dei : Bool) (s : State) : Bool × Bool × Bool × State :=
  let w0 := s.get SBD_FILT (4 * h)
  if !bitOf w0 pcp then (true, false, false, s)
  else
    let s := filtCount h 1 (2 ^ 32 - 1) s
    if bitOf (s.get SBD_FILT (4 * h + 3)) 31 then (false, false, false, s)
    else if bitsOf w0 8 14 ≠ 0 ∧ bitsOf w0 8 14 < n then
      let s := filtCount h 2 (2 ^ 32 - 1) s
      (false, true, false, if bitOf w0 31 then (s.putBit SBD_FILT (4 * h + 3) 31 true).raise 903 else s)
    else if bitOf w0 30 then
      let m := bitsOf w0 22 8
      let drop (t : State) := (false, false, false, filtCount h 3 (2 ^ 31 - 1) t)
      match meterFrame m n dei s with
      | (.green, t) => (true, false, false, t)
      | (.yellow, t) => if bitOf (t.get SBD_METER (4 * m + 3)) 26 then drop t else (true, false, true, t)
      | (.red, t) => drop t
    else (true, false, false, s)

/-- A filter's word written: a counter word clears, BLOCKED takes the value written (R108). -/
def filtWordWrite (h w v : Nat) (s : State) : State :=
  match w with
  | 0 => s.put SBD_FILT (4 * h) v
  | 3 => s.put SBD_FILT (4 * h + 3) (if bitOf v 31 then 2 ^ 31 else 0)
  | _ => s.put SBD_FILT (4 * h + w) 0

/-- A redundancy entry's word written: counters clear (R110). -/
def frerWordWrite (h w v : Nat) (s : State) : State :=
  s.put SBD_FRER (8 * h + w) (if w = 0 then v % 2 ^ 21 else if w = 1 then v else 0)

/-- A redundancy counter advanced by `n`, saturating: 2 passed, 3 discarded, 4 out of order, 5 lost, 6 tagless,
7 resets (R110). -/
def frerCount (h w n : Nat) (s : State) : State := s.sat SBD_FRER (8 * h + w) n

/-- The frame carries an R-TAG (R110). -/
def hasRtag (fr : List Byte) : Bool := etype fr == 0xF1C1

/-- An R-TAG inserted before the Ethertype (R110; its format and place are those of IEEE 802.1CB, log entry 21). -/
def addRtag (seq : Nat) (fr : List Byte) : List Byte :=
  fr.take (etypeAt fr) ++ beBytes 2 0xF1C1 ++ beBytes 2 0 ++ beBytes 2 seq ++ fr.drop (etypeAt fr)

/-- The R-TAG removed. -/
def dropRtag (fr : List Byte) : List Byte :=
  if hasRtag fr then fr.take (etypeAt fr) ++ fr.drop (etypeAt fr + 6) else fr

/-- HIST_LEN of a redundancy entry: 0 means 64, 1 acts as 2 (R110). -/
def histLen (w0 : Nat) : Nat :=
  match bitsOf w0 3 6 with
  | 0 => 64
  | 1 => 2
  | n => n

/-- A frame accepted by recovery: it restarts the reset time (R111). -/
def frerPass (h : Nat) (s : State) : State :=
  frerCount h 2 1 ((s.put FRER_RUN h 1).put FRER_AT h (s.get CORE_COUNT 0))

/-- A frame without a number accepted: it restarts the reset time of a function that runs; one that has been reset still takes
the next number it sees (R110, R111; log entry 148). -/
def frerTagless (h : Nat) (s : State) : State := frerCount h 2 1 (s.put FRER_AT h (s.get CORE_COUNT 0))

/-- The last accepted number set. -/
def frerSeq (h seq : Nat) (s : State) : State :=
  let v := s.get SBD_FRER (8 * h + 1)
  s.put SBD_FRER (8 * h + 1) (v % 65536 + seq % 65536 * 65536)

/-- Zero bits among the `n` highest of the low `len` bits. -/
def zerosOut (hist len n : Nat) : Nat :=
  ((List.range n).filter (fun k => decide (k < len) && !bitOf hist (len - 1 - k))).length

/-- Sequence recovery by the vector algorithm (R110, R111; IEEE 802.1CB, log entry 21): whether the frame passes. -/
def frerRecover (h : Nat) (fr : List Byte) (s : State) : Bool × State :=
  let w0 := s.get SBD_FRER (8 * h)
  if !bitOf w0 1 then (true, s)
  else if !hasRtag fr then
    let s := frerCount h 6 1 s
    if bitOf w0 2 then (true, frerTagless h s) else (false, frerCount h 3 1 s)
  else
    let seq := be16 fr (payloadAt fr + 2)
    let len := histLen w0
    if !s.flag FRER_RUN h then (true, frerPass h (frerSeq h seq (s.put FRER_HIST h 1)))
    else
      let last := bitsOf (s.get SBD_FRER (8 * h + 1)) 16 16
      let up := (seq + 65536 - last) % 65536
      let hist := s.get FRER_HIST h
      if 0 < up ∧ up < len then
        let s := if up = 1 then s else frerCount h 4 1 s
        let s := frerCount h 5 (zerosOut hist len up) s
        (true, frerPass h (frerSeq h seq (s.put FRER_HIST h (hist * 2 ^ up % 2 ^ len + 1))))
      else
        let down := (65536 - up) % 65536
        if down < len then
          if bitOf hist down then (false, frerCount h 3 1 s)
          else (true, frerPass h (frerCount h 4 1 (s.putBit FRER_HIST h down true)))
        else (false, frerCount h 3 1 s)

/-- A recovery function that has accepted no frame for RESET_MS resets (R111). -/
def recoveryReset (h : Nat) (s : State) : State :=
  let w0 := s.get SBD_FRER (8 * h)
  if bitOf w0 1 = true ∧ s.flag FRER_RUN h = true ∧ bitsOf w0 9 12 * 800000 ≤ s.get CORE_COUNT 0 - s.get FRER_AT h then
    (frerCount h 7 1 (s.put FRER_RUN h 0)).raise 904
  else s

/-! ### Louvres (R100 to R104) -/

/-- The entry index `i` of a bank of port `q`'s gate list: its two words. -/
def State.gateEntry (s : State) (q bank i : Nat) : Nat × Nat :=
  (s.get LVR_W ((q * 2 + bank) * 2048 + 2 * i), s.get LVR_W ((q * 2 + bank) * 2048 + 2 * i + 1))

/-- The active entries of port `q`, each with its start after the cycle start in 1/256 ns, cut at CT (R101). -/
def lvrSpans (s : State) (q : Nat) : List (Nat × Nat × Nat) :=
  let r := (List.range (s.get LVR_A_COUNT q)).foldl (fun (acc : Nat × List (Nat × Nat × Nat)) i =>
    let e := s.gateEntry q (s.get LVR_BANK q) i
    (acc.1 + e.2 % 2 ^ 23 * 320, acc.2 ++ [(i, acc.1, e.1)])) (0, [])
  r.2.filter (fun x => decide (x.2.1 < s.get LVR_A_CT q * 320))

/-- Word 0 of the gate entry in force, if a list is in force. -/
def gateWord (s : State) (q : Nat) : Option Nat :=
  if s.flag SBD_LVR_STAT_ACTIVE q then some (s.gateEntry q (s.get LVR_BANK q) (s.get LVR_POS q)).1 else none

/-- Gate `c` of port `q` is open. Internal ports have no Louvre (R99). -/
def gateOpen (s : State) (q c : Nat) : Bool :=
  if 40 ≤ q then true
  else match gateWord s q with
    | some w => bitOf w c
    | none => bitOf (s.get SBD_LVR_CTRL_ADMIN_GATES q) c

/-- The instants, in 1/256 ns of line time, at which coming entries of the active list take effect, with their words:
those of the present cycle after the entry in force, then those of the next cycle. -/
def comingGates (s : State) (q : Nat) : List (Nat × Nat) :=
  if s.flag SBD_LVR_CTRL_EN q && s.flag LVR_HAVE q then
    let sp := lvrSpans s q
    (if s.flag SBD_LVR_STAT_ACTIVE q then
      (sp.filter (fun x => decide (s.get LVR_POS q < x.1))).map (fun x => (s.get LVR_START q + x.2.1, x.2.2))
    else []) ++ sp.map (fun x => (s.get LVR_NEXT q + x.2.1, x.2.2))
  else []

/-- How long, in 1/256 ns, until an instant of port `q`'s Louvre domain; 0 once it has passed. -/
def untilAt (s : State) (d t : Nat) : Nat :=
  if s.reached d t then 0 else (t + 2 ^ 40 - s.now d) % 2 ^ 40

/-- How long until gate `c` next closes under the active list, none if it never does. -/
def gateCloses (s : State) (q c : Nat) : Option Nat :=
  if 40 ≤ q then none
  else match (comingGates s q).find? (fun x => !bitOf x.2 c) with
    | some x => some (untilAt s (s.get SBD_LVR_CTRL_DOM q) x.1)
    | none => none

/-- A frame of `n` octets of class `c` ends before its gate closes (R102). -/
def gateFits (s : State) (q c n : Nat) : Bool :=
  gateOpen s q c && match gateCloses s q c with
    | some t => decide (wireTime (portRate s q) n < t)
    | none => true

/-- A protected entry is in force, or starts within `w` (1/256 ns), on a Louvre that is on (05 R127, 06 R142). -/
def protectedWithin (s : State) (q w : Nat) : Bool :=
  s.flag SBD_LVR_CTRL_EN q &&
    ((match gateWord s q with
      | some g => bitOf g 10
      | none => false) ||
    (comingGates s q).any (fun x => bitOf x.2 10 && decide (untilAt s (s.get SBD_LVR_CTRL_DOM q) x.1 ≤ w)))

/-- Classes that port `q` preempts now (R104). -/
def preemptable (s : State) (q c : Nat) : Bool :=
  decide (q < 40) && s.get SBD_PORT_PREEMPT_STATUS q == 2 && s.bit SBD_PORT_PREEMPT_PREEMPTABLE q c

/-- The minimum non-final fragment of port `q` in core clock cycles (R104). -/
def fragCycles (s : State) (q : Nat) : Nat :=
  (64 * (s.get SBD_PORT_PREEMPT_ADD_FRAG q + 1) * 6400 + portRate s q - 1) / portRate s q

/-- The fragment of a preemptable frame on the wire has its minimum length: it can end now (R104). -/
def fragDone (s : State) (w : OnWire) : Bool :=
  preemptable s w.port w.cls && decide (w.since + fragCycles s w.port ≤ s.get CORE_COUNT 0)

/-- The fragments on the wires that `p` picks end, and the rest of their frames waits (R104). -/
def pauseWires (pick : OnWire → Bool) (s : State) : State :=
  { s with wires := s.wires.map (fun w =>
      if w.paused = none ∧ fragDone s w = true ∧ pick w = true then
        { w with paused := some (w.until' - s.get CORE_COUNT 0) } else w) }

/-- The fragment of a preemptable frame on port `q`'s wire ends, if it can; the rest of it waits (R104). -/
def preempt (q : Nat) (s : State) : State := pauseWires (fun w => w.port == q) s

/-- Entry `i` of the active list takes effect: a hold ends the present preemptable fragment, once it has its minimum length
(R101, R104). -/
def gateEnter (q i : Nat) (s : State) : State :=
  let s := s.put LVR_POS q i
  match bitsOf (s.gateEntry q (s.get LVR_BANK q) i).1 8 2 with
  | 1 => preempt q (s.put LVR_HOLD q 1)
  | 2 => s.put LVR_HOLD q 0
  | _ => s

/-- The first instant BASE + n × CT (1/256 ns) not yet passed in domain `d` (R101). -/
def cycleFrom (s : State) (d base ct : Nat) : Nat :=
  if !s.reachedNs d base then base * 256
  else
    let e := (s.now d + 2 ^ 40 - base * 256) % 2 ^ 40
    (base * 256 + (e + ct * 320 - 1) / (ct * 320) * (ct * 320)) % 2 ^ 40

/-- The active schedule is (re)entered at its next cycle start. -/
def lvrArm (q : Nat) (s : State) : State :=
  s.put LVR_NEXT q (cycleFrom s (s.get SBD_LVR_CTRL_DOM q) (s.get LVR_A_BASE q) (s.get LVR_A_CT q))

/-- A cycle of the active list begins at `t` (R101). -/
def lvrBegin (q t : Nat) (s : State) : State :=
  gateEnter q 0 (((s.put LVR_START q t).put LVR_NEXT q (t + s.get LVR_A_CT q * 320)).put SBD_LVR_STAT_ACTIVE q 1)

/-- The Louvre shadow's state set. -/
def setLvr (q st : Nat) (s : State) : State :=
  (s.put SBD_LVR_STAT_STATE q st).put SBD_LVR_CTRL_DONE q (if st = 0 then 0 else 1)

/-- The cycle start at which a pending commit is judged next, from the shadow's BASE and CT (R103). -/
def lvrAim (q : Nat) (s : State) : State :=
  s.put LVR_AT q (cycleFrom s (s.get SBD_LVR_CTRL_DOM q) (s.get SBD_LVR_BASE_BASE q) (s.get SBD_LVR_CT_CT q))

/-- A pending Louvre commit ends without a swap (R103). -/
def lvrAbandon (q : Nat) (s : State) : State :=
  (s.put SBD_LVR_STAT_PEND q 0).settle (.louvre q) 0x0207 (128 + q) []

/-- The copies swap at a cycle start (R103). -/
def lvrSwap (q : Nat) (s : State) : State :=
  let t := s.get LVR_AT q
  let (c, ct, b) := (s.get LVR_A_COUNT q, s.get LVR_A_CT q, s.get LVR_A_BASE q)
  let s := ((s.put LVR_A_COUNT q (s.get SBD_LVR_CTRL_COUNT q)).put LVR_A_CT q (s.get SBD_LVR_CT_CT q)).put LVR_A_BASE q
    (s.get SBD_LVR_BASE_BASE q)
  let s := ((s.put SBD_LVR_CTRL_COUNT q c).put SBD_LVR_CT_CT q ct).put SBD_LVR_BASE_BASE q b
  let s := ((s.put LVR_BANK q (1 - s.get LVR_BANK q)).put SBD_LVR_STAT_PEND q 0).put LVR_HAVE q 1
  let s := ((setLvr q 0 s).settle (.louvre q) 0 0 []).raise (1024 + 8 * q)
  if s.flag SBD_LVR_CTRL_EN q then lvrBegin q t s else s

/-- A schedule cycle begins: a pending commit is judged at the cycle start of the shadow's schedule, and the active list
starts over at its own (R101, R103). -/
def louvreCycleStart (q : Nat) (s : State) : State :=
  let d := s.get SBD_LVR_CTRL_DOM q
  let due := s.flag SBD_LVR_STAT_PEND q && s.reached d (s.get LVR_AT q)
  if due && s.get SBD_LVR_STAT_STATE q == 2 then lvrSwap q s
  else
    let s := if !due then s
      else if s.get SBD_LVR_STAT_STATE q = 3 then lvrAbandon q s
      else ((s.sat SBD_LVR_STAT_DEFER q).put LVR_AT q (s.get LVR_AT q + s.get SBD_LVR_CT_CT q * 320)).raise (1025 + 8 * q)
    if s.flag SBD_LVR_CTRL_EN q && s.flag LVR_HAVE q && s.reached d (s.get LVR_NEXT q) then lvrBegin q (s.get LVR_NEXT q) s
    else s

/-- The next entry of the active list takes effect at its compare (R101). -/
def gateEntry (q : Nat) (s : State) : State :=
  if s.flag SBD_LVR_STAT_ACTIVE q then
    match (lvrSpans s q).find? (fun x => x.1 = s.get LVR_POS q + 1) with
    | some x => if s.reached (s.get SBD_LVR_CTRL_DOM q) (s.get LVR_START q + x.2.1) then gateEnter q x.1 s else s
    | none => s
  else s

/-- The verification of a Louvre shadow: 0 good, 1 CRC, 2 range; a COUNT out of range forms no CRC (R103). -/
def lvrVerify (s : State) (q : Nat) : Nat :=
  let b := 1 - s.get LVR_BANK q
  let n := s.get SBD_LVR_CTRL_COUNT q
  let ct := s.get SBD_LVR_CT_CT q
  if n = 0 ∨ 1024 < n then 2
  else if crc32c ((List.range (2 * n)).flatMap (fun w => toBytes 4 (s.get LVR_W ((q * 2 + b) * 2048 + w)))) ≠
      s.get SBD_LVR_CRC_CRC q then 1
  else if ct < 800 ∨ 6400000 < ct then 2
  else if (List.range n).any (fun i =>
      let e := s.gateEntry q b i
      bitsOf e.1 8 2 == 3 || decide (e.2 % 2 ^ 23 < 8)) then 2
  else 0

/-- DONE, COPY, REOPEN, GO and CANCEL of a Louvre (R103). -/
def lvrDone (q : Nat) (s : State) : State :=
  if s.get SBD_LVR_STAT_STATE q = 0 then (setLvr q 1 s).bgAsk (.louvre q) else s

def lvrCopy (q : Nat) (s : State) : State :=
  if s.get SBD_LVR_STAT_STATE q = 0 then
    let b := s.get LVR_BANK q
    let s := s.copyRange LVR_W ((q * 2 + (1 - b)) * 2048) ((q * 2 + b) * 2048) 2048
    let s := ((s.put SBD_LVR_CTRL_COUNT q (s.get LVR_A_COUNT q)).put SBD_LVR_CT_CT q (s.get LVR_A_CT q)).put SBD_LVR_BASE_BASE q
      (s.get LVR_A_BASE q)
    if s.flag SBD_LVR_STAT_PEND q then lvrAim q s else s
  else s

def lvrReopen (q : Nat) (s : State) : State :=
  if s.get SBD_LVR_STAT_STATE q = 0 ∨ s.flag SBD_LVR_STAT_PEND q = true then s else (setLvr q 0 s).bgDrop (.louvre q)

def lvrGo (q : Nat) (s : State) : State :=
  if s.flag SBD_LVR_STAT_PEND q then s else lvrAim q (s.put SBD_LVR_STAT_PEND q 1)

def lvrCancel (q : Nat) (s : State) : State := if s.flag SBD_LVR_STAT_PEND q then lvrAbandon q s else s

/-- A write of the list's EN: the active schedule is entered at its next cycle start, or the gates fall back to
ADMIN_GATES (R101). -/
def lvrEn (q : Nat) (on : Bool) (s : State) : State :=
  if on then (if s.flag SBD_LVR_CTRL_EN q then s else lvrArm q (s.put SBD_LVR_CTRL_EN q 1))
  else ((s.put SBD_LVR_CTRL_EN q 0).put SBD_LVR_STAT_ACTIVE q 0).put LVR_HOLD q 0

/-- A write of SBD_LVR_CTRL (R103): COUNT in OPEN only, DOM, ADMIN_GATES, EN, then CANCEL, REOPEN, COPY, DONE, and GO last, which the
rule orders only behind CANCEL (DESIGN CHOICE, log entry 188). A new DOM, and a step of the domain, leave the armed cycle starts as
they are (DESIGN CHOICE, log entry 147). -/
def lvrCtrlWrite (q v : Nat) (s : State) : State :=
  let s := if s.get SBD_LVR_STAT_STATE q = 0 then s.put SBD_LVR_CTRL_COUNT q v else s
  let s := if s.flag SBD_CTRL_LOCK 0 then s else s.put SBD_LVR_CTRL_DOM q (bitsOf v 12 4)
  let s := lvrEn q (bitOf v 11) (s.put SBD_LVR_CTRL_ADMIN_GATES q (bitsOf v 21 8))
  let s := if bitOf v 20 then lvrCancel q s else s
  let s := if bitOf v 18 then lvrReopen q s else s
  let s := if bitOf v 17 then lvrCopy q s else s
  let s := if bitOf v 16 then lvrDone q s else s
  if bitOf v 19 then lvrGo q s else s

/-- Writes of the shadowed CT, BASE and of the expected CRC: ignored outside OPEN (R103). -/
def lvrShadowWrite (F : Fld) (q v : Nat) (s : State) : State :=
  if s.get SBD_LVR_STAT_STATE q = 0 then
    let s := s.put F q v
    if s.flag SBD_LVR_STAT_PEND q then lvrAim q s else s
  else s

/-- A write of a shadow list word: its fields (R100) taken in OPEN, else ignored and counted (R103, R71). -/
def lvrWordWrite (q w v : Nat) (s : State) : State :=
  if s.get SBD_LVR_STAT_STATE q = 0 then
    s.put LVR_W ((q * 2 + (1 - s.get LVR_BANK q)) * 2048 + w) (v &&& if w % 2 = 0 then 0x7FF else 0x7F_FFFF)
  else s.sat SBD_LVR_STAT_WR_LOCKED q

/-- A granted Louvre verification ends (R103). -/
def lvrVerificationEnd (q : Nat) (s : State) : State :=
  if s.bgGranted (.louvre q) then
    let s := s.bgEnd (.louvre q)
    if s.get SBD_LVR_STAT_STATE q = 1 then
      let why := lvrVerify s q
      let s := s.put SBD_LVR_STAT_FAIL_WHY q why
      if why = 0 then setLvr q 2 s else (setLvr q 3 s).raise (1026 + 8 * q)
    else s
  else s

/-- MAC merge verification starts with a link of at least 100 Mbit/s (R104). -/
def preemptLinkUp (q : Nat) (s : State) : State :=
  if portRate s q < 100 then s.put SBD_PORT_PREEMPT_STATUS q 0
  else s.put SBD_PORT_PREEMPT_STATUS q (if s.flag SBD_PORT_PREEMPT_VERIFY_DIS q then 2 else 1)

/-- Verification ends (R104). -/
def preemptVerifyEnd (q : Nat) (ok : Bool) (s : State) : State :=
  if s.get SBD_PORT_PREEMPT_STATUS q = 1 then
    if ok then s.put SBD_PORT_PREEMPT_STATUS q 2 else (s.put SBD_PORT_PREEMPT_STATUS q 3).raise (1030 + 8 * q)
  else s

/-! ### Classes, admission and queues (R93 to R96) -/

/-- The class of a frame from ingress port `q` (R93). -/
def frameClass (s : State) (q : Nat) (a : Action) (fr : List Byte) : Nat :=
  match a.tc with
  | some c => c
  | none =>
    let pcp := if tagCount fr = 0 then s.get SBD_PORT_PCPMAP_DEF_PCP q else outerPcp fr
    bitsOf (s.get SBD_PORT_PCPMAP_TC q) (3 * pcp) 3

/-- The length of a class queue in cells. -/
def queueCells (s : State) (p c : Nat) : Nat :=
  (s.queues.filter (fun x => x.port = p && x.cls = c)).foldl (fun n x =>
    n + match s.frame x.frame with
      | some f => f.cells
      | none => 0) 0

/-- The frame is admitted to queue (p, c) (R94): `m` cells against `free` of the pool. -/
def admits (s : State) (free m p c : Nat) : Bool :=
  let k := queueCells s p c
  let i := p * 8 + c
  (decide (k + m ≤ s.get SBD_QCLASS_MIN i) && decide (m ≤ free)) ||
    (decide ((k + m) * 16 ≤ 2 ^ s.get SBD_QCLASS_ALPHA i * free) && decide (m ≤ free) &&
      decide (s.get SBD_QCFG_HEADROOM 0 ≤ free - m))

/-- The wire of port `q` is taken by a frame that is not paused. -/
def wireBusy (s : State) (q : Nat) : Bool := s.wires.any (fun w => w.port = q && w.paused = none)

/-- A copy goes on the wire of port `q`: `n` octets at the port's rate. -/
def takeWire (q c id n : Nat) (s : State) : State :=
  { s with wires := s.wires ++
      [⟨q, c, id, s.get CORE_COUNT 0 + wireCycles (portRate s q) n, none, s.get CORE_COUNT 0⟩] }

/-- The copies whose last octet has left release their frames (R95), and under a hold the fragments that have their minimum
length end (R104). -/
def releaseWires (s : State) : State :=
  let now := s.get CORE_COUNT 0
  let done := s.wires.filter (fun w => w.paused = none && decide (w.until' ≤ now))
  let s := { s with wires := s.wires.filter (fun w => !(w.paused = none && decide (w.until' ≤ now))) }
  overList (fun (w : OnWire) (t : State) => dropRef w.frame 0 t) done (pauseWires (fun w => s.flag LVR_HOLD w.port) s)

/-- A frame is stored for the copies admitted and queued for them; each refusal counts (R94, R95). Which cells it takes is the switch's,
and the model writes none of them (DESIGN CHOICE, log entry 187). `mcells` is M. A
frame that every queue refused is discarded, and a descriptor it came from completes with ADMIT_DROP. -/
def storeFrame (targets : List (Nat × Nat)) (mcells : Nat) (f : Frame) (s : State) : State :=
  let free := s.get SBD_POOL_FREE 0
  let ok := targets.filter (fun t => admits s free mcells t.1 t.2)
  let no := targets.filter (fun t => !admits s free mcells t.1 t.2)
  let s := overList (fun (t : Nat × Nat) (u : State) =>
    u.count1 SBD_QCNT_ADMIT_DROP (t.1 * 8 + t.2) (1027 + 8 * t.1)) no s
  let status := if f.status = 0 ∧ no ≠ [] then 7 else f.status
  if ok = [] then
    match f.origin with
    | some o => completeTx o status none s
    | none => s
  else
    let id := s.get FRAME_NEXT 0
    let s := poolGive (mcells - f.cells) (poolTake (max mcells f.cells) (s.put FRAME_NEXT 0 (id + 1)))
    { s with
      frames := s.frames ++ [{ f with id := id, refs := ok.length, status := status }]
      queues := s.queues ++ ok.map (fun t => ⟨t.1, t.2, id⟩) }

/-- Copies bound for a port that drops them as for a down link are discarded (R105, 05 R131, 06 R144, 18 R420); the first
count after a read raises SBD_LINK_DROP. -/
def linkFilter (mka : Bool) (targets : List (Nat × Nat)) (s : State) : List (Nat × Nat) × State :=
  (targets.filter (fun t => !portClosed s mka t.1), overList (fun (t : Nat × Nat) (u : State) =>
    u.count1 SBD_PCNT_LINK_DROP t.1 (1031 + 8 * t.1)) (targets.filter (fun t => portClosed s mka t.1)) s)

/-- The queued copies of a port whose frames `pick` names are discarded as for a down link (R105). -/
def dropWhere (p : Nat) (pick : Frame → Bool) (s : State) : State :=
  let goes (x : QCopy) : Bool := x.port = p && ((s.frame x.frame).map pick).getD true
  overList (fun (x : QCopy) (t : State) =>
    dropRef x.frame 3 (t.count1 SBD_PCNT_LINK_DROP p (1031 + 8 * p))) (s.queues.filter goes)
      { s with queues := s.queues.filter (fun x => !goes x) }

/-- The queued copies of a port whose link went down are discarded (R105). -/
def dropPort (p : Nat) (s : State) : State := dropWhere p (fun _ => true) s

/-- A trunk port of a unit that does not own sends the frame: of the time-transfer engine, or an MKA frame (18 R420). -/
def standbySends (f : Frame) : Bool := f.inPort == 73 || etype f.bytes == 0x888E

/-! ### Mirroring (R106, R107) -/

/-- The mirror header (R107). -/
def mirrorHead (sess dir port tc ts seq len : Nat) (flow : Option Nat) : List Byte :=
  let w0 := len % 2 ^ 14 + (if 128 < len then 2 ^ 14 else 0) + dir * 2 ^ 15 + port * 2 ^ 16 + tc * 2 ^ 23 + sess * 2 ^ 26
  let w3 := match flow with
    | some e => e + 2 ^ 13
    | none => 0
  toBytes 4 w0 ++ toBytes 4 (ts / 256) ++ toBytes 4 (ts % 256 + seq * 65536) ++ toBytes 4 w3

/-- One session offered a frame: dir 0 ingress, 1 egress; `fr` without FCS; `ts` in the port's DEF_DOM (R106). -/
def mirrorOne (dir port tc ts : Nat) (flow : Option Nat) (src : Bool) (fr : List Byte) (sess : Nat) (s : State) : State :=
  if s.flag SBD_MIR_CFG_EN sess && s.get SBD_MIR_CFG_DIR sess == dir &&
      ((decide (port < 40) && s.bit SBD_MIR_SRC_PORTS sess port) || (s.flag SBD_MIR_SRC_FLOW sess && src)) then
    if s.get MIR_SKIP sess < s.get SBD_MIR_CFG_NM1 sess then s.put MIR_SKIP sess (s.get MIR_SKIP sess + 1)
    else
      let n := s.get MIR_SEQ sess
      let d := s.get SBD_MIR_CFG_DEST sess
      let dest := if 40 ≤ d ∧ d ≤ 72 then d else 72
      let info : FrameMeta :=
        ⟨ts, s.get TMB_PCFG_DEF_DOM port, outerVid fr, outerPcp fr, tagCount fr, flow, false, false, false, false, false, true, none⟩
      let f : Frame :=
        ⟨0, mirrorHead sess dir port tc ts n fr.length flow ++ fr.take 128, 1, 0, port, s.get CORE_COUNT 0, info, none, 0,
          none, none, false, 0⟩
      storeFrame [(dest, s.get SBD_MIR_CFG_TC sess)] 1 f ((s.put MIR_SKIP sess 0).put MIR_SEQ sess (n + 1))
  else s

/-- Every session offered a frame, in ascending order. -/
def mirror (dir port tc ts : Nat) (flow : Option Nat) (src : Bool) (fr : List Byte) (s : State) : State :=
  overList (fun k t => mirrorOne dir port tc ts flow src fr k t) [0, 1, 2, 3] s

/-! ### The commands' meanings -/

/-- SBD_EN_SET (R82, R83). -/
def execSbdEnSet (q : Requester) (s : State) : Result := .next (s.gate q 0x4050_0000 switchOn)

/-- FDB_AGE_OUT (R90). -/
def execFdbAgeOut (mac : BitVec 48) (vid : BitVec 12) (s : State) : Result :=
  .next (match s.fdb.find? (fun e => e.mac = mac.toNat && e.vid = vid.toNat) with
    | some e => if fdbAged s e then putFdb (s.fdb.filter (fun x => x ≠ e)) s else s
    | none => s)

/-- FLOW_DONE (R88). -/
def execFlowDone (q : Requester) (s : State) : Result := .next (s.gate q 0x4050_0200 flowDone)

/-- FLOW_COPY (R88). -/
def execFlowCopy (q : Requester) (s : State) : Result := .next (s.gate q 0x4050_0200 flowCopy)

/-- FLOW_REOPEN (R88). -/
def execFlowReopen (q : Requester) (s : State) : Result := .next (s.gate q 0x4050_0200 flowReopen)

/-- FLOW_GO (R88). -/
def execFlowGo (q : Requester) (s : State) : Result := .next (s.gate q 0x4050_020C flowGo)

/-- FLOW_CANCEL (R88). -/
def execFlowCancel (q : Requester) (s : State) : Result := .next (s.gate q 0x4050_020C flowCancel)

/-- FLOW_VERIFICATION_END (R88). -/
def execFlowVerificationEnd (s : State) : Result := .next (flowVerificationEnd s)

/-- LOUVRE_CYCLE_START (R101, R103). -/
def execLouvreCycleStart (p : Fin 40) (s : State) : Result := .next (louvreCycleStart p s)

/-- GATE_ENTRY (R101, R104). -/
def execGateEntry (p : Fin 40) (s : State) : Result := .next (gateEntry p s)

/-- LVR_DONE (R103). -/
def execLvrDone (q : Requester) (p : Fin 40) (s : State) : Result := .next (s.gate q (sbdPortAddr 0x10 p) (lvrDone p))

/-- LVR_COPY (R103). -/
def execLvrCopy (q : Requester) (p : Fin 40) (s : State) : Result := .next (s.gate q (sbdPortAddr 0x10 p) (lvrCopy p))

/-- LVR_REOPEN (R103). -/
def execLvrReopen (q : Requester) (p : Fin 40) (s : State) : Result := .next (s.gate q (sbdPortAddr 0x10 p) (lvrReopen p))

/-- LVR_GO (R103). -/
def execLvrGo (q : Requester) (p : Fin 40) (s : State) : Result := .next (s.gate q (sbdPortAddr 0x10 p) (lvrGo p))

/-- LVR_CANCEL (R103). -/
def execLvrCancel (q : Requester) (p : Fin 40) (s : State) : Result := .next (s.gate q (sbdPortAddr 0x10 p) (lvrCancel p))

/-- LVR_VERIFICATION_END (R103). -/
def execLvrVerificationEnd (p : Fin 40) (s : State) : Result := .next (lvrVerificationEnd p s)

/-- PREEMPT_VERIFY_END (R104). -/
def execPreemptVerifyEnd (p : Fin 40) (ok : Bool) (s : State) : Result := .next (preemptVerifyEnd p ok s)

/-- RECOVERY_RESET (R111). -/
def execRecoveryReset (h : Fin 1024) (s : State) : Result := .next (recoveryReset h s)

end Sys2Proof.Machine
end

