-- ==== Sys2Proof/Machine/Egress.lean ====
section
/-! DEFINITION. How a frame leaves on a MAC port: header and checksum fix-ups (05 R119, R120), PTP one-step and
residence fields (02 R49), the fixed timestamp corrections (02 R42), the egress instants of timed frames (05 R124, R125,
06 R145), ageing and the choice of the next frame (04 R99 to R105), and how a received frame is switched (04 R85). -/

namespace Sys2Proof.Machine

/-! ### Internal cells -/

/-- Cyclic-list words: copy (p × 512 + bank × 256 + 4 × entry + word) (05 R122). -/
def MAC_CYC : Fld := ⟨1210, 0, 32, .int, 0, .keep, .none⟩
/-- The cyclic list is on (from a boundary on); the entries of the bank in force that passed the flip's check; the
entries whose frame of this cycle has been handled (05 R122, R124). -/
def MAC_CYC_ON : Fld := ⟨1211, 0, 1, .int, 0, .reset, .none⟩
/-- HALT_PORTS of a Course that halted holds the port's cyclic list off, until EN is written as 1 again (07 R161; log entry 161). -/
def MAC_CYC_HALT : Fld := ⟨1529, 0, 1, .int, 0, .reset, .none⟩
def MAC_CYC_OK : Fld := ⟨1212, 0, 64, .int, 0, .keep, .none⟩
def MAC_CYC_DONE : Fld := ⟨1213, 0, 64, .int, 0, .reset, .none⟩
/-- Frames of a TX slice entry handled in this cycle, sent or dropped; those of them read (06 R145, R146). -/
def SLICE_SENT : Fld := ⟨1214, 0, 5, .int, 0, .reset, .none⟩
def SLICE_GOT : Fld := ⟨1215, 0, 5, .int, 0, .reset, .none⟩
/-- A transmit SA (4 × trunk port + AN) has raised its PN event (06 R152). -/
def PN_SEEN : Fld := ⟨1216, 0, 1, .int, 0, .reset, .none⟩

/-- Topology scan: map words (copy p × 1,024 + 4 × entry + word), hop of the probe out, its corrected egress timestamp
(1/256 ns), and the core clock count at which it times out (05 R133). -/
def SCAN_MAP : Fld := ⟨1225, 0, 32, .int, 0, .reset, .none⟩
def SCAN_HOP : Fld := ⟨1226, 0, 9, .int, 0, .reset, .none⟩
def SCAN_TS : Fld := ⟨1227, 0, 40, .int, 0, .reset, .none⟩
def SCAN_END : Fld := ⟨1228, 0, 64, .int, 0, .reset, .none⟩

/-- Time transfer, by channel × 16 + domain: egress instants of the last request and of the one before it, and of the
last response, in 1/256 ns; by channel: whether a response was sent and its sequence number (06 R153 to R155). -/
def TT_T1 : Fld := ⟨1217, 0, 40, .int, 0, .reset, .none⟩
def TT_T1_OLD : Fld := ⟨1218, 0, 40, .int, 0, .reset, .none⟩
def TT_T3 : Fld := ⟨1219, 0, 40, .int, 0, .reset, .none⟩
def TT_T3_ON : Fld := ⟨1230, 0, 1, .int, 0, .reset, .none⟩
def TT_T3_SEQ : Fld := ⟨1231, 0, 16, .int, 0, .reset, .none⟩

/-! ### Octet edits and checksums (05 R119, R120) -/

/-- A frame with octets from `k` replaced. -/
def putOctets (fr : List Byte) (k : Nat) (bs : List Byte) : List Byte :=
  if k + bs.length ≤ fr.length then fr.take k ++ bs ++ fr.drop (k + bs.length) else fr

/-- The IP header at `l3` is IPv4, IPv6. -/
def ipVersion (fr : List Byte) (l3 : Nat) : Nat := octet fr l3 / 16

/-- The IPv4 header checksum inserted at `l3`. -/
def putL3Csum (l3 : Nat) (fr : List Byte) : List Byte :=
  if ipVersion fr l3 = 4 then
    let z := putOctets fr (l3 + 10) [0, 0]
    putOctets z (l3 + 10) (beBytes 2 (65535 - fold16 (sumOctets z l3 (octet fr l3 % 16 * 4))))
  else fr

/-- The transport protocol of the IP header at `l3`. -/
def protoAt (fr : List Byte) (l3 : Nat) : Nat :=
  if ipVersion fr l3 = 4 then octet fr (l3 + 9) else octet fr (l3 + 6)

/-- Octets of the transport segment at `l4`. -/
def segmentLen (fr : List Byte) (l3 l4 : Nat) : Nat :=
  if ipVersion fr l3 = 4 then be16 fr (l3 + 2) - (l4 - l3) else be16 fr (l3 + 4) - (l4 - l3 - 40)

/-- The TCP or UDP checksum inserted at `l4`; a computed UDP checksum of zero is sent as all ones. -/
def putL4Csum (l3 l4 : Nat) (fr : List Byte) : List Byte :=
  let pr := protoAt fr l3
  let k := if pr = 6 then l4 + 16 else l4 + 6
  if pr = 6 ∨ pr = 17 then
    let z := putOctets fr k [0, 0]
    let n := segmentLen fr l3 l4
    let pseudo := (if ipVersion fr l3 = 4 then sumOctets fr (l3 + 12) 8 else sumOctets fr (l3 + 8) 32) + pr + n
    let c := 65535 - fold16 (sumOctets z l4 n + pseudo)
    putOctets z k (beBytes 2 (if c = 0 ∧ pr = 17 then 65535 else c))
  else fr

/-- Segment `i` of a large send, without FCS (05 R120). -/
def lsoSegment (w2 w3 i : Nat) (buf : List Byte) : List Byte :=
  let l3 := bitsOf w2 8 8
  let l4 := bitsOf w2 16 8
  let hdr := bitsOf w2 24 8
  let mss := bitsOf w3 0 14
  let data := ((buf.drop hdr).drop (i * mss)).take mss
  let last := decide (buf.length ≤ hdr + (i + 1) * mss)
  let fr := buf.take hdr ++ data
  let fr := if ipVersion fr l3 = 4 then
      putOctets (putOctets fr (l3 + 2) (beBytes 2 (hdr - l3 + data.length))) (l3 + 4) (beBytes 2 (be16 fr (l3 + 4) + i))
    else putOctets fr (l3 + 4) (beBytes 2 (hdr - l3 - 40 + data.length))
  let fr := if protoAt fr l3 = 6 then
      let fl := octet fr (l4 + 13)
      let fl := if last then fl else fl - fl % 2 - fl / 8 % 2 * 8
      let fl := if i = 0 then fl else fl % 128
      putOctets (putOctets fr (l4 + 4) (beBytes 4 (beNum fr (l4 + 4) 4 + i * mss))) (l4 + 13) [BitVec.ofNat 8 fl]
    else putOctets fr (l4 + 4) (beBytes 2 (hdr - l4 + data.length))
  putL4Csum l3 l4 (putL3Csum l3 fr)

/-- The number of segments of a large send. -/
def lsoCount (w2 w3 n : Nat) : Nat := max 1 ((n - bitsOf w2 24 8 + bitsOf w3 0 14 - 1) / bitsOf w3 0 14)

/-! ### PTP messages (02 R40, R48, R49) -/

/-- Where the PTP header of an event message stands: Ethertype 0x88F7, or UDP to port 319 over IPv4 or IPv6. -/
def ptpAt (fr : List Byte) : Option Nat :=
  let at' := if etype fr = 0x88F7 then some (payloadAt fr)
    else if hasL4 fr = true ∧ ipProto fr = 17 ∧ be16 fr (l4At fr + 2) = 319 then some (l4At fr + 8)
    else none
  match at' with
  | some k => if octet fr k % 16 ≤ 3 then some k else none
  | none => none

/-- majorSdoId and domainNumber of a PTP event message. -/
def ptpKey (fr : List Byte) : Option (Nat × Nat) := (ptpAt fr).map (fun k => (octet fr k / 16, octet fr (k + 4)))

/-- The UDP checksum fixed up where the message travels in UDP; an IPv4 checksum of zero stays (02 R49). -/
def fixUdp (fr : List Byte) : List Byte :=
  if etype fr = 0x88F7 ∨ (isIPv4 fr = true ∧ be16 fr (l4At fr + 6) = 0) then fr
  else putL4Csum (payloadAt fr) (l4At fr) fr

/-- An amount of 1/256 ns added to the correctionField (units of 2^-16 ns). -/
def addCorrection (k : Nat) (z : Int) (fr : List Byte) : List Byte :=
  putOctets fr (k + 8) (beBytes 8 (((beNum fr (k + 8) 8 : Int) + z * 256) % 2 ^ 64).toNat)

/-- The frame is a one-step Sync or Pdelay_Resp: message type 0 or 3 with the two-step flag clear. -/
def oneStep (fr : List Byte) : Option Nat :=
  match ptpAt fr with
  | some k => if (octet fr k % 16 = 0 ∨ octet fr k % 16 = 3) ∧ octet fr (k + 6) / 2 % 2 = 0 then some k else none
  | none => none

/-- A one-step message formed from its egress timestamp `t` (1/256 ns) in domain `d` (02 R49). -/
def oneStepInsert (s : State) (d t k : Nat) (fr : List Byte) : List Byte :=
  let x := oneStepTime s d (t / 256)
  fixUdp (addCorrection k (t % 256 : Nat) (putOctets (putOctets fr (k + 34) (beBytes 6 x.1)) (k + 40) (beBytes 4 x.2)))

/-! ### Fixed corrections (02 R42), in 1/256 ns -/

/-- A lane of the pair link (18 R415): its row of R42 is "10GBASE-KR, no FEC". -/
def pairPort (s : State) (p : Nat) : Bool := s.flag RDN_CFG_EN 0 && (p == 30 || p == 31)

def txFixed (s : State) (p : Nat) : Nat :=
  if pairPort s p then 6944
  else if p < 32 then
    match s.get MAC_CFG_MODE p with
    | 0 => match s.get MAC_STAT_SPEED p with
      | 0 => 208000
      | 1 => 21504
      | _ => 17984
    | 1 | 3 => 10656
    | 2 => 4928
    | 4 => 7360
    | 5 => 6944
    | _ => 7776
  else if s.flag TRK_GRP_CFG_SPLIT ((p - 32) / 4) then 9408
  else match s.get TRK_LANE_STAT_RATE (p - 32) with
    | 0 => 11264
    | 1 => 13504
    | _ => 9824

def rxFixed (s : State) (p : Nat) : Nat :=
  if pairPort s p then 11424
  else if p < 32 then
    match s.get MAC_CFG_MODE p with
    | 0 => match s.get MAC_STAT_SPEED p with
      | 0 => 352000
      | 1 => 50176
      | _ => 58048
    | 1 | 3 => 16992
    | 2 => 8000
    | 4 => 12096
    | 5 => 11424
    | _ => 63840
  else if s.flag TRK_GRP_CFG_SPLIT ((p - 32) / 4) then 30304
  else match s.get TRK_LANE_STAT_RATE (p - 32) with
    | 0 => 58976
    | 1 => 48128
    | _ => 31136

/-- The egress timestamp of a frame that starts on port `p` now, with its domain (02 R40, R41). -/
def egressStamp (s : State) (p d ph : Nat) : Nat := stampTx s p (txFixed s p) (rawStamp s d ph)

/-- The ingress timestamp of a frame whose first octet crossed `age` core clock cycles ago (02 R40, R41). -/
def ingressStamp (s : State) (p d age ph : Nat) : Nat :=
  (((rawOf (s.domAgo d age) ph : Int) + s.corrAgo p (rxFixed s p) age) % 2 ^ 40).toNat

/-- The ports' corrections as they stand now (02 R41). -/
def corrsNote (s : State) : State := overRange (fun p t => corrNote p (corrRx t p (rxFixed t p)) t) 40 s

/-- The timestamp domain of a frame on a port (02 R40). -/
def frameDomain (s : State) (p : Nat) (fr : List Byte) : Nat := stampDomain s p (ptpKey fr)

/-- What a frame (FCS included) whose first octet crossed on port `q` `age` core clock cycles ago is stamped with (02 R40, R41,
04 R107). -/
def stampsAt (s : State) (q : Nat) (fr : List Byte) (age ph : Nat) : Stamps :=
  let d := frameDomain s q (fr.take (fr.length - 4))
  ⟨ingressStamp s q d age ph, d, ingressStamp s q (s.get TMB_PCFG_DEF_DOM q) age ph⟩

/-! ### Egress instants of timed frames (05 R122, R124, R125, 06 R145) -/

/-- The words of a cyclic-list entry of a bank, and of the bank in force. -/
def cycWordIn (s : State) (p bank e w : Nat) : Nat := s.get MAC_CYC (p * 512 + bank * 256 + 4 * e + w)
def cycWord (s : State) (p e w : Nat) : Nat := cycWordIn s p (s.get MAC_STAT_CYC_BANK p) e w

/-- The cyclic entries of a port that send in this cycle. -/
def cycEntries (s : State) (p : Nat) : List Nat :=
  if s.flag MAC_CYC_ON p then (List.range 64).filter (fun e => s.bit MAC_CYC_OK p e) else []

/-- The entries of a bank that pass the check of a flip (R122) for a period: valid, OFFSET below PERIOD, LEN in range, the
template wholly in reserved windows; the bits of those, and whether some in use do not. -/
def cycCheck (s : State) (p bank period : Nat) : Nat × Bool :=
  let w (e k : Nat) : Nat := cycWordIn s p bank e k
  let used := (List.range 64).filter (fun e => bitOf (w e 0) 0)
  let good := used.filter (fun e =>
    let n := w e 2 % 2 ^ 14
    decide (w e 1 % 2 ^ 23 < period) && decide (60 ≤ n) && decide (n + 4 ≤ portMaxLen s p) &&
      decide (w e 3 % 2 ^ 26 + n ≤ 0x400_0000) && s.areaReserved (w e 3 % 2 ^ 26) n)
  (good.foldl (fun a e => a + 2 ^ e) 0, good.length != used.length)

/-- The table commits at the next boundary, as things stand (03 R73 rule 1). -/
def commitsNext (s : State) (t : Nat) : Bool := commitReady s && s.bit TAB_GROUP 0 t

/-- The period from the next boundary on (03 R54). -/
def nextPeriod (s : State) : Nat :=
  if s.flag LIM_STAT_CHG_PEND 0 && s.get LIM_CYC_CHG_AT 0 == (s.get LIM_CYC_NUM_NUM 0 + 1) % 2 ^ 32 then
    s.get LIM_CYC_CHG_NEW_PERIOD 0
  else s.get LIM_CYC_PERIOD_PERIOD 0

/-- The bank in force and the entries that send in the next cycle, as things stand: a pending flip and a pending change of EN
take effect at the boundary (R122). -/
def nextCyc (s : State) (p : Nat) : Nat × List Nat :=
  let b := s.get MAC_CYC_CTRL_BANK_NEXT p
  let flips := b != s.get MAC_STAT_CYC_BANK p && (!s.flag MAC_CYC_CTRL_FOLLOW_COMMIT p || commitsNext s p)
  let bank := if flips then b else s.get MAC_STAT_CYC_BANK p
  let ok := if flips then (cycCheck s p b (nextPeriod s)).1 else s.get MAC_CYC_OK p
  (bank, if s.flag MAC_CYC_CTRL_EN p && !s.flag MAC_CYC_HALT p then (List.range 64).filter (fun e => bitOf ok e) else [])

/-- E of a cyclic entry after a boundary at `t` (05 R122). -/
def cycE (s : State) (p e t : Nat) : Nat := t + cycWord s p e 1 % 2 ^ 23 * 320

/-- The word of a slice entry in a copy of table 32, and in the active one. -/
def sliceWordIn (s : State) (bank e w : Nat) : Nat := s.tabWord 32 bank (4 * e + w)
def sliceWord (s : State) (e w : Nat) : Nat := sliceWordIn s (s.active 32) e w

/-- Octets of a slice frame of `n` slots, without FCS: 18 of header and tag, 32 of slice header, data and status. -/
def sliceLen (n : Nat) : Nat := 50 + 32 * n + (n + 3) / 4 * 4

/-- Slots of frame `k` of a slice of `n` slots (03 R76). -/
def sliceSlots (n k : Nat) : Nat := min 480 (n - 480 * k)

/-- With MACsec on, a frame grows by the SecTAG and the ICV (06 R147). -/
def msecGrow (s : State) (p : Nat) : Nat := if 32 ≤ p ∧ s.flag TRK_MSEC_CFG_EN (p - 32) = true then 32 else 0

/-- E of frame `k` of a TX slice entry of a copy of table 32 after a boundary at `t` (06 R145). -/
def sliceEIn (s : State) (bank e k t : Nat) : Nat :=
  let p := 32 + bitsOf (sliceWordIn s bank e 0) 4 3
  let n := bitsOf (sliceWordIn s bank e 1) 18 12
  t + sliceWordIn s bank e 2 % 2 ^ 23 * 320 +
    (List.range k).foldl (fun a j => a + wireTime (portRate s p) (sliceLen (sliceSlots n j) + 4 + msecGrow s p)) 0
def sliceE (s : State) (e k t : Nat) : Nat := sliceEIn s (s.active 32) e k t

/-- The frames of a slice. -/
def sliceFrames (n : Nat) : Nat := (n + 479) / 480

/-- The TX slice entries of a trunk port in a copy of table 32. -/
def sliceEntries (s : State) (bank p : Nat) : List Nat :=
  (List.range 64).filter (fun e => bitOf (sliceWordIn s bank e 0) 0 && 32 + bitsOf (sliceWordIn s bank e 0) 4 3 == p)

/-- The frames of list `k` leave on port `p` too: it is its own list, or the entry has TWIN and the list's port in the master role
names `p` (05 R130). -/
def listFeeds (s : State) (k p w0 : Nat) : Bool :=
  k == p || (bitOf w0 4 && ringRole s k == 1 && s.get MAC_CFG_RING_PEER k == p)

/-- How long until each coming cyclic frame that list `k` sends on port `p`: those of this cycle not judged yet, and those of the
next cycle while cycling goes on. -/
def listWaits (s : State) (k p : Nat) : List Nat :=
  let d := s.get LIM_CYC_CTRL_DOM 0
  let now := if s.started then
      ((cycEntries s k).filter (fun e => !s.bit MAC_CYC_DONE k e && listFeeds s k p (cycWord s k e 0))).map
        (fun e => untilAt s d (cycE s k e (s.get LIM_CUR 0)))
    else []
  let next := if s.get LIM_PHASE 0 != 0 && !s.flag LIM_STOP 0 then
      let c := nextCyc s k
      (c.2.filter (fun e => listFeeds s k p (cycWordIn s k c.1 e 0))).map
        (fun e => untilAt s d (s.get LIM_NEXT 0 + cycWordIn s k c.1 e 1 % 2 ^ 23 * 320))
    else []
  now ++ next

/-- How long until each coming slice frame of a trunk port, of this cycle and of the next. -/
def sliceWaits (s : State) (p : Nat) : List Nat :=
  let d := s.get LIM_CYC_CTRL_DOM 0
  let b := s.active 32
  let now := if s.started then
      (sliceEntries s b p).flatMap (fun e =>
        if s.get SLICE_SENT e < sliceFrames (bitsOf (sliceWord s e 1) 18 12) then
          [untilAt s d (sliceE s e (s.get SLICE_SENT e) (s.get LIM_CUR 0))] else [])
    else []
  let next := if s.get LIM_PHASE 0 != 0 && !s.flag LIM_STOP 0 then
      let nb := if commitsNext s 32 then 1 - b else b
      (sliceEntries s nb p).map (fun e => untilAt s d (sliceEIn s nb e 0 (s.get LIM_NEXT 0)))
    else []
  now ++ next

/-- How long until each coming timed frame of port `p` (05 R125): the cyclic frames of its own list and the twin copies of the
list of its ring peer, those that wait for the wire, slice frames, and accepted direct-transmit frames. -/
def timedWaits (s : State) (p : Nat) : List Nat :=
  (if 32 ≤ p then sliceWaits s p
   else ((List.range 32).filter (fun k => k == p || s.get MAC_CFG_RING_PEER k == p)).flatMap (fun k => listWaits s k p)) ++
    ((s.timed.filter (fun x => x.port = p)).map (fun _ => 0)) ++
    (s.directs.filter (fun x => x.port = p)).map (fun x => untilAt s x.dom x.launch)

/-- A frame of `n` octets that starts now has left the wire, gap included, before the preamble of the port's next timed
frame (05 R125). -/
def clearOfTimed (s : State) (p n : Nat) : Bool :=
  (timedWaits s p).all (fun t => decide (wireTime (portRate s p) n + 8 * 2048000 / portRate s p ≤ t))

/-! ### Frames on the wire -/

/-- MACsec protects a frame of a trunk port, all but Ethertype 0x888E (06 R149, R150). -/
def protects (s : State) (p : Nat) (fr : List Byte) : Bool :=
  decide (32 ≤ p) && decide (p < 40) && s.flag TRK_MSEC_CFG_EN (p - 32) && etype fr != 0x888E

/-- A key slot of trunk port `l`. -/
def saKey (s : State) (l sa : Nat) : SaKey := (s.saKeys.find? (fun k => k.port = l && k.sa = sa)).getD ⟨l, sa, [], [], 0⟩

/-- The nonce of GCM-AES-XPN-256: the salt, the SSCI and 64-bit packet number added modulo 2 (06 R149; IEEE 802.1AE, log entry
158). -/
def xpnNonce (k : SaKey) (pn : Nat) : List Byte :=
  (k.salt.zip (beBytes 4 k.ssci ++ beBytes 8 pn)).map (fun x => x.1 ^^^ x.2)

/-- The SecTAG (06 R149; its format is that of IEEE 802.1AE, log entry 158): Ethertype 0x88E5, the flags with the AN, the length of
a short frame, the low half of the packet number, and the SCI, which is always carried. -/
def secTag (conf : Bool) (an n pn sci : Nat) : List Byte :=
  beBytes 2 0x88E5 ++ [BitVec.ofNat 8 (0x20 + (if conf then 0x0C else 0) + an % 4), BitVec.ofNat 8 (if n < 48 then n else 0)] ++
    beBytes 4 (pn % 2 ^ 32) ++ beBytes 8 sci

/-- A frame (FCS included) protected by the transmit SA in use (06 R149): encrypted after the SecTAG with CONF = 1, integrity
alone with CONF = 0. -/
def msecSeal (s : State) (l : Nat) (fr : List Byte) : List Byte :=
  let b := fr.take (fr.length - 4)
  let an := s.get TRK_MSEC_CFG_TX_AN l
  let pn := s.get TRK_MSEC_TXPN_PN l
  let conf := s.flag TRK_MSEC_CFG_CONF l
  let k := saKey s l (16 + an)
  let data := b.drop 12
  let head := b.take 12 ++ secTag conf an data.length pn (s.get TRK_MSEC_TXSCI_SCI l)
  let aad := if conf then head else head ++ data
  let pt := if conf then data else []
  let iv := xpnNonce k pn
  withFcs (head ++ (if conf then Config.gcmText k.sak iv aad pt else data) ++ Config.gcmTag k.sak iv aad pt)

/-- A protected frame took a packet number; once for each SA the number 2^PN_THR raises TRK_MSEC_PN_THR (06 R152). -/
def pnNext (l : Nat) (s : State) : State :=
  let a := 4 * l + s.get TRK_MSEC_CFG_TX_AN l
  let s := (s.sat TRK_MSEC_CNT_PROTECTED l).put TRK_MSEC_TXPN_PN l (s.get TRK_MSEC_TXPN_PN l + 1)
  if 2 ^ s.get TRK_MSEC_CFG_PN_THR l ≤ s.get TRK_MSEC_TXPN_PN l ∧ s.flag PN_SEEN a = false then
    (s.put PN_SEEN a 1).raise (778 + 16 * l)
  else s

/-- A frame starts on the wire of port `p`: counted, protected, and handed to whoever listens (05, 06 R149, R152). -/
def sendOut (p : Nat) (fr : List Byte) (ts : Nat) (bad : Bool) (s : State) : State :=
  let s := if p < 32 then s.sat MAC_CNT_TX_TX_OK p else s.sat TRK_CNT_TX_TX_OK (p - 32)
  if protects s p fr then (pnNext (p - 32) s).emit (.frame p (msecSeal s (p - 32) fr) ts bad)
  else s.emit (.frame p fr ts bad)

/-- Octets that a frame takes on the wire of port `p`, FCS and MACsec included. -/
def onWireLen (s : State) (p : Nat) (fr : List Byte) : Nat := fr.length + (if protects s p fr then 32 else 0)

/-! ### The content of an egress copy -/

/-- A frame edited, with a new FCS where the edit changed it (05 R118: a switched frame keeps its FCS). -/
def editFrame (g : List Byte → List Byte) (fr : List Byte) : List Byte :=
  let b := fr.take (fr.length - 4)
  if g b = b then fr else withFcs (g b)

/-- The tag of a bridged frame on an egress port: removed on a port of the untagged set, otherwise present with the VID
(04 R90). Bit 12 of `vid` is the drop eligible indicator of a tag that is inserted (R109). -/
def bridgeTag (s : State) (vid q p : Nat) (fr : List Byte) : List Byte :=
  if vlanBit s (vid % 4096) 2 p then (if tagCount fr = 0 then fr else fr.take 12 ++ fr.drop 16)
  else if tagCount fr = 0 then
    fr.take 12 ++ beBytes 2 0x8100 ++ beBytes 2 (s.get SBD_PORT_PCPMAP_DEF_PCP q * 8192 + vid) ++ fr.drop 12
  else if outerVid fr = 0 then putOctets fr 14 (beBytes 2 (be16 fr 14 / 4096 * 4096 + vid % 4096))
  else fr

/-- A frame's octets without FCS as they leave the switch: where its stream's recovery is on, without the R-TAG (04 R110). -/
def rtagOff (s : State) (f : Frame) (b : List Byte) : List Byte :=
  match f.info.handle with
  | some h => if bitOf (s.get SBD_FRER (8 * h)) 1 then dropRtag b else b
  | none => b

/-- Zeros up to 60 bytes, where a descriptor asks for them (05 R119). -/
def padTo60 (w2 : Nat) (b : List Byte) : List Byte := if bitOf w2 1 then b ++ List.replicate (60 - b.length) 0 else b

/-- The octets with FCS that a copy of a frame sends on port `p` (04 R90, R110; 05 R119, R120). -/
def copyBytes (s : State) (p : Nat) (f : Frame) : List Byte :=
  match f.origin with
  | some o => if bitOf o.word2 4 then withFcs (padTo60 o.word2 (lsoSegment o.word2 o.word3 f.seg f.bytes)) else f.bytes
  | none =>
    editFrame (fun b =>
      let b := rtagOff s f b
      match f.bridge with
      | some vid => bridgeTag s vid f.inPort p b
      | none => b) f.bytes

/-- A frame is a large send with segments left after the next one. -/
def moreSegments (f : Frame) : Bool :=
  match f.origin with
  | some o => bitOf o.word2 4 && decide (f.seg + 1 < lsoCount o.word2 o.word3 f.bytes.length)
  | none => false

/-- The time from `a` to `b` on a line-time counter of 1/256 ns (02 R31). -/
def elapsed (a b : Nat) : Nat := (b + 2 ^ 40 - a % 2 ^ 40) % 2 ^ 40

/-- A forwarded frame (FCS included) that came in on port `q` at `inTs` and leaves at `ts`: an event message gains its residence
time where the port that received it has TC_EN (02 R49), also where no entry of TMB_PTPMAP matches and its two timestamps are in
different domains (DESIGN CHOICE, log entry 181). -/
def addResidence (s : State) (q inTs ts : Nat) (fr : List Byte) : List Byte :=
  match ptpAt fr with
  | some k =>
    if s.flag TMB_PCFG_TC_EN q then editFrame (fun b => fixUdp (addCorrection k (elapsed inTs ts : Nat) b)) fr else fr
  | none => fr

/-- What a frame carries when it starts on port `p` (02 R40, R41, R49): its octets with one-step fields (a frame of this
unit) or residence time (a frame forwarded, by the port it came in on and its ingress timestamp), its egress timestamp and
domain, and the phase detector's fraction, a free value. No octets: a one-step frame of a domain whose epoch pair is stale,
which is dropped. -/
def stampFrame (p : Nat) (src : Option (Nat × Nat)) (fr : List Byte) (s : State) : Option (List Byte) × Nat × Nat × Nat × State :=
  let d := frameDomain s p fr
  let ph := s.fresh
  let ts := egressStamp s p d ph
  let s := s.used
  match src with
  | some (q, inTs) => (some (addResidence s q inTs ts fr), ts, d, ph, s)
  | none =>
    match oneStep fr with
    | some k =>
      if s.flag TMB_DOM_STAT_EPOCH_STALE d then (none, ts, d, ph, s.sat TMB_DOM_CNT1_EPOCH_DROP d)
      else (some (editFrame (oneStepInsert s d ts k) fr), ts, d, ph, s)
    | none => (some fr, ts, d, ph, s)

/-- A time-transfer frame starts on the port with timestamp index `p`: the engine resolves its egress instant in every
domain (06 R153): t1 of a request, t3 of a response. `ch` is the engine's channel: trunk port l, or 8 for the pair link. -/
def ttEgressOn (ch p : Nat) (fr : List Byte) (ph : Nat) (s : State) : State :=
  let k := payloadAt fr
  let seq := ofBytes ((fr.drop (k + 6)).take 2)
  if octet fr (k + 5) % 2 = 0 then
    overRange (fun d t => (t.put TT_T1_OLD (ch * 16 + d) (t.get TT_T1 (ch * 16 + d))).put TT_T1 (ch * 16 + d)
      (egressStamp s p d ph)) 16 s
  else
    overRange (fun d t => t.put TT_T3 (ch * 16 + d) (egressStamp s p d ph)) 16
      ((s.put TT_T3_ON ch 1).put TT_T3_SEQ ch seq)

/-- The same for a trunk port's switch port. -/
def ttEgress (p : Nat) (fr : List Byte) (ph : Nat) (s : State) : State := ttEgressOn (p - 32) p fr ph s

/-- Scan `k`, by its scan port, is in a pass (05 R133). -/
def scanRuns (s : State) (k : Nat) : Bool := s.get MAC_SCAN_STAT_STATE k == 1 || s.get MAC_SCAN_STAT_STATE k == 2

/-- The scans whose pair takes in port `p`: there can be one on each port of it (05 R133). -/
def scansOf (s : State) (p : Nat) : List Nat :=
  (List.range 32).filter (fun k => scanRuns s k && (k == p || s.get MAC_CFG_RING_PEER k == p))

/-- The core clock count at which a probe that leaves now times out. -/
def scanUntil (s : State) (k : Nat) : Nat := s.get CORE_COUNT 0 + max 1 (s.get MAC_SCAN_CTRL_TMO k) * 800

/-- The probe of scan `k` starts: its timestamp and the time for its response count from here (05 R133). -/
def scanProbeOut (k ts : Nat) (s : State) : State :=
  if scanRuns s k then (s.put SCAN_TS k ts).put SCAN_END k (scanUntil s k) else s

/-- A frame leaves the class queue (p, c). -/
def unqueue (p c id : Nat) (s : State) : State :=
  { s with queues := s.queues.filter (fun x => !(x.port = p && x.cls = c && x.frame = id)) }

/-- The copy (p, c) of frame `f` starts: it leaves its queue, takes the wire and is stamped. For a one-step frame dropped with a
stale epoch pair the STATUS code is open (log entry 149). -/
def startCopy (p c : Nat) (f : Frame) (bad : Bool) (s : State) : State :=
  let more := moreSegments f
  let (out, ts, d, ph, s) := stampFrame p (if f.inPort < 40 then some (f.inPort, f.info.ts) else none) (copyBytes s p f) s
  match out with
  | none => dropRef f.id (s.fresh % 256) (unqueue p c f.id s.used)
  | some fr =>
    let f' := { f with
      stamp := if f.stamp = none then some (ts, d) else f.stamp
      seg := f.seg + 1
      refs := if more then f.refs + 1 else f.refs }
    let s := takeWire p c f.id (onWireLen s p fr) ((if more then s else unqueue p c f.id s).putFrame f')
    let s := if f.inPort = 73 then ttEgress p fr ph s else if 74 ≤ f.inPort then scanProbeOut (f.inPort - 74) ts s else s
    sendOut p fr ts bad (mirror 1 p c (egressStamp s p (s.get TMB_PCFG_DEF_DOM p) ph) f.info.flow f.sampled
      (fr.take (fr.length - 4)) s)

/-! ### Ageing and the choice of the next frame (04 R99, R102, R104, R105) -/

/-- The copies of a class queue, the oldest first. -/
def queueOf (s : State) (p c : Nat) : List QCopy := s.queues.filter (fun x => x.port = p && x.cls = c)

/-- A queued copy of the frame has started: only that of a large send, the one copy there is, stays in its queue then (05 R120). -/
def sendBegun (f : Frame) : Bool :=
  match f.origin with
  | some o => bitOf o.word2 4 && f.seg != 0
  | none => false

/-- A copy has stayed past its queue's limit and has not started (R105). -/
def agedCopy (s : State) (x : QCopy) : Bool :=
  let lim := s.get SBD_QCLASS_RES_LIMIT (x.port * 8 + x.cls)
  match s.frame x.frame with
  | some f => lim != 0 && !sendBegun f && decide (lim * 800 < s.get CORE_COUNT 0 - f.arrived)
  | none => false

/-- Aged copies at the head of a class queue are discarded (R105). -/
def ageQueue (p c : Nat) (s : State) : State :=
  let gone := (queueOf s p c).takeWhile (agedCopy s)
  let s := { s with queues := s.queues.filter (fun x => !gone.contains x) }
  overList (fun (x : QCopy) (t : State) =>
    dropRef x.frame 8 (t.count1 SBD_QCNT_AGE_DROP (p * 8 + c) (1028 + 8 * p))) gone s

/-- All class queues of a port. -/
def agePort (p : Nat) (s : State) : State := overRange (ageQueue p) 8 s

/-- The head of a class queue, with its frame. -/
def queueHead (s : State) (p c : Nat) : Option Frame :=
  match queueOf s p c with
  | x :: _ => s.frame x.frame
  | [] => none

/-- The transmitter sends a frame (05 R126, 06 R140): with TX_READY 1, or, where a trunk port lacks only a transmit SA, one of the
uncontrolled port (06 R150). -/
def sends (s : State) (p : Nat) (mka : Bool) : Bool :=
  portReady s p || (mka && decide (32 ≤ p) && decide (p < 40) && lanesReady s (p - 32))

/-- A timed frame of port `p` waits for the wire, past its E: it outranks every queued frame (05 R124 rule 3). -/
def timedPast (s : State) (p : Nat) : Bool := (timedWaits s p).any (fun t => decide (t = 0))

/-- The head of class `c` may start on port `p` (R102, 05 R124, R125). -/
def mayStart (s : State) (p c : Nat) : Bool :=
  match queueHead s p c with
  | none => false
  | some f =>
    let n := onWireLen s p (copyBytes s p f)
    let pre := preemptable s p c
    sends s p (etype f.bytes == 0x888E) && gateOpen s p c && ((pre && !s.flag LVR_HOLD p) || gateFits s p c n) && ((pre && !timedPast s p) || clearOfTimed s p n)

/-- The classes in strict priority. -/
def classOrder : List Nat := [7, 6, 5, 4, 3, 2, 1, 0]

/-- The paused frame of a port, if any (R104). -/
def pausedOn (s : State) (p : Nat) : Option OnWire := s.wires.find? (fun w => w.port = p && w.paused != none)

/-- A preempted frame goes on (R104). -/
def resume (p : Nat) (s : State) : State :=
  { s with wires := s.wires.map (fun w =>
      if w.port = p then
        match w.paused with
        | some left => { w with paused := none, until' := s.get CORE_COUNT 0 + left, since := s.get CORE_COUNT 0 }
        | none => w
      else w) }

/-- Port `p`'s wire is free for an express frame: at most a fragment that can end now is on it (R104). -/
def wireYields (s : State) (p : Nat) : Bool := !s.wires.any (fun w => w.port = p && w.paused = none && !fragDone s w)

/-- The class whose head starts next on port `p`, none where nothing may start: an express frame while a preemptable one
holds the wire, once its fragment can end; otherwise strict priority, a preempted frame before any other preemptable frame
(R99, R104). -/
def nextClass (s : State) (p : Nat) : Option Nat :=
  let express := classOrder.find? (fun c => !preemptable s p c && mayStart s p c)
  if wireBusy s p then (if wireYields s p then express else none)
  else if pausedOn s p ≠ none then express
  else classOrder.find? (fun c => mayStart s p c)

/-- Port `p` runs half duplex (05 R114). -/
def halfDuplex (s : State) (p : Nat) : Bool := decide (p < 32) && !s.flag MAC_STAT_FDX p

/-- A copy on a half-duplex port is discarded after 16 collisions or a late one (05 R114); the STATUS of its sender is open (log
entry 149). -/
def hdxDiscard (p id : Nat) (s : State) : State :=
  dropRef id (s.fresh % 256) ((s.used.sat MAC_CNT_PT_HDX_DISCARD p).raise (269 + 16 * p))

/-- The copy (p, c) of frame `f` starts, or is lost: `head` is what the read of its first octets found, `body` what the rest of
it finds on the wire (R80); `coll` says that a half-duplex frame is lost to collisions (05 R114). `off` takes a lost copy from where it
waited. -/
def startRead (p c : Nat) (f : Frame) (coll : Bool) (head body : Ecc) (off : State → State) (s : State) : State :=
  let s := eccSeen head s
  if head = .uncorr then dropRef f.id 5 (off (s.count1 SBD_QCNT_AGE_DROP (p * 8 + c) (1028 + 8 * p)))
  else if coll && halfDuplex s p then hdxDiscard p f.id (off s)
  else eccSeen body (startCopy p c f (body = .uncorr) s)

/-- The head of class `c` starts, or is lost. -/
def startHead (p c : Nat) (coll : Bool) (head body : Ecc) (s : State) : State :=
  match queueHead s p c with
  | none => s
  | some f => startRead p c f coll head body (unqueue p c f.id) s

/-- Egress on a port: ended copies release their frames, aged heads go, then the next frame starts when the link is up
and the transmitter ready (R99 to R105, 05 R126, 06 R144). A node-role port sends no queued frame (05 R131). -/
def egressStart (p : Nat) (coll : Bool) (head body : Ecc) (s : State) : State :=
  let s := agePort p (releaseWires s)
  if !portLink s p || !sends s p true || (decide (p < 32) && (ringRole s p == 2 || gatedPort s p)) then s
  else match nextClass s p with
    | some c => startHead p c coll head body (if wireBusy s p then preempt p s else s)
    | none =>
      match pausedOn s p with
      | some w => if portReady s p && !wireBusy s p && gateOpen s p w.cls && !s.flag LVR_HOLD p && !timedPast s p then resume p s else s
      | none => s

/-! ### Switching a received frame (R85 paths 3 to 5) -/

/-- The drop eligible indicator set in the outer tag of a yellow frame (R109); one that has no tag gets it with a tag that bridging
inserts. -/
def markDei (fr : List Byte) : List Byte :=
  if tagCount fr = 0 then fr else putOctets fr 14 (beBytes 2 (be16 fr 14 ||| 0x1000))

/-- The egress ports of an action (R86, R90 to R92, R95), with the count of a path set without a live member. -/
def actionPorts (a : Action) (q vid : Nat) (fr : List Byte) (s : State) : List Nat × State :=
  match a.kind with
  | 1 => ([a.dest], s)
  | 2 =>
    let ps := pathPorts s q (a.dest % 64) fr
    (ps, if ps = [] then s.count1 SBD_PCNT_LINK_DROP q (1031 + 8 * q) else s)
  | 3 => (groupPorts s a.dest, s)
  | 5 => (bridgePorts s q vid fr, s)
  | _ => ([], s)

/-- The copy for (p, c) cuts through (R96). -/
def cutsThrough (s : State) (q : Nat) (a : Action) (p c : Nat) : Bool :=
  s.flag SBD_PORT_CFG_CT_EN q && !a.ctDis && decide (q < 40) && decide (p < 40) &&
    decide (portRate s p ≤ portRate s q) && (queueOf s p c).isEmpty && !wireBusy s p &&
    gateFits s p c (portMaxLen s q + msecGrow s p) && portReady s p && !(preemptable s p c && pausedOn s p != none) &&
    !(s.bit SBD_PORT_PREEMPT_PREEMPTABLE p c && s.get SBD_PORT_PREEMPT_STATUS p == 1)

/-- What the receive path knows of a frame (05 R118, R121). -/
def frameInfo (ts d : Nat) (a : Action) (fr : List Byte) : FrameMeta :=
  ⟨ts, d, outerVid fr, outerPcp fr, tagCount fr, a.entry, a.miss, isIPv4 fr, isIPv4 fr && l3Good fr, hasL4 fr,
    hasL4 fr && l4Good fr, false, a.handle⟩

/-- What a copy (p, c) of the stored frame `id` does once stored: it cuts through, ending with a forced error where the
frame is lost; a lost copy that was stored is discarded (R96, R98). Whether one that cuts through to a half-duplex port is lost to
collisions is a free value (05 R114). -/
def settleCopy (q id : Nat) (cut lost : Bool) (t : Nat × Nat) (s : State) : State :=
  match s.queues.find? (fun x => x.port = t.1 && x.cls = t.2 && x.frame = id), s.frame id with
  | some _, some g =>
    let half := cut && halfDuplex s t.1
    let u := if half then s.used else s
    if half && bitOf s.fresh 0 then hdxDiscard t.1 id (unqueue t.1 t.2 id u)
    else if cut then startCopy t.1 t.2 g lost (if lost then u.sat SBD_PCNT_CT_BAD q else u)
    else if lost then dropRef id 0 (unqueue t.1 t.2 id s)
    else s
  | _, _ => s

/-- A frame is stored for the copies (port, class) it is bound for, those that can cut through at once (R94 to R98).
`bad` says that it turned out bad on arrival, or longer than its stream allows. -/
def placeFrame (q : Nat) (fr : List Byte) (bad : Bool) (info : FrameMeta) (a : Action) (bridge : Option Nat)
    (targets : List (Nat × Nat)) (s : State) : State :=
  let (ts, s) := linkFilter (etype fr = 0x888E) targets s
  let cut := ts.filter (fun t => cutsThrough s q a t.1 t.2)
  let long (p : Nat) : Bool := decide (p < 40) && decide (portMaxLen s p < fr.length)
  let f : Frame := ⟨0, fr, cellsOf fr.length, 0, q, s.get CORE_COUNT 0, info, none, 0, none, bridge, a.mirror, 0⟩
  let id := s.get FRAME_NEXT 0
  let m := if q < 40 then cellsOf (portMaxLen s q) else cellsOf fr.length
  let s := storeFrame ts m f s
  overList (fun (t : Nat × Nat) (u : State) => settleCopy q id (cut.contains t) (bad || long t.1) t u) ts s

/-- Sequence recovery and generation of a stream's frame (R110): none where recovery discards it. -/
def redundancy (h : Option Nat) (fr : List Byte) (s : State) : Option (List Byte) × State :=
  match h with
  | none => (some fr, s)
  | some h =>
    let (pass, s) := frerRecover h (fr.take (fr.length - 4)) s
    if !pass then (none, s)
    else if bitOf (s.get SBD_FRER (8 * h)) 0 then
      let w := s.get SBD_FRER (8 * h + 1)
      (some (editFrame (addRtag (w % 65536)) fr), s.put SBD_FRER (8 * h + 1) (w / 65536 * 65536 + (w + 1) % 65536))
    else (some fr, s)

/-- The filter of a frame's stream handle; a frame without one passes. -/
def handleFilter (handle : Option Nat) (pcp len : Nat) (dei : Bool) (s : State) : Bool × Bool × Bool × State :=
  match handle with
  | some h => streamFilter h pcp len dei s
  | none => (true, false, false, s)

/-- The class, stream and destination steps for a frame whose action is known (R85 path 5). MAX_SDU is compared with, and meters
count, the octets of the frame without its FCS (DESIGN CHOICE, log entry 150). A bad or oversize frame takes part in recovery and generation
(DESIGN CHOICE, log entry 189). -/
def forwardFrame (q : Nat) (fr : List Byte) (bad : Bool) (st : Stamps) (a : Action) (s : State) : State :=
  let b := fr.take (fr.length - 4)
  let c := frameClass s q a b
  let vid := bridgeVid s q b
  let s := if a.kind = 5 ∧ s.flag SBD_PORT_CFG_LEARN q = true ∧ bad = false ∧ bridgeAdmits s q vid = true ∧
      octet b 6 % 2 = 0 then fdbLearn (srcMac b) vid q s else s
  let pcp := if tagCount b = 0 then s.get SBD_PORT_PCPMAP_DEF_PCP q else outerPcp b
  let (pass, past, yellow, s) := handleFilter a.handle pcp b.length (outerDei b) s
  if !pass && !past then s
  else
    match redundancy a.handle fr s with
    | (none, s) => s
    | (some fr, s) =>
      let fr := if yellow then editFrame markDei fr else fr
      let (ps, s) := actionPorts a q vid b s
      placeFrame q fr (bad || past) (frameInfo st.ts st.dom a b) a (if a.kind = 5 then some (vid + (if yellow then 4096 else 0)) else none)
        (ps.map (fun p => (p, c))) s

/-- A frame of ingress port `q`, FCS included, takes R85 from path 3 on. `bad` says that it turned out bad on arrival:
its stored copies are discarded and a copy that cut through ends with a forced error (R98). Ingress samples are taken of the
frames that come to the lookup (R106). -/
def switchFrame (q : Nat) (fr : List Byte) (bad : Bool) (st : Stamps) (s : State) : State :=
  if !s.flag SBD_CTRL_EN 0 then s
  else
    let b := fr.take (fr.length - 4)
    let (a, s) := flowLookup q b (releaseWires s)
    forwardFrame q fr bad st a (mirror 0 q (frameClass s q a b) st.mir a.entry a.mirror b s)

/-! ### The commands' meanings -/

/-- EGRESS_START (04 R99 to R105). -/
def execEgressStart (p : Fin 40) (coll : Bool) (head body : Ecc) (s : State) : Result :=
  .next (egressStart p coll head body s)

end Sys2Proof.Machine
end

