-- ==== Sys2Proof/Machine/Mac.lean ====
section
/-! DEFINITION. Field ports (spec/05_field_ports_and_frame_mac.md): port control and links, lanes and retrain windows,
classification and reception, timed transmission, pass-through rings, the topology scan, and the port hooks of the
Courses (07 R175, R176). -/

namespace Sys2Proof.Machine

/-! ### Internal cells -/

/-- Classifier rule words: copy p × 64 + 4 × rule + word (R117). -/
def MAC_CLS : Fld := ⟨1220, 0, 32, .int, 0, .keep, .none⟩
/-- A retrain window is requested; the margin has been reported low; good measurements counted toward recovery; the lane
was DEGRADED before its retrain (R127, R128). -/
def LANE_REQ : Fld := ⟨1221, 0, 1, .int, 0, .reset, .none⟩
def LANE_LOW : Fld := ⟨1222, 0, 1, .int, 0, .reset, .none⟩
def LANE_GOOD : Fld := ⟨1223, 0, 8, .int, 0, .reset, .none⟩
def LANE_WAS : Fld := ⟨1224, 0, 3, .int, 0, .reset, .none⟩
/-- The elastic buffer's departure from centre, in signed symbols, of the direction that comes in through a port (R132). -/
def EB_DIR : Fld := ⟨1475, 0, 8, .int, 0, .reset, .none⟩
/-- The core clock count at which that direction, idle since its last frame, is back at centre fill (R132). -/
def EB_AT : Fld := ⟨1525, 0, 64, .int, 0, .reset, .none⟩

/-- The address of a port's register. -/
def macAddr (off p : Nat) : Nat := 0x4060_0000 + 0x4000 * p + off

/-- Lane states (R126). -/
def laneDown : Nat := 0
def laneTraining : Nat := 1
def laneUp : Nat := 2
def laneRetrain : Nat := 3
def laneDegraded : Nat := 4

/-! ### Course local memory (07 R157) -/

/-- 1 = a load has written every byte of the Course's memory since its domain turned on: zero where nothing else stands
(07 R166). -/
def CRS_FILLED : Fld := ⟨1229, 0, 1, .int, 0, .reset, .none⟩

/-- The Portcullis core's own memory (17 R379), which lies outside the device address map, as the model numbers it; its place among
the memories of `CRS_EPOCH`. -/
def pcsMemBase : Nat := 2 ^ 48
def pcsMemNum : Nat := pcsMemBase / 0x8_0000

/-- A byte of a Course's memory, or of the Portcullis core's, as it reads: a byte that nothing has written since the domain turned
on is open (01 R17). -/
def State.sramByte (s : State) (a : Nat) : Byte :=
  match tblFind s.sram a with
  | some b => b
  | none => if s.flag CRS_FILLED (a / 0x8_0000) then 0 else Config.sramByte (s.get CRS_EPOCH (a / 0x8_0000)) a

/-- Bytes written to such a memory; a reservation on their granule is lost (08 R218). -/
def State.putSram (s : State) (a : Nat) : List Byte → State
  | [] => s
  | b :: bs => State.putSram { s with
      sram := tblPut s.sram a b
      resvs := s.resvs.filter (fun r => !(decide (r.addr ≤ a) && decide (a < r.addr + r.len))) } (a + 1) bs

/-- The Course that owns a field port (07 R164). -/
def portOwner (s : State) (p : Nat) : Option Nat := (List.range 32).find? (fun n => s.bit CRS_OWN_PORTS n p)

/-! ### Ports and links (R113, R114, R126, R129) -/

/-- The mode is one of the port's (R113). -/
def modeOk (p m : Nat) : Bool := if p < 16 then m == 0 else decide (1 ≤ m) && decide (m ≤ 6)

/-- A mode at a rate (code of `MAC_STAT`.SPEED) is in the table of R131. -/
def passMode (m sp : Nat) : Bool :=
  match m with
  | 0 => sp == 1 || sp == 2
  | 1 | 3 => sp == 2
  | 2 => sp == 3
  | 4 | 5 => sp == 5
  | _ => false

/-- The port's settings let it run a mode and rate of the table of R131: its mode is in it, and a forced rate, where the mode has
a choice, is one of the table's. -/
def passSet (s : State) (p : Nat) : Bool :=
  let m := s.get MAC_CFG_MODE p
  decide (m ≤ 5) && (s.flag MAC_CFG_AN_EN p || [1, 2, 5].contains m || passMode m (s.get MAC_CFG_SPEED p))

/-- The ring settings of a port allow EN (R129): the partner names this port in the same role, and both modes are in the
table of R131. -/
def ringOk (s : State) (p : Nat) : Bool :=
  let r := s.get MAC_CFG_RING_ROLE p
  let k := s.get MAC_CFG_RING_PEER p
  r % 3 == 0 || (k != p && s.get MAC_CFG_RING_ROLE k == r && s.get MAC_CFG_RING_PEER k == p &&
    modeOk k (s.get MAC_CFG_MODE k) && passSet s p && passSet s k)

/-- EN may be set: mode, ring, and no port of the pair link while pair operation is on (R113, R129, 01 R30). -/
def enableOk (s : State) (p : Nat) : Bool :=
  modeOk p (s.get MAC_CFG_MODE p) && ringOk s p && !(s.flag RDN_CFG_EN 0 && decide (30 ≤ p))

/-- The port's lane begins again (R126): SerDes ports pass through TRAINING. -/
def restartLane (p : Nat) (s : State) : State :=
  let s := ((s.put MAC_STAT_LINK p 0).put MAC_STAT_TX_READY p 0).put MAC_STAT_AN_DONE p 0
  if p < 16 then s
  else s.put MAC_STAT_LANE p (if s.flag MAC_CFG_EN p && s.domOn (domSerdes p) && s.flag CLK_STAT_SERDES_REF_OK 0
    then laneTraining else laneDown)

/-! ### Topology scan (R133 to R135) -/

/-- A probe with hop count `h` is sent on the scan's present port in class TC (R133): the template with the hop count, two octets,
most significant first, at HOP_OFF, closed by an FCS; it waits in the class queue as any frame of this unit. -/
def sendProbe (k h : Nat) (s : State) : State :=
  let port := s.get MAC_SCAN_STAT_FROM_PORT k
  let b := s.bytes (sbBase + s.get MAC_SCAN_TPL_OFFSET k) (s.get MAC_SCAN_TPL_LEN k)
  let fr := withFcs (putOctets b (s.get MAC_SCAN_TPL_HOP_OFF k) (beBytes 2 h))
  let info : FrameMeta := ⟨0, 0, outerVid fr, outerPcp fr, tagCount fr, none, false, false, false, false, false, false, none⟩
  let f : Frame := ⟨0, fr, cellsOf fr.length, 0, 74 + k, s.get CORE_COUNT 0, info, none, 0, none, none, false, 0⟩
  let s := (s.put SCAN_HOP k h).put SCAN_END k (scanUntil s k)
  let (ts, s) := linkFilter false [(port, s.get MAC_SCAN_CTRL_TC k)] s
  storeFrame ts f.cells f s

/-- The map cleared and pass 1 begun on port `port`. -/
def scanPass1 (k port : Nat) (s : State) : State :=
  let s := overRange (fun w t => t.put SCAN_MAP (k * 1024 + w) 0) 1024 s
  let s := ((s.put MAC_SCAN_STAT_NODES k 0).put MAC_SCAN_STAT_CONFIRMED k 0).put MAC_SCAN_STAT_STATE k 1
  sendProbe k 1 (s.put MAC_SCAN_STAT_FROM_PORT k port)

/-- The results that the scan command returns (14 R331): state, nodes, confirmed, FROM_PORT. -/
def scanResult (s : State) (k : Nat) : List Nat :=
  [s.get MAC_SCAN_STAT_STATE k, s.get MAC_SCAN_STAT_NODES k, s.get MAC_SCAN_STAT_CONFIRMED k, s.get MAC_SCAN_STAT_FROM_PORT k]

/-- A scan ends in a state, with the reply of its command. -/
def scanEnd (k st status detail : Nat) (s : State) : State :=
  let s := s.put MAC_SCAN_STAT_STATE k st
  s.settle (.scan k) status detail (scanResult s k)

/-- A pass ends: pass 2 follows pass 1; after pass 2 the scan is DONE (R133, R135). -/
def scanPassEnd (k : Nat) (s : State) : State :=
  if s.get MAC_SCAN_STAT_STATE k = 1 then sendProbe k 1 (s.put MAC_SCAN_STAT_STATE k 2)
  else (scanEnd k 3 0 0 s).raise (265 + 16 * k)

/-- GO (R133): refused but in the master role with the link up; without effect while a scan runs. It clears the map of an earlier scan
(DESIGN CHOICE, log entry 190). -/
def scanGo (k : Nat) (s : State) : State :=
  if s.get MAC_SCAN_STAT_STATE k = 1 ∨ s.get MAC_SCAN_STAT_STATE k = 2 then s
  else if ringRole s k = 1 ∧ s.flag MAC_STAT_LINK k = true then scanPass1 k k (s.put MAC_SCAN_STAT_RESTARTED k 0)
  else s.put MAC_SCAN_STAT_STATE k 6

/-- ABORT (R133). -/
def scanAbort (k : Nat) (s : State) : State :=
  if s.get MAC_SCAN_STAT_STATE k = 1 ∨ s.get MAC_SCAN_STAT_STATE k = 2 then scanEnd k 5 0 0 s else s

/-- A link change seen on `port`: the first restarts pass 1 there, the second ends the scan UNSTABLE (R135). -/
def scanChange (k port : Nat) (s : State) : State :=
  if s.flag MAC_SCAN_STAT_RESTARTED k then
    (scanEnd k 4 0x020E (s.get MAC_SCAN_STAT_FROM_PORT k) s).raise (267 + 16 * k)
  else scanPass1 k port ((s.put MAC_SCAN_STAT_RESTARTED k 1).raise (266 + 16 * k))

/-- The link of port `p` changes during scans of its pair (R135). -/
def scanLink (p : Nat) (s : State) : State := overList (fun k t => scanChange k p t) (scansOf s p) s

/-- Map entry `h` − 1 filled by a response (R133, R134). -/
def scanFill (k h port id rtt : Nat) (s : State) : State :=
  let base := k * 1024 + 4 * (h - 1)
  let w1 := s.get SCAN_MAP (base + 1)
  let two := s.get MAC_SCAN_STAT_STATE k == 2
  let lo := id % 2 ^ 32
  let same := bitOf w1 29 && s.get SCAN_MAP base == lo && w1 % 2 ^ 16 == id / 2 ^ 32 && bitsOf w1 24 5 == port
  let fresh := !bitOf w1 29 && !bitOf w1 30
  let w1' := id / 2 ^ 32 + h % 256 * 2 ^ 16 + port * 2 ^ 24 +
    (if !two || bitOf w1 29 then 2 ^ 29 else 0) + (if two then 2 ^ 30 else 0) + (if two && same then 2 ^ 31 else 0)
  let s := ((s.put SCAN_MAP base lo).put SCAN_MAP (base + 1) w1').put SCAN_MAP (base + 2) rtt
  let s := if fresh then s.put MAC_SCAN_STAT_NODES k (s.get MAC_SCAN_STAT_NODES k + 1) else s
  if two && same then s.put MAC_SCAN_STAT_CONFIRMED k (s.get MAC_SCAN_STAT_CONFIRMED k + 1) else s

/-- A frame on either port of the pair that answers the probe (R133, R135). -/
def scanResponse (k : Nat) (r : RxFrame) (s : State) : State :=
  let st := s.get MAC_SCAN_STAT_STATE k
  let h := s.get SCAN_HOP k
  let ours := decide (r.port.val = k) || decide (r.port.val = s.get MAC_CFG_RING_PEER k)
  if (st = 1 ∨ st = 2) ∧ ours = true ∧ r.fcsOk = true ∧ be16 r.bytes (s.get MAC_SCAN_TPL_HOP_OFF k) = h ∧
      s.get CORE_COUNT 0 ≤ s.get SCAN_END k then
    let id := beNum r.bytes (s.get MAC_SCAN_RSP_ID_OFF k) 6
    if id = 0 then scanPassEnd k s
    else if s.flag MAC_SCAN_CTRL_CHG_EN k && bitOf (octet r.bytes (s.get MAC_SCAN_RSP_CHG_OFF k)) 0 then
      scanChange k r.port.val s
    else
      let ts := ingressStamp s r.port.val (frameDomain s r.port.val r.bytes) r.age r.phase
      let rtt := (ts + 2 ^ 40 - s.get SCAN_TS k) % 2 ^ 40 / 256
      let s := scanFill k h r.port.val id rtt s
      if h < max 1 (s.get MAC_SCAN_CTRL_MAXHOP k) then sendProbe k (h + 1) s else scanPassEnd k s
  else s

/-- A probe without a response within TMO ends the pass (R133). -/
def scanTimeout (k : Nat) (s : State) : State :=
  if (s.get MAC_SCAN_STAT_STATE k = 1 ∨ s.get MAC_SCAN_STAT_STATE k = 2) ∧ s.get SCAN_END k ≤ s.get CORE_COUNT 0 then
    scanPassEnd k s
  else s

/-- A write of ADDR: a non-zero one only to a CONFIRMED entry (R134). -/
def scanAddrWrite (k n v : Nat) (s : State) : State :=
  if v % 2 ^ 16 = 0 ∨ bitOf (s.get SCAN_MAP (k * 1024 + 4 * n + 1)) 31 = true then
    s.put SCAN_MAP (k * 1024 + 4 * n + 3) (v % 2 ^ 16)
  else s

/-! ### Link up and down (R126) -/

/-- A port's link goes down: its queued copies are discarded (04 R105) and a scan sees the change. -/
def macLinkDown (p : Nat) (s : State) : State :=
  if s.flag MAC_STAT_LINK p then
    let s := (restartLane p s).put SBD_PORT_PREEMPT_STATUS p 0
    scanLink p ((dropPort p s).raise (257 + 16 * p))
  else restartLane p s

/-- The rate that a link resolves to: fixed by the mode, forced, or what both ends settled on (R113). -/
def linkSpeed (s : State) (p sp : Nat) : Nat :=
  match s.get MAC_CFG_MODE p with
  | 1 => 2
  | 2 => 3
  | 5 | 6 => 5
  | _ => if s.flag MAC_CFG_AN_EN p then sp else s.get MAC_CFG_SPEED p

/-- The mode has the rate (R113, column Rates). With a forced rate outside it, the codes 6 and 7 of SPEED among them, no link comes
up (DESIGN CHOICE, log entry 151). -/
def rateOk (m sp : Nat) : Bool :=
  match m with
  | 0 | 3 => decide (sp ≤ 2)
  | 4 => decide (sp ≤ 5)
  | _ => true

/-- Half duplex is possible (R114): MODE 0 at 10 or 100 Mbit/s, no ring role, no cyclic list. -/
def mayHalf (s : State) (p sp : Nat) : Bool :=
  s.get MAC_CFG_MODE p == 0 && decide (sp ≤ 1) && s.get MAC_CFG_RING_ROLE p % 3 == 0 && !s.flag MAC_CYC_CTRL_EN p

/-- A forced half duplex counts, or no longer counts, on a link that is up (R114). -/
def refreshDuplex (p : Nat) (s : State) : State :=
  if s.flag MAC_STAT_LINK p && s.get MAC_CFG_MODE p == 0 && !s.flag MAC_CFG_AN_EN p then
    s.putFlag MAC_STAT_FDX p (!mayHalf s p (s.get MAC_STAT_SPEED p) || !s.flag MAC_CFG_HDX p)
  else s

/-- The port can have a link: enabled, its domain on, and the SerDes reference present (R126, 01 R15, R16). -/
def linkPossible (s : State) (p : Nat) : Bool :=
  s.flag MAC_CFG_EN p && s.domOn (if p < 16 then domPhy p else domSerdes p) &&
    (decide (p < 16) || s.flag CLK_STAT_SERDES_REF_OK 0)

/-- A port's link comes up (R126): rate `sp` and duplex as the partner settled, the variable parts measured (02 R44). -/
def macLinkUp (p sp : Nat) (fdx : Bool) (tx rx : Nat) (s : State) : State :=
  if s.flag MAC_STAT_LINK p || !linkPossible s p || !rateOk (s.get MAC_CFG_MODE p) (linkSpeed s p sp) then s
  else
    let v := linkSpeed s p sp
    let full := !mayHalf s p v || (if s.flag MAC_CFG_AN_EN p then fdx else !s.flag MAC_CFG_HDX p)
    let s := ((s.put MAC_STAT_LINK p 1).put MAC_STAT_SPEED p v).putFlag MAC_STAT_FDX p full
    let s := (s.put MAC_STAT_TX_READY p 1).putFlag MAC_STAT_AN_DONE p
      (s.flag MAC_CFG_AN_EN p && s.get MAC_CFG_MODE p != 2)
    let s := if p < 16 then s else (s.put MAC_STAT_LANE p laneUp).put LANE_GOOD p 0
    let s := if p < 16 ∧ v ≤ 1 then varLinkUp p 0 0 s else varLinkUp p tx rx s
    scanLink p ((preemptLinkUp p s).raise (256 + 16 * p))

/-- A write of MAC_CFG (R113, R126, R129): the fields, then EN; a change of MODE, SPEED or HDX while EN is 1 restarts
the link. -/
def macCfgWrite (p v : Nat) (s : State) : State :=
  let lock := s.flag MAC_CFG_LOCK p
  let old := (s.get MAC_CFG_MODE p, s.get MAC_CFG_SPEED p, s.get MAC_CFG_HDX p)
  let was := s.flag MAC_CFG_EN p
  let s := (((s.put MAC_CFG_AN_EN p (bitsOf v 5 1)).put MAC_CFG_SPEED p (bitsOf v 6 3)).put MAC_CFG_HDX p
    (bitsOf v 9 1)).put MAC_CFG_FCS_STRIP p (bitsOf v 10 1)
  let s := if lock then s else
    (((s.put MAC_CFG_MODE p (bitsOf v 1 4)).put MAC_CFG_RING_ROLE p (bitsOf v 11 2)).put MAC_CFG_RING_PEER p
      (bitsOf v 13 5)).put MAC_CFG_TAG_BY_COURSE p (bitsOf v 18 1)
  let s := if bitOf v 31 then s.put MAC_CFG_LOCK p 1 else s
  if !bitOf v 0 then
    if was then macLinkDown p (s.put MAC_CFG_EN p 0) else s
  else if !enableOk s p then
    let s := ((s.put MAC_CFG_EN p 0).put MAC_STAT_CFG_ERR p 1).raise (271 + 16 * p)
    if was then macLinkDown p s else s
  else
    let s := s.put MAC_CFG_EN p 1
    if !was then restartLane p s
    else if old = (s.get MAC_CFG_MODE p, s.get MAC_CFG_SPEED p, s.get MAC_CFG_HDX p) then refreshDuplex p s
    else macLinkDown p s

/-! ### Lanes: margin and retrain (R127, R128) -/

/-- A lane enters DEGRADED (R128). -/
def macDegrade (p : Nat) (s : State) : State :=
  (((s.put MAC_STAT_LANE p laneDegraded).put LANE_GOOD p 0).sat MAC_CNT_LANE_DEGRADES p).raise (262 + 16 * p)

/-- A margin measurement, every 1 ms (R127, R128). -/
def macMargin (p m : Nat) (s : State) : State :=
  let s := s.put MAC_STAT_MARGIN p m
  let lane := s.get MAC_STAT_LANE p
  if p < 16 ∨ (lane ≠ laneUp ∧ lane ≠ laneDegraded) then s
  else
    let low := decide (m < s.get MAC_LANE_THRESH p)
    let s := if !low then s.put LANE_LOW p 0
      else if s.flag LANE_LOW p then s
      else ((s.put LANE_LOW p 1).put LANE_REQ p 1).raise (261 + 16 * p)
    if m < s.get MAC_LANE_FLOOR p then (if lane = laneUp then macDegrade p s else s.put LANE_GOOD p 0)
    else if lane = laneDegraded then
      let n := if low then 0 else s.get LANE_GOOD p + 1
      if max 1 (s.get MAC_LANE_RECOVER_N p) ≤ n then
        ((s.put LANE_GOOD p 0).put MAC_STAT_LANE p laneUp).raise (263 + 16 * p)
      else s.put LANE_GOOD p n
    else s

/-- Software requests a retrain window of a SerDes port (R127). -/
def macRetrainReq (p : Nat) (s : State) : State := if p < 16 then s else s.put LANE_REQ p 1

/-- The requested window is granted at an instant that R127 allows, and the re-tune starts. -/
def macRetrainWindow (p : Nat) (s : State) : State :=
  let lane := s.get MAC_STAT_LANE p
  if s.flag LANE_REQ p && (lane == laneUp || lane == laneDegraded) && !protectedWithin s p (30000 * 256) &&
      !(timedWaits s p).any (fun t => decide (t ≤ 30000 * 256)) then
    (((s.put LANE_REQ p 0).put LANE_WAS p lane).put MAC_STAT_LANE p laneRetrain).put MAC_STAT_TX_READY p 0
  else s

/-- A retrain ends in UP or DEGRADED, and the variable part is measured again (R127, 02 R44). -/
def macRetrainDone (p : Nat) (degraded : Bool) (tx rx : Nat) (s : State) : State :=
  if s.get MAC_STAT_LANE p = laneRetrain then
    let s := (s.put MAC_STAT_LANE p (if degraded then laneDegraded else laneUp)).put MAC_STAT_TX_READY p 1
    let s := if degraded ∧ s.get LANE_WAS p = laneUp then s.sat MAC_CNT_LANE_DEGRADES p else s
    varTrack p tx rx (((s.put LANE_GOOD p 0).sat MAC_CNT_LANE_RETRAINS p).raise (264 + 16 * p))
  else s

/-! ### Timed transmission (R122 to R125) -/

/-- The transmit symbol of a port in 1/1,280 ns (R124, R131); for a trunk port, one octet time (log entry 23). -/
def symbolTime (s : State) (p : Nat) : Nat :=
  if p < 32 then
    match s.get MAC_STAT_SPEED p with
    | 0 => 1024000
    | 1 => 102400
    | 2 => 10240
    | 3 => 4096
    | 4 => 2048
    | _ => 4096
  else 10240000 / portRate s p

/-- What R124 says of a timed frame whose E has come. -/
inductive Timed where
  | early | start | wait
  | drop (why : Nat)
deriving DecidableEq, Repr

/-- Rules 1 and 2 of R124 for a frame of class `c` and `n` octets on port `p` at its E: why it is dropped (4 link, 2 lane, 1 gate),
if it is. -/
def timedFails (s : State) (p c n : Nat) : Option Nat :=
  if !portLink s p then some 4
  else if !portReady s p then some 2
  else if !gateFits s p c n then some 1
  else none

/-- Rules 3 and 4 of R124 for a frame that passed them, with E at `e` in domain `d`: dropped past the limit (3), else started once
the wire is free and the transmitter sends. Line time moves in core clock cycles, so a limit is not shorter than one (DESIGN CHOICE,
log entry 193). -/
def timedGo (s : State) (p d e late : Nat) : Timed :=
  if elapsed e (s.now d) * 5 > max 1600 (symbolTime s p + late * 1600) then .drop 3
  else if portLink s p && portReady s p && wireYields s p then .start
  else .wait

/-- R124 for a frame with E at `e` in domain `d`; `judged` says that rules 1 and 2 were applied at its E and let it wait. -/
def timedVerdict (s : State) (judged : Bool) (p c n d e late : Nat) : Timed :=
  if !s.reached d e then .early
  else match (if judged then none else timedFails s p c n) with
    | some why => .drop why
    | none => timedGo s p d e late

/-- A timed frame of a field port is dropped (R124). -/
def lateDrop (p why : Nat) (s : State) : State :=
  (s.put MAC_STAT_LATE_WHY p why).count1 MAC_CNT_TX_TX_LATE_DROP p (258 + 16 * p) why

/-- A frame that is in no queue starts on port `p`: it is stamped, takes the wire, and leaves. -/
def startTimed (p c : Nat) (fr : List Byte) (bad : Bool) (s : State) : State :=
  let (out, ts, _, ph, s) := stampFrame p none fr (preempt p s)
  match out with
  | none => s
  | some g =>
    sendOut p g ts bad (mirror 1 p c (egressStamp s p (s.get TMB_PCFG_DEF_DOM p) ph) none false (g.take (g.length - 4))
      (takeWire p c 0 (onWireLen s p g) s))

/-- The frame of a cyclic entry is still to be handled in this cycle (R122, R124): a port in the node role sends none (R131). -/
def cycPending (s : State) (p e : Nat) : Bool :=
  s.started && (cycEntries s p).contains e && !s.bit MAC_CYC_DONE p e && ringRole s p != 2

/-- Assembly of the frame of a cyclic entry begins (R123, 03 R65): the template overlaid from the out half, in 150 ns plus 1 ns for
each started 64 mapped bytes. One that would not finish by E leaves nothing. -/
def txAssembly (p e : Nat) (ecc : Ecc) (s : State) : State :=
  let tag := bitsOf (cycWord s p e 0) 8 8
  let mapped := (((s.liveEntries p (s.active p)).filter (fun x => x.kind = 2 && x.frame = tag)).map
    (fun x => (s.pairsOf x).length)).sum
  let d := s.get LIM_CYC_CTRL_DOM 0
  let at' := cycE s p e (s.get LIM_CUR 0)
  if cycPending s p e && !s.assembled.any (fun a => a.port = p && a.entry = e) && !s.reached d at' &&
      decide ((150 + (mapped + 63) / 64) * 256 ≤ untilAt s d at') then
    let b := s.bytes (sbBase + cycWord s p e 3 % 2 ^ 26) (cycWord s p e 2 % 2 ^ 14)
    let a : Assembled := ⟨p, e, overlayTx s p tag b, ecc = .uncorr⟩
    { eccSeen ecc s with assembled := s.assembled ++ [a] }
  else s

/-- A cyclic entry is done for this cycle. -/
def cycOff (p e : Nat) (s : State) : State :=
  { s.putBit MAC_CYC_DONE p e true with assembled := s.assembled.filter (fun a => !(a.port = p && a.entry = e)) }

/-- One copy of a cyclic frame at its E, on port `q` (R124 rules 1 and 2): a gated port counts it (18 R420), a drop is counted
(5: the assembly had not finished), and any other waits for the wire. -/
def timedJudge (q list e c n at' : Nat) (a : Option Assembled) (s : State) : State :=
  if gatedPort s q then s.sat RDN_CNT_GATED_TX 0
  else match timedFails s q c n with
    | some why => lateDrop q why s
    | none =>
      match a with
      | none => lateDrop q 5 s
      | some a =>
        { s with timed := s.timed ++ [⟨q, list, e, c, withFcs a.bytes, a.bad, at', s.get LIM_CYC_CTRL_DOM 0⟩] }

/-- The frame of a cyclic entry at its E (R123, R124): its copies are judged, with TWIN in the master role one for each port of
the ring (R130). -/
def timedDue (p e : Nat) (s : State) : State :=
  let at' := cycE s p e (s.get LIM_CUR 0)
  if !cycPending s p e || !s.reached (s.get LIM_CYC_CTRL_DOM 0) at' then s
  else
    let w0 := cycWord s p e 0
    let c := bitsOf w0 1 3
    let n := cycWord s p e 2 % 2 ^ 14 + 4
    let a := s.assembled.find? (fun a => a.port = p && a.entry = e)
    let twin := bitOf w0 4 && ringRole s p == 1
    let s := timedJudge p p e c n at' a (cycOff p e s)
    if twin then timedJudge (s.get MAC_CFG_RING_PEER p) p e c n at' a s else s

/-- A copy that waits for the wire starts, waits on, or is dropped past its limit (R124 rules 3 and 4). -/
def timedTry (x : TimedCopy) (s : State) : State :=
  let gone : State := { s with timed := s.timed.erase x }
  match timedGo s x.port x.dom x.at' (s.get MAC_CYC_CTRL_LATE_MAX x.port) with
  | .start => startTimed x.port x.cls x.bytes x.bad gone
  | .drop why => lateDrop x.port why gone
  | .wait | .early => s

/-- The copies of a cyclic entry's frame that wait for the wire. -/
def timedOf (s : State) (p e : Nat) : List TimedCopy := s.timed.filter (fun x => x.list = p && x.entry = e)

/-- The frame of a cyclic entry at its E, or once the wire may be free (R123, R124, R130). -/
def timedFrameEgress (p e : Nat) (s : State) : State :=
  let s := timedDue p e (releaseWires s)
  overList timedTry (timedOf s p e) s

/-- Every cyclic frame whose E has come by the end of its cycle is judged, and waits for the wire into the next cycle if need be
(R124). -/
def timedSweep (s : State) : State :=
  if s.started then overRange (fun p t => overRange (timedDue p) 64 t) 32 s else s

/-- A direct-transmit frame leaves the list of accepted ones. -/
def takeDirect (x : Direct) (s : State) : State := { s with directs := s.directs.filter (fun y => y ≠ x) }

/-- A direct-transmit frame has been judged and waits for the wire (R124). -/
def armDirect (x : Direct) (s : State) : State :=
  { s with directs := s.directs.map (fun y => if y = x then { y with armed := true } else y) }

/-- The first accepted direct-transmit frame of a port whose launch time has come (R125). -/
def dueDirect (s : State) (p : Nat) : Option Direct := s.directs.find? (fun x => x.port = p && s.reached x.dom x.launch)

/-- What R124 says of an accepted direct-transmit frame. -/
def directVerdict (s : State) (x : Direct) (f : Frame) : Timed :=
  timedVerdict s x.armed x.port x.cls (onWireLen s x.port f.bytes) x.dom x.launch (s.get MAC_CYC_CTRL_LATE_MAX x.port)

/-- A direct-transmit frame at its launch time is handled as a timed frame (R124, R125); at a gated port it completes with
TX_NOT_READY (18 R420). Once it could start it is lost where its first octets cannot be read, or to collisions (R114, 04 R80). -/
def directLaunch (p : Nat) (coll : Bool) (head body : Ecc) (s : State) : State :=
  let s := releaseWires s
  match dueDirect s p with
  | none => s
  | some x =>
    match s.frame x.frame with
    | none => takeDirect x s
    | some f =>
      if gatedPort s p then dropRef x.frame 1 ((takeDirect x s).sat MAC_CNT_TX_TX_NOT_READY p) else
      match directVerdict s x f with
      | .early => s
      | .wait => armDirect x s
      | .drop why => dropRef x.frame 2 (lateDrop p why (takeDirect x s))
      | .start => startRead p x.cls f coll head body id (takeDirect x (preempt p s))

/-- A timed frame that could not start in time is dropped (R124 rule 4): of cyclic entry `e`, or the first accepted
direct-transmit frame that is due. -/
def timedLateDrop (p : Nat) (e : Option Nat) (s : State) : State :=
  let s := releaseWires s
  match e with
  | some e =>
    let tooLate (t : State) (x : TimedCopy) : Bool :=
      timedGo t x.port x.dom x.at' (t.get MAC_CYC_CTRL_LATE_MAX x.port) == .drop 3
    let t := timedDue p e s
    if (timedOf t p e).any (tooLate t) then overList timedTry ((timedOf t p e).filter (tooLate t)) t else s
  | none =>
    match dueDirect s p with
    | some x =>
      match s.frame x.frame with
      | some f =>
        if !gatedPort s p && directVerdict s x f == .drop 3 then dropRef x.frame 2 (lateDrop p 3 (takeDirect x s)) else s
      | none => s
    | none => s

/-- The bank in force flips, and the new bank's entries are checked (R122). -/
def cycFlip (p : Nat) (s : State) : State :=
  let b := s.get MAC_CYC_CTRL_BANK_NEXT p
  if b = s.get MAC_STAT_CYC_BANK p then s
  else
    let r := cycCheck s p b (s.get LIM_CYC_PERIOD_PERIOD 0)
    let s := ((s.put MAC_STAT_CYC_BANK p b).put MAC_CYC_OK p r.1).raise (270 + 16 * p)
    if r.2 then (s.put MAC_STAT_CFG_ERR p 1).raise (271 + 16 * p) else s

/-- What a boundary does to a port's cyclic list (R122, 07 R161, R167): the flip, with FOLLOW_COMMIT only where its
table committed; then EN; the frames of the cycle that ended are forgotten. -/
def cycBoundary (p : Nat) (s : State) : State :=
  let s := if !s.flag MAC_CYC_CTRL_FOLLOW_COMMIT p || s.bit TAB_SWAPPED p 0 then cycFlip p s else s
  (s.put MAC_CYC_ON p (if s.flag MAC_CYC_HALT p then 0 else s.get MAC_CYC_CTRL_EN p)).put MAC_CYC_DONE p 0

/-! ### Reception (R115 to R118) -/

/-- The first rule that matches a frame, if any: its ACT and tag (R116, R117). -/
def classify (s : State) (p : Nat) (fr : List Byte) : Option (Nat × Nat × Nat) :=
  let w (r k : Nat) : Nat := s.get MAC_CLS (p * 64 + 4 * r + k)
  (List.range 16).findSome? (fun r =>
    let w0 := w r 0
    let off := w r 2 % 64
    let ety := !bitOf w0 16 || w r 1 % 65536 == etype fr
    let fld := !bitOf w0 17 || (decide (off ≤ 62) && decide (off + 2 ≤ fr.length) &&
      be16 fr off &&& (w r 3 / 65536) == (w r 3 % 65536) &&& (w r 3 / 65536))
    if bitOf w0 0 && ety && fld then
      some (bitsOf w0 1 2, bitsOf w0 8 8,
        max (if bitOf w0 16 then etypeAt fr + 1 else 0) (if bitOf w0 17 then off + 1 else 0))
    else none)

/-- A frame error is counted; the first since the counters were read raises MAC_RX_ERR (R115). -/
def rxError (F : Fld) (p : Nat) (s : State) : State :=
  let first := s.get MAC_CNT_RX_RX_FCS p = 0 ∧ s.get MAC_CNT_RX_RX_LEN p = 0
  if first then (s.sat F p).raise (259 + 16 * p) else s.sat F p

/-- Checksum failures of a good frame (R118). -/
def rxChecksums (p : Nat) (fr : List Byte) (s : State) : State :=
  let s := if isIPv4 fr && !l3Good fr then s.sat MAC_CNT_RX2_RX_CSUM p else s
  if hasL4 fr && !l4Good fr then s.sat MAC_CNT_RX2_RX_CSUM p else s

/-- A frame enters the pass-through (R131); at a rate outside the table of R131 there is none. -/
def enterPass (p : Nat) (fr : List Byte) (tag : Option Nat) (decision : Nat) (bad : Bool) (bank first : Nat) (st : Stamps)
    (s : State) : State :=
  if passMode (s.get MAC_CFG_MODE p) (s.get MAC_STAT_SPEED p) then
    { s with passing := s.passing ++ [⟨p, fr, tag, decision, bad, bank, first, st⟩] }
  else s

/-- How many of a frame's octets have arrived on a port, when the first crossed at core clock count `first`. -/
def octetsIn (s : State) (p first : Nat) : Nat := (s.get CORE_COUNT 0 - first) * portRate s p / 6400 + 1

/-- The core clock count at which octet `k` of a frame crosses that came in on port `p` from count `first` on. -/
def octetAt (s : State) (p first k : Nat) : Nat := first + (k * 6400 + portRate s p - 1) / portRate s p

/-- The Tablature takes a frame when its last octet has crossed: now, or later if it is still arriving (03 R66). `first` is the core
clock count at which its first octet crossed. -/
def tabTake (tag : Nat) (r : RxFrame) (valid : Bool) (first : Nat) (s : State) : State :=
  let ends := octetAt s r.port.val first (r.bytes.length - 1)
  if ends ≤ s.get CORE_COUNT 0 then tabReceive r.port.val tag r valid s
  else { s with arriving := s.arriving ++ [⟨tag, valid, first, ends, r⟩] }

/-- The last octet of a frame of the Tablature has crossed (03 R66). -/
def arrivalEnd (x : Arriving) (s : State) : State :=
  tabReceive x.frame.port.val x.tag x.frame x.valid { s with arriving := s.arriving.filter (fun y => y ≠ x) }

/-- The frames whose last octet has crossed by now. -/
def arrivalsEnd (s : State) : State :=
  overList arrivalEnd (s.arriving.filter (fun x => decide (x.ends ≤ s.get CORE_COUNT 0))) s

/-- A boundary comes while a frame is arriving whose first octet crossed at count `first` (03 R67): the octets that have crossed, or
one boundary more since they were counted. -/
def crossBoundary (s : State) (first : Nat) (r : RxFrame) : RxFrame :=
  if r.crossed = 0 then
    { r with crossed := min r.bytes.length (octetsIn s r.port.val first) }
  else { r with spans := r.spans + 1 }

/-- A boundary comes while frames are arriving, or are held for a Course's tag (03 R67). -/
def arrivalsCross (s : State) : State :=
  { s with
    arriving := s.arriving.map (fun x => { x with frame := crossBoundary s x.first x.frame })
    hooked := s.hooked.map (fun h => { h with frame := crossBoundary s h.first h.frame }) }

/-- A frame takes the path decided for it (R116): cyclic with a tag, switched, or unmatched. `first` is the core clock count at
which its first octet crossed, `st` what it was stamped with. -/
def macPath (r : RxFrame) (bad : Bool) (path : Option (Nat × Nat × Nat)) (first : Nat) (st : Stamps) (s : State) : State :=
  let p := r.port.val
  let bank := s.bankOf p r.crossed r.spans
  let unmatched : State :=
    if ringRole s p = 2 then enterPass p r.bytes none 0 bad bank first st s else switchFrame p r.bytes bad st s
  match path with
  | some (0, tag, dec) =>
    let s := tabTake tag r (!bad) first (s.sat MAC_CNT_RX2_RX_CYCLIC p)
    if ringRole s p = 2 then enterPass p r.bytes (some tag) dec bad bank first st s else s
  | some (1, _, _) => switchFrame p r.bytes bad st s
  | some _ => unmatched
  | none => unmatched

/-- A frame arrived bad (R115): too short, too long, or with a wrong FCS. -/
def rxBad (s : State) (r : RxFrame) : Bool :=
  !r.fcsOk || decide (r.bytes.length < 64) || decide (portMaxLen s r.port.val < r.bytes.length)

/-- A held frame takes its path, with the octets that the Course has modified (07 R175, R176). -/
def hookRelease (h : HookHeld) (path : Option (Nat × Nat × Nat)) (s : State) : State :=
  macPath h.frame (rxBad s h.frame) path h.first h.stamps { s with hooked := s.hooked.filter (fun x => x ≠ h) }

/-- The frame held for a Course's tag on port `p` counts as unmatched (07 R175). -/
def hookExpire (p : Nat) (s : State) : State :=
  match s.hooked.find? (fun h => h.frame.port.val = p) with
  | some h => hookRelease h none s
  | none => s

/-- Frames whose octet 64 has crossed without a tag count as unmatched (R116). -/
def hooksExpire (s : State) : State :=
  overList (fun (h : HookHeld) (t : State) =>
    if h.deadline ≤ t.get CORE_COUNT 0 then hookExpire h.frame.port.val t else t) s.hooked s

/-- What has arrived of a frame's first octets goes into the hook area of the port's owner, and LEN shows it (07 R175). -/
def hookFill (x : HookIn) (s : State) : State :=
  match portOwner s x.port with
  | some n =>
    let have' := s.get CRS_HOOK_LEN (n * 32 + x.port)
    let m := min x.bytes.length (octetsIn s x.port x.first)
    let s := if s.domOn n then s.putSram (n * 0x8_0000 + 0x7_F800 + 64 * x.port + have') ((x.bytes.take m).drop have') else s
    let s := s.put CRS_HOOK_LEN (n * 32 + x.port) m
    if m = x.bytes.length then { s with hookIn := s.hookIn.filter (fun y => y ≠ x) } else s
  | none => { s with hookIn := s.hookIn.filter (fun y => y ≠ x) }

/-- The octets that have arrived by now (07 R175). -/
def hooksFill (s : State) : State := overList hookFill s.hookIn s

/-- The octets of a frame on port `p` whose first crossed at count `first` go into the hook area, replacing those of the frame before
(07 R175, R176). -/
def hookArea (p first : Nat) (fr : List Byte) (s : State) : State :=
  let x : HookIn := ⟨p, first, fr.take 64⟩
  let s := match portOwner s p with
    | some n => s.put CRS_HOOK_LEN (n * 32 + p) 0
    | none => s
  hookFill x { s with hookIn := s.hookIn.filter (fun y => y.port ≠ p) ++ [x] }

/-- A frame received on a field port (R114 to R118). The command stands at its octet 15 or later, at its end if it is shorter; what
becomes of the Tablature's bytes waits for its last octet. A frame of wrong length counts in RX_LEN alone, its FCS good or not (DESIGN CHOICE, log entry 152); a tagged one counts as ended bad
for the Tablature (log entry 153). -/
def macReceive (r : RxFrame) (s : State) : State :=
  let p := r.port.val
  if !s.flag MAC_STAT_LINK p then s
  else
    let n := r.bytes.length
    let size := decide (n < 64) || decide (portMaxLen s p < n)
    let bad := rxBad s r
    let s := if size then rxError MAC_CNT_RX_RX_LEN p s
      else if !r.fcsOk then rxError MAC_CNT_RX_RX_FCS p s
      else rxChecksums p (r.bytes.take (n - 4)) (s.sat MAC_CNT_RX_RX_OK p)
    if !bad && etype r.bytes == 0x8808 then
      let op := be16 r.bytes (payloadAt r.bytes)
      if op = 0x0001 ∨ op = 0x0101 then s.sat MAC_CNT_RX2_RX_PAUSE p else s
    else
      let first := s.get CORE_COUNT 0 - r.age
      let st := stampsAt s p r.bytes r.age r.phase
      if s.flag MAC_CFG_TAG_BY_COURSE p then
        let s := hookArea p first r.bytes (hookExpire p s)
        let s := if 16 ≤ n then s.raise (2080 + p) else s
        { s with hooked := s.hooked ++ [⟨octetAt s p first (min 64 n), first, r, st⟩] }
      else
        let s := if ringRole s p = 2 then hookArea p first r.bytes s else s
        macPath r bad (classify s p r.bytes) first st s

/-- A write of TAG with SET by the owning Course: the frame held on the port takes the cyclic path when the tag comes
before octet 64; a later write is discarded (07 R175). At 10 Gbit/s none comes in time. The decision octet of a frame that its
Course tags is taken as octet 63 (DESIGN CHOICE, log entry 154). -/
def hookTag (p tag : Nat) (s : State) : State :=
  match s.hooked.find? (fun h => h.frame.port.val = p) with
  | some h =>
    if s.get CORE_COUNT 0 < h.deadline ∧ portRate s p < 10000 then hookRelease h (some (0, tag, 63)) s
    else if s.get CORE_COUNT 0 < h.deadline then s
    else hookExpire p s
  | none => s

/-! ### Pass-through (R131, R132) -/

/-- A byte that came too late for the passing frame (R131). -/
def ptLate (p : Nat) (s : State) : State := s.count1 MAC_CNT_PT_PT_LATE p (268 + 16 * p)

/-- Octet `j` of a frame whose first octet crossed at `first` has left the ring peer (R131): it leaves the through-latency after it
came, 960 ns at 100 Mbit/s and 96 ns at the other rates. -/
def octetLeft (s : State) (p first j : Nat) : Bool :=
  decide ((if s.get MAC_STAT_SPEED p = 1 then 7680 else 768) * portRate s p + j * 64000 ≤
    (s.get CORE_COUNT 0 - first) * 10 * portRate s p)

/-- The bytes of a hook write that are enabled and lie in a frame of `n` octets: offset and value. -/
def hookBytes (off en data n : Nat) : List (Nat × Byte) :=
  (List.range 4).filterMap (fun k =>
    if bitOf en k && decide (off + k < n) then some (off + k, BitVec.ofNat 8 (bitsOf data (8 * k) 8)) else none)

/-- A hook write to the frame passing in through a port, or held there for its tag; bytes whose octets have left are discarded,
and such a write, or one without a frame, counts as late. While the unit does not own, hook writes on a gated port are
suppressed (07 R176, R131, 18 R420). -/
def hookWrite (p off en data : Nat) (s : State) : State :=
  let patch (first : Nat) (bs : List Byte) : List Byte × Bool :=
    let ws := hookBytes off en data bs.length
    (ws.foldl (fun b w => if octetLeft s p first w.1 then b else b.set w.1 w.2) bs, ws.any (fun w => octetLeft s p first w.1))
  if !owning s && s.bit RDN_PORT_GATE_MASK 0 p then s
  else match s.passing.find? (fun x => x.inPort = p), s.hooked.find? (fun h => h.frame.port.val = p) with
  | some x, _ =>
    let (bs, late) := patch x.first x.bytes
    let s := { s with passing := s.passing.map (fun y => if y = x then { y with bytes := bs } else y) }
    if late then ptLate p s else s
  | none, some h =>
    if ringRole s p = 2 then
      let (bs, late) := patch h.first h.frame.bytes
      let s := { s with hooked := s.hooked.map (fun y => if y = h then { y with frame := { y.frame with bytes := bs } } else y) }
      if late then ptLate p s else s
    else ptLate p s
  | none, none => ptLate p s

/-- The bytes that TX entries write in passing, from the copy of the table that maps the frame (03 R74): those at least 16 octets
after the decision octet; an earlier one is late (R131). The octets, how many are late, and whether any is read. -/
def passOverlay (x : Passing) (s : State) : List Byte × Nat × Bool :=
  match x.tag with
  | none => (x.bytes, 0, false)
  | some tag =>
    let es := (s.liveEntries x.inPort x.bank).filter (fun e => e.kind = 2 && e.frame = tag)
    let prs := (es.flatMap s.pairsOf).filter (fun q => decide (q.1 < x.bytes.length))
    let h := 1 - s.fillHalf
    let inTime := prs.filter (fun q => decide (x.decision + 16 ≤ q.1))
    (inTime.foldl (fun f q => f.set q.1 (s.byte (s.slotAddr h q.2))) x.bytes, prs.length - inTime.length, !inTime.isEmpty)

/-- Both ports of a pair show the excess of the direction with the larger magnitude, and its peak. -/
def ebShow (p k : Nat) (s : State) : State :=
  let e := if (s.getS EB_DIR k).natAbs ≤ (s.getS EB_DIR p).natAbs then s.getS EB_DIR p else s.getS EB_DIR k
  let peak (s : State) (x : Nat) : State := s.put MAC_EB_PEAK x (max (s.get MAC_EB_PEAK x) (min 255 e.natAbs))
  peak (peak ((s.putS MAC_EB_EXCESS p e).putS MAC_EB_EXCESS k e) p) k

/-- Core clock cycles that 8 symbols of a port last (R131, R132). -/
def eightSymbols (s : State) (p : Nat) : Nat := (symbolTime s p * 8 + 1599) / 1600

/-- A direction whose idle has lasted 8 symbols since its last frame left is back at centre fill (R132). -/
def ebCentre (p : Nat) (s : State) : State :=
  if s.get EB_DIR p ≠ 0 ∧ s.get EB_AT p ≤ s.get CORE_COUNT 0 then ebShow p (s.get MAC_CFG_RING_PEER p) (s.put EB_DIR p 0) else s
def ebCentres (s : State) : State := overRange ebCentre 32 s

/-- The frame passing in through port `p` leaves on its ring peer (R131, R132). `excess` is the elastic buffer's
departure from centre during the frame, in symbols, signed: beyond 8 it is an overrun and the frame ends with a forced
error, and so does one for which the read of a written byte, `ecc`, met an uncorrectable word (04 R80). -/
def passThrough (p : Nat) (ecc : Ecc) (excess : Int) (s : State) : State :=
  match s.passing.find? (fun x => x.inPort = p) with
  | none => s
  | some x =>
    let k := s.get MAC_CFG_RING_PEER p
    let s := { s with passing := s.passing.filter (fun y => y ≠ x) }
    let past := decide (8 < excess.natAbs)
    let s := ebShow p k ((s.putS EB_DIR p excess).put EB_AT p (s.get CORE_COUNT 0 + eightSymbols s p))
    let s := if past then ebShow p k (((s.sat MAC_CNT_PT_ELASTIC_OVERRUN p).raise (260 + 16 * p)).put EB_DIR p 0) else s
    let quiet := !owning s && s.bit RDN_PORT_GATE_MASK 0 p
    let r := if quiet then (x.bytes, 0, false) else passOverlay x s
    let s := overRange (fun _ t => ptLate p t) r.2.1 s
    let s := if r.2.2 then eccSeen ecc s else s
    let bad := x.bad || past || (r.2.2 && ecc == .uncorr)
    let s := if bad then s.sat MAC_CNT_PT_PT_BAD p else s
    if !portReady s k then s
    else
      let fr := withFcs (r.1.take (r.1.length - 4))
      let ph := s.fresh
      let ts := egressStamp s k (frameDomain s k fr) ph
      sendOut k (addResidence s p x.stamps.ts ts fr) ts bad (s.used.sat MAC_CNT_PT_PT_FWD p)

/-! ### The commands' meanings -/

/-- MAC_PORT_ENABLE (R113): a write of MAC_CFG. -/
def execMacPortEnable (q : Requester) (p : Fin 32) (v : Word) (s : State) : Result :=
  .next (s.gate q (macAddr 0 p) (macCfgWrite p v.toNat))

/-- MAC_LINK_UP (R126). -/
def execMacLinkUp (p : Fin 32) (speed : Fin 6) (fdx : Bool) (tx rx : BitVec 16) (s : State) : Result :=
  .next (macLinkUp p speed fdx tx.toNat rx.toNat s)

/-- MAC_LINK_DOWN (R126). -/
def execMacLinkDown (p : Fin 32) (s : State) : Result := .next (macLinkDown p s)

/-- MAC_MARGIN_MEASURE (R127, R128). -/
def execMacMarginMeasure (p : Fin 32) (m : Byte) (s : State) : Result := .next (macMargin p m.toNat s)

/-- MAC_RETRAIN_REQ (R127). -/
def execMacRetrainReq (q : Requester) (p : Fin 32) (s : State) : Result :=
  .next (s.gate q (macAddr 0x14 p) (macRetrainReq p))

/-- MAC_RETRAIN_WINDOW (R127). -/
def execMacRetrainWindow (p : Fin 32) (s : State) : Result := .next (macRetrainWindow p s)

/-- MAC_RETRAIN_DONE (R127). -/
def execMacRetrainDone (p : Fin 32) (degraded : Bool) (tx rx : BitVec 16) (s : State) : Result :=
  .next (macRetrainDone p degraded tx.toNat rx.toNat s)

/-- TX_ASSEMBLY (03 R65, R123). -/
def execTxAssembly (p : Fin 32) (e : Fin 64) (ecc : Ecc) (s : State) : Result := .next (txAssembly p e ecc s)

/-- TIMED_FRAME_EGRESS (R124). -/
def execTimedFrameEgress (p : Fin 32) (e : Fin 64) (s : State) : Result := .next (timedFrameEgress p e s)

/-- DIRECT_TRANSMIT_LAUNCH (R125). -/
def execDirectTransmitLaunch (x : Launch) (s : State) : Result := .next (directLaunch x.port x.coll x.head x.body s)

/-- TIMED_FRAME_LATE_DROP (R124). -/
def execTimedFrameLateDrop (p : Fin 32) (e : Option (Fin 64)) (s : State) : Result :=
  .next (timedLateDrop p (e.map (fun x => x.val)) s)

/-- PASS_THROUGH_FRAME (R131, R132). -/
def execPassThroughFrame (x : PassIn) (excess : BitVec 8) (s : State) : Result :=
  .next (passThrough x.port x.ecc excess.toInt s)

/-- SCAN_GO (R133). -/
def execScanGo (q : Requester) (p : Fin 32) (s : State) : Result := .next (s.gate q (macAddr 0x300 p) (scanGo p))

/-- SCAN_ABORT (R133). -/
def execScanAbort (q : Requester) (p : Fin 32) (s : State) : Result := .next (s.gate q (macAddr 0x300 p) (scanAbort p))

/-- SCAN_RESPONSE (R133, R135). -/
def execScanResponse (p : Fin 32) (r : RxFrame) (s : State) : Result := .next (scanResponse p r s)

/-- SCAN_TIMEOUT (R133). -/
def execScanTimeout (p : Fin 32) (s : State) : Result := .next (scanTimeout p s)

/-- SCAN_ADDR_WRITE (R134). -/
def execScanAddrWrite (q : Requester) (p : Fin 32) (n : Fin 256) (v : Word) (s : State) : Result :=
  .next (s.gate q (macAddr (0x1000 + 16 * n.val + 12) p) (scanAddrWrite p n v.toNat))

end Sys2Proof.Machine
end

