-- ==== Sys2Proof/Machine/Trunk.lean ====
section
/-! DEFINITION. Trunk lanes (spec/06_trunk_lanes.md): groups, link-up, lanes and windows, MACsec as far as it shows, slices
(03 R75 to R77), time transfer, and the reception of frames on field and trunk ports (FRAME_RECEIVE). -/

namespace Sys2Proof.Machine

/-! ### Internal cells, by lane or by trunk port -/

/-- Failed trainings at the present rate, and the rate being tried, 0 to 2, stored as 3 when it is the set rate (R139). -/
def TRAIN_FAILS : Fld := ⟨1232, 0, 2, .int, 0, .reset, .none⟩
def TRAIN_RATE : Fld := ⟨1233, 0, 2, .int, 3, .reset, .none⟩
/-- A rate change is requested; the present window is one (R140, R142). -/
def RATE_REQ : Fld := ⟨1234, 0, 1, .int, 0, .reset, .none⟩
def RATE_RUN : Fld := ⟨1235, 0, 1, .int, 0, .reset, .none⟩
/-- A synthesiser failed to lock; the core clock count at which it failed, or at which the lane's training began; and that at which
it locks, which is open (R139). -/
def SYNTH_FAILED : Fld := ⟨1236, 0, 1, .int, 0, .reset, .none⟩
def SYNTH_SINCE : Fld := ⟨1526, 0, 64, .int, 0, .reset, .none⟩
def SYNTH_AT : Fld := ⟨1527, 0, 64, .int, 0, .reset, .none⟩
/-- The packet number that a receive SA (16 × port + 4 × channel + AN) expects next (R149). -/
def MSEC_RXPN : Fld := ⟨1528, 0, 64, .int, 1, .reset, .none⟩
/-- The port's uncorrectable codewords in the last 1 ms reached UNCORR_MAX (R143). -/
def UNCORR_HIGH : Fld := ⟨1237, 0, 1, .int, 0, .reset, .none⟩
/-- Packet numbers of transmit SAs not in use, by 4 × port + AN (R152). -/
def MSEC_PN : Fld := ⟨1238, 0, 64, .int, 1, .reset, .none⟩
/-- Time transfer, by channel: sequence number of the last request, when the next is due, the response held (its number),
and by channel × 16 + domain: t2 and t4 of that response and whether it carried the domain, intervals without a response (as ttMissed counts them),
and whether the loss was reported (R153, R155). -/
def TT_SEQ : Fld := ⟨1239, 0, 16, .int, 0, .reset, .none⟩
def TT_DUE : Fld := ⟨1240, 0, 64, .int, 0, .reset, .none⟩
def TT_HAVE : Fld := ⟨1241, 0, 1, .int, 0, .reset, .none⟩
def TT_HAVE_SEQ : Fld := ⟨1242, 0, 16, .int, 0, .reset, .none⟩
def TT_T2 : Fld := ⟨1243, 0, 40, .int, 0, .reset, .none⟩
def TT_T4 : Fld := ⟨1244, 0, 40, .int, 0, .reset, .none⟩
def TT_CARRIED : Fld := ⟨1245, 0, 1, .int, 0, .reset, .none⟩
def TT_MISS : Fld := ⟨1246, 0, 8, .int, 0, .reset, .none⟩
def TT_LOST_SAID : Fld := ⟨1247, 0, 1, .int, 0, .reset, .none⟩

/-- The addresses of a group's, a lane's and a port's registers. -/
def trkLaneAddr (off l : Nat) : Nat := 0x4070_1000 + 0x100 * l + off
def trkPortAddr (off l : Nat) : Nat := 0x4070_4000 + 0x400 * l + off

/-! ### Lanes and ports (R137 to R140) -/

/-- TX_READY and LIVE of a port follow its lanes, its FEC, its alignment and its transmit SA (R140, R143). -/
def refreshPort (l : Nat) (s : State) : State :=
  let ready := lanesReady s l && (!s.flag TRK_MSEC_CFG_EN l || s.flag TRK_MSEC_SA_TX_SA l)
  let live := s.flag TRK_PORT_STAT_LINK l && (lanesOf s l).all (fun k => s.get TRK_LANE_STAT_LANE k != laneDegraded)
  (s.putFlag TRK_PORT_STAT_TX_READY l ready).putFlag TRK_PORT_STAT_LIVE l live

/-- A lane enters a state, and its port follows. -/
def setLane (k st : Nat) (s : State) : State := refreshPort (portOfLane s k) (s.put TRK_LANE_STAT_LANE k st)

/-- A lane enters TRAINING: its synthesiser locks first, at an instant that is open (R139). -/
def beginTraining (k : Nat) (s : State) : State :=
  let now := s.get CORE_COUNT 0
  ((((s.put TRK_LANE_STAT_LANE k laneTraining).put TRK_LANE_STAT_SYNTH_LOCK k 0).put SYNTH_FAILED k 0).put SYNTH_SINCE k now).used.put
    SYNTH_AT k (now + s.fresh)

/-- A training at the set rate begins: no failure counts yet (R139). -/
def setRateAnew (k : Nat) (s : State) : State := (s.put TRAIN_FAILS k 0).put TRAIN_RATE k 3

/-- A window that a lane was in ends with its link: it raises TRK_RETRAIN_DONE (R142). A rate change asked for is part of the
training that follows (R140), whose failures count anew. -/
def cutWindow (k : Nat) (s : State) : State :=
  let s := if s.get TRK_LANE_STAT_LANE k = laneRetrain ∨ s.flag RATE_RUN k = true then s.raise (775 + 16 * k) else s
  let s := if s.flag RATE_REQ k then setRateAnew k s else s.put TRAIN_FAILS k 0
  (s.put RATE_RUN k 0).put RATE_REQ k 0

/-- A lane whose synthesiser has locked by now shows it (R139). -/
def synthLock (k : Nat) (s : State) : State :=
  if s.get TRK_LANE_STAT_LANE k = laneTraining ∧ s.get SYNTH_AT k ≤ s.get CORE_COUNT 0 then s.put TRK_LANE_STAT_SYNTH_LOCK k 1
  else s
def synthLocks (s : State) : State := overRange synthLock 8 s

/-- The port's lanes begin training, or are DOWN without the port, its power or the SerDes reference (R139, 01 R15). -/
def restartPort (l : Nat) (s : State) : State :=
  let on := s.flag TRK_PORT_CFG_EN l && s.flag TRK_GRP_CFG_EN (l / 4) && s.domOn (domTrunk (l / 4)) &&
    s.flag CLK_STAT_SERDES_REF_OK 0
  let s := (((s.put TRK_PORT_STAT_LINK l 0).put TRK_PORT_STAT_FEC_LOCK l 0).put TRK_PORT_STAT_ALIGNED l 0)
  refreshPort l (overList (fun k t =>
    let t := cutWindow k t
    if on then beginTraining k t
    else ((t.put TRK_LANE_STAT_LANE k laneDown).put TRK_LANE_STAT_SYNTH_LOCK k 0).put SYNTH_FAILED k 0) (lanesOf s l) s)

/-- A trunk port's link goes down: its queued copies are discarded (04 R105, R144). -/
def trkLinkDown (l : Nat) (s : State) : State :=
  if s.flag TRK_PORT_STAT_LINK l then
    (dropPort (32 + l) ((restartPort l s).put SBD_PORT_PREEMPT_STATUS (32 + l) 0)).raise (769 + 16 * l)
  else restartPort l s

/-- A configuration error of a port (R137). -/
def trkCfgErr (l : Nat) (s : State) : State := (s.put TRK_PORT_STAT_CFG_ERR l 1).raise (782 + 16 * l)

/-- A write of TRK_GRP_CFG (R137): one that changes SPLIT while EN is 1 is ignored; EN powers the group. -/
def trkGrpWrite (g v : Nat) (s : State) : State :=
  let was := s.flag TRK_GRP_CFG_EN g
  let change := decide (bitsOf v 1 1 ≠ s.get TRK_GRP_CFG_SPLIT g) && !s.flag TRK_SLICE_TAG_LOCK 0
  let t := (if change then s.put TRK_GRP_CFG_SPLIT g (bitsOf v 1 1) else s).put TRK_GRP_CFG_EN g v
  if change && was then trkCfgErr (4 * g) s
  else if bitOf v 0 == was then t
  else overRange (fun k t => if portOfLane t (4 * g + k) = 4 * g + k then trkLinkDown (4 * g + k) t else t) 4 t

/-- A single lane's rate and interface do not go together (R138): C2M at 50 or 25 Gbit/s. -/
def laneBad (s : State) (k : Nat) : Bool :=
  !fourLane s k && s.get TRK_LANE_CFG_IF k == 2 && decide (s.get TRK_LANE_CFG_RATE k < 2)

/-- EN of the port is refused: it is not named by its lowest lane, or rate and interface do not go together (R138). -/
def trkEnableBad (s : State) (l : Nat) : Bool :=
  portOfLane s l != l || laneBad s l

/-- A write of TRK_PORT_CFG (R138, R139). -/
def trkPortWrite (l v : Nat) (s : State) : State :=
  let s := ((s.put TRK_PORT_CFG_SLICE_EN l (bitsOf v 3 1)).put TRK_PORT_CFG_MAX_LEN l (bitsOf v 4 14)).put
    TRK_PORT_CFG_UNCORR_MAX l (bitsOf v 18 8)
  let s := if s.flag TRK_SLICE_TAG_LOCK 0 then s else s.put TRK_PORT_CFG_FACING l (bitsOf v 1 2)
  let was := s.flag TRK_PORT_CFG_EN l
  if !bitOf v 0 then (if was then trkLinkDown l (s.put TRK_PORT_CFG_EN l 0) else s)
  else if was then s
  else if trkEnableBad s l then trkCfgErr l s
  else restartPort l (overList setRateAnew (lanesOf s l) (s.put TRK_PORT_CFG_EN l 1))

/-- The synthesiser of a lane in training has not locked within 1 ms (R139). -/
def synthTimeout (k : Nat) (s : State) : State :=
  if s.get TRK_LANE_STAT_LANE k = laneTraining ∧ s.flag TRK_LANE_STAT_SYNTH_LOCK k = false ∧
      s.get SYNTH_SINCE k + 800000 ≤ s.get CORE_COUNT 0 then
    (setLane k laneDown ((s.put SYNTH_FAILED k 1).put SYNTH_SINCE k (s.get CORE_COUNT 0))).raise (781 + 16 * k)
  else s

/-- A failed synthesiser tries to lock again, every 100 ms (R139). -/
def synthRetry (k : Nat) (s : State) : State :=
  if s.flag SYNTH_FAILED k && decide (s.get SYNTH_SINCE k + 80000000 ≤ s.get CORE_COUNT 0) then
    refreshPort (portOfLane s k) (beginTraining k s)
  else s

/-- The rate set for a lane: 3 acts as 2. -/
def rateSet (s : State) (k : Nat) : Nat := min 2 (s.get TRK_LANE_CFG_RATE k)

/-- The rate that a single lane resolves to: negotiated at or below RATE, or the one being tried (R139). The lanes of a
four-lane port run at 100 Gbit/s each, and so does a C2M lane (R138). -/
def rateResolved (s : State) (k neg : Nat) : Nat :=
  if fourLane s k || s.get TRK_LANE_CFG_IF k == 2 then 2
  else if s.flag TRK_LANE_CFG_AN_EN k then min neg (rateSet s k)
  else if s.get TRAIN_RATE k = 3 then rateSet s k else s.get TRAIN_RATE k

/-- Training, FEC lock and deskew finish and the port comes up; `neg` is the highest rate both ends advertise (R139). -/
def trainingDone (l neg tx rx : Nat) (s : State) : State :=
  let ls := lanesOf s l
  if portOfLane s l = l ∧ s.flag TRK_PORT_CFG_EN l = true ∧ s.flag TRK_PORT_STAT_LINK l = false ∧
      ls.all (fun k => s.get TRK_LANE_STAT_LANE k == laneTraining) = true then
    let s := overList (fun k t =>
      ((t.put TRK_LANE_STAT_LANE k laneUp).put TRK_LANE_STAT_SYNTH_LOCK k 1).put TRK_LANE_STAT_RATE k
        (rateResolved s k neg)) ls s
    let s := ((s.put TRK_PORT_STAT_LINK l 1).put TRK_PORT_STAT_FEC_LOCK l 1).putFlag TRK_PORT_STAT_ALIGNED l (fourLane s l)
    let s := overList (fun k t => (t.put TRAIN_FAILS k 0).put LANE_GOOD (32 + k) 0) ls s
    preemptLinkUp (32 + l) ((varLinkUp (32 + l) tx rx (refreshPort l s)).raise (768 + 16 * l))
  else s

/-- A lane's training fails; with FALLBACK and a forced rate, the third failure moves a single lane down one rate (R139). -/
def trainingFailure (k : Nat) (s : State) : State :=
  if s.get TRK_LANE_STAT_LANE k = laneTraining then
    if s.flag TRK_LANE_CFG_FALLBACK k && !s.flag TRK_LANE_CFG_AN_EN k && !fourLane s k && s.get TRK_LANE_CFG_IF k != 2 then
      let n := s.get TRAIN_FAILS k + 1
      if n < 3 then s.put TRAIN_FAILS k n
      else (s.put TRAIN_FAILS k 0).put TRAIN_RATE k (rateResolved s k 0 - 1)
    else s
  else s

/-- A four-lane port loses its alignment (R140). -/
def deskewLost (l : Nat) (s : State) : State :=
  if portOfLane s l = l ∧ fourLane s l = true ∧ s.flag TRK_PORT_STAT_ALIGNED l = true then
    trkLinkDown l ((s.put TRK_PORT_STAT_ALIGNED l 0).raise (780 + 16 * l))
  else s

/-! ### Margin and windows (R141 to R143) -/

/-- A lane is in a window: in RETRAIN, or in the training of a rate change (R142). -/
def inWindow (s : State) (k : Nat) : Bool :=
  s.get TRK_LANE_STAT_LANE k == laneRetrain || (s.get TRK_LANE_STAT_LANE k == laneTraining && s.flag RATE_RUN k)

/-- A lane enters DEGRADED (R143). One in a window shows it when the window ends (DEDUCED, log entry 192). -/
def trkDegrade (k : Nat) (s : State) : State :=
  let t := s.put LANE_GOOD (32 + k) 0
  if s.get TRK_LANE_STAT_LANE k = laneUp then ((setLane k laneDegraded t).sat TRK_LANE_CNT_DEGRADES k).raise (773 + 16 * k)
  else if inWindow s k && s.get LANE_WAS (32 + k) != laneDegraded then
    ((t.put LANE_WAS (32 + k) laneDegraded).sat TRK_LANE_CNT_DEGRADES k).raise (773 + 16 * k)
  else t

/-- The codewords of the last 1 ms, given with the measurement of the port's lowest lane (R141, R143). -/
def trkCodewords (l corr uncorr : Nat) (s : State) : State :=
  let s := (s.sat TRK_CNT_FEC_CORR l corr).sat TRK_CNT_FEC_UNCORR l uncorr
  let high := decide (max 1 (s.get TRK_PORT_CFG_UNCORR_MAX l) ≤ uncorr)
  let s := s.putFlag UNCORR_HIGH l high
  if high then overList trkDegrade (lanesOf s l) s else s

/-- A lane's margin measurement, every 1 ms (R141 to R143). -/
def trkMargin (k m corr uncorr : Nat) (s : State) : State :=
  let l := portOfLane s k
  let s := s.put TRK_LANE_STAT_MARGIN k m
  let s := if k = l then trkCodewords l corr uncorr s else s
  if !laneRuns s k then s
  else
    let low := decide (m < s.get TRK_LANE_THR_THRESH k)
    let s := if !low then s.put LANE_LOW (32 + k) 0
      else if s.flag LANE_LOW (32 + k) then s
      else ((s.put LANE_LOW (32 + k) 1).put LANE_REQ (32 + k) 1).raise (772 + 16 * k)
    if m < s.get TRK_LANE_THR_FLOOR k then trkDegrade k s
    else if s.get TRK_LANE_STAT_LANE k = laneDegraded then
      let n := if low || s.flag UNCORR_HIGH l then 0 else s.get LANE_GOOD (32 + k) + 1
      if max 1 (s.get TRK_LANE_THR_RECOVER_N k) ≤ n then
        (setLane k laneUp (s.put LANE_GOOD (32 + k) 0)).raise (774 + 16 * k)
      else s.put LANE_GOOD (32 + k) n
    else s

/-- A write of TRK_LANE_CFG: a change of RATE, IF or AN_EN while the port is on requests a rate change, and so does any write of them
after a fallback, which leaves the rate that is set out of force (R140, log entry 58). One
that would give a lane of an enabled port a rate and interface that R138 does not support is ignored, as R138 refuses EN (DESIGN
CHOICE, log entry 159). -/
def trkLaneWrite (k v : Nat) (before : State) : State :=
  let s := before
  let old := (s.get TRK_LANE_CFG_RATE k, s.get TRK_LANE_CFG_IF k, s.get TRK_LANE_CFG_AN_EN k)
  let s := ((s.put TRK_LANE_CFG_RATE k v).put TRK_LANE_CFG_AN_EN k (bitsOf v 4 1)).put TRK_LANE_CFG_FALLBACK k (bitsOf v 5 1)
  let s := if s.flag TRK_SLICE_TAG_LOCK 0 then s else
    ((s.put TRK_LANE_CFG_IF k (bitsOf v 2 2)).put TRK_LANE_CFG_TX_INV k (bitsOf v 6 1)).put TRK_LANE_CFG_RX_INV k (bitsOf v 7 1)
  if laneBad s k && s.flag TRK_PORT_CFG_EN (portOfLane s k) then trkCfgErr (portOfLane s k) before
  else if (old ≠ (s.get TRK_LANE_CFG_RATE k, s.get TRK_LANE_CFG_IF k, s.get TRK_LANE_CFG_AN_EN k) ∨ s.get TRAIN_RATE k ≠ 3) ∧
      s.flag TRK_PORT_CFG_EN (portOfLane s k) = true then s.put RATE_REQ k 1
  else s

/-- A requested window is granted: no protected entry within 50 µs and no slice frame with its E within 50 µs (R142). A rate change
asked for while the lane trains for its link begins that training anew; that of a lane in use leaves DEGRADED. -/
def trkWindow (k : Nat) (s : State) : State :=
  let p := 32 + portOfLane s k
  let clear := !protectedWithin s p (50000 * 256) && !(timedWaits s p).any (fun t => decide (t ≤ 50000 * 256))
  if (s.flag LANE_REQ (32 + k) || s.flag RATE_REQ k) && laneRuns s k && clear then
    let rate := s.flag RATE_REQ k
    let was := if rate then laneUp else s.get TRK_LANE_STAT_LANE k
    let s := (((s.put LANE_REQ (32 + k) 0).put RATE_REQ k 0).putFlag RATE_RUN k rate).put LANE_WAS (32 + k) was
    if rate then refreshPort (portOfLane s k) (beginTraining k (setRateAnew k s)) else setLane k laneRetrain s
  else if s.flag RATE_REQ k && s.get TRK_LANE_STAT_LANE k == laneTraining && !s.flag RATE_RUN k && clear then
    beginTraining k (setRateAnew k (s.put RATE_REQ k 0))
  else s

/-- A retrain or rate change ends (R142, 02 R44). A lane that is DEGRADED leaves that state by measurements alone (R143), but
through the training of a rate change; `degraded` says that its margin measures below FLOOR. -/
def trkRetrainDone (k : Nat) (degraded : Bool) (neg tx rx : Nat) (s : State) : State :=
  let lane := s.get TRK_LANE_STAT_LANE k
  let rate := s.flag RATE_RUN k
  if lane = laneRetrain ∨ (lane = laneTraining ∧ rate = true) then
    let s := if rate then (s.put TRK_LANE_STAT_RATE k (rateResolved s k neg)).put TRK_LANE_STAT_SYNTH_LOCK k 1 else s
    let s := ((s.put RATE_RUN k 0).put LANE_GOOD (32 + k) 0).put TRAIN_FAILS k 0
    let s := if s.get LANE_WAS (32 + k) = laneDegraded then setLane k laneDegraded s
      else if degraded then trkDegrade k (setLane k laneUp s)
      else setLane k laneUp s
    varTrack (32 + portOfLane s k) tx rx ((s.sat TRK_LANE_CNT_RETRAINS k).raise (775 + 16 * k))
  else s

/-! ### The DRBG (17 R384, R385) -/

/-- Requests since the DRBG was seeded. -/
def DRBG_REQS : Fld := ⟨1419, 0, 32, .int, 0, .reset, .none⟩

/-- A request of random bits of the DRBG. -/
def drbgAsk (s : State) : State := s.sat DRBG_REQS 0

/-- `n` octets of the CTR_DRBG, whose key and counter block its entropy leaves open: they are of the free value `v`. -/
def drbgBytes (n v : Nat) : List Byte := Config.aesCtr (toBytes 32 v) (toBytes 16 (v / 2 ^ 256)) (List.replicate n 0)

/-! ### MACsec (R149, R150, R152) -/

/-- A key slot filled. -/
def putSaKey (k : SaKey) (s : State) : State :=
  { s with saKeys := s.saKeys.filter (fun x => !(x.port = k.port && x.sa = k.sa)) ++ [k] }

/-- A key slot emptied. -/
def dropSaKey (l sa : Nat) (s : State) : State := { s with saKeys := s.saKeys.filter (fun x => !(x.port = l && x.sa = sa)) }

/-- MKA begins anew on a trunk port, with the KEK and ICK of its CAK (R152, 17 R391). -/
def mkaStart (l : Nat) (cak : List Byte) (s : State) : State :=
  { s with mkas := s.mkas.filter (fun m => m.port ≠ l) ++ [⟨l, Config.mkaKek cak, Config.mkaIck cak, none, []⟩] }

/-- The ICV of an MKA protocol data unit, FCS included: that of its octets but the ICV, which are the last 16 (R152). -/
def mkpduIcv (m : Mka) (fr : List Byte) : List Byte := Config.mkaIcv m.ick (fr.take (fr.length - 20))

/-- The Portcullis, while it is ready, checks the ICV of an MKA protocol data unit that arrived (R152). -/
def mkaCheck (l : Nat) (fr : List Byte) (s : State) : State :=
  if s.get PCS_STAT_STATE 0 = pcsReady ∧ etype fr = 0x888E then
    { s with mkas := s.mkas.map (fun m =>
        if m.port = l then { m with icvOk := some (mkpduIcv m fr == (fr.drop (fr.length - 20)).take 16) } else m) }
  else s

/-- The SAK, salt and SSCI of a new SA of a port whose KEK is `kek` (R152): the SAK is one that the Portcullis' own DRBG gave, or
one unwrapped under the KEK; the octets, the salt and the SSCI are open (log entry 160). -/
def newSaKey (l sa : Nat) (kek : List Byte) (drawn : Bool) (v : Nat) : SaKey :=
  let sak := if drawn then drbgBytes 32 v else Config.keyUnwrap kek (toBytes 40 v)
  ⟨l, sa, sak, toBytes 12 (v / 2 ^ 321), v / 2 ^ 417 % 2 ^ 32⟩


/-- The SAK of a new SA, drawn and wrapped for the peers or unwrapped (R152). -/
def saMake (m : Mka) (sa : Nat) (drawn : Bool) (s : State) : State :=
  let k := newSaKey m.port sa m.kek drawn s.fresh
  let s := putSaKey k s.used
  if drawn then
    drbgAsk { s with mkas := s.mkas.map (fun x =>
      if x.port = m.port then { x with wrapped := Config.keyWrap x.kek k.sak } else x) }
  else s

/-- The Portcullis writes a SAK into a port's key slot (R152): a transmit SA with AN `an`, or a receive SA of channel `chan`. It does
so while it is ready and holds the port's keys. Whether it is the key server, and draws the SAK, is open (log entry 160); it draws none
while its DRBG is stopped (17 R385). A transmit SA starts at packet number 1. -/
def saInstall (l : Nat) (tx : Bool) (chan an : Nat) (s : State) : State :=
  match s.mkas.find? (fun m => m.port = l) with
  | none => s
  | some m =>
    let drawn := bitOf s.fresh 0
    let s := s.used
    if s.get PCS_STAT_STATE 0 ≠ pcsReady ∨ (drawn = true ∧ s.flag PCS_STAT_DRBG_OK 0 = false) then s
    else
      let sa := if tx then 16 + an else 4 * chan + an
      let s := saMake m sa drawn s
      let s := if tx then
          let s := (s.putBit TRK_MSEC_SA_TX_SA l an true).put PN_SEEN (4 * l + an) 0
          if an = s.get TRK_MSEC_CFG_TX_AN l then s.put TRK_MSEC_TXPN_PN l 1 else s.put MSEC_PN (4 * l + an) 1
        else (s.putBit TRK_MSEC_SA_RX_SA l (4 * chan + an) true).put MSEC_RXPN (16 * l + 4 * chan + an) 1
      refreshPort l s

/-- The Portcullis retires a receive SA (R152). -/
def saRetire (l chan an : Nat) (s : State) : State :=
  dropSaKey l (4 * chan + an) (s.putBit TRK_MSEC_SA_RX_SA l (4 * chan + an) false)

/-- The transmit AN changes to that of an installed SA, for the next frame that starts (R152). -/
def txAnChange (l an : Nat) (s : State) : State :=
  if s.bit TRK_MSEC_SA_TX_SA l an = true ∧ an ≠ s.get TRK_MSEC_CFG_TX_AN l then
    let s := s.put MSEC_PN (4 * l + s.get TRK_MSEC_CFG_TX_AN l) (s.get TRK_MSEC_TXPN_PN l)
    refreshPort l ((s.put TRK_MSEC_CFG_TX_AN l an).put TRK_MSEC_TXPN_PN l (s.get MSEC_PN (4 * l + an)))
  else s

/-- A frame discarded by MACsec; the first of either count since a read raises TRK_MSEC_NOT_VALID (R150). -/
def msecDrop (F : Fld) (l : Nat) (s : State) : State :=
  if s.get TRK_MSEC_CNT_NOT_VALID l = 0 ∧ s.get TRK_MSEC_CNT_LATE l = 0 then (s.sat F l).raise (779 + 16 * l) else s.sat F l

/-- The receive SA (4 × channel + AN) that a SecTAG names: its channel in use with this SCI, its AN installed (R150). -/
def rxSaOf (s : State) (l sci an : Nat) : Option Nat :=
  ((List.range 4).find? (fun i => s.bit TRK_MSEC_SA_RXSC_EN l i && s.get TRK_MSEC_RXSCI_SCI (4 * l + i) == sci &&
    s.bit TRK_MSEC_SA_RX_SA l (4 * i + an))).map (fun i => 4 * i + an)

/-- The 64-bit packet number whose low half a SecTAG carries, for an SA that expects `next'` (R149; IEEE 802.1AE, log entry 158). -/
def xpnOf (next' low : Nat) : Nat :=
  let hi := next' / 2 ^ 32
  (if bitOf next' 31 && !bitOf low 31 then hi + 1 else hi) * 2 ^ 32 + low

/-- What MACsec makes of a frame (FCS included) received with a good FCS (R149, R150): the frame handed on, or none. Where R150 does not speak,
that is without Strict, the rules of IEEE 802.1AE act (log entry 158). -/
def msecReceive (l : Nat) (fr : List Byte) (s : State) : Option (List Byte) × State :=
  let b := fr.take (fr.length - 4)
  let mode := s.get TRK_MSEC_CFG_VALIDATE l
  let strict := decide (2 ≤ mode)
  let reject : Option (List Byte) × State := (none, if strict then msecDrop TRK_MSEC_CNT_NOT_VALID l s else s)
  if be16 b 12 ≠ 0x88E5 ∨ bitOf (octet b 14) 5 = false ∨ b.length < 44 then (if strict then reject else (some fr, s))
  else
    let an := octet b 14 % 4
    let coded := bitOf (octet b 14) 2
    let data := (b.drop 28).take (b.length - 44)
    let bare := withFcs (b.take 12 ++ data)  -- the SecTAG and ICV removed, unchecked
    match rxSaOf s l (beNum b 20 8) an with
    | none => if strict || coded then reject else (some bare, s)
    | some sa =>
      let k := saKey s l sa
      let next' := s.get MSEC_RXPN (16 * l + sa)
      let pn := xpnOf next' (beNum b 16 4)
      let old := decide (mode ≠ 0) && s.flag TRK_MSEC_CFG_REPLAY_PROTECT l && decide (pn + s.get TRK_MSEC_WIN_WINDOW l < next')
      let iv := xpnNonce k pn
      let icv := b.drop (b.length - 16)
      let got := if coded then Config.gcmOpen k.sak iv (b.take 28) data icv
        else (Config.gcmOpen k.sak iv (b.take 28 ++ data) [] icv).map (fun _ => data)
      if old then (none, msecDrop TRK_MSEC_CNT_LATE l s)
      else match got with
        | some pt => (some (withFcs (b.take 12 ++ pt)), s.put MSEC_RXPN (16 * l + sa) (max next' (pn + 1)))
        | none => if strict || coded then reject else (some bare, s)

/-! ### The header of slice and time-transfer frames (R147) -/

/-- A frame of a trunk port's own engines, without FCS, padded to the minimum length (R147). -/
def trunkFrame (s : State) (mac pcp : Nat) (payload : List Byte) : List Byte :=
  let fr := toBytes 6 (s.get TRK_SLICE_DA_DA 0) ++ toBytes 6 mac ++ beBytes 2 0x8100 ++
    beBytes 2 (pcp * 8192 + s.get TRK_SLICE_TAG_VID 0) ++ beBytes 2 (s.get TRK_SLICE_TAG_ETYPE 0) ++ payload
  fr ++ List.replicate (60 - fr.length) 0

/-- The subtype of a slice or time-transfer frame, 0 for any other frame (R147). -/
def trunkSubtype (s : State) (fr : List Byte) : Nat :=
  if tagCount fr = 1 ∧ etype fr = s.get TRK_SLICE_TAG_ETYPE 0 ∧ octet fr 19 = 1 ∧ (octet fr 18 = 0x5C ∨ octet fr 18 = 0x5E) then
    octet fr 18
  else 0

/-- Word `k` of the payload of such a frame. -/
def payloadWord (fr : List Byte) (k : Nat) : Nat := ofBytes ((fr.drop (18 + 4 * k)).take 4)

/-! ### Slices out (03 R75, R76, R145, R146) -/

/-- The TX slice entry may send (R146): its TPORT is the lowest lane of an enabled port with SLICE_EN = 1. -/
def slicePortOk (s : State) (l : Nat) : Bool :=
  portOfLane s l == l && s.flag TRK_PORT_CFG_EN l && s.flag TRK_PORT_CFG_SLICE_EN l

/-- A slot is mapped (03 R64): some byte of it falls under an active RX or TX entry, or it lies under an active RX slice entry. -/
def slotMapped (s : State) (n : Nat) : Bool :=
  (List.range 32).any (fun p => (s.liveEntries p (s.active p)).any (fun e => (e.kind == 1 || e.kind == 2) &&
    (s.pairsOf e).any (fun x => x.2 / 32 == n))) ||
  (decide (n < s.slots) && (List.range 64).any (fun k =>
    let w1 := sliceWord s (64 + k) 1
    bitOf (sliceWord s (64 + k) 0) 0 && decide (bitsOf w1 0 18 ≤ n) && decide (n < bitsOf w1 0 18 + bitsOf w1 18 12)))

/-- A status byte as it travels (R76): STALE where the two reads differ, where the word was uncorrectable (04 R80), or,
with STATUS_MODE = 1, where its CYC is not that of the cycle whose data the half holds. -/
def sliceStatus (s : State) (e n : Nat) (torn : Bool) : Byte :=
  let w0 := sliceWord s e 0
  let fill := bitOf w0 1
  let h := if fill then s.fillHalf else 1 - s.fillHalf
  let cyc := if fill then s.get LIM_CYC_NUM_NUM 0 % 16 else (s.get LIM_CYC_NUM_NUM 0 + 15) % 16
  let b := s.byte (s.statusAddr h n)
  if torn || (bitOf w0 2 && b.toNat % 16 != cyc) then b ||| 0x10 else b

/-- The payload of frame `k` of a slice (R76). `torn` and `ecc` are the slots of the frame whose two status reads differ
and whose words are uncorrectable. A slot that is not mapped is not read (03 R64): what travels in its place is a free value, 33
octets of `v` for each slot (log entry 156). -/
def slicePayload (s : State) (e k : Nat) (torn ecc : List Nat) (v : Nat) : List Byte :=
  let w0 := sliceWord s e 0
  let w1 := sliceWord s e 1
  let w3 := sliceWord s e 3
  let n := sliceSlots (bitsOf w1 18 12) k
  let first := bitsOf w1 0 18 + 480 * k
  let h := if bitOf w0 1 then s.fillHalf else 1 - s.fillHalf
  let now := s.now (s.get LIM_CYC_CTRL_DOM 0)
  let head := [0x5C + 0x100 + s.get DEV_HUB_LINE_ID 0 * 2 ^ 16,
    s.get DEV_HUB_HUB_NUM 0 + bitsOf w3 0 6 * 2 ^ 8 + bitsOf w3 8 6 * 2 ^ 16 + bitsOf w0 8 8 * 2 ^ 24,
    s.get LIM_CYC_NUM_NUM 0, 480 * k + n * 2 ^ 18 + bitsOf w0 2 1 * 2 ^ 31, now / 256, now % 256, 0, 0]
  let data := (List.range n).flatMap (fun j =>
    if slotMapped s (first + j) then s.bytes (s.slotAddr h (32 * (first + j))) 32 else toBytes 32 (v / 2 ^ (264 * j)))
  let stat := (List.range n).map (fun j =>
    if slotMapped s (first + j) then sliceStatus s e (first + j) (torn.contains j || ecc.contains j)
    else BitVec.ofNat 8 (v / 2 ^ (264 * j + 256)))
  head.flatMap (toBytes 4) ++ data ++ stat ++ List.replicate ((n + 3) / 4 * 4 - n) 0

/-- The slice engine reads the next frame of a TX entry: it begins 150 ns plus 1 ns for each started 64 bytes of data and
status before E; a read that begins more than one tick later does not finish by E (R146). `ecc` is what the reads of slots of the
frame met (04 R80). -/
def sliceRead (e : Nat) (torn : List Nat) (ecc : List (Nat × Ecc)) (s : State) : State :=
  let k := s.get SLICE_GOT e
  let n := bitsOf (sliceWord s e 1) 18 12
  let d := s.get LIM_CYC_CTRL_DOM 0
  let dur := (150 + (33 * sliceSlots n k + 63) / 64) * 256
  let begin' := (sliceE s e k (s.get LIM_CUR 0) + 2 ^ 40 - dur) % 2 ^ 40
  let l := bitsOf (sliceWord s e 0) 4 3
  if s.started && bitOf (sliceWord s e 0) 0 && decide (k < sliceFrames n) && slicePortOk s l && owning s &&
      s.reached d begin' && decide ((s.now d + 2 ^ 40 - begin') % 2 ^ 40 ≤ 320) then
    let bad := (ecc.filter (fun x => x.2 = .uncorr)).map (fun x => x.1)
    let fr := trunkFrame s (s.get TRK_PORT_MAC_MAC l) (bitsOf (sliceWord s e 0) 16 3) (slicePayload s e k torn bad s.fresh)
    let s := overList (fun (x : Nat × Ecc) t => eccSeen x.2 t) ecc s.used
    { s.put SLICE_GOT e (k + 1) with sliceReads := s.sliceReads ++ [⟨e, k, fr, false⟩] }
  else s

/-- A slice frame is dropped (R145). -/
def sliceDrop (l why : Nat) (s : State) : State :=
  (s.put TRK_PORT_STAT_LATE_WHY l why).count1 TRK_CNT_TX_TX_LATE_DROP l (770 + 16 * l) why

/-- E of a later frame of a slice is where the one before it ends, so that frame has left the wire at it; the model's wires end in
whole core clock cycles (R145; DESIGN CHOICE, log entry 193). -/
def sliceWireEnds (p : Nat) (s : State) : State :=
  { s with wires := s.wires.filter (fun w => !(w.port = p && w.frame = 0 && w.paused = none &&
      decide (w.until' ≤ s.get CORE_COUNT 0 + 2))) }

/-- The next frame of a TX slice entry is handled: whatever becomes of it, the later ones keep their own E (R145). -/
def sliceNext (e : Nat) (s : State) : State :=
  let k := s.get SLICE_SENT e
  { (s.put SLICE_SENT e (k + 1)).put SLICE_GOT e (max (k + 1) (s.get SLICE_GOT e)) with
    sliceReads := s.sliceReads.filter (fun x => !(x.entry = e && decide (x.k ≤ k))) }

/-- A TX slice entry has frames left in this cycle. -/
def slicePending (s : State) (e : Nat) : Bool :=
  s.started && bitOf (sliceWord s e 0) 0 && decide (s.get SLICE_SENT e < sliceFrames (bitsOf (sliceWord s e 1) 18 12))

/-- The next frame of a TX slice entry at its egress instant, or once the wire is free (R145, R146). A unit that does not own
sends none (18 R420). -/
def sliceEgress (e : Nat) (s : State) : State :=
  let s := releaseWires s
  let k := s.get SLICE_SENT e
  let w0 := sliceWord s e 0
  let n := bitsOf (sliceWord s e 1) 18 12
  let l := bitsOf w0 4 3
  let at' := sliceE s e k (s.get LIM_CUR 0)
  let d := s.get LIM_CYC_CTRL_DOM 0
  if !slicePending s e || !s.reached d at' then s
  else
    let s := if k = 0 then s else sliceWireEnds (32 + l) s
    let off := sliceNext e
    let read := s.sliceReads.find? (fun x => x.entry = e && x.k = k)
    let armed := (read.map (fun x => x.armed)).getD false
    if !owning s then off s
    else if !slicePortOk s l then sliceDrop l 6 (off s)
    else
      match timedVerdict s armed (32 + l) (bitsOf w0 16 3) (sliceLen (sliceSlots n k) + 4 + msecGrow s (32 + l)) d at' 0, read with
      | .early, _ => s
      | .drop why, _ => sliceDrop l why (off s)
      | _, none => sliceDrop l 5 (off s)
      | .wait, some x =>
        { s with sliceReads := s.sliceReads.map (fun y => if y = x then { y with armed := true } else y) }
      | .start, some x => startTimed (32 + l) (bitsOf w0 16 3) (withFcs x.bytes) false (off s)

/-- A TX slice entry at the end of a cycle (R145): its frames whose E has come are handled; one that waits for the wire, and those
whose E did not come, never start. -/
def sliceSweep (e : Nat) (s : State) : State :=
  if slicePending s e then
    let left (t : State) : State :=
      if !slicePending t e then t
      else if !owning t then sliceNext e t
      else
        let l := bitsOf (sliceWord t e 0) 4 3
        sliceDrop l (if slicePortOk t l then 3 else 6) (sliceNext e t)
    overRange (fun _ t => left t) 9 (overRange (fun _ t => sliceEgress e t) 9 s)
  else s

/-! ### Slices in (03 R77, R147, R148) -/

/-- The RX slice entry of a hub's slice in a copy of table 32 (R75, R77): the lowest index that matches; none while the line image
has no slots (03 R57). -/
def sliceRxEntry (s : State) (bank hub id : Nat) : Option Nat :=
  if s.slots = 0 then none
  else ((List.range 64).map (fun k => 64 + k)).find? (fun e =>
    bitOf (sliceWordIn s bank e 0) 0 && bitsOf (sliceWordIn s bank e 0) 8 6 == hub && bitsOf (sliceWordIn s bank e 0) 16 8 == id)

/-- The octets of a slice frame of `n` slots with FCS. -/
def sliceFull (n : Nat) : Nat := sliceLen n + 4

/-- The data and status of a received slice written to half `h` with cycle number `cyc`, by the RX entry `e` of a copy of table 32:
the octets from the start up to octet `hi` of the frame; status bytes only where `status` (R67, R77). Nothing is written behind the
slots of the line image (R56). -/
def sliceWrite (fr : List Byte) (late : Bool) (h cyc bank e hi : Nat) (status : Bool) (s : State) : State :=
  let w3 := payloadWord fr 3
  let first := bitsOf w3 0 18
  let n := bitsOf w3 18 9
  let local' := bitsOf (sliceWordIn s bank e 1) 0 18
  let cap := bitsOf (sliceWordIn s bank e 1) 18 12
  overList (fun j (t : State) =>
    if first + j < cap ∧ local' + first + j < s.slots then
      let o := 50 + 32 * j
      let t := overRange (fun b u =>
        match fr[o + b]? with
        | some x => if o + b < hi then land late (u.slotAddr h (32 * (local' + first + j) + b)) [x] u else u
        | none => u) 32 t
      if status then
        let st := octet fr (50 + 32 * n + j)
        land late (t.statusAddr h (local' + first + j))
          [statusByte cyc (bitOf w3 31 && bitOf st 4) (bitOf w3 31 && bitOf st 5) true] t
      else t
    else t) (List.range n) s

/-- A slice frame is dropped at the receiver (R77). -/
def sliceLost (s : State) : State := (s.sat LIM_CNT0_SLICE_DROP 0).raise 2052

/-- The slice receiver takes the oldest slice frame handed to it (R77). CYCLE is compared with the number at the frame's end, for
one that straddled a boundary with that after it (DEDUCED from R66, log entry 157); a frame that ends short of its COUNT slots
completes none of them. -/
def sliceReceive (s : State) : State :=
  match s.sliceIn with
  | [] => s
  | x :: xs =>
    let s := { s with sliceIn := xs }
    let fr := x.frame.bytes
    let w0 := payloadWord fr 0
    let w1 := payloadWord fr 1
    if w0 / 2 ^ 16 ≠ s.get DEV_HUB_LINE_ID 0 then s.sat TRK_CNT_RX_LINE_DROP (x.frame.port.val - 32)
    else
      match sliceRxEntry s x.bank (bitsOf w1 0 6) (bitsOf w1 24 8) with
      | none => sliceLost s
      | some e =>
        if payloadWord fr 2 ≠ x.cycle then sliceLost s
        else
          let h := x.cycle % 2  -- the half of that cycle's fill period (R59)
          if x.frame.crossed ≠ 0 ∧ x.frame.crossed < fr.length then
            (sliceWrite fr x.frame.late (1 - h) x.cycle x.bank e x.frame.crossed false s).raise 2053
          else
            let n := bitsOf (payloadWord fr 3) 18 9
            sliceWrite fr x.frame.late h x.cycle x.bank e (fr.length - 4) (x.good && decide (sliceFull n ≤ fr.length)) s

/-- Where a slice frame is also forwarded (04 R85 path 2, R148): the enabled trunk port that faces the other way. -/
def sliceOnward (s : State) (l : Nat) (fr : List Byte) : Option Nat :=
  let w1 := payloadWord fr 1
  let hub := s.get DEV_HUB_HUB_NUM 0
  let face := s.get TRK_PORT_CFG_FACING l
  let want : Option Nat :=
    if face = 0 ∧ hub < bitsOf w1 16 6 then some 1
    else if face = 1 ∧ bitsOf w1 8 6 < hub then some 0
    else none
  match want with
  | some f => (List.range 8).find? (fun k => k != l && s.flag TRK_PORT_CFG_EN k && s.get TRK_PORT_CFG_FACING k == f)
  | none => none

/-! ### Time transfer (R153 to R155, 18 R425) -/

/-- The pair link's channel number. -/
def ttPair : Nat := 8

/-- The timestamp port index of a channel. -/
def ttPort (ch : Nat) : Nat := if ch = ttPair then 30 else 32 + ch

/-- A channel is on (R153, 18 R425). -/
def ttOn (s : State) (ch : Nat) : Bool :=
  if ch = ttPair then s.flag RDN_CFG_EN 0 && s.flag RDN_CFG_TIME_EN 0 && s.get RDN_STAT_LINK 0 != 0
  else s.flag TRK_TT_CFG_EN ch

/-- The domains for which a channel is slave, and master. -/
def ttSlave (s : State) (ch : Nat) : Nat :=
  if ch = ttPair then (if owning s then 0 else 2 ^ s.get LIM_CYC_CTRL_DOM 0) else s.get TRK_TT_DOM_SLAVE ch

def ttMaster (s : State) (ch : Nat) : Nat :=
  if ch = ttPair then (if owning s then 2 ^ s.get LIM_CYC_CTRL_DOM 0 else 0) else s.get TRK_TT_DOM_MASTER ch

/-- The interval in core clock cycles: 2^-LOG_INT s, LOG_INT above 11 acting as 11. -/
def ttInterval (s : State) (ch : Nat) : Nat :=
  800000000 / 2 ^ min 11 (if ch = ttPair then s.get RDN_CFG_LOG_INT 0 else s.get TRK_TT_CFG_LOG_INT ch)

/-- A time-transfer frame is sent on a channel: queued in class TC on a trunk port, at once on the pair link. -/
def ttSend (ch : Nat) (payload : List Byte) (s : State) : State :=
  if ch = ttPair then
    let fr := withFcs (trunkFrame s 0 0 payload)
    let ph := s.fresh
    sendOut 30 fr (egressStamp s 30 (s.get TMB_PCFG_DEF_DOM 30) ph) false (ttEgressOn ch 30 fr ph s.used)
  else
    let c := s.get TRK_TT_CFG_TC ch
    let fr := withFcs (trunkFrame s (s.get TRK_PORT_MAC_MAC ch) c payload)
    let info : FrameMeta := ⟨0, 0, outerVid fr, c, 1, none, false, false, false, false, false, false, none⟩
    let (ts, s) := linkFilter true [(32 + ch, c)] s
    storeFrame ts (cellsOf fr.length)
      ⟨0, fr, cellsOf fr.length, 0, 73, s.get CORE_COUNT 0, info, none, 0, none, none, false, 0⟩ s

/-- Words 0 to 2 of a time-transfer frame (R154). -/
def ttHead (s : State) (kind seq doms : Nat) : List Nat :=
  [0x5E + 0x100 + s.get DEV_HUB_LINE_ID 0 * 2 ^ 16, s.get DEV_HUB_HUB_NUM 0 + kind * 2 ^ 8 + seq % 2 ^ 16 * 2 ^ 16, doms % 2 ^ 16]

/-- Slave domain `d` of a trunk channel is lost: it counts, and shows once until a sample of it is formed (R155). -/
def ttLose (ch d : Nat) (s : State) : State :=
  let s := s.sat TRK_TT_CNT_LOST ch
  if s.flag TT_LOST_SAID (ch * 16 + d) then s else (s.put TT_LOST_SAID (ch * 16 + d) 1).raise (776 + 16 * ch) d

/-- Intervals that ended without a response carrying a slave domain, and the loss after four (R155): TT_MISS is 0 from a
response to the next request, then one more than the intervals without one. -/
def ttMissed (ch : Nat) (s : State) : State :=
  let lost := (List.range 16).filter (fun d => bitOf (ttSlave s ch) d && s.get TT_MISS (ch * 16 + d) == 4)
  let s := overRange (fun d t => if bitOf (ttSlave t ch) d then t.sat TT_MISS (ch * 16 + d) else t) 16 s
  if ch = ttPair then s else overList (ttLose ch) lost s

/-- A slave port sends its next request (R153). -/
def ttRequest (ch : Nat) (s : State) : State :=
  if ttOn s ch = true ∧ ttSlave s ch ≠ 0 ∧ s.get TT_DUE ch ≤ s.get CORE_COUNT 0 then
    let s := ttMissed ch s
    let n := s.get TT_SEQ ch + 1
    let s := (s.put TT_SEQ ch n).put TT_DUE ch (s.get CORE_COUNT 0 + ttInterval s ch)
    ttSend ch ((ttHead s 0 n (ttSlave s ch)).flatMap (toBytes 4)) s
  else s

/-- The first time-transfer frame of a kind that waits on a channel: 0 request, 1 response. -/
def ttTake (ch kind : Nat) (s : State) : Option TtIn :=
  s.ttIn.find? (fun x => x.chan = ch && octet x.payload 5 % 2 == kind)

/-- The frame is dealt with. -/
def ttDrop (x : TtIn) (s : State) : State := { s with ttIn := s.ttIn.filter (fun y => y ≠ x) }

/-- Word `k` of a time-transfer payload. -/
def ttWord (x : TtIn) (k : Nat) : Nat := ofBytes ((x.payload.drop (4 * k)).take 4)

/-- A master end answers the request that waits (R153): the requested domains of its MASTER mask, with t2 and the t3 of
the response before. -/
def ttAnswer (ch : Nat) (s : State) : State :=
  match ttTake ch 0 s with
  | none => s
  | some x =>
    let s := ttDrop x s
    if !ttOn s ch then s
    else
      let n := ttWord x 1 / 2 ^ 16
      let asked := ttWord x 2 % 2 ^ 16
      let doms := (List.range 16).filter (fun d => bitOf asked d && bitOf (ttMaster s ch) d)
      let missing := ((List.range 16).filter (fun d => bitOf asked d && !bitOf (ttMaster s ch) d)).length
      let s := if ch = ttPair then s
        else overRange (fun _ t => t.count1 TRK_TT_CNT_REFUSED ch (777 + 16 * ch)) missing s
      let valid := s.flag TT_T3_ON ch && s.get TT_T3_SEQ ch == (n + 65535) % 65536
      let body := doms.flatMap (fun d =>
        let t2 := x.stamps.getD d 0
        let t3 := s.get TT_T3 (ch * 16 + d)
        [t2 / 256, t3 / 256, t2 % 256 + t3 % 256 * 2 ^ 8 + (if valid then 2 ^ 16 else 0)])
      ttSend ch ((ttHead s 1 n (doms.foldl (fun a d => a + 2 ^ d) 0) ++ body).flatMap (toBytes 4)) s

/-- A difference of two instants (1/256 ns, modulo 2^40) as a signed number. -/
def ttDiff (a b : Nat) : Int := toSigned 40 ((a + 2 ^ 40 - b) % 2 ^ 40)

/-- Half of a signed amount of 1/256 ns, rounded toward minus infinity (log entry 24). -/
def ttHalf (z : Int) : Int := z.fdiv 2

/-- Domain `d`, the j-th that response `n` carries: a sample from exchange n − 1 when response n − 1 is held (R155). -/
def ttDomain (ch : Nat) (x : TtIn) (follows : Bool) (lowest d j : Nat) (s : State) : State :=
  let i := ch * 16 + d
  let w := ttWord x (5 + 3 * j)
  let t2 := ttWord x (3 + 3 * j) * 256 + w % 256
  let t3 := ttWord x (4 + 3 * j) * 256 + bitsOf w 8 8
  let s := if follows && bitOf w 16 && s.flag TT_CARRIED i then
      let up := ttDiff (s.get TT_T2 i) (s.get TT_T1_OLD i)
      let down := ttDiff (s.get TT_T4 i) t3
      let asym : Int := if ch = ttPair then 0 else s.getS TRK_TT_CFG_ASYM ch * 16
      let s := if ch = ttPair then s
        else
          let s := (s.sat TRK_TT_CNT_SAMPLES ch).put TT_LOST_SAID i 0
          if d = lowest then s.put TRK_TT_DELAY_DELAY ch (ofSigned 24 (ttHalf (up + down))) else s
      sampleSubmit d (ofSigned 40 (ttHalf (down - up) - asym)) (s.get TT_T4 i / 256) (ttPort ch) s
    else s
  (((s.put TT_T2 i t2).put TT_T4 i (x.stamps.getD d 0)).put TT_CARRIED i 1).put TT_MISS i 0

/-- The slave takes the response that waits (R155). -/
def ttResponse (ch : Nat) (s : State) : State :=
  match ttTake ch 1 s with
  | none => s
  | some x =>
    let s := ttDrop x s
    let n := ttWord x 1 / 2 ^ 16
    if !ttOn s ch || n != s.get TT_SEQ ch then s
    else
      let follows := s.flag TT_HAVE ch && s.get TT_HAVE_SEQ ch == (n + 65535) % 65536
      let mine := ttSlave s ch
      let doms := (List.range 16).filter (fun d => bitOf (ttWord x 2) d)
      let lowest := ((List.range 16).find? (fun d => bitOf mine d)).getD 16
      let js := (List.range doms.length).zip doms
      let s := overList (fun (e : Nat × Nat) t =>
        if bitOf mine e.2 then ttDomain ch x follows lowest e.2 e.1 t else t) js s
      let s := overRange (fun d t => if doms.contains d then t else t.put TT_CARRIED (ch * 16 + d) 0) 16 s
      (s.put TT_HAVE ch 1).put TT_HAVE_SEQ ch n

/-- A time-transfer frame that arrived on a channel is handed to the engine, with its instant in every domain. -/
def ttArrive (ch : Nat) (r : RxFrame) (s : State) : State :=
  let stamps := (List.range 16).map (fun d => ingressStamp s (ttPort ch) d r.age r.phase)
  { s with ttIn := s.ttIn ++ [⟨ch, r.bytes.drop 18, stamps⟩] }

/-! ### Reception (R138, R147, R150, 04 R85) -/

/-- A good or bad frame of a trunk port, after MACsec, on its way: MAC control, slice, time transfer, or the switch (R138, R147). -/
def trunkPath (r : RxFrame) (bad : Bool) (st : Stamps) (s : State) : State :=
  let l := r.port.val - 32
  let n := r.bytes.length
  if !bad && etype r.bytes == 0x8808 then s
  else
    let sub := if s.flag TRK_PORT_CFG_SLICE_EN l then trunkSubtype s r.bytes else 0
    if sub = 0x5C then
      let cyc := s.get LIM_CYC_NUM_NUM 0 + (if r.crossed = 0 then 0
        else 2 ^ 32 - (r.spans + (if r.crossed = n then 1 else 0)) % 2 ^ 32)
      let s := { s with sliceIn := s.sliceIn ++ [⟨r, !bad, cyc % 2 ^ 32, s.bankOf 32 r.crossed r.spans⟩] }
      match sliceOnward s l r.bytes with
      | some k =>
        if s.flag SBD_CTRL_EN 0 && owning s && payloadWord r.bytes 0 / 2 ^ 16 == s.get DEV_HUB_LINE_ID 0 then
          forwardFrame r.port.val r.bytes bad st ⟨1, 32 + k, none, false, false, none, none, false⟩ (releaseWires s)
        else s
      | none => s
    else if sub = 0x5E then
      if bad then s
      else if payloadWord r.bytes 0 / 2 ^ 16 ≠ s.get DEV_HUB_LINE_ID 0 then s.sat TRK_CNT_RX_LINE_DROP l
      else ttArrive l r s
    else switchFrame r.port.val r.bytes bad st s

/-- Of the `n` octets of a MACsec frame `c` had crossed before a boundary: how many that is of the `m` octets within (R147). The 16 octets
of the SecTAG stand behind the addresses and the 16 of the ICV before the FCS; a frame that straddles the boundary straddles it
within. -/
def innerCrossed (c n m : Nat) : Nat :=
  if c = 0 then 0 else if n ≤ c then m else max 1 (min (m - 1) (if c ≤ 12 then c else max 12 (c - 16)))

/-- A frame received on a trunk port (R138, R147, R149, R150): its length is that on the wire. With MACsec on, a frame of the
uncontrolled port goes to the control core, and a bad frame is lost before it is deciphered. -/
def trunkReceive (r : RxFrame) (s : State) : State :=
  let l := r.port.val - 32
  if !s.flag TRK_PORT_STAT_LINK l then s
  else
    let bad := rxBad s r
    let s := if bad then s.count1 TRK_CNT_RX_RX_ERR l (771 + 16 * l) else s.sat TRK_CNT_RX_RX_OK l
    let st := stampsAt s r.port.val r.bytes r.age r.phase
    let s := if bad then s else mkaCheck l r.bytes s
    if !s.flag TRK_MSEC_CFG_EN l then trunkPath r bad st s
    else if bad then s
    else if etype r.bytes = 0x888E then
      if s.flag SBD_CTRL_EN 0 then
        forwardFrame r.port.val r.bytes false st ⟨1, 72, none, false, true, none, none, false⟩ (releaseWires s)
      else s
    else match msecReceive l r.bytes s with
      | (none, s) => s
      | (some fr, s) =>
        let r' : RxFrame := { r with bytes := fr, crossed := innerCrossed r.crossed r.bytes.length fr.length }
        trunkPath r' false (stampsAt s r.port.val fr r.age r.phase) s

/-! ### The commands' meanings -/

/-- SLICE_READ (R146). -/
def execSliceRead (e : Fin 64) (torn : List Nat) (ecc : List (Nat × Ecc)) (s : State) : Result := .next (sliceRead e torn ecc s)

/-- SLICE_FRAME_EGRESS (R145). -/
def execSliceFrameEgress (e : Fin 64) (s : State) : Result := .next (sliceEgress e s)

/-- SLICE_FRAME_RECEIVE (03 R77). -/
def execSliceFrameReceive (s : State) : Result := .next (sliceReceive s)

/-- TRK_GRP_CFG_WRITE (R137). -/
def execTrkGrpCfgWrite (q : Requester) (g : Fin 2) (v : Word) (s : State) : Result :=
  .next (s.gate q (0x4070_0010 + 16 * g.val) (trkGrpWrite g v.toNat))

/-- TRK_PORT_ENABLE (R138, R139): a write of TRK_PORT_CFG. -/
def execTrkPortEnable (q : Requester) (l : Fin 8) (v : Word) (s : State) : Result :=
  .next (s.gate q (trkPortAddr 0 l) (trkPortWrite l v.toNat))

/-- SYNTH_LOCK_TIMEOUT (R139). -/
def execSynthLockTimeout (k : Fin 8) (s : State) : Result := .next (synthTimeout k s)

/-- SYNTH_RETRY (R139). -/
def execSynthRetry (k : Fin 8) (s : State) : Result := .next (synthRetry k s)

/-- LINK_TRAINING_DONE (R139). -/
def execLinkTrainingDone (l : Fin 8) (rate : Fin 3) (tx rx : BitVec 16) (s : State) : Result :=
  .next (trainingDone l rate tx.toNat rx.toNat s)

/-- TRAINING_FAILURE (R139). -/
def execTrainingFailure (k : Fin 8) (s : State) : Result := .next (trainingFailure k s)

/-- DESKEW_LOST (R140). -/
def execDeskewLost (l : Fin 8) (s : State) : Result := .next (deskewLost l s)

/-- TRK_LINK_DOWN (R140, R144). -/
def execTrkLinkDown (l : Fin 8) (s : State) : Result := .next (trkLinkDown l s)

/-- TRK_MARGIN_MEASURE (R141 to R143). -/
def execTrkMarginMeasure (k : Fin 8) (m : Byte) (corr uncorr : Word) (s : State) : Result :=
  .next (trkMargin k m.toNat corr.toNat uncorr.toNat s)

/-- TRK_RETRAIN_REQ (R142). -/
def execTrkRetrainReq (q : Requester) (k : Fin 8) (s : State) : Result :=
  .next (s.gate q (trkLaneAddr 8 k) (fun s => s.put LANE_REQ (32 + k.val) 1))

/-- TRK_RATE_WRITE (R140): a write of TRK_LANE_CFG. -/
def execTrkRateWrite (q : Requester) (k : Fin 8) (v : Word) (s : State) : Result :=
  .next (s.gate q (trkLaneAddr 0 k) (trkLaneWrite k v.toNat))

/-- TRK_RETRAIN_WINDOW (R142). -/
def execTrkRetrainWindow (k : Fin 8) (s : State) : Result := .next (trkWindow k s)

/-- TRK_RETRAIN_DONE (R142). -/
def execTrkRetrainDone (k : Fin 8) (degraded : Bool) (rate : Fin 3) (tx rx : BitVec 16) (s : State) : Result :=
  .next (trkRetrainDone k degraded rate tx.toNat rx.toNat s)

/-- SA_INSTALL (R152). -/
def execSaInstall (l : Fin 8) (tx : Bool) (chan an : Fin 4) (s : State) : Result := .next (saInstall l tx chan an s)

/-- SA_RETIRE (R152). -/
def execSaRetire (l : Fin 8) (chan an : Fin 4) (s : State) : Result := .next (saRetire l chan an s)

/-- TX_AN_CHANGE (R152). -/
def execTxAnChange (l : Fin 8) (an : Fin 4) (s : State) : Result := .next (txAnChange l an s)

/-- TT_REQUEST_SEND (R153). -/
def execTtRequestSend (ch : Fin 9) (s : State) : Result := .next (ttRequest ch s)

/-- TT_REQUEST_ANSWER (R153). -/
def execTtRequestAnswer (ch : Fin 9) (s : State) : Result := .next (ttAnswer ch s)

/-- TT_RESPONSE_RECEIVE (R155). -/
def execTtResponseReceive (ch : Fin 9) (s : State) : Result := .next (ttResponse ch s)

end Sys2Proof.Machine
end

