-- ==== Sys2Proof/Machine/Courses.lean ====
section
/-! DEFINITION. The Courses beside their cores (07): states, START and STOP, group start, watchdog, events and time
compares, port hooks, frame rings, message queues, and the directory of the L1 caches. -/

namespace Sys2Proof.Machine

/-! ### Internal cells -/

/-- Boundaries since the last kick, and whether the warning has been given (R162). -/
def WDOG_CNT : Fld := ⟨1250, 0, 16, .int, 0, .reset, .none⟩
def WDOG_SAID : Fld := ⟨1251, 0, 1, .int, 0, .reset, .none⟩
/-- A group start is armed (R174). -/
def GST_ARMED : Fld := ⟨1252, 0, 1, .int, 0, .reset, .none⟩
/-- A transmit ring stands on a descriptor it took with OWN = 0, until TAIL is written again (R178). -/
def TXR_STUCK : Fld := ⟨1253, 0, 1, .int, 0, .reset, .none⟩
/-- Where the directory's rotating priority starts (R183). -/
def DIR_ROT : Fld := ⟨1254, 0, 6, .int, 0, .reset, .none⟩
/-- Busy cycles of a Course in the present line cycle (R172). -/
def BUSY_NOW : Fld := ⟨1255, 0, 23, .int, 0, .reset, .none⟩
/-- The event inputs of the control core (copy 0) and of the Portcullis core (copy 1): pending, pending twice (13 R301). -/
def CC_PEND : Fld := ⟨1256, 0, 64, .int, 0, .reset, .none⟩
def CC_DUP : Fld := ⟨1257, 0, 64, .int, 0, .reset, .none⟩
/-- A core waits in WAIT (08 R217); its instruction waits for an uncached access of its own, or for another access (R159, R160); it is
inside a block instruction (08 R211), whose first element has not run since it was set up. Cores: Courses 0 to 31, the control core
32, the Portcullis core 33. -/
def CORE_WAIT : Fld := ⟨1258, 0, 1, .int, 0, .reset, .none⟩
def CORE_STALL : Fld := ⟨1259, 0, 1, .int, 0, .reset, .none⟩
def CORE_FREEZE : Fld := ⟨1530, 0, 1, .int, 0, .reset, .none⟩
def CORE_BLOCK : Fld := ⟨1260, 0, 1, .int, 0, .reset, .none⟩
def CORE_SETUP : Fld := ⟨1531, 0, 1, .int, 0, .reset, .none⟩
/-- A message queue holds 2^LOG2 messages, HEAD and TAIL being equal (R181). -/
def Q_FULL : Fld := ⟨1532, 0, 1, .int, 0, .reset, .none⟩

def crsAddr (off n : Nat) : Nat := 0x4080_0000 + 0x4000 * n + off
def crsGlobal (off : Nat) : Nat := 0x4088_0000 + off

/-- The states of R161. -/
def crsOff : Nat := 0
def crsStopped : Nat := 1
def crsRun : Nat := 2
def crsHalted : Nat := 3

/-! ### Events (R169, R170) -/

/-- An event on input `i` of Course `n` (R170). -/
def crsInput (n i : Nat) (s : State) : State :=
  if s.bit CRS_EVT_PEND_PEND n i then s.putBit CRS_EVT_DUP_DUP n i true else s.putBit CRS_EVT_PEND_PEND n i true

/-- An event on input `i` of the control core (13 R301). -/
def ccInput (i : Nat) (s : State) : State :=
  if s.bit CC_PEND 0 i then s.putBit CC_DUP 0 i true else s.putBit CC_PEND 0 i true

/-! ### States (R161, R173, R174) -/

/-- A Transom access of `who` is part of its locked sequence; its LDX goes on without the lock. -/
def lockedWrite (who : Nat) (x : TrbAccess) : Bool := x.req == who && x.lock && x.write
def lockedRead (who : Nat) (x : TrbAccess) : TrbAccess := if x.req = who ∧ x.write = false then { x with lock := false } else x

/-- A locked sequence ends before its STX has stored (15 R348): the lock is released and the reservation lost; an STX whose write is
still queued stores nothing (DEDUCED, log entry 197). -/
def lockBroken (who : Nat) (s : State) : State :=
  { s.put TRB_STAT_LOCKED 0 0 with
    resvs := s.resvs.filter (fun r => r.core ≠ who)
    trbQueue := (s.trbQueue.filter (fun x => !lockedWrite who x)).map (lockedRead who)
    trbNow := s.trbNow.map (lockedRead who)
    trbDone := s.trbDone ++ (s.trbQueue.filter (lockedWrite who)).map (fun x => ⟨x.req, x.addr, [], false⟩) }

/-- The core that holds the Transom's lock leaves RUN, or takes the fatal-fault path: the lock is released at once, and
the locked sequence and its reservation are over (15 R348). -/
def lockLost (who : Nat) (s : State) : State :=
  if s.flag TRB_STAT_LOCKED 0 && s.get TRB_STAT_LOCK_OWNER 0 == who then
    ((lockBroken who s).sat TRB_CNT_LOCK_TO 0).raise 3850
  else s

/-- START: a STOPPED Course enters RUN (R173). -/
def courseStart (n : Nat) (s : State) : State :=
  if s.get CRS_STAT_STATE n = crsStopped then s.put CRS_STAT_STATE n crsRun else s

/-- STOP, between two instructions or after an element of a block instruction, once the write-through buffer has drained
(R161): RUN and HALTED go to STOPPED. -/
def courseStop (n : Nat) (s : State) : State :=
  let st := s.get CRS_STAT_STATE n
  if st = crsRun ∨ st = crsHalted then
    lockLost n (((drainThrough n s).put CRS_STAT_STATE n crsStopped).put CORE_BLOCK n 0)
  else s

/-- With HALT_PORTS = 1 the cyclic lists of the owned ports stop at the next boundary (R161, 05 R122; log entry 161). -/
def haltPorts (n : Nat) (s : State) : State :=
  if s.flag CRS_CTRL_HALT_PORTS n then
    overRange (fun p t => if t.bit CRS_OWN_PORTS n p then t.put MAC_CYC_HALT p 1 else t) 32 s
  else s

/-- A Course enters HALTED: `why` 1 a fatal fault, 2 the watchdog (R161). -/
def courseHalt (n why : Nat) (s : State) : State :=
  let s := haltPorts n s
  (lockLost n (((s.put CRS_STAT_STATE n crsHalted).put CRS_STAT_HALT_WHY n why).put CORE_BLOCK n 0)).raise (3971 + 4 * n)

/-- The STOPPED Courses of a mask enter RUN (R174). -/
def groupStart (mask : Nat) (s : State) : State :=
  overRange (fun n t => if bitOf mask n then courseStart n t else t) 32 s

/-- A write of `CRS_GSTART` with its upper half: the group start is armed, or happens at once (R174). -/
def gstartArm (mask at' : Nat) (s : State) : State :=
  let s := (s.put CRS_GSTART_MASK 0 mask).put CRS_GSTART_AT 0 at'
  let ahead := (at' + 2 ^ 32 - s.get LIM_CYC_NUM_NUM 0) % 2 ^ 32
  if !s.flag LIM_STAT_RUNNING 0 || ahead == 0 || decide (2 ^ 31 ≤ ahead) then groupStart mask (s.put GST_ARMED 0 0)
  else s.put GST_ARMED 0 1

/-- What a boundary does to an armed group start (R174). -/
def gstartBoundary (s : State) : State :=
  if s.flag GST_ARMED 0 && s.get CRS_GSTART_AT 0 == s.get LIM_CYC_NUM_NUM 0 then
    groupStart (s.get CRS_GSTART_MASK 0) (s.put GST_ARMED 0 0)
  else s

/-! ### The watchdog (R162) -/

def wdogKick (n : Nat) (s : State) : State := (s.put WDOG_CNT n 0).put WDOG_SAID n 0

/-- A boundary is counted for the Courses in RUN whose watchdog is on (R162). -/
def wdogBoundary (s : State) : State :=
  overRange (fun n t =>
    if t.get CRS_STAT_STATE n = crsRun ∧ t.get CRS_CTRL_WDOG_N n ≠ 0 then t.sat WDOG_CNT n else t) 32 s

/-- WDOG_N boundaries without a kick: the warning, once (R162). -/
def wdogWarning (n : Nat) (s : State) : State :=
  let w := s.get CRS_CTRL_WDOG_N n
  if w ≠ 0 ∧ w ≤ s.get WDOG_CNT n ∧ s.get WDOG_SAID n = 0 then crsInput n 63 (s.put WDOG_SAID n 1) else s

/-- WDOG_N more boundaries without a kick: the Course halts (R162); a warning not given yet comes first. -/
def wdogExpiry (n : Nat) (s : State) : State :=
  let w := s.get CRS_CTRL_WDOG_N n
  if w ≠ 0 ∧ 2 * w ≤ s.get WDOG_CNT n ∧ s.get CRS_STAT_STATE n = crsRun then
    courseHalt n 2 (wdogKick n (wdogWarning n s))
  else s

/-- A write to `CRS_CTRL`: the control core's fields, and the kick (R161, R162, R168, R173). -/
def crsCtrlWrite (q : Requester) (n v : Nat) (s : State) : State :=
  let s := if q = .cc then
      let s := (s.put CRS_CTRL_HALT_PORTS n (bitsOf v 2 1)).put CRS_CTRL_WDOG_N n (bitsOf v 8 8)
      let s := if bitOf v 0 then courseStart n s else s
      if bitOf v 1 then courseStop n s else s
    else s
  if bitOf v 16 then wdogKick n s else s

/-! ### Busy time (R172) -/

/-- `k` core clock cycles of a line cycle pass: a Course in RUN that does not wait was busy (R172, 08 R217). -/
def busyTick (k : Nat) (s : State) : State :=
  if !s.started then s else
  overRange (fun n t => if t.get CRS_STAT_STATE n = crsRun ∧ t.get CORE_WAIT n = 0 then t.sat BUSY_NOW n k else t) 32 s

/-- `k` core clock cycles pass for the Courses in RUN whose core an access stalls (R159). -/
def stallTick (k : Nat) (s : State) : State :=
  overRange (fun n t =>
    if t.get CRS_STAT_STATE n = crsRun ∧ (t.get CORE_STALL n ≠ 0 ∨ t.get CORE_FREEZE n ≠ 0) then t.sat CRS_STALL_STALL_CYC n k
    else t) 32 s

/-- A boundary, `ends` when it ends a line cycle: BUSY_LAST and BUSY_MAX; the count begins anew (R172). -/
def busyBoundary (ends : Bool) (s : State) : State :=
  overRange (fun n t =>
    let b := t.get BUSY_NOW n
    let t := if ends then (t.put CRS_BUSY_BUSY_LAST n b).put CRS_BUSY_BUSY_MAX n (max b (t.get CRS_BUSY_BUSY_MAX n)) else t
    t.put BUSY_NOW n 0) 32 s

/-! ### Time compares (R171) -/

/-- A write of the upper half of a compare, its lower half standing or written with it (R171). -/
def tcmpWrite (n i v : Nat) (s : State) : State :=
  let k := 4 * n + i
  let s := ((s.put CRS_TCMP_NS k (bitsOf v 0 32)).put CRS_TCMP_FRAC k (bitsOf v 32 8)).put CRS_TCMP_DOM k (bitsOf v 40 4)
  let s := s.put CRS_TCMP_ARM k (bitsOf v 44 1)
  if bitOf v 45 then s.put CRS_TCMP_FIRED k 0 else s

/-- An armed compare matches (R171, 02 R34). -/
def tcmpMatch (n i : Nat) (s : State) : State :=
  let k := 4 * n + i
  if s.flag CRS_TCMP_ARM k && s.reached (s.get CRS_TCMP_DOM k) (s.get CRS_TCMP_NS k * 256 + s.get CRS_TCMP_FRAC k) then
    crsInput n (56 + i) ((s.put CRS_TCMP_ARM k 0).put CRS_TCMP_FIRED k 1)
  else s

/-! ### Port hooks (R175, R176) -/

/-- A write to `CRS_HOOK`(p) of Course `n`: it acts for an owned port alone (R175). -/
def hookRegWrite (n p tag : Nat) (set : Bool) (s : State) : State :=
  if s.bit CRS_OWN_PORTS n p then
    let s := s.put CRS_HOOK_TAG (n * 32 + p) tag
    if set then hookTag p tag s else s
  else s

/-- A write of the upper half of `CRS_HOOK_WR` of Course `n` (R176). -/
def hookWrSubmit (n v : Nat) (s : State) : State :=
  let p := bitsOf v 48 5
  if s.bit CRS_OWN_PORTS n p then hookWrite p (bitsOf v 32 14) (bitsOf v 53 4) (bitsOf v 0 32) s else s

/-- Software events of a Course (R180). -/
def swEvents (n v : Nat) (s : State) : State :=
  overRange (fun k t => if bitOf v k then t.raise (3968 + 4 * n + k) else t) 3 s

/-! ### Frame rings (R177 to R179, 05 R119 to R121) -/

/-- LOG2 as it acts: 4 to 12. -/
def log2Of (v : Nat) : Nat := min 12 (max 4 v)

/-- The device address of descriptor `i` of a ring. -/
def ringDesc (base log2 i : Nat) : Nat := sbBase + 64 * base + 32 * (i % 2 ^ log2Of log2)

def txDesc (s : State) (n : Nat) : Nat :=
  ringDesc (s.get CRS_TXR_CFG_BASE n) (s.get CRS_TXR_CFG_LOG2 n) (s.get CRS_TXR_PTR_HEAD n)

def rxDesc (s : State) (n : Nat) : Nat :=
  ringDesc (s.get CRS_RXR_CFG_BASE n) (s.get CRS_RXR_CFG_LOG2 n) (s.get CRS_RXR_PTR_HEAD n)

/-- The ring's HEAD goes on by one descriptor. -/
def txAdvance (n : Nat) (s : State) : State :=
  s.put CRS_TXR_PTR_HEAD n ((s.get CRS_TXR_PTR_HEAD n + 1) % 2 ^ log2Of (s.get CRS_TXR_CFG_LOG2 n))

/-- TAIL moves past new descriptors; a ring that stood on one with OWN = 0 goes on (R178). -/
def txrTail (n v : Nat) (s : State) : State :=
  (s.put CRS_TXR_PTR_TAIL n (v % 2 ^ log2Of (s.get CRS_TXR_CFG_LOG2 n))).put TXR_STUCK n 0

def rxrTail (n v : Nat) (s : State) : State :=
  s.put CRS_RXR_PTR_TAIL n (v % 2 ^ log2Of (s.get CRS_RXR_CFG_LOG2 n))

/-- A large send may not go (05 R120). -/
def lsoBad (s : State) (dest w2 w3 : Nat) (buf : List Byte) : Bool :=
  let l3 := bitsOf w2 8 8
  decide (40 ≤ dest) || bitOf w2 6 || bitsOf w3 0 14 == 0 ||
    decide (portMaxLen s dest < bitsOf w2 24 8 + bitsOf w3 0 14 + 4) ||
    !(ipVersion buf l3 == 4 || ipVersion buf l3 == 6) || !(protoAt buf l3 == 6 || protoAt buf l3 == 17)

/-- The octets of a frame that is no large send, as stored (05 R119): what the egress MAC does at its start is done here,
since nothing between reads them; a frame for an internal port meets no MAC. -/
def txOctets (dest w2 : Nat) (buf : List Byte) : List Byte :=
  if bitOf w2 4 || decide (40 ≤ dest) then buf else
  let ins := bitOf w2 0
  let body := if ins then buf else buf.take (buf.length - 4)
  let b := padTo60 w2 body
  let b := if bitOf w2 2 then putL3Csum (bitsOf w2 8 8) b else b
  let b := if bitOf w2 3 then putL4Csum (bitsOf w2 8 8) (bitsOf w2 16 8) b else b
  if ins then withFcs b else b ++ buf.drop (buf.length - 4)

/-- A direct-transmit descriptor may be used by Course `n`, or by the control core (05 R125). -/
def directOk (s : State) (n dest : Nat) : Bool := decide (dest < 32) && (n == 32 || s.bit CRS_OWN_PORTS n dest)

/-- A frame admitted for direct transmit waits in its port's list instead of a class queue (05 R125). -/
def toDirect (id p c launch dom : Nat) (s : State) : State :=
  if s.queues.any (fun x => x.frame = id) then
    { s with queues := s.queues.filter (fun x => x.frame ≠ id), directs := s.directs ++ [⟨p, id, c, launch, dom, false⟩] }
  else s

/-- What becomes of the buffer of a taken descriptor (R178, 05 R119, R120, R125, 04 R94). -/
def txPlace (n dest tc w2 w3 launch dom : Nat) (ecc : Ecc) (o : TxOrigin) (buf : List Byte) (s : State) : State :=
  let direct := bitOf w2 6
  if 72 < dest then completeTx o 6 none s
  else if ecc = .uncorr then completeTx o 5 none s
  else if bitOf w2 4 && lsoBad s dest w2 w3 buf then completeTx o 4 none s
  else if direct && !directOk s n dest then completeTx o 6 none s
  else if direct && (!portReady s dest || gatedPort s dest) then completeTx o 1 none (s.sat MAC_CNT_TX_TX_NOT_READY dest)
  else
    let fr := txOctets dest w2 buf
    let info : FrameMeta := ⟨0, 0, outerVid fr, outerPcp fr, tagCount fr, none, false, isIPv4 fr, isIPv4 fr && l3Good fr,
      hasL4 fr, hasL4 fr && l4Good fr, false, none⟩
    let f : Frame := ⟨0, fr, cellsOf fr.length, 0, 40 + n, s.get CORE_COUNT 0, info, some o, 0, none, none, false, 0⟩
    let id := s.get FRAME_NEXT 0
    if direct then toDirect id dest tc launch dom (storeFrame [(dest, tc)] f.cells f s)
    else
      let (ts, s) := linkFilter (etype fr = 0x888E) [(dest, tc)] s
      if ts = [] then completeTx o 3 none s else storeFrame ts f.cells f s

/-- The accepted direct-transmit frames of a port. -/
def directCount (s : State) (p : Nat) : Nat := (s.directs.filter (fun x => x.port = p)).length

/-- A descriptor at device address `a`, of ring `n`, is taken (R178); `next'` moves the ring's HEAD, `stuck` ends its advance. A
direct-transmit frame that finds its port's list full waits in its ring (05 R125). -/
def txTakeAt (n a : Nat) (ecc : Ecc) (next' stuck : State → State) (s : State) : State :=
  if !bitOf (s.word (a + 28)) 31 then stuck s
  else
    let w0 := s.word a
    let w2 := s.word (a + 8)
    let w3 := s.word (a + 12)
    let w5 := s.word (a + 20)
    let dest := bitsOf w0 22 7
    if bitOf w2 6 && directOk s n dest && portReady s dest && !gatedPort s dest && decide (16 ≤ directCount s dest) then s
    else
      let o : TxOrigin := ⟨n, a, w2, w3⟩
      let buf := s.bytes (sbBase + s.word (a + 4) % 2 ^ 26) (bitsOf w0 0 19)
      txPlace n dest (bitsOf w0 19 3) w2 w3 (s.word (a + 16) * 256 + w5 % 256) (bitsOf w5 8 4) ecc o buf
        (eccSeen ecc (next' s))

/-- A descriptor of the control core's rings, which no register shows: where it stands is open (04 R83, R84; log entry 155). -/
def ccDesc (v : Nat) : Nat := sbBase + 32 * (v % 2 ^ 21)

/-- The hardware takes the next descriptor of a transmit ring, of a Course (0 to 31) or the control core (32) (R178, 04 R84); `ecc`
is what the reads found. -/
def txTake (n : Nat) (ecc : Ecc) (s : State) : State :=
  if n = 32 then txTakeAt 32 (ccDesc s.fresh) ecc id id s.used
  else if s.get CRS_TXR_PTR_HEAD n = s.get CRS_TXR_PTR_TAIL n ∨ s.flag TXR_STUCK n = true then s
  else txTakeAt n (txDesc s n) ecc (txAdvance n) (fun t => (t.sat CRS_RING_CNT_TX_BAD n).put TXR_STUCK n 1) s

/-- A descriptor of ring `n` completes (R178, 05 R119): STATUS and the timestamp are written and OWN clears; with its
IRQ bit set input 61 fires. -/
def txComplete (n : Nat) (s : State) : State :=
  match s.txDone.find? (fun d => d.origin.ring = n) with
  | none => s
  | some d =>
    let s := { s with txDone := s.txDone.erase d }
    let off := d.origin.desc - sbBase
    let w7 := s.word (d.origin.desc + 28)
    let s := match d.stamp with
      | some (ts, dom) =>
        if bitOf d.origin.word2 5 then
          let w5 := s.word (d.origin.desc + 20)
          soundboardWrite (off + 16)
            (toBytes 4 (ts / 256) ++ toBytes 4 (w5 / 4096 * 4096 + dom % 16 * 256 + ts % 256)) s
        else s
      | none => s
    let s := soundboardWrite (off + 28) (toBytes 4 (w7 % 2 ^ 31 / 256 * 256 + d.status % 256)) s
    if bitOf w7 30 && decide (n < 32) then crsInput n 61 s else s

/-- The octets of a frame as a Course's receive ring gets them, and whether the FCS is among them (04 R110, 05 R118, R119). -/
def ringOctets (s : State) (f : Frame) : List Byte × Bool :=
  match f.origin with
  | some o => (f.bytes, !bitOf o.word2 0)
  | none =>
    if f.info.mirror then (f.bytes, false)
    else
      let fr := editFrame (rtagOff s f) f.bytes
      if f.inPort < 32 ∧ s.flag MAC_CFG_FCS_STRIP f.inPort = true then (fr.take (fr.length - 4), false) else (fr, true)

/-- The words that a delivery writes into a receive descriptor (05 R121): 0, 2, 3, 4. -/
def rxWords (f : Frame) (tc len : Nat) (fcs : Bool) : Nat × Nat × Nat × Nat :=
  let b (x : Bool) (k : Nat) : Nat := if x then 2 ^ k else 0
  let i := f.info
  let timed := decide (f.inPort < 40) || i.mirror
  (len % 2 ^ 14 + b fcs 14 + f.inPort % 128 * 2 ^ 15 + tc % 8 * 2 ^ 22 + i.tags % 4 * 2 ^ 25 + b i.l3Seen 27 +
      b i.l3Ok 28 + b i.l4Seen 29 + b i.l4Ok 30 + b i.mirror 31,
    if timed then i.ts / 256 % 2 ^ 32 else 0,
    (if timed then i.ts % 256 + i.dom % 16 * 256 else 0) + i.vid % 4096 * 2 ^ 12 + i.pcp % 8 * 2 ^ 24,
    (match i.flow with
      | some e => e % 2 ^ 13 + 2 ^ 13
      | none => 0) + b i.miss 14)

/-- The head of the highest class queue of an internal port (R179, 04 R99). -/
def ringHead (s : State) (p : Nat) : Option (Nat × Frame) :=
  classOrder.findSome? (fun c => (queueHead s p c).map (fun f => (c, f)))

/-- A queued frame of switch port 40 + n goes into the descriptor at `a` with a buffer of `size` bytes, or is discarded: its read
met an uncorrectable word (04 R80), or it is longer than the buffer (R179; for its sender's STATUS see log entry 149). Its start
is an egress sample (04 R106); no timestamp is given for it. -/
def rxDeliverAt (n a size c : Nat) (f : Frame) (ecc : Ecc) (next' : State → State) (s : State) : State :=
  let (bs, fcs) := ringOctets s f
  let gone (status : Nat) (t : State) : State := dropRef f.id status (unqueue (40 + n) c f.id t)
  let s := eccSeen ecc s
  if ecc = .uncorr then gone 5 (s.count1 SBD_QCNT_AGE_DROP ((40 + n) * 8 + c) (1028 + 8 * (40 + n)))
  else if size < bs.length then
    gone (s.fresh % 256) (if n < 32 then s.used.sat CRS_RING_CNT_RX_TOOBIG n else s.used)
  else
    let s := mirror 1 (40 + n) c (s.fresh % 2 ^ 40) f.info.flow f.sampled (if fcs then bs.take (bs.length - 4) else bs) s.used
    let off := a - sbBase
    let w7 := s.word (a + 28)
    let (w0, w2, w3, w4) := rxWords f c bs.length fcs
    let s := soundboardWrite (s.word (a + 4) % 2 ^ 26) bs s
    let s := soundboardWrite off (toBytes 4 w0) s
    let s := soundboardWrite (off + 8) (toBytes 4 w2 ++ toBytes 4 w3 ++ toBytes 4 w4) s
    let s := next' (soundboardWrite (off + 28) (toBytes 4 (w7 % 2 ^ 31)) s)
    if n < 32 then crsInput n 60 (gone 0 s) else gone 0 s

/-- The next posted descriptor of a receive ring, of a Course or the control core (32), with the size of its buffer, if one is
posted. The control core's ring and buffer size are open (log entry 155). -/
def rxPosted (s : State) (n : Nat) : Option (Nat × Nat) :=
  if n = 32 then
    (if bitOf (s.word (ccDesc s.fresh + 28)) 31 then some (ccDesc s.fresh, 64 * (s.fresh / 2 ^ 21 % 256)) else none)
  else
    let size := 64 * s.get CRS_RXR_CFG_RXBUF n
    if s.get CRS_RXR_PTR_HEAD n = s.get CRS_RXR_PTR_TAIL n ∨ size = 0 ∨ bitOf (s.word (rxDesc s n + 28)) 31 = false then none
    else some (rxDesc s n, size)

/-- Switch port 40 + n: aged heads go (04 R105), then the head of its queues is delivered into the next posted descriptor
(R179). -/
def rxDeliver (n : Nat) (ecc : Ecc) (s : State) : State :=
  let s := agePort (40 + n) s
  let next' (t : State) : State :=
    if n = 32 then t
    else t.put CRS_RXR_PTR_HEAD n ((t.get CRS_RXR_PTR_HEAD n + 1) % 2 ^ log2Of (t.get CRS_RXR_CFG_LOG2 n))
  let t := if n = 32 then s.used else s
  match rxPosted s n, ringHead s (40 + n) with
  | some (a, size), some (c, f) => rxDeliverAt n a size c f ecc next' t
  | _, _ => t

/-! ### Message queues (R181) -/

/-- The consumer of a queue: a Course, or 32. -/
def queueConsumer (s : State) (k : Nat) : Nat := min 32 (s.get CRS_Q_CFG_CONSUMER k)

def queueSize (s : State) (k : Nat) : Nat := 2 ^ log2Of (s.get CRS_Q_CFG_LOG2 k)

/-- Course `n` sends its staged message to queue `k` (R181). -/
def msgSend (n k : Nat) (s : State) : State :=
  let t := s.get CRS_Q_PTR_TAIL k
  let next := (t + 1) % queueSize s k
  if !s.flag CRS_Q_CFG_EN k || s.flag Q_FULL k then
    (s.put CRS_MSG_STAT_FULL n 1).sat CRS_MSG_STAT_FULL_CNT n
  else
    let bs := [0, 1, 2, 3].flatMap (fun i => toBytes 4 (s.get CRS_MSG_DATA (4 * n + i)))
    let s := soundboardWrite (64 * s.get CRS_Q_CFG_BASE k + 16 * t) bs (s.put CRS_MSG_STAT_FULL n 0)
    let s := (s.put CRS_Q_PTR_TAIL k next).putFlag Q_FULL k (next == s.get CRS_Q_PTR_HEAD k)
    let c := queueConsumer s k
    if c < 32 then crsInput c 62 s else s

/-- The message at HEAD of queue `k` is freed (R181). -/
def queuePop (k : Nat) (s : State) : State :=
  let h := s.get CRS_Q_PTR_HEAD k
  if h = s.get CRS_Q_PTR_TAIL k ∧ s.flag Q_FULL k = false then s
  else (s.put CRS_Q_PTR_HEAD k ((h + 1) % queueSize s k)).put Q_FULL k 0

/-- A pop by requester `q`, written to address `a`: a Course that is not the consumer gets a bus error (R181). -/
def popWrite (q : Requester) (a k : Nat) (s : State) : State :=
  match q with
  | .course n => if queueConsumer s k = n.val then queuePop k s else s.refuse q a 2
  | _ => queuePop k s

/-- A write to `CRS_Q_CFG`; EN = 1 empties the queue (R181). -/
def queueCfgWrite (k v : Nat) (s : State) : State :=
  let s := ((s.put CRS_Q_CFG_BASE k (bitsOf v 0 20)).put CRS_Q_CFG_LOG2 k (bitsOf v 20 4)).put CRS_Q_CFG_CONSUMER k
    (bitsOf v 24 6)
  let s := s.put CRS_Q_CFG_EN k (bitsOf v 30 1)
  if bitOf v 30 then ((s.put CRS_Q_PTR_HEAD k 0).put CRS_Q_PTR_TAIL k 0).put Q_FULL k 0 else s

/-! ### The directory (R182 to R184) -/

/-- An L1 loses a line, and with it a reservation on it (08 R218). -/
def loseLine (k line : Nat) (s : State) : State :=
  { s with resvs := s.resvs.filter (fun r => !(r.core = k && r.addr / 64 = line && r.len = 64)) }

def State.dirEntry (s : State) (line : Nat) : Option DirEntry := s.dir.find? (fun e => e.line = line)

/-- The L1s that hold a line of the directory. -/
def State.holdersOf (s : State) (line : Nat) : List Nat :=
  match s.dirEntry line with
  | some e => e.holders
  | none => []

/-- A line held by nobody has no entry. -/
def putDir (e : DirEntry) (s : State) : State :=
  let rest := s.dir.filter (fun x => x.line ≠ e.line)
  { s with dir := if e.holders = [] then rest else rest ++ [e] }

/-- Every L1 loses a line. -/
def invalidate (line : Nat) (s : State) : State :=
  let ks := s.holdersOf line
  overList (fun k t => loseLine k line t) ks { s with dir := s.dir.filter (fun x => x.line ≠ line) }

/-- A line's set of 16 entries has no room for it: an entry is evicted, which one is open (R184). -/
def dirRoom (line : Nat) (s : State) : State :=
  if (s.dirEntry line).isSome then s else
  let set := s.dir.filter (fun e => Config.dirSet e.line = Config.dirSet line)
  if set.length < 16 then s else
  match set[s.fresh % set.length]? with
  | some e => invalidate e.line (s.used.sat CRS_DIR_CNT_BACKINV 0 e.holders.length)
  | none => s

/-- An L1 gives a line up: EVICT of a clean line, WB of a Modified one, whose data is in the Soundboard (R182, R184). -/
def dirWriteback (k line : Nat) (s : State) : State :=
  match s.dirEntry line with
  | none => s
  | some e =>
    let e := match e.owner with
      | some o => if o = k then { e with owner := none, dirty := false, sharers := [] } else e
      | none => { e with sharers := e.sharers.filter (fun x => x ≠ k) }
    putDir e (loseLine k line s)

/-- L1 `k`'s 8 ways of a set have no room for a line: it evicts one, which one is open (07, the parts of a Course). -/
def l1Room (k line : Nat) (s : State) : State :=
  if (s.holdersOf line).contains k then s else
  let set := s.dir.filter (fun e => e.holders.contains k && Config.l1Set e.line = Config.l1Set line)
  if set.length < 8 then s else
  match set[s.fresh % set.length]? with
  | some e => dirWriteback k e.line s.used
  | none => s

/-- L1 `k` gets a line to share: a line that another L1 owns is recalled from it (R182). -/
def grantRd (k line : Nat) (s : State) : State :=
  let s := dirRoom line (l1Room k line s)
  match s.dirEntry line with
  | none => putDir ⟨line, none, false, [k]⟩ s
  | some e =>
    match e.owner with
    | some o => if o = k then s else putDir ⟨line, none, false, [k]⟩ (loseLine o line s)
    | none => if e.sharers.contains k then s else putDir { e with sharers := e.sharers ++ [k] } s

/-- L1 `k` gets ownership of a line: every other L1 loses it (R182). A line of the line image is never Modified (R184). -/
def grantOwn (k line : Nat) (dirty : Bool) (s : State) : State :=
  let s := dirRoom line (l1Room k line s)
  let others := (s.holdersOf line).filter (fun x => x ≠ k)
  putDir ⟨line, some k, dirty && !s.imageLine line, []⟩ (overList (fun x t => loseLine x line t) others s)

/-- The place of an L1 in the rotating priority (R183). -/
def rotation (s : State) (k : Nat) : Nat := (k + 33 - s.get DIR_ROT 0) % 33

/-- `r` comes before `q`: tickets in order first, then the rotation (R183). -/
def dirBefore (s : State) (r q : DirReq) : Bool :=
  match r.ticket, q.ticket with
  | some a, some b => decide (a < b)
  | some _, none => true
  | none, some _ => false
  | none, none => decide (rotation s r.who < rotation s q.who)

/-- The first of some requests. -/
def dirFirst (s : State) : List DirReq → Option DirReq
  | [] => none
  | r :: rs => match dirFirst s rs with
    | none => some r
    | some q => some (if dirBefore s q r then q else r)

/-- Requests of a line that hold a ticket. -/
def ticketsOf (s : State) (line : Nat) : Nat := (s.dirReqs.filter (fun r => r.line = line && r.ticket.isSome)).length

/-- The waiting requests of a line that have none take free tickets in rotating priority; 8 exist (R183). -/
def giveTickets (line : Nat) : Nat → State → State
  | 0, s => s
  | n + 1, s =>
    if 8 ≤ ticketsOf s line then s else
    match dirFirst s (s.dirReqs.filter (fun r => r.line = line && r.ticket.isNone && !r.atDir)) with
    | none => s
    | some r => giveTickets line n { s with dirReqs := s.dirReqs.map (fun x =>
        if x = r then { x with ticket := some (ticketsOf s line + 1) } else x) }

/-- A loser gets RETRY, or RETRY_WAIT when no ticket is left for it (R183). -/
def countRetry (r : DirReq) (s : State) : State :=
  let s := s.sat CRS_DIR_CNT_RETRY 0
  if 32 ≤ r.who then s
  else if s.dirReqs.any (fun x => x.line = r.line && x.who = r.who && x.ticket.isSome) then s.sat CRS_STALL_RETRY r.who
  else s.sat CRS_STALL_RETRY_WAIT r.who

/-- The request of L1 `k` for a line leaves; the tickets behind its own move up. -/
def dirLeaves (k line : Nat) (s : State) : State :=
  let mine (x : DirReq) : Bool := x.line = line && x.who = k
  let ticket := (s.dirReqs.find? mine).bind (fun x => x.ticket)
  { s with dirReqs := (s.dirReqs.filter (fun x => !mine x)).map (fun x =>
    match x.ticket, ticket with
    | some a, some b => if x.line = line ∧ b < a then { x with ticket := some (a - 1) } else x
    | _, _ => x) }

/-- A request is granted, and leaves. -/
def dirGranted (r : DirReq) (s : State) : State :=
  let s := dirLeaves r.who r.line s
  match r.kind with
  | .rd => grantRd r.who r.line s
  | _ => grantOwn r.who r.line true s

/-- A round of a line begins (R182, R183): one request is granted, with a read every other read that waits; the others
get RETRY. -/
def dirRound (line : Nat) (s : State) : State :=
  if s.dirRounds.contains line then s else
  match dirFirst s (s.dirReqs.filter (fun r => r.line = line && r.atDir)) with
  | none => s
  | some w =>
    let with' := if w.kind = .rd then s.dirReqs.filter (fun r => r.line = line && r.atDir && r.kind = .rd && r ≠ w) else []
    let losers := (s.dirReqs.filter (fun r => r.line = line && r.atDir && r ≠ w)).filter (fun r => !with'.contains r)
    let s := overList dirGranted with' (dirGranted w s)
    let s := { s.put DIR_ROT 0 ((w.who + 1) % 33) with
      dirRounds := s.dirRounds ++ [line]
      dirReqs := s.dirReqs.map (fun r => if r.line = line then { r with atDir := false } else r) }
    overList countRetry losers (giveTickets line 33 s)

/-- An L1 whose domain is on. -/
def l1On (s : State) (k : Nat) : Bool := k == 32 || s.domOn k

/-- Requests for one line reach the directory in one cycle (R182). -/
def dirRequest (line : Nat) (rs : List (Nat × DirKind)) (s : State) : State :=
  let new := (rs.filter (fun r => l1On s r.1 && !s.dirReqs.any (fun x => x.line = line && x.who = r.1))).map
    (fun r => (⟨line, r.1, r.2, none, true⟩ : DirReq))
  dirRound line { s with dirReqs := s.dirReqs ++ new }

/-- A round ends; the requests that came meanwhile are judged (R182). -/
def dirRoundEnd (line : Nat) (s : State) : State :=
  if s.dirRounds.contains line then dirRound line { s with dirRounds := s.dirRounds.erase line } else s

/-- An L1 issues its request again; an upgrade whose Shared copy is gone asks for ownership (R183). -/
def dirReissue (k line : Nat) (s : State) : State :=
  dirRound line { s with dirReqs := s.dirReqs.map (fun r =>
    if r.line = line ∧ r.who = k then
      { r with atDir := true, kind := if r.kind = .upg ∧ (s.holdersOf line).contains k = false then .own else r.kind }
    else r) }

/-- An L1 leaves the directory with all its lines (01 R17). -/
def dirLeave (k : Nat) (s : State) : State :=
  let s := overList (fun (e : DirEntry) t => dirWriteback k e.line t) (s.dir.filter (fun e => e.holders.contains k)) s
  { s with dirReqs := s.dirReqs.filter (fun r => r.who ≠ k) }

/-! ### The commands' meanings -/

/-- CRS_START (R173): a write of CRS_CTRL whose START acts for the control core alone (R168). -/
def execCrsStart (q : Requester) (n : Fin 32) (s : State) : Result :=
  .next (s.gate q (crsAddr 0 n) (if q = .cc then courseStart n else id))

/-- CRS_STOP (R161): as CRS_START. -/
def execCrsStop (q : Requester) (n : Fin 32) (s : State) : Result :=
  .next (s.gate q (crsAddr 0 n) (if q = .cc then courseStop n else id))

/-- CRS_GSTART_ARM (R174). -/
def execCrsGstartArm (q : Requester) (mask at' : Word) (s : State) : Result :=
  .next (s.gateCC q (crsGlobal 0x1000) (gstartArm mask.toNat at'.toNat))

/-- CRS_WDOG_KICK (R162). -/
def execCrsWdogKick (q : Requester) (n : Fin 32) (s : State) : Result := .next (s.gate q (crsAddr 0 n) (wdogKick n))

/-- COURSE_WATCHDOG_WARNING (R162). -/
def execCourseWatchdogWarning (n : Fin 32) (s : State) : Result := .next (wdogWarning n s)

/-- COURSE_WATCHDOG_EXPIRY (R162). -/
def execCourseWatchdogExpiry (n : Fin 32) (s : State) : Result := .next (wdogExpiry n s)

/-- CRS_TCMP_ARM (R171): the register written with ARM = 1. -/
def execCrsTcmpArm (q : Requester) (n : Fin 32) (i : Fin 4) (ns : Word) (frac : Byte) (dom : Fin 16) (s : State) : Result :=
  .next (s.gate q (crsAddr (0x200 + 0x10 * i) n)
    (tcmpWrite n i (ns.toNat + frac.toNat * 2 ^ 32 + dom.val * 2 ^ 40 + 2 ^ 44)))

/-- TCMP_MATCH (R171). -/
def execTcmpMatch (n : Fin 32) (i : Fin 4) (s : State) : Result := .next (tcmpMatch n i s)

/-- HOOK_TAG (R175). -/
def execHookTag (q : Requester) (n p : Fin 32) (tag : Byte) (s : State) : Result :=
  .next (s.gate q (crsAddr (0x800 + 8 * p) n) (hookRegWrite n p tag.toNat true))

/-- CRS_HOOK_WR (R176). -/
def execCrsHookWr (q : Requester) (n : Fin 32) (v : BitVec 64) (s : State) : Result :=
  .next (s.gate q (crsAddr 0xA00 n) (hookWrSubmit n v.toNat))

/-- CRS_TXR_TAIL (R178). -/
def execCrsTxrTail (q : Requester) (n : Fin 32) (v : BitVec 12) (s : State) : Result :=
  .next (s.gate q (crsAddr 0x408 n) (txrTail n v.toNat))

/-- TX_DESCRIPTOR_TAKE (R178). -/
def execTxDescriptorTake (n : Fin 33) (ecc : Ecc) (s : State) : Result := .next (txTake n ecc s)

/-- TX_COMPLETION (05 R119). -/
def execTxCompletion (n : Fin 33) (s : State) : Result := .next (txComplete n s)

/-- CRS_RXR_TAIL (R179). -/
def execCrsRxrTail (q : Requester) (n : Fin 32) (v : BitVec 12) (s : State) : Result :=
  .next (s.gate q (crsAddr 0x418 n) (rxrTail n v.toNat))

/-- RX_RING_DELIVERY (R179). -/
def execRxRingDelivery (n : RxTake) (s : State) : Result := .next (rxDeliver n.ring n.ecc s)

/-- CRS_SWEVT (R180). -/
def execCrsSwevt (q : Requester) (n : Fin 32) (v : BitVec 3) (s : State) : Result :=
  .next (s.gate q (crsAddr 0x300 n) (swEvents n v.toNat))

/-- CRS_MSG_SEND (R181). -/
def execCrsMsgSend (q : Requester) (n : Fin 32) (k : Fin 64) (s : State) : Result :=
  .next (s.gate q (crsAddr 0x510 n) (msgSend n k))

/-- CRS_Q_POP (R181). -/
def execCrsQPop (q : Requester) (n : Fin 32) (k : Fin 64) (s : State) : Result :=
  .next (s.gate q (crsAddr 0x518 n) (popWrite q (crsAddr 0x518 n) k))

/-- CRS_Q_ENABLE (R181): the register written with EN = 1. -/
def execCrsQEnable (q : Requester) (k : Fin 64) (v : BitVec 30) (s : State) : Result :=
  .next (s.gateCC q (crsGlobal (0x10 * k)) (queueCfgWrite k (v.toNat + 2 ^ 30)))

/-- DIRECTORY_REQUEST (R182, R183). -/
def execDirectoryRequest (line : BitVec 20) (rs : List (Fin 33 × DirKind)) (s : State) : Result :=
  .next (dirRequest (sbBase / 64 + line.toNat) (rs.map (fun r => (r.1.val, r.2))) s)

/-- DIRECTORY_ROUND_END (R182). -/
def execDirectoryRoundEnd (line : BitVec 20) (s : State) : Result := .next (dirRoundEnd (sbBase / 64 + line.toNat) s)

/-- L1_RETRY_REISSUE (R183). -/
def execL1RetryReissue (k : Fin 33) (line : BitVec 20) (s : State) : Result :=
  .next (dirReissue k (sbBase / 64 + line.toNat) s)

/-- L1_WRITEBACK (R182, R184). -/
def execL1Writeback (k : Fin 33) (line : BitVec 20) (s : State) : Result :=
  .next (dirWriteback k (sbBase / 64 + line.toNat) s)

end Sys2Proof.Machine
end

