-- ==== Sys2Proof/Machine/Frets.lean ====
section
/-! DEFINITION. The Frets (09): pins and banks, a Fret's cycle and its actions, queues, the time compare, running and
stopping. -/

namespace Sys2Proof.Machine

/-! ### Internal cells -/

/-- Transition tables: word 16 s + i of Fret f at f × 1024 + 16 s + i (R226). -/
def FRT_TBL : Fld := ⟨1261, 0, 32, .int, 0, .keep, .none⟩
/-- Slot values (R226, R233); they follow SAFE while the Fret stands stopped safe (R233). -/
def FRT_SLOTS : Fld := ⟨1262, 0, 8, .int, 0, .keep, .none⟩
def FRT_IS_SAFE : Fld := ⟨1263, 0, 1, .int, 1, .keep, .none⟩
/-- The index of the entry a stall repeats (R231). -/
def FRT_INDEX : Fld := ⟨1264, 0, 4, .int, 0, .reset, .none⟩
/-- Words of the transmit and receive queues, the head first: word i of Fret f at 8 f + i (R230). -/
def FRT_TQ : Fld := ⟨1265, 0, 32, .int, 0, .keep, .none⟩
def FRT_RQ : Fld := ⟨1266, 0, 32, .int, 0, .keep, .none⟩
/-- An armed group start and its Frets (R234). -/
def FGS_ARMED : Fld := ⟨1267, 0, 1, .int, 0, .reset, .none⟩
def FGS_MASK : Fld := ⟨1268, 0, 64, .int, 0, .reset, .none⟩

def frtAddr (off f : Nat) : Nat := 0x4091_0000 + 0x2000 * f + off

/-- Event k of Fret f (R235). -/
def frtEvent (f k : Nat) (s : State) : State := s.raise (2176 + 8 * f + k)

/-- A field's width in bits of shift words, 0 meaning 32 (R228). -/
def shiftLen (s : State) (f : Nat) : Nat := let n := s.get FRT_CFG_SHIFT_LEN f; if n = 0 then 32 else n

/-! ### Queues (R230) -/

/-- Sizes of the transmit and the receive queue. -/
def frtSizes (s : State) (f : Nat) : Nat × Nat :=
  match s.get FRT_CFG_QJOIN f with
  | 1 => (8, 0)
  | 2 => (0, 8)
  | _ => (4, 4)

def txCount (s : State) (f : Nat) : Nat := s.get FRT_QSTAT_TX_CNT f
def rxCount (s : State) (f : Nat) : Nat := s.get FRT_QSTAT_RX_CNT f

/-- The transmit count changes; a fall to TX_LOW raises FRT_TXQ_LOW (R235). -/
def setTxCount (f n : Nat) (s : State) : State :=
  let low := s.get FRT_QCFG_TX_LOW f
  let was := txCount s f
  let s := s.put FRT_QSTAT_TX_CNT f n
  if low < was ∧ n ≤ low then frtEvent f 1 s else s

/-- The receive count changes; a rise to RX_HIGH raises FRT_RXQ_HIGH (R235). -/
def setRxCount (f n : Nat) (s : State) : State :=
  let high := max 1 (s.get FRT_QCFG_RX_HIGH f)
  let was := rxCount s f
  let s := s.put FRT_QSTAT_RX_CNT f n
  if was < high ∧ high ≤ n then frtEvent f 2 s else s

/-- The words behind the head move up. -/
def shiftQueue (Q : Fld) (f : Nat) (s : State) : State :=
  overList (fun i t => t.put Q (8 * f + i) (t.get Q (8 * f + i + 1))) (List.range 7) s

/-- The head of the transmit queue, and the state without it. -/
def txPop (f : Nat) (s : State) : Nat × State :=
  (s.get FRT_TQ (8 * f), setTxCount f (txCount s f - 1) (shiftQueue FRT_TQ f s))

/-- A word pushed into the receive queue. -/
def rxPush (f v : Nat) (s : State) : State := setRxCount f (rxCount s f + 1) (s.put FRT_RQ (8 * f + rxCount s f) v)

/-- TXQ_OVF or RXQ_UNF sets; FRT_QERR when either goes from 0 to 1 (R230). -/
def frtQerr (F : Fld) (f : Nat) (s : State) : State := if s.flag F f then s else frtEvent f 5 (s.put F f 1)

/-- A write to `FRT_TXQ` (R230). -/
def txqWrite (f v : Nat) (s : State) : State :=
  let n := txCount s f
  if n < (frtSizes s f).1 then setTxCount f (n + 1) (s.put FRT_TQ (8 * f + n) v) else frtQerr FRT_STAT_TXQ_OVF f s

/-- A read of `FRT_RXQ` (R230): the word, and the state without it. -/
def rxqRead (f : Nat) (s : State) : Nat × State :=
  if rxCount s f = 0 then (0, frtQerr FRT_STAT_RXQ_UNF f s)
  else (s.get FRT_RQ (8 * f), setRxCount f (rxCount s f - 1) (shiftQueue FRT_RQ f s))

/-- Both queues empty (R230). -/
def emptyQueues (f : Nat) (s : State) : State := setRxCount f 0 (setTxCount f 0 s)

/-! ### Pins (R221 to R223) -/

/-- The bank of a pin is on. -/
def pinOn (s : State) (n : Nat) : Bool := s.domOn (domFretBank (n / 32))

/-- The Fret logic has power (R221). -/
def fretsOn (s : State) : Bool := (List.range 6).any (fun b => s.domOn (domFretBank b))

/-- The shift-out bit (R228). -/
def srb (s : State) (f : Nat) : Bool :=
  bitOf (s.get FRT_DBG_SR f) (if s.flag FRT_CFG_SHIFT_DIR f then shiftLen s f - 1 else 0)

/-- Slot k of Fret f as its pins see it: with SOUT_EN slot SOUT_SLOT shows SRB while the Fret runs (R228, R233). -/
def slotValue (s : State) (f k : Nat) : Bool :=
  if s.flag FRT_CFG_SOUT_EN f && s.get FRT_CFG_SOUT_SLOT f == k && s.flag FRT_STAT_RUN f then srb s f
  else bitOf (s.get FRT_SLOTS f) k

/-- What pin n drives: none where it is undriven (R221, R222), also in a gated bank of a unit that does not own (18 R420). -/
def pinDrive (s : State) (n : Nat) : Option Bool :=
  let f := s.get FRT_PIN_FRET n
  let v := slotValue s f (s.get FRT_PIN_SLOT n)
  if !pinOn s n || (!owning s && s.bit RDN_FRT_GATE_MASK 0 (n / 32)) then none else
  match s.get FRT_PIN_MODE n with
  | 1 => some v
  | 2 => if v then none else some false
  | 3 => if slotValue s f (s.get FRT_PIN_OE_SLOT n) then some v else none
  | _ => none

/-- What a pin's ball did at the latest edges, 2 bits each: what it is driven to now, then the captures of the latest edge, of the one
before it and of the one before that; 0 undriven (its level outside not yet asked for), 2 low, 3 high (R223). -/
def PIN_HIST : Fld := ⟨1534, 0, 8, .int, 0, .reset, .none⟩

/-- What a pin is driven to, in that code. -/
def pinCode (s : State) (n : Nat) : Nat :=
  match pinDrive s n with
  | none => 0
  | some b => if b then 3 else 2

/-- An edge of the Fret clock captures pin `n`: the ball holds what was driven since the edge before; a change of the present cycle
reaches it after this edge (R223, R226). -/
def pinCapture (n : Nat) (s : State) : State := s.put PIN_HIST n (s.get PIN_HIST n * 4 % 256 + pinCode s n)

/-- The Fret clock's edges in `k` core clock cycles that end now capture the pins that are driven, or were. -/
def pinsCapture (k : Nat) (s : State) : State :=
  let c := s.get CORE_COUNT 0
  let ns := (((s.listed FRT_PIN_MODE) ++ (s.listed PIN_HIST)).map Prod.fst).eraseDups
  overRange (fun _ t => overList pinCapture ns t) (min 4 (c / 2 - (c - k) / 2)) s

/-- The pins that the input slots of a Fret name. -/
def inSel : List Fld := [FRT_INSEL_IN0, FRT_INSEL_IN1, FRT_INSEL_IN2, FRT_INSEL_IN3, FRT_INSEL_IN4, FRT_INSEL_IN5,
  FRT_INSEL_IN6, FRT_INSEL_IN7]

/-- The level captured at pin `n` two edges ago, where `outside` is the level there of a pin that was undriven: the first slot that asks
for it fixes it for all (R223). -/
def pinSample (n : Nat) (outside : Bool) (s : State) : Bool × State :=
  let h := s.get PIN_HIST n
  if h / 64 = 0 then (outside, s.put PIN_HIST n (h + (if outside then 192 else 128))) else (h / 64 = 3, s)

/-- The levels captured for the input slots of Fret `f` from slot `k` on. -/
def slotSamples (f ins : Nat) : List Nat → State → Nat × State
  | [], s => (0, s)
  | k :: ks, s =>
    let n := (inSel[k]?.map (fun F => s.get F f)).getD 192
    let x := if n < 192 then pinSample n (bitOf ins k) s else (false, s)
    let r := slotSamples f ins ks x.2
    (r.1 + (if x.1 then 2 ^ k else 0), r.2)

/-- Input slot k holds `level`, the level captured at its pin, and 0 where no pin is named or its bank is off (R221, R223). -/
def slotIn (s : State) (f k : Nat) (level : Bool) : Bool :=
  match inSel[k]? with
  | some F => let n := s.get F f; decide (n < 192) && pinOn s n && level
  | none => false

/-! ### Running and stopping (R233, R234) -/

/-- START of a stopped Fret (R233). -/
def fretStart (f : Nat) (s : State) : State :=
  if s.flag FRT_STAT_RUN f then s else
  let s := (s.put FRT_STAT_STATE f (s.get FRT_CFG_INIT_STATE f)).put FRT_DBG_SR f
    (if s.flag FRT_CFG_SFILL f then 2 ^ 32 - 1 else 0)
  let s := ((((s.put FRT_DBG_BITCNT f 0).put FRT_DBG_CNT f 0).put FRT_STAT_F0 f 0).put FRT_STAT_F1 f 0).put FRT_STAT_TM f 0
  ((s.put FRT_STAT_STALLED f 0).put FRT_IS_SAFE f 0).put FRT_STAT_RUN f 1

/-- A running Fret ends: `why` 1 STOP, 2 HALT (R233). With STOP_SAFE = 0 its slots keep what they showed, the slot of SOUT_EN
its last SRB (log entry 96). A block without power raises no event (01 R16). -/
def fretStop (f why : Nat) (s : State) : State :=
  if !s.flag FRT_STAT_RUN f then s else
  let s := if s.flag FRT_CFG_STOP_SAFE f then (s.put FRT_IS_SAFE f 1).put FRT_SLOTS f (s.get FRT_CFG_SAFE f)
    else if s.flag FRT_CFG_SOUT_EN f then s.putBit FRT_SLOTS f (s.get FRT_CFG_SOUT_SLOT f) (srb s f) else s
  let s := ((s.put FRT_STAT_RUN f 0).put FRT_STAT_STALLED f 0).put FRT_STAT_STOP_WHY f why
  if fretsOn s then frtEvent f 4 s else s

/-- The stopped Frets of a mask start together (R234). -/
def fretGroup (mask : Nat) (s : State) : State := overRange (fun f t => if bitOf mask f then fretStart f t else t) 64 s

/-- A write of `FRT_GSTART` (R234). -/
def fretGstartArm (at' : Nat) (s : State) : State :=
  let s := s.put FRT_GSTART_AT 0 at'
  let mask := s.get FRT_GMASK_MASK 0
  let ahead := (at' + 2 ^ 32 - s.get LIM_CYC_NUM_NUM 0) % 2 ^ 32
  if !s.flag LIM_STAT_RUNNING 0 || ahead == 0 || decide (2 ^ 31 ≤ ahead) then fretGroup mask (s.put FGS_ARMED 0 0)
  else (s.put FGS_ARMED 0 1).put FGS_MASK 0 mask

/-- What a boundary does to an armed group start (R234), while the block has power (R221). -/
def fretGstartBoundary (s : State) : State :=
  if fretsOn s && s.flag FGS_ARMED 0 && s.get FRT_GSTART_AT 0 == s.get LIM_CYC_NUM_NUM 0 then
    fretGroup (s.get FGS_MASK 0) (s.put FGS_ARMED 0 0)
  else s

/-! ### Program registers (R224) -/

/-- An ignored program write is flagged and counted for a Fret (R224). -/
def wrIgn (f : Nat) (s : State) : State :=
  let s := s.sat FRT_CNT_WR_IGN_CNT f
  if s.flag FRT_STAT_WR_IGN f then s else frtEvent f 6 (s.put FRT_STAT_WR_IGN f 1)

/-- A write that needs Fret f stopped. -/
def whenStopped (f : Nat) (k : State → State) (s : State) : State := if s.flag FRT_STAT_RUN f then wrIgn f s else k s

/-- A write to `FRT_CFG` of a stopped Fret: a change of QJOIN empties both queues (R230), and slots held safe follow SAFE. -/
def frtCfgWrite (f v : Nat) (s : State) : State :=
  let was := s.get FRT_CFG_QJOIN f
  let s := s.setFlds f v [FRT_CFG_INIT_STATE, FRT_CFG_QJOIN, FRT_CFG_SHIFT_DIR, FRT_CFG_SHIFT_LEN, FRT_CFG_SFILL,
    FRT_CFG_SOUT_EN, FRT_CFG_SOUT_SLOT, FRT_CFG_SIN_SLOT, FRT_CFG_STOP_SAFE, FRT_CFG_SAFE]
  let s := if s.get FRT_CFG_QJOIN f = was then s else emptyQueues f s
  if s.flag FRT_IS_SAFE f then s.put FRT_SLOTS f (s.get FRT_CFG_SAFE f) else s

/-- A write to `FRT_PIN`(n): ignored while a Fret runs that its old or its new FRET names (R224). -/
def frtPinWrite (n v : Nat) (s : State) : State :=
  let fs := ([s.get FRT_PIN_FRET n, bitsOf v 2 6].eraseDups).filter (fun f => s.flag FRT_STAT_RUN f)
  if fs = [] then
    s.setFlds n v [FRT_PIN_MODE, FRT_PIN_FRET, FRT_PIN_SLOT, FRT_PIN_OE_SLOT, FRT_PIN_DRIVE, FRT_PIN_PULL]
  else overList wrIgn fs s

/-- A write to a program register of the FRT block at block offset `off`, `v` being its full value; none where the offset
is no program register (R224). -/
def frtProgram (off v : Nat) : Option (State → State) :=
  if off < 0x1_0000 then
    (if 0x100 ≤ off ∧ off < 0x400 ∧ off % 4 = 0 then some (frtPinWrite ((off - 0x100) / 4) v) else none)
  else if 0x9_0000 ≤ off then none
  else
    let f := off / 0x2000 - 8
    let o := off % 0x2000
    if o = 0x8 then some (whenStopped f (frtCfgWrite f v))
    else if o = 0xC then some (whenStopped f (fun s => s.setFlds f v [FRT_RELOAD_RELOAD0, FRT_RELOAD_RELOAD1]))
    else if o = 0x10 then some (whenStopped f (fun s => s.setFlds f v [FRT_QCFG_TX_LOW, FRT_QCFG_RX_HIGH]))
    else if o = 0x18 then some (whenStopped f (fun s => s.setFlds f v inSel))
    else if 0x800 ≤ o ∧ o < 0x900 ∧ o % 4 = 0 then
      some (whenStopped f (fun s => s.setFlds (f * 64 + (o - 0x800) / 4) v
        [FRT_SSEL_SEL0, FRT_SSEL_SEL1, FRT_SSEL_SEL2, FRT_SSEL_SEL3, FRT_SSEL_USE]))
    else if 0x1000 ≤ o ∧ o % 4 = 0 then
      some (whenStopped f (fun s => s.put FRT_TBL (f * 1024 + o % 0x1000 / 4) (v % 2 ^ 23)))
    else none

/-- A write to `FRT_CTRL`, judged by RUN as it reaches the block (R224, R230, R233): STOP acts on a running Fret, which ignores
QFLUSH and START; a stopped one flushes, then starts. -/
def frtCtrlWrite (f v : Nat) (s : State) : State :=
  if s.flag FRT_STAT_RUN f then
    let s := if bitOf v 2 then wrIgn f s else s
    if bitOf v 1 then fretStop f 1 s else s
  else
    let s := if bitOf v 2 then emptyQueues f s else s
    if bitOf v 0 then fretStart f s else s

/-! ### The time compare (R232) -/

/-- The compare value, 1/256 ns. -/
def frtCompare (s : State) (f : Nat) : Nat := s.get FRT_TCMP_NS f * 256 + s.get FRT_TCMP_FRAC f

/-- The compare is armed with a value, and TM clears. -/
def frtArm (f c : Nat) (s : State) : State :=
  (((s.put FRT_TCMP_NS f (c % 2 ^ 40 / 256)).put FRT_TCMP_FRAC f (c % 256)).put FRT_TCMP_ARM f 1).put FRT_STAT_TM f 0

/-- A write of the upper half of `FRT_TCMP`, its lower half standing or written with it (R232). -/
def frtTcmpWrite (f v : Nat) (s : State) : State :=
  let s := s.setFlds f v [FRT_TCMP_NS, FRT_TCMP_FRAC, FRT_TCMP_DOM, FRT_TCMP_ARM]
  if bitOf v 44 then s.put FRT_STAT_TM f 0 else s

/-- An armed compare matches (R232). -/
def fretMatch (f : Nat) (s : State) : State :=
  if fretsOn s && s.flag FRT_TCMP_ARM f && s.reached (s.get FRT_TCMP_DOM f) (frtCompare s f) then
    frtEvent f 7 ((s.put FRT_TCMP_ARM f 0).put FRT_STAT_TM f 1)
  else s

/-! ### A cycle (R225 to R229) -/

/-- Input `code` of the present cycle (R225); `ins` holds the levels captured for the input slots. -/
def fretInput (s : State) (f ins code : Nat) : Bool :=
  match code with
  | 8 => txCount s f != 0
  | 9 => decide (rxCount s f < (frtSizes s f).2)
  | 10 => s.get FRT_DBG_CNT f == 0
  | 11 => s.get FRT_DBG_BITCNT f == 0
  | 12 => s.flag FRT_STAT_TM f
  | 13 => s.flag FRT_STAT_F0 f
  | 14 => s.flag FRT_STAT_F1 f
  | 15 => srb s f
  | k => slotIn s f k (bitOf ins k)

/-- The index into the 16 entries of the present state (R225). -/
def fretIndex (s : State) (f ins : Nat) : Nat :=
  let k := f * 64 + s.get FRT_STAT_STATE f
  let u := s.get FRT_SSEL_USE k
  let b (j : Nat) (F : Fld) : Nat := if bitOf u j && fretInput s f ins (s.get F k) then 2 ^ j else 0
  b 0 FRT_SSEL_SEL0 + b 1 FRT_SSEL_SEL1 + b 2 FRT_SSEL_SEL2 + b 3 FRT_SSEL_SEL3

/-- SR after SHOUT (R228). -/
def shiftOut (s : State) (f : Nat) : Nat :=
  let sr := s.get FRT_DBG_SR f
  let fill := s.get FRT_CFG_SFILL f
  if s.flag FRT_CFG_SHIFT_DIR f then (2 * sr + fill) % 2 ^ shiftLen s f else sr / 2 + fill * 2 ^ 31

/-- SR after SHIN of a sample (R228). -/
def shiftIn (s : State) (f : Nat) (x : Bool) : Nat :=
  let sr := s.get FRT_DBG_SR f
  let n := shiftLen s f
  let b := if x then 1 else 0
  if s.flag FRT_CFG_SHIFT_DIR f then (2 * sr + b) % 2 ^ n else sr / 2 % 2 ^ (n - 1) + b * 2 ^ (n - 1)

/-- SR after PULL of a word (R228). -/
def pullWord (s : State) (f w : Nat) : Nat :=
  let n := shiftLen s f
  if s.flag FRT_CFG_SHIFT_DIR f then w % 2 ^ n
  else w % 2 ^ n + (if s.flag FRT_CFG_SFILL f then 2 ^ 32 - 2 ^ n else 0)

/-- BITCNT falls by one unless it is 0. -/
def bitDown (f : Nat) (s : State) : State := s.put FRT_DBG_BITCNT f (s.get FRT_DBG_BITCNT f - 1)

/-- The line time in ns of edge k - 2, two edges of the Fret clock before the latest (R227). -/
def edgeTime (s : State) (f : Nat) : Nat := s.get TMB_EDGES (s.get FRT_TCMP_DOM f) / 2 ^ 144 / 2 ^ 40

/-- What an action did: it went through, stalled, or waits (R226). -/
inductive ActDone where
  | done | stall | wait
deriving DecidableEq, Repr

/-- Performs ACT of an entry (R227); `ins` holds the levels captured for the input slots. -/
def fretAct (f act ins : Nat) (s : State) : ActDone × State :=
  let empty := txCount s f == 0
  let full := decide ((frtSizes s f).2 ≤ rxCount s f)
  match act with
  | 1 => (.done, bitDown f (s.put FRT_DBG_SR f (shiftOut s f)))
  | 2 =>
    let k := s.get FRT_CFG_SIN_SLOT f
    (.done, bitDown f (s.put FRT_DBG_SR f (shiftIn s f (slotIn s f k (bitOf ins k)))))
  | 3 =>
    if empty then (.stall, s) else
    let (w, t) := txPop f s
    (.done, (t.put FRT_DBG_SR f (pullWord s f w)).put FRT_DBG_BITCNT f (shiftLen s f))
  | 4 =>
    if full then (.stall, s) else
    (.done, ((rxPush f (s.get FRT_DBG_SR f % 2 ^ shiftLen s f) s).put FRT_DBG_SR f 0).put FRT_DBG_BITCNT f (shiftLen s f))
  | 5 => (.done, s.put FRT_DBG_CNT f (s.get FRT_RELOAD_RELOAD0 f))
  | 6 => (.done, s.put FRT_DBG_CNT f (s.get FRT_RELOAD_RELOAD1 f))
  | 7 => if s.flag FRT_STAT_TM f then (.done, s.put FRT_STAT_TM f 0) else (.wait, s)
  | 8 => (.done, frtArm f (frtCompare s f + s.get FRT_TSTEP_STEP f) s)
  | 9 =>
    if empty then (.stall, s) else
    let (w, t) := txPop f s
    (.done, frtArm f (w * 256) t)
  | 10 => if full then (.stall, s) else (.done, rxPush f (edgeTime s f) s)
  | 11 => if full then (.stall, s) else (.done, rxPush f (s.get FRT_DBG_CNT f) s)
  | 12 => (.done, frtEvent f 3 s)
  | 13 => (.done, (s.put FRT_DBG_BITCNT f (shiftLen s f)).put FRT_DBG_SR f 0)
  | _ => (.done, s)

/-- A flag operation (R226). -/
def flagOp (F : Fld) (f op : Nat) (s : State) : State :=
  match op with
  | 1 => s.put F f 1
  | 2 => s.put F f 0
  | 3 => s.put F f (1 - s.get F f)
  | _ => s

/-- The counter decrements at the end of a cycle that did not load it (R229). -/
def fretCount (f act : Nat) (r : ActDone) (s : State) : State :=
  if r = .done ∧ (act = 5 ∨ act = 6) then s else s.put FRT_DBG_CNT f (s.get FRT_DBG_CNT f - 1)

/-- What the entry does after its action (R226). -/
def fretEntry (f e : Nat) (s : State) : State :=
  let s := if bitOf e 22 then s else s.put FRT_SLOTS f (bitsOf e 6 8)
  let s := flagOp FRT_STAT_F1 f (bitsOf e 20 2) (flagOp FRT_STAT_F0 f (bitsOf e 18 2) s)
  let s := (s.put FRT_STAT_STATE f (bitsOf e 0 6)).put FRT_STAT_STALLED f 0
  if bitsOf e 14 4 = 14 then fretStop f 2 s else s

/-- A stalled cycle (R231). -/
def fretStall (f i : Nat) (s : State) : State :=
  let s := s.sat FRT_CNT_STALL_CYC f
  if s.flag FRT_STAT_STALLED f then s
  else (s.count1 FRT_CNT_STALLS f (2176 + 8 * f)).put FRT_STAT_STALLED f 1 |>.put FRT_INDEX f i

/-- A cycle of a running Fret (R226); `outside` holds, for each input slot, the level that an undriven pin had two edges ago. -/
def fretCycle (f outside : Nat) (s : State) : State :=
  if !s.flag FRT_STAT_RUN f || !fretsOn s then s else
  let (ins, s) := slotSamples f outside (List.range 8) s
  let i := if s.flag FRT_STAT_STALLED f then s.get FRT_INDEX f else fretIndex s f ins
  let e := s.get FRT_TBL (f * 1024 + 16 * s.get FRT_STAT_STATE f + i)
  let act := bitsOf e 14 4
  let r := fretAct f act ins s
  let t := fretCount f act r.1 r.2
  match r.1 with
  | .done => fretEntry f e t
  | .stall => fretStall f i t
  | .wait => t

/-! ### The commands' meanings -/

/-- FRET_CYCLE (R225 to R232). -/
def execFretCycle (f : Fin 64) (ins : BitVec 8) (s : State) : Result := .next (fretCycle f ins.toNat s)

/-- FRT_START (R233). -/
def execFrtStart (q : Requester) (f : Fin 64) (s : State) : Result := .next (s.gate q (frtAddr 0 f) (fretStart f))

/-- FRT_STOP (R233). -/
def execFrtStop (q : Requester) (f : Fin 64) (s : State) : Result := .next (s.gate q (frtAddr 0 f) (fretStop f 1))

/-- FRT_QFLUSH (R230). -/
def execFrtQflush (q : Requester) (f : Fin 64) (s : State) : Result :=
  .next (s.gate q (frtAddr 0 f) (whenStopped f (emptyQueues f)))

/-- FRT_TXQ_WRITE (R230). -/
def execFrtTxqWrite (q : Requester) (f : Fin 64) (v : Word) (s : State) : Result :=
  .next (s.gate q (frtAddr 0x30 f) (txqWrite f v.toNat))

/-- FRT_RXQ_READ (R230). -/
def execFrtRxqRead (q : Requester) (f : Fin 64) (s : State) : Result :=
  let a := frtAddr 0x34 f
  .next (match s.permit q .registers a false with
    | .yes => (rxqRead f s).2.emit (.readData q a (rxqRead f s).1)
    | p => s.denied q a p)

/-- FRT_PROGRAM_WRITE (R224): `a` is the register's device address, `v` its full value. -/
def execFrtProgramWrite (q : Requester) (a : Word) (v : BitVec 64) (s : State) : Result :=
  .next (match (if blockOf a.toNat = 9 then frtProgram (blockOff a.toNat) v.toNat else none) with
    | some k => s.gate q a.toNat k
    | none => s)

/-- FRT_GSTART_ARM (R234). -/
def execFrtGstartArm (q : Requester) (at' : Word) (s : State) : Result :=
  .next (s.gate q 0x4090_0008 (fretGstartArm at'.toNat))

/-- FRT_TCMP_ARM (R232): the register written with ARM = 1. -/
def execFrtTcmpArm (q : Requester) (f : Fin 64) (ns : Word) (frac : Byte) (dom : Fin 16) (s : State) : Result :=
  .next (s.gate q (frtAddr 0x20 f) (frtTcmpWrite f (ns.toNat + frac.toNat * 2 ^ 32 + dom.val * 2 ^ 40 + 2 ^ 44)))

/-- FRET_TIME_MATCH (R232). -/
def execFretTimeMatch (f : Fin 64) (s : State) : Result := .next (fretMatch f s)

end Sys2Proof.Machine
end

