-- ==== Sys2Proof/Machine/Amb.lean ====
section
/-! DEFINITION. The arbitrated message bus channels (10): modes, fault confinement, transmit buffers, timed buffers,
receive queues and filters, sleep and wake, reference messages. -/

namespace Sys2Proof.Machine

/-! ### Internal cells, by channel c (0 to 15), buffers by 32 c + b -/

/-- What is in an attempt: 0 nothing, b + 1 buffer b, 33 the reference message (R249). -/
def AMB_CUR : Fld := ⟨1270, 0, 6, .int, 0, .reset, .none⟩
/-- A requested mode that is not reached: 0 none, else MODE + 1 (R242). -/
def AMB_WANT : Fld := ⟨1271, 0, 3, .int, 0, .reset, .none⟩
/-- The transmit error counter of ISO 11898-1, which passes 255 (R247), and whether a request for ACTIVE has started the recovery
sequence. -/
def AMB_TECX : Fld := ⟨1272, 0, 16, .int, 0, .reset, .none⟩
def AMB_RECOVERING : Fld := ⟨1273, 0, 1, .int, 0, .reset, .none⟩
/-- Failed attempts, starts of frame, and the start of the last attempt in 1/256 ns, of a buffer (R248, R250). -/
def AMB_FAILS : Fld := ⟨1274, 0, 8, .int, 0, .reset, .none⟩
def AMB_STARTS : Fld := ⟨1275, 0, 5, .int, 0, .reset, .none⟩
def AMB_SOF : Fld := ⟨1276, 0, 40, .int, 0, .reset, .none⟩
/-- Bit b = timed buffer b is eligible (R252). -/
def AMB_ELIG : Fld := ⟨1277, 0, 32, .int, 0, .reset, .none⟩
/-- Reference messages (R258, R259): the next instant in 1/256 ns and its cycle count; a message is due, its instant and
count; the instant and count of the one in an attempt; one was seen since the last instant; when the last one came, and
a slave's timeout was reported. -/
def REF_NEXT : Fld := ⟨1278, 0, 40, .int, 0, .reset, .none⟩
def REF_COUNT : Fld := ⟨1279, 0, 6, .int, 0, .reset, .none⟩
def REF_DUE : Fld := ⟨1280, 0, 1, .int, 0, .reset, .none⟩
def REF_AT : Fld := ⟨1281, 0, 40, .int, 0, .reset, .none⟩
def REF_CYC : Fld := ⟨1282, 0, 6, .int, 0, .reset, .none⟩
def REF_SENT_AT : Fld := ⟨1283, 0, 40, .int, 0, .reset, .none⟩
def REF_SENT_CYC : Fld := ⟨1284, 0, 6, .int, 0, .reset, .none⟩
def REF_SEEN : Fld := ⟨1285, 0, 1, .int, 0, .reset, .none⟩
def REF_LAST : Fld := ⟨1286, 0, 40, .int, 0, .reset, .none⟩
def REF_SAID : Fld := ⟨1287, 0, 1, .int, 0, .reset, .none⟩
/-- The attempt under way was cut off: the unit lost the claim (R245). -/
def AMB_CUT : Fld := ⟨1535, 0, 1, .int, 0, .reset, .none⟩

def ambAddr (off c : Nat) : Nat := 0x40A0_0000 + 0x1000 * c + off

/-- Event k of channel c (R260). -/
def ambEvent (c k : Nat) (s : State) : State := s.raise (2688 + 16 * c + k)

/-- The states of R242. -/
def ambOff : Nat := 0
def ambConfig : Nat := 1
def ambIntegrating : Nat := 2
def ambActive : Nat := 3
def ambListen : Nat := 4
def ambSleep : Nat := 5
def ambLoopback : Nat := 6

def ambState (s : State) (c : Nat) : Nat := s.get AMB_CH_STAT_STATE c
def busOff (s : State) (c : Nat) : Bool := s.get AMB_CH_STAT_FAULT c == 2
def ambDom (s : State) (c : Nat) : Nat := s.get AMB_CH_CFG_DOM c

/-- The level of ball STB_c (R238). -/
def ambStb (s : State) (c : Nat) : Bool := ambState s c == ambOff || ambState s c == ambSleep

/-- The channel behaves as in LISTEN: it is in LISTEN, or its unit lacks the claim (R244, R245). -/
def ambQuiet (s : State) (c : Nat) : Bool := ambState s c == ambListen || !owning s

/-! ### Bit timing (R240, R241) -/

/-- Peripheral clock periods of a quantum, and quanta of the first phase segment with the propagation segment (R240). -/
def nomQuantum (s : State) (c : Nat) : Nat := s.get AMB_NBT_NBRP_M1 c + 1
def nomSeg1 (s : State) (c : Nat) : Nat := s.get AMB_NBT_NTSEG1_M1 c + 1

/-- The quanta by which an edge from recessive to dominant within a bit resynchronises it (R241; ISO 11898-1): the edge's distance from
the synchronisation segment, at most NSJW. The edge is looked for in the single samples of the peripheral clock periods up to the
sample point. -/
def nomShift (s : State) (c w : Nat) : Nat :=
  let q := nomQuantum s c
  match (List.range ((1 + nomSeg1 s c) * q)).find? (fun j => bitOf w j && !bitOf w (j + 1)) with
  | some j => min (j / q) (s.get AMB_NBT_NSJW_M1 c + 1)
  | none => 0

/-- The level that a channel takes from a nominal bit lengthened by `shift` quanta: the sample at the end of quantum 1 + NTSEG1, or
with TRIPLE = 1 on channels 12 to 15 the majority of three (R241). -/
def nominalLevel (s : State) (c shift w : Nat) : Bool :=
  let at' (n : Nat) : Bool := bitOf w ((n + shift) * nomQuantum s c)
  let seg1 := nomSeg1 s c
  if s.flag AMB_CH_CFG_TRIPLE c && decide (12 ≤ c) then decide (2 ≤ ([seg1 - 1, seg1, seg1 + 1].filter at').length)
  else at' (1 + seg1)

/-- The level taken from a bit received, and from a bit that the channel sends: it is not resynchronised by its own dominant bit
(ISO 11898-1). -/
def nominalBit (s : State) (c w : Nat) : Bool := nominalLevel s c (nomShift s c w) w
def nominalSent (s : State) (c : Nat) (x : Nat × Bool) : Bool :=
  nominalLevel s c (if x.2 then nomShift s c x.1 else 0) x.1

/-- Where the bits of a data phase are checked, in peripheral clock periods after a bit's start: the secondary sample point, or with
TDC_EN = 0 the ordinary one (R240). -/
def dataCheck (s : State) (c : Nat) : Nat :=
  if s.flag AMB_CH_CFG_TDC_EN c then min 127 (s.get AMB_TDC_TDCV c + s.get AMB_TDC_TDCO c)
  else (s.get AMB_DBT_DBRP_M1 c + 1) * (2 + s.get AMB_DBT_DTSEG1_M1 c)

/-! ### Frames and buffers (R248, R254) -/

/-- Data bytes of a DLC (R248). -/
def dlcLen (fdf : Bool) (dlc : Nat) : Nat :=
  if dlc ≤ 8 then dlc else if !fdf then 8 else
  match dlc with
  | 9 => 12
  | 10 => 16
  | 11 => 20
  | 12 => 24
  | 13 => 32
  | 14 => 48
  | _ => 64

/-- The data bytes that a frame carries. -/
def ambLen (f : AmbFrame) : Nat := if f.rtr then 0 else dlcLen f.fdf f.dlc.toNat

/-- Soundboard offset of buffer b (R248). -/
def txBuf (s : State) (c b : Nat) : Nat := 64 * s.get AMB_TXB_CFG_BASE c + 96 * b

/-- Word w of buffer b. -/
def txBufWord (s : State) (c b w : Nat) : Nat := s.word (sbBase + txBuf s c b + 4 * w)

/-- The frame that buffer b holds; ESI follows the channel's state (R236). -/
def txFrame (s : State) (c b : Nat) : AmbFrame :=
  let w0 := txBufWord s c b 0
  let w1 := txBufWord s c b 1
  let dlc := w1 % 16
  let fdf := bitOf w1 4
  let f : AmbFrame := ⟨BitVec.ofNat 29 (if bitOf w0 29 then w0 else w0 % 2048), bitOf w0 29, bitOf w0 30, fdf, bitOf w1 5,
    fdf && s.get AMB_CH_STAT_FAULT c != 0, BitVec.ofNat 4 dlc, []⟩
  { f with data := s.bytes (sbBase + txBuf s c b + 32) (ambLen f) }

/-- The arbitration field as a number: the lower wins on the bus (R249, ISO 11898-1). -/
def arbField (f : AmbFrame) : Nat :=
  let r := if f.rtr && !f.fdf then 1 else 0
  if f.ide then f.id.toNat / 2 ^ 18 * 2 ^ 21 + 2 ^ 20 + 2 ^ 19 + f.id.toNat % 2 ^ 18 * 2 + r
  else f.id.toNat % 2048 * 2 ^ 21 + r * 2 ^ 20

/-- A buffer the channel cannot send (R249). -/
def badFormat (s : State) (c b : Nat) : Bool :=
  let f := txFrame s c b
  (f.fdf && !s.flag AMB_CH_CFG_FD_EN c) || (f.brs && (decide (12 ≤ c) || !f.fdf)) || (f.rtr && f.fdf)

/-- Timed buffer: its launch and its deadline in 1/256 ns (R252). -/
def timedBuf (s : State) (c b : Nat) : Bool := bitOf (txBufWord s c b 1) 13
def launchOf (s : State) (c b : Nat) : Nat := txBufWord s c b 2 * 256 + txBufWord s c b 3 % 256
def deadlineOf (s : State) (c b : Nat) : Nat := launchOf s c b + bitsOf (txBufWord s c b 3) 8 16 * 25600

/-- The entry that the channel reads of buffer b at a choice (R249). -/
def readEntry (s : State) (c b : Nat) : AmbTry :=
  ⟨c, bitsOf (txBufWord s c b 1) 7 5, bitOf (txBufWord s c b 1) 12, timedBuf s c b, deadlineOf s c b % 2 ^ 40, txFrame s c b⟩

/-- The entry in an attempt on channel c, which is buffer b. -/
def ambTry (s : State) (c b : Nat) : AmbTry := (s.ambTries.find? (fun e => e.chan = c)).getD (readEntry s c b)

/-- An instant in 1/256 ns lies after another. -/
def isAfter (x y : Nat) : Bool :=
  let d := (x + 2 ^ 40 - y % 2 ^ 40) % 2 ^ 40
  decide (0 < d) && decide (d < 2 ^ 39)

/-- The deadline of a timed buffer has passed (R252). -/
def pastDeadline (s : State) (c b : Nat) : Bool := s.reached (ambDom s c) ((deadlineOf s c b + 1) % 2 ^ 40)

/-- Buffer b completes with STATUS (R250): words 4 to 6, the PEND and DONE bits, the event, at OK with IRQ = 1 only. -/
def ambComplete (c b status : Nat) (irq : Bool) (s : State) : State :=
  let i := 32 * c + b
  let sof := s.get AMB_SOF i
  let s := soundboardWrite (txBuf s c b + 16)
    (toBytes 4 (status + s.get AMB_STARTS i * 256 + 2 ^ 31) ++ toBytes 4 (sof / 256) ++ toBytes 4 (sof % 256)) s
  let s := (s.putBit AMB_TX_PEND_PEND c b false).putBit AMB_TX_REQ_REQ c b false
  let s := (s.putBit AMB_TX_CANCEL_CANCEL c b false).putBit AMB_ELIG c b false
  let s := s.putBit AMB_TX_DONE_DONE c b true
  let s := if status = 6 then s.sat AMB_CNT1_TX_LATE_DROP c else s
  if status ≠ 0 then ambEvent c 1 s else if irq then ambEvent c 0 s else s

/-- Buffers a mask names that are pending. -/
def pendingOf (s : State) (c mask : Nat) : List Nat :=
  (List.range 32).filter (fun b => bitOf mask b && s.bit AMB_TX_PEND_PEND c b)

/-! ### Fault confinement (R247) -/

/-- In bus-off, with ABORT_BUSOFF = 1, every pending buffer completes with BUS_OFF (R247). -/
def busOffPending (c : Nat) (s : State) : State :=
  if busOff s c && s.flag AMB_CH_CFG_ABORT_BUSOFF c then
    overList (fun b t => ambComplete c b 4 false t) (pendingOf s c (2 ^ 32 - 1)) s
  else s

/-- Entry into bus-off (R247). -/
def enterBusOff (c : Nat) (s : State) : State :=
  let s := ambEvent c 8 (s.put AMB_CH_STAT_FAULT c 2)
  busOffPending c (s.put AMB_RECOVERING c 0)

/-- The fault-confinement state that the counters give (R247, ISO 11898-1). -/
def ambFault (c : Nat) (s : State) : State :=
  let tec := s.get AMB_TECX c
  let s := s.put AMB_ERRC_TEC c (min 255 tec)
  if busOff s c then s
  else if 256 ≤ tec then enterBusOff c s
  else
    let now := if 128 ≤ tec ∨ 128 ≤ s.get AMB_ERRC_REC c then 1 else 0
    let was := s.get AMB_CH_STAT_FAULT c
    let s := s.put AMB_CH_STAT_FAULT c now
    if now = 1 ∧ was = 0 then ambEvent c 7 s else s

/-- Counters after a frame sent, an error while sending, a frame received, an error while receiving (ISO 11898-1). -/
def tecDown (c : Nat) (s : State) : State := ambFault c (s.put AMB_TECX c (s.get AMB_TECX c - 1))
def tecUp (c : Nat) (s : State) : State := ambFault c (s.put AMB_TECX c (s.get AMB_TECX c + 8))
def recDown (c : Nat) (s : State) : State :=
  let r := s.get AMB_ERRC_REC c
  ambFault c (s.put AMB_ERRC_REC c (if 127 < r then 127 else r - 1))
def recUp (c n : Nat) (s : State) : State := ambFault c (s.put AMB_ERRC_REC c (min 255 (s.get AMB_ERRC_REC c + n)))

/-- The occurrences of 11 recessive bits in nominal bits, one after another. -/
def idleRuns (s : State) (c : Nat) (ws : List Nat) : Nat :=
  (ws.foldl (fun (x : Nat × Nat) w =>
    if nominalBit s c w = false then (0, x.2) else if x.1 = 10 then (0, x.2 + 1) else (x.1 + 1, x.2)) (0, 0)).2

/-- The recovery sequence runs in bus-off with AUTO_RECOVER = 1, or once ACTIVE was requested (R247). -/
def ambRecovering (s : State) (c : Nat) : Bool :=
  busOff s c && (s.flag AMB_CH_CFG_AUTO_RECOVER c || s.flag AMB_RECOVERING c)

/-- 128 occurrences of 11 recessive bits end the recovery sequence (R247). -/
def ambRecovered (c : Nat) (ws : List Nat) (s : State) : State :=
  if ambRecovering s c && decide (128 ≤ idleRuns s c ws) then
    ambEvent c 9 ((((s.put AMB_CH_STAT_FAULT c 0).put AMB_TECX c 0).put AMB_ERRC_TEC c 0).put AMB_ERRC_REC c 0
      |>.put AMB_RECOVERING c 0)
  else s

/-! ### Modes (R239, R242, R245) -/

/-- A mode change out of CONFIG is refused (R239). -/
def ambCfgBad (s : State) (c : Nat) : Bool :=
  let seg1 := s.get AMB_NBT_NTSEG1_M1 c + 1
  let seg2 := s.get AMB_NBT_NTSEG2_M1 c + 1
  let nq := 1 + seg1 + seg2
  let bit := nq * (s.get AMB_NBT_NBRP_M1 c + 1)
  let dseg2 := s.get AMB_DBT_DTSEG2_M1 c + 1
  let dq := 1 + (s.get AMB_DBT_DTSEG1_M1 c + 1) + dseg2
  let dbit := dq * (s.get AMB_DBT_DBRP_M1 c + 1)
  let k := s.get AMB_REF_CFG_CYC_MAX c + 1
  decide (bit < 80) || decide (nq < 8) || decide (seg2 < s.get AMB_NBT_NSJW_M1 c + 1) ||
    (s.flag AMB_CH_CFG_TRIPLE c && (decide (c < 12) || decide (bit < 640) || decide (seg1 < 3))) ||
    (s.flag AMB_CH_CFG_FD_EN c && decide (c < 12) && (decide (dbit < 10) || decide (dq < 5) || decide (bit < dbit) ||
      decide (dseg2 < s.get AMB_DBT_DSJW_M1 c + 1))) ||
    !s.areaReserved (txBuf s c 0) (32 * 96) ||
    (List.range 4).any (fun q => s.flag AMB_RXQ_CFG_EN (4 * c + q) &&
      !s.areaReserved (64 * s.get AMB_RXQ_CFG_BASE (4 * c + q)) (96 * 2 ^ min 10 (max 4 (s.get AMB_RXQ_CFG_LOG2 (4 * c + q))))) ||
    (s.get AMB_REF_CFG_ROLE c != 0 && (decide (s.get AMB_REF_PERIOD_PERIOD c < 800) || !([1, 2, 4, 8, 16, 32, 64].contains k)))

/-- The reference schedule is taken up: the next instant at or after now, counted from REF_BASE (R258, R259). -/
def refBegin (c : Nat) (s : State) : State :=
  let base := s.get AMB_REF_BASE_BASE c * 256
  let p := s.get AMB_REF_PERIOD_PERIOD c * 320
  let d := ambDom s c
  let gone := (s.now d + 2 ^ 40 - base) % 2 ^ 40
  let n := if s.reached d base ∧ 0 < p then (gone + p - 1) / p else 0
  let s := (s.put REF_NEXT c ((base + n * p) % 2 ^ 40)).put REF_COUNT c (n % (s.get AMB_REF_CFG_CYC_MAX c + 1))
  (((s.put REF_DUE c 0).put REF_SEEN c 0).put REF_LAST c (s.now d)).put REF_SAID c 0

/-- The requested mode is taken up; nothing is in an attempt (R242). -/
def ambEnter (c m : Nat) (s : State) : State :=
  let st := ambState s c
  let s := s.put AMB_WANT c 0
  if m = 0 then s.put AMB_CH_STAT_STATE c ambConfig
  else if st = ambConfig ∧ ambCfgBad s c = true then ambEvent c 15 (s.put AMB_CH_STAT_CFG_ERR c 1)
  else
    let s := if st = ambConfig then refBegin c s else s
    let s := if busOff s c ∧ m = 1 then s.put AMB_RECOVERING c 1 else s
    if m = 4 then s.put AMB_CH_STAT_STATE c ambLoopback
    else (s.put AMB_CH_STAT_STATE c ambIntegrating).put AMB_WANT c (m + 1)

/-- A request for a mode (R242): SLEEP waits for bus idle, any other for the end of an attempt. -/
def ambMode (c v : Nat) (s : State) : State :=
  let m := if 4 < v then 0 else v
  let s := s.put AMB_CH_CTRL_MODE c v
  if ambState s c = ambOff then s
  else if m = 3 ∨ s.get AMB_CUR c ≠ 0 then s.put AMB_WANT c (m + 1)
  else if m = 1 ∧ ambState s c = ambActive then
    (if busOff s c then s.put AMB_RECOVERING c 1 else s).put AMB_WANT c 0
  else ambEnter c m s

/-- The state that a requested mode reaches, by MODE + 1; with none requested ACTIVE (R242). -/
def modeState (w : Nat) : Nat :=
  match w with
  | 1 => ambConfig
  | 3 => ambListen
  | 4 => ambSleep
  | 5 => ambLoopback
  | _ => ambActive

/-- 11 nominal bits taken as recessive end integration, and the channel reaches its mode (R242). -/
def ambIntegrated (c : Nat) (ws : List Nat) (s : State) : State :=
  if ambState s c = ambIntegrating ∧ ws.length = 11 ∧ ws.all (nominalBit s c) = true then
    (s.put AMB_CH_STAT_STATE c (modeState (s.get AMB_WANT c))).put AMB_WANT c 0
  else s

/-- A SLEEP request takes effect at the next bus idle (R256). -/
def ambSleepEntry (c : Nat) (s : State) : State :=
  if s.get AMB_WANT c = 4 ∧ s.get AMB_CUR c = 0 ∧ ambState s c ≠ ambOff then
    let s := if ambState s c = ambConfig then refBegin c s else s
    (s.put AMB_CH_STAT_STATE c ambSleep).put AMB_WANT c 0
  else s

/-- After an attempt a waiting mode request other than SLEEP is taken up (R242); a channel that integrates only goes to CONFIG. -/
def ambAfter (c : Nat) (s : State) : State :=
  let w := s.get AMB_WANT c
  if w = 0 ∨ w = 4 ∨ (ambState s c = ambIntegrating ∧ w ≠ 1) then s else ambEnter c (w - 1) s

/-- The channel integrates again and then resumes its mode, or takes up the mode that waits (R245, R246). -/
def ambAgain (c : Nat) (s : State) : State :=
  let st := ambState s c
  let w := s.get AMB_WANT c
  (s.put AMB_CH_STAT_STATE c ambIntegrating).put AMB_WANT c
    (if w ≠ 0 then w else if st = ambListen then 3 else if st = ambSleep then 4 else if st = ambLoopback then 5 else 2)

/-- The domain of a channel turns on or off (R238, R257). -/
def ambPowerOn (c : Nat) (s : State) : State :=
  if s.flag AMB_ON c then s else (s.put AMB_ON c 1).put AMB_CH_STAT_STATE c ambConfig

def ambPowerOff (c : Nat) (s : State) : State :=
  let s := ((s.put AMB_ON c 0).put AMB_CH_STAT_STATE c ambOff).put AMB_CUR c 0
  let s := ((s.put AMB_TECX c 0).put AMB_ERRC_TEC c 0).put AMB_ERRC_REC c 0
  let s := (((s.put AMB_ERRC_LEC c 0).put AMB_CH_STAT_FAULT c 0).put AMB_WANT c 0).put AMB_CUT c 0
  { s with ambTries := s.ambTries.filter (fun e => e.chan ≠ c) }

/-- The claim is granted or lost (R245): CLAIMED shows it; a channel that gets it integrates again and resumes its mode; one that
loses it drives nothing further of an attempt under way. -/
def ambClaim (own : Bool) (s : State) : State :=
  overRange (fun c t =>
    let was := t.flag AMB_CH_STAT_CLAIMED c
    let t := t.putFlag AMB_CH_STAT_CLAIMED c own
    let t := if own || t.get AMB_CUR c = 0 then t else t.put AMB_CUT c 1
    if own && !was && decide (ambIntegrating < ambState t c) then ambAgain c t else t) 16 s

/-- A configuration register is written only in CONFIG and OFF; else WR_IGN sets (R243). -/
def ambConfigured (c : Nat) (k : State → State) (s : State) : State :=
  if ambState s c = ambConfig ∨ ambState s c = ambOff then k s else s.put AMB_CH_STAT_WR_IGN c 1

/-! ### Receive queues and filters (R253 to R255) -/

/-- The bytes of a queue entry (R254). -/
def rxEntry (f : AmbFrame) (filt sof : Nat) (ref wake self : Bool) : List Byte :=
  let b (x : Bool) (k : Nat) : Nat := if x then 2 ^ k else 0
  let w0 := f.id.toNat + b f.ide 29 + b f.rtr 30
  let w1 := f.dlc.toNat + b f.fdf 4 + b f.brs 5 + b f.esi 6 + filt % 64 * 128 + b ref 13 + b wake 14 + b self 15
  let data := f.data.take (ambLen f)
  toBytes 4 w0 ++ toBytes 4 w1 ++ toBytes 4 (sof / 256) ++ toBytes 4 (sof % 256) ++ List.replicate 16 0 ++
    data ++ List.replicate (64 - data.length) 0

/-- The entries of a queue. -/
def rxqSize (s : State) (i : Nat) : Nat := 2 ^ min 10 (max 4 (s.get AMB_RXQ_CFG_LOG2 i))

/-- A frame is delivered to queue k of a channel, or discarded (R255). -/
def ambDeliver (c k : Nat) (bs : List Byte) (s : State) : State :=
  let i := 4 * c + k
  let n := s.get AMB_RXQ_PTR_COUNT i
  if s.flag AMB_RXQ_CFG_EN i && decide (n < rxqSize s i) then
    let at' := (s.get AMB_RXQ_PTR_HEAD i + n) % rxqSize s i
    let s := soundboardWrite (64 * s.get AMB_RXQ_CFG_BASE i + 96 * at') bs s
    ambEvent c (2 + k) (s.put AMB_RXQ_PTR_COUNT i (n + 1))
  else
    let s := s.sat AMB_CNT1_RX_OVR c
    if s.flag AMB_RXQ_PTR_OVR i then s else ambEvent c 6 (s.put AMB_RXQ_PTR_OVR i 1)

/-- A frame is offered to the filters (R253). -/
def ambOffer (c : Nat) (f : AmbFrame) (sof : Nat) (ref wake self : Bool) (s : State) : State :=
  let hit := (List.range 32).find? (fun i =>
    let j := 32 * c + i
    s.flag AMB_FLT_VALID j && s.flag AMB_FLT_IDE j == f.ide &&
      (f.id.toNat &&& s.get AMB_FLT_MASK j) == (s.get AMB_FLT_ID j &&& s.get AMB_FLT_MASK j))
  match hit with
  | some i =>
    if s.flag AMB_FLT_REJECT (32 * c + i) then s
    else ambDeliver c (s.get AMB_FLT_QUEUE (32 * c + i)) (rxEntry f i sof ref wake self) s
  | none =>
    if s.flag AMB_CH_CFG_NOMATCH_EN c then
      ambDeliver c (s.get AMB_CH_CFG_NOMATCH_Q c) (rxEntry f 63 sof ref wake self) s
    else s

/-- Software acknowledges entries (R255). -/
def ambAck (c k n : Nat) (s : State) : State :=
  let i := 4 * c + k
  let count := s.get AMB_RXQ_PTR_COUNT i
  if n = 0 ∨ count < n then s.put AMB_RXQ_PTR_ACK_ERR i 1
  else (s.put AMB_RXQ_PTR_HEAD i ((s.get AMB_RXQ_PTR_HEAD i + n) % rxqSize s i)).put AMB_RXQ_PTR_COUNT i (count - n)

/-- A write to `AMB_RXQ_CFG`; EN = 1 empties the queue. -/
def ambRxqCfg (c k v : Nat) (s : State) : State :=
  let i := 4 * c + k
  let s := s.setFlds i v [AMB_RXQ_CFG_BASE, AMB_RXQ_CFG_LOG2, AMB_RXQ_CFG_EN]
  if bitOf v 24 then (s.put AMB_RXQ_PTR_HEAD i 0).put AMB_RXQ_PTR_COUNT i 0 else s

/-! ### Reference messages (R258, R259) -/

/-- A frame is a reference message for this channel (R259). -/
def isReference (s : State) (c : Nat) (f : AmbFrame) : Bool :=
  s.get AMB_REF_CFG_ROLE c != 0 && !f.ide && f.id.toNat / 8 == s.get AMB_REF_CFG_REF_ID c / 8

/-- The latest reference instant that has passed (R258). -/
def refLastInstant (s : State) (c : Nat) : Nat := (s.get REF_NEXT c + 2 ^ 40 - s.get AMB_REF_PERIOD_PERIOD c * 320 % 2 ^ 40) % 2 ^ 40

/-- A reference message that started since the last instant is noted for the next; one that started before it makes the
message that a backup made due at that instant no longer due (R259). -/
def refNote (c sof : Nat) (s : State) : State :=
  if (sof + 2 ^ 40 - refLastInstant s c) % 2 ^ 40 < 2 ^ 39 then s.put REF_SEEN c 1
  else if s.get AMB_REF_CFG_ROLE c = 2 ∧ s.get AMB_CUR c ≠ 33 ∧ s.get REF_AT c = refLastInstant s c then s.put REF_DUE c 0
  else s

/-- A reference message was received or sent (R259). -/
def refSeen (c : Nat) (f : AmbFrame) (sof : Nat) (s : State) : State :=
  let s := (s.put AMB_REF_TS_NS c (sof / 256)).put AMB_REF_TS_FRAC c (sof % 256)
  let s := s.put AMB_REF_STAT_CYCLE c (octet f.data 0 % 64)
  ambEvent c 13 (((refNote c sof s).put REF_LAST c sof).put REF_SAID c 0)

/-- The reference message with a cycle count, for an instant in ns (R258). -/
def refFrame (s : State) (c cyc ns : Nat) : AmbFrame :=
  let time := s.flag AMB_REF_CFG_REF_TIME c
  ⟨BitVec.ofNat 29 (s.get AMB_REF_CFG_REF_ID c), false, false, false, false, false, if time then 8 else 1,
    BitVec.ofNat 8 cyc :: (if time then [0, 0, 0] ++ toBytes 4 ns else [])⟩

/-- The due message is dropped (R258). -/
def refDrop (c : Nat) (s : State) : State := ambEvent c 14 ((s.put REF_DUE c 0).sat AMB_CNT1_TX_LATE_DROP c)

/-- The deadline of the due message has passed (R258). -/
def refPast (s : State) (c : Nat) : Bool :=
  s.reached (ambDom s c) ((s.get REF_AT c + s.get AMB_REF_CFG_LATE_MAX c * 256000 + 1) % 2 ^ 40)

/-- The message in an attempt is that of the due instant. -/
def refBeingSent (s : State) (c : Nat) : Bool := s.get AMB_CUR c == 33 && s.get REF_SENT_AT c == s.get REF_AT c

/-- A reference instant (R258, R259). A message still due from the last instant, and not being sent, is dropped. -/
def refInstant (c : Nat) (started : Bool) (s : State) : State :=
  let role := s.get AMB_REF_CFG_ROLE c
  let at' := s.get REF_NEXT c
  let st := ambState s c
  if (role = 1 ∨ role = 2) ∧ st ≠ ambOff ∧ st ≠ ambConfig ∧ s.reached (ambDom s c) at' = true then
    let n := s.get REF_COUNT c
    let due := role = 1 ∨ (s.get REF_SEEN c = 0 ∧ started = false)
    let s := if s.flag REF_DUE c && due && !refBeingSent s c then refDrop c s else s
    let s := if due then ((s.put REF_DUE c 1).put REF_AT c at').put REF_CYC c n else s
    let s := s.put REF_COUNT c ((n + 1) % (s.get AMB_REF_CFG_CYC_MAX c + 1))
    (s.put REF_NEXT c ((at' + s.get AMB_REF_PERIOD_PERIOD c * 320) % 2 ^ 40)).put REF_SEEN c 0
  else s

/-- The deadline of a due message passes without a start (R258). -/
def refDeadline (c : Nat) (s : State) : State :=
  if s.flag REF_DUE c && refPast s c && s.get AMB_CUR c != 33 then refDrop c s else s

/-- A slave sees no reference message for 2 periods (R259). -/
def refTimeout (c : Nat) (s : State) : State :=
  let st := ambState s c
  let limit := (s.get REF_LAST c + s.get AMB_REF_PERIOD_PERIOD c * 640) % 2 ^ 40
  if s.get AMB_REF_CFG_ROLE c = 3 ∧ st ≠ ambOff ∧ st ≠ ambConfig ∧ s.reached (ambDom s c) limit = true ∧
      s.get REF_SAID c = 0 then
    ambEvent c 14 (s.put REF_SAID c 1)
  else s

/-! ### Sending (R249 to R252) -/

/-- Writing REQ bits (R249, R252). -/
def ambRequest (c mask : Nat) (s : State) : State :=
  overRange (fun b t =>
    if bitOf mask b && !t.bit AMB_TX_PEND_PEND c b then
      let i := 32 * c + b
      let t := (t.putBit AMB_TX_PEND_PEND c b true).putBit AMB_TX_REQ_REQ c b true
      let t := (((t.put AMB_FAILS i 0).put AMB_STARTS i 0).put AMB_SOF i 0).putBit AMB_ELIG c b false
      if t.flag AMB_ON c && timedBuf t c b && pastDeadline t c b then ambComplete c b 6 false t else busOffPending c t
    else t) 32 s

/-- Writing CANCEL bits (R251). -/
def ambCancel (c mask : Nat) (s : State) : State :=
  overList (fun b t =>
    if t.get AMB_CUR c = b + 1 then t.putBit AMB_TX_CANCEL_CANCEL c b true else ambComplete c b 3 false t)
    (pendingOf s c mask) s

/-- A timed buffer becomes eligible (R252). -/
def timedEligible (c b : Nat) (s : State) : State :=
  if s.flag AMB_ON c && s.bit AMB_TX_PEND_PEND c b && timedBuf s c b && s.reached (ambDom s c) (launchOf s c b % 2 ^ 40) then
    s.putBit AMB_ELIG c b true
  else s

/-- The deadline of a pending timed buffer passes outside an attempt (R252). -/
def timedDeadline (c b : Nat) (s : State) : State :=
  if s.flag AMB_ON c && s.bit AMB_TX_PEND_PEND c b && timedBuf s c b && pastDeadline s c b && s.get AMB_CUR c != b + 1 then
    ambComplete c b 6 false s
  else s

/-- The buffer of a list that wins arbitration, the lowest index among equals (R249). -/
def arbWinner (s : State) (c : Nat) : List Nat → Option Nat
  | [] => none
  | b :: bs => match arbWinner s c bs with
    | none => some b
    | some d => some (if arbField (txFrame s c d) < arbField (txFrame s c b) then d else b)

/-- The channel may start frames (R242, R244, R245, R247). -/
def ambMayStart (s : State) (c : Nat) : Bool :=
  (ambState s c == ambActive || ambState s c == ambLoopback) && !busOff s c && owning s && s.get AMB_CUR c == 0 &&
    s.get AMB_WANT c == 0

/-- The channel chooses its next frame (R249). -/
def ambChoice (c : Nat) (s : State) : State :=
  if !ambMayStart s c then s
  else if s.flag REF_DUE c && !refPast s c then
    ((s.put AMB_CUR c 33).put REF_SENT_AT c (s.get REF_AT c)).put REF_SENT_CYC c (s.get REF_CYC c)
  else
    let pend := pendingOf s c (2 ^ 32 - 1)
    let timed := pend.filter (fun b => timedBuf s c b && s.bit AMB_ELIG c b && !pastDeadline s c b)
    let free := pend.filter (fun b => !timedBuf s c b)
    match arbWinner s c (if timed = [] then free else timed) with
    | none => s
    | some b => if badFormat s c b then ambComplete c b 5 false s
      else { s.put AMB_CUR c (b + 1) with ambTries := s.ambTries.filter (fun e => e.chan ≠ c) ++ [readEntry s c b] }

/-- What a sent frame leaves behind (R236, R250, R253, R259): a master stores its own reference message as a received one. -/
def ambSent (c : Nat) (f : AmbFrame) (sof : Nat) (s : State) : State :=
  let loop := ambState s c == ambLoopback
  let s := tecDown c (s.sat AMB_CNT0_TX_OK c)
  let s := if loop then s else s.emit (.amb c f)
  let ref := isReference s c f
  let s := if !ref then s else if s.get AMB_REF_CFG_ROLE c = 1 then refSeen c f sof s else refNote c sof s
  if loop || s.flag AMB_CH_CFG_SELF_RX c then ambOffer c f sof ref false true s else s

/-- An attempt of buffer b with entry `e` ended without success: it completes as cancelled, with `status` when one is given, as too
late, or stays pending (R251, R252). -/
def ambUnsent (c b : Nat) (e : AmbTry) (status : Option Nat) (s : State) : State :=
  if !s.bit AMB_TX_PEND_PEND c b then s
  else if s.bit AMB_TX_CANCEL_CANCEL c b then ambComplete c b 3 false s
  else match status with
    | some v => ambComplete c b v false s
    | none => if e.timed && s.reached (ambDom s c) ((e.deadline + 1) % 2 ^ 40) then ambComplete c b 6 false s else s

/-- The buffer of an attempt stays pending: CONFIG was requested during it (R242; DEDUCED, log entry 196). -/
def staysPending (s : State) (c : Nat) : Bool := s.get AMB_WANT c == 1

/-- A failed attempt of buffer b: it stays pending, or completes with `status` when its retries are used up (R250). -/
def ambFailed (c b status : Nat) (e : AmbTry) (s : State) : State :=
  let i := 32 * c + b
  let fails := s.get AMB_FAILS i
  ambUnsent c b e (if e.lim < 16 ∧ e.lim ≤ fails ∧ staysPending s c = false then some status else none) (s.put AMB_FAILS i (min 255 (fails + 1)))

/-- A failed attempt of the reference message: it retries until its deadline, or is dropped when a later instant has made its own
message due meanwhile (R258). -/
def refFailed (c : Nat) (s : State) : State :=
  if s.get REF_AT c = s.get REF_SENT_AT c then s else ambEvent c 14 (s.sat AMB_CNT1_TX_LATE_DROP c)

/-- The measured loop delay of a frame with a data phase (R240). -/
def ambDelay (c : Nat) (f : AmbFrame) (delay : Option Nat) (s : State) : State :=
  match delay with
  | some d =>
    if c < 12 ∧ s.flag AMB_CH_CFG_TDC_EN c = true ∧ f.fdf = true ∧ f.brs = true then
      let s := s.put AMB_TDC_TDCV c d
      if 127 < d + s.get AMB_TDC_TDCO c then s.put AMB_TDC_SAT c 1 else s
    else s
  | none => s

/-- An error flag leaves; in LOOPBACK TXD stays recessive (R242, R253). -/
def ambFlag (c : Nat) (s : State) : State :=
  let s := s.sat AMB_CNT0_ERR_FRAMES c
  if ambState s c = ambLoopback then s else s.emit (.ambFlag c (s.get AMB_CH_STAT_FAULT c != 0))

/-- How an attempt of a frame ended once its data phase and its nominal bits are judged (R240, R241). -/
def ambJudged (s : State) (c : Nat) (f : AmbFrame) (r : AmbEnd) : AmbEnd :=
  match r with
  | .data lo hi lec =>
    if f.fdf && f.brs && (decide (dataCheck s c < lo.toNat) || decide (hi.toNat < dataCheck s c)) then .error lec true else .ok
  | .nominal ws arb lec counted =>
    match (List.range ws.length).find? (fun i => nominalSent s c (ws.getD i (0, true)) != (ws.getD i (0, true)).2) with
    | none => .ok
    | some i => if i < arb ∧ (ws.getD i (0, true)).2 = true then .arb else .error lec counted
  | r => r

/-- An attempt of buffer b ends: sent, arbitration lost, or an error (R250). -/
def bufferEnd (c b : Nat) (e : AmbTry) (r : AmbEnd) (sof : Nat) (s : State) : State :=
  let i := 32 * c + b
  let s := (s.sat AMB_STARTS i).put AMB_SOF i sof
  match r with
  | .ok | .data _ _ _ | .nominal _ _ _ _ => ambSent c e.frame sof (if staysPending s c then s else ambComplete c b 0 e.irq s)
  | .arb => ambFailed c b 1 e (s.sat AMB_CNT0_ARB_LOST c)
  | .error lec counted =>
    let s := (ambFlag c s).put AMB_ERRC_LEC c lec
    ambFailed c b 2 e (if counted then tecUp c s else s)

/-- An attempt of the reference message `f` ends (R258). -/
def refEnd (c : Nat) (f : AmbFrame) (r : AmbEnd) (sof : Nat) (s : State) : State :=
  match r with
  | .ok | .data _ _ _ | .nominal _ _ _ _ =>
    let late := (sof + 2 ^ 40 - s.get REF_SENT_AT c) % 2 ^ 40 / 25600
    ambSent c f sof ((s.put AMB_REF_STAT_LAST_LATE c (min 65535 late)).put REF_DUE c
      (if s.get REF_AT c = s.get REF_SENT_AT c then 0 else s.get REF_DUE c))
  | .arb => refFailed c (s.sat AMB_CNT0_ARB_LOST c)
  | .error lec counted =>
    let s := (ambFlag c s).put AMB_ERRC_LEC c lec
    refFailed c (if counted then tecUp c s else s)

/-- The message for the instant in an attempt is dropped: no start was made by its deadline (R258). -/
def refLate (c : Nat) (s : State) : State :=
  if s.get REF_AT c = s.get REF_SENT_AT c then refDrop c s else refFailed c s

/-- An attempt ends (R240, R245, R247, R250, R251, R252, R258). `sof` is the line time of its start of frame in 1/256 ns, in the
channel's domain; `delay` the loop delay measured. A start that could only come after the deadline was not made. An attempt that
the loss of the claim cut off was no success and no failure of R250. -/
def ambAttemptEnd (c : Nat) (r : AmbEnd) (sof : Nat) (delay : Option Nat) (s : State) : State :=
  let cur := s.get AMB_CUR c
  if cur = 0 ∨ 33 < cur then s else
  let b := cur - 1
  let e := ambTry s c b
  let cut := s.flag AMB_CUT c
  let s := { (s.put AMB_CUR c 0).put AMB_CUT c 0 with ambTries := s.ambTries.filter (fun e => e.chan ≠ c) }
  if cur = 33 then
    if isAfter sof (s.get REF_SENT_AT c + s.get AMB_REF_CFG_LATE_MAX c * 256000) then ambAfter c (refLate c s)
    else if cut then ambAfter c (refFailed c s)
    else
      let f := refFrame s c (s.get REF_SENT_CYC c) (s.get REF_SENT_AT c / 256)
      ambAfter c (refEnd c f (ambJudged s c f r) sof s)
  else if e.timed && isAfter sof e.deadline then ambAfter c (ambUnsent c b e (some 6) s)
  else if cut then
    ambAfter c (ambUnsent c b e none ((s.sat AMB_STARTS (32 * c + b)).put AMB_SOF (32 * c + b) sof))
  else
    let s := ambDelay c e.frame delay s
    ambAfter c (bufferEnd c b e (ambJudged s c e.frame r) sof s)

/-! ### Receiving (R244, R246, R253, R256) -/

/-- A wake frame (R256). -/
def isWake (s : State) (c : Nat) (f : AmbFrame) : Bool :=
  let m := s.get AMB_WAKE_ID_MASK c
  let dm := s.get AMB_WAKE_DMASK_DATA c
  let d := ofBytes ((f.data.take (ambLen f)).take 8)
  s.flag AMB_WAKE_ID_IDE c == f.ide && (f.id.toNat &&& m) == (s.get AMB_WAKE_ID_ID c &&& m) &&
    (d &&& dm) == (s.get AMB_WAKE_DATA_DATA c &&& dm)

/-- An error seen while receiving; in LISTEN the counters stand and no flag is sent (R244, R247). -/
def ambRxError (c lec n : Nat) (s : State) : State :=
  let s := s.put AMB_ERRC_LEC c lec
  if ambQuiet s c then s else recUp c n (ambFlag c s)

/-- A valid frame received, whose start of frame was sampled at line time `sof` (R244, R246, R253, R256, R259). -/
def ambValid (c : Nat) (f : AmbFrame) (sof : Nat) (s : State) : State :=
  if (f.fdf && !s.flag AMB_CH_CFG_FD_EN c) || (f.brs && decide (12 ≤ c)) then
    if s.flag AMB_CH_CFG_PXHD c then ambRxError c 2 1 s
    else ambEvent c 10 (ambAgain c (s.sat AMB_CNT1_PROTO_EXC c))
  else
    let s := s.sat AMB_CNT1_RX_OK c
    let s := if ambQuiet s c then s else recDown c (s.emit (.ambAck c))
    let ref := isReference s c f
    let s := if ref then refSeen c f sof s else s
    if ambState s c = ambSleep && !ambQuiet s c then
      if isWake s c f then
        ambOffer c f sof ref true false
          (ambEvent c 11 ((s.put AMB_CH_STAT_STATE c ambActive).put AMB_CH_STAT_WOKE c 1))
      else s
    else ambOffer c f sof ref false false s

/-- A channel receives (R241, R242, R244, R245, R247); in LOOPBACK only one that behaves as in LISTEN. -/
def ambReceive (c : Nat) (r : AmbRx) (sof : Nat) (s : State) : State :=
  let st := ambState s c
  if busOff s c || !(st == ambActive || st == ambListen || st == ambSleep || (st == ambLoopback && ambQuiet s c)) then s else
  match r with
  | .frame f => ambValid c f sof s
  | .error lec big => ambRxError c lec (if big then 8 else 1) s
  | .bits ws f lec big =>
    if ws.all (fun w => nominalBit s c w.1 == w.2) then ambValid c f sof s else ambRxError c lec (if big then 8 else 1) s

/-- A dominant level on RXD held for `n` × 10 ns: a wake edge when that is WUP_MIN × 0.1 µs (R257). -/
def ambWakeEdge (c n : Nat) (s : State) : State :=
  if !s.bit AMB_AO_CFG_EDGE_EN 0 c || decide (n < 10 * max 1 (s.get AMB_AO_CFG_WUP_MIN 0)) then s else
  let s := if s.bit AMB_AO_STAT_WOKE 0 c then s else ambEvent c 12 (s.putBit AMB_AO_STAT_WOKE 0 c true)
  if s.flag AMB_AO_CFG_AUTO_ON 0 && !s.flag AMB_ON c then ambMode c 1 (ambPowerOn c s) else s

/-! ### The commands' meanings -/

/-- AMB_MODE_REQUEST (R237, R242). -/
def execAmbModeRequest (q : Requester) (c : Fin 16) (m : Fin 8) (s : State) : Result :=
  .next (s.gate q (ambAddr 0 c) (ambMode c m))

/-- AMB_INTEGRATION_DONE (R242). -/
def execAmbIntegrationDone (c : NominalBits) (s : State) : Result := .next (ambIntegrated c.chan c.levels s)

/-- AMB_SLEEP_ENTRY (R256). -/
def execAmbSleepEntry (c : Fin 16) (s : State) : Result := .next (ambSleepEntry c s)

/-- AMB_TX_REQ (R249). -/
def execAmbTxReq (q : Requester) (c : Fin 16) (mask : Word) (s : State) : Result :=
  .next (s.gate q (ambAddr 0x24 c) (ambRequest c mask.toNat))

/-- AMB_TX_CANCEL (R251). -/
def execAmbTxCancel (q : Requester) (c : Fin 16) (mask : Word) (s : State) : Result :=
  .next (s.gate q (ambAddr 0x28 c) (ambCancel c mask.toNat))

/-- AMB_FRAME_CHOICE (R249). -/
def execAmbFrameChoice (c : Fin 16) (s : State) : Result := .next (ambChoice c s)

/-- AMB_ATTEMPT_END (R250). -/
def execAmbAttemptEnd (c : Fin 16) (r : AmbEnd) (sof : BitVec 40) (delay : Option (BitVec 7)) (s : State) :
    Result :=
  .next (ambAttemptEnd c r sof.toNat (delay.map (fun d => d.toNat)) s)

/-- AMB_RECOVERY_DONE (R247). -/
def execAmbRecoveryDone (c : NominalBits) (s : State) : Result := .next (ambRecovered c.chan c.levels s)

/-- AMB_FRAME_RECEIVE (R253). -/
def execAmbFrameReceive (c : Fin 16) (r : AmbRx) (sof : BitVec 40) (s : State) : Result :=
  .next (ambReceive c r sof.toNat s)

/-- AMB_RXQ_ACK (R255). -/
def execAmbRxqAck (q : Requester) (c : Fin 16) (k : Fin 4) (n : BitVec 11) (s : State) : Result :=
  .next (s.gate q (ambAddr (0x64 + 8 * k) c) (ambAck c k n.toNat))

/-- AMB_RXQ_ENABLE (R255): the register written with EN = 1. -/
def execAmbRxqEnable (q : Requester) (c : Fin 16) (k : Fin 4) (v : BitVec 24) (s : State) : Result :=
  .next (s.gate q (ambAddr (0x40 + 8 * k) c) (ambConfigured c (ambRxqCfg c k (v.toNat + 2 ^ 24))))

/-- AMB_TIMED_ELIGIBLE (R252). -/
def execAmbTimedEligible (c : Fin 16) (b : Fin 32) (s : State) : Result := .next (timedEligible c b s)

/-- AMB_TIMED_DEADLINE (R252). -/
def execAmbTimedDeadline (c : Fin 16) (b : Fin 32) (s : State) : Result := .next (timedDeadline c b s)

/-- AMB_WAKE_EDGE (R257). -/
def execAmbWakeEdge (c : AmbWake) (s : State) : Result := .next (ambWakeEdge c.chan c.held.toNat s)

/-- REFERENCE_INSTANT (R258). -/
def execReferenceInstant (c : RefInstant) (s : State) : Result := .next (refInstant c.chan c.started s)

/-- REFERENCE_DEADLINE (R258). -/
def execReferenceDeadline (c : Fin 16) (s : State) : Result := .next (refDeadline c s)

/-- REF_SLAVE_TIMEOUT (R259). -/
def execRefSlaveTimeout (c : Fin 16) (s : State) : Result := .next (refTimeout c s)

end Sys2Proof.Machine
end

