-- ==== Sys2Proof/Machine/Ttb.lean ====
section
/-! DEFINITION. The time-triggered bus clusters (11): protocol operation control, alignment with line time, clock
correction, schedule memory and modes, sending and receiving under the schedule, mode changes. -/

namespace Sys2Proof.Machine

/-! ### Internal cells, by cluster k (0 to 3) -/

/-- Schedule words: word w of entry e of mode m of cluster k at 2048 k + 256 m + 2 e + w (R270). -/
def TTB_SCH : Fld := ⟨1290, 0, 32, .int, 0, .keep, .none⟩
/-- ALLOW_COLDSTART was given; single-slot mode; HALT was asked for (R264, R265). -/
def TTB_COLD : Fld := ⟨1291, 0, 1, .int, 0, .reset, .none⟩
def TTB_SINGLE : Fld := ⟨1292, 0, 1, .int, 0, .reset, .none⟩
def TTB_HALT : Fld := ⟨1293, 0, 1, .int, 0, .reset, .none⟩
/-- 1 = TXEN may go low: it is released at a cycle start (R276). -/
def TTB_TXEN : Fld := ⟨1294, 0, 1, .int, 1, .reset, .none⟩
/-- Alignment (R269): running, the next expected start in 1/256 ns, the d of the last odd cycle and whether there is one,
the limit was reported. -/
def TTB_AL_ON : Fld := ⟨1295, 0, 1, .int, 0, .reset, .none⟩
def TTB_AL_E : Fld := ⟨1296, 0, 40, .int, 0, .reset, .none⟩
def TTB_AL_ODD : Fld := ⟨1297, 0, 32, .int, 0, .reset, .none⟩
def TTB_AL_HAVE : Fld := ⟨1298, 0, 1, .int, 0, .reset, .none⟩
def TTB_AL_SAID : Fld := ⟨1299, 0, 1, .int, 0, .reset, .none⟩
/-- Cycle pairs since the last valid correction (R268). -/
def TTB_NOCORR : Fld := ⟨1300, 0, 4, .int, 0, .reset, .none⟩
/-- Mode change (R278): a request is held and its mode; this cluster is the requester; the request is agreed; the cycle in
which every node sends REQ = 0 and no held request starts, plus one (0 none). -/
def TTB_HELD : Fld := ⟨1301, 0, 1, .int, 0, .reset, .none⟩
def TTB_HELD_MODE : Fld := ⟨1302, 0, 3, .int, 0, .reset, .none⟩
def TTB_OWN : Fld := ⟨1303, 0, 1, .int, 0, .reset, .none⟩
def TTB_AGREED : Fld := ⟨1304, 0, 1, .int, 0, .reset, .none⟩
def TTB_LAPSE : Fld := ⟨1305, 0, 7, .int, 0, .reset, .none⟩
/-- The held request was written while another was in progress; the mode that the key-slot frame of this cycle requests, plus one. -/
def TTB_HELD_WAIT : Fld := ⟨1536, 0, 1, .int, 0, .reset, .none⟩
def TTB_ASK : Fld := ⟨1537, 0, 4, .int, 0, .reset, .none⟩
/-- Startup (R265): the core clock count at which the node began to listen, the coldstart attempts left, 0 it listens, 1 it leads a
coldstart, 2 it integrates on the startup frames of others, and the cycles since it does. -/
def TTB_LISTEN : Fld := ⟨1538, 0, 64, .int, 0, .reset, .none⟩
def TTB_ATT : Fld := ⟨1539, 0, 5, .int, 0, .reset, .none⟩
def TTB_LEAD : Fld := ⟨1540, 0, 2, .int, 0, .reset, .none⟩
def TTB_SINCE : Fld := ⟨1541, 0, 3, .int, 0, .reset, .none⟩
/-- The dynamic transmit entry e of cluster k at 128 k + e, in this cycle: bit 0 sent on A, bit 1 sent on B, bit 2 counted as missed
(R274). -/
def TTB_DYN : Fld := ⟨1542, 0, 3, .int, 0, .reset, .none⟩
/-- The rate correction in force, in microticks, without the external one (R268). -/
def TTB_RATE : Fld := ⟨1551, 0, 16, .int, 0, .reset, .none⟩
/-- A mode mismatch was reported; one was seen in this cycle (R279). -/
def TTB_MM_SAID : Fld := ⟨1306, 0, 1, .int, 0, .reset, .none⟩
def TTB_MM_NOW : Fld := ⟨1307, 0, 1, .int, 0, .reset, .none⟩

def ttbAddr (off k : Nat) : Nat := 0x40B0_0000 + 0x4000 * k + off

/-- Event e of cluster k (R280). -/
def ttbEvent (k e : Nat) (s : State) : State := s.raise (2944 + 32 * k + e)

/-- The states of `TTB_POC_STAT`. -/
def pocDefault : Nat := 0
def pocConfig : Nat := 1
def pocReady : Nat := 2
def pocWakeup : Nat := 3
def pocStartup : Nat := 4
def pocActive : Nat := 5
def pocPassive : Nat := 6
def pocHalt : Nat := 7

def poc (s : State) (k : Nat) : Nat := s.get TTB_POC_STAT_STATE k

/-- The cluster takes part in the schedule. -/
def pocNormal (s : State) (k : Nat) : Bool := poc s k == pocActive || poc s k == pocPassive

/-- STATE changes (R264). -/
def setPoc (k st : Nat) (s : State) : State :=
  if poc s k = st then s else
  let s := ttbEvent k 4 (s.put TTB_POC_STAT_STATE k st)
  if st = pocPassive then ttbEvent k 5 s else if st = pocHalt then ttbEvent k 6 s else s

/-- What the cluster has read or received is forgotten. -/
def ttbForget (k : Nat) (s : State) : State :=
  { s with
    ttbReads := s.ttbReads.filter (fun x => x.cluster ≠ k)
    ttbRx := s.ttbRx.filter (fun x => x.cluster ≠ k)
    ttbSync := s.ttbSync.filter (fun x => x.cluster ≠ k) }

/-- No mode request is in progress. -/
def ttbNoRequest (k : Nat) (s : State) : State :=
  ((s.put TTB_MODE_STAT_PEND k 0).put TTB_OWN k 0).put TTB_AGREED k 0

/-! ### The schedule (R270, R271) -/

/-- A schedule entry (R270). -/
structure SchEntry where
  num : Nat
  id : Nat
  tx : Bool
  ch : Nat
  base : Nat
  rep : Nat
  event : Bool
  irq : Bool
  buf : Nat
  plen : Nat
  ppi : Bool
deriving DecidableEq, Repr

def schEntry (s : State) (k m e : Nat) : SchEntry :=
  let w0 := s.get TTB_SCH (2048 * k + 256 * m + 2 * e)
  let w1 := s.get TTB_SCH (2048 * k + 256 * m + 2 * e + 1)
  ⟨e, bitsOf w0 0 11, bitOf w0 11, bitsOf w0 12 2, bitsOf w0 14 6, min 6 (bitsOf w0 20 3), bitOf w0 23, bitOf w0 24,
    bitsOf w1 0 7, bitsOf w1 8 7, bitOf w1 15⟩

/-- The used entries of a mode. -/
def schUsed (s : State) (k m : Nat) : List SchEntry :=
  ((List.range 128).map (schEntry s k m)).filter (fun e => e.id != 0 && e.ch != 0)

/-- The entry applies in cycle c (R270). -/
def SchEntry.applies (e : SchEntry) (c : Nat) : Bool := c % 2 ^ e.rep == e.base % 2 ^ e.rep

/-- The channels of the node, which are those of the key slot: 0 acts as both (R261, R270). -/
def keyCh (s : State) (k : Nat) : Nat := if s.get TTB_KEY_CH k = 0 then 3 else s.get TTB_KEY_CH k

/-- The entries of the mode in force that apply now for a frame ID, each on its channels that the node has (R261, R270). -/
def schNow (s : State) (k id : Nat) (tx : Bool) : List SchEntry :=
  ((schUsed s k (s.get TTB_MODE_STAT_ACTIVE k)).filter (fun e =>
    e.id == id && e.tx == tx && e.applies (s.get TTB_POC_STAT_CYCLE k) && (e.ch &&& keyCh s k) != 0)).map
      (fun e => { e with ch := e.ch &&& keyCh s k })

/-- The transmit entry that is sent in a static slot: the lowest that applies, for no two different frames leave in a slot (R261). -/
def schSend (s : State) (k id : Nat) : List SchEntry := (schNow s k id true).take 1

/-- Two transmit entries share a frame ID, a channel and a cycle (R271). -/
def schClash (a b : SchEntry) : Bool :=
  a.tx && b.tx && a.id == b.id && (a.ch &&& b.ch) != 0 && a.base % 2 ^ min a.rep b.rep == b.base % 2 ^ min a.rep b.rep

/-- No two entries of a list clash. -/
def schApart : List SchEntry → Bool
  | [] => true
  | e :: es => es.all (fun x => !schClash e x) && schApart es

/-- Every used entry of mode m passes the checks (R271). -/
def modeValid (s : State) (k m : Nat) : Bool :=
  let es := schUsed s k m
  es.all (fun e => decide (e.id ≤ s.get TTB_CL_T1_STATIC_SLOTS k + s.get TTB_CL_T2_MINISLOTS k) &&
    !(e.tx && e.id == s.get TTB_KEY_KEY_ID k)) && schApart es

/-- The mode is in force, or the target of a request in progress (R271). -/
def modeLocked (s : State) (k m : Nat) : Bool :=
  (pocNormal s k && s.get TTB_MODE_STAT_ACTIVE k == m) || (s.flag TTB_MODE_STAT_PEND k && s.get TTB_MODE_STAT_TARGET k == m)

def ttbWrIgn (k : Nat) (s : State) : State := s.sat TTB_CNT1_WR_IGN k

/-- A write to `TTB_MODE_VALID` (R271). -/
def modeValidWrite (k v : Nat) (s : State) : State :=
  let s := s.put TTB_MODE_VALID_FAIL k (s.get TTB_MODE_VALID_FAIL k &&& (255 - bitsOf v 8 8))
  overRange (fun m t =>
    if bitOf v m then
      if modeValid t k m then t.putBit TTB_MODE_VALID_VALID k m true
      else (t.putBit TTB_MODE_VALID_VALID k m false).putBit TTB_MODE_VALID_FAIL k m true
    else if modeLocked t k m then ttbWrIgn k t else t.putBit TTB_MODE_VALID_VALID k m false) 8 s

/-- A write to a schedule word (R270, R271). -/
def schWrite (k i v : Nat) (s : State) : State :=
  if modeLocked s k (i / 256) then ttbWrIgn k s
  else s.put TTB_SCH (2048 * k + i) (if i % 2 = 0 then v % 2 ^ 25 else v % 2 ^ 16 - v / 128 % 2 * 128)

/-- A write that is taken only in DEFAULT_CONFIG and CONFIG (R263). -/
def ttbConfigured (k : Nat) (f : State → State) (s : State) : State :=
  if poc s k = pocDefault ∨ poc s k = pocConfig then f s else ttbWrIgn k s

/-! ### Protocol operation control (R263 to R267) -/

/-- READY from CONFIG is refused (R263). -/
def ttbCfgBad (s : State) (k : Nat) : Bool :=
  let mpc := s.get TTB_CL_T0_MPC k
  let slots := s.get TTB_CL_T1_STATIC_SLOTS k
  let minis := s.get TTB_CL_T2_MINISLOTS k
  let nit := s.get TTB_CL_T3_NIT_MT k
  let key := s.get TTB_KEY_KEY_ID k
  let sync := s.flag TTB_KEY_SYNC k
  let startup := s.flag TTB_KEY_STARTUP k
  let ocs := s.get TTB_CL_T3_OFFCORR_START k
  slots * s.get TTB_CL_T1_SLOT_MT k + minis * s.get TTB_CL_T2_MINISLOT_MT k + s.get TTB_CL_T3_SYMWIN_MT k + nit != mpc ||
    decide (s.get TTB_CL_T0_MT_UT k < 40) || decide (480 < s.get TTB_CL_T0_MT_UT k) || decide (mpc < 10) ||
    decide (16000 < mpc) || decide (slots < 2) ||
    ((sync || startup) && (key == 0 || decide (slots < key))) || (startup && !sync) ||
    decide (minis < s.get TTB_CL_T4_LATEST_TX k) || decide (ocs + nit < mpc) || decide (mpc ≤ ocs) ||
    (s.flag TTB_MODE_CTRL_AGREE_EN k &&
      (decide (2 * s.get TTB_CL_T1_STATIC_PLEN k < s.get TTB_MODE_CTRL_MODE_OFF k + 1) || !sync)) ||
    !s.areaReserved (64 * s.get TTB_BUF_CFG_BASE k) (128 * 320) ||
    !s.bit TTB_MODE_VALID_VALID k (s.get TTB_MODE_CTRL_START_MODE k)

/-- A command that is not valid now (R264). -/
def pocIgnore (k : Nat) (s : State) : State := s.put TTB_POC_STAT_CMD_IGN k 1

/-- A command given in one of its states, with the domain on (R262, R264). -/
def pocWhen (k : Nat) (sts : List Nat) (f : State → State) (s : State) : State :=
  if s.domOn (domTtb k) && sts.contains (poc s k) then f s else pocIgnore k s

def pocConfigCmd (k : Nat) : State → State := pocWhen k [pocDefault, pocReady, pocHalt] (setPoc k pocConfig)

def pocReadyCmd (k : Nat) : State → State :=
  pocWhen k [pocConfig, pocWakeup, pocStartup] (fun s =>
    if poc s k = pocConfig ∧ ttbCfgBad s k = true then ttbEvent k 19 (s.put TTB_POC_STAT_CFG_ERR k 1)
    else
      let s := if poc s k = pocWakeup then s.put TTB_POC_STAT_WU_RESULT k 7 else s
      setPoc k pocReady (s.put TTB_COLD k 0))

def pocWakeupCmd (k : Nat) : State → State := pocWhen k [pocReady] (setPoc k pocWakeup)

def pocRunCmd (k : Nat) : State → State :=
  pocWhen k [pocReady] (fun s =>
    let s := ((s.put TTB_LISTEN k (s.get CORE_COUNT 0)).put TTB_ATT k (s.get TTB_CL_T4_COLD_ATT k)).put TTB_LEAD k 0
    setPoc k pocStartup (s.put TTB_SINGLE k (s.get TTB_KEY_SINGLE_SLOT k)))

/-- ALLOW_COLDSTART: a node in STARTUP begins to listen with it (R264, R265). -/
def pocAllowCmd (k : Nat) : State → State :=
  pocWhen k [pocReady, pocStartup, pocActive, pocPassive] (fun s =>
    let s := if s.flag TTB_COLD k then s else s.put TTB_LISTEN k (s.get CORE_COUNT 0)
    s.put TTB_COLD k 1)

def pocAllSlotsCmd (k : Nat) : State → State := pocWhen k [pocActive, pocPassive] (fun s => s.put TTB_SINGLE k 0)

def pocHaltCmd (k : Nat) : State → State := pocWhen k [pocActive, pocPassive] (fun s => s.put TTB_HALT k 1)

/-- The cluster halts: what it had read is not sent (R264). -/
def ttbToHalt (k : Nat) (s : State) : State :=
  let s := if poc s k = pocWakeup then s.put TTB_POC_STAT_WU_RESULT k 7 else s
  setPoc k pocHalt (ttbNoRequest k (ttbForget k (s.put TTB_HALT k 0)))

def pocFreezeCmd (k : Nat) : State → State :=
  pocWhen k [pocConfig, pocReady, pocWakeup, pocStartup, pocActive, pocPassive, pocHalt] (ttbToHalt k)

/-- A write to `TTB_POC_CMD` (R264). -/
def pocCmdWrite (k v : Nat) (s : State) : State :=
  match v % 16 with
  | 1 => pocConfigCmd k s
  | 2 => pocReadyCmd k s
  | 3 => pocWakeupCmd k s
  | 4 => pocRunCmd k s
  | 5 => pocAllowCmd k s
  | 6 => pocAllSlotsCmd k s
  | 7 => pocHaltCmd k s
  | 8 => pocFreezeCmd k s
  | _ => pocIgnore k s

/-- Startup completes in cycle `c` (R265). -/
def ttbStarted (k c : Nat) (s : State) : State :=
  if poc s k = pocStartup then
    let s := ((s.put TTB_MODE_STAT_ACTIVE k (s.get TTB_MODE_CTRL_START_MODE k)).put TTB_POC_STAT_CYCLE k c).put TTB_NOCORR k 0
    let s := s.put TTB_RATE k 0
    setPoc k pocActive (ttbNoRequest k (s.putFlag TTB_TXEN k (owning s)))
  else s

/-- The node may lead or join a coldstart: it is a coldstart node in STARTUP with ALLOW_COLDSTART given (R265). -/
def mayCold (s : State) (k : Nat) : Bool :=
  poc s k == pocStartup && s.flag TTB_KEY_STARTUP k && s.flag TTB_COLD k

/-- A coldstart attempt begins: the collision avoidance symbol leaves, and the next cycle start is that of cycle 0 (R265). -/
def ttbLead (k : Nat) (s : State) : State :=
  let s := ((s.put TTB_ATT k (s.get TTB_ATT k - 1)).put TTB_LEAD k 1).put TTB_POC_STAT_CYCLE k 63
  if owning s then s.emit (.ttbCas k (keyCh s k)) else s

/-- The node listens again (R265). -/
def ttbListen (k : Nat) (s : State) : State := (s.put TTB_LISTEN k (s.get CORE_COUNT 0)).put TTB_LEAD k 0

/-- LISTEN_TIMEOUT passes: a coldstart node that listens with attempts left leads a coldstart (R265). A microtick is ten core clocks. -/
def ttbListens (s : State) : State :=
  overRange (fun k t =>
    if mayCold t k && t.get TTB_LEAD k == 0 && t.get TTB_ATT k != 0 &&
        decide (10 * t.get TTB_CL_SYNC2_LISTEN_TO k ≤ t.get CORE_COUNT 0 - t.get TTB_LISTEN k) then ttbLead k t
    else t) 4 s

/-- A led coldstart has not succeeded in its six cycles: the next attempt begins, or the node listens and integrates (R265). -/
def ttbAttemptOver (k : Nat) (s : State) : State := if s.get TTB_ATT k = 0 then ttbListen k s else ttbLead k s

/-- A frame heard in STARTUP (R265): a leader gives way to it in its first four cycles; a startup frame sets the cycle that any other
node integrates on; another frame starts the listening again. -/
def ttbStartupHears (k : Nat) (f : TtbFrame) (s : State) : State :=
  if s.get TTB_LEAD k = 1 then
    (if s.get TTB_POC_STAT_CYCLE k < 4 ∨ s.get TTB_POC_STAT_CYCLE k = 63 then ttbListen k s else s)
  else if s.get TTB_LEAD k = 0 ∧ f.startup = true then
    ((s.put TTB_LEAD k 2).put TTB_SINCE k 0).put TTB_POC_STAT_CYCLE k f.cycle.toNat
  else if s.get TTB_LEAD k = 0 then ttbListen k s
  else s

/-- A coldstart node sends its startup frame in STARTUP: it leads, or it has integrated for four cycles (R265). -/
def startupSends (s : State) (k slot : Nat) : Bool :=
  mayCold s k && slot == s.get TTB_KEY_KEY_ID k &&
    (s.get TTB_LEAD k == 1 || (s.get TTB_LEAD k == 2 && decide (4 ≤ s.get TTB_SINCE k)))

/-- The coldstart attempts are used up (R265). -/
def ttbColdFail (k : Nat) (s : State) : State :=
  if mayCold s k = true ∧ s.get TTB_ATT k = 0 ∧ s.get TTB_LEAD k ≠ 1 then
    ttbEvent k 19 ((s.put TTB_POC_STAT_COLD_FAIL k 1).put TTB_COLD k 0)
  else s

/-- WAKEUP ends with its result (R266): WU_PAT repetitions of the wakeup symbol left on WU_CH, or as many as left before a collision or
an abort. -/
def ttbWakeupDone (k r n : Nat) (s : State) : State :=
  if poc s k = pocWakeup then
    let m := if r = 1 then s.get TTB_CL_T4_WU_PAT k else if 4 ≤ r then min n (s.get TTB_CL_T4_WU_PAT k) else 0
    let s := if m ≠ 0 ∧ owning s = true then s.emit (.ttbWakeup k (2 ^ s.get TTB_KEY_WU_CH k) m) else s
    setPoc k pocReady (s.put TTB_POC_STAT_WU_RESULT k r)
  else s

/-- A wakeup pattern is decoded (R266). -/
def ttbWakeRx (k : Nat) (s : State) : State := if poc s k = pocReady ∨ poc s k = pocHalt then ttbEvent k 12 s else s

/-- The domain of a cluster turns on or off (R262). -/
def ttbPowerOn (k : Nat) (s : State) : State := s.put DOM_OFF (domTtb k) 0

def ttbPowerOff (k : Nat) (s : State) : State :=
  ttbNoRequest k (ttbForget k (((((s.put DOM_OFF (domTtb k) 1).put TTB_POC_STAT_STATE k pocDefault).put TTB_HALT k 0).put
    TTB_COLD k 0).put TTB_AL_ON k 0))

/-- A low level on a channel's RXD held for `n` × 10 ns: a wake edge when that is WUP_MIN × 0.1 µs (R267). -/
def ttbWakeEdge (k ch n : Nat) (s : State) : State :=
  let b := 2 * k + ch
  if !s.bit TTB_AO_CFG_EDGE_EN 0 b || decide (n < 10 * max 1 (s.get TTB_AO_CFG_WUP_MIN 0)) then s else
  let s := if s.bit TTB_AO_STAT_WOKE 0 b then s else ttbEvent k (13 + ch) (s.putBit TTB_AO_STAT_WOKE 0 b true)
  if s.flag TTB_AO_CFG_AUTO_ON 0 && !s.domOn (domTtb k) then setPoc k pocConfig (ttbPowerOn k s) else s

/-! ### Alignment and clock correction (R268, R269) -/

/-- The cluster cycle in 1/256 ns: C of R269. -/
def ttbC (s : State) (k : Nat) : Nat := s.get TTB_CL_T0_MPC k * s.get TTB_CL_T0_MT_UT k * 3200

/-- The grid instant nearest to line time t (R269). -/
def ttbNearest (s : State) (k t : Nat) : Nat :=
  let c := ttbC s k
  let z := toSigned 40 (t + 2 ^ 40 - s.get TTB_ALIGN_BASE k * 256)
  let r := (z.emod c).toNat
  if c = 0 then t else if 2 * r ≤ c then (t + 2 ^ 40 - r) % 2 ^ 40 else (t + c - r) % 2 ^ 40

/-- A control of R269 as its field holds it: 0 none, 1 +1, 3 -1. -/
def ctlOf (d : Int) (db : Nat) : Nat := if d > db then 3 else if d < -(db : Int) then 1 else 0

/-- A field's control as a number. -/
def ctlNum (v : Nat) : Int := if v = 1 then 1 else if v = 3 then -1 else 0

/-- With EN = 0 no alignment runs and both controls are 0 (R269). -/
def ttbAlignOff (k : Nat) (s : State) : State :=
  if s.flag TTB_ALIGN_EN k then s
  else ((s.put TTB_AL_ON k 0).put TTB_ALIGN_STAT_OFF_CTL k 0).put TTB_ALIGN_STAT_RATE_CTL k 0

/-- DEV saturates at its width. -/
def dev24 (d : Int) : Int := max (-8388608) (min 8388607 d)

/-- The steering of a cycle start at line time t, cycle count c (R269). -/
def ttbAlign (k t c : Nat) (s : State) : State :=
  if !s.flag TTB_ALIGN_EN k then
    let d := (toSigned 40 (t + 2 ^ 40 - ttbNearest s k t)).fdiv 256
    ttbAlignOff k (s.putS TTB_ALIGN_STAT_DEV k (dev24 d))
  else
    let first := !s.flag TTB_AL_ON k
    let e := if first then ttbNearest s k t else s.get TTB_AL_E k
    let s := if first then ((s.put TTB_AL_ON k 1).put TTB_AL_HAVE k 0).put TTB_AL_SAID k 0 else s
    let d := (toSigned 40 (t + 2 ^ 40 - e)).fdiv 256
    let s := (s.putS TTB_ALIGN_STAT_DEV k (dev24 d)).put TTB_AL_E k ((e + ttbC s k) % 2 ^ 40)
    let s := if d.natAbs ≤ s.get TTB_ALIGN_EXT_ALIGN_MAX k then s.put TTB_AL_SAID k 0
      else if s.flag TTB_AL_SAID k then s
      else ttbEvent k 15 (s.put TTB_AL_SAID k 1)
    if c % 2 = 1 then
      let s := s.put TTB_ALIGN_STAT_OFF_CTL k (ctlOf d (s.get TTB_ALIGN_DB k))
      let s := if s.flag TTB_AL_HAVE k then
          s.put TTB_ALIGN_STAT_RATE_CTL k (ctlOf (d - s.getS TTB_AL_ODD k) (s.get TTB_ALIGN_DB_RATE k))
        else s.put TTB_ALIGN_STAT_RATE_CTL k 0
      (s.putS TTB_AL_ODD k d).put TTB_AL_HAVE k 1
    else s

/-- A number takes its place in a rising list. -/
def insertInt (x : Int) : List Int → List Int
  | [] => [x]
  | y :: ys => if x ≤ y then x :: y :: ys else y :: insertInt x ys

/-- The fault-tolerant midpoint of ISO 17458-2: without the k largest and the k smallest values, k = 0, 1 or 2 for up to 2, up to 7
and more values, the mean of the largest and the smallest that are left, rounded toward 0. -/
def midpoint (xs : List Int) : Int :=
  let ys := xs.foldr insertInt []
  let n := ys.length
  let k := if n < 3 then 0 else if n < 8 then 1 else 2
  let zs := (ys.drop k).take (n - 2 * k)
  (zs.headD 0 + zs.getLastD 0).tdiv 2

/-- The cluster noted a sync frame of this ID in cycle `c` (R278). -/
def syncNoted (s : State) (k c id : Nat) : Bool := s.ttbSync.any (fun x => x.cluster == k && x.cyc == c && x.id == id)

/-- The measurements that are used: of sync frames noted in the present cycle, at most SYNC_MAX on each channel, and of a frame on both
channels the smaller offset and the mean rate (R268, ISO 17458-2). -/
def syncUsed (s : State) (k : Nat) (ds : List SyncDev) : List (Nat × Int × Int) :=
  let c := s.get TTB_POC_STAT_CYCLE k
  let of (ch : Nat) := ((ds.filter (fun d => d.chan.val == ch && syncNoted s k c d.id.toNat)).map
    (fun d => (d.id.toNat, d.off.toInt, d.rate.toInt))).take (s.get TTB_CL_SYNC2_SYNC_MAX k)
  let a := of 0
  let b := of 1
  a.map (fun x => match b.find? (fun y => y.1 == x.1) with
    | some y => (x.1, min x.2.1 y.2.1, (x.2.2 + y.2.2).tdiv 2)
    | none => x) ++ b.filter (fun y => !a.any (fun x => x.1 == y.1))

/-- What the cluster measured of sync frames, frame by frame, from its lists (R268). -/
def syncDevs (fs : List SyncFrame) (offs : List (BitVec 16)) (rates : List (BitVec 12)) : List SyncDev :=
  (fs.zip (offs.zip rates)).map (fun x => ⟨x.1.chan, x.1.id, x.2.1, x.2.2⟩)

/-- Corrections in the network idle time, from what the cluster measured of sync frames (R268, ISO 17458-2): a term is valid when a
frame was used for it, for the rate one noted in both cycles of the pair, and it lies within its limit. The rate term adds to the rate
correction in force, without the external one. -/
def clockCorrection (k : Nat) (ds : List SyncDev) (s : State) : State :=
  if !pocNormal s k then s else
  let used := syncUsed s k ds
  let pairs := used.filter (fun x => syncNoted s k ((s.get TTB_POC_STAT_CYCLE k + 63) % 64) x.1)
  let off := midpoint (used.map (fun x => x.2.1))
  let rate := s.getS TTB_RATE k + midpoint (pairs.map (fun x => x.2.2))
  let ok := !used.isEmpty && !pairs.isEmpty && decide (off.natAbs ≤ s.get TTB_CL_SYNC_OFFSET_OUT k) &&
    decide (rate.natAbs ≤ s.get TTB_CL_SYNC_RATE_OUT k)
  if ok then
    let o := off + ctlNum (s.get TTB_ALIGN_STAT_OFF_CTL k) * s.get TTB_ALIGN_EXT_EXT_OFF k
    let r := rate + ctlNum (s.get TTB_ALIGN_STAT_RATE_CTL k) * s.get TTB_ALIGN_EXT_EXT_RATE k
    let s := (s.put TTB_SYNC_STAT_NSYNC k (min 15 used.length)).putS TTB_RATE k rate
    setPoc k pocActive (((s.putS TTB_SYNC_STAT_OFFSET k o).putS TTB_SYNC_STAT_RATE k r).put TTB_NOCORR k 0)
  else
    let s := s.count1 TTB_CNT1_SYNC_ERR k (2944 + 32 * k + 7)
    let s := s.sat TTB_NOCORR k
    let m := s.get TTB_NOCORR k
    if s.get TTB_CL_SYNC2_FATAL_LIM k ≤ m then ttbToHalt k s
    else if s.get TTB_CL_SYNC_PASSIVE_LIM k ≤ m then setPoc k pocPassive s
    else s

/-! ### Cycles (R269, R278) -/

/-- A cluster cycle starts (R264, R269, R276, R278, R279). -/
def ttbCycleStart (k : Nat) (s : State) : State :=
  if !pocNormal s k && poc s k != pocStartup then s
  else if s.flag TTB_HALT k then ttbToHalt k s
  else if poc s k = pocStartup ∧ s.get TTB_LEAD k = 1 ∧ s.get TTB_POC_STAT_CYCLE k = 5 then ttbAttemptOver k s
  else
    let s := overList (fun (x : Nat × Nat) t => if x.1 / 128 = k then t.put TTB_DYN x.1 0 else t) (s.listed TTB_DYN) s
    let s := (s.put TTB_ASK k 0).sat TTB_SINCE k
    let d := s.get TTB_ALIGN_DOM k
    let t := s.now d
    let c := (s.get TTB_POC_STAT_CYCLE k + 1) % 64
    let s := s.put TTB_POC_STAT_CYCLE k c
    let s := ((s.put TTB_CYC_TS_NS k (t / 256)).put TTB_CYC_TS_FRAC k (t % 256)).put TTB_CYC_TS_CYCLE k c
    let s := ttbAlign k t c (ttbEvent k 0 s)
    let s := s.putFlag TTB_TXEN k (owning s)
    let s := { s with
      ttbReads := s.ttbReads.filter (fun x => x.cluster ≠ k)
      ttbRx := s.ttbRx.filter (fun x => x.cluster ≠ k)
      ttbSync := s.ttbSync.filter (fun x => x.cluster ≠ k || x.cyc = (c + 63) % 64) }
    let s := if s.flag TTB_MM_NOW k then s.put TTB_MM_NOW k 0 else s.put TTB_MM_SAID k 0
    let s := if s.get TTB_LAPSE k = c + 1 then s else s.put TTB_LAPSE k 0
    if s.flag TTB_AGREED k then
      let s := s.put TTB_MODE_STAT_ACTIVE k (s.get TTB_MODE_STAT_TARGET k)
      let s := if s.flag TTB_HELD k then s.put TTB_LAPSE k (c + 1) else s
      ttbEvent k 9 ((ttbNoRequest k s).sat TTB_CNT1_MODE_SWITCH k)
    else s

/-- A write of REQ = 1 to `TTB_MODE_CTRL` (R278): one written while another is in progress, or in the cycle after a lapse, waits. -/
def modeRequest (k m : Nat) (s : State) : State :=
  (((s.put TTB_MODE_CTRL_REQ_MODE k m).put TTB_HELD k 1).put TTB_HELD_MODE k m).putFlag TTB_HELD_WAIT k
    (s.flag TTB_MODE_STAT_PEND k || s.get TTB_LAPSE k == s.get TTB_POC_STAT_CYCLE k + 1)

/-- The fields of TTB_MODE_CTRL that are configuration (R278). -/
def modeCfgFlds : List Fld := [TTB_MODE_CTRL_START_MODE, TTB_MODE_CTRL_AGREE_EN, TTB_MODE_CTRL_MODE_OFF]

/-- A write to `TTB_MODE_CTRL`: START_MODE, AGREE_EN and MODE_OFF only in DEFAULT_CONFIG and CONFIG (R263, R278). -/
def modeCtrlWrite (k v : Nat) (s : State) : State :=
  let s := if modeCfgFlds.all (fun F => s.get F k == bitsOf v F.lo F.w) then s
    else ttbConfigured k (fun t => t.setFlds k v modeCfgFlds) s
  let s := s.setFlds k v [TTB_MODE_CTRL_REQ_MODE, TTB_MODE_CTRL_VETO]
  if bitOf v 7 then modeRequest k (bitsOf v 4 3) s else s

/-- The key-slot read takes up a held request (R278): none is in progress and the cycle is not the one after a lapse, or the request
was written before those that other nodes made in this cycle, of which the lowest is then the request. -/
def takeRequest (k : Nat) (s : State) : State :=
  let c := s.get TTB_POC_STAT_CYCLE k
  let pend := s.flag TTB_MODE_STAT_PEND k
  let now := if pend then s.get TTB_MODE_STAT_REQ_CYC k == c && !s.flag TTB_HELD_WAIT k else s.get TTB_LAPSE k != c + 1
  if s.flag TTB_HELD k && now then
    let s := (s.put TTB_HELD k 0).put TTB_LAPSE k 0
    let m := s.get TTB_HELD_MODE k
    if m = s.get TTB_MODE_STAT_ACTIVE k then s
    else
      let s := s.put TTB_ASK k (m + 1)
      if pend ∧ s.get TTB_MODE_STAT_TARGET k < m then s
      else (((s.put TTB_MODE_STAT_PEND k 1).put TTB_MODE_STAT_TARGET k m).put TTB_MODE_STAT_REQ_CYC k c).put TTB_OWN k 1
  else s

/-- The mode byte of a key-slot frame of the present cycle (R277, R278). -/
def modeByte (s : State) (k : Nat) : Nat :=
  let c := s.get TTB_POC_STAT_CYCLE k
  let m := s.get TTB_MODE_STAT_TARGET k
  let cur := 16 * s.get TTB_MODE_STAT_ACTIVE k
  let pend := s.flag TTB_MODE_STAT_PEND k
  let next := pend && c == (s.get TTB_MODE_STAT_REQ_CYC k + 1) % 64
  let agree := next && s.bit TTB_MODE_VALID_VALID k m && !s.bit TTB_MODE_CTRL_VETO k m
  if s.get TTB_ASK k ≠ 0 then s.get TTB_ASK k - 1 + 8 + cur
  else if pend && (s.flag TTB_OWN k || agree) then m + 8 + cur else cur

/-! ### Sending (R273, R274, R276) -/

/-- Soundboard offset of buffer b (R272). -/
def ttbBuf (s : State) (k b : Nat) : Nat := 64 * s.get TTB_BUF_CFG_BASE k + 320 * b

def ttbWord (s : State) (k b w : Nat) : Nat := s.word (sbBase + ttbBuf s k b + 4 * w)

/-- What the cluster sends in a static slot: buffer, channels, whether it is the key slot, EVENT, IRQ, PPI (R270, R273). -/
def slotSends (s : State) (k slot : Nat) : List (Nat × Nat × Bool × Bool × Bool × Bool) :=
  if poc s k ≠ pocActive ∨ slot = 0 ∨ s.get TTB_CL_T1_STATIC_SLOTS k < slot then []
  else if slot = s.get TTB_KEY_KEY_ID k then [(s.get TTB_KEY_KEY_BUF k, keyCh s k, true, false, false, false)]
  else if s.flag TTB_SINGLE k then []
  else (schSend s k slot).map (fun e => (e.buf, e.ch, false, e.event, e.irq, e.ppi))

/-- The cluster reads a static slot's buffers before the action point (R273): with READY set, a payload stands ready. -/
def slotRead (k slot : Nat) (s : State) : State :=
  let s := if slot = s.get TTB_KEY_KEY_ID k ∧ poc s k = pocActive ∧ s.flag TTB_MODE_CTRL_AGREE_EN k = true then
      takeRequest k s else s
  overList (fun (x : Nat × Nat × Bool × Bool × Bool × Bool) t =>
    if bitOf (ttbWord t k x.1 0) 0 then
      let pay := t.bytes (sbBase + ttbBuf t k x.1 + 32) (2 * t.get TTB_CL_T1_STATIC_PLEN k)
      let pay := if x.2.2.1 && t.flag TTB_MODE_CTRL_AGREE_EN k then
          putOctets pay (t.get TTB_MODE_CTRL_MODE_OFF k) [BitVec.ofNat 8 (modeByte t k)] else pay
      { t with ttbReads := t.ttbReads ++ [⟨k, slot, x.1, pay⟩] }
    else t) (slotSends s k slot) s

/-- A frame goes out on its channels when TXEN is released (R276). -/
def ttbOut (k ch : Nat) (f : TtbFrame) (s : State) : State := if s.flag TTB_TXEN k then s.emit (.ttb k ch f) else s

/-- Word 2 of a buffer records the cycle of the frame sent (R272). -/
def ttbSentCyc (k b : Nat) (s : State) : State :=
  let w2 := ttbWord s k b 2
  soundboardWrite (ttbBuf s k b + 8) (toBytes 4 (w2 % 2 ^ 23 / 64 * 64 + s.get TTB_POC_STAT_CYCLE k)) s

/-- After an EVENT entry was sent READY clears, with TTB_TX_DONE when IRQ = 1 (R274). -/
def ttbEventSent (k b : Nat) (event irq : Bool) (s : State) : State :=
  if !event then s else
  let w0 := ttbWord s k b 0
  let s := soundboardWrite (ttbBuf s k b) (toBytes 4 (w0 / 2 * 2)) s
  if irq then ttbEvent k 2 s else s

/-- The mode byte that a payload carries at MODE_OFF (R277). -/
def payloadMode (s : State) (k : Nat) (f : TtbFrame) : Option Nat :=
  if s.flag TTB_MODE_CTRL_AGREE_EN k && !f.null then
    (f.payload[s.get TTB_MODE_CTRL_MODE_OFF k]?).map (fun b => b.toNat)
  else none

/-- A valid sync frame is noted for the present cycle, once for each frame ID (R278). -/
def noteSync (k : Nat) (f : TtbFrame) (s : State) : State :=
  let c := s.get TTB_POC_STAT_CYCLE k
  if s.ttbSync.any (fun x => x.cluster = k && x.cyc = c && x.id = f.id.toNat) then s
  else { s with ttbSync := s.ttbSync ++ [⟨k, c, f.id.toNat, payloadMode s k f⟩] }

/-- The sync frame of the key slot counts for the cycle when it left; a unit without the claim counts the owner's frame in that slot,
as it receives it (R276, R278). -/
def noteOwn (k : Nat) (f : TtbFrame) (s : State) : State := if f.sync && s.flag TTB_TXEN k then noteSync k f s else s

/-- One frame of a static slot (R273). -/
def slotSend (k slot : Nat) (x : Nat × Nat × Bool × Bool × Bool × Bool) (s : State) : State :=
  let (b, ch, key, event, irq, ppi) := x
  let sync := key && s.flag TTB_KEY_SYNC k
  let startup := key && s.flag TTB_KEY_STARTUP k
  let cyc := BitVec.ofNat 6 (s.get TTB_POC_STAT_CYCLE k)
  match s.ttbReads.find? (fun r => r.cluster = k && r.slot = slot && r.buf = b) with
  | some r =>
    let f : TtbFrame := ⟨BitVec.ofNat 11 slot, cyc, false, sync, startup, ppi, r.payload⟩
    let s := ttbOut k ch f { s with ttbReads := s.ttbReads.erase r }
    noteOwn k f (ttbEventSent k b event irq (ttbSentCyc k b s))
  | none =>
    let f : TtbFrame := ⟨BitVec.ofNat 11 slot, cyc, true, sync, startup, ppi, []⟩
    noteOwn k f ((ttbSentCyc k b (ttbOut k ch f s)).count1 TTB_CNT0_NULL_SENT k (2944 + 32 * k + 3))

/-- The startup frame of a coldstart node in STARTUP: a null frame with both indicators (R265, ISO 17458-2). -/
def startupFrame (k slot : Nat) (s : State) : State :=
  let f : TtbFrame := ⟨BitVec.ofNat 11 slot, BitVec.ofNat 6 (s.get TTB_POC_STAT_CYCLE k), true, true, true, false, []⟩
  ttbOut k (keyCh s k) f s

/-- The action point of a static slot (R265, R273). -/
def staticSlot (k slot : Nat) (s : State) : State :=
  if startupSends s k slot then startupFrame k slot s
  else overList (fun x t => slotSend k slot x t) (slotSends s k slot) s

/-- READY of an entry's buffer. -/
def entryReady (s : State) (k : Nat) (e : SchEntry) : Bool := bitOf (ttbWord s k e.buf 0) 0

/-- The transmit entry that a frame ID of the dynamic segment sends in this cycle (R261, R274): the one that has left on a channel, else
the lowest with READY set, for no two different frames of one ID leave in a slot. -/
def dynamicPick (s : State) (k id : Nat) : List SchEntry :=
  let es := schNow s k id true
  match es.find? (fun e => s.get TTB_DYN (128 * k + e.num) % 4 != 0) with
  | some e => [e]
  | none => (es.filter (entryReady s k)).take 1

/-- A transmit entry at its minislot on channel `ch` (0 A, 1 B): sent, or missed for LATEST_TX alone, which counts once for the entry in a
cycle (R274). What left on one channel is what leaves on the other (R261). An EVENT entry clears READY when it has left on all its
channels. -/
def dynamicSend (k ch id minislot : Nat) (e : SchEntry) (s : State) : State :=
  let i := 128 * k + e.num
  let was := s.get TTB_DYN i
  let mine (x : TtbRead) : Bool := x.cluster = k && x.slot = id && x.buf = e.buf
  let kept := (s.ttbReads.find? mine).map (fun x => x.payload)
  if !bitOf e.ch ch || bitOf was ch || (kept.isNone && !entryReady s k e) then s
  else if s.get TTB_CL_T4_LATEST_TX k < minislot then
    (if bitOf was 2 then s else (s.count1 TTB_CNT0_DYN_MISSED k (2944 + 32 * k + 18)).put TTB_DYN i (was + 4))
  else
    let pay := kept.getD (s.bytes (sbBase + ttbBuf s k e.buf + 32) (2 * e.plen))
    let last := e.ch == was % 4 + 2 ^ ch
    let s := { s with ttbReads := s.ttbReads.filter (fun x => !mine x) ++ (if last then [] else [⟨k, id, e.buf, pay⟩]) }
    let f : TtbFrame := ⟨BitVec.ofNat 11 id, BitVec.ofNat 6 (s.get TTB_POC_STAT_CYCLE k), false, false, false, e.ppi, pay⟩
    let s := (ttbSentCyc k e.buf (ttbOut k (2 ^ ch) f s)).put TTB_DYN i (was + 2 ^ ch)
    if last then ttbEventSent k e.buf e.event e.irq s else s

/-- A minislot reached in the dynamic segment of a channel, for a frame ID (R274). -/
def dynamicSlot (k ch id minislot : Nat) (s : State) : State :=
  if poc s k ≠ pocActive ∨ s.flag TTB_SINGLE k = true ∨ id ≤ s.get TTB_CL_T1_STATIC_SLOTS k then s
  else overList (dynamicSend k ch id minislot) (dynamicPick s k id) s

/-! ### Receiving (R275, R278, R279) -/

/-- SEQ passes through an odd value to the next even one (R272, R275). -/
def nextSeq (v : Nat) : Nat := (v / 2 * 2 + 2) % 2 ^ 32

/-- The first valid copy is written to a buffer (R275 step 1). -/
def rxWrite (k b ts : Nat) (f : TtbFrame) (s : State) : State :=
  let off := ttbBuf s k b
  let w2 := ttbWord s k b 2
  let seq := nextSeq (ttbWord s k b 1)
  if f.null then
    soundboardWrite (off + 4) (toBytes 4 seq ++ toBytes 4 ((w2 / 64 * 64 ||| 256) + f.cycle.toNat)) s
  else
    let bit (x : Bool) (j : Nat) : Nat := if x then 2 ^ j else 0
    let n := min 127 (f.payload.length / 2)
    let w2 := bitsOf w2 6 7 * 64 + f.cycle.toNat + bit f.ppi 13 + bit f.sync 14 + bit f.startup 15 + n * 2 ^ 16
    let s := soundboardWrite (off + 32) (f.payload.take (2 * n)) s
    soundboardWrite (off + 4) (toBytes 4 seq ++ toBytes 4 w2 ++ toBytes 4 (ts / 256) ++ toBytes 4 (ts % 256) ++
      List.replicate 12 0) s

/-- What a valid sync frame says of modes (R278 steps 2 and 3, R279). -/
def syncMode (k m : Nat) (s : State) : State :=
  let c := s.get TTB_POC_STAT_CYCLE k
  let active := s.get TTB_MODE_STAT_ACTIVE k
  let next := m % 8
  let s := if bitsOf m 4 3 = active then s
    else
      let s := (s.sat TTB_CNT1_MODE_MISMATCH k).put TTB_MM_NOW k 1
      if s.flag TTB_MM_SAID k then s else ttbEvent k 11 (s.put TTB_MM_SAID k 1)
  if !bitOf m 3 || next == active then s
  else
    let take (t : State) : State :=
      (((t.put TTB_MODE_STAT_PEND k 1).put TTB_MODE_STAT_TARGET k next).put TTB_MODE_STAT_REQ_CYC k c).put TTB_OWN k 0
    if !s.flag TTB_MODE_STAT_PEND k then ttbEvent k 8 (take s)
    else if s.get TTB_MODE_STAT_REQ_CYC k = c ∧ next < s.get TTB_MODE_STAT_TARGET k then
      (if s.flag TTB_OWN k then ttbEvent k 8 (take s) else take s)
    else s

/-- A frame that arrived valid on channel `ch` (0 A, 1 B), its start at line time `ts` (R275). -/
def ttbReceive (k ch ts : Nat) (f : TtbFrame) (s : State) : State :=
  if !bitOf (keyCh s k) ch then s
  else if poc s k = pocStartup then ttbStartupHears k f s
  else if !pocNormal s k || f.cycle.toNat != s.get TTB_POC_STAT_CYCLE k then s else
  let es := (schNow s k f.id.toNat false).filter (fun e => bitOf e.ch ch)
  let had := s.ttbRx.filter (fun r => r.cluster = k && r.frame.id = f.id)
  let s := overList (fun (e : SchEntry) t =>
    if had.any (fun r => bitOf e.ch r.chan) then t else rxWrite k e.buf ts f t) es s
  let seen := s.ttbSync.any (fun x => x.cluster = k && x.cyc = s.get TTB_POC_STAT_CYCLE k && x.id = f.id.toNat)
  let s := { s with ttbRx := s.ttbRx ++ [⟨k, ch, f⟩] }
  if f.sync then
    let s := noteSync k f s
    match payloadMode s k f with
    | some m => if seen then s else syncMode k m s
    | none => s
  else s

/-- The slot of a frame ID ends (R275 steps 2 and 3); the errors are those of both channels, counted once for the slot. -/
def slotEnd (k id : Nat) (syntaxErr contentErr boundary : Bool) (s : State) : State :=
  if !pocNormal s k then s else
  let got := s.ttbRx.filter (fun r => r.cluster = k && r.frame.id.toNat = id)
  let s := { s with ttbRx := s.ttbRx.filter (fun r => !(r.cluster = k && r.frame.id.toNat = id)) }
  overList (fun (e : SchEntry) t =>
    let mine := got.filter (fun r => bitOf e.ch r.chan)
    let a := mine.find? (fun r => r.chan = 0)
    let b := mine.find? (fun r => r.chan = 1)
    let diff := match a, b with
      | some x, some y => x.frame.payload != y.frame.payload
      | _, _ => false
    let bit (x : Bool) (j : Nat) : Nat := if x then 2 ^ j else 0
    let w2 := ttbWord t k e.buf 2
    let w2 := w2 / 2 ^ 13 * 2 ^ 13 % 2 ^ 23 + w2 % 64 + bit a.isSome 6 + bit b.isSome 7 +
      bit (mine.any (fun r => r.frame.null)) 8 + bit syntaxErr 9 + bit contentErr 10 + bit boundary 11 + bit diff 12
    let t := soundboardWrite (ttbBuf t k e.buf + 4) (toBytes 4 (nextSeq (ttbWord t k e.buf 1)) ++ toBytes 4 w2) t
    let t := if diff then ttbEvent k 16 (t.sat TTB_CNT0_CH_DIFF k) else t
    if e.irq && !mine.isEmpty then ttbEvent k 1 t else t) (schNow s k id false)
    (if (syntaxErr || contentErr || boundary) && !(schNow s k id false).isEmpty then
      s.count1 TTB_CNT0_SLOT_ERR k (2944 + 32 * k + 17) else s)

/-- The end of the static segment of cycle r + 1: the request is agreed or lapses (R278 steps 4 and 5). -/
def modeAgreement (k : Nat) (s : State) : State :=
  let c := s.get TTB_POC_STAT_CYCLE k
  let r := s.get TTB_MODE_STAT_REQ_CYC k
  let m := s.get TTB_MODE_STAT_TARGET k
  if !pocNormal s k || !s.flag TTB_MODE_STAT_PEND k || c != (r + 1) % 64 || s.flag TTB_AGREED k then s else
  let now := s.ttbSync.filter (fun x => x.cluster = k && x.cyc = c)
  let was := s.ttbSync.filter (fun x => x.cluster = k && x.cyc = r)
  let all := was.all (fun x => now.any (fun y => y.id = x.id)) &&
    now.all (fun x => match x.mode with
      | some b => bitOf b 3 && b % 8 == m
      | none => false)
  if all then s.put TTB_AGREED k 1
  else ttbEvent k 10 ((ttbNoRequest k s).sat TTB_CNT1_MODE_LAPSED k |>.put TTB_LAPSE k ((c + 1) % 64 + 1))

/-- The claim is granted or lost (R276): TXEN goes high at once, and is released at the next cycle start. -/
def ttbClaim (own : Bool) (s : State) : State :=
  overRange (fun k t =>
    let t := t.putFlag TTB_POC_STAT_CLAIMED k own
    if own then t else t.put TTB_TXEN k 0) 4 s

/-! ### The commands' meanings -/

/-- POC_CONFIG (R264). -/
def execPocConfig (q : Requester) (k : Fin 4) (s : State) : Result := .next (s.gate q (ttbAddr 0x40 k) (pocConfigCmd k))

/-- POC_READY (R264). -/
def execPocReady (q : Requester) (k : Fin 4) (s : State) : Result := .next (s.gate q (ttbAddr 0x40 k) (pocReadyCmd k))

/-- POC_WAKEUP (R264). -/
def execPocWakeup (q : Requester) (k : Fin 4) (s : State) : Result := .next (s.gate q (ttbAddr 0x40 k) (pocWakeupCmd k))

/-- POC_RUN (R264). -/
def execPocRun (q : Requester) (k : Fin 4) (s : State) : Result := .next (s.gate q (ttbAddr 0x40 k) (pocRunCmd k))

/-- POC_ALLOW_COLDSTART (R264). -/
def execPocAllowColdstart (q : Requester) (k : Fin 4) (s : State) : Result :=
  .next (s.gate q (ttbAddr 0x40 k) (pocAllowCmd k))

/-- POC_ALL_SLOTS (R264). -/
def execPocAllSlots (q : Requester) (k : Fin 4) (s : State) : Result := .next (s.gate q (ttbAddr 0x40 k) (pocAllSlotsCmd k))

/-- POC_HALT (R264). -/
def execPocHalt (q : Requester) (k : Fin 4) (s : State) : Result := .next (s.gate q (ttbAddr 0x40 k) (pocHaltCmd k))

/-- POC_FREEZE (R264). -/
def execPocFreeze (q : Requester) (k : Fin 4) (s : State) : Result := .next (s.gate q (ttbAddr 0x40 k) (pocFreezeCmd k))

/-- TTB_STARTUP_DONE (R265). -/
def execTtbStartupDone (k : Fin 4) (c : BitVec 6) (s : State) : Result := .next (ttbStarted k c.toNat s)

/-- TTB_COLDSTART_FAIL (R265). -/
def execTtbColdstartFail (k : Fin 4) (s : State) : Result := .next (ttbColdFail k s)

/-- TTB_WAKEUP_DONE (R266). -/
def execTtbWakeupDone (k : Fin 4) (r : WakeupEnd) (s : State) : Result := .next (ttbWakeupDone k r.result r.sent s)

/-- TTB_WAKE_RX (R266). -/
def execTtbWakeRx (k : Fin 4) (s : State) : Result := .next (ttbWakeRx k s)

/-- TTB_WAKE_EDGE (R267). -/
def execTtbWakeEdge (k : Fin 4) (ch : TtbWake) (s : State) : Result := .next (ttbWakeEdge k ch.chan ch.held.toNat s)

/-- TTB_CYCLE_START (R269). -/
def execTtbCycleStart (k : Fin 4) (s : State) : Result := .next (ttbCycleStart k s)

/-- CLOCK_CORRECTION (R268). -/
def execClockCorrection (k : Fin 4) (fs : List SyncFrame) (offs : List (BitVec 16)) (rates : List (BitVec 12)) (s : State) : Result :=
  .next (clockCorrection k (syncDevs fs offs rates) s)

/-- STATIC_SLOT_READ (R273). -/
def execStaticSlotRead (k : Fin 4) (slot : BitVec 11) (s : State) : Result := .next (slotRead k slot.toNat s)

/-- STATIC_SLOT (R273). -/
def execStaticSlot (k : Fin 4) (slot : BitVec 11) (s : State) : Result := .next (staticSlot k slot.toNat s)

/-- DYNAMIC_SLOT (R274). -/
def execDynamicSlot (k : TtbChan) (id : BitVec 11) (minislot : BitVec 13) (s : State) : Result :=
  .next (dynamicSlot k.cluster k.chan id.toNat minislot.toNat s)

/-- TTB_FRAME_RECEIVE (R275). -/
def execTtbFrameReceive (k : Fin 4) (ch : Fin 2) (ts : BitVec 40) (f : TtbFrame) (s : State) : Result :=
  .next (ttbReceive k ch ts.toNat f s)

/-- TTB_SLOT_END (R275). -/
def execTtbSlotEnd (k : Fin 4) (id : BitVec 11) (syntaxErr contentErr boundary : Bool) (s : State) : Result :=
  .next (slotEnd k id.toNat syntaxErr contentErr boundary s)

/-- MODE_VALID_WRITE (R271). -/
def execModeValidWrite (q : Requester) (k : Fin 4) (v : BitVec 16) (s : State) : Result :=
  .next (s.gate q (ttbAddr 0x74 k) (modeValidWrite k v.toNat))

/-- TTB_MODE_CTRL_REQ (R278): REQ written with REQ_MODE, the other fields as they stand. -/
def execTtbModeCtrlReq (q : Requester) (k : Fin 4) (m : Fin 8) (s : State) : Result :=
  .next (s.gate q (ttbAddr 0x70 k) (modeRequest k m))

/-- MODE_AGREEMENT (R278). -/
def execModeAgreement (k : Fin 4) (s : State) : Result := .next (modeAgreement k s)

end Sys2Proof.Machine
end

