-- ==== Sys2Proof/Machine/Fio.lean ====
section
/-! DEFINITION. The isolated field I/O island and the mark-capture unit (12): couplers, sampled inputs, outputs and their
safe state, mark inputs, the contrast ADC, and the sequences. -/

namespace Sys2Proof.Machine

/-! ### Internal cells -/

/-- Inputs: previous raw samples, agreeing samples counted, filtered states before inversion, consecutive break samples
and consecutive good samples (R283, R284), bit or copy i for input i. -/
def FIO_RAW : Fld := ⟨1310, 0, 32, .int, 0, .reset, .none⟩
def FIO_AGREE : Fld := ⟨1311, 0, 4, .int, 0, .reset, .none⟩
def FIO_FILT : Fld := ⟨1312, 0, 32, .int, 0, .reset, .none⟩
def FIO_BREAKS : Fld := ⟨1313, 0, 4, .int, 0, .reset, .none⟩
def FIO_GOODS : Fld := ⟨1314, 0, 4, .int, 0, .reset, .none⟩
/-- Start of the next sample window, 1/256 ns (R282). -/
def FIO_WINDOW : Fld := ⟨1315, 0, 40, .int, 0, .reset, .none⟩
/-- Outputs, bit j for output j: the value that went to the island, the state of the stage, the last value driven before
the safe state, and the stages held off since the island came up (R281, R286, R288). -/
def FIO_SENT : Fld := ⟨1316, 0, 16, .int, 0, .keep, .none⟩
def FIO_STAGE : Fld := ⟨1317, 0, 16, .int, 0, .keep, .none⟩
def FIO_LAST : Fld := ⟨1318, 0, 16, .int, 0, .keep, .none⟩
def FIO_NEWUP : Fld := ⟨1319, 0, 16, .int, 65535, .keep, .none⟩
/-- How the Latch gates the stages: 0 not, 1 hold, 2 off; the hold limit has expired (R289, 18 R421). -/
def FIO_GATE : Fld := ⟨1320, 0, 2, .int, 0, .keep, .none⟩
def FIO_HELD_OUT : Fld := ⟨1321, 0, 1, .int, 0, .keep, .none⟩
/-- Core clock count at the latch-off of output j (R287). -/
def FIO_SHORT_AT : Fld := ⟨1322, 0, 64, .int, 0, .keep, .none⟩
/-- The watchdog: boundaries counted, and it has expired since the last KICK (R288). -/
def FIO_WD_COUNT : Fld := ⟨1323, 0, 8, .int, 0, .reset, .none⟩
def FIO_WD_OUT : Fld := ⟨1324, 0, 1, .int, 0, .reset, .none⟩
/-- Boundaries whose output instant has not come, the oldest first (R286): how many, and their times in 1/256 ns. -/
def FIO_BND_N : Fld := ⟨1325, 0, 10, .int, 0, .reset, .none⟩
def FIO_BND : Fld := ⟨1326, 0, 40, .int, 0, .reset, .none⟩
/-- A channel's last results passed below THR - HYST, or above THR, and no crossing has used it (R292). -/
def ADC_LOW : Fld := ⟨1327, 0, 1, .int, 0, .reset, .none⟩
def ADC_HIGH : Fld := ⟨1328, 0, 1, .int, 0, .reset, .none⟩
/-- A sequence: trigger, start and pending trigger in 1/256 ns, the instant of its last entry or sample, accepted triggers,
entries written, samples taken and samples written, sample-clock edges since the last sample, flags LATE and OVR_SEEN,
and a log entry was written since MKC_SEQ_CNT was read (R293 to R298). -/
def SEQ_TRIG : Fld := ⟨1329, 0, 40, .int, 0, .reset, .none⟩
def SEQ_START : Fld := ⟨1330, 0, 40, .int, 0, .reset, .none⟩
def SEQ_PEND_TS : Fld := ⟨1331, 0, 40, .int, 0, .reset, .none⟩
def SEQ_END : Fld := ⟨1332, 0, 40, .int, 0, .reset, .none⟩
def SEQ_NUM : Fld := ⟨1333, 0, 32, .int, 0, .reset, .none⟩
def SEQ_ENTRIES : Fld := ⟨1334, 0, 16, .int, 0, .reset, .none⟩
def SEQ_TAKEN : Fld := ⟨1335, 0, 13, .int, 0, .reset, .none⟩
def SEQ_WRITTEN : Fld := ⟨1336, 0, 13, .int, 0, .reset, .none⟩
def SEQ_EDGES : Fld := ⟨1337, 0, 4, .int, 0, .reset, .none⟩
def SEQ_LATE : Fld := ⟨1338, 0, 1, .int, 0, .reset, .none⟩
def SEQ_OVR : Fld := ⟨1339, 0, 1, .int, 0, .reset, .none⟩
def SEQ_LOGGED : Fld := ⟨1340, 0, 1, .int, 0, .reset, .none⟩

def fioAddr (off : Nat) : Nat := 0x40C0_0000 + off
def seqAddr (off k : Nat) : Nat := 0x40C0_9000 + 0x100 * k + off

def fioDom (s : State) : Nat := s.get FIO_CTRL_DOM 0
def mkcDom (s : State) : Nat := s.get MKC_CTRL_DOM 0
def islandUp (s : State) : Bool := s.flag FIO_STAT_ISL_UP 0

/-! ### Outputs (R286 to R289) -/

/-- What output j does in its safe state (R288), off while it waits after island power-up (R281). -/
def safeValue (s : State) (j : Nat) : Bool :=
  if s.bit FIO_NEWUP 0 j then false else
  match s.get FIO_OUT_CFG_SAFE j with
  | 1 => true
  | 2 => s.bit FIO_LAST 0 j
  | _ => false

/-- The state of stage j: off under the peer's claim or a SHORT latch, then the safe state, then the Latch's hold, else
the value sent (R287 to R289, 18 R421). -/
def stageValue (s : State) (j : Nat) : Bool :=
  if s.get FIO_GATE 0 = 2 then false
  else if s.bit FIO_OUT_FLT_SHORT 0 j then false
  else if s.bit FIO_OUT_FLT_SAFE 0 j then safeValue s j
  else if s.get FIO_GATE 0 = 1 then s.bit FIO_STAGE 0 j
  else s.bit FIO_SENT 0 j

/-- Every stage takes its state, and reports it where its coupler works (R286). -/
def stages (s : State) : State :=
  overRange (fun j t =>
    let v := stageValue t j
    let t := t.putBit FIO_STAGE 0 j v
    if islandUp t && !t.bit FIO_CPL_OUT 0 j then t.putBit FIO_OUT_ST_DRIVEN 0 j v else t) 16 s

/-- The outputs of a mask enter their safe state (R288). -/
def enterSafe (mask : Nat) (s : State) : State :=
  stages (overRange (fun j t =>
    if bitOf mask j && !t.bit FIO_OUT_FLT_SAFE 0 j then
      ((t.putBit FIO_LAST 0 j (t.bit FIO_STAGE 0 j)).putBit FIO_OUT_FLT_SAFE 0 j true).raise 3108
    else t) 16 s)

/-- All 16 outputs. -/
def allOutputs : Nat := 2 ^ 16 - 1

/-- The outputs whose couplers have failed: all while the island is lost (R281). -/
def deadOutputs (s : State) : Nat := if islandUp s then s.get FIO_CPL_OUT 0 else allOutputs

/-- A cause of the safe state of output j is present (R288): its coupler has failed, or the core side of a unit that is not paired is on
the fatal-fault path (18 R421). -/
def safeCause (s : State) (j : Nat) : Bool :=
  bitOf (deadOutputs s) j || (s.get FATAL_PATH 0 != 0 && !s.flag RDN_CFG_EN 0) || s.flag FIO_WD_OUT 0 || !s.flag FIO_CTRL_EN 0 || s.flag FIO_HELD_OUT 0

/-- Software writes 1 to SAFE bits (R288). -/
def fioSafeClear (mask : Nat) (s : State) : State :=
  stages (overRange (fun j t =>
    if bitOf mask j && !safeCause t j then (t.putBit FIO_OUT_FLT_SAFE 0 j false).putBit FIO_NEWUP 0 j false else t) 16 s)

/-- Software writes 1 to SHORT bits (R287). -/
def fioShortClear (mask : Nat) (s : State) : State :=
  stages (overRange (fun j t => if bitOf mask j then t.putBit FIO_OUT_FLT_SHORT 0 j false else t) 16 s)

/-- A write to `FIO_OUT_FLT` (R287, R288). -/
def fioFltWrite (v : Nat) (s : State) : State :=
  let s := s.put FIO_OUT_FLT_OPEN 0 (s.get FIO_OUT_FLT_OPEN 0 &&& (2 ^ 16 - 1 - bitsOf v 16 16))
  fioSafeClear (bitsOf v 32 16) (fioShortClear (bitsOf v 0 16) s)

/-- Outputs whose bit of VALUE goes to the island: those with UPDATE at `upd`. -/
def sendOutputs (upd : Nat) (s : State) : State :=
  stages (overRange (fun j t =>
    if t.get FIO_OUT_CFG_UPDATE j = upd then t.putBit FIO_SENT 0 j (t.bit FIO_OUT_VALUE 0 j) else t) 16 s)

/-- A write to `FIO_OUT` (R286). -/
def fioOutWrite (v : Nat) (s : State) : State := sendOutputs 0 (s.put FIO_OUT_VALUE 0 v)

/-- A boundary at `t` (1/256 ns) starts the wait for its output instant (R286). -/
def fioBoundaryDue (t : Nat) (s : State) : State :=
  let n := s.get FIO_BND_N 0
  if n < 512 then (s.put FIO_BND n t).put FIO_BND_N 0 (n + 1) else s

/-- The output instant of the oldest waiting boundary (R286). -/
def fioUpdate (s : State) : State :=
  let n := s.get FIO_BND_N 0
  let at' := (s.get FIO_BND 0 + s.get FIO_OUT_OFFS_OFFSET 0 * 320) % 2 ^ 40
  if n ≠ 0 ∧ s.reached (s.get LIM_CYC_CTRL_DOM 0) at' = true then
    sendOutputs 1 ((overList (fun i t => t.put FIO_BND i (t.get FIO_BND (i + 1))) (List.range (n - 1)) s).put FIO_BND_N 0 (n - 1))
  else s

/-- A stage latches off when it has been in current limit for SC_US, the nearest limit outside 10 to 1,000 µs, or is too hot (R287). -/
def shortLatch (j us : Nat) (hot : Bool) (s : State) : State :=
  if s.bit FIO_STAGE 0 j && (hot || decide (min 1000 (max 10 (s.get FIO_OUT_CFG_SC_US j)) ≤ us)) then
    stages (((s.putBit FIO_OUT_FLT_SHORT 0 j true).put FIO_SHORT_AT j (s.get CORE_COUNT 0)).sat FIO_CNT_SHORT_CNT 0 |>.raise 3105)
  else s

/-- The island clears a SHORT bit RETRY_MS after the latch-off; a millisecond is 800,000 core clock cycles (R287). -/
def shortRetry (j : Nat) (s : State) : State :=
  let ms := s.get FIO_OUT_CFG_RETRY_MS j
  if s.bit FIO_OUT_FLT_SHORT 0 j && ms != 0 && decide (ms * 800000 ≤ s.get CORE_COUNT 0 - s.get FIO_SHORT_AT j) then
    fioShortClear (2 ^ j) s
  else s

/-- An ON output carries less than 2 mA for 10 ms (R287). -/
def openLoad (j : Nat) (s : State) : State :=
  if s.flag FIO_OUT_CFG_OL_EN j && s.bit FIO_STAGE 0 j then (s.putBit FIO_OUT_FLT_OPEN 0 j true).raise 3106 else s

/-- The Latch gates the stages anew: 0 they follow their values, 1 they hold, 2 they are off (R289, 18 R421). Outputs whose couplers
failed meanwhile enter their safe state when their unit owns again (R281). -/
def fioGate (g : Nat) (s : State) : State :=
  let s := s.put FIO_GATE 0 g
  if g = 0 then enterSafe (deadOutputs s) s else stages s

/-- The hold limit expires, or its cause ends with a word with OWNER = 1 (R288, 18 R421). -/
def fioHoldExpire (s : State) : State := enterSafe allOutputs (s.put FIO_HELD_OUT 0 1)
def fioHoldEnd (s : State) : State := s.put FIO_HELD_OUT 0 0

/-! ### The watchdog (R288) -/

/-- A boundary while cycling runs counts. -/
def fioWatchdogBoundary (s : State) : State :=
  if s.get FIO_WDOG_N 0 ≠ 0 then s.sat FIO_WD_COUNT 0 else s

/-- N boundaries have passed without a KICK. -/
def fioWatchdog (s : State) : State :=
  let n := s.get FIO_WDOG_N 0
  if n ≠ 0 ∧ n ≤ s.get FIO_WD_COUNT 0 ∧ s.flag FIO_WD_OUT 0 = false then
    (enterSafe allOutputs (s.put FIO_WD_OUT 0 1)).sat FIO_CNT_WDOG_CNT 0 |>.raise 3111
  else s

def fioKick (s : State) : State := (s.put FIO_WD_COUNT 0 0).put FIO_WD_OUT 0 0

/-- A write to `FIO_WDOG`; with N = 0 the watchdog is no cause of the safe state (R288). -/
def fioWdogWrite (v : Nat) (s : State) : State :=
  let s := s.put FIO_WDOG_N 0 v
  let s := if s.get FIO_WDOG_N 0 = 0 then s.put FIO_WD_OUT 0 0 else s
  if bitOf v 8 then fioKick s else s

/-! ### Couplers and the island (R281) -/

/-- The bits of a coupler: inputs 0 to 31, then outputs 0 to 15. -/
def couplerBad (s : State) (c : Nat) : Bool := if c < 32 then s.bit FIO_CPL_IN 0 c else s.bit FIO_CPL_OUT 0 (c - 32)
def setCoupler (c : Nat) (b : Bool) (s : State) : State :=
  if c < 32 then s.putBit FIO_CPL_IN 0 c b else s.putBit FIO_CPL_OUT 0 (c - 32) b

/-- A coupler misses 3 toggles (R281). A stage whose unit does not own holds instead of its safe state (18 R421). -/
def couplerFail (c : Nat) (s : State) : State :=
  if islandUp s && !couplerBad s c then
    let s := ((setCoupler c true s).sat FIO_CNT_CPL_CNT 0).raise 3107
    if 32 ≤ c ∧ s.get FIO_GATE 0 = 0 then enterSafe (2 ^ (c - 32)) s else s
  else s

/-- What `FIO_IN` shows of an input: inverted after filtering, 0 with a wire break (R283). -/
def shownInput (s : State) (i : Nat) : Bool :=
  !s.bit FIO_IN_WB_IN 0 i && (s.bit FIO_FILT 0 i != s.flag FIO_IN_CFG_INVERT i)

/-- `FIO_IN` follows; a change with EVT_EN is an event at the sample instant `ts` (R285). -/
def showInput (i ts : Nat) (s : State) : State :=
  let v := shownInput s i
  if v = s.bit FIO_IN_IN 0 i then s else
  let s := s.putBit FIO_IN_IN 0 i v
  if s.flag FIO_IN_CFG_EVT_EN i then s.raise (3072 + i) 0 (some (ts, fioDom s)) else s

/-- 10 good toggles (R281). -/
def couplerGood (c : Nat) (s : State) : State :=
  if couplerBad s c then stages (setCoupler c false s) else s

/-- Every coupler fails together: loss of the island (R281). The inputs' filters stand at what reads 0, so that after the return an
input changes by FILT_N samples (R283). -/
def islandDown (s : State) : State :=
  if islandUp s then
    let s := overRange (fun i t => (t.putBit FIO_FILT 0 i (t.flag FIO_IN_CFG_INVERT i)).put FIO_AGREE i 0) 32 s
    let s := ((s.put FIO_STAT_ISL_UP 0 0).put FIO_IN_IN 0 0).raise 3109
    if s.get FIO_GATE 0 = 0 then enterSafe allOutputs s else s
  else s

/-- The island returns: every output is off, with SAFE set (R281). -/
def islandReturn (s : State) : State :=
  if islandUp s then s else
  let s := (((s.put FIO_STAT_ISL_UP 0 1).put FIO_OUT_FLT_SAFE 0 allOutputs).put FIO_NEWUP 0 allOutputs).put FIO_STAGE 0 0
  (stages (s.put FIO_LAST 0 0)).raise 3110

/-! ### Inputs (R282 to R285) -/

/-- The raw sample for a terminal voltage in mV (R283). -/
def rawSample (s : State) (i mv : Nat) : Bool :=
  let (hi, lo) := if s.get FIO_IN_CFG_TYPE i = 0 then (11000, 9000) else (8500, 7000)
  if hi < mv then true else if mv < lo then false else s.bit FIO_RAW 0 i

/-- A raw sample enters the filter (R283). -/
def filterSample (i mv : Nat) (s : State) : State :=
  let r := rawSample s i mv
  let s := s.putBit FIO_RAW 0 i r
  if r = s.bit FIO_FILT 0 i then s.put FIO_AGREE i 0 else
  let n := s.get FIO_AGREE i + 1
  if max 1 (s.get FIO_IN_CFG_FILT_N i) ≤ n then (s.putBit FIO_FILT 0 i r).put FIO_AGREE i 0 else s.put FIO_AGREE i (min n 15)

/-- An input's current in µA is judged with WB_EN = 1 (R284). -/
def breakSample (i ua : Nat) (s : State) : State :=
  if !s.flag FIO_IN_CFG_WB_EN i then s else
  let n := max 1 (s.get FIO_IN_CFG_WB_N i)
  if ua < 800 then
    let s := (s.put FIO_GOODS i 0).put FIO_BREAKS i (min 15 (s.get FIO_BREAKS i + 1))
    if n ≤ s.get FIO_BREAKS i ∧ s.bit FIO_IN_WB_IN 0 i = false then
      let s := (s.putBit FIO_IN_WB_IN 0 i true).sat FIO_CNT_WB_CNT 0
      let first := s.get FIO_IN_WBL_WBL 0 == 0
      let s := s.putBit FIO_IN_WBL_WBL 0 i true
      if first then s.raise 3104 else s
    else s
  else
    let s := (s.put FIO_BREAKS i 0).put FIO_GOODS i (min 15 (s.get FIO_GOODS i + 1))
    if n ≤ s.get FIO_GOODS i then s.putBit FIO_IN_WB_IN 0 i false else s

/-- The end of the present window, 20 µs after its start (R282). -/
def sampleInstant (s : State) : Nat := (s.get FIO_WINDOW 0 + 20000 * 256) % 2 ^ 40

/-- SAMPLE_PER, the nearest limit outside 50 to 1,000 µs. -/
def samplePer (s : State) : Nat := min 1000 (max 50 (s.get FIO_CTRL_SAMPLE_PER 0))

/-- A sample window ends (R282 to R284); an input whose coupler failed holds, and with the island lost all read 0. -/
def sampleWindow (mv ua : List Nat) (s : State) : State :=
  if s.flag FIO_CTRL_EN 0 && s.reached (fioDom s) (sampleInstant s) then
    let ts := sampleInstant s
    let s := if islandUp s then
        overRange (fun i t =>
          if couplerBad t i then t
          else showInput i ts (breakSample i (ua.getD i 0) (filterSample i (mv.getD i 0) t))) 32 s
      else s
    s.put FIO_WINDOW 0 (s.get FIO_WINDOW 0 + samplePer s * 256000)
  else s

/-- A write to `FIO_CTRL` (R282, R288). -/
def fioCtrlWrite (q : Requester) (v : Nat) (s : State) : State :=
  let was := s.flag FIO_CTRL_EN 0
  let s := s.writeFlds q (fioAddr 0) 0 v [FIO_CTRL_DOM, FIO_CTRL_LOCK]
  let s := if was then s else s.put FIO_CTRL_SAMPLE_PER 0 (bitsOf v 8 10)
  if bitOf v 0 then
    (if was then s else (s.put FIO_CTRL_EN 0 1).put FIO_WINDOW 0 (s.get FIO_SBASE_SBASE 0 * 256))
  else enterSafe allOutputs (s.put FIO_CTRL_EN 0 0)

/-- A write to `FIO_SBASE`: ignored while EN = 1. -/
def fioSbaseWrite (v : Nat) (s : State) : State := if s.flag FIO_CTRL_EN 0 then s else s.put FIO_SBASE_SBASE 0 v

/-- `FIO_IN_SNAP` takes `FIO_IN` at a boundary (R285). -/
def fioSnap (s : State) : State := s.put FIO_IN_SNAP_IN 0 (s.get FIO_IN_IN 0)

/-! ### Sequences (R293 to R299) -/

/-- Event j of sequence k (R300). -/
def seqEvent (k j : Nat) (s : State) : State := s.raise (3152 + 4 * k + j)

def isAdcSeq (k : Nat) : Bool := decide (8 ≤ k)
def seqMaxN (s : State) (k : Nat) : Nat := max 1 (s.get MKC_SEQ_N_MAXN k)
def seqSlots (s : State) (k : Nat) : Nat := 2 ^ min 8 (max 2 (s.get MKC_SEQ_RING_LOG2 k))
def seqSlotBytes (s : State) (k : Nat) : Nat := 256 * s.get MKC_SEQ_RING_SLOT_K k
/-- The channels of CHMASK (R295). -/
def seqChans (s : State) (k : Nat) : List Nat := (List.range 8).filter (fun c => s.bit MKC_SEQ_CFG_MASK k c)
/-- A free slot beside `used` claimed ones (R296). -/
def seqFree (s : State) (k used : Nat) : Bool := decide (s.get MKC_SEQ_PTR_COUNT k + used < seqSlots s k)
/-- Soundboard offset of the slot claimed by the running sequence (R296). -/
def seqSlot (s : State) (k : Nat) : Nat :=
  64 * s.get MKC_SEQ_RING_BASE k +
    (s.get MKC_SEQ_PTR_HEAD k + s.get MKC_SEQ_PTR_COUNT k) % seqSlots s k * seqSlotBytes s k
/-- 1.25 ns units in 1/256 ns. -/
def seqWindow (s : State) (k : Nat) : Nat := s.get MKC_SEQ_LEN_VALUE k * 320

/-- `a` lies at or after `b`, in 1/256 ns modulo 2^40. -/
def tsFrom (a b : Nat) : Nat := (a + 2 ^ 40 - b % 2 ^ 40) % 2 ^ 40

/-- A trigger is logged with its action: 0 QUEUED, 1 DISCARDED, 2 RESTARTED, 3 NO_SLOT (R298). -/
def seqLog (k ts action : Nat) (s : State) : State :=
  let h := s.get MKC_LOG_PTR_HEAD k
  let n := s.get MKC_LOG_PTR_COUNT k
  let e := 16 * k + (h + n) % 16
  let s := ((s.put MKC_LOG_NS e (ts / 256)).put MKC_LOG_FRAC e (ts % 256)).put MKC_LOG_ACTION e action
  let s := if n = 16 then (s.put MKC_LOG_PTR_HEAD k (h + 1)).sat MKC_LOG_PTR_LOST k else s.put MKC_LOG_PTR_COUNT k (n + 1)
  if s.flag SEQ_LOGGED k then s else seqEvent k 1 (s.put SEQ_LOGGED k 1)

/-- A trigger without a free slot (R297). -/
def seqNoSlot (k ts : Nat) (s : State) : State := seqEvent k 3 ((seqLog k ts 3 s).sat MKC_SEQ_CNT_NO_SLOT k)

/-- A trigger is accepted and claims the next slot; `late` for one that waited until after its start (R293, R297). -/
def seqAccept (k ts : Nat) (waited : Bool) (s : State) : State :=
  let start := (ts + s.get MKC_SEQ_DELAY_VALUE k * 320) % 2 ^ 40
  let late := waited && s.reached (mkcDom s) start && decide (s.now (mkcDom s) ≠ start)
  let s := (s.put SEQ_TRIG k ts).put SEQ_START k (if late then s.now (mkcDom s) else start)
  let s := (s.putFlag SEQ_LATE k late).put SEQ_OVR k 0
  let s := ((s.put SEQ_ENTRIES k 0).put SEQ_TAKEN k 0).put SEQ_WRITTEN k 0
  let s := (s.put SEQ_EDGES k 0).put SEQ_NUM k (s.get SEQ_NUM k + 1)
  (s.sat MKC_SEQ_CNT_TRIGGERS k).put MKC_SEQ_STAT_STATE k 1

/-- A trigger of an idle sequence, or one that leaves pending (R296, R297). -/
def seqOffer (k ts : Nat) (waited : Bool) (s : State) : State :=
  if seqFree s k 0 then seqAccept k ts waited s else seqNoSlot k ts s

/-- The END of a header (R296): the window's end or the last entry of a mark sequence, the last sample instant of an ADC
sequence; open where none of these has come. -/
def seqEndTs (s : State) (k status : Nat) : Nat × State :=
  if isAdcSeq k then (if s.get SEQ_WRITTEN k = 0 then (s.fresh % 2 ^ 40, s.used) else (s.get SEQ_END k, s))
  else if seqMaxN s k ≤ s.get SEQ_ENTRIES k then (s.get SEQ_END k, s)
  else if status = 0 then ((s.get SEQ_START k + seqWindow s k) % 2 ^ 40, s)
  else (s.fresh % 2 ^ 40, s.used)

/-- The START of a header (R296), open for a sequence that ended before it started. -/
def seqStartTs (s : State) (k : Nat) : Nat × State :=
  if s.get MKC_SEQ_STAT_STATE k = 2 ∧ (isAdcSeq k = false ∨ s.get SEQ_TAKEN k ≠ 0) then (s.get SEQ_START k, s)
  else (s.fresh % 2 ^ 40, s.used)

/-- A running sequence completes with STATUS: its header, COUNT and MKC_SEQ_DONE (R296). -/
def seqFinish (k status : Nat) (s : State) : State :=
  let (start, s) := seqStartTs s k
  let (stop', s) := seqEndTs s k status
  let b (F : Fld) : Nat := s.get F k
  let hit := !isAdcSeq k && decide (seqMaxN s k ≤ b SEQ_ENTRIES)
  let w0 := status + 4 * b SEQ_LATE + (if hit then 8 else 0) + 16 * b SEQ_OVR + b SEQ_ENTRIES * 2 ^ 16
  let ts (t : Nat) : List Byte := toBytes 4 (t / 256) ++ toBytes 4 (t % 256)
  let bs := toBytes 4 w0 ++ toBytes 4 (b SEQ_NUM) ++ ts (b SEQ_TRIG) ++ ts start ++ ts stop'
  let s := soundboardWrite (seqSlot s k) bs s
  let s := { s with adc := s.adc.map (fun (x : AdcSample) => { x with seqs := x.seqs.erase k }) }
  seqEvent k 0 ((s.put MKC_SEQ_PTR_COUNT k (s.get MKC_SEQ_PTR_COUNT k + 1)).put MKC_SEQ_STAT_STATE k 0)

/-- A trigger reaches a sequence (R293, R297). -/
def seqTrigger (k ts : Nat) (s : State) : State :=
  if !s.flag MKC_SEQ_CFG_EN k then s
  else if s.get MKC_SEQ_STAT_STATE k = 0 then seqOffer k ts false s
  else
    let s := s.put SEQ_OVR k 1
    let discard (s : State) : State := (seqLog k ts 1 s).sat MKC_SEQ_CNT_DISCARDED k
    match s.get MKC_SEQ_CFG_POLICY k with
    | 1 => discard s
    | 2 =>
      if seqFree s k 1 then
        let s := seqEvent k 2 (seqFinish k 1 s)
        seqAccept k ts false ((seqLog k ts 2 s).sat MKC_SEQ_CNT_RESTARTS k)
      else seqNoSlot k ts s
    | _ =>
      if s.flag MKC_SEQ_STAT_PEND k then discard s
      else seqLog k ts 0 ((s.put MKC_SEQ_STAT_PEND k 1).put SEQ_PEND_TS k ts)

/-- A pending trigger leaves pending at the completion of the running sequence (R297). -/
def seqNext (k : Nat) (s : State) : State :=
  if s.flag MKC_SEQ_STAT_PEND k then seqOffer k (s.get SEQ_PEND_TS k) true (s.put MKC_SEQ_STAT_PEND k 0) else s

/-- STOP, or EN written 0: a running sequence ends STOPPED, and a pending trigger is discarded (R299). -/
def seqStop (k : Nat) (s : State) : State :=
  let s := if s.get MKC_SEQ_STAT_STATE k = 0 then s else seqFinish k 2 s
  if s.flag MKC_SEQ_STAT_PEND k then (s.put MKC_SEQ_STAT_PEND k 0).sat MKC_SEQ_CNT_DISCARDED k else s

/-- The wait for a start ends (R293). -/
def seqStart (k : Nat) (s : State) : State :=
  if s.get MKC_SEQ_STAT_STATE k = 1 ∧ s.reached (mkcDom s) (s.get SEQ_START k) = true then s.put MKC_SEQ_STAT_STATE k 2 else s

/-- A sequence that has all it records completes, and a pending trigger is accepted (R294 to R297). -/
def seqComplete (k : Nat) (s : State) : State :=
  let s := seqStart k s
  let done := if isAdcSeq k then decide (seqMaxN s k ≤ s.get SEQ_WRITTEN k)
    else decide (seqMaxN s k ≤ s.get SEQ_ENTRIES k) ||
      (seqWindow s k != 0 && s.reached (mkcDom s) ((s.get SEQ_START k + seqWindow s k) % 2 ^ 40))
  if s.get MKC_SEQ_STAT_STATE k = 2 ∧ done = true then seqNext k (seqFinish k 0 s) else s

/-- Why EN = 1 is refused (R299). -/
def seqBad (s : State) (k : Nat) : Bool :=
  let area := if isAdcSeq k then 2 * (seqChans s k).length * seqMaxN s k else 8 * seqMaxN s k
  !s.areaReserved (64 * s.get MKC_SEQ_RING_BASE k) (seqSlots s k * seqSlotBytes s k) ||
    decide (seqSlotBytes s k < 32 + area) ||
    (if isAdcSeq k then (seqChans s k).isEmpty else s.get MKC_SEQ_CFG_MASK k == 0) ||
    ((isAdcSeq k || s.get MKC_SEQ_CFG_TRIG k == 3) && !s.flag MKC_CTRL_ADC_EN 0)

/-- The configuration fields of MKC_SEQ_CFG. -/
def seqCfgFlds : List Fld := [MKC_SEQ_CFG_TRIG, MKC_SEQ_CFG_TSEL, MKC_SEQ_CFG_POLICY, MKC_SEQ_CFG_MASK]

/-- A write to `MKC_SEQ_CFG` (R293, R299). While EN = 1 only EN = 0, STOP and SW_TRIG act; a write that would change another
field, or has none of these three, is ignored and sets WR_IGN. -/
def seqCfgWrite (k v : Nat) (s : State) : State :=
  let en := bitOf v 9
  let s :=
    if s.flag MKC_SEQ_CFG_EN k then
      let acts := !en || bitOf v 10 || bitOf v 11
      let s := if acts && seqCfgFlds.all (fun F => s.get F k == bitsOf v F.lo F.w) then s else s.put MKC_SEQ_STAT_WR_IGN k 1
      if en then s else (seqStop k s).put MKC_SEQ_CFG_EN k 0
    else
      let s := s.setFlds k v seqCfgFlds
      if !en then s
      else if seqBad s k then s.put MKC_SEQ_STAT_CFG_ERR k 1
      else s.put MKC_SEQ_CFG_EN k 1
  let s := if bitOf v 11 then seqStop k s else s
  if bitOf v 10 && s.get MKC_SEQ_CFG_TRIG k == 1 then seqTrigger k (s.now (mkcDom s)) s else s

/-- MKC_SEQ_CFG as it stands. -/
def seqCfgWord (s : State) (k : Nat) : Nat :=
  ((MKC_SEQ_CFG_EN :: seqCfgFlds).map (fun (F : Fld) => s.get F k % 2 ^ F.w * 2 ^ F.lo)).sum

/-- A write of another configuration register of a sequence: only while EN = 0 (R299). -/
def seqConfigured (k : Nat) (f : State → State) (s : State) : State :=
  if s.flag MKC_SEQ_CFG_EN k then s.put MKC_SEQ_STAT_WR_IGN k 1 else f s

/-- Software acknowledges slots (R296; the rules on N of 10 R255). -/
def seqAck (k n : Nat) (s : State) : State :=
  let count := s.get MKC_SEQ_PTR_COUNT k
  if n = 0 ∨ count < n then s.put MKC_SEQ_PTR_ACK_ERR k 1
  else (s.put MKC_SEQ_PTR_HEAD k ((s.get MKC_SEQ_PTR_HEAD k + n) % seqSlots s k)).put MKC_SEQ_PTR_COUNT k (count - n)

/-- Software frees log entries (R298). -/
def seqLogAck (k n : Nat) (s : State) : State :=
  let count := s.get MKC_LOG_PTR_COUNT k
  if n = 0 ∨ count < n then s
  else (s.put MKC_LOG_PTR_HEAD k (s.get MKC_LOG_PTR_HEAD k + n)).put MKC_LOG_PTR_COUNT k (count - n)

/-! ### Mark inputs (R291, R294) -/

/-- Timestamp of entry i of the running mark sequence, 1/256 ns. -/
def markTs (s : State) (k i : Nat) : Nat :=
  let a := sbBase + seqSlot s k + 32 + 8 * i
  s.word a * 256 + s.word (a + 4) % 256

/-- A mark sequence records an edge in timestamp order, unless it has closed (R294). -/
def markRecord (k i ts : Nat) (rise : Bool) (s : State) : State :=
  let start := s.get SEQ_START k
  let len := seqWindow s k
  let n := s.get SEQ_ENTRIES k
  let gone := tsFrom ts start
  if isAdcSeq k || s.get MKC_SEQ_STAT_STATE k == 0 || !s.bit MKC_SEQ_CFG_MASK k i || decide (seqMaxN s k ≤ n) ||
      decide (2 ^ 39 ≤ gone) || (len != 0 && decide (len ≤ gone)) then s
  else
    let at' := ((List.range n).filter (fun j => decide (tsFrom (markTs s k j) start ≤ gone))).length
    let base := seqSlot s k + 32
    let later := s.bytes (sbBase + base + 8 * at') (8 * (n - at'))
    let entry := toBytes 4 (ts / 256) ++ toBytes 4 (ts % 256 + i * 256 + (if rise then 4096 else 0))
    let s := soundboardWrite (base + 8 * at') (entry ++ later) s
    let last := if at' = n then ts else s.get SEQ_END k
    (s.put SEQ_ENTRIES k (n + 1)).put SEQ_END k last

/-- A counted edge reaches a sequence: as an entry, then as a trigger, then as an entry of what the trigger began. -/
def markSeq (i ts : Nat) (rise : Bool) (k : Nat) (s : State) : State :=
  let s := markRecord k i ts rise s
  if s.get MKC_SEQ_CFG_TRIG k = 2 ∧ s.get MKC_SEQ_CFG_TSEL k = i then
    let was := s.get SEQ_NUM k
    let s := seqTrigger k ts s
    if s.get SEQ_NUM k = was then s else markRecord k i ts rise s
  else s

/-- An edge of mark input i whose new level held for `held` × 1.25 ns; it counts when that passes the glitch filter (R291). -/
def markEdge (i ts : Nat) (rise : Bool) (held : Nat) (s : State) : State :=
  if held < s.get MKC_IN_CFG_GLITCH i then s
  else if bitOf (s.get MKC_IN_CFG_EDGE i) (if rise then 0 else 1) then
    let s := ((s.put MKC_IN_TS_NS i (ts / 256)).put MKC_IN_TS_FRAC i (ts % 256)).putFlag MKC_IN_TS_RISE i rise
    let s := if s.flag MKC_IN_CFG_EVT_EN i then s.raise (3136 + i) 0 (some (ts, mkcDom s)) else s
    overRange (markSeq i ts rise) 12 s
  else s

/-! ### The contrast ADC (R292, R295) -/

/-- Sequence k takes the sample at a sample-clock edge at `ts` (R295). -/
def adcTakes (s : State) (k ts : Nat) : Bool :=
  isAdcSeq k && s.get MKC_SEQ_STAT_STATE k == 2 && decide (tsFrom ts (s.get SEQ_START k) < 2 ^ 39) &&
    decide (s.get SEQ_TAKEN k < seqMaxN s k) &&
    (s.get SEQ_TAKEN k == 0 || decide (max 1 (s.get MKC_SEQ_N_DIV k) ≤ s.get SEQ_EDGES k + 1))

/-- What a sample-clock edge does to sequence k; its first sample is its START (R296). -/
def adcEdge (ts k : Nat) (s : State) : State :=
  if adcTakes s k ts then
    let s := if s.get SEQ_TAKEN k = 0 then s.put SEQ_START k ts else s
    (s.put SEQ_TAKEN k (s.get SEQ_TAKEN k + 1)).put SEQ_EDGES k 0
  else s.put SEQ_EDGES k (min 15 (s.get SEQ_EDGES k + 1))

/-- A sample of all 8 channels (R292). -/
def adcSample (ts : Nat) (codes : List Nat) (s : State) : State :=
  if s.flag MKC_CTRL_ADC_EN 0 then
    let s := overRange (fun k t => if isAdcSeq k then seqStart k t else t) 12 s
    let seqs := (List.range 12).filter (fun k => adcTakes s k ts)
    let s := overRange (fun k t => if isAdcSeq k then adcEdge ts k t else t) 12 s
    { s with adc := s.adc ++ [⟨ts, s.get CORE_COUNT 0, codes, seqs⟩] }
  else s

/-- Crossings of channel c by result `v` of the sample at `ts` (R292). -/
def adcCross (c v ts : Nat) (s : State) : State :=
  let thr := s.get MKC_ADC_THR_THR c
  let hyst := s.get MKC_ADC_THR_HYST c
  let en := s.get MKC_ADC_THR_CROSS_EN c
  let low := decide (v + hyst < thr)
  let rise := s.flag ADC_LOW c && decide (thr ≤ v)
  let fall := s.flag ADC_HIGH c && decide (v + hyst ≤ thr)
  let s := if low then s.put ADC_LOW c 1 else if thr ≤ v then s.put ADC_LOW c 0 else s
  let s := if v + hyst ≤ thr then s.put ADC_HIGH c 0 else if thr < v then s.put ADC_HIGH c 1 else s
  if (rise && bitOf en 0) || (fall && bitOf en 1) then
    overRange (fun k t => if t.get MKC_SEQ_CFG_TRIG k = 3 ∧ t.get MKC_SEQ_CFG_TSEL k = c then seqTrigger k ts t else t) 12
      (s.raise (3200 + c) 0 (some (ts, mkcDom s)))
  else s

/-- Sequence k writes the entries of a sample (R295). -/
def adcWrite (k : Nat) (x : AdcSample) (s : State) : State :=
  let cs := seqChans s k
  let n := s.get SEQ_ENTRIES k
  let s := soundboardWrite (seqSlot s k + 32 + 2 * n) (cs.flatMap (fun c => toBytes 2 (x.codes.getD c 0 % 2 ^ 14))) s
  ((s.put SEQ_ENTRIES k (n + cs.length)).put SEQ_WRITTEN k (s.get SEQ_WRITTEN k + 1)).put SEQ_END k x.ts

/-- The oldest sample's result is ready, 500 ns (400 core clock cycles) after its instant (R292). A sequence whose last result it is
completes, and its pending trigger is accepted, before a crossing of this result is judged (R295, R297). -/
def adcResult (s : State) : State :=
  match s.adc with
  | [] => s
  | x :: rest =>
    if 400 ≤ s.get CORE_COUNT 0 - x.cycle then
      let s := { s with adc := rest }
      let s := overList (fun k t => seqComplete k (adcWrite k x t)) x.seqs s
      overRange (fun c t =>
        let v := x.codes.getD c 0 % 2 ^ 14
        adcCross c v x.ts (t.put MKC_ADC_LAST_VALUE c v)) 8 s
    else s

/-- The instant at which domain `d` showed `t`, which is near, as domain `m` shows it, 1/256 ns. -/
def inDomain (s : State) (d m t : Nat) : Nat := if d = m then t else (s.now m + 2 ^ 40 - elapsed t (s.now d)) % 2 ^ 40

/-- The boundary at `t` of the line domain triggers sequences with TRIG = 4; their starts are matched in the block's own domain
(R293). -/
def seqBoundary (t : Nat) (s : State) : State :=
  let ts := inDomain s (s.get LIM_CYC_CTRL_DOM 0) (mkcDom s) t
  overRange (fun k t => if t.get MKC_SEQ_CFG_TRIG k = 4 then seqTrigger k ts t else t) 12 s

/-! ### The commands' meanings -/

/-- COUPLER_FAILURE (R281): couplers of inputs 0 to 31, then of outputs 0 to 15. -/
def execCouplerFailure (c : Fin 48) (s : State) : Result := .next (couplerFail c s)

/-- COUPLER_RECOVERY (R281). -/
def execCouplerRecovery (c : Fin 48) (s : State) : Result := .next (couplerGood c s)

/-- FIO_ISLAND_DOWN (R281). -/
def execFioIslandDown (s : State) : Result := .next (islandDown s)

/-- FIO_ISLAND_UP (R281). -/
def execFioIslandUp (s : State) : Result := .next (islandReturn s)

/-- FIO_SAMPLE_WINDOW (R282): the inputs' terminal voltages in mV and currents in µA. -/
def execFioSampleWindow (mv ua : List (BitVec 16)) (s : State) : Result :=
  .next (sampleWindow (mv.map BitVec.toNat) (ua.map BitVec.toNat) s)

/-- FIO_OUT_WRITE (R286). -/
def execFioOutWrite (q : Requester) (v : BitVec 16) (s : State) : Result :=
  .next (s.gate q (fioAddr 0x40) (fioOutWrite v.toNat))

/-- OUTPUT_UPDATE_INSTANT (R286). -/
def execOutputUpdateInstant (s : State) : Result := .next (fioUpdate s)

/-- SHORT_LATCH_OFF (R287). -/
def execShortLatchOff (j : Limiting) (s : State) : Result := .next (shortLatch j.output j.us.toNat j.hot s)

/-- SHORT_RETRY (R287). -/
def execShortRetry (j : Fin 16) (s : State) : Result := .next (shortRetry j s)

/-- FIO_SHORT_CLEAR (R287). -/
def execFioShortClear (q : Requester) (mask : BitVec 16) (s : State) : Result :=
  .next (s.gate q (fioAddr 0x48) (fioShortClear mask.toNat))

/-- OPEN_LOAD (R287). -/
def execOpenLoad (j : Fin 16) (s : State) : Result := .next (openLoad j s)

/-- FIO_WDOG_EXPIRY (R288). -/
def execFioWdogExpiry (s : State) : Result := .next (fioWatchdog s)

/-- FIO_WDOG_KICK (R288). -/
def execFioWdogKick (q : Requester) (s : State) : Result := .next (s.gate q (fioAddr 0xC) fioKick)

/-- FIO_EN_WRITE (R288). -/
def execFioEnWrite (q : Requester) (v : Word) (s : State) : Result :=
  .next (s.gate q (fioAddr 0) (fioCtrlWrite q v.toNat))

/-- FIO_SAFE_CLEAR (R288). -/
def execFioSafeClear (q : Requester) (mask : BitVec 16) (s : State) : Result :=
  .next (s.gate q (fioAddr 0x48) (fioSafeClear mask.toNat))

/-- MARK_EDGE (R291): the edge's timestamp in 1/256 ns. -/
def execMarkEdge (i : Fin 16) (ts : BitVec 40) (level : MarkLevel) (s : State) : Result :=
  .next (markEdge i ts.toNat level.rise level.held.toNat s)

/-- ADC_SAMPLE (R292): the sample's timestamp in 1/256 ns and what the 8 channels convert to. -/
def execAdcSample (ts : BitVec 40) (codes : List (BitVec 14)) (s : State) : Result :=
  .next (adcSample ts.toNat (codes.map BitVec.toNat) s)

/-- ADC_RESULT (R292). -/
def execAdcResult (s : State) : Result := .next (adcResult s)

/-- SEQ_SW_TRIG (R293). -/
def execSeqSwTrig (q : Requester) (k : Fin 12) (s : State) : Result :=
  .next (s.gate q (seqAddr 0 k) (fun s => seqCfgWrite k (seqCfgWord s k + 2 ^ 10) s))

/-- SEQ_START (R293). -/
def execSeqStart (k : Fin 12) (s : State) : Result := .next (seqStart k s)

/-- SEQ_COMPLETION (R296). -/
def execSeqCompletion (k : Fin 12) (s : State) : Result := .next (seqComplete k s)

/-- MKC_SEQ_ACK (R296). -/
def execMkcSeqAck (q : Requester) (k : Fin 12) (n : BitVec 9) (s : State) : Result :=
  .next (s.gate q (seqAddr 0x18 k) (seqAck k n.toNat))

/-- MKC_LOG_ACK (R298). -/
def execMkcLogAck (q : Requester) (k : Fin 12) (n : BitVec 9) (s : State) : Result :=
  .next (s.gate q (seqAddr 0x2C k) (seqLogAck k n.toNat))

/-- MKC_SEQ_EN_WRITE (R299): a write of the whole register. -/
def execMkcSeqEnWrite (q : Requester) (k : Fin 12) (v : Word) (s : State) : Result :=
  .next (s.gate q (seqAddr 0 k) (seqCfgWrite k v.toNat))

/-- MKC_SEQ_STOP (R299). -/
def execMkcSeqStop (q : Requester) (k : Fin 12) (s : State) : Result :=
  .next (s.gate q (seqAddr 0 k) (fun s => seqCfgWrite k (seqCfgWord s k + 2 ^ 11) s))

end Sys2Proof.Machine
end

