-- ==== Sys2Proof/Machine/Evt.lean ====
section
/-! DEFINITION. The event matrix (13 R301 to R307): delivery of raised events to core inputs, MSI-X messages and their
moderation, acknowledgement and enabling of the event logs. Records are written in Machine/Xlt.lean. -/

namespace Sys2Proof.Machine

/-! ### Internal cells -/

/-- One more than the core clock count at which the event that last set an input was raised (R303): input i of core n
(32 the control core) at 64 n + i. -/
def INPUT_AT : Fld := ⟨1346, 0, 64, .int, 0, .reset, .none⟩
/-- MSI-X (01 R25, 13 R305): vector v's table entry and mask bit, and MSI-X Enable and Function Mask of function f. -/
def MSIX_ADDR : Fld := ⟨1347, 0, 64, .int, 0, .reset, .none⟩
def MSIX_DATA : Fld := ⟨1348, 0, 32, .int, 0, .reset, .none⟩
def MSIX_MASK : Fld := ⟨1349, 0, 1, .int, 1, .reset, .none⟩
def MSIX_EN : Fld := ⟨1350, 0, 1, .int, 0, .reset, .none⟩
def MSIX_FMASK : Fld := ⟨1351, 0, 1, .int, 0, .reset, .none⟩
/-- Records of log l dropped since the last one written (R306). -/
def LOG_DROPPED : Fld := ⟨1352, 0, 16, .int, 0, .reset, .none⟩

/-! ### Delivery (R301 to R303) -/

/-- Events of one cycle set an input's pending bit once; `k` is the core, `cycle` when the event was raised (R303). -/
def coreInput (k i cycle : Nat) (s : State) : State :=
  if s.get INPUT_AT (64 * k + i) = cycle + 1 then s else
  let s := s.put INPUT_AT (64 * k + i) (cycle + 1)
  if k = 32 then ccInput i s else crsInput k i s

/-- One route of an event to a core input (R301, R303); its MSI-X vector has collected it when it was raised. -/
def deliverRoute (r : Route) (cycle : Nat) (s : State) : State :=
  match r.kind with
  | 1 =>
    if 56 ≤ r.input then s
    else if s.domOn r.course then coreInput r.course r.input cycle s
    else s.sat EVT_CNT_ROUTE_OFF 0
  | 2 => coreInput 32 r.input cycle s
  | _ => s

/-- A record joins those that wait: records of one log and one cycle are written in ascending source number (R303). -/
def queueRec (x : LogRec) : List LogRec → List LogRec
  | [] => [x]
  | y :: ys =>
    if y.log = x.log ∧ y.cycle = x.cycle ∧ x.src < y.src then x :: y :: ys
    else y :: queueRec x ys

/-- A record of an event for the log of one of its routes (R301, R306). -/
def addRec (e : Raised) (log : Nat) (stamp : Nat × Nat) (s : State) : State :=
  if log < 16 then { s with logRecs := queueRec ⟨log, e.src, e.detail, stamp.1, stamp.2, e.cycle⟩ s.logRecs } else s

/-- The oldest raised event is delivered, 2 core clock cycles after it was raised (R302); none on the fatal-fault path
(19 R433). -/
def eventDelivery (s : State) : State :=
  if s.get FATAL_PATH 0 ≠ 0 then s else
  match s.events with
  | [] => s
  | e :: rest =>
    if e.cycle + 2 ≤ s.get CORE_COUNT 0 then
      let s := { s with events := rest }
      let s := deliverRoute e.routeB e.cycle (deliverRoute e.routeA e.cycle s)
      let s := addRec e e.routeA.log e.stampA s
      if e.routeB.log = e.routeA.log then s else addRec e e.routeB.log e.stampB s
    else s

/-- The requesters that may write the route of a source (R304): the control core, and for sources from 256 on the physical
function. -/
def routeWriter (q : Requester) (src : Nat) : Bool :=
  match q with
  | .cc => true
  | .pf => decide (256 ≤ src)
  | _ => false

/-- The fields of a route register. -/
def routeFlds : List Fld := [EVT_ROUTE_KIND_A, EVT_ROUTE_INPUT_A, EVT_ROUTE_COURSE_A, EVT_ROUTE_VECTOR_A, EVT_ROUTE_LOG_A,
  EVT_ROUTE_KIND_B, EVT_ROUTE_INPUT_B, EVT_ROUTE_COURSE_B, EVT_ROUTE_VECTOR_B, EVT_ROUTE_LOG_B]

/-- A write of a route. -/
def routeSet (src v : Nat) (s : State) : State := s.setFlds src v routeFlds

def evtAddr (off : Nat) : Nat := 0x40D0_0000 + off

/-- A write of `EVT_ROUTE`(src) by a requester (R304). -/
def routeWrite (q : Requester) (src v : Nat) (s : State) : State :=
  if routeWriter q src then routeSet src v s else s.refuse q (evtAddr (8 * src)) (kind := 1)

/-! ### MSI-X (R305, 14 R324) -/

/-- The function that owns a device vector: the lowest VF whose range holds it, else the PF (14 R324). -/
def vecOwner (s : State) (v : Nat) : Nat :=
  match (List.range 16).find? (fun f => f != 0 && decide (s.get HIF_VF_CFG_VEC_BASE f ≤ v) &&
      decide (v < s.get HIF_VF_CFG_VEC_BASE f + min 128 (s.get HIF_VF_CFG_VEC_N f))) with
  | some f => f
  | none => 0

/-- A mask holds the vector's messages (R305). -/
def vecMasked (s : State) (v : Nat) : Bool := s.flag MSIX_MASK v || s.flag MSIX_FMASK (vecOwner s v)

/-- The message of a vector leaves. -/
def vecSend (v : Nat) (s : State) : State := s.emit (.msix (vecOwner s v) (s.get MSIX_ADDR v) (s.get MSIX_DATA v))

/-- A due message is sent, held by a mask, or dropped while MSI-X Enable is 0 (R305). That of a boundary leaves once the boundary's own
core clock cycle is over. -/
def msixDue (v : Nat) (s : State) : State :=
  if s.get VEC_DUE v = 0 ∨ (s.get VEC_DUE v = 1 ∧ s.vecAtBoundary v = true) then s
  else if !s.flag MSIX_EN (vecOwner s v) then (s.put VEC_DUE v 0).put VEC_K v 0
  else if vecMasked s v then (s.put VEC_DUE v 0).put VEC_PEND v 1
  else vecSend v (s.put VEC_DUE v (s.get VEC_DUE v - 1))

/-- TIME_US have passed since the first collected event; a microsecond is 800 core clock cycles (R305). -/
def msixTime (v : Nat) (s : State) : State :=
  let us := s.get EVT_VEC_MOD_TIME_US v
  if us ≠ 0 ∧ s.get VEC_K v ≠ 0 ∧ us * 800 ≤ s.get CORE_COUNT 0 - s.get VEC_FIRST v then s.vecDue v else s

/-- A boundary while cycling runs: vectors with BOUNDARY = 1 have a message due for what they collected (R305). -/
def msixBoundary (s : State) : State :=
  let s := s.put BND_COUNT 0 (s.get CORE_COUNT 0 + 1)
  overList (fun (e : Nat × Nat) (t : State) => if t.flag EVT_VEC_MOD_BOUNDARY e.1 then t.vecBoundary e.1 else t) (s.listed VEC_K) s

/-- A pending vector whose masks are clear sends its message (R305). -/
def msixFlush (v : Nat) (s : State) : State :=
  if s.flag VEC_PEND v && !vecMasked s v then
    let s := s.put VEC_PEND v 0
    if s.flag MSIX_EN (vecOwner s v) then vecSend v s else s
  else s

/-- A vector's mask bit is written. -/
def vecMaskWrite (v : Nat) (m : Bool) (s : State) : State := msixFlush v (s.putFlag MSIX_MASK v m)

/-- Enable and Function Mask of a function are written. -/
def msixControl (f : Nat) (en mask : Bool) (s : State) : State :=
  let s := (s.putFlag MSIX_EN f en).putFlag MSIX_FMASK f mask
  overList (fun (e : Nat × Nat) (t : State) => if vecOwner t e.1 = f then msixFlush e.1 t else t) (s.listed VEC_PEND) s

/-- Every vector of a function is masked again (14 R338). -/
def msixMaskAll (f : Nat) (s : State) : State :=
  overList (fun (e : Nat × Nat) (t : State) => if vecOwner t e.1 = f then t.put MSIX_MASK e.1 1 else t) (s.listed MSIX_MASK) s

/-! ### Event logs (R306, R307) -/

/-- Records in log l's ring. -/
def logSize (s : State) (l : Nat) : Nat := 2 ^ min 14 (max 4 (s.get EVT_LOG_CFG_LOG2 l))

/-- A record is dropped (R307). -/
def logDrop (l : Nat) (s : State) : State := (s.sat LOG_DROPPED l).sat EVT_CNT_LOG_LOST 0

/-- The bytes of a record (R306). -/
def logBytes (s : State) (x : LogRec) : List Byte :=
  toBytes 4 (x.src + s.get LOG_DROPPED x.log * 2 ^ 16) ++ toBytes 4 (x.ts / 256) ++
    toBytes 4 (x.ts % 256 + x.dom * 256) ++ toBytes 4 x.detail

/-- The record has been written: COUNT increments (R307). -/
def logWritten (l : Nat) (s : State) : State :=
  (s.put EVT_LOG_PTR_COUNT l (s.get EVT_LOG_PTR_COUNT l + 1)).put LOG_DROPPED l 0

/-- Where the next record of a log goes, from the ring's first address (R307). -/
def logPlace (s : State) (l : Nat) : Nat :=
  64 * s.get EVT_LOG_ADDR_ADDR l + 16 * ((s.get EVT_LOG_PTR_HEAD l + s.get EVT_LOG_PTR_COUNT l) % logSize s l)

/-- A record for a log in the Soundboard (R307). -/
def logSoundboard (x : LogRec) (s : State) : State :=
  let off := logPlace s x.log
  if decide (off + 16 ≤ 0x400_0000) && s.areaReserved off 16 then
    logWritten x.log (soundboardWrite off (logBytes s x) s)
  else logDrop x.log s

/-- Software acknowledges records (R307; the rules on N of 10 R255). -/
def logAck (l n : Nat) (s : State) : State :=
  let count := s.get EVT_LOG_PTR_COUNT l
  if n = 0 ∨ count < n then s.put EVT_LOG_PTR_ACK_ERR l 1
  else (s.put EVT_LOG_PTR_HEAD l ((s.get EVT_LOG_PTR_HEAD l + n) % logSize s l)).put EVT_LOG_PTR_COUNT l (count - n)

/-- A requester gives up what it waits for of its translations (R311, R316). -/
def xltForget (req : Nat) (s : State) : State :=
  { s with
    xltFaults := s.xltFaults.filter (fun f => f.who.req ≠ req)
    walks := s.walks.map (fun w => { w with waiters := w.waiters.filter (fun x => x.req ≠ req) }) }

/-- A write to `EVT_LOG_CFG`; a write of EN = 1 empties the log. What the log waited for of a translation is given up. -/
def logCfgWrite (l v : Nat) (s : State) : State :=
  let s := (xltForget (192 + l) s).setFlds l v [EVT_LOG_CFG_EN, EVT_LOG_CFG_LOC, EVT_LOG_CFG_LOG2, EVT_LOG_CFG_CTX, EVT_LOG_CFG_DOM]
  if bitOf v 0 then (s.put EVT_LOG_PTR_HEAD l 0).put EVT_LOG_PTR_COUNT l 0 else s

/-! ### The commands' meanings -/

/-- EVENT_DELIVERY (R302). -/
def execEventDelivery (s : State) : Result := .next (eventDelivery s)

/-- EVT_ROUTE_WRITE (R304). -/
def execEvtRouteWrite (q : Requester) (src : Fin 4096) (v : BitVec 64) (s : State) : Result :=
  .next (routeWrite q src v.toNat s)

/-- MSIX_MESSAGE_SEND (R305). -/
def execMsixMessageSend (v : Fin 2048) (s : State) : Result := .next (msixDue v s)

/-- MSIX_TIME_LIMIT (R305). -/
def execMsixTimeLimit (v : Fin 2048) (s : State) : Result := .next (msixTime v s)

/-- MSIX_UNMASK (R305): a vector's mask bit in its table entry, or without a vector the Function Mask of a function. -/
def execMsixUnmask (f : Fin 16) (v : Option (Fin 2048)) (s : State) : Result :=
  .next (match v with
    | some v => if vecOwner s v = f then vecMaskWrite v false s else s
    | none => msixControl f (s.flag MSIX_EN f) false s)

/-- EVT_LOG_ACK (R307). -/
def execEvtLogAck (q : Requester) (l : Fin 16) (n : BitVec 15) (s : State) : Result :=
  .next (s.gate q (evtAddr (0x3_0014 + 0x20 * l)) (logAck l n.toNat))

/-- EVT_LOG_ENABLE (R307): a write of the whole register. -/
def execEvtLogEnable (q : Requester) (l : Fin 16) (v : BitVec 16) (s : State) : Result :=
  .next (s.gate q (evtAddr (0x3_0000 + 0x20 * l)) (logCfgWrite l v.toNat))

end Sys2Proof.Machine
end

