-- ==== Sys2Proof/Machine/Trb.lean ====
section
/-! DEFINITION. The Transom (15): windows, beats of the far bus, posted writes and ordering, errors, locked sequences, and
the side-band lines. -/

namespace Sys2Proof.Machine

/-! ### Internal cells -/

/-- The lock: the core clock count at which TR_LOCK_N was asserted, and the window of its LDX (R348). -/
def TRB_LOCK_AT : Fld := ⟨1353, 0, 64, .int, 0, .reset, .none⟩
def TRB_LOCK_WIN : Fld := ⟨1354, 0, 4, .int, 0, .reset, .none⟩
/-- Side-band lines: the previous poll, and one more than the core clock count of the last poll (R349). -/
def TRB_SB_RAW : Fld := ⟨1355, 0, 8, .int, 0, .reset, .none⟩
def TRB_POLL_AT : Fld := ⟨1356, 0, 64, .int, 0, .reset, .none⟩

def trbAddr (off : Nat) : Nat := 0x4100_0000 + off

/-! ### Windows and units (R340, R342) -/

/-- The lowest-numbered window that covers a far address (R340). -/
def farWindow (s : State) (a : Nat) : Option Nat :=
  if !s.flag TRB_CFG_EN 0 then none else
  (List.range 8).find? (fun w => decide (s.get TRB_WIN_BASE w * 0x1_0000 ≤ a) &&
    decide (a < (s.get TRB_WIN_BASE w + s.get TRB_WIN_SIZE w) * 0x1_0000))

/-- Bytes of a unit of a window. -/
def winWidth (s : State) (w : Nat) : Nat :=
  match s.get TRB_WIN_CFG_WIDTH w with
  | 0 => 1
  | 1 => 2
  | _ => 4

/-- The lane of byte k of a unit (R342). -/
def winLane (s : State) (w k : Nat) : Nat := if s.flag TRB_WIN_CFG_BIG w then winWidth s w - 1 - k else k

/-- The address of the next byte of an access. -/
def TrbAccess.at' (x : TrbAccess) : Nat := (x.addr + x.done) % 2 ^ 32

/-- How many bytes the next beat of an access moves: the rest of its unit, or of the access. -/
def beatBytes (s : State) (w : Nat) (x : TrbAccess) : Nat :=
  min (winWidth s w - x.at' % winWidth s w) (x.len - x.done)

/-- The lanes of n bytes from byte k0 of a unit on, with the bytes. -/
def laneList (s : State) (w k0 n : Nat) : List Nat := (List.range n).map (fun i => winLane s w (k0 + i))

/-! ### Errors (R346) -/

/-- An error, or a refused access, is recorded while VALID is 0. -/
def trbRecord (req a kind : Nat) (write : Bool) (s : State) : State :=
  if s.flag TRB_ERR_VALID 0 then s else
  let s := ((s.put TRB_ERR_ADDR 0 a).put TRB_ERR_KIND 0 kind).putFlag TRB_ERR_WRITE 0 write
  (s.put TRB_ERR_REQ 0 (min req 33)).put TRB_ERR_VALID 0 1

/-- What ends for its requester: an answer on the outside, or a reply that a core or a stream takes. -/
def trbAnswer (x : TrbAccess) (error : Bool) (s : State) : State :=
  match x.answer with
  | some q =>
    if x.write && !error then s
    else if error then s.refuse q (0x1_0000_0000 + x.addr) 2
    else s.emit (.readData q (0x1_0000_0000 + x.addr) (ofBytes x.bytes))
  | none => if x.write && !x.lock then s else { s with trbDone := s.trbDone ++ [⟨x.req, x.addr, x.bytes, error⟩] }

/-! ### The lock (R347, R348) -/

def trbLocked (s : State) : Bool := s.flag TRB_STAT_LOCKED 0
def lockOwner (s : State) : Nat := s.get TRB_STAT_LOCK_OWNER 0

/-- A core's reservation is lost (08 R218). -/
def resvLost (k : Nat) (s : State) : State := { s with resvs := s.resvs.filter (fun r => r.core ≠ k) }

/-- The lock is released. -/
def unlock (s : State) : State := s.put TRB_STAT_LOCKED 0 0

/-! ### The far bus (R341 to R345) -/

/-- Whether an access may be performed now: one under a lock comes first, and accesses of others wait (R347). -/
def trbMay (s : State) (x : TrbAccess) : Bool := !x.aside && (!trbLocked s || lockOwner s == x.req)

/-- The access to be performed next (R345, R347). -/
def trbPick (s : State) : Option TrbAccess := s.trbQueue.find? (fun x => trbMay s x)

/-- The queue without its first element equal to `x`. -/
def trbTake (x : TrbAccess) (s : State) : State := { s with trbQueue := s.trbQueue.erase x }

/-- An entry of the write queue: a posted write; the write of an STX is not posted (R344, R348). -/
def TrbAccess.posted (x : TrbAccess) : Bool := x.write && !x.lock

/-- The entries held: the queued ones and the one being performed. -/
def trbHeld (s : State) : Nat := (s.trbNow.toList ++ s.trbQueue).countP (fun x => x.posted)
def trbCount (s : State) : State := s.put TRB_STAT_WQ_COUNT 0 (trbHeld s)

/-- The place in the order of arrival of the next access. -/
def trbSeq (s : State) : Nat := ((s.trbNow.toList ++ s.trbQueue).map (fun x => x.seq + 1)).foldl max 0

/-- An access joins those that wait, in order of arrival (R345). -/
def trbJoin (x : TrbAccess) (s : State) : State := { s with trbQueue := s.trbQueue ++ [{ x with seq := trbSeq s }] }

/-- A read that was sent back takes its place in the order of arrival again (R345). -/
def trbRejoin (x : TrbAccess) (s : State) : State :=
  { s with trbQueue := s.trbQueue.takeWhile (fun y => y.seq < x.seq) ++ x :: s.trbQueue.dropWhile (fun y => y.seq < x.seq) }

/-- A stalled access goes on when it is the first of its requester, a write once an entry of the queue is free (R344). -/
def trbAdmitOne (x : TrbAccess) (s : State) : State :=
  if s.trbWait.find? (fun y => y.req == x.req) == some x && (!x.posted || decide (trbHeld s < 32)) then
    trbJoin x { s with trbWait := s.trbWait.erase x }
  else s
def trbAdmit (s : State) : State := overList trbAdmitOne s.trbWait s

/-- An address phase begins the next beats of an access (R341, R343). -/
def addressPhase (w : Nat) (x : TrbAccess) (s : State) : State :=
  s.emit (.farPhase w x.at' x.write (trbLocked s))

/-- A burst goes on without an address phase (R343): on a synchronous window, not at a 1 KiB boundary, within the window,
and within BURST_MAX beats. -/
def burstGoesOn (s : State) (w prev : Nat) (x : TrbAccess) : Bool :=
  s.get TRB_WIN_CFG_MODE w == 0 && x.at' % 1024 != 0 && w == prev && x.beats != 0 &&
    decide (x.beats < max 1 (s.get TRB_WIN_CFG_BURST_MAX w))

/-- An access ends as an error of a kind (R346). -/
def trbLost (x : TrbAccess) (kind : Nat) (s : State) : State :=
  let s := trbRecord x.req x.at' kind x.write { s with trbNow := none }
  let s := if x.write then (s.sat TRB_CNT_WR_ERR 0).raise 3848 else (s.sat TRB_CNT_RD_ERR 0).raise 3849
  let s := trbAnswer x true s
  if x.lock && x.write then unlock s else s

/-- An LDX asserts the lock with its address phase; one that is issued again still holds it (R347, R348). -/
def lockAssert (x : TrbAccess) (w : Nat) (s : State) : State :=
  if x.lock && !x.write && !(trbLocked s && lockOwner s == x.req) then
    (((s.put TRB_STAT_LOCKED 0 1).put TRB_STAT_LOCK_OWNER 0 x.req).put TRB_LOCK_AT 0 (s.get CORE_COUNT 0)).put TRB_LOCK_WIN 0 w
  else s

/-- An access goes onto the far bus, or fails where no window covers it any more (R340, R347). -/
def trbBegin (x : TrbAccess) (s : State) : State :=
  let s := trbTake x s
  let x : TrbAccess := { x with since := s.get CORE_COUNT 0, beats := 0 }
  match farWindow s x.at' with
  | none => trbLost x 1 s
  | some w => addressPhase w x (lockAssert x w { s with trbNow := some x })

/-- An idle far bus takes the next read or write of an STX by itself, as many as fail at once; queued writes are performed by their
own step. -/
def trbNext : Nat → State → State
  | 0, s => s
  | n + 1, s => match s.trbNow with
    | some _ => s
    | none => match trbPick s with
      | some x => if x.posted then s else trbNext n (trbBegin x s)
      | none => s

/-- The bridge goes on: stalled accesses enter, and an idle far bus takes the next (R344, R345). -/
def trbKick (s : State) : State :=
  let s := trbAdmit s
  trbCount (trbNext s.trbQueue.length s)

/-- Accesses that waited for a lock go on when it is no longer held (R345). -/
def farWaits (s : State) : State := if s.trbQueue = [] then s else trbKick s

/-- The queued write directly behind a completed one continues its burst: the next entry of its chunk, or with WC_EN a
combined one of the same requester at the next byte of the same window (R343, R344). Reads that arrived earlier and were sent back
do not cut it. -/
def trbCombine (x : TrbAccess) (w : Nat) (s : State) : State :=
  match s.trbQueue.find? (fun y => x.seq < y.seq) with
  | some y =>
    if trbMay s y && y.posted && y.req == x.req && y.addr == (x.addr + x.len) % 2 ^ 32 && farWindow s y.addr == some w &&
        (y.chain || s.flag TRB_WIN_CFG_WC_EN w) then
      let y' : TrbAccess := { y with since := s.get CORE_COUNT 0, beats := x.beats }
      let s : State := { trbTake y s with trbNow := some y' }
      if burstGoesOn s w w y' then s else addressPhase w y' { s with trbNow := some { y' with beats := 0 } }
    else s
  | none => s

/-- The present access ends well (R344, R348): an STX releases the lock after its last beat. -/
def trbEnd (x : TrbAccess) (w : Nat) (s : State) : State :=
  let s := trbAnswer x false { s with trbNow := none }
  let s := if x.lock && x.write then unlock s else s
  trbKick (if x.posted then trbCombine x w s else s)

/-- The present access ends as an error of a kind, and the bridge goes on (R346). -/
def trbFail (x : TrbAccess) (kind : Nat) (s : State) : State := trbKick (trbLost x kind s)

/-- A beat of the present access completes with `data` on TR_AD, or with TR_ERR_N (R341, R342, R346). -/
def beatComplete (data : Nat) (err : Bool) (s : State) : State :=
  match s.trbNow with
  | none => s
  | some x =>
    match farWindow s x.at' with
    | none => trbFail x 1 s
    | some w =>
      if err then trbFail x 2 s else
      let n := beatBytes s w x
      let lanes := laneList s w (x.at' % winWidth s w) n
      let be := (lanes.map (fun l => 2 ^ l)).sum
      let out := (((x.bytes.drop x.done).take n).zip lanes).map (fun e => e.1.toNat * 256 ^ e.2)
      let s := s.emit (.farBeat w (x.at' / winWidth s w * winWidth s w) be (if x.write then out.sum else data) x.write)
      let got := if x.write then x.bytes else x.bytes ++ lanes.map (fun l => BitVec.ofNat 8 (data / 256 ^ l))
      let x : TrbAccess := { x with done := x.done + n, beats := x.beats + 1, bytes := got, since := s.get CORE_COUNT 0 }
      if x.len ≤ x.done then trbEnd x w s
      else
        match farWindow s x.at' with
        | none => trbFail x 1 s
        | some v =>
          if burstGoesOn s v w x then { s with trbNow := some x }
          else addressPhase v x { s with trbNow := some { x with beats := 0 } }

/-- RDY_TMO passes without the beat completing; the lock under which it ran is released (R341, R348). -/
def rdyTimeout (s : State) : State :=
  match s.trbNow with
  | none => s
  | some x =>
    match farWindow s x.at' with
    | none => s
    | some w =>
      let t := s.get TRB_WIN_CFG_RDY_TMO w
      if t ≠ 0 ∧ t * 800 ≤ s.get CORE_COUNT 0 - x.since then
        trbFail x 3 (if trbLocked s then lockBroken (lockOwner s) s else s)
      else s

/-- A read beat is answered with TR_RTY_N (R345). -/
def tryAgain (s : State) : State :=
  match s.trbNow with
  | none => s
  | some x =>
    if x.write || farWindow s x.at' == none then s else
    let s := s.sat TRB_CNT_RETRIES 0
    if s.get TRB_RETRY_RETRY_MAX 0 ≤ x.retries then trbFail x 4 s
    else
      let y : TrbAccess := { x with bytes := [], done := 0, beats := 0, retries := x.retries + 1, aside := true, since := s.get CORE_COUNT 0 }
      trbKick (trbRejoin y { s with trbNow := none })

/-- RETRY_GAP has passed for the oldest read that stands aside (R345). -/
def gapExpiry (s : State) : State :=
  let gap := max 1 (s.get TRB_RETRY_RETRY_GAP 0) * 800
  match s.trbQueue.find? (fun x => x.aside && decide (gap ≤ s.get CORE_COUNT 0 - x.since)) with
  | none => s
  | some x => trbKick { s with trbQueue := s.trbQueue.map (fun y => if y = x then { y with aside := false } else y) }

/-- An access is refused: no window covers its first byte, or the bridge is off (R340). -/
def trbRefused (s : State) (a : Nat) : Bool := farWindow s (a % 2 ^ 32) == none

/-- A read joins the accesses in order of arrival (R345), behind a stalled write of its requester. A further LDX of the lock's owner
releases the old lock (R348). -/
def trbRead (req : Nat) (answer : Option Requester) (a n : Nat) (lock : Bool) (s : State) : State :=
  let s := if lock && trbLocked s && lockOwner s == req then unlock s else s
  let x : TrbAccess := ⟨req, answer, a % 2 ^ 32, n, false, [], lock, false, 0, 0, 0, false, 0, 0⟩
  trbKick { s with trbWait := s.trbWait ++ [x] }

/-- The write queue has room for `n` entries of up to 64 bytes; a write that finds none waits in front of it (DEDUCED, log entry 197). -/
def trbRoom (s : State) (n : Nat) : Bool :=
  decide (trbHeld s + s.trbWait.countP (fun x => x.posted) + n ≤ 32)

/-- Bytes cut into entries of up to 64 bytes; the later ones continue the burst (R344). -/
def trbEntries (req a : Nat) (bs : List Byte) : List TrbAccess :=
  (List.range ((bs.length + 63) / 64)).map (fun k =>
    let part := (bs.drop (64 * k)).take 64
    ⟨req, none, (a + 64 * k) % 2 ^ 32, part.length, true, part, false, k != 0, 0, 0, 0, false, 0, 0⟩)

/-- A posted write enters the write queue, entry by entry; with the queue full its requester stalls until entries free (R344). -/
def trbWrite (req a : Nat) (bs : List Byte) (s : State) : State :=
  trbKick { s with trbWait := s.trbWait ++ trbEntries req a bs }

/-- The write of an STX under its lock; the core waits for it (R348). -/
def trbStore (req a : Nat) (bs : List Byte) (s : State) : State :=
  trbKick { s with trbWait := s.trbWait ++ [⟨req, none, a % 2 ^ 32, bs.length, true, bs, true, false, 0, 0, 0, false, 0, 0⟩] }

/-- The next queued write is performed (R344). -/
def queuedWrite (s : State) : State :=
  match s.trbNow with
  | some _ => s
  | none => match trbPick s with
    | some x => trbKick (if x.posted then trbBegin x s else s)
    | none => s

/-- LOCK_TMO has passed since TR_LOCK_N was asserted (R348). The write of an STX that is on the far bus has ended the sequence, and
releases the lock after its last beat. -/
def lockTimeout (s : State) : State :=
  if trbLocked s && decide (max 1 (s.get TRB_CFG_LOCK_TMO 0) * 800 ≤ s.get CORE_COUNT 0 - s.get TRB_LOCK_AT 0) &&
      !(s.trbNow.any (fun x => x.lock && x.write)) then
    trbKick (((lockBroken (lockOwner s) s).sat TRB_CNT_LOCK_TO 0).raise 3850)
  else s

/-- A reply for a requester's access, if one has come. -/
def trbReply (s : State) (req a : Nat) : Option TrbReply := s.trbDone.find? (fun r => r.req == req && r.addr == a % 2 ^ 32)
def trbReplyTaken (r : TrbReply) (s : State) : State := { s with trbDone := s.trbDone.erase r }

/-- A requester has an access to the Transom under way or queued (R344, R345). -/
def trbBusy (s : State) (req : Nat) : Bool :=
  (s.trbNow.toList ++ s.trbQueue ++ s.trbWait).any (fun x => x.req == req)

/-! ### Side-band lines (R349) -/

/-- Line k at a poll with level `raw`. -/
def pollLine (raw : Nat) (k : Nat) (s : State) : State :=
  let r := bitOf raw k
  let was := s.bit TRB_SB_STAT_LEVEL 0 k
  let now := if !bitOf (s.get TRB_SB_CFG_FILT 0) k || r == s.bit TRB_SB_RAW 0 k then r else was
  let s := s.putBit TRB_SB_STAT_LEVEL 0 k now
  let pend := s.bit TRB_SB_STAT_PEND 0 k
  let d := s.get TRB_CFG_DOM 0
  let event (s : State) : State :=
    let t := s.now d
    (((s.putBit TRB_SB_STAT_PEND 0 k true).put TRB_SB_TS_NS k (t / 256)).put TRB_SB_TS_FRAC k (t % 256)).raise
      (3840 + k) 0 (some (t, d))
  let edge (b : Bool) (s : State) : State :=
    if b then event (if pend then s.sat TRB_SB_STAT_MISSED 0 else s) else s
  match bitsOf (s.get TRB_SB_CFG_COND 0) (3 * k) 3 with
  | 1 => if now && !pend then event s else s
  | 2 => if !now && !pend then event s else s
  | 3 => edge (now && !was) s
  | 4 => edge (!now && was) s
  | 5 => edge (now != was) s
  | _ => s

/-- The lines are polled every POLL × 0.1 µs (R349). -/
def sidebandPoll (raw : Nat) (s : State) : State :=
  let last := s.get TRB_POLL_AT 0
  if last = 0 ∨ last - 1 + max 1 (s.get TRB_CFG_POLL 0) * 80 ≤ s.get CORE_COUNT 0 then
    ((overRange (pollLine raw) 8 s).put TRB_SB_RAW 0 raw).put TRB_POLL_AT 0 (s.get CORE_COUNT 0 + 1)
  else s

/-! ### The commands' meanings -/

/-- The number of a requester at the Transom: 0 to 31 Course, 32 control core, from 64 on DMA (by context here). -/
def trbNum : Requester → Nat
  | .course n => n.val
  | .dma c => 64 + 128 + c.val
  | _ => 32

/-- TRANSOM_READ (R340, R341): 1 to 64 bytes from a far address. -/
def execTransomRead (q : Requester) (a : Word) (n : Fin 64) (s : State) : Result :=
  .next (match s.permit q .transom (0x1_0000_0000 + a.toNat) false with
    | .yes =>
      if trbRefused s a.toNat then (trbRecord (trbNum q) a.toNat 1 false s).refuse q (0x1_0000_0000 + a.toNat) 2
      else trbRead (trbNum q) (some q) a.toNat (n.val + 1) false s
    | p => s.denied q (0x1_0000_0000 + a.toNat) p)

/-- TRANSOM_WRITE (R340, R344): a write that finds the queue full stalls its requester. -/
def execTransomWrite (q : Requester) (a : Word) (bs : List Byte) (s : State) : Result :=
  .next (match s.permit q .transom (0x1_0000_0000 + a.toNat) true with
    | .yes =>
      if trbRefused s a.toNat then (trbRecord (trbNum q) a.toNat 1 true s).refuse q (0x1_0000_0000 + a.toNat) 2
      else trbWrite (trbNum q) a.toNat bs s
    | p => s.denied q (0x1_0000_0000 + a.toNat) p)

/-- QUEUED_WRITE_PERFORM (R344). -/
def execQueuedWritePerform (s : State) : Result := .next (queuedWrite s)

/-- BEAT_COMPLETE (R341): what TR_AD carries, and TR_ERR_N. -/
def execBeatComplete (data : Word) (err : Bool) (s : State) : Result := .next (beatComplete data.toNat err s)

/-- RDY_TIMEOUT (R341). -/
def execRdyTimeout (s : State) : Result := .next (rdyTimeout s)

/-- TRY_AGAIN (R345). -/
def execTryAgain (s : State) : Result := .next (tryAgain s)

/-- RETRY_GAP_EXPIRY (R345). -/
def execRetryGapExpiry (s : State) : Result := .next (gapExpiry s)

/-- LOCK_TIMEOUT (R348). -/
def execLockTimeout (s : State) : Result := .next (lockTimeout s)

/-- SIDEBAND_POLL (R349). -/
def execSidebandPoll (raw : Byte) (s : State) : Result := .next (sidebandPoll raw.toNat s)

end Sys2Proof.Machine
end

