-- ==== Sys2Proof/Machine/Xlt.lean ====
section
/-! DEFINITION. Address translation, fault records, the DMA streams, and the writing of event-log records (13 R306 to
R318). -/

namespace Sys2Proof.Machine

/-! ### Internal cells -/

/-- PCIe base address registers (01 R24, 14 R323): of function f at 4 f + k, k = 0 BAR0, 1 BAR2, 2 BAR4; and whether a
VF is enabled. The PF always is. -/
def HIF_BAR : Fld := ⟨1357, 0, 64, .int, 0, .reset, .none⟩
def HIF_VF_ON : Fld := ⟨1358, 0, 1, .int, 0, .reset, .none⟩
/-- Configuration space of function f (14 R320): Max Payload and Max Read Request Size, completion timeout and 10-bit tags, ECRC; the
width and speed to which the link has trained. -/
def PCI_DEVCTL : Fld := ⟨1555, 0, 16, .int, 0x2000, .reset, .none⟩
def PCI_DEVCTL2 : Fld := ⟨1556, 0, 16, .int, 0, .reset, .none⟩
def PCI_AERCTL : Fld := ⟨1557, 0, 16, .int, 0, .reset, .none⟩
def PCI_LINK_SPEED : Fld := ⟨1558, 0, 3, .int, 0, .reset, .none⟩
def PCI_LINK_WIDTH : Fld := ⟨1559, 0, 4, .int, 0, .reset, .none⟩
/-- A stream: the 8 words of its descriptor at 8 s + i; its end (0 none, else STATUS + 1); a read of its own from the
Transom in flight; HEAD stays until TAIL is written; a fault of its next chunk: STATUS, whether a write, device address
(R308, R310, R316). -/
def STR_W : Fld := ⟨1359, 0, 32, .int, 0, .reset, .none⟩
def STR_END : Fld := ⟨1360, 0, 5, .int, 0, .reset, .none⟩
def STR_TRB : Fld := ⟨1361, 0, 1, .int, 0, .reset, .none⟩
def STR_STUCK : Fld := ⟨1362, 0, 1, .int, 0, .reset, .none⟩
def STR_FK : Fld := ⟨1363, 0, 4, .int, 0, .reset, .none⟩
def STR_FW : Fld := ⟨1364, 0, 1, .int, 0, .reset, .none⟩
def STR_FPA : Fld := ⟨1365, 0, 52, .int, 0, .reset, .none⟩
/-- The stream is FAULTED for a descriptor that could not be read (04 R80). -/
def STR_UNREAD : Fld := ⟨1553, 0, 1, .int, 0, .reset, .none⟩
/-- The stream that issued last among those of a priority (R309). -/
def STR_ROT : Fld := ⟨1366, 0, 7, .int, 0, .reset, .none⟩
/-- The invalidation under way: KIND, CTX, first page and pages (R315). -/
def INV_KIND : Fld := ⟨1367, 0, 2, .int, 0, .reset, .none⟩
def INV_CTX : Fld := ⟨1368, 0, 6, .int, 0, .reset, .none⟩
def INV_PAGE : Fld := ⟨1369, 0, 36, .int, 0, .reset, .none⟩
def INV_N : Fld := ⟨1370, 0, 17, .int, 0, .reset, .none⟩

def xltAddr (off : Nat) : Nat := 0x40E0_0000 + off
def ctxAddr (off c : Nat) : Nat := 0x40E1_0000 + 0x40 * c + off
def strAddr (off k : Nat) : Nat := 0x40E2_0000 + 0x20 * k + off

/-! ### The TLB and the walk cache (R314) -/

/-- Pages that a leaf at a level maps. -/
def leafPages (level : Nat) : Nat := 512 ^ level

/-- An entry maps a page of a context. -/
def TlbEntry.maps (e : TlbEntry) (ctx page : Nat) : Bool :=
  e.ctx == ctx && decide (e.page ≤ page) && decide (page < e.page + leafPages e.level)

/-- The host physical address of a device-virtual one under an entry. -/
def TlbEntry.phys (e : TlbEntry) (va : Nat) : Nat := e.pa + (va - 4096 * e.page)

def tlbFind (s : State) (ctx va : Nat) : Option TlbEntry := s.tlb.find? (fun e => e.maps ctx (va / 4096))

/-- The entry has been used: it is the most recent of its set. -/
def tlbUse (e : TlbEntry) (s : State) : State := { s with tlb := e :: s.tlb.erase e }

/-- The set of an entry. -/
def TlbEntry.set (e : TlbEntry) : Nat := Config.tlbSet e.ctx e.page % 256

/-- A leaf enters the TLB; a full set of 8 ways loses its least recently used entry. -/
def tlbFill (e : TlbEntry) (s : State) : State :=
  let rest := s.tlb.filter (fun x => !(x.ctx == e.ctx && x.level == e.level && x.page == e.page))
  let mine := rest.filter (fun x => x.set == e.set)
  let rest := if 8 ≤ mine.length then (match mine.getLast? with
    | some x => rest.erase x
    | none => rest) else rest
  { s with tlb := e :: rest }

/-- A valid intermediate entry enters the walk cache; a full cache loses one of its 64 entries, which one is open. -/
def walkFill (e : WalkEntry) (s : State) : State :=
  let rest := s.walkCache.filter (fun x => !(x.ctx == e.ctx && x.level == e.level && x.page == e.page))
  if rest.length < 64 then { s with walkCache := e :: rest }
  else { s.used with walkCache := e :: rest.eraseIdx (s.fresh % 64) }

/-! ### Walks (R311, R312) -/

/-- A range of host physical addresses overlaps a BAR or the peer window (R312). -/
def intoDevice (s : State) (a n : Nat) : Bool :=
  let hit (lo len : Nat) : Bool := decide (a < lo + len) && decide (lo < a + n)
  let bar (f k size : Nat) : Bool := hit (s.get HIF_BAR (4 * f + k) / size * size) size
  let peerLo := s.get XLT_PEER_BASE_ADDR 0
  let peerHi := s.get XLT_PEER_LIMIT_ADDR 0
  bar 0 0 0x400_0000 || bar 0 1 0x400_0000 || bar 0 2 0x10_0000 ||
    (List.range 16).any (fun f => f != 0 && s.flag HIF_VF_ON f && (bar f 0 0x1_0000 || bar f 1 0x40_0000)) ||
    (decide (peerLo ≤ peerHi) && hit (4096 * peerLo) (4096 * (peerHi + 1 - peerLo)))

/-- The function and PASID of a context's requests (R313). -/
def ctxFunc (s : State) (c : Nat) : Nat := s.get XLT_CTX_CFG_FUNC c
def ctxPasid (s : State) (c : Nat) : Option Nat :=
  if s.flag XLT_CTX_CFG_PASID_EN c then some (s.get XLT_CTX_PASID_PASID c) else none

/-- The entry of a walk's table that its page indexes. -/
def Walk.entryAddr (w : Walk) : Nat := w.table + 8 * (w.page / 512 ^ w.level % 512)

/-- A walk ends without success for all that wait for it. -/
def walkFails (w : Walk) (kind level pa : Nat) (s : State) : State :=
  { s with
    walks := s.walks.erase w
    xltFaults := s.xltFaults ++ w.waiters.map (fun x => (⟨x, w.ctx, kind, level, pa⟩ : XltFault)) }

/-- A walk reads its next entry, unless its table lies in a device (R312); `w` is in the list of walks. -/
def walkRead (w : Walk) (s : State) : State :=
  if intoDevice s w.table 4096 then walkFails w 3 w.level w.table s
  else (s.sat XLT_TLB_CNT_WALK_READS 0).emit (.pcieRead (ctxFunc s w.ctx) (ctxPasid s w.ctx) w.entryAddr 8)

/-- Where a walk of a page begins: at the lowest table that the walk cache holds, else at the root. -/
def walkStart (s : State) (ctx page : Nat) : Nat × Nat :=
  let hit (l : Nat) : Option WalkEntry := s.walkCache.find? (fun e => e.ctx == ctx && e.level == l &&
    decide (e.page = page / 512 ^ (l + 1) * 512 ^ (l + 1)))
  match hit 0, hit 1, hit 2 with
  | some e, _, _ => (0, e.pa)
  | none, some e, _ => (1, e.pa)
  | none, none, some e => (2, e.pa)
  | none, none, none => (3, 4096 * s.get XLT_CTX_ROOT_ROOT ctx)

/-- An invalidation covers a walk or an entry that maps `n` pages from `page` of a context. -/
def invCovers (s : State) (ctx page n : Nat) : Bool :=
  match s.get INV_KIND 0 with
  | 1 => ctx == s.get INV_CTX 0
  | 2 => ctx == s.get INV_CTX 0 && decide (page < s.get INV_PAGE 0 + s.get INV_N 0) && decide (s.get INV_PAGE 0 < page + n)
  | _ => true

/-- The invalidation under way affects the walks of a context. -/
def invAffects (s : State) (ctx : Nat) : Bool :=
  s.flag XLT_INV_BUSY 0 && (s.get INV_KIND 0 == 0 || s.get INV_KIND 0 == 3 || ctx == s.get INV_CTX 0)

/-- A walk begins; one of a context that an invalidation under way affects waits for BUSY to clear (R315). -/
def walkBegin (ctx page : Nat) (ws : List Waiter) (s : State) : State :=
  let (l, t) := walkStart s ctx page
  let w : Walk := ⟨ctx, page, l, t, ws, invAffects s ctx⟩
  let s := { s with walks := s.walks ++ [w] }
  if w.again then s else walkRead w s

/-- A requester asks for a translation it lacks (R311, R314): it joins the walk of the page, or one begins while fewer than
16 are in flight; with EN = 0 the context has none. -/
def xltAsk (x : Waiter) (ctx : Nat) (s : State) : State :=
  let page := x.va / 4096
  if s.walks.any (fun w => w.waiters.contains x) || s.xltFaults.any (fun f => f.who == x) then s
  else if !s.flag XLT_CTX_CFG_EN ctx then
    { s.used with xltFaults := s.xltFaults ++ [⟨x, ctx, 1, 4, s.fresh % 2 ^ 52⟩] }
  else
    let miss := (tlbFind s ctx x.va).isNone
    match s.walks.find? (fun w => w.ctx == ctx && w.page == page) with
    | some w =>
      let s := if miss then s.sat XLT_TLB_CNT_MISSES 0 else s
      { s with walks := s.walks.map (fun y => if y = w then { y with waiters := y.waiters ++ [x] } else y) }
    | none =>
      if 16 ≤ s.walks.length then s
      else walkBegin ctx page [x] (if miss then s.sat XLT_TLB_CNT_MISSES 0 else s)

/-- The translation of an access that the TLB holds with the right it needs (R314). -/
def xltHit (s : State) (ctx va : Nat) (write : Bool) : Option TlbEntry :=
  match tlbFind s ctx va with
  | some e => if (if write then e.wr else e.rd) then some e else none
  | none => none

/-- The failed translation that a requester has to meet, and the state without it. -/
def xltFaultOf (s : State) (req : Nat) : Option XltFault := s.xltFaults.find? (fun f => f.who.req == req)
def xltFaultTaken (f : XltFault) (s : State) : State := { s with xltFaults := s.xltFaults.erase f }

/-- A table entry's parts (R311). -/
def pteBad (level v : Nat) : Bool :=
  bitsOf v 4 8 != 0 || bitsOf v 52 12 != 0 || (level == 3 && bitOf v 3) ||
    (level == 2 && bitOf v 3 && bitsOf v 12 18 != 0) || (level == 1 && bitOf v 3 && bitsOf v 12 9 != 0)
def pteLeaf (level v : Nat) : Bool := level == 0 || bitOf v 3
def pteAddr (v : Nat) : Nat := 4096 * bitsOf v 12 40

/-- A walk reaches a leaf (R311, R312): waiters that lack the right fail; the leaf is kept when it serves one. -/
def walkLeaf (w : Walk) (v : Nat) (s : State) : State :=
  let pages := leafPages w.level
  if intoDevice s (pteAddr v) (4096 * pages) then walkFails w 3 w.level (pteAddr v) s
  else
    let may (x : Waiter) : Bool := if x.write then bitOf v 2 else bitOf v 1
    let bad := w.waiters.filter (fun x => !may x)
    let s := walkFails { w with waiters := bad } 4 w.level w.entryAddr { s with walks := s.walks.erase w }
    if w.waiters.isEmpty || w.waiters.any may then
      tlbFill ⟨w.ctx, w.level, w.page / pages * pages, pteAddr v, bitOf v 1, bitOf v 2⟩ s
    else s

/-- The entry that a walk has read has returned, `none` for an unsuccessful, poisoned or timed-out completion (R311). -/
def walkEntry (w : Walk) (r : Option Nat) (s : State) : State :=
  if w.again then s else
  match r with
  | none => walkFails w 2 w.level w.entryAddr s
  | some v =>
    if !bitOf v 0 then walkFails w 1 w.level w.entryAddr s
    else if pteBad w.level v then walkFails w 2 w.level w.entryAddr s
    else if pteLeaf w.level v then walkLeaf w v s
    else
      let y : Walk := { w with level := w.level - 1, table := pteAddr v }
      let s : State := { s with walks := s.walks.map (fun x => if x = w then y else x) }
      walkRead y (walkFill ⟨w.ctx, w.level - 1, w.page / 512 ^ w.level * 512 ^ w.level, pteAddr v⟩ s)

/-! ### Fault records (R317, R318) -/

/-- Records in a context's fault queue. -/
def fqSize (s : State) (c : Nat) : Nat := 2 ^ min 10 (max 4 (s.get XLT_FQ_CFG_LOG2 c))

/-- A fault record is written, or dropped, and XLT_FAULT raised (R317 to R319). -/
def faultRecord (c kind level : Nat) (write : Bool) (req va pa done : Nat) (s : State) : State :=
  let t := s.now (s.get XLT_CFG_DOM 0)
  let w0 := kind + level * 16 + (if write then 128 else 0) + req * 256 + c * 2 ^ 16
  let bs := toBytes 4 w0 ++ toBytes 8 (va % 2 ^ 48) ++ toBytes 8 (pa % 2 ^ 52) ++ toBytes 4 (t / 256) ++
    toBytes 4 (t % 256) ++ toBytes 4 (done % 2 ^ 24)
  let n := s.get XLT_FQ_PTR_COUNT c
  let s :=
    if s.flag XLT_FQ_CFG_EN c && decide (n < fqSize s c) then
      let i := (s.get XLT_FQ_PTR_HEAD c + n) % fqSize s c
      (soundboardWrite (64 * s.get XLT_FQ_CFG_BASE c + 32 * i) bs s).put XLT_FQ_PTR_COUNT c (n + 1)
    else
      let s := s.sat XLT_FQ_LOST_LOST c
      if s.flag XLT_FQ_PTR_OVR c then s else (s.put XLT_FQ_PTR_OVR c 1).raise (3520 + c)
  s.raise (3328 + c) req

/-- The record of a failed translation. -/
def xltRecord (f : XltFault) (done : Nat) (s : State) : State :=
  faultRecord f.ctx f.kind f.level f.who.write f.who.req f.who.va f.pa done s

/-- Software acknowledges fault records (R318; the rules on N of 10 R255). -/
def fqAck (c n : Nat) (s : State) : State :=
  let count := s.get XLT_FQ_PTR_COUNT c
  if n = 0 ∨ count < n then s.put XLT_FQ_PTR_ACK_ERR c 1
  else (s.put XLT_FQ_PTR_HEAD c ((s.get XLT_FQ_PTR_HEAD c + n) % fqSize s c)).put XLT_FQ_PTR_COUNT c (count - n)

/-- A write to `XLT_FQ_CFG`; EN = 1 empties the queue. -/
def fqCfgWrite (c v : Nat) (s : State) : State :=
  let s := s.setFlds c v [XLT_FQ_CFG_BASE, XLT_FQ_CFG_LOG2, XLT_FQ_CFG_EN]
  if bitOf v 24 then (s.put XLT_FQ_PTR_HEAD c 0).put XLT_FQ_PTR_COUNT c 0 else s

/-! ### Streams (R308 to R310) -/

def strIdle : Nat := 0
def strWaitAt : Nat := 1
def strRun : Nat := 2
def strFaulted : Nat := 3

def strState (s : State) (k : Nat) : Nat := s.get XLT_STR_STAT_STATE k
def strWord (s : State) (k i : Nat) : Nat := s.get STR_W (8 * k + i)
def strLen (s : State) (k : Nat) : Nat := strWord s k 0 % 2 ^ 24
def strDone (s : State) (k : Nat) : Nat := s.get XLT_STR_STAT_DONE_BYTES k
def strSize (s : State) (k : Nat) : Nat := 2 ^ min 12 (max 4 (s.get XLT_STR_RING_LOG2 k))
/-- Soundboard offset of the descriptor at HEAD. -/
def strDesc (s : State) (k : Nat) : Nat := 64 * s.get XLT_STR_RING_BASE k + 32 * (s.get XLT_STR_PTR_HEAD k % strSize s k)
/-- The source (0) or destination (1) address of the descriptor, and whether it is device-virtual. -/
def strAddrOf (s : State) (k side : Nat) : Nat := strWord s k (1 + 2 * side) + 2 ^ 32 * strWord s k (2 + 2 * side)
def strVa (s : State) (k side : Nat) : Bool := bitOf (strWord s k 0) (24 + side)

/-- The translation context of a stream (R308). -/
def strCtx (s : State) (k : Nat) : Nat :=
  let o := s.get XLT_STR_CFG_OWNER k
  if o < 32 then s.get CRS_XLT_CTX o else s.get XLT_STR_CFG_CTX k

/-- An operand that breaks the limits of R308. -/
def strOperandBad (s : State) (k side : Nat) : Bool :=
  let a := strAddrOf s k side
  decide (2 ^ 48 ≤ a) || (!strVa s k side && decide (0x80_0000_0000 < a + max 1 (strLen s k)))

/-- A descriptor that completes at once with ADDR_INVALID (R308). -/
def strBad (s : State) (k : Nat) : Bool :=
  strOperandBad s k 0 || strOperandBad s k 1 || bitsOf (strWord s k 0) 28 4 != 0 || bitsOf (strWord s k 7) 16 15 != 0

/-- The address of the next chunk's byte on a side, and the chunk's length (R309). -/
def chunkAddr (s : State) (k side : Nat) : Nat := strAddrOf s k side + strDone s k
def chunkLen (s : State) (k : Nat) : Nat :=
  min (min 512 (strLen s k - strDone s k))
    (min (4096 - chunkAddr s k 0 % 4096) (4096 - chunkAddr s k 1 % 4096))

/-- How a device-address side of a chunk stands: NOT_ALLOWED (7), BUS_ERROR (5), or 0 (01 R16, R20, R22). -/
def chunkRight (s : State) (a : Nat) (write : Bool) : Nat :=
  let r := regionOf a
  if r = .unmapped ∨ r = .own ∨ !s.powered r a then 5
  else if s.permit (.dma 0) r a write = .yes then (if r = .transom ∧ trbRefused s a then 5 else 0)
  else 7

/-- An access refused for want of the secure attribute counts (17 R381). -/
def insecureSeen (q : Requester) (a : Nat) (write : Bool) (s : State) : State :=
  if s.permit q (regionOf a) a write = .insecure then s.count1 PCS_CNT_NS_REJ 0 97 else s

/-- A chunk that no window of the Transom covers is recorded there (15 R340, R346). -/
def chunkRefused (k a : Nat) (write : Bool) (s : State) : State :=
  if regionOf a = .transom ∧ s.permit (.dma 0) .transom a write = .yes ∧ trbRefused s a then trbRecord (64 + k) (a % 2 ^ 32) 1 write s
  else s

/-- The stream has a fault of its next chunk waiting. -/
def strFault (k kind : Nat) (write : Bool) (pa : Nat) (s : State) : State :=
  if s.get STR_FK k = 0 then ((s.put STR_FK k kind).putFlag STR_FW k write).put STR_FPA k pa else s

/-- One side of the next chunk gets its translation, or its right is checked (R309, R316). -/
def strSide (k side : Nat) (s : State) : State :=
  let a := chunkAddr s k side
  let write := side == 1
  if strVa s k side then
    let ctx := strCtx s k
    match xltHit s ctx (a % 2 ^ 48) write with
    | some _ => s
    | none => xltAsk ⟨64 + k, write, a % 2 ^ 48⟩ ctx s
  else
    let kind := chunkRight s a write
    if kind = 7 then strFault k 7 write a (insecureSeen (.dma 0) a write s) else s

/-- A running stream prepares its next chunk (R309). -/
def strPlan (k : Nat) (s : State) : State :=
  if strState s k = strRun ∧ s.get STR_END k = 0 ∧ s.get STR_FK k = 0 ∧ strDone s k < strLen s k then
    let s := strSide k 0 s
    if s.get STR_FK k = 0 then strSide k 1 s else s
  else s

/-- Every running stream that lacks something prepares its next chunk again. -/
def strPlanAll (s : State) : State :=
  overList (fun (e : Nat × Nat) (t : State) => strPlan e.1 t) (s.listed XLT_STR_STAT_STATE) s

/-- A descriptor that cannot be read stops the stream as a fault with ECC_ERR (04 R80, R316): what an ABORT writes back of its last word
is open, and so is the record's VA. -/
def strUnread (k : Nat) (s : State) : State :=
  let v := s.fresh
  let s := overRange (fun i t => t.put STR_W (8 * k + i) (if i = 7 then v % 2 ^ 31 else 0)) 8 s.used
  let s := (((s.put XLT_STR_STAT_DONE_BYTES k 0).put STR_FK k 0).put STR_TRB k 0).put STR_UNREAD k 1
  let s := (s.put XLT_STR_STAT_STATE k strFaulted).put XLT_STR_STAT_CAUSE k 6
  faultRecord (strCtx s k) 6 7 false (64 + k) s.fresh (sbBase + strDesc s k) 0 s.used

/-- An idle stream takes its next descriptor (R308; the ring's rules of 07 R178); `ecc` is what that read meets (04 R80). -/
def strTake (k : Nat) (ecc : Ecc) (s : State) : State :=
  let h := s.get XLT_STR_PTR_HEAD k
  if strState s k ≠ strIdle ∨ h = s.get XLT_STR_PTR_TAIL k ∨ s.flag STR_STUCK k = true then s
  else
    let a := sbBase + strDesc s k
    let s := eccSeen ecc s
    if ecc = .uncorr then strUnread k s
    else if !bitOf (s.word (a + 28)) 31 then s.put STR_STUCK k 1
    else
      let s := overRange (fun i t => t.put STR_W (8 * k + i) (s.word (a + 4 * i))) 8 s
      let s := ((s.put XLT_STR_STAT_DONE_BYTES k 0).put STR_FK k 0).put STR_TRB k 0
      if strBad s k then (s.put XLT_STR_STAT_STATE k strRun).put STR_END k 9
      else if strLen s k = 0 then (s.put XLT_STR_STAT_STATE k strRun).put STR_END k 1
      else if bitOf (strWord s k 0) 27 then s.put XLT_STR_STAT_STATE k strWaitAt
      else strPlan k (s.put XLT_STR_STAT_STATE k strRun)

/-- A descriptor completes with STATUS, and the stream goes on with its next (R310). -/
def strComplete (k status : Nat) (ecc : Ecc) (s : State) : State :=
  let done := strDone s k
  let w7 := strWord s k 7 % 2 ^ 31
  let s := soundboardWrite (strDesc s k + 24) (toBytes 4 (status + done * 256) ++ toBytes 4 w7) s
  let s := s.put XLT_STR_PTR_HEAD k ((s.get XLT_STR_PTR_HEAD k + 1) % strSize s k)
  let s := if bitOf (strWord s k 0) 26 || status != 0 then
      s.raise (3392 + k) (status + strWord s k 7 % 2 ^ 16 * 2 ^ 16)
    else s
  let s := (((s.put STR_END k 0).put STR_FK k 0).put STR_UNREAD k 0).put XLT_STR_STAT_STATE k strIdle
  strTake k ecc (xltForget (64 + k) s)

/-- The requester owns the stream (R308). -/
def strOwner (s : State) (q : Requester) (k : Nat) : Bool :=
  let o := s.get XLT_STR_CFG_OWNER k
  match q with
  | .course n => o == n.val
  | .cc => o == 32
  | .pf => o == 33
  | .vf f => o == 33 + f.val
  | _ => false

/-- A write of TAIL by the owner; HEAD goes on (R308). -/
def strTail (q : Requester) (k tail : Nat) (ecc : Ecc) (s : State) : State :=
  if strOwner s q k then strTake k ecc ((s.put XLT_STR_PTR_TAIL k tail).put STR_STUCK k 0) else s.refuse q (strAddr 8 k)

/-- AT_NS matches (R308). -/
def strAtMatch (k : Nat) (s : State) : State :=
  if strState s k = strWaitAt ∧ s.reachedNs (s.get XLT_STR_CFG_DOM k) (strWord s k 5) = true then
    strPlan k (s.put XLT_STR_STAT_STATE k strRun)
  else s

/-- One side of the next chunk may be accessed now. -/
def sideReady (s : State) (k side : Nat) : Bool :=
  let a := chunkAddr s k side
  if strVa s k side then (xltHit s (strCtx s k) (a % 2 ^ 48) (side == 1)).isSome
  else chunkRight s a (side == 1) != 7

/-- The stream has a chunk ready to be issued (R309), or its Transom read has come back. -/
def strReady (s : State) (k : Nat) : Bool :=
  let room := strVa s k 1 || regionOf (chunkAddr s k 1) != .transom || trbRoom s ((chunkLen s k + 63) / 64)
  strState s k == strRun && s.get STR_FK k == 0 && (xltFaultOf s (64 + k)).isNone &&
    decide (strDone s k < strLen s k) && sideReady s k 0 && sideReady s k 1 && room &&
    (if s.flag STR_TRB k then (trbReply s (64 + k) (chunkAddr s k 0)).isSome else s.get STR_END k == 0)

/-- The stream that issues: the highest PRIO with a chunk ready, in rotation among equals (R309). -/
def strPick (s : State) : Option Nat :=
  let ready := ((s.listed XLT_STR_STAT_STATE).map Prod.fst).filter (fun k => strReady s k)
  let top := (ready.map (fun k => s.get XLT_STR_CFG_PRIO k)).foldl max 0
  let best := ready.filter (fun k => s.get XLT_STR_CFG_PRIO k == top)
  match best.find? (fun k => decide (s.get STR_ROT top < k)) with
  | some k => some k
  | none => best.head?

/-- What reading a chunk gives: its bytes, a failure with its STATUS, or a Transom read that is in flight. -/
inductive ChunkRead where
  | data (bs : List Byte)
  | fails (kind : Nat)
  | later
deriving DecidableEq, Repr

/-- A stream reads its chunk: from host memory, which answers `host`, or from the device, `ecc` being what a read of the
Soundboard or of a Course's memory meets (R309, R316, 04 R80, 07 R158). -/
def chunkRead (k : Nat) (host : Option (List Byte)) (ecc : Ecc) (s : State) : ChunkRead × State :=
  let a := chunkAddr s k 0
  let n := chunkLen s k
  if strVa s k 0 then
    let c := strCtx s k
    match xltHit s c (a % 2 ^ 48) false with
    | some e =>
      let s := (tlbUse e s).emit (.pcieRead (ctxFunc s c) (ctxPasid s c) (e.phys (a % 2 ^ 48)) n)
      (match host with
        | some bs => .data (bs.take n ++ List.replicate (n - bs.length) 0)
        | none => .fails 5, s)
    | none => (.later, s)
  else if chunkRight s a false = 5 then (.fails 5, chunkRefused k a false s)
  else match regionOf a with
    | .course j =>
      (if ecc = .uncorr then .fails 6 else .data ((List.range n).map (fun i => s.sramByte (a + i))),
        if ecc = .corr then s.sat CRS_STAT_ECC_CORR j else s)
    | .transom =>
      match trbReply s (64 + k) a with
      | some r => (if r.error then .fails 5 else .data r.bytes, (trbReplyTaken r s).put STR_TRB k 0)
      | none => (.later, trbRead (64 + k) none a n false (s.put STR_TRB k 1))
    | _ => if ecc = .uncorr then (.fails 6, eccSeen ecc s) else (.data (s.bytes a n), eccSeen ecc s)

/-- A stream writes its chunk (R309); `none` when the target answers with an error. -/
def chunkWrite (k : Nat) (bs : List Byte) (s : State) : Option State :=
  let a := chunkAddr s k 1
  if strVa s k 1 then
    let c := strCtx s k
    match xltHit s c (a % 2 ^ 48) true with
    | some e => some ((tlbUse e s).emit (.pcieWrite (ctxFunc s c) (ctxPasid s c) (e.phys (a % 2 ^ 48)) bs))
    | none => none
  else if chunkRight s a true = 5 then none
  else match regionOf a with
    | .course _ => some (s.putSram a bs)
    | .transom => some (trbWrite (64 + k) a bs s)
    | _ => some (soundboardWrite (a - sbBase) bs s)

/-- The chunk of stream k is issued (R309): it reads all of its bytes, then writes them. -/
def chunkIssue (k : Nat) (host : Option (List Byte)) (ecc : Ecc) (s : State) : State :=
  let s := s.put STR_ROT (s.get XLT_STR_CFG_PRIO k) k
  match chunkRead k host ecc s with
  | (.later, s) => s
  | (.fails kind, s) => strFault k kind false (chunkAddr s k 0) s
  | (.data bs, s) =>
    match chunkWrite k bs s with
    | none => strFault k 5 true (chunkAddr s k 1) (if strVa s k 1 then s else chunkRefused k (chunkAddr s k 1) true s)
    | some s => strPlan k (s.put XLT_STR_STAT_DONE_BYTES k (strDone s k + bs.length))

/-- A descriptor whose last chunk's writes have been accepted completes (R310), or one that an ABORT or its own words
end. -/
def strEnd (k : Nat) (ecc : Ecc) (s : State) : State :=
  if strState s k ≠ strRun ∨ s.flag STR_TRB k = true then s
  else if s.get STR_END k ≠ 0 then strComplete k (s.get STR_END k - 1) ecc s
  else if strLen s k ≤ strDone s k then strComplete k 0 ecc s
  else s

/-- A stopped stream enters FAULTED with its record (R316, R317). The record's VA is open for a device address, and its PA
for a device-virtual one. -/
def strStops (k : Nat) (s : State) : State :=
  if strState s k ≠ strRun ∨ s.get STR_END k ≠ 0 then s
  else
    let halt (kind : Nat) (s : State) : State := (s.put XLT_STR_STAT_STATE k strFaulted).put XLT_STR_STAT_CAUSE k kind
    match xltFaultOf s (64 + k) with
    | some f => xltRecord f (strDone s k) (halt f.kind (xltForget (64 + k) s))
    | none =>
      let kind := s.get STR_FK k
      if kind = 0 then s
      else
        let write := s.flag STR_FW k
        let side := if write then 1 else 0
        let free := s.fresh
        let va := if strVa s k side then chunkAddr s k side else free
        let pa := if strVa s k side then free else s.get STR_FPA k
        faultRecord (strCtx s k) kind 7 write (64 + k) va pa (strDone s k) (halt kind (s.used.put STR_FK k 0))

/-- RESUME (R318): it acts in FAULTED only; a descriptor that could not be read is taken again. -/
def strResume (k : Nat) (ecc : Ecc) (s : State) : State :=
  if strState s k = strFaulted ∧ s.flag STR_UNREAD k = true then
    strTake k ecc (((s.put XLT_STR_STAT_STATE k strIdle).put STR_UNREAD k 0).put XLT_STR_STAT_CAUSE k 0)
  else if strState s k = strFaulted then
    strPlan k (((s.put XLT_STR_STAT_STATE k strRun).put STR_FK k 0).put XLT_STR_STAT_CAUSE k 0)
  else s

/-- ABORT (R318): with the fault's STATUS in FAULTED, else ABORTED once issued chunks have finished. -/
def strAbort (k : Nat) (ecc : Ecc) (s : State) : State :=
  let st := strState s k
  if st = strFaulted then strComplete k (s.get XLT_STR_STAT_CAUSE k) ecc s
  else if st = strWaitAt then strComplete k 9 ecc s
  else if st = strRun then
    (if s.flag STR_TRB k then s.put STR_END k 10 else strComplete k 9 ecc s)
  else s

/-- A write of `XLT_STR_CTRL` by the owner or the control core; with both bits ABORT acts (R318). -/
def strCtrl (q : Requester) (k v : Nat) (ecc : Ecc) (s : State) : State :=
  if strOwner s q k || q = .cc then
    (if bitOf v 1 then strAbort k ecc s else if bitOf v 0 then strResume k ecc s else s)
  else s.refuse q (strAddr 0xC k)

/-! ### Invalidation (R315) -/

/-- GO (R315): ignored while BUSY; walks of an affected context start again after it. -/
def invGo (kind ctx page n : Nat) (s : State) : State :=
  if s.flag XLT_INV_BUSY 0 then s else
  let s := ((s.put INV_KIND 0 kind).put INV_CTX 0 ctx).put INV_PAGE 0 page
  let s := (s.put INV_N 0 (if n = 0 then 65536 else n)).put XLT_INV_BUSY 0 1
  { s with walks := s.walks.map (fun w => if invAffects s w.ctx then { w with again := true } else w) }

/-- A write to `XLT_INV`. -/
def invWrite (v : Nat) (s : State) : State :=
  let s := s.setFlds 0 v [XLT_INV_KIND, XLT_INV_CTX]
  if bitOf v 8 then
    invGo (s.get XLT_INV_KIND 0) (s.get XLT_INV_CTX 0) (s.get XLT_INV_RANGE_VA 0) (s.get XLT_INV_RANGE_PAGES 0) s
  else s

/-- The entries are gone: BUSY clears, the discarded walks start again (R315). -/
def invComplete (s : State) : State :=
  if !s.flag XLT_INV_BUSY 0 then s else
  let s := { s with
    tlb := s.tlb.filter (fun e => !invCovers s e.ctx e.page (leafPages e.level))
    walkCache := s.walkCache.filter (fun e => !invCovers s e.ctx e.page (512 ^ (e.level + 1))) }
  let s := (s.put XLT_INV_BUSY 0 0).settle .invalidate 0 0 []
  let old := s.walks.filter (fun w => w.again)
  let s := { s with walks := s.walks.filter (fun w => !w.again) }
  strPlanAll (overList (fun (w : Walk) (t : State) => walkBegin w.ctx w.page w.waiters t) old s)

/-! ### Writing log records (R307) -/

/-- An event of the cycle of record `x`, of a lower source number, is still to be delivered to its log (R303). -/
def logEarlier (s : State) (x : LogRec) : Bool :=
  s.events.any (fun e => e.cycle == x.cycle && decide (e.src < x.src) && (e.routeA.log == x.log || e.routeB.log == x.log))

/-- The first waiting record of log l is written or dropped; one at a device-virtual address waits for its walk. Records of one
cycle go in ascending source number (R303). -/
def logWrite (l : Nat) (s : State) : State :=
  match s.logRecs.find? (fun x => x.log == l) with
  | none => s
  | some x =>
    let gone (s : State) : State := { s with logRecs := s.logRecs.erase x }
    if logEarlier s x then s
    else if !s.flag EVT_LOG_CFG_EN l then xltForget (192 + l) (gone s)
    else if s.flag EVT_LOG_PTR_FAULT l || decide (logSize s l ≤ s.get EVT_LOG_PTR_COUNT l) then logDrop l (gone s)
    else if !s.flag EVT_LOG_CFG_LOC l then logSoundboard x (gone s)
    else
      let ctx := s.get EVT_LOG_CFG_CTX l
      let va := logPlace s l % 2 ^ 48
      match (xltFaultOf s (192 + l)).filter (fun f => f.ctx == ctx && f.who.va / 4096 == va / 4096) with
      | some f => xltRecord f 0 ((logDrop l (gone (xltFaultTaken f s))).put EVT_LOG_PTR_FAULT l 1)
      | none =>
        match xltHit s ctx va true with
        | some e =>
          logWritten l ((gone (tlbUse e s)).emit (.pcieWrite (ctxFunc s ctx) (ctxPasid s ctx) (e.phys va) (logBytes s x)))
        | none => if (xltFaultOf s (192 + l)).isSome then xltForget (192 + l) s else xltAsk ⟨192 + l, true, va⟩ ctx s

/-! ### The commands' meanings -/

/-- LOG_RECORD_WRITE (R307). -/
def execLogRecordWrite (l : Fin 16) (s : State) : Result := .next (logWrite l s)

/-- XLT_STR_TAIL (R308). -/
def execXltStrTail (q : Requester) (k : StreamAct) (tail : BitVec 12) (s : State) : Result :=
  .next (strTail q k.stream tail.toNat k.ecc s)

/-- STREAM_AT_MATCH (R308). -/
def execStreamAtMatch (k : Fin 128) (s : State) : Result := .next (strAtMatch k s)

/-- CHUNK_ISSUE (R309): what host memory answers to the chunk's read, and what a Soundboard read meets. -/
def execChunkIssue (host : Option (List Byte)) (ecc : Ecc) (s : State) : Result :=
  .next (match strPick s with
    | some k => chunkIssue k host ecc s
    | none => s)

/-- DESCRIPTOR_COMPLETE (R310). -/
def execDescriptorComplete (k : StreamAct) (s : State) : Result := .next (strEnd k.stream k.ecc s)

/-- STREAM_FAULTED (R316). -/
def execStreamFaulted (k : Fin 128) (s : State) : Result := .next (strStops k s)

/-- XLT_STR_RESUME (R318). -/
def execXltStrResume (q : Requester) (k : StreamAct) (s : State) : Result := .next (strCtrl q k.stream 1 k.ecc s)

/-- XLT_STR_ABORT (R318). -/
def execXltStrAbort (q : Requester) (k : StreamAct) (s : State) : Result := .next (strCtrl q k.stream 2 k.ecc s)

/-- XLT_INV_GO (R315): a write of the register with GO. -/
def execXltInvGo (q : Requester) (kind : Fin 4) (ctx : Fin 64) (s : State) : Result :=
  .next (s.gate q (xltAddr 0x20) (invWrite (kind.val + 4 * ctx.val + 256)))

/-- INVALIDATION_COMPLETE (R315). -/
def execInvalidationComplete (s : State) : Result := .next (invComplete s)

/-- The requesters that may acknowledge a context's fault records: the control core, the host, and a Course that uses the
context. -/
def fqWriter (s : State) (q : Requester) (c : Nat) : Bool :=
  match q with
  | .cc | .pf => true
  | .course n => s.get CRS_XLT_CTX n == c
  | _ => false

/-- XLT_FQ_ACK (R318). -/
def execXltFqAck (q : Requester) (c : Fin 64) (n : BitVec 11) (s : State) : Result :=
  .next (if fqWriter s q c then fqAck c n.toNat s else s.refuse q (ctxAddr 0x18 c))

/-- XLT_FQ_ENABLE (R318): a write of the whole register. -/
def execXltFqEnable (q : Requester) (c : Fin 64) (v : BitVec 25) (s : State) : Result :=
  .next (s.gateCC q (ctxAddr 0x10 c) (fqCfgWrite c v.toNat))

end Sys2Proof.Machine
end

