-- ==== Sys2Proof/Machine/Hif.lean ====
section
/-! DEFINITION. The host interface (14): functions and their events, command rings and replies, Wickets. What the host
commands do stands in Machine/Host.lean. -/

namespace Sys2Proof.Machine

/-! ### Internal cells -/

/-- A command ring: CMD_TAIL and STS_HEAD as the owner last wrote them, STS_TAIL (R327). -/
def RING_TAIL : Fld := ⟨1371, 0, 12, .int, 0, .reset, .none⟩
def RING_STS_HEAD : Fld := ⟨1372, 0, 12, .int, 0, .reset, .none⟩
def RING_STS_TAIL : Fld := ⟨1373, 0, 12, .int, 0, .reset, .none⟩
/-- The ring after the one that Damair firmware served last (R328). -/
def RING_TURN : Fld := ⟨1554, 0, 5, .int, 0, .reset, .none⟩
/-- The PCIe link is up; function f is in D3hot (R335). -/
def PCIE_UP : Fld := ⟨1374, 0, 1, .int, 0, .reset, .none⟩
def FN_D3 : Fld := ⟨1375, 0, 1, .int, 0, .reset, .none⟩
/-- A wake source asks for the power of the Portcullis domain (17 R400). -/
def PCS_WAKE : Fld := ⟨1406, 0, 1, .int, 0, .reset, .none⟩
/-- Data words of a Wicket: word i of direction d (0 AB, 1 BA) of Wicket w at 32 w + 16 d + i. -/
def WKT_DATA : Fld := ⟨1376, 0, 32, .int, 0, .reset, .none⟩
/-- An attention event held until its receiver is up, at 2 w + d (R335). -/
def WKT_HELD : Fld := ⟨1377, 0, 1, .int, 0, .reset, .none⟩
/-- The crossing detector of Wicket w: both directions FULL since (core clock count plus 1), and it has fired (R336). -/
def WKT_CROSS_AT : Fld := ⟨1378, 0, 64, .int, 0, .reset, .none⟩
def WKT_CROSS_DONE : Fld := ⟨1379, 0, 1, .int, 0, .reset, .none⟩

/-! ### Rings (R325 to R329) -/

/-- The function behind a requester: 0 PF, 1 to 15 a VF. -/
def hostFunc : Requester → Option Nat
  | .pf => some 0
  | .vf f => some f.val
  | _ => none

def ringSize (s : State) (r : Nat) : Nat := 2 ^ min 12 (max 4 (s.get HIF_RING_CTRL_LOG2 r))
/-- Context and owner of a ring; in SAFE_HALT ring 0 is the physical function's, with context 0 (19 R437). -/
def ringCtx (s : State) (r : Nat) : Nat := if s.get RST_BOOT_STAGE 0 = 6 then 0 else s.get HIF_RING_OWN_CTX r
def ringFunc (s : State) (r : Nat) : Nat := if s.get RST_BOOT_STAGE 0 = 6 then 0 else s.get HIF_RING_OWN_FUNC r
/-- Rings are served from READY on, in SAFE_HALT ring 0 alone, and not on the fatal-fault path (19 R433, R435, R437). -/
def ringServed (s : State) (r : Nat) : Bool :=
  (s.get RST_BOOT_STAGE 0 == 5 || (s.get RST_BOOT_STAGE 0 == 6 && r == 0)) && s.get FATAL_PATH 0 == 0
def ringRuns (s : State) (r : Nat) : Bool := s.get HIF_RING_STAT_STATE r == 1

/-- Replies of a ring's commands in progress are discarded; the commands still take effect (R329, R338). -/
def ringMute (r : Nat) (s : State) : State :=
  { s with
    fetched := s.fetched.map (fun c => if c.ring = r then { c with mute := true } else c)
    cmds := s.cmds.map (fun c => if c.ring = r then { c with mute := true } else c)
    replies := s.replies.filter (fun x => x.ring ≠ r) }

/-- A ring access has failed: FAULT with its cause (R329). -/
def ringFault (r cause : Nat) (s : State) : State :=
  (((ringMute r (xltForget (256 + r) s)).put HIF_RING_STAT_STATE r 2).put HIF_RING_STAT_CAUSE r cause).raise (3585 + 2 * r)

/-- A write of bytes at a device-virtual address of a ring: done, waits for a translation, or faults the ring. -/
def ringPut (r va : Nat) (bs : List Byte) (s : State) : Option State × State :=
  let c := ringCtx s r
  match xltFaultOf s (256 + r) with
  | some f => (none, ringFault r f.kind s)
  | none => match xltHit s c va true with
    | some e => (some ((tlbUse e s).emit (.pcieWrite (ctxFunc s c) (ctxPasid s c) (e.phys va) bs)), s)
    | none => (none, xltAsk ⟨256 + r, true, va⟩ c s)

/-- The write-back block's bytes (R326). -/
def ringBlock (s : State) (r : Nat) : List Byte :=
  toBytes 4 (s.get HIF_RING_STAT_CMD_HEAD r) ++ toBytes 4 (s.get RING_STS_TAIL r) ++ List.replicate 8 0

/-- The status ring of a ring can take one more reply (R327). -/
def statusRoom (s : State) (r : Nat) : Bool :=
  let size := ringSize s r
  decide ((s.get RING_STS_TAIL r + size - s.get RING_STS_HEAD r % size) % size + 1 < size)

/-- The first reply of a ring that waits is written, then the write-back block, in that order (R327). -/
def ringFlushOne (r : Nat) (s : State) : State :=
  if !ringRuns s r then s else
  match s.replies.find? (fun x => x.ring == r) with
  | none => s
  | some x =>
    let wb := 64 * s.get HIF_RING_WB_VA r
    if x.bytes = [] then
      match ringPut r wb (ringBlock s r) s with
      | (some t, _) => { t with replies := t.replies.erase x }
      | (none, t) => t
    else if !statusRoom s r then s
    else
      let tail := s.get RING_STS_TAIL r
      match ringPut r (64 * s.get HIF_RING_STS_VA r + 32 * tail) x.bytes s with
      | (none, t) => t
      | (some t, _) =>
        let t := t.put RING_STS_TAIL r ((tail + 1) % ringSize t r)
        let t := { t with replies := ⟨r, [], false⟩ :: t.replies.erase x }
        let t := if x.done then t.raise (3584 + 2 * r) (ofBytes (x.bytes.take 4)) else t
        match ringPut r wb (ringBlock t r) t with
        | (some u, _) => { u with replies := u.replies.erase ⟨r, [], false⟩ }
        | (none, u) => u

/-- Every reply of a ring that can be written is written. -/
def ringFlush (r : Nat) (s : State) : State := overRange (fun _ t => ringFlushOne r t) (s.replies.length + 1) s

/-- Values packed in the order of their sizes, each at the next multiple of its own size from byte `at'` (R326). -/
def packFields : Nat → List (Nat × Nat) → List Byte
  | _, [] => []
  | at', (n, v) :: fs =>
    let pad := (n - at' % n) % n
    List.replicate pad 0 ++ toBytes n v ++ packFields (at' + pad + n) fs

/-- The offsets at which fields of given sizes lie, from byte `at'` (R326). -/
def fieldOffsets : Nat → List Nat → List Nat
  | _, [] => []
  | at', n :: ns =>
    let o := at' + (n - at' % n) % n
    o :: fieldOffsets (o + n) ns

/-- The results of an opcode, their sizes in bytes (R331). -/
def resultSizes : Nat → List Nat
  | 0x0101 => [4, 4, 4, 1, 1, 2]
  | 0x0201 => [4]
  | 0x0203 => [4]
  | 0x0300 => [1, 1, 1, 1]
  | 0x0403 => [1, 1, 4, 4, 4, 4]
  | 0x0503 => [4, 2, 2, 4]
  | 0x0600 => [4]
  | 0x0702 => [1, 1, 1, 1, 4]
  | 0x0800 => [4]
  | 0x0802 => [4, 4, 4, 4]
  | 0x0900 => [4, 1, 1, 8]
  | _ => []

/-- The 32 bytes of a reply (R326). -/
def replyBytes (tag opcode status detail : Nat) (res : List Nat) : List Byte :=
  let body := packFields 8 ((resultSizes opcode).zip res)
  toBytes 4 tag ++ toBytes 2 status ++ toBytes 2 detail ++ body ++ List.replicate (24 - body.length) 0

/-- A reply is written, unless its command's replies are discarded. -/
def reply (r tag opcode status detail : Nat) (res : List Nat) (mute done : Bool) (s : State) : State :=
  if mute then s
  else ringFlush r { s with replies := s.replies ++ [⟨r, replyBytes tag opcode status detail res, done⟩] }

/-- The opcodes whose reply column says async (R331). -/
def asyncOpcode (op : Nat) : Bool :=
  [0x0102, 0x0105, 0x0201, 0x0203, 0x0300, 0x0303, 0x0304, 0x0400, 0x0401, 0x0500, 0x0501, 0x0502, 0x0504, 0x0600, 0x0601, 0x0602,
   0x0603, 0x0604, 0x0800, 0x0903].contains op

/-- A final reply, with HIF_CMD_DONE once it is written, for an asynchronous command whatever IRQ says, or with IRQ (R326, R327). -/
def finalReply (r tag opcode status detail : Nat) (res : List Nat) (mute irq : Bool) (s : State) : State :=
  reply r tag opcode status detail res mute (irq || asyncOpcode opcode) s

/-- The opcodes of R331. -/
def opcodes : List Nat :=
  [0x0100, 0x0101, 0x0102, 0x0103, 0x0104, 0x0105, 0x0106, 0x0200, 0x0201, 0x0202, 0x0203, 0x0204, 0x0300, 0x0301, 0x0302,
   0x0303, 0x0304, 0x0400, 0x0401, 0x0402, 0x0403, 0x0404, 0x0500, 0x0501, 0x0502, 0x0503, 0x0504, 0x0600, 0x0601, 0x0602,
   0x0603, 0x0604, 0x0700, 0x0701, 0x0702, 0x0800, 0x0801, 0x0802, 0x0803, 0x0900, 0x0901, 0x0902, 0x0903]

/-- An earlier command of the ring has no final reply yet, or one that is not written yet (R326). -/
def ringInProgress (s : State) (r : Nat) : Bool := s.cmds.any (fun c => c.ring == r) || s.replies.any (fun x => x.ring == r && x.bytes != [])

/-- The first command of a ring, if Damair firmware can start it (R326, R328). -/
def ringReady (s : State) (r : Nat) : Option HostCmd :=
  match s.fetched.find? (fun c => c.ring == r) with
  | none => none
  | some c => if ringServed s r = true ∧ (bitOf c.flags 1 && ringInProgress s r) = false then some c else none

/-- The command whose turn it is: the rings are served in rotation, from the one after the last served (R328). -/
def ringNext (s : State) : Option HostCmd :=
  if s.fetched = [] then none
  else ((List.range 32).map (fun k => (s.get RING_TURN 0 + k) % 32)).findSome? (ringReady s)

/-- A ring has had its turn. -/
def ringServe (r : Nat) (s : State) : State := s.put RING_TURN 0 ((r + 1) % 32)

/-- Commands with an unknown opcode are refused in their turn (R330): once IRQ says so, with HIF_CMD_DONE. -/
def skipUnknown : Nat → State → State
  | 0, s => s
  | n + 1, s =>
    match ringNext s with
    | none => s
    | some c =>
      if opcodes.contains c.opcode then s
      else
        let s : State := ringServe c.ring { s with fetched := s.fetched.erase c }
        skipUnknown n (finalReply c.ring c.tag c.opcode 0x0101 0 [] c.mute (bitOf c.flags 0) s)

/-- The turn passes over the commands that no row of the opcode table names. -/
def ringTurn (s : State) : State := skipUnknown (s.fetched.length) s

/-- Every ring's replies that can be written are written; commands that waited for them have their turn. -/
def ringFlushAll (s : State) : State := if s.replies = [] then s else ringTurn (overRange ringFlush 32 s)

/-- The device fetches a descriptor in one read, which host memory answers with `host` (R327). -/
def ringFetch (r : Nat) (host : Option (List Byte)) (s : State) : State :=
  let head := s.get HIF_RING_STAT_CMD_HEAD r
  let size := ringSize s r
  let used := (s.get RING_STS_TAIL r + size - s.get RING_STS_HEAD r % size) % size
  if ringRuns s r = false ∨ ringServed s r = false ∨ head = s.get RING_TAIL r ∨ size < used + 3 then s
  else
    let c := ringCtx s r
    let va := 64 * s.get HIF_RING_CMD_VA r + 64 * head
    match xltFaultOf s (256 + r) with
    | some f => ringFault r f.kind s
    | none => match xltHit s c va false with
      | none => xltAsk ⟨256 + r, false, va⟩ c s
      | some e =>
        let s := (tlbUse e s).emit (.pcieRead (ctxFunc s c) (ctxPasid s c) (e.phys va) 64)
        match host with
        | none => ringFault r 5 s
        | some bs =>
          let w (i : Nat) : Nat := ofBytes ((bs.drop (4 * i)).take 4)
          let params := (bs.drop 8).take 56
          let cmd : HostCmd := ⟨r, w 1, w 0 % 2 ^ 16, w 0 / 2 ^ 16, params ++ List.replicate (56 - params.length) 0, false⟩
          let s := s.put HIF_RING_STAT_CMD_HEAD r ((head + 1) % size)
          ringTurn { s with fetched := s.fetched ++ [cmd] }

/-- A write of a ring's page by a function that does not own it is discarded (R325). -/
def ringGate (q : Requester) (r : Nat) (k : State → State) (s : State) : State :=
  match hostFunc q with
  | none => s.refuse q 0
  | some f => if f = ringFunc s r then k s else s.sat HIF_CNT_DB_FOREIGN 0

/-- A doorbell, discarded while EN = 0 (R327). -/
def doorbell (F : Fld) (r v : Nat) (s : State) : State :=
  if s.flag HIF_RING_CTRL_EN r then s.put F r v else s.sat HIF_RING_STAT_DB_OFF r

/-- A write of `HIF_RING_CTRL` (R329): EN = 1 zeroes the pointers and the write-back block. -/
def ringCtrlWrite (r v : Nat) (s : State) : State :=
  let was := s.flag HIF_RING_CTRL_EN r
  if bitOf v 0 then
    let s := if was then s else ((s.put HIF_RING_CTRL_LOG2 r (bitsOf v 4 4)).put HIF_RING_CTRL_EN r 1).put HIF_RING_STAT_STATE r 1
    let s := (s.put HIF_RING_STAT_CMD_HEAD r 0).put RING_STS_TAIL r 0
    ringFlush r { s with replies := s.replies ++ [⟨r, [], false⟩] }
  else
    let s := if was then ringMute r (xltForget (256 + r) s) else s.put HIF_RING_CTRL_LOG2 r (bitsOf v 4 4)
    (s.put HIF_RING_CTRL_EN r 0).put HIF_RING_STAT_STATE r 0

/-- A write of one of a ring's three addresses: ignored while EN = 1. -/
def ringVaWrite (F : Fld) (r v : Nat) (s : State) : State := if s.flag HIF_RING_CTRL_EN r then s else s.put F r (v / 64)

/-- A ring is disabled, and the replies of its commands are discarded (R338). -/
def ringDisable (r : Nat) (s : State) : State := ringCtrlWrite r (16 * s.get HIF_RING_CTRL_LOG2 r) s

/-! ### Wickets (R332 to R337) -/

/-- The fields of a direction: 0 AB, 1 BA. -/
def wLen (d : Nat) : Fld := if d = 0 then WKT_CTL_AB_LEN else WKT_CTL_BA_LEN
def wGo (d : Nat) : Fld := if d = 0 then WKT_CTL_AB_GO else WKT_CTL_BA_GO
def wColl (d : Nat) : Fld := if d = 0 then WKT_CTL_AB_COLLISION else WKT_CTL_BA_COLLISION
def wRej (d : Nat) : Fld := if d = 0 then WKT_STAT_REJ_AB else WKT_STAT_REJ_BA

/-- The code of a requester as a side; none may be no side (R332). -/
def sideOf : Requester → Option Nat
  | .course n => some n.val
  | .cc => some 32
  | .pcs => some 33
  | .pf => some 34
  | .vf f => if f.val = 0 then none else some (34 + f.val)
  | _ => none

/-- The sender and the receiver of a direction. -/
def wktSender (s : State) (w d : Nat) : Nat := s.get (if d = 0 then WKT_CFG_SIDE_A else WKT_CFG_SIDE_B) w
def wktReceiver (s : State) (w d : Nat) : Nat := s.get (if d = 0 then WKT_CFG_SIDE_B else WKT_CFG_SIDE_A) w

/-- A side counts as powered down (R335). -/
def sideDown (s : State) (side : Nat) : Bool :=
  if side < 32 then s.get CRS_STAT_STATE side == crsOff
  else if side = 33 then !s.domOn domPortcullis
  else if 34 ≤ side ∧ side < 50 then !s.flag PCIE_UP 0 || s.flag FN_D3 (side - 34)
  else false

/-- The wake bit of a direction's receiver acts (R335): for the Portcullis and for host functions. -/
def wktWakes (s : State) (w d : Nat) : Bool :=
  let side := wktReceiver s w d
  (side == 33 || (decide (34 ≤ side) && decide (side < 50))) && s.flag (if d = 0 then WKT_MODE_WAKE_B else WKT_MODE_WAKE_A) w

def wktAddr (off w : Nat) : Nat := 0x40F1_0000 + 0x100 * w + off

/-- The attention event of a side: 0 A, 1 B (R336, R339). -/
def attention (w side : Nat) (s : State) : State := s.raise (3648 + 3 * w + side)

/-- The crossing detector follows the GO bits (R336). -/
def wktCross (w : Nat) (s : State) : State :=
  if s.flag (wGo 0) w && s.flag (wGo 1) w then
    (if s.get WKT_CROSS_AT w = 0 then (s.put WKT_CROSS_AT w (s.get CORE_COUNT 0 + 1)).put WKT_CROSS_DONE w 0 else s)
  else s.put WKT_CROSS_AT w 0

/-- A receiver that is powered down is woken (R335). -/
def wakeSide (side : Nat) (s : State) : State :=
  if side = 33 then s.put PCS_WAKE 0 1
  else if 34 ≤ side ∧ side < 50 then s.emit (.pme (side - 34))
  else s

/-- The receiver's attention event, held until it is up (R335). -/
def wktAttend (w d : Nat) (s : State) : State :=
  let side := wktReceiver s w d
  if sideDown s side then wakeSide side (s.put WKT_HELD (2 * w + d) 1) else attention w (1 - d) s

/-- A side has come up: its held attention events are raised (R335). -/
def sideUp (side : Nat) (s : State) : State :=
  overList (fun (e : Nat × Nat) (t : State) =>
    if wktReceiver t (e.1 / 2) (e.1 % 2) = side then attention (e.1 / 2) (1 - e.1 % 2) (t.put WKT_HELD e.1 0) else t)
    (s.listed WKT_HELD) s

/-- What becomes of a sender's write to direction d (R334, R335): rejected with an error response, or let through with
COLLISION set where the direction is FULL. -/
def senderWrite (q : Requester) (a w d : Nat) (k : State → State) (s : State) : State :=
  if sideDown s (wktReceiver s w d) && !wktWakes s w d then (s.sat WKT_STAT_DOWN_REJ w).refuse q a 2
  else if !s.flag (wGo d) w then k s
  else if s.flag WKT_MODE_COMPAT w then (k s).put (wColl d) w 1
  else (s.sat (wRej d) w).refuse q a 2

/-- A Wicket register of the register region is reached under R22, R332 and R381; a Course may be a side of it. -/
def wktGate (q : Requester) (a w : Nat) (k : State → State) (s : State) : State :=
  let may := if w < 32 then s.permit q .registers a true else .yes
  match may with
  | .yes => k s
  | p => s.denied q a p

/-- A write of data word i of direction d (R332 to R334). -/
def wktDataWrite (q : Requester) (w d i v : Nat) (s : State) : State :=
  let a := wktAddr (0x80 * d + 4 * i) w
  wktGate q a w (fun s =>
    if sideOf q = some (wktSender s w d) then senderWrite q a w d (fun s => s.put WKT_DATA (32 * w + 16 * d + i) v) s
    else s.refuse q a) s

/-- The sender's part of a control write: LEN, and GO (R333, R334). -/
def wktSend (w d v : Nat) (s : State) : State :=
  let s := s.put (wLen d) w (bitsOf v 0 5)
  if bitOf v 8 then wktCross w (wktAttend w d (s.put (wGo d) w 1)) else s

/-- The receiver's part: ACK (R333). -/
def wktAcked (w d : Nat) (s : State) : State :=
  if s.flag (wGo d) w then wktCross w (attention w d (s.put (wGo d) w 0)) else s

/-- A write of the control register of direction d: ACK takes effect first, COLLISION is cleared by either side (R332 to
R334). -/
def wktCtlWrite (q : Requester) (w d v : Nat) (s : State) : State :=
  let a := wktAddr (0x40 + 0x80 * d) w
  wktGate q a w (fun s =>
    let snd := sideOf q = some (wktSender s w d)
    let rcv := sideOf q = some (wktReceiver s w d)
    let clear (s : State) : State := if bitOf v 10 then s.put (wColl d) w 0 else s
    if !snd && !rcv then s.refuse q a
    else
      let s := if rcv && bitOf v 9 then wktAcked w d s else s
      if snd then senderWrite q a w d (fun s => wktSend w d v (clear s)) s
      else clear s) s

/-- Both directions have stayed FULL for CROSS_TIMEOUT (R336). -/
def wktCrossed (w : Nat) (s : State) : State :=
  let at' := s.get WKT_CROSS_AT w
  if at' ≠ 0 ∧ s.flag WKT_CROSS_DONE w = false ∧
      max 1 (s.get WKT_MODE_CROSS_TIMEOUT w) * 800 ≤ s.get CORE_COUNT 0 + 1 - at' then
    ((s.put WKT_CROSS_DONE w 1).put WKT_STAT_CROSSED w 1).raise (3648 + 3 * w + 2)
  else s

/-- Sides that Wicket w accepts (R332). -/
def sideAccepted (w side : Nat) : Bool := decide (32 ≤ w) || [32, 33, 34, 63].contains side

/-- A write of `WKT_CFG` (R332). -/
def wktCfgWrite (w v : Nat) (s : State) : State :=
  if sideAccepted w (bitsOf v 0 6) && sideAccepted w (bitsOf v 6 6) then
    s.setFlds w v [WKT_CFG_SIDE_A, WKT_CFG_SIDE_B, WKT_CFG_PRIO_A, WKT_CFG_PRIO_B]
  else s

/-! ### Events of functions (R338) -/

/-- Direction d of a Wicket loses the function that is one of its sides (R338). -/
def wktDropDir (side w d : Nat) (s : State) : State :=
  let s := if wktSender s w d = side then (s.put (wGo d) w 0).put (wColl d) w 0 else s
  if wktReceiver s w d = side ∧ s.flag (wGo d) w then
    attention w d (((s.put (wGo d) w 0).put WKT_STAT_FLR_DROP w 1).put WKT_HELD (2 * w + d) 0)
  else s

/-- A Wicket loses the function that is one of its sides; with `wake`, not the directions that wake it (R338). -/
def wktDrop (side : Nat) (wake : Bool) (w : Nat) (s : State) : State :=
  let wakes := (wktReceiver s w 0 == side && s.flag WKT_MODE_WAKE_B w) || (wktReceiver s w 1 == side && s.flag WKT_MODE_WAKE_A w)
  if wktSender s w 0 ≠ side ∧ wktSender s w 1 ≠ side then s
  else if wake && wakes then s
  else wktCross w (wktDropDir side w 1 (wktDropDir side w 0 s))

/-- Whether the debug access port is open (17 R383), as `DEV_CAP` shows it. -/
def debugSync (s : State) : State :=
  let lc := s.get PCS_LC_STATE 0
  s.putFlag DEV_CAP_DEBUG_OPEN 0 (!s.flag PCS_FUSE_DEBUG_KILL 0 &&
    (lc == 0 || ((lc == 1 || lc == 3) && s.flag HIF_PF_SEC_SEC_EN 0)))

/-- SEC_EN clears, which ends the session (R322, 17 R390); `cause` is the end cause of PCS_SESSION. -/
def sessionEnd (cause : Nat) (s : State) : State :=
  if s.flag HIF_PF_SEC_SEC_EN 0 then (debugSync (s.put HIF_PF_SEC_SEC_EN 0 0)).raise 98 (2 * cause) else s

/-- A function-level reset, D3hot entry or link down, for one function (R338). -/
def functionGone (f : Nat) (wake : Bool) (s : State) : State :=
  let s := overRange (wktDrop (34 + f) wake) 64 s
  let s := overRange (fun r t => if ringFunc t r = f then ringDisable r t else t) 32 s
  let s := overRange (fun k t => if t.get XLT_STR_CFG_OWNER k = 33 + f then strAbort k .none t else t) 128 s
  let s := msixMaskAll f s
  if f = 0 then sessionEnd 4 s else s

/-- FUNCTION_LEVEL_RESET also returns the function's own PCIe registers to their reset values (PRESUMED, log entry 27). -/
def functionReset (f : Nat) (s : State) : State :=
  let s := functionGone f false s
  let s := ((s.put MSIX_EN f 0).put MSIX_FMASK f 0).put FN_D3 f 0
  let s := overRange (fun k t => t.put HIF_BAR (4 * f + k) 0) 4 s
  let s := ((s.put PCI_DEVCTL f (2 ^ 12 * 2 + 2 ^ 5 * bitsOf (s.get PCI_DEVCTL f) 5 3)).put PCI_DEVCTL2 f 0).put PCI_AERCTL f 0
  if f = 0 then overRange (fun g t => t.put HIF_VF_ON g 0) 16 s else s

/-- A function enters D3hot (R338). -/
def d3Enter (f : Nat) (s : State) : State := if s.flag FN_D3 f then s else (functionGone f true s).put FN_D3 f 1

/-- A function is back in D0: the attention events held for it are raised (R335). -/
def d3Leave (f : Nat) (s : State) : State :=
  let s := s.put FN_D3 f 0
  if s.flag PCIE_UP 0 then sideUp (34 + f) s else s

/-! ### The commands' meanings -/

/-- FUNCTION_LEVEL_RESET (R338). -/
def execFunctionLevelReset (f : Fin 16) (s : State) : Result := .next (functionReset f s)

/-- D3HOT_ENTRY (R338). -/
def execD3hotEntry (f : Fin 16) (s : State) : Result := .next (d3Enter f s)

/-- D0_ENTRY (R335). -/
def execD0Entry (f : Fin 16) (s : State) : Result := .next (d3Leave f s)

/-- WALK_ENTRY_READ (13 R311): the entry that the i-th walk in flight has read; streams and rings that waited go on. -/
def execWalkEntryRead (i : Fin 16) (r : Option (BitVec 64)) (s : State) : Result :=
  .next (match s.walks[i.val]? with
    | some w => ringFlushAll (strPlanAll (walkEntry w (r.map BitVec.toNat) s))
    | none => s)

/-- HIF_DB_CMD (R327). -/
def execHifDbCmd (q : Requester) (r : Fin 32) (v : BitVec 12) (s : State) : Result :=
  .next (ringGate q r (doorbell RING_TAIL r v.toNat) s)

/-- HIF_DB_STS (R327). -/
def execHifDbSts (q : Requester) (r : Fin 32) (v : BitVec 12) (s : State) : Result :=
  .next (ringGate q r (fun s => ringTurn (ringFlush r (doorbell RING_STS_HEAD r v.toNat s))) s)

/-- DESCRIPTOR_FETCH (R327): the 64 bytes that host memory answers, none for an unsuccessful completion. -/
def execDescriptorFetch (r : Fin 32) (host : Option (List Byte)) (s : State) : Result := .next (ringFetch r host s)

/-- HIF_RING_ENABLE (R329): a write of the whole register. -/
def execHifRingEnable (q : Requester) (r : Fin 32) (v : Byte) (s : State) : Result :=
  .next (ringGate q r (ringCtrlWrite r v.toNat) s)

/-- WKT_DATA_WRITE (R334): word i of direction d (0 AB, 1 BA). -/
def execWktDataWrite (q : Requester) (w : Fin 64) (d : Fin 2) (i : Fin 16) (v : Word) (s : State) : Result :=
  .next (wktDataWrite q w d i v.toNat s)

/-- WKT_GO (R333): a write of the control register with GO = 1 and LEN. -/
def execWktGo (q : Requester) (w : Fin 64) (d : Fin 2) (len : BitVec 5) (s : State) : Result :=
  .next (wktCtlWrite q w d (len.toNat + 2 ^ 8) s)

/-- WKT_ACK (R333). -/
def execWktAck (q : Requester) (w : Fin 64) (d : Fin 2) (s : State) : Result := .next (wktCtlWrite q w d (2 ^ 9) s)

/-- WICKET_CROSSED (R336). -/
def execWicketCrossed (w : Fin 64) (s : State) : Result := .next (wktCrossed w s)

/-- WKT_CFG_WRITE (R332). -/
def execWktCfgWrite (q : Requester) (w : Fin 64) (v : BitVec 20) (s : State) : Result :=
  .next (s.gateCC q (wktAddr 0xE0 w) (wktCfgWrite w v.toNat))

end Sys2Proof.Machine
end

