-- ==== Sys2Proof/Machine/Ledger.lean ====
section
/-! DEFINITION. The Ledger (16): the window, staging and quotas, the journal, the applier, compaction, scrubbing and
remapping, key rotation and power failure. The home pages stand in the byte memory at the device addresses of the window; the
records of the journal lie over them, and staged entries over those. -/

namespace Sys2Proof.Machine

/-! ### Internal cells -/

/-- The directory (R352): state of a logical page (0 as its area has it, else 1 FREE, 2 USED, 3 SYSTEM, 4 RETIRED), the
physical page that serves it (plus 1; 0 for the page of the same number), and whether a physical page is marked bad. -/
def LDG_PAGE : Fld := ⟨1380, 0, 3, .int, 0, .keep, .none⟩
def LDG_PHYS : Fld := ⟨1381, 0, 15, .int, 0, .keep, .none⟩
def LDG_PHYS_BAD : Fld := ⟨1382, 0, 1, .int, 0, .keep, .none⟩
/-- A sector's metadata (R351, R354, R355): unreadable (1 uncorrectable, 2 authentication), write counter, key generation,
authentication tag. -/
def LDG_SECTOR_BAD : Fld := ⟨1383, 0, 2, .int, 0, .keep, .none⟩
def LDG_SECTOR_CTR : Fld := ⟨1384, 0, 48, .int, 0, .keep, .none⟩
def LDG_SECTOR_GEN : Fld := ⟨1385, 0, 32, .int, 0, .keep, .none⟩
def LDG_SECTOR_TAG : Fld := ⟨1560, 0, 128, .int, 0, .keep, .none⟩
/-- Writes of every sector of a partition at once, by key class (17 R393): counted beside the sectors' own counters. -/
def LDG_CTR_BASE : Fld := ⟨1386, 0, 48, .int, 0, .keep, .none⟩
/-- Writes accepted; the number of those a flush in progress covers (R360). -/
def LDG_SEQ : Fld := ⟨1387, 0, 64, .int, 0, .reset, .none⟩
def LDG_TARGET : Fld := ⟨1388, 0, 64, .int, 0, .reset, .none⟩
/-- The number of the latest journal record; what a compaction has written of the directory, in quanta of 16 sectors, and the journal
position of that copy; the sequence of the anchor in force (R359, R374; 18 R407). -/
def LDG_REC_SEQ : Fld := ⟨1389, 0, 64, .int, 0, .keep, .none⟩
def LDG_COMP_AT : Fld := ⟨1561, 0, 6, .int, 0, .reset, .none⟩
def LDG_COMP_POS : Fld := ⟨1562, 0, 64, .int, 0, .reset, .none⟩
def LDG_ANCHOR : Fld := ⟨1390, 0, 64, .int, 0, .keep, .none⟩
/-- The scrubber (R363): its next logical page, the core clock count at which its period began, the round was reported late,
pages to read again after a refresh, pages to be remapped. -/
def LDG_SCRUB_PAGE : Fld := ⟨1391, 0, 14, .int, 0, .reset, .none⟩
def LDG_SCRUB_AT : Fld := ⟨1392, 0, 64, .int, 0, .reset, .none⟩
def LDG_SCRUB_TOLD : Fld := ⟨1393, 0, 1, .int, 0, .reset, .none⟩
def LDG_REMAP_DUE : Fld := ⟨1394, 0, 1, .int, 0, .reset, .none⟩
def LDG_REREAD : Fld := ⟨1395, 0, 1, .int, 0, .reset, .none⟩
/-- Power failure (R367): the grant plus 1, the records written, and those of each class; and, kept without power, a commit began (1) or
was sealed (2), its grant, and the entries lost and written of each class. -/
def LDG_PF_G : Fld := ⟨1396, 0, 32, .int, 0, .reset, .none⟩
def LDG_PF_WRITTEN : Fld := ⟨1397, 0, 32, .int, 0, .reset, .none⟩
def LDG_NV_PF : Fld := ⟨1398, 0, 2, .int, 0, .keep, .none⟩
def LDG_NV_LOST : Fld := ⟨1399, 0, 13, .int, 0, .keep, .none⟩
def LDG_PF_CLS : Fld := ⟨1563, 0, 13, .int, 0, .reset, .none⟩
def LDG_NV_WRITTEN : Fld := ⟨1564, 0, 13, .int, 0, .keep, .none⟩
def LDG_NV_GRANT : Fld := ⟨1400, 0, 13, .int, 0, .keep, .none⟩
/-- The generation floor in the key store of key class 0 general, 1 secure, which is the generation in force; the class of an open
rotation plus 1 (R375, 17 R386). The wipe epoch (17 R386). -/
def LDG_KEY_GEN : Fld := ⟨1401, 0, 32, .int, 0, .keep, .none⟩
def LDG_ROT : Fld := ⟨1402, 0, 2, .int, 0, .keep, .none⟩
def KEY_EPOCH : Fld := ⟨1410, 0, 32, .int, 0, .keep, .none⟩
/-- A page of the system area that has left the journal ring (R366). -/
def LDG_OUT : Fld := ⟨1543, 0, 1, .int, 0, .keep, .none⟩
/-- The number of the latest host command that wrote to the Ledger. -/
def LDG_CMD : Fld := ⟨1404, 0, 64, .int, 0, .reset, .none⟩

def ldgAddr (off : Nat) : Nat := 0x4110_0000 + off
/-- The first device address of the window. -/
def ldgBase : Nat := 0x2000_0000

def ldgRecovering : Nat := 0
def ldgReady : Nat := 1
def ldgPowerFail : Nat := 2
def ldgPfDone : Nat := 3

/-! ### Pages (R351, R352) -/

def pageFree : Nat := 1
def pageUsed : Nat := 2
def pageSystem : Nat := 3
def pageRetired : Nat := 4

/-- The directory's state of a logical page. -/
def pageState (s : State) (l : Nat) : Nat :=
  let x := s.get LDG_PAGE l
  if x ≠ 0 then x
  else if l < 12544 then pageFree
  else if l < 14592 then pageUsed
  else if l < 15104 then pageSystem
  else pageUsed

/-- A page of the image slots; of the secure partition. -/
def slotPage (l : Nat) : Bool := decide (12544 ≤ l) && decide (l < 14592)
def securePage (l : Nat) : Bool := decide (15104 ≤ l) && decide (l < 15360)

/-- The first offset of slot `k` in the window. -/
def slotOff (k : Nat) : Nat := 0x310_0000 + k * 0x10_0000

/-- Device address of an offset in the window. -/
def ldgByte (off : Nat) : Nat := ldgBase + off

/-! ### Errors (R353, R354) -/

/-- An error is recorded in `LDG_ERR`, the first since VALID was cleared. -/
def ldgError (off kind : Nat) (s : State) : State :=
  if s.flag LDG_ERR_VALID 0 then s
  else ((s.put LDG_ERR_ADDR 0 off).put LDG_ERR_KIND 0 kind).put LDG_ERR_VALID 0 1

/-- The DETAIL word of events 68 to 70: ADDR and KIND of `LDG_ERR` (21 R465). -/
def ldgDetail (s : State) : Nat := s.get LDG_ERR_ADDR 0 + 2 ^ 26 * s.get LDG_ERR_KIND 0

/-- A refused write (R353, R365, R367). -/
def ldgRefused (off kind : Nat) (s : State) : State :=
  let s := ldgError off kind s
  s.raise 70 (ldgDetail s)

/-! ### Staging (R356 to R358) -/

/-- The staged entry of a sector. -/
def stagedOf (s : State) (sector : Nat) : Option LdgEntry := s.staged.find? (fun e => e.sector == sector)

/-- An entry holds its whole sector. -/
def LdgEntry.full (e : LdgEntry) : Bool := e.bytes.length == 256

/-- The newest journal record that holds a sector. -/
def recordOf (s : State) (k : Nat) : Option LdgRecord := (s.journal.filter (fun r => r.sector == k && r.bytes != [])).getLast?

/-- The durable byte at an offset of the window: of the journal, else of the home page (R356, R359). -/
def durByte (s : State) (off : Nat) : Byte :=
  match recordOf s (off / 256) with
  | some r => r.bytes[off % 256]?.getD 0
  | none => s.byte (ldgByte off)
def durBytes (s : State) (off n : Nat) : List Byte := (List.range n).map (fun k => durByte s (off + k))
def durWord (s : State) (off : Nat) : Nat := ofBytes (durBytes s off 4)

/-- The newest byte at an offset of the window (R356). -/
def ldgNewest (s : State) (off : Nat) : Byte :=
  match stagedOf s (off / 256) with
  | some e => (tblFind e.bytes (off % 256)).getD (durByte s off)
  | none => durByte s off

/-- The newest bytes from an offset on. -/
def ldgBytes (s : State) (off n : Nat) : List Byte := (List.range n).map (fun k => ldgNewest s (off + k))

def stagedCount (s : State) (cls : Nat) : Nat := (s.staged.filter (fun e => e.cls == cls)).length

/-- `LDG_STAGED` follows the staging memory. -/
def ldgCount (s : State) : State :=
  ((s.put LDG_STAGED_ROUT 0 (stagedCount s 0)).put LDG_STAGED_IMP 0 (stagedCount s 1)).put LDG_STAGED_CRIT 0 (stagedCount s 2)

/-- Entries that a class may have: its quota in units of 64 KiB, 256 entries each (R358). -/
def ldgQuota (s : State) (cls : Nat) : Nat :=
  256 * s.get (if cls = 0 then LDG_QUOTA_ROUT else if cls = 1 then LDG_QUOTA_IMP else LDG_QUOTA_CRIT) 0

/-- The class of a write as it would be accepted now (R357). -/
def LdgWrite.clsNow (w : LdgWrite) (s : State) : Nat :=
  match w.who with
  | some .cc => min 2 (s.get LDG_WCLS_CC_CLASS 0)
  | some .pcs => min 2 (s.get LDG_WCLS_PC_CLASS 0)
  | _ => w.cls

/-- The quotas have room for a write (R358), and no reset waits for its flush, nor does the fatal-fault path (19 R431, R433). -/
def ldgRoom (w : LdgWrite) (s : State) : Bool :=
  let c := w.clsNow s
  if s.get RST_REQ 0 ≠ 0 ∨ s.get FATAL_PATH 0 ≠ 0 then false else
  match stagedOf s (w.off / 256) with
  | some e => decide (c ≤ e.cls) || decide (stagedCount s c < ldgQuota s c)
  | none => decide (stagedCount s c < ldgQuota s c)

/-- Bytes put over an entry's. -/
def ldgMerge (t : List (Nat × Byte)) (at' : Nat) : List Byte → List (Nat × Byte)
  | [] => t
  | b :: bs => ldgMerge (tblPut t at' b) (at' + 1) bs

/-- A write that no requester and no command made: a refresh, which rewrites what its sector holds (R363). -/
def LdgWrite.refresh (w : LdgWrite) : Bool := w.who.isNone && w.cmd.isNone

/-- A write is accepted into the staging memory (R357). -/
def ldgAccept (w : LdgWrite) (s : State) : State :=
  let c := w.clsNow s
  let k := w.off / 256
  let w : LdgWrite := if w.refresh then { w with bytes := ldgBytes s (256 * k) 256 } else w
  let n := s.get LDG_SEQ 0 + 1
  let s := s.put LDG_SEQ 0 n
  match stagedOf s k with
  | some _ => ldgCount { s with staged := s.staged.map (fun e =>
      if e.sector = k then { e with bytes := ldgMerge e.bytes (w.off % 256) w.bytes, cls := max e.cls c } else e) }
  | none => ldgCount { s with staged := s.staged ++ [⟨k, ldgMerge [] (w.off % 256) w.bytes, c, n⟩] }

/-- Why a write by a requester is refused: the KIND of `LDG_ERR`, 0 for no refusal (R353, R365, R367; 01 R22). -/
def ldgWhyNot (q : Option Requester) (off : Nat) (s : State) : Nat :=
  let l := off / 4096
  let allowed := match q with
    | none => true
    | some q => s.permit q (regionOf (ldgByte off)) (ldgByte off) true == .yes
  if ldgPowerFail ≤ s.get LDG_STAT_STATE 0 then 5
  else if !allowed then 6
  else if pageState s l = pageSystem then 4
  else if pageState s l = pageRetired then 3
  else 0

/-- A staged entry holds one of the writes up to number `target`. -/
def ldgHolds (s : State) (target : Nat) : Bool := s.staged.any (fun e => decide (e.first ≤ target))

/-- A command whose flush has completed: its outcome is known, or its next step follows (R370, R377). -/
def flushNext (c : AsyncCmd) (next : Nat) : AsyncCmd :=
  if next = 0 then { c with done := some (0, 0, []) } else { c with wait := .step next }

/-- A flush completes once every write it covers is durable (R360), and so does each command that waits for one. -/
def ldgFlushed (s : State) : State :=
  let s : State := { s with cmds := s.cmds.map (fun c =>
    match c.wait, c.done with
    | .flush t n, none => if ldgHolds s t then c else flushNext c n
    | _, _ => c) }
  if s.flag LDG_FLUSH_BUSY 0 && !ldgHolds s (s.get LDG_TARGET 0) then (s.put LDG_FLUSH_BUSY 0 0).raise 64 else s

/-- GO starts or extends a flush (R360). -/
def ldgGo (s : State) : State := ldgFlushed ((s.put LDG_TARGET 0 (s.get LDG_SEQ 0)).put LDG_FLUSH_BUSY 0 1)

/-- A host command all of whose writes have been accepted flushes (R377). -/
def ldgCmdStep (id : Nat) (s : State) : State :=
  if s.ldgWait.any (fun w => w.cmd == some id) then s
  else ldgGo { s with cmds := s.cmds.map (fun c =>
    match c.wait, c.done with
    | .ledger i n, none => if i = id then { c with wait := .flush (s.get LDG_SEQ 0) n } else c
    | _, _ => c) }

/-- A write that is not refused is accepted, or waits (R358). -/
def ldgOffer (w : LdgWrite) (s : State) : State :=
  if ldgRoom w s then ldgAccept w s else { s with ldgWait := s.ldgWait ++ [w] }

/-- The oldest waiting write for which its quota has room. -/
def ldgNext (s : State) : List LdgWrite → Option LdgWrite
  | [] => none
  | w :: ws => if ldgRoom w s then some w else ldgNext s ws

/-- A write to the window by a requester; `none` of the answer says it must wait (R353, R357, R358). -/
def ldgStore (q : Requester) (off : Nat) (bs : List Byte) (s : State) : State :=
  let why := ldgWhyNot (some q) off s
  let w : LdgWrite := ⟨some q, none, off, bs, 0⟩
  if why = 0 then ldgOffer w s
  else
    let a := ldgByte off
    let s := ldgRefused off why s
    if why = 6 then s.denied q a (s.permit q (regionOf a) a true) else s.refuse q a

/-- A range is cut at the sectors' ends. -/
def cutSectors : Nat → Nat → List Byte → List (Nat × List Byte)
  | 0, _, _ => []
  | fuel + 1, off, bs =>
    if bs = [] then [] else
    let n := 256 - off % 256
    (off, bs.take n) :: cutSectors fuel (off + n) (bs.drop n)

/-- The first retired page that a range touches. -/
def retiredIn (s : State) (off n : Nat) : Option Nat :=
  ((List.range ((off + n - 1) / 4096 + 1 - off / 4096)).map (fun i => off / 4096 + i)).find? (fun l => pageState s l == pageRetired)

/-- A command's bytes are written, sector by sector. -/
def ldgWriteAll (who : Option Requester) (id off cls : Nat) (bs : List Byte) (s : State) : State :=
  overList (fun (x : Nat × List Byte) (u : State) => ldgOffer ⟨who, some id, x.1, x.2, cls⟩ u) (cutSectors (bs.length + 1) off bs) s

/-! ### Slot records and the words of the secure partition (R371, R373, R375) -/

/-- Word `i` of the slot record of slot `k` (R371), as it is in force: durable (R370). -/
def slotWord (s : State) (k i : Nat) : Nat := durWord s (slotOff k + 4 * i)
/-- STATE of a slot: 3 acts as 0. -/
def slotState (s : State) (k : Nat) : Nat := slotWord s k 0 % 4 % 3
def slotGen (s : State) (k : Nat) : Nat := slotWord s k 0 / 256
def slotValid (s : State) (k : Nat) : Bool := slotState s k == 2

/-- The key word of key class `c`, and the minimum SVN of CPF and CP at `i` = 256 CPF + CP: where they stand in the secure partition is
the model's (log entry 198). -/
def keyWordOff (c : Nat) : Nat := 0x3B0_0000 + 4 * c
def svnOff (i : Nat) : Nat := 0x3B4_0000 + 4 * i
def svnMin (s : State) (i : Nat) : Nat := ofBytes (ldgBytes s (svnOff i) 4)

/-! ### The engines' algorithms over SHA-384 (17 R384) -/

/-- SHA-384 of some octets: 48 octets, the most significant first. -/
def sha384 (bs : List Byte) : List Byte := (List.range 48).map (Config.sha384Byte bs)

/-- HMAC-SHA-384: a block has 128 octets. -/
def hmac384 (key msg : List Byte) : List Byte :=
  let k := if 128 < key.length then sha384 key else key
  let k := k ++ List.replicate (128 - k.length) 0
  sha384 (k.map (fun b => b ^^^ 0x5C) ++ sha384 (k.map (fun b => b ^^^ 0x36) ++ msg))

/-- The key derivation of SP 800-108 in counter mode with HMAC-SHA-384: `n` octets from a key, a label and a context; counter and length
are 32-bit, most significant byte first. -/
def kdf384 (key label context : List Byte) (n : Nat) : List Byte :=
  ((List.range ((n + 47) / 48)).flatMap (fun i =>
    hmac384 key ((toBytes 4 (i + 1)).reverse ++ label ++ [0] ++ context ++ (toBytes 4 (8 * n)).reverse))).take n

/-- A key of the Ledger (17 R386), derived from the device-unique secret: of the general data (class 0, by generation), of the secure
partition (class 1, by generation and wipe epoch), of slot s (class 2 + s, by generation). -/
def ledgerKey (c gen epoch : Nat) : List Byte :=
  kdf384 ((List.range 32).map Config.deviceSecret) (Config.keyLabel c) (Config.keyContext c gen epoch) 32

/-! ### Encryption (R355) -/

/-- The key class of a sector: 0 general, 1 secure, 2 a slot's image (R355, R371). -/
def sectorClass (k : Nat) : Nat :=
  if securePage (k / 16) then 1 else if slotPage (k / 16) && k * 256 % 0x10_0000 != 0 then 2 else 0

/-- The slot that a sector of the slot pages belongs to. -/
def sectorSlot (k : Nat) : Nat := (256 * k - 0x310_0000) / 0x10_0000

/-- The key generation under which a sector is written now: k + 1 while a rotation of its class is open; of a slot, the generation that
the image being written will have (R371, R372, R375). -/
def genNow (s : State) (k : Nat) : Nat :=
  let c := sectorClass k
  if c = 2 then slotWord s (sectorSlot k) 2 + (if slotState s (sectorSlot k) = 1 then 1 else 0)
  else s.get LDG_KEY_GEN c + (if s.get LDG_ROT 0 = c + 1 then 1 else 0)

/-- A sector's write counter (R355). -/
def sectorCtr (s : State) (k : Nat) : Nat := s.get LDG_SECTOR_CTR k + s.get LDG_CTR_BASE (sectorClass k)

/-- The nonce of a sector by its write counter: 96 bits; the additional authenticated data: partition byte and key generation. -/
def sectorNonce (k ctr : Nat) : List Byte := toBytes 12 (k / 16 * 2 ^ 82 + k % 16 * 2 ^ 78 + ctr % 2 ^ 48)
def sectorAad (k gen : Nat) : List Byte := toBytes 1 (sectorClass k) ++ toBytes 4 gen

/-- The key of a sector (17 R386). -/
def sectorKey (s : State) (k gen : Nat) : List Byte :=
  match sectorClass k with
  | 0 => ledgerKey 0 gen 0
  | 1 => ledgerKey 1 gen (s.get KEY_EPOCH 0)
  | _ => ledgerKey (2 + sectorSlot k) gen 0

/-- A sector as it is stored, and its tag, for a write counter and a generation. -/
def sectorText (s : State) (k ctr gen : Nat) (bs : List Byte) : List Byte :=
  Config.gcmText (sectorKey s k gen) (sectorNonce k ctr) (sectorAad k gen) bs
def sectorTag (s : State) (k ctr gen : Nat) (bs : List Byte) : List Byte :=
  Config.gcmTag (sectorKey s k gen) (sectorNonce k ctr) (sectorAad k gen) bs

/-- A sector is written once more, with content `bs`, under its present key: its metadata (R351, R355). -/
def sectorWritten (k : Nat) (bs : List Byte) (s : State) : State :=
  let gen := genNow s k
  let t := s.put LDG_SECTOR_CTR k (s.get LDG_SECTOR_CTR k + 1)
  (t.put LDG_SECTOR_GEN k gen).put LDG_SECTOR_TAG k (ofBytes (sectorTag t k (sectorCtr t k) gen bs))

/-! ### Journal records (R359, R361, R364) -/

/-- The CRC-32C over a record (the order of its parts is the model's, log entry 198). -/
def LdgRecord.crcOf (r : LdgRecord) : Nat :=
  crc32c (toBytes 8 r.seq ++ toBytes 4 r.sector ++ toBytes 1 r.cls ++ r.text ++ r.tag ++ (match r.dir with
    | some d => toBytes 1 d.1 ++ toBytes 2 d.2
    | none => []))

/-- A record goes to the journal ring with the next sequence number. -/
def journalPut (r : LdgRecord) (s : State) : State :=
  let n := s.get LDG_REC_SEQ 0 + 1
  let r : LdgRecord := { r with seq := n }
  { s with journal := s.journal ++ [{ r with crc := r.crcOf }] }.put LDG_REC_SEQ 0 n

/-- The directory's change of page `l` is one journal record (R364). -/
def dirRecord (l : Nat) (s : State) : State :=
  journalPut ⟨0, 16 * l, 0, [], [], [], some (s.get LDG_PAGE l, s.get LDG_PHYS l), 0⟩ s

/-- Sectors of the journal ring that hold no record. -/
def journalFree (s : State) : Nat := 16 * s.get LDG_CAP_JOURNAL_PAGES 0 - s.journal.length

/-- The ring is short of space: the applier and compaction need no grant (R361). -/
def journalShort (s : State) : Bool := decide (journalFree s < 256 * s.get LDG_QUOTA_CRIT 0 + 512)

/-- A compaction is requested (R374): it writes the directory, 16 sectors to a grant (18 R407). -/
def compactAsk (s : State) : State :=
  if s.flag LDG_STAT_COMPACTING 0 then s else ((s.put LDG_STAT_COMPACTING 0 1).put LDG_COMP_AT 0 0).bgAsk .compaction

/-- A ring that is short of space for records of the directory compacts (R361). -/
def compactDue (s : State) : State := if journalShort s && s.journal.any (fun r => r.dir.isSome) then compactAsk s else s

/-- A sector's durable content with an entry's bytes laid over it. -/
def sectorOver (s : State) (k : Nat) (bs : List (Nat × Byte)) : List Byte :=
  (List.range 256).map (fun i => (tblFind bs i).getD (durByte s (256 * k + i)))

/-- An entry is written as a journal record: it is durable. A page of the data area is in use from then on (R352); a sector written in
full is readable again (R354). -/
def ldgDurable (e : LdgEntry) (s : State) : State :=
  let k := e.sector
  let bs := sectorOver s k e.bytes
  let s := sectorWritten k bs { s with staged := s.staged.erase e }
  let first := pageState s (k / 16) == pageFree
  let s := if first then s.put LDG_PAGE (k / 16) pageUsed else s
  let gen := s.get LDG_SECTOR_GEN k
  let s := journalPut ⟨0, k, e.cls, bs, sectorText s k (sectorCtr s k) gen bs, toBytes 16 (s.get LDG_SECTOR_TAG k),
    if first then some (pageUsed, s.get LDG_PHYS (k / 16)) else none, 0⟩ s
  ldgCount (if e.full then s.put LDG_SECTOR_BAD k 0 else s)

/-- The drain writes the oldest entry (R359). -/
def ldgDrain (s : State) : State :=
  if ldgPowerFail ≤ s.get LDG_STAT_STATE 0 ∨ journalFree s = 0 then s
  else match s.staged with
    | [] => s
    | e :: _ => compactDue (ldgFlushed ((ldgDurable e s).bgAsk .applier))

/-- A record is written home (R361). -/
def recordHome (r : LdgRecord) (s : State) : State := s.putBytes (ldgByte (256 * r.sector)) r.bytes

/-- What is left of a record that has been written home: its change of the directory, until a compaction contains it (R374). -/
def LdgRecord.left (r : LdgRecord) : Option LdgRecord := if r.dir.isSome then some { r with bytes := [], text := [] } else none

/-- Bytes that recovery writes to the home pages, sector by sector (R376). -/
def homePut (off : Nat) (bs : List Byte) (s : State) : State :=
  let s := s.putBytes (ldgByte off) bs
  overRange (fun i t => sectorWritten (off / 256 + i) (durBytes t (256 * (off / 256 + i)) 256) t)
    ((off % 256 + bs.length + 255) / 256) s

/-! ### Reads (R354 to R356, R363) -/

/-- A sector is rewritten through the journal unless it already holds a staged entry (R363); a RETIRED page takes no write (R365). -/
def ldgRewrite (k : Nat) (s : State) : State :=
  if pageState s (k / 16) == pageRetired || (stagedOf s k).isSome || s.ldgWait.any (fun w => w.refresh && w.off == 256 * k) then s
  else ldgOffer ⟨none, none, 256 * k, [], 0⟩ s

/-- A refresh; a power failure has no more writes (R367). -/
def ldgRefresh (k : Nat) (s : State) : State :=
  if ldgPowerFail ≤ s.get LDG_STAT_STATE 0 then s else ldgRewrite k (s.put LDG_REREAD (k / 16) 1)

/-- Corrected bits of a read in all, and the most in one codeword. -/
def corrTotal (bs : List (Fin 4)) : Nat := (bs.map (fun b => b.val)).foldl (· + ·) 0
def corrMost (bs : List (Fin 4)) : Nat := (bs.map (fun b => b.val)).foldl max 0

def refreshThr (s : State) : Nat := max 1 (s.get LDG_CTRL_REFRESH_THR 0)
def remapThr (s : State) : Nat := max 1 (s.get LDG_CTRL_REMAP_THR 0)

/-- A sector that cannot be read: 1 uncorrectable, 2 authentication. -/
def sectorError (k why : Nat) (s : State) : State :=
  let s := ldgError (256 * k) why (s.put LDG_SECTOR_BAD k why)
  if why = 1 then ((s.sat LDG_ECC_UNCORR 0).put LDG_REMAP_DUE (k / 16) 1).raise 68 (ldgDetail s)
  else (s.sat LDG_ECC_AUTH_FAIL 0).raise 69 (ldgDetail s)

/-- What the array read of a sector finds: 0 when its content is good, else 1 uncorrectable, 2 authentication. -/
def sectorRead (k : Nat) (e : LdgEcc) (s : State) : Nat × State :=
  let bad := s.get LDG_SECTOR_BAD k
  if bad ≠ 0 then (bad, sectorError k bad s)
  else match e with
    | .good => (0, s)
    | .corr bs =>
      let s := s.sat LDG_ECC_CORR 0 (corrTotal bs)
      (0, if refreshThr s ≤ corrMost bs then ldgRefresh k s else s)
    | .uncorr => (1, sectorError k 1 s)
    | .auth => (2, sectorError k 2 s)

/-- A read of the sector of an offset by a requester that may read it: staged in full or FREE needs no array read. -/
def ldgSector (k : Nat) (e : LdgEcc) (s : State) : Nat × State :=
  match stagedOf s k with
  | some x => if x.full then (0, s) else sectorRead k e s
  | none => if pageState s (k / 16) = pageFree then (0, s) else sectorRead k e s

/-- Why a read of a requester is refused: the KIND of `LDG_ERR`, 0 for none (R353). -/
def ldgReadWhyNot (q : Requester) (off : Nat) (s : State) : Nat :=
  if !(s.permit q (regionOf (ldgByte off)) (ldgByte off) false == .yes) then 6
  else if pageState s (off / 4096) = pageSystem then 4
  else if slotPage (off / 4096) && (match q with
    | .course _ => true
    | _ => false) then 4
  else 0

/-- A load from the window: 0 it answers the bytes, 1 it is refused, 2 it meets an unreadable sector (R353 to R356). -/
def ldgLoad (q : Requester) (off n : Nat) (e : LdgEcc) (s : State) : Nat × List Byte × State :=
  let a := ldgByte off
  let why := ldgReadWhyNot q off s
  if why ≠ 0 then
    let s := ldgError off why s
    (1, [], if why = 6 then s.denied q a (s.permit q (regionOf a) a false) else s.refuse q a 2)
  else match ldgSector (off / 256) e s with
    | (0, s) => (0, ldgBytes s off n, s)
    | (_, s) => (2, [], s.refuse q a 3)

/-! ### The applier, compaction, the scrubber (R361, R363, R374) -/

/-- Background work of the Ledger runs: with a grant, or without one while the ring is short (R361). -/
def ldgMay (j : BgJob) (s : State) : Bool :=
  decide (s.get LDG_STAT_STATE 0 < ldgPowerFail) && (s.bgGranted j || (j != .scrub && j != .ledgerScrub && journalShort s))

/-- The first `n` records that hold a sector, and the ring without their contents. -/
def takeHome : Nat → List LdgRecord → List LdgRecord × List LdgRecord
  | _, [] => ([], [])
  | n, r :: rs =>
    if n = 0 ∨ r.bytes = [] then
      let x := takeHome n rs
      (x.1, r :: x.2)
    else
      let x := takeHome (n - 1) rs
      (r :: x.1, r.left.toList ++ x.2)

/-- A quantum of the applier: 16 sectors are written home (R361); the pages of those in `bad` failed verification (R363). -/
def applierQuantum (bad : List Nat) (s : State) : State :=
  if !ldgMay .applier s then s
  else
    let (home, rest) := takeHome 16 s.journal
    let s : State := s.bgEnd .applier
    let s : State := overList recordHome home { s with journal := rest }
    let s := overList (fun (r : LdgRecord) (t : State) =>
      if bad.contains (r.sector / 16) then t.put LDG_REMAP_DUE (r.sector / 16) 1 else t) home s
    if s.journal.any (fun r => r.bytes != []) then s.bgAsk .applier else s

/-- The CRC-32C of an anchor record (the order of its parts is the model's, log entry 198). -/
def LdgAnchor.crcOf (a : LdgAnchor) : Nat := crc32c (toBytes 8 a.seq ++ toBytes 4 a.dir ++ toBytes 8 a.pos)

/-- The anchor in force: the copy whose CRC holds, of two the one with the higher sequence; none before the first compaction (R374). -/
def anchorNow (s : State) : Option LdgAnchor :=
  (s.anchors.filter (fun a => a.crc == a.crcOf)).foldl (fun (b : Option LdgAnchor) a =>
    match b with
    | some c => if c.seq < a.seq then some a else b
    | none => some a) none

/-- The directory copy that the anchor in force names: A, 0, before the first compaction. -/
def dirNow (s : State) : Nat := ((anchorNow s).map (fun a => a.dir)).getD 0

/-- The whole directory has been written into the other copy; a flush follows (R374). -/
def dirWrite (s : State) : State :=
  let d := 1 - dirNow s
  let c : LdgDir := ⟨d, s.listed LDG_PAGE, s.listed LDG_PHYS⟩
  ldgGo ({ s with dirCopies := s.dirCopies.filter (fun (x : LdgDir) => x.copy ≠ d) ++ [c] }.put LDG_COMP_POS 0 (s.get LDG_REC_SEQ 0))

/-- The new anchor is written into the copy that does not hold the one in force, and durable; records that its directory contains leave
the ring (R374). -/
def anchorWrite (s : State) : State :=
  let pos := s.get LDG_COMP_POS 0
  let a : LdgAnchor := ⟨((anchorNow s).map (fun a => 1 - a.copy)).getD 0, ((anchorNow s).map (fun a => a.seq)).getD 0 + 1, 1 - dirNow s, pos, 0⟩
  let s : State := { s with
    anchors := s.anchors.filter (fun (x : LdgAnchor) => x.copy ≠ a.copy) ++ [{ a with crc := a.crcOf }]
    journal := s.journal.filterMap (fun r =>
      if pos < r.seq then some r else if r.bytes = [] then none else some { r with dir := none }) }
  ((s.put LDG_ANCHOR 0 a.seq).put LDG_STAT_COMPACTING 0 0).settle .compact 0 0 []

/-- Quanta of 16 sectors in a directory copy of 32 pages (R352, 18 R407). -/
def dirQuanta : Nat := 32

/-- Compaction goes on: a quantum of the directory under its grant, or, after the flush, the new anchor (R374). -/
def compactDone (s : State) : State :=
  if !s.flag LDG_STAT_COMPACTING 0 || decide (ldgPowerFail ≤ s.get LDG_STAT_STATE 0) then s
  else if dirQuanta ≤ s.get LDG_COMP_AT 0 then (if s.flag LDG_FLUSH_BUSY 0 then s else anchorWrite s)
  else if !ldgMay .compaction s then s
  else
    let n := s.get LDG_COMP_AT 0 + 1
    let s := (s.bgEnd .compaction).put LDG_COMP_AT 0 n
    if n = dirQuanta then dirWrite s else s.bgAsk .compaction

/-- Core clock cycles of the scrub period. -/
def scrubPeriod (s : State) : Nat := max 1 (s.get LDG_CTRL_SCRUB_H 0) * 3600 * 800000000

/-- The scrub period has passed. -/
def scrubDue (s : State) : Bool := decide (s.get LDG_SCRUB_AT 0 + scrubPeriod s ≤ s.get CORE_COUNT 0)

/-- A round that has ended starts again when its period has passed; a round under way asks for its next quantum. -/
def scrubAsk (s : State) : State :=
  if s.get LDG_STAT_STATE 0 ≠ ldgReady then s
  else if s.get LDG_SCRUB_PAGE 0 < 15360 then s.bgAsk .ledgerScrub
  else if scrubDue s then
    (((s.put LDG_SCRUB_PAGE 0 0).put LDG_SCRUB_AT 0 (s.get CORE_COUNT 0)).put LDG_SCRUB_TOLD 0 0).bgAsk .ledgerScrub
  else s

/-- The next 16 pages in use, from page `l` on, and the page after them. -/
def scrubPages (s : State) : Nat → Nat → Nat → List Nat × Nat
  | 0, _, l => ([], l)
  | fuel + 1, n, l =>
    if n = 0 ∨ 15360 ≤ l then ([], l)
    else if pageState s l = pageFree then scrubPages s fuel n (l + 1)
    else
      let (ps, m) := scrubPages s fuel (n - 1) (l + 1)
      (l :: ps, m)

/-- Each listed sector is read, with what its array read finds. -/
def scrubReads : List Nat → List LdgEcc → State → State
  | [], _, s => s
  | k :: ks, es, s => scrubReads ks (es.drop 1) (sectorRead k (es.headD .good) s).2

/-- What reading a sector of a refreshed page again finds: counted and handled as any read; the page is due for a remap when a codeword
still shows REMAP_THR corrected bits (R354, R363). -/
def rereadSector (k : Nat) (e : LdgEcc) (s : State) : State :=
  match e with
  | .good => s
  | .corr bs =>
    let s := s.sat LDG_ECC_CORR 0 (corrTotal bs)
    if remapThr s ≤ corrMost bs then s.put LDG_REMAP_DUE (k / 16) 1 else s
  | .uncorr => sectorError k 1 s
  | .auth => sectorError k 2 s

/-- The sectors of a refreshed page, in order, with what each array read finds. -/
def rereadPage : List Nat → List LdgEcc → State → State
  | [], _, s => s
  | k :: ks, es, s => rereadPage ks (es.drop 1) (rereadSector k (es.headD .good) s)

/-- Refreshed pages with nothing staged are read again, 16 sectors each (R363). -/
def reread : List Nat → List LdgEcc → State → State
  | [], _, s => s
  | l :: ls, es, s =>
    if s.staged.any (fun e => e.sector / 16 == l) || s.ldgWait.any (fun w => w.off / 4096 == l) then reread ls es s
    else reread ls (es.drop 16) (rereadPage ((List.range 16).map (fun i => 16 * l + i)) (es.take 16) (s.put LDG_REREAD l 0))

/-- A quantum of the scrubber: 64 KiB are read, then the pages refreshed before (R363). -/
def scrubQuantum (finds again : List LdgEcc) (s : State) : State :=
  if !ldgMay .ledgerScrub s then s
  else
    let old := (s.listed LDG_REREAD).map (fun e => e.1)
    let s := s.bgEnd .ledgerScrub
    let (ps, m) := scrubPages s 15360 16 (s.get LDG_SCRUB_PAGE 0)
    let s := s.put LDG_SCRUB_PAGE 0 m
    let s := scrubReads (ps.flatMap (fun l => (List.range 16).map (fun i => 16 * l + i))) finds s
    scrubAsk (reread old again s)

/-- A round runs late: reported once for a round, which continues (R363). -/
def scrubLate (s : State) : State :=
  if s.get LDG_STAT_STATE 0 = ldgReady ∧ scrubDue s = true ∧ s.get LDG_SCRUB_PAGE 0 < 15360 ∧ s.flag LDG_SCRUB_TOLD 0 = false then
    ((s.put LDG_SCRUB_TOLD 0 1).put LDG_STAT_SCRUB_LATE 0 1).raise 73
  else s

/-! ### Remapping (R364 to R366) -/

/-- The physical pages of the secure reserve (R351): the first 64 of the 1,024 spare ones (log entry 198). -/
def secSpare (p : Nat) : Bool := decide (p < 15360 + 64)

/-- A spare page of a reserve that serves no logical page and is not marked bad. -/
def spareFree (s : State) (sec : Bool) (p : Nat) : Bool :=
  secSpare p == sec && !s.flag LDG_PHYS_BAD p && !(s.listed LDG_PHYS).any (fun e => e.2 == p + 1)

/-- The physical page of a logical one. -/
def physOf (s : State) (l : Nat) : Nat := if s.get LDG_PHYS l = 0 then l else s.get LDG_PHYS l - 1

/-- A page moves to physical page `p`, its old one is marked bad, and the move is counted (R364). -/
def pageMoved (l p : Nat) (s : State) : State :=
  let s := (s.put LDG_PHYS_BAD (physOf s l) 1).put LDG_PHYS l (p + 1)
  ((dirRecord l s).sat LDG_ECC_REMAPS 0).raise 65 l

/-- A general spare is taken; the count may reach SPARES_LOW. -/
def genTake (s : State) : State :=
  let n := s.get LDG_SPARES_GEN_FREE 0 - 1
  let s := s.put LDG_SPARES_GEN_FREE 0 n
  if n = s.get LDG_CTRL_SPARES_LOW 0 then s.raise 66 n else s

/-- A page without a spare becomes RETIRED (R365). -/
def pageRetire (l : Nat) (s : State) : State :=
  let s := dirRecord l ((s.put LDG_PAGE l pageRetired).put LDG_STAT_SPARES_EXHAUSTED 0 1)
  let s := (s.put LDG_SPARES_RETIRED 0 (s.get LDG_SPARES_RETIRED 0 + 1)).put LDG_CAP_USABLE_PAGES 0 (s.get LDG_CAP_USABLE_PAGES 0 - 1)
  s.raise 67 l

/-- The highest-numbered FREE page below `n` that nothing is staged for. -/
def highestFree (s : State) : Nat → Option Nat
  | 0 => none
  | n + 1 =>
    if pageState s n = pageFree && !s.staged.any (fun e => e.sector / 16 == n) && !s.ldgWait.any (fun w => w.off / 4096 == n) then some n
    else highestFree s n

/-- Units of 64 KiB that a CRITICAL quota can keep in a ring of `sectors` (R366). -/
def critFits (sectors : Nat) : Nat → Nat
  | 0 => 0
  | q + 1 => if 256 * (q + 1) + 256 ≤ sectors then q + 1 else critFits sectors q

/-- The logical pages of the journal ring, of the two anchor copies, and of directories A and B (R352). -/
def ringPage (l : Nat) : Bool := decide (14658 ≤ l) && decide (l < 15104)
def anchorPage (l : Nat) : Bool := decide (14592 ≤ l) && decide (l < 14594)
def dirPage (l : Nat) : Bool := decide (14594 ≤ l) && decide (l < 14658)

/-- The highest-numbered page that is still in the journal ring. -/
def lastRingPage (s : State) : Option Nat :=
  (((List.range 446).map (fun i => 14658 + i)).filter (fun l => !s.flag LDG_OUT l)).getLast?

/-- Page `j` leaves the journal ring; the CRITICAL quota falls until it fits (R366). -/
def journalLoses (j : Nat) (s : State) : State :=
  let s := s.put LDG_OUT j 1
  let n := s.get LDG_CAP_JOURNAL_PAGES 0 - 1
  let s := s.put LDG_CAP_JOURNAL_PAGES 0 n
  let q := s.get LDG_QUOTA_CRIT 0
  if 256 * q + 256 ≤ 16 * n then s
  else ((s.put LDG_QUOTA_CRIT 0 (critFits (16 * n) q)).put LDG_STAT_JOURNAL_SHORT 0 1).raise 72 (critFits (16 * n) q)

/-- System page `l` takes the physical page of page `f`, and its own is marked bad. -/
def takesPage (l f : Nat) (s : State) : State :=
  (dirRecord f (dirRecord l ((s.put LDG_PHYS_BAD (physOf s l) 1).put LDG_PHYS l (physOf s f + 1)))).raise 71 f

/-- A SYSTEM page with no general spare relocates: to the highest-numbered FREE page; an anchor or directory page, to one of the
journal ring; a page of the ring leaves it (R366). -/
def systemRelocate (l : Nat) (s : State) : State :=
  match highestFree s 12544 with
  | some f => takesPage l f ((s.put LDG_PAGE f pageSystem).put LDG_CAP_USABLE_PAGES 0 (s.get LDG_CAP_USABLE_PAGES 0 - 1))
  | none =>
    if anchorPage l || dirPage l then
      match lastRingPage s with
      | some j => journalLoses j (takesPage l j s)
      | none => s
    else if s.flag LDG_OUT l then s
    else journalLoses l (s.put LDG_PHYS_BAD (physOf s l) 1)

/-- A page due is remapped to spare page `p` of its reserve, or retired, or relocated. -/
def pageRemap (l p : Nat) (s : State) : State :=
  if !s.flag LDG_REMAP_DUE l || decide (ldgPowerFail ≤ s.get LDG_STAT_STATE 0) || journalFree s == 0 then s
  else
    let sec := securePage l && s.get LDG_SPARES_SEC_FREE 0 != 0
    if sec || s.get LDG_SPARES_GEN_FREE 0 != 0 then
      if !spareFree s sec p then s
      else
        let s := pageMoved l p (s.put LDG_REMAP_DUE l 0)
        compactDue (if sec then s.put LDG_SPARES_SEC_FREE 0 (s.get LDG_SPARES_SEC_FREE 0 - 1) else genTake s)
    else if pageState s l = pageSystem then systemRelocate l (s.put LDG_REMAP_DUE l 0)
    else if pageState s l = pageRetired then s.put LDG_REMAP_DUE l 0
    else pageRetire l (s.put LDG_REMAP_DUE l 0)

/-! ### Key rotation and the wipe (R375, 17 R393) -/

/-- A rotation of key class `c` opens: generation k + 1 exists beside k. -/
def rotateOpen (c : Nat) (s : State) : State := (s.put LDG_ROT 0 (c + 1)).put LDG_STAT_ROTATING 0 1

/-- The written sectors of a key class that are not under the new generation of its rotation; those that can be neither read nor
written keep theirs (log entry 198). -/
def rotateLeft (s : State) (c : Nat) : List Nat :=
  ((s.listed LDG_SECTOR_CTR).filter (fun e => sectorClass e.1 == c && s.get LDG_SECTOR_GEN e.1 != s.get LDG_KEY_GEN c + 1 &&
    s.get LDG_SECTOR_BAD e.1 == 0 && pageState s (e.1 / 16) != pageRetired)).map Prod.fst

/-- The key word is durable: it commits generation k + 1, the floor in the key store rises to it, and k is destroyed (17 R386). -/
def rotateClose (c : Nat) (s : State) : State :=
  let s := s.put LDG_KEY_GEN c (s.get LDG_KEY_GEN c + 1)
  ((s.put LDG_ROT 0 0).put LDG_STAT_ROTATING 0 0).settle .rotate 0 0 [s.get LDG_KEY_GEN c]

/-- The key word of an open rotation as bytes. -/
def keyWord (s : State) (c : Nat) : List Byte := toBytes 4 (s.get LDG_KEY_GEN c + 1)

/-- An open rotation goes on (R375): every sector of the partition is rewritten through the journal; after a flush the key word is
written; once that is durable the rotation closes. -/
def rotateStep (s : State) : State :=
  match s.get LDG_ROT 0 with
  | 0 => s
  | c + 1 =>
    if ldgPowerFail ≤ s.get LDG_STAT_STATE 0 ∨ s.flag LDG_FLUSH_BUSY 0 = true then s
    else if rotateLeft s c ≠ [] then ldgGo (overList ldgRewrite (rotateLeft s c) s)
    else if durBytes s (keyWordOff c) 4 = keyWord s c then rotateClose c s
    else if ldgBytes s (keyWordOff c) 4 = keyWord s c ∨ s.ldgWait.any (fun w => w.off == keyWordOff c) then ldgGo s
    else ldgGo (ldgOffer ⟨some .pcs, none, keyWordOff c, keyWord s c, 0⟩ s)

/-- Boot finishes an open rotation, from the first sector still under k (R375, R376). -/
def rotateFinish (s : State) : State :=
  match s.get LDG_ROT 0 with
  | 0 => s
  | c + 1 => rotateClose c (homePut (keyWordOff c) (keyWord s c)
      (overList (fun k t => sectorWritten k (durBytes t (256 * k) 256) t) (rotateLeft s c) s))

/-- Nothing of the secure partition can be decrypted again, and it reads zero: the minimum SVNs and the key words in it as well (R373,
R375, 17 R393). -/
def secureZero (s : State) : State :=
  let lo := 0x23B0_0000
  let s : State := { s with
    mem := s.mem.filter (fun e => !(decide (lo ≤ e.1) && decide (e.1 < lo + 0x10_0000)))
    staged := s.staged.filter (fun e => !securePage (e.sector / 16))
    journal := s.journal.filterMap (fun r => if r.bytes != [] && securePage (r.sector / 16) then r.left else some r)
    ldgWait := s.ldgWait.filter (fun w => !securePage (w.off / 4096)) }
  let s := overList (fun (e : Nat × Nat) (t : State) => if securePage (e.1 / 16) then t.put LDG_SECTOR_BAD e.1 0 else t)
    (s.listed LDG_SECTOR_BAD) s
  ldgFlushed (ldgCount s)

/-! ### Power failure (R367 to R369) -/

/-- Opcodes of the Ledger commands, and KEY_ROTATE. -/
def ledgerOpcode (o : Nat) : Bool := [0x0500, 0x0501, 0x0502, 0x0504, 0x0603].contains o

/-- The Ledger enters POWER_FAIL: waiting writes are refused, commands in progress complete with LEDGER_POWER_FAIL. -/
def ldgFail (s : State) : State :=
  let ws := s.ldgWait
  let s : State := { s with
    ldgWait := []
    cmds := s.cmds.map (fun c => if ledgerOpcode c.opcode && c.done.isNone then { c with done := some (0x0503, 0, []) } else c) }
  let s := (((s.put LDG_STAT_STATE 0 ldgPowerFail).put LDG_PF_G 0 0).put LDG_PF_WRITTEN 0 0).put LDG_NV_PF 0 1
  let s := overRange (fun c t => t.put LDG_PF_CLS c 0) 3 s
  overList (fun (w : LdgWrite) (t : State) =>
    match w.who, w.cmd with
    | some q, none => (ldgRefused w.off 5 t).refuse q (ldgByte w.off)
    | _, _ => t) ws s

/-- The grant of R368 for a usable energy in µJ. -/
def pfGrant (e : Nat) : Nat := (e - 4000) / 3

/-- The planner hands over the energy (R367, R368). -/
def ldgGrant (e : Nat) (s : State) : State :=
  if s.get LDG_STAT_STATE 0 = ldgPowerFail ∧ s.get LDG_PF_G 0 = 0 then s.put LDG_PF_G 0 (pfGrant e + 1) else s

/-- The oldest staged entry of the highest class present. -/
def pfNext (s : State) : Option LdgEntry :=
  match s.staged.find? (fun e => e.cls == 2), s.staged.find? (fun e => e.cls == 1) with
  | some e, _ => some e
  | none, some e => some e
  | none, none => s.staged.head?

/-- Records are still granted. -/
def pfLeft (s : State) : Bool := decide (s.get LDG_PF_WRITTEN 0 + 1 < s.get LDG_PF_G 0)

/-- One granted record is written (R367). -/
def pfCommit (s : State) : State :=
  if s.get LDG_STAT_STATE 0 ≠ ldgPowerFail ∨ pfLeft s = false then s
  else match pfNext s with
    | none => s
    | some e => ldgFlushed (((ldgDurable e s).put LDG_PF_WRITTEN 0 (s.get LDG_PF_WRITTEN 0 + 1)).put LDG_PF_CLS e.cls
        (s.get LDG_PF_CLS e.cls + 1))

/-- The seal record is written, with the counts granted, written and lost, and the Ledger enters PF_DONE: what is left staged is lost
(R367). -/
def pfSeal (s : State) : State :=
  if s.get LDG_STAT_STATE 0 ≠ ldgPowerFail ∨ s.get LDG_PF_G 0 = 0 ∨ (pfLeft s = true ∧ s.staged ≠ []) then s
  else
    let s := overRange (fun c t => (t.put LDG_NV_LOST c (stagedCount t c)).put LDG_NV_WRITTEN c (t.get LDG_PF_CLS c)) 3 s
    let s := (s.put LDG_NV_GRANT 0 (min 8191 (s.get LDG_PF_G 0 - 1))).put LDG_NV_PF 0 2
    ldgCount ({ s with staged := [] }.put LDG_STAT_STATE 0 ldgPfDone)

/-- What was staged is lost with the power or a reset (R357). -/
def ldgLose (s : State) : State := ldgCount { s with staged := [], ldgWait := [] }

/-! ### Recovery (R369, R376) -/

/-- `LDG_PF` is read back (R369). Without a seal record the counts are open. A power cycle that no power-fail commit ended leaves
nothing to report. -/
def pfReport (s : State) : State :=
  match s.get LDG_NV_PF 0 with
  | 0 =>
    if s.get RST_CAUSE_CLASS 0 ≠ 0 then s
    else overList (fun (F : Fld) t => t.put F 0 0) [LDG_PF_ROUT_LOST, LDG_PF_IMP_LOST, LDG_PF_CRIT_LOST, LDG_PF_GRANT, LDG_PF_VALID,
      LDG_PF_SEALED] s
  | k =>
    let sealed := k == 2
    let f := s.fresh
    let g (v i : Nat) : Nat := if sealed then v else f / 2 ^ (13 * i)
    let s := if sealed then s else s.used
    let s := (s.put LDG_PF_ROUT_LOST 0 (g (s.get LDG_NV_LOST 0) 0)).put LDG_PF_IMP_LOST 0 (g (s.get LDG_NV_LOST 1) 1)
    let s := (s.put LDG_PF_CRIT_LOST 0 (g (s.get LDG_NV_LOST 2) 2)).put LDG_PF_GRANT 0 (g (s.get LDG_NV_GRANT 0) 3)
    (s.put LDG_PF_VALID 0 1).putFlag LDG_PF_SEALED 0 sealed

/-- The last power-fail commit lost something or has no seal record: PF_INCOMPLETE (R369). -/
def pfIncomplete (s : State) : Bool :=
  s.flag LDG_PF_VALID 0 && (!s.flag LDG_PF_SEALED 0 || s.get LDG_PF_CRIT_LOST 0 != 0 || s.get LDG_PF_IMP_LOST 0 != 0 ||
    s.get LDG_PF_ROUT_LOST 0 != 0)

/-- The records that replay applies: in sequence order, up to the first whose CRC or sequence does not follow (R359). -/
def replayGood : Nat → List LdgRecord → List LdgRecord
  | _, [] => []
  | n, r :: rs => if r.crc = r.crcOf ∧ n < r.seq then r :: replayGood r.seq rs else []

/-- What the directory copy in force says of a page. -/
def dirEntry (t : List (Nat × Nat)) (F : Fld) (s : State) : State := overList (fun (e : Nat × Nat) u => u.put F e.1 e.2) t s

/-- A record changes the directory, unless the copy in force contains it. -/
def recordDir (pos : Nat) (r : LdgRecord) (s : State) : State :=
  match r.dir with
  | some d => if pos < r.seq then (s.put LDG_PAGE (r.sector / 16) d.1).put LDG_PHYS (r.sector / 16) d.2 else s
  | none => s

/-- The anchor is selected; the directory is the copy that it names with the records after its position; the records of sectors are
written home (R376). -/
def ldgReplay (s : State) : State :=
  let a := anchorNow s
  let pos := (a.map (fun x => x.pos)).getD 0
  let good := replayGood 0 s.journal
  let c := (s.dirCopies.find? (fun x => x.copy == dirNow s)).getD ⟨0, [], []⟩
  let s := s.put LDG_ANCHOR 0 ((a.map (fun x => x.seq)).getD 0)
  let s := overList (fun (F : Fld) (t : State) => overList (fun (e : Nat × Nat) (u : State) => u.put F e.1 0) (t.listed F) t)
    [LDG_PAGE, LDG_PHYS] s
  let s := if a.isSome then dirEntry c.phys LDG_PHYS (dirEntry c.pages LDG_PAGE s) else s
  let s := overList (recordDir pos) good s
  overList recordHome good { s with journal := good.filterMap LdgRecord.left }

/-- A slot in state WRITING is rolled back to EMPTY, its image pages to zero (R376). -/
def slotRollBack (k : Nat) (s : State) : State :=
  if slotState s k = 1 then
    let lo := ldgByte (slotOff k)
    let s : State := { s with mem := s.mem.filter (fun e => !(decide (lo + 256 ≤ e.1) && decide (e.1 < lo + 0x10_0000))) }
    let s := overRange (fun i t => (sectorWritten (slotOff k / 256 + 1 + i) (List.replicate 256 0) t).put LDG_SECTOR_BAD
      (slotOff k / 256 + 1 + i) 0) 4095 s
    homePut (slotOff k) (toBytes 4 (slotWord s k 0 / 4 * 4)) s
  else s

/-- CPF and CP of a slot's image, as the index of their minimum SVN (R373). -/
def slotSvnAt (s : State) (k : Nat) : Nat := 256 * bitsOf (slotWord s k 3) 0 8 + bitsOf (slotWord s k 3) 8 8

/-- At boot the minimum SVN rises to that of a VALID profile slot (R373). -/
def svnRaise (k : Nat) (s : State) : State :=
  if slotValid s k && decide (2 ≤ k) && decide (svnMin s (slotSvnAt s k) < slotWord s k 4) then
    homePut (svnOff (slotSvnAt s k)) (toBytes 4 (slotWord s k 4)) s
  else s

/-- Damair firmware recovers the Ledger (R376). -/
def ldgRecover (s : State) : State :=
  if s.get LDG_STAT_STATE 0 ≠ ldgRecovering then s
  else
    let had := s.get LDG_NV_PF 0 != 0
    let s := (pfReport (ldgReplay s)).put LDG_NV_PF 0 0
    let s := overRange slotRollBack 8 s
    let s := overRange svnRaise 8 (rotateFinish s)
    let s := (s.put LDG_SCRUB_AT 0 (s.get CORE_COUNT 0)).put LDG_STAT_STATE 0 ldgReady
    let s := scrubAsk (s.raise 74)
    if had && pfIncomplete s then s.raise 75 (s.get LDG_PF_SEALED 0 + 2 * s.get LDG_PF_CRIT_LOST 0) else s

/-- A write of `LDG_QUOTA`: ignored when it breaks a limit (R358), or gives CRIT the value 0 that its range 1 to 16 lacks (log
entry 177). -/
def ldgQuotaWrite (v : Nat) (s : State) : State :=
  let c := bitsOf v 0 5
  let i := bitsOf v 8 5
  let r := bitsOf v 16 5
  if c = 0 ∨ 16 < c ∨ 32 < c + i + r then s
  else ((s.put LDG_QUOTA_CRIT 0 c).put LDG_QUOTA_IMP 0 i).put LDG_QUOTA_ROUT 0 r

/-! ### The commands -/

/-- LEDGER_WINDOW_WRITE (16 R357, R358, R353): a naturally aligned write of 2^size bytes at an offset of the window. -/
def execLedgerWindowWrite (q : Requester) (off : BitVec 26) (size : Fin 3) (v : Word) (s : State) : Result :=
  let n := 2 ^ size.val
  let o := off.toNat / n * n
  .next (if regionOf (ldgByte o) = .unmapped then s.refuse q (ldgByte o) else ldgStore q o (toBytes n v.toNat) s)

/-- A waiting write whose page has become RETIRED is refused, for a command with LEDGER_PAGE_RETIRED (R365). -/
def ldgTooLate (w : LdgWrite) (s : State) : State :=
  match w.cmd, w.who with
  | some id, _ => { s with
      ldgWait := s.ldgWait.filter (fun x => x.cmd ≠ some id)
      cmds := s.cmds.map (fun c => match c.wait, c.done with
        | .ledger i _, none => if i = id then { c with done := some (0x0303, w.off / 4096, []) } else c
        | _, _ => c) }
  | none, some q => (ldgRefused w.off 3 s).refuse q (ldgByte w.off)
  | none, none => s

/-- The write that has waited longest for room goes on: accepted, refused, or, a refresh where an entry is staged by now, not needed
any more (R358, R363, R365). -/
def ldgAdmit (s : State) : State :=
  match ldgNext s s.ldgWait with
  | none => s
  | some w =>
    let s : State := { s with ldgWait := s.ldgWait.erase w }
    if pageState s (w.off / 4096) = pageRetired then ldgTooLate w s
    else if w.refresh && (stagedOf s (w.off / 256)).isSome then s
    else
      let s := ldgAccept w s
      match w.cmd with
      | some id => ldgCmdStep id s
      | none => s

/-- LEDGER_WRITE_ACCEPT (16 R358). -/
def execLedgerWriteAccept (s : State) : Result := .next (ldgAdmit s)

/-- JOURNAL_RECORD_WRITE (16 R359). -/
def execJournalRecordWrite (s : State) : Result := .next (ldgDrain s)

/-- LDG_FLUSH_GO (16 R360): a write of `LDG_FLUSH`. -/
def execLdgFlushGo (q : Requester) (v : Word) (s : State) : Result :=
  .next (s.gate q (ldgAddr 0x20) (fun s => if bitOf v.toNat 0 then ldgGo s else s))

/-- LDG_QUOTA_WRITE (16 R358). -/
def execLdgQuotaWrite (q : Requester) (v : Word) (s : State) : Result := .next (s.gateCC q (ldgAddr 0x14) (ldgQuotaWrite v.toNat))

/-- APPLIER_QUANTUM (16 R361, R363): `bad` names the pages whose write failed verification. -/
def execApplierQuantum (bad : List (Fin 15360)) (s : State) : Result :=
  .next (applierQuantum (bad.map (fun p => p.val)) s)

/-- COMPACTION_COMPLETE (16 R374): the compaction's next quantum, or its anchor. -/
def execCompactionComplete (s : State) : Result := .next (compactDone s)

/-- LEDGER_SCRUB_QUANTUM (16 R363): what the reads find, and what the sectors of the pages refreshed before show when read again. -/
def execLedgerScrubQuantum (finds again : List LdgEcc) (s : State) : Result := .next (scrubQuantum finds again s)

/-- LEDGER_SCRUB_LATE (16 R363). -/
def execLedgerScrubLate (s : State) : Result := .next (scrubLate s)

/-- PAGE_REMAP (16 R364 to R366): page `l`; `spare` is the physical page it takes when a spare is left for it. -/
def execPageRemap (l : Fin 15360) (spare : Fin 1024) (s : State) : Result := .next (pageRemap l (15360 + spare.val) s)

/-- KEY_ROTATION_COMPLETE (16 R375): the rotation's next step, its sectors, its key word, its close. -/
def execKeyRotationComplete (s : State) : Result := .next (rotateStep s)

/-- POWER_FAIL_COMMIT (16 R367): one record. -/
def execPowerFailCommit (s : State) : Result := .next (pfCommit s)

/-- PF_SEAL (16 R367). -/
def execPfSeal (s : State) : Result := .next (pfSeal s)

end Sys2Proof.Machine
end

