-- ==== Sys2Proof/Machine/Pcs.lean ====
section
/-! DEFINITION. The Portcullis (17): its power, the scratchpad, wipes, tamper, the DRBG, sessions, fatal faults. What the
host commands do with it stands in Machine/Firmware.lean. -/

namespace Sys2Proof.Machine

/-! ### Internal cells -/

/-- The core clock count at which the scratchpad's clear began (R380). -/
def SPAD_AT : Fld := ⟨1407, 0, 64, .int, 0, .reset, .none⟩
/-- Deep standby is asked for (R400). -/
def PCS_STBY_ASK : Fld := ⟨1408, 0, 1, .int, 0, .reset, .none⟩
/-- Tampers latched in the always-on domain while the Portcullis domain is off (R396). -/
def TMP_LATCH : Fld := ⟨1409, 0, 6, .int, 0, .keep, .none⟩
/-- The key store (R386), beside the wipe epoch: session counter, firmware SVN minimum, next tamper log entry, tampers and boots since
provisioning (R397), a transition has begun and is not committed (R394). -/
def KEY_SESSIONS : Fld := ⟨1411, 0, 32, .int, 0, .keep, .none⟩
def KEY_FW_SVN : Fld := ⟨1412, 0, 32, .int, 0, .keep, .none⟩
def KEY_LOG_NEXT : Fld := ⟨1413, 0, 4, .int, 0, .keep, .none⟩
def KEY_TAMPERS : Fld := ⟨1414, 0, 32, .int, 0, .keep, .none⟩
def KEY_BOOTS : Fld := ⟨1415, 0, 32, .int, 0, .keep, .none⟩
def KEY_LC_OPEN : Fld := ⟨1416, 0, 1, .int, 0, .keep, .none⟩
/-- Identity seed slots in the fuses, 256 bits each (R386). -/
def FUSE_SEED : Fld := ⟨1417, 0, 256, .int, 0, .keep, .none⟩
/-- The 5 ms sequence that writes a fuse (R386): what it writes (1 the seed slot, 2 SCRAP, 3 DEBUG_KILL; 0 none), the core clock count
at which it began, and the seed. -/
def FUSE_OP : Fld := ⟨1565, 0, 2, .int, 0, .keep, .none⟩
def FUSE_AT : Fld := ⟨1566, 0, 64, .int, 0, .keep, .none⟩
def FUSE_VAL : Fld := ⟨1567, 0, 256, .int, 0, .keep, .none⟩
/-- The engines' key registers hold keys (R384, R393). -/
def ENGINE_KEYS : Fld := ⟨1418, 0, 1, .int, 0, .reset, .none⟩
/-- The DRBG (R385): the core clock count at which it was seeded, and the count before which the start-up tests are not repeated. -/
def DRBG_SEEDED : Fld := ⟨1420, 0, 64, .int, 0, .reset, .none⟩
def DRBG_NEXT : Fld := ⟨1421, 0, 64, .int, 0, .reset, .none⟩
/-- The session (R390): the core clock count at which it ends. -/
def SESS_END : Fld := ⟨1422, 0, 64, .int, 0, .reset, .none⟩
/-- Core clock counts, plus 1, of the two latest fatal faults of the Portcullis core (R399). -/
def PCS_FATAL_1 : Fld := ⟨1423, 0, 64, .int, 0, .reset, .none⟩
def PCS_FATAL_2 : Fld := ⟨1424, 0, 64, .int, 0, .reset, .none⟩

def pcsAddr (off : Nat) : Nat := 0x4120_0000 + off

/-- Lifecycle states (R397). -/
def lcManufacture : Nat := 0
def lcProvisioned : Nat := 1
def lcDeployed : Nat := 2
def lcReturned : Nat := 3
def lcScrapped : Nat := 4

/-- One second of the core clock. -/
def second : Nat := 800000000

/-! ### The scratchpad and wipes (R380, R393) -/

/-- A clear of the scratchpad begins (R380). -/
def scratchClear (s : State) : State :=
  let s : State := { s with mem := s.mem.filter (fun e => !(decide (0x3000_0000 ≤ e.1) && decide (e.1 < 0x3004_0000))) }
  (s.put SPAD_CLR 0 1).put SPAD_AT 0 (s.get CORE_COUNT 0)

/-- A wipe (R393), with the end cause of the session it ends. -/
def wipe (cause : Nat) (s : State) : State :=
  let s := secureZero { s.put KEY_EPOCH 0 (s.get KEY_EPOCH 0 + 1) with caks := [], mkas := [] }
  let s := scratchClear (s.put ENGINE_KEYS 0 0)
  (sessionEnd cause s).put PCS_STAT_WIPING 0 1

/-- The Portcullis holds derived keys from here on: the key derivation engine puts them into the engines' key registers (R384). -/
def keysDerived (s : State) : State := s.put ENGINE_KEYS 0 1

/-- The keys of a boot: the identity keys, but in SCRAPPED (R386, R392), and those of MKA on each port that holds a CAK (06 R152). -/
def pcsKeys (s : State) : State :=
  overList (fun (x : Nat × List Byte) t => keysDerived (mkaStart x.1 x.2 t)) s.caks
    (if s.get PCS_LC_STATE 0 = lcScrapped then s else keysDerived s)

/-! ### Fuses (R386) -/

/-- The next identity seed slot that is not programmed. -/
def nextSeed (s : State) : Option Nat := (List.range 4).find? (fun k => !s.bit PCS_FUSE_SEEDS 0 k)

/-- The sequence that writes a fuse begins. -/
def fuseBegin (op val : Nat) (s : State) : State := ((s.put FUSE_OP 0 op).put FUSE_AT 0 (s.get CORE_COUNT 0)).put FUSE_VAL 0 val

/-- Its fuses are blown. -/
def fuseBlow (s : State) : State :=
  let t := s.put FUSE_OP 0 0
  match s.get FUSE_OP 0 with
  | 1 => match nextSeed s with
    | some k => ((t.put FUSE_SEED k (s.get FUSE_VAL 0)).putBit PCS_FUSE_SEEDS 0 k true).put PCS_LC_SEED_SLOT 0 k
    | none => t
  | 2 => t.put PCS_FUSE_SCRAP 0 1
  | 3 => t.put PCS_FUSE_DEBUG_KILL 0 1
  | _ => t

/-- The sequence has run its 5 ms. -/
def fuseDone (s : State) : Bool := s.get FUSE_OP 0 == 0 || decide (s.get FUSE_AT 0 + 4000000 ≤ s.get CORE_COUNT 0)

/-- A sequence that is cut off leaves its fuse intact or blown: which is open, and a free value (DESIGN CHOICE, log entry 201). -/
def fuseCut (s : State) : State :=
  if s.get FUSE_OP 0 = 0 then s else if bitOf s.fresh 0 then fuseBlow s.used else s.used.put FUSE_OP 0 0

/-! ### Tamper (R395, R396) -/

/-- The armed sensors (R395). -/
def armed (s : State) : Nat :=
  let lc := s.get PCS_LC_STATE 0
  if lc = lcScrapped then 0
  else if lc = lcDeployed then s.get PCS_TMP_EN_EN 0 ||| 15
  else s.get PCS_TMP_EN_EN 0

/-- One entry of the tamper log: the line time is 0 while the domain does not count (R396). -/
def tamperLog (k : Nat) (s : State) : State :=
  let i := s.get KEY_LOG_NEXT 0
  let d := s.get LIM_CYC_CTRL_DOM 0
  let counting := s.get TMB_DOM_CFG_MODE d != 0
  let s := (s.put PCS_TMP_LOG_NS i (if counting then s.nowNs d else 0)).put PCS_TMP_LOG_FRAC i (if counting then s.now d else 0)
  let s := ((s.put PCS_TMP_LOG_SENSOR i k).put PCS_TMP_LOG_STATE i (s.get PCS_LC_STATE 0)).put PCS_TMP_LOG_VALID i 1
  s.put KEY_LOG_NEXT 0 (i + 1)

/-- A sensor's share of a tamper: its log entry, its count and its event. -/
def tamperOne (sensors k : Nat) (s : State) : State :=
  if !bitOf sensors k then s
  else (((tamperLog k s).sat PCS_CNT_TAMPER_CNT 0).sat KEY_TAMPERS 0).raise 96 k

/-- Every trunk MACsec SA is cleared (R396). -/
def killSas (s : State) : State :=
  overRange (fun l t => refreshPort (portOfLane t l) ((t.put TRK_MSEC_SA_TX_SA l 0).put TRK_MSEC_SA_RX_SA l 0)) 8
    { s with saKeys := [] }

/-- The lowest sensor of a set. -/
def lowestSensor (v : Nat) : Nat := ((List.range 6).find? (fun k => bitOf v k)).getD 0

/-- Commands that a tamper ends: LIFECYCLE_SET, SEC_SESSION, CAK_INSTALL (R396). -/
def tamperEnds (sensor : Nat) (s : State) : State :=
  { s with cmds := s.cmds.map (fun c =>
      if (c.opcode = 0x0601 ∨ c.opcode = 0x0602 ∨ c.opcode = 0x0604) ∧ c.done = none then { c with done := some (0x0407, sensor, []) }
      else c) }

/-- Sensors declare tamper with the Portcullis domain on: one wipe (R396). -/
def tamperRun (sensors : Nat) (s : State) : State :=
  let s := wipe 3 ((tamperEnds (lowestSensor sensors) s).put KEY_LC_OPEN 0 0)
  let s := overRange (tamperOne sensors) 6 s
  if s.flag PCS_TMP_CFG_KILL_SAK 0 then killSas s else s

/-- VCORE has fallen below 0.62 V or risen above 0.90 V; VAO is outside 1.60 to 2.00 V; the junction outside -60 to 135 °C (R395). -/
def coreOut (r : TamperReads) : Bool := r.core.toNat != 0 && (decide (r.core.toNat < 620) || decide (900 < r.core.toNat))
def vaoOut (r : TamperReads) : Bool := decide (r.vao.toNat < 1600) || decide (2000 < r.vao.toNat)
def hotOrCold (r : TamperReads) : Bool := decide (r.tj < -60) || decide (135 < r.tj)

/-- An excursion of VCORE is tamper when it returns within 0.70 to 0.82 V inside 10 µs; one that does not return is a power failure. -/
def coreReturns (r : TamperReads) : Bool :=
  coreOut r && decide (700 ≤ r.coreBack.toNat) && decide (r.coreBack.toNat ≤ 820) && decide (r.coreAfter.toNat < 100)

/-- Four conditions as a set of sensors: MESH, LIGHT, VOLT, TEMP. -/
def sensorSet (mesh light volt temp : Bool) : Nat :=
  (if mesh then 1 else 0) + (if light then 2 else 0) + (if volt then 4 else 0) + (if temp then 8 else 0)

/-- The sensors whose conditions have lasted for their filters: two checks, 10 µs, none, 100 µs; and those whose condition is present. -/
def sensorsMet (r : TamperReads) : Nat :=
  sensorSet (r.mesh != 0 && r.meshWas != 0) (decide (10 ≤ r.light.toNat)) (coreReturns r || vaoOut r)
    (hotOrCold r && decide (100 ≤ r.tjFor.toNat))
def sensorsLive (r : TamperReads) : Nat :=
  sensorSet (r.mesh != 0) (r.light != 0) (coreReturns r || vaoOut r) (hotOrCold r)

/-- The tamper pins at the levels that their POL bits set; those that have been for FILT µs (R395). -/
def livePins (pins : Nat) (s : State) : Nat :=
  (if bitOf pins 0 == s.flag PCS_TMP_CFG_POL0 0 then 1 else 0) + (if bitOf pins 1 == s.flag PCS_TMP_CFG_POL1 0 then 2 else 0)
def tamperPins (pins held0 held1 : Nat) (s : State) : Nat :=
  livePins pins s &&& ((if max 1 (s.get PCS_TMP_CFG_FILT0 0) ≤ held0 then 1 else 0) +
    (if max 1 (s.get PCS_TMP_CFG_FILT1 0) ≤ held1 then 2 else 0))

/-- Sensors whose filters are met, and the conditions present now. -/
def tamper (sensors live : Nat) (s : State) : State :=
  let s := s.put PCS_TMP_STAT_LIVE 0 live
  let seen := s.get PCS_TMP_STAT_SEEN 0
  let v := sensors &&& armed s &&& (63 - seen)
  if v = 0 then s
  else
    let s := s.put PCS_TMP_STAT_SEEN 0 (seen ||| v)
    if s.domOn domPortcullis then tamperRun v s
    else (s.put TMP_LATCH 0 (s.get TMP_LATCH 0 ||| v)).put PCS_WAKE 0 1

/-! ### Power and faults of the Portcullis (R399, R400) -/

/-- What the code SRAM holds after its domain turned on is open (01 R17). -/
def pcsCodeOpen (s : State) : State :=
  let s : State := { s with sram := s.sram.filter (fun e => e.1 / 0x8_0000 ≠ pcsMemNum) }
  s.put CRS_EPOCH pcsMemNum (s.get CRS_EPOCH pcsMemNum + 1)

/-- The domain powers up: what its code SRAM holds is open until it is loaded, the scratchpad is cleared, the core boots from ROM,
and a latched tamper wipes first (R17, R396). -/
def pcsPowerUp (s : State) : State :=
  if s.domOn domPortcullis then s
  else
    let s := scratchClear (((pcsCodeOpen s).put DOM_OFF domPortcullis 0).put PCS_WAKE 0 0)
    let s := (s.put PCS_STAT_STATE 0 pcsBooting).put DRBG_NEXT 0 0
    let v := s.get TMP_LATCH 0
    if v = 0 then s else tamperRun v (s.put TMP_LATCH 0 0)

/-- The domain turns off (R400). -/
def pcsPowerDown (s : State) : State :=
  let s : State := { s with mem := s.mem.filter (fun e => !(decide (0x3000_0000 ≤ e.1) && decide (e.1 < 0x3004_0000))) }
  (((((s.put DOM_OFF domPortcullis 1).put PCS_STAT_STATE 0 pcsOff).put PCS_STAT_DRBG_OK 0 0).put ENGINE_KEYS 0 0).put PCS_STBY_ASK 0
    0).put SPAD_CLR 0 0

/-- Commands that need the Portcullis end with SECURE_UNAVAILABLE (R399). -/
def pcsOpcode (o : Nat) : Bool := [0x0502, 0x0600, 0x0601, 0x0602, 0x0603, 0x0604].contains o

def pcsEnds (detail : Nat) (s : State) : State :=
  { s with cmds := s.cmds.map (fun c =>
      if pcsOpcode c.opcode && c.done.isNone then { c with done := some (0x0504, detail, []) } else c) }

/-- A fatal fault of the Portcullis core (R399). -/
def pcsFatal (fcause : Nat) (s : State) : State :=
  let now := s.get CORE_COUNT 0
  let recent (F : Fld) : Nat := if s.get F 0 ≠ 0 ∧ now < s.get F 0 + second then 1 else 0
  let n := 1 + recent PCS_FATAL_1 + recent PCS_FATAL_2
  let s := (s.put PCS_FATAL_2 0 (s.get PCS_FATAL_1 0)).put PCS_FATAL_1 0 (now + 1)
  let s := scratchClear (s.put ENGINE_KEYS 0 0)
  let s := s.put PCS_STAT_STATE 0 (if 3 ≤ n then pcsFatalState else pcsBooting)
  pcsEnds (if 3 ≤ n then 2 else 3) (s.raise 102 (fcause % 256 + 256 * n))

/-! ### The DRBG (R385) -/

/-! ### The commands -/

/-- A write of `PCS_CTRL` (R400): STBY is for the control core only, LOCK for whoever reaches the block. -/
def pcsCtrlWrite (q : Requester) (v : Nat) (s : State) : State :=
  let s := if bitOf v 31 then s.put PCS_CTRL_LOCK 0 1 else s
  if q = .cc ∧ bitOf v 0 = true then s.put PCS_STBY_ASK 0 1 else s

/-- TAMPER (R395, R396): what MESH, LIGHT, VOLT and TEMP measure in this core clock cycle; the levels of TAMPER0 and TAMPER1, and for
how many µs each has had it (255 for more). -/
def execTamper (sensors : TamperReads) (live : TamperLevels) (s : State) : Result :=
  .next (tamper (sensorsMet sensors + 16 * tamperPins live.pins.toNat live.held0.toNat live.held1.toNat s)
    (sensorsLive sensors + 16 * livePins live.pins.toNat s) s)

/-- WIPE_DONE (R393): the partition has been written with zeros. -/
def execWipeDone (s : State) : Result :=
  .next (if s.flag PCS_STAT_WIPING 0 then
    ((s.put PCS_STAT_WIPING 0 0).put LDG_CTR_BASE 1 (s.get LDG_CTR_BASE 1 + 1)).raise 103
  else s)

/-- SCRATCHPAD_CLEAR_DONE (R380): one line of 64 bytes has been written in each of 4,096 core clock cycles. -/
def execScratchpadClearDone (s : State) : Result :=
  .next (if s.flag SPAD_CLR 0 ∧ s.get SPAD_AT 0 + 4096 ≤ s.get CORE_COUNT 0 then s.put SPAD_CLR 0 0 else s)

/-- DRBG_HEALTH_FAIL (R385): which test failed. -/
def execDrbgHealthFail (repetition proportion : Bool) (s : State) : Result :=
  .next (if s.flag PCS_STAT_DRBG_OK 0 && (repetition || proportion) then
    ((s.put PCS_STAT_DRBG_OK 0 0).put DRBG_NEXT 0 (s.get CORE_COUNT 0 + second)).raise 101
      ((if repetition then 1 else 0) + (if proportion then 2 else 0))
  else s)

/-- DRBG_START_RETRY (R385): the start-up tests pass or not. -/
def execDrbgStartRetry (pass : Bool) (s : State) : Result :=
  .next (if s.domOn domPortcullis && !s.flag PCS_STAT_DRBG_OK 0 && decide (s.get DRBG_NEXT 0 ≤ s.get CORE_COUNT 0) then
    if pass then ((s.put PCS_STAT_DRBG_OK 0 1).put DRBG_REQS 0 0).put DRBG_SEEDED 0 (s.get CORE_COUNT 0)
    else s.put DRBG_NEXT 0 (s.get CORE_COUNT 0 + second)
  else s)

/-- DRBG_RESEED (R385). -/
def execDrbgReseed (s : State) : Result :=
  .next (if s.flag PCS_STAT_DRBG_OK 0 &&
      (decide (2 ^ 20 ≤ s.get DRBG_REQS 0) || decide (s.get DRBG_SEEDED 0 + 10 * second ≤ s.get CORE_COUNT 0)) then
    (s.put DRBG_REQS 0 0).put DRBG_SEEDED 0 (s.get CORE_COUNT 0)
  else s)

/-- SESSION_EXPIRY (R390). -/
def execSessionExpiry (s : State) : Result :=
  .next (if s.get SESS_END 0 ≤ s.get CORE_COUNT 0 then sessionEnd 2 s else s)

/-- PCS_STBY (R400): a write of `PCS_CTRL`. -/
def execPcsStby (q : Requester) (v : Word) (s : State) : Result := .next (s.gate q (pcsAddr 4) (pcsCtrlWrite q v.toNat))

end Sys2Proof.Machine
end

