-- ==== Sys2Proof/Machine/Pwr.lean ====
section
/-! DEFINITION. Feeds, rails, the energy planner and power failure (18 R402 to R414; 20 R457), and the Soundboard scrub (04
R81). -/

namespace Sys2Proof.Machine

/-! ### Internal cells -/

/-- The feed self-test (R403): the core clock count at which the last round began, plus 1; the step under way (0 none); for a
feed, the count at which it was last tested. -/
def FT_AT : Fld := ⟨1425, 0, 64, .int, 0, .keep, .none⟩
def FT_STEP : Fld := ⟨1426, 0, 3, .int, 0, .reset, .none⟩
def FT_DONE_AT : Fld := ⟨1427, 0, 64, .int, 0, .keep, .none⟩
/-- The hold-up node fell to PF_WARN in a VHOLD step (3 to 5) that has ended, and has not been seen above it since; the core clock count
at which both VHOLD paths conducted again after that step (R404). -/
def FT_FELL : Fld := ⟨1544, 0, 1, .int, 0, .reset, .none⟩
def FT_WHOLE_AT : Fld := ⟨1545, 0, 64, .int, 0, .reset, .none⟩
/-- The planner (R406, R408, R410): energy of a rail since the last boundary, in pJ; microseconds for which POWER_MW has exceeded the cap
with a budget of 0; the budget is above 0; a boundary waits for its round; one more than the last grid instant served; step 5 has run
once. -/
def RAIL_ACC : Fld := ⟨1428, 0, 64, .int, 0, .reset, .none⟩
def WIN_US : Fld := ⟨1430, 0, 32, .int, 0, .reset, .none⟩
def WIN_BUDGET : Fld := ⟨1431, 0, 1, .int, 0, .reset, .none⟩
def PLAN_DUE : Fld := ⟨1432, 0, 1, .int, 0, .reset, .none⟩
def PLAN_GRID : Fld := ⟨1433, 0, 64, .int, 0, .reset, .none⟩
def CEST_RUN : Fld := ⟨1434, 0, 1, .int, 0, .keep, .none⟩
/-- The core clock count at which power failure was declared; the energy was handed over (R412). -/
def PF_AT : Fld := ⟨1435, 0, 64, .int, 0, .reset, .none⟩
def PF_HANDED : Fld := ⟨1436, 0, 1, .int, 0, .reset, .none⟩
/-- The Soundboard scrub (04 R81): quanta done in the round, the count at which its period began, reported late. -/
def SBS_POS : Fld := ⟨1437, 0, 11, .int, 0, .reset, .none⟩
def SBS_AT : Fld := ⟨1438, 0, 64, .int, 0, .reset, .none⟩
def SBS_TOLD : Fld := ⟨1439, 0, 1, .int, 0, .reset, .none⟩
/-- PWR_TJ_HIGH and PWR_TJ_OVER were raised and the junction has not cooled since (20 R457). -/
def TJ_HOT : Fld := ⟨1440, 0, 1, .int, 0, .reset, .none⟩
def TJ_OVER : Fld := ⟨1441, 0, 1, .int, 0, .reset, .none⟩

/-- A microsecond of the core clock. -/
def usec : Nat := 800

/-! ### Feeds (R402 to R404) -/

/-- The minimum of a feed, and its margin, in mV. -/
def feedMin (f : Nat) : Nat := if f < 2 then 18000 else 4300
def feedMargin (f : Nat) : Nat := if f < 2 then 300 else 100

/-- A feed counts as lost (R402); with both island feeds the island is lost. -/
def feedLost (f mv : Nat) (s : State) : State :=
  if !s.flag PWR_FEED_PRESENT f || decide (feedMin f ≤ mv) then s
  else
    let s := ((s.put PWR_FEED_PRESENT f 0).put PWR_FEED_MV f mv).raise 16 (f + 2 ^ 16 * mv)
    if f < 2 ∧ s.flag PWR_FEED_PRESENT 0 = false ∧ s.flag PWR_FEED_PRESENT 1 = false then islandDown s else s

/-- A feed counts as restored (R402). -/
def feedRestored (f mv : Nat) (s : State) : State :=
  if s.flag PWR_FEED_PRESENT f || decide (mv < feedMin f + feedMargin f) then s
  else ((s.put PWR_FEED_PRESENT f 1).put PWR_FEED_MV f mv).raise 17 (f + 2 ^ 16 * mv)

/-- The feeds that a step needs, and the paths it turns off (R403). -/
def stepNeeds : Nat → List Nat
  | 1 => [0]
  | 2 => [1]
  | 3 => [2]
  | 4 => [3]
  | _ => [2, 3]
def stepOff : Nat → List Nat
  | 1 => [1]
  | 2 => [0]
  | 3 => [3]
  | 4 => [2]
  | _ => [2, 3]

/-- The paths of feeds are set. -/
def setPaths (fs : List Nat) (v : Nat) (s : State) : State := overList (fun (f : Nat) (t : State) => t.put PWR_FEED_PATH f v) fs s

/-- The next step that can run begins; one that lacks a feed is skipped, NOT_RUN; after step 5 the round ends (R403). -/
def stepBegin : Nat → Nat → State → State
  | 0, _, s => (s.put FT_STEP 0 0).put PWR_STAT_TESTING 0 0
  | fuel + 1, k, s =>
    if 5 < k then (s.put FT_STEP 0 0).put PWR_STAT_TESTING 0 0
    else if (stepNeeds k).all (fun f => s.flag PWR_FEED_PRESENT f) then setPaths (stepOff k) 2 (s.put FT_STEP 0 k)
    else stepBegin fuel (k + 1) (if k < 5 then s.put PWR_FEED_TEST (k - 1) 0 else s)

/-- A round starts (R403), skipped while power failure is declared. -/
def feedRound (s : State) : State :=
  let n := s.get PWR_FEED_CFG_TEST_S 0
  if n = 0 ∨ s.flag PWR_STAT_TESTING 0 = true ∨ s.get CORE_COUNT 0 + 1 < s.get FT_AT 0 + n * second then s
  else
    let s := s.put FT_AT 0 (s.get CORE_COUNT 0 + 1)
    if s.flag PWR_STAT_PF 0 then s else stepBegin 6 1 ((s.put PWR_STAT_TESTING 0 1).put FT_FELL 0 0)

/-- A step passes: the voltage of the node, and that the feed under test carried it (R403). -/
def stepPasses (s : State) (k mv : Nat) (carries : Bool) : Bool :=
  if k < 3 then decide (18000 ≤ mv) && carries
  else if k < 5 then decide (10 * s.get PWR_PF_PF_WARN 0 + 100 ≤ mv)
  else decide (10 * s.get PWR_PF_PF_WARN 0 < mv)

/-! ### Hold-up energy (R412, R413) -/

/-- ½ C (V² − VHOLD_MIN²) in µJ, with C in µF and V in mV. -/
def holdup (s : State) (c mv : Nat) : Nat :=
  let m := 10 * s.get PWR_PF_VHOLD_MIN 0
  c * (mv * mv - m * m) / 2000000

/-- The estimate follows C_EST and the present voltage of the hold-up node (R413). -/
def estimate (s : State) : State :=
  if !s.flag CEST_RUN 0 then s
  else
    let e := holdup s (s.get PWR_PF_STAT_C_EST_UF 0) (s.get PWR_RAIL_MV 14)
    let u := min 65535 (e / 10)
    let s := s.put PWR_PF_STAT_EST_UJ 0 u
    if e < 20000 then (if s.flag PWR_STAT_HOLDUP_LOW 0 then s else (s.put PWR_STAT_HOLDUP_LOW 0 1).raise 19 u)
    else if 22000 ≤ e then s.put PWR_STAT_HOLDUP_LOW 0 0
    else s

/-- A VHOLD step ends, and the node fell to PF_WARN in it or did not; a fall that began in an earlier step counts from that one (R404). -/
def nodeFell (fell : Bool) (s : State) : State :=
  if fell && s.flag FT_FELL 0 then s else (s.putFlag FT_FELL 0 fell).put FT_WHOLE_AT 0 (s.get CORE_COUNT 0)

/-- The hold-up node is seen above PF_WARN: an earlier fall has passed (R404). -/
def nodeSeen (s : State) : State :=
  if s.flag FT_FELL 0 && decide (10 * s.get PWR_PF_PF_WARN 0 < s.get PWR_RAIL_MV 14) then s.put FT_FELL 0 0 else s

/-- A step of the round ends (R403, R404); step 5 gives the capacitance. No rule names the feed of a failed step 5. -/
def feedStep (mv : Nat) (carries : Bool) (c : Nat) (s : State) : State :=
  let k := s.get FT_STEP 0
  if k = 0 then s
  else
    let s := setPaths (if k < 3 then [0, 1] else [2, 3]) 1 s
    let ok := stepPasses s k mv carries
    let s := if k < 5 then (s.put PWR_FEED_TEST (k - 1) (if ok then 1 else 2)).put FT_DONE_AT (k - 1) (s.get CORE_COUNT 0)
      else if ok then estimate ((s.put PWR_PF_STAT_C_EST_UF 0 c).put CEST_RUN 0 1) else s
    let s := if k < 3 then s else nodeFell (decide (mv ≤ 10 * s.get PWR_PF_PF_WARN 0)) s
    let s := if ok then s
      else if k < 5 then s.raise 18 (k - 1 + 4 * k) else s.used.raise 18 (s.fresh % 4 + 4 * k)
    stepBegin 6 (k + 1) s

/-! ### Measurement (R406, R410) -/

/-- The junction temperature, signed in 0.1 °C; the events arm again once it has fallen (20 R457). -/
def tjSeen (tj : Int) (s : State) : State :=
  let s := s.putS PWR_TJ_TJ 0 tj
  let s := if tj < 10 * (s.get PWR_TJ_WARN 0 : Int) - 50 then s.put TJ_HOT 0 0 else s
  if tj < 1100 then s.put TJ_OVER 0 0 else s

/-- A rail's voltage and current (10 mA units), and its energy over this microsecond: mV × mA × µs is pJ. -/
def railSeen (r : Nat) (x : Nat × Nat) (s : State) : State :=
  let s := (s.put PWR_RAIL_MV r x.1).put PWR_RAIL_MA r x.2
  s.put RAIL_ACC r (s.get RAIL_ACC r + s.get PWR_RAIL_MV r * s.get PWR_RAIL_MA r * 10)

def railsSeen : Nat → List (Nat × Nat) → State → State
  | _, [], s => s
  | r, x :: xs, s => if r < 16 then railsSeen (r + 1) xs (railSeen r x s) else s

/-- The averaging window in µs; `WIN` = 0 acts as 1 ms (R406). -/
def winUs (s : State) : Nat := 1000 * max 1 (s.get PWR_CAP_WIN 0)

/-- A microsecond's energy of rails 0 to 13 in pJ is added: POWER_MW is the mean over the last WIN ms, or over the microseconds measured
since reset while they are fewer (R406; log entry 200). -/
def powerSeen (pj : Nat) (s : State) : State :=
  let xs := (pj :: s.powers).take 255000
  let ys := xs.take (winUs s)
  ({ s with powers := xs }).put PWR_TOTAL_POWER_MW 0 (min (2 ^ 20 - 1) (ys.foldl (· + ·) 0 / ys.length / 1000))

/-- The cap is judged (R410): POWER_MW has exceeded it for a whole WIN while the budget has been 0. -/
def capJudge (s : State) : State :=
  let mw := s.get PWR_TOTAL_POWER_MW 0
  let cap := s.get PWR_CAP_CAP_MW 0
  let us := if cap ≠ 0 ∧ cap < mw ∧ s.flag WIN_BUDGET 0 = false then min (winUs s) (s.get WIN_US 0 + 1) else 0
  let s := s.put WIN_US 0 us
  if us = winUs s then (if s.flag PWR_STAT_CAP_EXCEEDED 0 then s else (s.put PWR_STAT_CAP_EXCEEDED 0 1).raise 21 mw)
  else if 100 * mw < 95 * cap then s.put PWR_STAT_CAP_EXCEEDED 0 0
  else s

/-- One feed's voltage, current and whether its path conducts (R402). -/
def feedsSeen : Nat → List (Nat × Nat × Bool) → State → State
  | _, [], s => s
  | f, x :: xs, s =>
    if 4 ≤ f then s
    else
      let s := (s.put PWR_FEED_MV f x.1).put PWR_FEED_MA f x.2.1
      feedsSeen (f + 1) xs (if s.get PWR_FEED_PATH f = 2 then s else s.putFlag PWR_FEED_PATH f x.2.2)

/-- The planner measures every rail (R406). -/
def railMeasure (rails : List (Nat × Nat)) (feeds : List (Nat × Nat × Bool)) (tj : Int) (s : State) : State :=
  let s := feedsSeen 0 feeds (railsSeen 0 rails s)
  let sum := ((List.range 14).map (fun r => s.get PWR_RAIL_MV r * s.get PWR_RAIL_MA r * 10)).foldl (· + ·) 0
  tjSeen tj (estimate (capJudge (powerSeen sum (nodeSeen s))))

/-- The energies over the line cycle that ends, or over the last 100 µs (R406). -/
def energyLatch (s : State) : State :=
  let sum := ((List.range 14).map (fun r => s.get RAIL_ACC r)).foldl (· + ·) 0
  let s := s.put PWR_TOTAL_CYCLE_UJ 0 (min (2 ^ 24 - 1) (sum / 1000000))
  overRange (fun r t => (t.put PWR_RAIL_E_CYC r (min (2 ^ 24 - 1) (t.get RAIL_ACC r / 1000000))).put RAIL_ACC r 0) 16 s

/-! ### Background work (R407, R408; 04 R81) -/

/-- The class of a job, and the charge of its quantum in units of 0.25 pJ. -/
def bgClass : BgJob → Nat
  | .adapt _ => 0
  | .table _ | .louvre _ | .flow => 1
  | .applier | .compaction => 2
  | .scrub => 3
  | .ledgerScrub => 4
  | .selfTest => 5
def bgCost : BgJob → Nat
  | .adapt _ => 1600000
  | .table _ | .louvre _ => 6000000
  | .flow => 12000000
  | .applier | .compaction => 96000000
  | .scrub => 8000000
  | .ledgerScrub => 24000000
  | .selfTest => 40000000

/-- Core clock cycles of the scrub period. -/
def sbsPeriod (s : State) : Nat := max 1 (s.get SBD_CTRL_SCRUB_S 0) * second
def sbsDue (s : State) : Bool := decide (s.get SBS_AT 0 + sbsPeriod s ≤ s.get CORE_COUNT 0)

/-- The Soundboard scrub asks for its next quantum; a round has 1,024, and the next begins after its period (04 R81). -/
def sbsAsk (s : State) : State :=
  if s.get SBS_POS 0 < 1024 then s.bgAsk .scrub
  else if sbsDue s then (((s.put SBS_POS 0 0).put SBS_AT 0 (s.get CORE_COUNT 0)).put SBS_TOLD 0 0).bgAsk .scrub
  else s

/-- Lanes whose receive equaliser adapts (05 R127, 06 R141): field ports 16 to 31 by number, trunk lane l as 32 + l. -/
def adapting (s : State) : List Nat :=
  ((List.range 16).map (· + 16)).filter (fun p => s.get MAC_STAT_LANE p == laneUp || s.get MAC_STAT_LANE p == laneDegraded) ++
    ((List.range 8).filter (laneRuns s)).map (· + 32)

/-- The jobs that run all the time ask. -/
def bgAskAll (s : State) : State :=
  let s := overList (fun (l : Nat) (t : State) => t.bgAsk (.adapt l)) (adapting s) s
  scrubAsk (sbsAsk s)

/-- A request is granted; `over` when the budget does not cover it. -/
def bgGrant (past : Bool) (r : BgReq) (s : State) : State :=
  let c := bgClass r.job
  let s : State := { s with bgReqs := s.bgReqs.erase r, bgGrants := s.bgGrants ++ [r.job] }
  let s := s.sat PWR_BG_GRANTS c
  let s := if s.get PWR_BG_WAIT_MAX c < r.rounds then s.put PWR_BG_WAIT_MAX c (min 65535 r.rounds) else s
  if past then (s.sat PWR_BG_OVERDRAFT c).raise 22 c else s

/-- Step 1 of R408: requests that have waited 64 rounds or more, oldest first. -/
def grantOld : List BgReq → Nat → State → Nat × State
  | [], b, s => (b, s)
  | r :: rs, b, s =>
    if r.rounds < 64 then grantOld rs b s
    else grantOld rs (b - bgCost r.job) (bgGrant (decide (b < bgCost r.job)) r s)

/-- Step 2: the requests of a class, oldest first, as the budget covers them. -/
def grantClass (c : Nat) : List BgReq → Nat → State → Nat × State
  | [], b, s => (b, s)
  | r :: rs, b, s =>
    if bgClass r.job ≠ c ∨ b < bgCost r.job then grantClass c rs b s
    else grantClass c rs (b - bgCost r.job) (bgGrant false r s)

/-- All classes from 0 up. -/
def grantRest (b : Nat) (s : State) : State :=
  ((List.range 6).foldl (fun (x : Nat × State) c => grantClass c x.2.bgReqs x.1 x.2) (b, s)).2

/-- The budget of a round over P units of 1.25 ns, in units of 0.25 pJ (R408, R410). -/
def bgBudget (s : State) (p : Nat) : Nat :=
  let cap := s.get PWR_CAP_CAP_MW 0
  let b := s.get PWR_BUDGET_BG_MW 0 * p * 5
  if cap = 0 then b else min b ((cap - s.get PWR_TOTAL_POWER_MW 0) * p * 5)

/-- What grants set going at once: equaliser steps, and 64 KiB of the Soundboard read and corrected (04 R80, R81). -/
def grantsRun (words : List Ecc) (s : State) : State :=
  let scrub := s.bgGranted .scrub
  let s : State := { s with bgGrants := s.bgGrants.filter (fun j => match j with
    | .adapt _ | .scrub => false
    | _ => true) }
  if scrub then overList eccSeen (words.take 8192) (s.put SBS_POS 0 (s.get SBS_POS 0 + 1)) else s

/-- A grant round (R408). -/
def plannerRound (words : List Ecc) (s : State) : State :=
  let due := s.flag PLAN_DUE 0
  let grid := s.get CORE_COUNT 0 / 80000
  if !due && (s.started || decide (grid < s.get PLAN_GRID 0 + 1)) then s
  else
    let s := energyLatch ((s.put PLAN_DUE 0 0).put PLAN_GRID 0 grid)
    if s.flag PWR_STAT_PF 0 then s
    else
      let s := bgAskAll s
      let b := bgBudget s (if due then s.get LIM_CYC_PERIOD_PERIOD 0 else 80000)
      let s := s.putFlag WIN_BUDGET 0 (b != 0)
      let (b, s) := grantOld s.bgReqs b s
      let s := grantRest b s
      let s : State := { s with bgReqs := s.bgReqs.map (fun r => { r with rounds := r.rounds + 1 }) }
      grantsRun words s

/-- A scrub round of the Soundboard runs late: told once, and the round continues (04 R81). -/
def sbsLate (s : State) : State :=
  if sbsDue s && decide (s.get SBS_POS 0 < 1024) && !s.flag SBS_TOLD 0 then
    ((s.put SBS_TOLD 0 1).put SBD_STAT_SCRUB_LATE 0 1).raise 902
  else s

/-! ### Power failure (R411, R412) -/

/-- A low hold-up node does not count yet: it has fallen first in the VHOLD step under way, or it fell in one after which both paths have
conducted again for less than 20 µs (R404). -/
def probing (s : State) : Bool :=
  (decide (3 ≤ s.get FT_STEP 0) && !s.flag FT_FELL 0) ||
    (s.flag FT_FELL 0 && decide (s.get CORE_COUNT 0 < s.get FT_WHOLE_AT 0 + 20 * usec))

/-- Power failure is declared (R411, R404). -/
def powerFail (mv : Nat) (s : State) : State :=
  if s.flag PWR_STAT_PF 0 || decide (10 * s.get PWR_PF_PF_WARN 0 ≤ mv) || probing s then s
  else
    let s := (((s.put PWR_STAT_PF 0 1).put PF_AT 0 (s.get CORE_COUNT 0)).put PF_HANDED 0 0).raise 20 mv
    ldgFail { s with bgGrants := [] }

/-- C of the hold-up node in µF from its decay by `dv` mV over 40 µs, with the current in mA; below 5 mV it is C_EST (R412). -/
def decayC (s : State) (ma dv : Nat) : Nat := if dv < 5 then s.get PWR_PF_STAT_C_EST_UF 0 else ma * 40 / dv

/-- 50 µs after the declaration the planner hands the energy over (R412). -/
def handover (ma mv dv : Nat) (s : State) : State :=
  if s.flag PWR_STAT_PF 0 && !s.flag PF_HANDED 0 && decide (s.get PF_AT 0 + 50 * usec ≤ s.get CORE_COUNT 0) then
    let c := decayC s ma dv
    let e := holdup s c mv
    ldgGrant e (((s.put PF_HANDED 0 1).put PWR_PF_STAT_C_UF 0 (min 65535 c)).put PWR_PF_STAT_E_UJ 0 (min 65535 (e / 10)))
  else s

/-! ### The commands -/

/-- FEED_LOST (R402): feed f has stayed at `mv` for 100 µs. -/
def execFeedLost (f : Fin 4) (mv : BitVec 16) (s : State) : Result := .next (feedLost f mv.toNat s)

/-- FEED_RESTORED (R402): feed f has stayed at `mv` or above for 10 ms. -/
def execFeedRestored (f : Fin 4) (mv : BitVec 16) (s : State) : Result := .next (feedRestored f mv.toNat s)

/-- FEED_TEST_ROUND (R403). -/
def execFeedTestRound (s : State) : Result := .next (feedRound s)

/-- FEED_TEST_STEP (R403, R404): the lowest voltage of the node under test in mV, whether the feed under test carried its load,
and the capacitance in µF that step 5 finds. -/
def execFeedTestStep (mv : BitVec 16) (carries : Bool) (c : BitVec 16) (s : State) : Result :=
  .next (feedStep mv.toNat carries c.toNat s)

/-- RAIL_MEASURE (R406): voltage (mV) and current (10 mA) of rails 0 to 15, of the feeds with whether their paths conduct, and
the highest junction temperature (0.1 °C). -/
def execRailMeasure (rails : List (BitVec 16 × BitVec 16)) (feeds : List (BitVec 16 × BitVec 16 × Bool)) (tj : BitVec 16)
    (s : State) : Result :=
  .next (railMeasure (rails.map (fun x => (x.1.toNat, x.2.toNat))) (feeds.map (fun x => (x.1.toNat, x.2.1.toNat, x.2.2))) tj.toInt s)

/-- PLANNER_ROUND (R408): what the words of a granted Soundboard quantum show that are not good. -/
def execPlannerRound (words : List Ecc) (s : State) : Result := .next (plannerRound words s)

/-- SCRUB_ROUND_LATE (04 R81). -/
def execScrubRoundLate (s : State) : Result := .next (sbsLate s)

/-- POWER_FAILURE_DECLARE (R411, R404): the hold-up node's voltage. -/
def execPowerFailureDeclare (mv : BitVec 16) (s : State) : Result := .next (powerFail mv.toNat s)

/-- PF_ENERGY_HANDOVER (R412): the load current in mA, the node's voltage at the end of the measurement, and its fall, in mV. -/
def execPfEnergyHandover (ma mv dv : BitVec 16) (s : State) : Result := .next (handover ma.toNat mv.toNat dv.toNat s)

/-- PWR_TJ_HIGH (20 R457): the junction temperature. -/
def execPwrTjHigh (tj : BitVec 16) (s : State) : Result :=
  .next (let s := tjSeen tj.toInt s
    if 10 * (s.get PWR_TJ_WARN 0 : Int) ≤ tj.toInt ∧ s.flag TJ_HOT 0 = false then (s.put TJ_HOT 0 1).raise 23 tj.toNat else s)

/-- PWR_TJ_OVER (20 R457). -/
def execPwrTjOver (tj : BitVec 16) (s : State) : Result :=
  .next (let s := tjSeen tj.toInt s
    if 1120 < tj.toInt ∧ s.flag TJ_OVER 0 = false then (s.put TJ_OVER 0 1).raise 24 tj.toNat else s)

end Sys2Proof.Machine
end

