-- ==== Sys2Proof/Machine/Rdn.lean ====
section
/-! DEFINITION. The redundant pair (18 R415 to R425): claim words, the Latch, the island's comparison, mirroring, the standby
self-test, the pair link. -/

namespace Sys2Proof.Machine

/-! ### Internal cells -/

/-- SEQ of the next claim word; the unit's own latest word plus 1 as the island tapped it (0 none), and the peer's (R416, R421). -/
def CLAIM_SEQ : Fld := ⟨1442, 0, 4, .int, 0, .reset, .none⟩
def ISL_OWN : Fld := ⟨1443, 0, 25, .int, 0, .reset, .none⟩
def ISL_PEER : Fld := ⟨1444, 0, 25, .int, 0, .reset, .none⟩
/-- The core clock counts at which the island tapped those words (R421). -/
def ISL_OWN_AT : Fld := ⟨1546, 0, 64, .int, 0, .reset, .none⟩
def ISL_PEER_AT : Fld := ⟨1547, 0, 64, .int, 0, .keep, .none⟩
/-- Of a path: the latest valid word, the core clock count at which it ended (R418); the claim last sent. -/
def PEER_WORD : Fld := ⟨1445, 0, 24, .int, 0, .reset, .none⟩
def PEER_AT : Fld := ⟨1446, 0, 64, .int, 0, .reset, .none⟩
def SENT_CLAIM : Fld := ⟨1447, 0, 8, .int, 0, .reset, .none⟩
/-- The Latch has evaluated the next boundary; the role it gives; the last unit that owned: 1 this one, 2 the peer (R419). -/
def LATCH_DONE : Fld := ⟨1448, 0, 1, .int, 0, .reset, .none⟩
def LATCH_ROLE : Fld := ⟨1449, 0, 2, .int, 0, .reset, .none⟩
def LAST_OWNER : Fld := ⟨1450, 0, 2, .int, 0, .keep, .none⟩
/-- The core clock count of the latest word with OWNER = 1; the hold limit has expired since (R421). -/
def OWNER_AT : Fld := ⟨1451, 0, 64, .int, 0, .reset, .none⟩
def HOLD_OUT : Fld := ⟨1452, 0, 1, .int, 0, .reset, .none⟩
/-- Mirroring in this cycle (R423): the read is done, the deadline has passed; slots written from the mirror. -/
def MIR_READ : Fld := ⟨1453, 0, 1, .int, 0, .reset, .none⟩
def MIR_OVER : Fld := ⟨1454, 0, 1, .int, 0, .reset, .none⟩
def MIR_GOT : Fld := ⟨1455, 0, 1, .int, 0, .reset, .none⟩
/-- The standby self-test (R424): the core clock count at which it last began, plus 1; the test it does next, plus 1. -/
def SBT_AT : Fld := ⟨1456, 0, 64, .int, 0, .reset, .none⟩
def SBT_STEP : Fld := ⟨1457, 0, 3, .int, 0, .reset, .none⟩

def rdnAddr (off : Nat) : Nat := 0x4130_0000 + off

/-! ### Claims (R416 to R418) -/

/-- The effective claim (R417). -/
def effClaim (s : State) : Nat :=
  if s.flag PWR_STAT_PF 0 || !s.flag LIM_STAT_RUNNING 0 || (s.flag RDN_CFG_AUTO_YIELD 0 && !s.flag RDN_STAT_OWN_FIT 0) then 0
  else s.get RDN_CLAIM_CLAIM 0

/-- `RDN_CLAIM`.EFFECTIVE shows it. -/
def rdnSync (s : State) : State := s.put RDN_CLAIM_EFFECTIVE 0 (effClaim s)

/-- CRC-8 with polynomial 0x07, most significant bit first, from register `c` over the low `n` bits of `v`. -/
def crc8 : Nat → Nat → Nat → Nat
  | 0, _, c => c
  | n + 1, v, c =>
    let top := (c / 128 + v / 2 ^ n) % 2
    let c := c * 2 % 256
    crc8 n v (if top = 1 then c ^^^ 7 else c)

/-- The claim word for its low 16 bits (R416). -/
def claimWordOf (v : Nat) : Nat := v + 2 ^ 16 * crc8 16 v 0

def wordClaim (w : Nat) : Nat := w % 256
def wordOwner (w : Nat) : Bool := bitOf w 8
def wordFit (w : Nat) : Bool := bitOf w 9

/-- The stages as the island's own comparison of the two latest words leaves them: 0 they follow, 1 they hold, 2 they are
off (R421). A unit that is not paired drives its stages. -/
def islandGate (s : State) : Nat :=
  if !s.flag RDN_CFG_EN 0 then 0
  else
    let own := s.get ISL_OWN 0
    let peer := s.get ISL_PEER 0
    let pc := if peer = 0 then 0 else wordClaim (peer - 1)
    if own ≠ 0 ∧ wordOwner (own - 1) = true ∧ pc < wordClaim (own - 1) then 0
    else if peer ≠ 0 ∧ wordOwner (peer - 1) = true then 2
    else 1

/-- The island compares (R421). -/
def islandCompare (s : State) : State :=
  let g := islandGate s
  if g = s.get FIO_GATE 0 then s else fioGate g s

/-- The core side ends in a reset or a fatal fault (12 R288): every output enters its safe state, but in a pair, where the unit's words
stop, the stages hold (R421). -/
def coreOutputs (s : State) : State :=
  let s := islandCompare (s.put ISL_OWN 0 0)
  if s.flag RDN_CFG_EN 0 then s else enterSafe allOutputs s

/-- A word with OWNER = 1 restarts the hold limit (R421). -/
def ownerSeen (w : Nat) (s : State) : State :=
  if !wordOwner w then s
  else
    let s := s.put OWNER_AT 0 (s.get CORE_COUNT 0)
    if s.flag HOLD_OUT 0 then fioHoldEnd (s.put HOLD_OUT 0 0) else s

/-- How long a claim word counts: 6 µs (R418); the island lets its two words count as long (DESIGN CHOICE, log entry 191). -/
def wordLife : Nat := 6 * usec

/-- The island's words run out: those of a unit that sends none, or whose path is cut (R421). -/
def islandTimes (s : State) : State :=
  let old (W T : Fld) : Bool := s.get W 0 != 0 && decide (s.get T 0 + wordLife < s.get CORE_COUNT 0)
  if old ISL_OWN ISL_OWN_AT || old ISL_PEER ISL_PEER_AT then
    islandCompare ((if old ISL_OWN ISL_OWN_AT then s.put ISL_OWN 0 0 else s).put ISL_PEER 0
      (if old ISL_PEER ISL_PEER_AT then 0 else s.get ISL_PEER 0))
  else s

/-- The payload of a claim frame of the pair link (R416): the header of 06 R147 with LINE_ID, then the word (log entry 53). -/
def claimPayload (s : State) (w : Nat) : List Byte :=
  toBytes 4 (0x5F + 0x100 + s.get DEV_HUB_LINE_ID 0 * 2 ^ 16) ++ toBytes 4 w

/-- A frame of the pair link leaves at once on lane `p`. -/
def pairFrame (p : Nat) (payload : List Byte) (s : State) : State :=
  sendOut p (withFcs (trunkFrame s 0 0 payload)) (egressStamp s p (s.get TMB_PCFG_DEF_DOM p) s.fresh) false s.used

/-- A claim frame leaves on the lowest lane that is up (R416). -/
def pairSend (payload : List Byte) (s : State) : State :=
  if s.get RDN_STAT_LINK 0 = 0 then s else pairFrame (if s.bit RDN_STAT_LINK 0 0 then 30 else 31) payload s

/-- The unit's own word is sent on both paths, and the island taps it (R416); none from a reset until the boot is READY (19
R432). -/
def claimSend (s : State) : State :=
  if !s.flag RDN_CFG_EN 0 || s.get RST_BOOT_STAGE 0 != 5 then s
  else
    let s := rdnSync s
    let q := s.get CLAIM_SEQ 0
    let v := effClaim s + (if s.get RDN_STAT_ROLE 0 = 1 then 2 ^ 8 else 0) + (if s.flag RDN_STAT_OWN_FIT 0 then 2 ^ 9 else 0) +
      (if s.flag PWR_STAT_PF 0 then 2 ^ 10 else 0) + 2 ^ 12 * q
    let w := claimWordOf v
    let s := ((s.put CLAIM_SEQ 0 (q + 1)).put SENT_CLAIM 0 (effClaim s)).put ISL_OWN 0 (w + 1)
    let s := pairSend (claimPayload s w) ((s.put ISL_OWN_AT 0 (s.get CORE_COUNT 0)).emit (.claimWord w))
    islandCompare (ownerSeen w s)

/-- The two paths' words as they stand (R418). -/
def pathOn (s : State) (p : Nat) : Bool := s.bit RDN_STAT_PATHS 0 p
def newestPath (s : State) : Nat := if s.get PEER_AT 0 ≤ s.get PEER_AT 1 then 1 else 0

/-- PEER_CLAIM, PEER_SEEN and PEER_FIT follow the paths (R418, R424). -/
def peerSync (s : State) : State :=
  let a := pathOn s 0
  let b := pathOn s 1
  let wa := s.get PEER_WORD 0
  let wb := s.get PEER_WORD 1
  let w := if a && b then s.get PEER_WORD (newestPath s) else if a then wa else wb
  let s := s.putFlag RDN_STAT_PEER_SEEN 0 (a || b)
  if !(a || b) then (s.put RDN_STAT_PEER_CLAIM 0 0).put RDN_STAT_PEER_FIT 0 0
  else
    let c := if a && b && wa % 2 ^ 12 != wb % 2 ^ 12 then min (wordClaim wa) (wordClaim wb) else wordClaim w
    let was := s.flag RDN_STAT_PEER_FIT 0
    let s := (s.put RDN_STAT_PEER_CLAIM 0 c).putFlag RDN_STAT_PEER_FIT 0 (wordFit w)
    if was && !wordFit w && s.get RDN_STAT_ROLE 0 == 1 then s.raise 40 else s

/-- One of the paths alone is present. -/
def onePath (paths : Nat) : Bool := paths == 1 || paths == 2

/-- A path is present, or absent; the loss of the peer, and the absence of one path beside the other, are each raised once (R418). -/
def pathSet (p : Nat) (on : Bool) (s : State) : State :=
  let was := s.get RDN_STAT_PATHS 0
  let s := peerSync (s.putBit RDN_STAT_PATHS 0 p on)
  let now := s.get RDN_STAT_PATHS 0
  if now = 0 ∧ was ≠ 0 then s.raise 36
  else if onePath now && !onePath was then s.raise 37 (3 - now)
  else s

/-- A claim word arrives on a path, 0 the claim line, which the island taps, or 1 the pair link (R416, R418, R421). -/
def claimReceive (p w : Nat) (s : State) : State :=
  if !s.flag RDN_CFG_EN 0 then s
  else if crc8 16 (w % 2 ^ 16) 0 ≠ bitsOf w 16 8 then s.sat RDN_CNT_CLAIM_CRC 0
  else
    let s := pathSet p true ((s.put PEER_WORD p w).put PEER_AT p (s.get CORE_COUNT 0))
    if p = 0 then
      islandCompare (ownerSeen w ((s.put ISL_PEER 0 (w % 2 ^ 24 + 1)).put ISL_PEER_AT 0 (s.get CORE_COUNT 0)))
    else s

/-- A path is absent: its last valid word ended more than 6 µs before (R418). -/
def pathAbsent (p : Nat) (s : State) : State :=
  if !pathOn s p || decide (s.get CORE_COUNT 0 ≤ s.get PEER_AT p + wordLife) then s else pathSet p false s

/-- The unit's core side runs: its boot is READY and it is not on the fatal-fault path (19 R432, R433). -/
def unitRuns (s : State) : Bool := s.get RST_BOOT_STAGE 0 == 5 && s.get FATAL_PATH 0 == 0

/-- No word with OWNER = 1 for HOLD µs: every stage enters its safe state, and the island says so through a unit that runs (R421, 12
R288; which units run: DEDUCED, log entry 191). -/
def holdExpiry (s : State) : State :=
  if s.flag RDN_CFG_EN 0 && !s.flag HOLD_OUT 0 &&
      decide (s.get OWNER_AT 0 + max 1 (s.get RDN_HOLD_HOLD 0) * usec ≤ s.get CORE_COUNT 0) then
    let s := s.put HOLD_OUT 0 1
    fioHoldExpire (if unitRuns s then s.raise 35 else s)
  else s

/-! ### The Latch (R419, R420) -/

/-- The role that the claims give from the next boundary on. -/
def latchRole (s : State) : Nat :=
  let own := s.get SENT_CLAIM 0
  let peer := s.get RDN_STAT_PEER_CLAIM 0
  if peer < own then 1 else if own < peer then 2 else 3

/-- The evaluation instant, 4 µs before the boundary (R419). -/
def latchEvaluate (s : State) : State :=
  if s.flag RDN_CFG_EN 0 && s.get LIM_PHASE 0 != 0 && !s.flag LATCH_DONE 0 &&
      s.reached (s.get LIM_CYC_CTRL_DOM 0) ((s.get LIM_NEXT 0 + 2 ^ 40 - 4000 * 256) % 2 ^ 40) then
    (s.put LATCH_DONE 0 1).put LATCH_ROLE 0 (latchRole s)
  else s

/-- On the loss of ownership what waits on a gated port is dropped as for a down link, and so is what a trunk port forwards (R420). -/
def ownLoss (s : State) : State :=
  let s := overRange (fun p t => if gatedPort t p then dropPort p t else t) 32 s
  overRange (fun l t => dropWhere (32 + l) (fun f => !standbySends f) t) 8 s

/-- What follows a grant or loss of ownership (R420). -/
def ownApply (own : Bool) (s : State) : State :=
  islandCompare (ttbClaim own (ambClaim own (if own then s else ownLoss s)))

/-- The boundary of cycle `k`: the evaluated role takes effect (R419). -/
def ownerBoundary (k : Nat) (s : State) : State :=
  if !s.flag RDN_CFG_EN 0 then s
  else
    let new := if s.flag LATCH_DONE 0 then s.get LATCH_ROLE 0 else latchRole s
    let old := s.get RDN_STAT_ROLE 0
    let last := s.get LAST_OWNER 0
    let s := (s.put LATCH_DONE 0 0).put RDN_STAT_ROLE 0 new
    let s := if new = 3 then s.raise 34 k
      else
        let s := if last ≠ 0 ∧ last ≠ new then (s.sat RDN_CNT_SWITCHOVERS 0).put RDN_LAST_SW_CYCLE 0 k else s
        s.put LAST_OWNER 0 new
    let s := if new = 1 ∧ old ≠ 1 then s.raise 32 k else s
    let s := if old = 1 ∧ new ≠ 1 then s.raise 33 k else s
    let s := (s.put MIR_READ 0 0).put MIR_OVER 0 0
    let s := overList (fun (e : Nat × Nat) (t : State) => t.put MIR_GOT e.1 0) (s.listed MIR_GOT) s
    if (old = 1) = (new = 1) then s else ownApply (new == 1) s

/-- `RDN_CFG`.EN is written (R415): field ports 30 and 31, their lanes powered, become the pair link, or are free again. -/
def rdnEnable (en : Bool) (s : State) : State :=
  if s.flag LIM_STAT_RUNNING 0 || s.flag RDN_CFG_EN 0 == en then s
  else if en then
    let off (p : Nat) (s : State) : State := (macLinkDown p s).put MAC_CFG_EN p 0
    let s := ((off 31 (off 30 s)).put DOM_OFF (domSerdes 30) 0).put DOM_OFF (domSerdes 31) 0
    let s := s.put RDN_CFG_EN 0 1
    ownApply false ((s.put RDN_STAT_ROLE 0 3).put OWNER_AT 0 (s.get CORE_COUNT 0))
  else
    let s := fioHoldEnd ((((s.put RDN_CFG_EN 0 0).put RDN_STAT_ROLE 0 0).put RDN_STAT_PATHS 0 0).put HOLD_OUT 0 0)
    let s := ((((s.put ISL_OWN 0 0).put ISL_PEER 0 0).put ISL_OWN_AT 0 0).put ISL_PEER_AT 0 0).put RDN_STAT_LINK 0 0
    ownApply true (peerSync s)

/-- A write to `RDN_CFG`: EN is an RWL field, and ignored while cycling runs. -/
def rdnCfgWrite (q : Requester) (v : Nat) (s : State) : State :=
  let a := rdnAddr 0
  let s := if s.locked a then s else rdnEnable (bitOf v 0) s
  s.writeFlds q a 0 v [RDN_CFG_MIRROR_EN, RDN_CFG_TIME_EN, RDN_CFG_AUTO_YIELD, RDN_CFG_LOG_INT, RDN_CFG_LOCK]

/-! ### Mirroring (R423) -/

/-- The valid ranges, with first slot and length; a range ends with the line image (03 R56). -/
def mirRanges (s : State) : List (Nat × Nat × Nat) :=
  ((List.range 8).filter (fun i => s.flag RDN_MIR_VALID i)).map (fun i =>
    (i, s.get RDN_MIR_FIRST_SLOT i, min (s.get RDN_MIR_NSLOTS i) (s.slots - s.get RDN_MIR_FIRST_SLOT i)))

/-- `t` units of 1.25 ns after the boundary that began this cycle have passed. -/
def afterBoundary (s : State) (t : Nat) : Bool := s.reached (s.get LIM_CYC_CTRL_DOM 0) ((s.get LIM_CUR 0 + t * 320) % 2 ^ 40)

/-- A slot of the out half as it is read: its data and its status, STALE where the two status reads differ. -/
def mirSlot (s : State) (torn : List Nat) (n : Nat) : List Byte × Byte :=
  let h := 1 - s.fillHalf
  let st := (s.byte (s.statusAddr h n)).toNat
  (s.bytes (s.slotAddr h (32 * n)) 32, BitVec.ofNat 8 (if torn.contains n && !bitOf st 4 then st + 16 else st))

/-- The payload of a mirror frame (R423): the slice payload of 03 R76 with subtype 0x5D, SLICE_ID the range and FIRST the index in it,
as both status and data travel (log entry 53). -/
def mirPayload (s : State) (i first : Nat) (xs : List (List Byte × Byte)) : List Byte :=
  let now := s.now (s.get LIM_CYC_CTRL_DOM 0)
  let head := [0x5D + 0x100 + s.get DEV_HUB_LINE_ID 0 * 2 ^ 16, s.get DEV_HUB_HUB_NUM 0 + i * 2 ^ 24, s.get LIM_CYC_NUM_NUM 0,
    first + xs.length * 2 ^ 18 + 2 ^ 31, now / 256, now % 256, 0, 0]
  head.flatMap (toBytes 4) ++ xs.flatMap (fun x => x.1) ++ xs.map (fun x => x.2) ++
    List.replicate ((xs.length + 3) / 4 * 4 - xs.length) 0

/-- The slots that a mirror frame carries. -/
def mirSlotsOf (fr : List Byte) : List (List Byte × Byte) :=
  let n := bitsOf (payloadWord fr 3) 18 9
  (List.range n).map (fun j => ((fr.drop (50 + 32 * j)).take 32, BitVec.ofNat 8 (octet fr (50 + 32 * n + j))))

/-- The frames of a range: at most 480 slots each, in turn on the lanes that are up. -/
def mirFrames (s : State) (torn lanes : List Nat) (i first n : Nat) : Nat → Nat → List (Nat × List Byte)
  | 0, _ => []
  | fuel + 1, done =>
    let m := min 480 (n - done)
    if m = 0 then []
    else
      (lanes.getD (done / 480 % max 1 lanes.length) 30,
        mirPayload s i done ((List.range m).map (fun j => mirSlot s torn (first + done + j)))) ::
          mirFrames s torn lanes i first n fuel (done + m)

/-- The owner reads its out half and sends it (R423). -/
def mirrorRead (torn : List Nat) (s : State) : State :=
  let lanes := ([0, 1].filter (fun l => s.bit RDN_STAT_LINK 0 l)).map (· + 30)
  if s.flag RDN_CFG_EN 0 && s.flag RDN_CFG_MIRROR_EN 0 && s.get RDN_STAT_ROLE 0 == 1 && s.started && !s.flag MIR_READ 0 &&
      lanes != [] && s.get PASS_PHASE 0 == 0 && afterBoundary s (s.get RDN_MIR_CFG_OFFSET 0) then
    overList (fun (x : Nat × List Byte) t => pairFrame x.1 x.2 t)
      ((mirRanges s).flatMap (fun x => mirFrames s torn lanes x.1 x.2.1 x.2.2 ((x.2.2 + 479) / 480) 0)) (s.put MIR_READ 0 1)
  else s

/-- One mirrored slot is written to the fill half, unless the unit maps it with an RX entry (R423). -/
def mirWrite (n : Nat) (x : List Byte × Byte) (s : State) : State :=
  if (mappedRx s).contains n || decide (s.slots ≤ n) then s
  else
    let h := s.fillHalf
    let d := x.1.take 32
    ((s.putBytes (s.slotAddr h (32 * n)) (d ++ List.replicate (32 - d.length) 0)).putByte (s.statusAddr h n) x.2).put MIR_GOT n 1

def mirWrites : Nat → List (List Byte × Byte) → State → State
  | _, [], s => s
  | n, x :: xs, s => mirWrites (n + 1) xs (mirWrite n x s)

/-- A mirror frame arrives at the standby (R423). -/
def mirrorReceive (i first : Nat) (slots : List (List Byte × Byte)) (s : State) : State :=
  if s.flag RDN_CFG_EN 0 && s.flag RDN_CFG_MIRROR_EN 0 && s.get RDN_STAT_ROLE 0 == 2 && s.started && !s.flag MIR_OVER 0 &&
      s.flag RDN_MIR_VALID i then
    mirWrites (s.get RDN_MIR_FIRST_SLOT i + first) (slots.take (min 480 (s.get RDN_MIR_NSLOTS i - first))) s
  else s

/-- MIRROR_END has passed (R423): slots not written count, and the event is raised once. -/
def mirrorDeadline (s : State) : State :=
  if s.flag RDN_CFG_EN 0 && s.flag RDN_CFG_MIRROR_EN 0 && s.get RDN_STAT_ROLE 0 == 2 && s.started && !s.flag MIR_OVER 0 &&
      afterBoundary s (s.get RDN_MIR_CFG_MIRROR_END 0) then
    let want := (mirRanges s).flatMap (fun x => (List.range x.2.2).map (fun j => x.2.1 + j))
    let mapped := mappedRx s
    let n := (want.filter (fun k => !s.flag MIR_GOT k && !mapped.contains k)).length
    let s := s.put MIR_OVER 0 1
    if n = 0 then s else (s.sat RDN_CNT_MIRROR_LATE 0 n).raise 42 (s.get LIM_CYC_NUM_NUM 0)
  else s

/-! ### The standby self-test and the pair link (R424, R426) -/

/-- The tests start, and each granted step ends with its result (R424). Bit order as `RDN_TEST`.RESULT. -/
def selfTest (results : Nat) (s : State) : State :=
  if !s.flag RDN_CFG_EN 0 || s.get RDN_STAT_ROLE 0 != 2 then s
  else
    let k := s.get SBT_STEP 0
    if k = 0 then
      let n := s.get RDN_TEST_PERIOD_S 0
      if n = 0 ∨ s.get CORE_COUNT 0 + 1 < s.get SBT_AT 0 + n * second then s
      else ((s.put SBT_AT 0 (s.get CORE_COUNT 0 + 1)).put SBT_STEP 0 1).bgAsk .selfTest
    else if !s.bgGranted .selfTest then s
    else
      let s := s.bgEnd .selfTest
      let ok := bitOf results (k - 1)
      let s := s.putBit RDN_TEST_RESULT 0 (k - 1) ok
      let s := s.putFlag RDN_STAT_OWN_FIT 0 (s.get RDN_TEST_RESULT 0 == 63)
      let s := if ok then s else s.raise 41 (s.get RDN_TEST_RESULT 0)
      rdnSync (if k < 6 then (s.put SBT_STEP 0 (k + 1)).bgAsk .selfTest else s.put SBT_STEP 0 0)

/-- A lane of the pair link can run: its domain, the SerDes reference and its rail are there (01 R15, R16, 20 R445). -/
def pairPossible (s : State) (l : Nat) : Bool :=
  s.domOn (domSerdes (30 + l)) && s.flag CLK_STAT_SERDES_REF_OK 0 && !s.flag RAIL_BAD 4

/-- A pair-link lane comes up or goes down. -/
def pairLane (l : Nat) (up : Bool) (s : State) : State :=
  if !s.flag RDN_CFG_EN 0 || s.bit RDN_STAT_LINK 0 l == up || (up && !pairPossible s l) then s
  else (s.putBit RDN_STAT_LINK 0 l up).raise (if up then 39 else 38) (30 + l)

/-- The lanes of the pair link that can no longer run go down (01 R15). -/
def pairCheck (s : State) : State := overRange (fun l t => if pairPossible t l then t else pairLane l false t) 2 s

/-! ### Reception on the pair link (R416, R425) -/

/-- A frame on lane `l` of the pair link: time transfer, a claim word, or a mirror frame of this line (03 R77). -/
def pairReceive (l : Nat) (r : RxFrame) (s : State) : State :=
  if !(r.fcsOk && octet r.bytes 19 == 1 && s.bit RDN_STAT_LINK 0 l) then s
  else if octet r.bytes 18 = 0x5E then (if ttOn s ttPair then ttArrive ttPair r s else s)
  else if octet r.bytes 18 = 0x5F then claimReceive 1 (payloadWord r.bytes 1) s
  else if octet r.bytes 18 = 0x5D ∧ payloadWord r.bytes 0 / 2 ^ 16 = s.get DEV_HUB_LINE_ID 0 then
    mirrorReceive (payloadWord r.bytes 1 / 2 ^ 24 % 8) (bitsOf (payloadWord r.bytes 3) 0 18) (mirSlotsOf r.bytes) s
  else s

/-- A frame received on a field or trunk port (05 R116, 06 R147), or on a lane of the pair link. -/
def frameReceive (r : RxFrame) (s : State) : State :=
  if 32 ≤ r.port.val then trunkReceive r s
  else if s.flag RDN_CFG_EN 0 && decide (30 ≤ r.port.val) then pairReceive (r.port.val - 30) r s
  else macReceive r s

/-! ### The commands -/

/-- FRAME_RECEIVE (05 R116). -/
def execFrameReceive (r : RxFrame) (s : State) : Result := .next (frameReceive r s)

/-- CLAIM_WORD_SEND (R416). -/
def execClaimWordSend (s : State) : Result := .next (claimSend s)

/-- CLAIM_WORD_RECEIVE (R416, R418, R421): on path 0, the claim line, or 1, the pair link. -/
def execClaimWordReceive (path : Fin 2) (w : Word) (s : State) : Result := .next (claimReceive path w.toNat s)

/-- CLAIM_PATH_ABSENT (R418). -/
def execClaimPathAbsent (path : Fin 2) (s : State) : Result := .next (pathAbsent path s)

/-- LATCH_EVALUATION (R419). -/
def execLatchEvaluation (s : State) : Result := .next (latchEvaluate s)

/-- HOLD_EXPIRY (R421). -/
def execHoldExpiry (s : State) : Result := .next (holdExpiry s)

/-- MIRROR_READ (R423): the slots whose two status reads differ. -/
def execMirrorRead (torn : List (Fin 253952)) (s : State) : Result := .next (mirrorRead (torn.map (fun n => n.val)) s)

/-- MIRROR_FRAME_RECEIVE (R423): the range, the index of the first slot, each slot's data and status. -/
def execMirrorFrameReceive (i : Fin 8) (first : Fin 4096) (slots : List (List Byte × Byte)) (s : State) : Result :=
  .next (mirrorReceive i first slots s)

/-- MIRROR_DEADLINE (R423). -/
def execMirrorDeadline (s : State) : Result := .next (mirrorDeadline s)

/-- STANDBY_SELF_TEST (R424): a test bit that is 1 passes. -/
def execStandbySelfTest (results : BitVec 6) (s : State) : Result := .next (selfTest results.toNat s)

/-- PAIR_LINK_LANE_UP (R426). -/
def execPairLinkLaneUp (l : Fin 2) (s : State) : Result := .next (pairLane l true s)

/-- PAIR_LINK_LANE_DOWN (R426). -/
def execPairLinkLaneDown (l : Fin 2) (s : State) : Result := .next (pairLane l false s)

end Sys2Proof.Machine
end

