-- ==== Sys2Proof/Machine/Cores.lean ====
section
/-! DEFINITION. The architectural state of the Praben cores (08 R186 to R188, R220): Courses 0 to 31, the control core 32, the
Portcullis core 33. What their instructions do stands in Machine/Praben.lean. -/

namespace Sys2Proof.Machine

/-- General register r of core k at 32 k + r, bank register b at 4 k + b, PC. The code page is CORE_CP. -/
def CORE_G : Fld := ⟨1480, 0, 32, .int, 0, .reset, .none⟩
def CORE_B : Fld := ⟨1481, 0, 24, .int, 0, .reset, .none⟩
def CORE_PC : Fld := ⟨1482, 0, 16, .int, 0, .reset, .none⟩
/-- SR: V, C, Z, N, LVL, IEN, IEU, FLT, MDBUSY; RM as it differs from the core's first mode (1 for the control core and the
Portcullis core, which start in their boot ROM; 0 for a Course). -/
def CORE_V : Fld := ⟨1483, 0, 1, .int, 0, .reset, .none⟩
def CORE_C : Fld := ⟨1484, 0, 1, .int, 0, .reset, .none⟩
def CORE_Z : Fld := ⟨1485, 0, 1, .int, 0, .reset, .none⟩
def CORE_N : Fld := ⟨1486, 0, 1, .int, 0, .reset, .none⟩
def CORE_LVL : Fld := ⟨1487, 0, 2, .int, 0, .reset, .none⟩
def CORE_IEN : Fld := ⟨1488, 0, 1, .int, 0, .reset, .none⟩
def CORE_IEU : Fld := ⟨1489, 0, 1, .int, 0, .reset, .none⟩
def CORE_FLT : Fld := ⟨1490, 0, 1, .int, 0, .reset, .none⟩
def CORE_MDBUSY : Fld := ⟨1491, 0, 1, .int, 0, .reset, .none⟩
def CORE_RM : Fld := ⟨1492, 0, 1, .int, 0, .reset, .none⟩
/-- Special registers (R188): VBASE, FCAUSE, FADDRH:FADDRL, MDH:MDL, SLIM, CRCP, SMASK; and the core clock count from which
CYCLE counts. -/
def CORE_VBASE : Fld := ⟨1493, 0, 32, .int, 0, .reset, .none⟩
def CORE_FCAUSE : Fld := ⟨1494, 0, 32, .int, 0, .reset, .none⟩
def CORE_FADDR : Fld := ⟨1495, 0, 40, .int, 0, .reset, .none⟩
def CORE_MD : Fld := ⟨1496, 0, 64, .int, 0, .reset, .none⟩
def CORE_SLIM : Fld := ⟨1497, 0, 16, .int, 0, .reset, .none⟩
def CORE_CRCP : Fld := ⟨1498, 0, 2, .int, 0, .reset, .none⟩
def CORE_SMASK : Fld := ⟨1499, 0, 32, .int, 0, .reset, .none⟩
def CORE_CYC0 : Fld := ⟨1500, 0, 64, .int, 0, .reset, .none⟩
/-- The next instruction is a delay slot, and where execution goes after it: PC in [15:0], CP in [19:16] (R204, R208). -/
def CORE_SLOT : Fld := ⟨1501, 0, 1, .int, 0, .reset, .none⟩
def CORE_SLOT_TO : Fld := ⟨1502, 0, 20, .int, 0, .reset, .none⟩
/-- The iterative multiply (R205): its product, and the core clock count at which it lands. -/
def CORE_MD_NEXT : Fld := ⟨1503, 0, 64, .int, 0, .reset, .none⟩
def CORE_MD_AT : Fld := ⟨1504, 0, 64, .int, 0, .reset, .none⟩

/-- A fault whose entry waits to push its frame (R210): its cause, 0 for none, its code, and its address plus 1, 0 for none. -/
def CORE_FP : Fld := ⟨1548, 0, 4, .int, 0, .reset, .none⟩
def CORE_FP_CODE : Fld := ⟨1549, 0, 16, .int, 0, .reset, .none⟩
def CORE_FP_AT : Fld := ⟨1550, 0, 41, .int, 0, .reset, .none⟩

/-- Cells of one copy for each core. -/
def coreCells : List Fld :=
  [CORE_PC, CORE_CP, CORE_V, CORE_C, CORE_Z, CORE_N, CORE_LVL, CORE_IEN, CORE_IEU, CORE_FLT, CORE_MDBUSY, CORE_RM, CORE_VBASE,
   CORE_FCAUSE, CORE_FADDR, CORE_MD, CORE_SLIM, CORE_CRCP, CORE_SMASK, CORE_SLOT, CORE_SLOT_TO, CORE_MD_NEXT, CORE_MD_AT,
   CORE_WAIT, CORE_STALL, CORE_FREEZE, CORE_BLOCK, CORE_SETUP, CORE_FP, CORE_FP_CODE, CORE_FP_AT]

/-- Recovery mode: SR.RM (R186, R205); any core is in it during the built-in self-test (19 R435). -/
def coreRm (s : State) (k : Nat) : Bool :=
  s.get RST_BOOT_STAGE 0 == 1 || (if k < 32 then s.flag CORE_RM k else !s.flag CORE_RM k)
def setRm (k : Nat) (b : Bool) (s : State) : State := s.putFlag CORE_RM k (if k < 32 then b else !b)

/-- A core's results in flight, its reservation, and what it waited for are gone. -/
def coreForget (k : Nat) (s : State) : State :=
  let s := xltForget k s
  { s with
    trbDone := s.trbDone.filter (fun r => r.req ≠ k)
    flights := s.flights.filter (fun f => f.core ≠ k)
    resvs := s.resvs.filter (fun r => r.core ≠ k) }

/-- A core as it is after reset; CYCLE counts from now (log entry 29). -/
def coreReset (k : Nat) (s : State) : State :=
  let s := overList (fun (F : Fld) (t : State) => t.clear F k) coreCells s
  let s := overRange (fun r t => t.clear CORE_G (32 * k + r)) 32 s
  let s := overRange (fun b t => t.clear CORE_B (4 * k + b)) 4 s
  coreForget k (s.put CORE_CYC0 k (s.get CORE_COUNT 0))

/-- The state of R220 after a load: PC and CP come from ENTRY, VBASE from VECTORS. -/
def coreLoaded (k entry vectors : Nat) (s : State) : State :=
  let cyc := s.get CORE_CYC0 k
  let s := (coreReset k s).put CORE_CYC0 k cyc
  let s := overRange (fun b t => t.put CORE_B (4 * k + b) 0x400) 4 s
  ((s.put CORE_CP k (entry / 0x4_0000)).put CORE_PC k (entry % 0x4_0000 / 4)).put CORE_VBASE k vectors

end Sys2Proof.Machine
end

