-- ==== Sys2Proof/Machine/Image.lean ====
section
/-! DEFINITION. Images and key records (07 R163, R165; 17 R386 to R389): their format, their signers, their signatures. -/

namespace Sys2Proof.Machine

/-- Word `i` of some octets, `at'` octets in. -/
def imgWord (img : List Byte) (at' i : Nat) : Nat := ofBytes ((img.drop (at' + 4 * i)).take 4)

/-- `n` octets from offset `k` on. -/
def slice (img : List Byte) (k n : Nat) : List Byte := (img.drop k).take n

/-- Octets of a key block, and of a signature block (R387, 07 R163). -/
def keyBlockLen : Nat := 2692
def sigLen : Nat := 4724

/-- KEY_ID of a key block (R387, R389). -/
def keyIdOf (kb : List Byte) : List Byte := (sha384 kb).take 8

/-- Both signatures of a signature block verify over a message (R388). -/
def signedBy (kb msg sig : List Byte) : Bool :=
  decide (sig.length = sigLen) && Config.mlDsaOk (kb.take 2592) msg (sig.take 4627) &&
    Config.ecdsaOk (slice kb 2592 97) msg (slice sig 4628 96)

/-! ### Sections (07 R163, R165) -/

/-- A section: KIND, DEST, SIZE, SRC. -/
structure Section where
  kind : Nat
  dest : Nat
  size : Nat
  src : Nat
deriving DecidableEq, Repr

/-- IMAGE_LEN and NSECT of an image; its sections. -/
def imageLen (img : List Byte) : Nat := imgWord img 0 2
def sectionAt (img : List Byte) (i : Nat) : Section :=
  ⟨imgWord img 0 (32 + 4 * i) % 16, imgWord img 0 (33 + 4 * i), imgWord img 0 (34 + 4 * i), imgWord img 0 (35 + 4 * i)⟩
/-- The section table of a profile image begins at word 32, that of a firmware image at word 16. -/
def fwSectionAt (img : List Byte) (i : Nat) : Section :=
  ⟨imgWord img 0 (16 + 4 * i) % 16, imgWord img 0 (17 + 4 * i), imgWord img 0 (18 + 4 * i), imgWord img 0 (19 + 4 * i)⟩
def sectionsOf (img : List Byte) : List Section :=
  ((List.range (imgWord img 0 14 % 16)).map (sectionAt img)).filter (fun x => x.kind ≠ 0)
def fwSectionsOf (img : List Byte) : List Section :=
  ((List.range (imgWord img 0 7 % 16)).map (fwSectionAt img)).filter (fun x => x.kind ≠ 0)

/-- Two sections overlap in the memory `space` puts them in. -/
def sectionsApart (space : Nat → Nat) : List Section → Bool
  | [] => true
  | x :: xs => xs.all (fun y => space x.kind != space y.kind || decide (x.dest + x.size ≤ y.dest) ||
      decide (y.dest + y.size ≤ x.dest) || x.size == 0 || y.size == 0) && sectionsApart space xs

/-- An offset lies in a section of a kind. -/
def inSection (xs : List Section) (kind a : Nat) : Bool :=
  xs.any (fun x => x.kind == kind && decide (x.dest ≤ a) && decide (a < x.dest + x.size))

/-- Words that must be zero. -/
def zeroWords (img : List Byte) (lo n : Nat) : Bool := (List.range n).all (fun i => imgWord img 0 (lo + i) == 0)

/-- The reserved bits of the section entries' first words are zero. -/
def entriesClean (img : List Byte) (first : Nat) : Bool :=
  (List.range 8).all (fun i => imgWord img 0 (first + 4 * i) / 16 == 0)

/-! ### Belsum images (07 R163, R165) -/

def imgCpf (img : List Byte) : Nat := imgWord img 0 3 % 256
def imgCp (img : List Byte) : Nat := bitsOf (imgWord img 0 3) 8 8
def imgSvn (img : List Byte) : Nat := imgWord img 0 6
def imgKeyId (img : List Byte) : List Byte := slice img 64 8

/-- What is wrong with a profile image by the first row of R165, as the DETAIL of PROFILE_FORMAT (21 R463): 0 nothing, 1 MAGIC,
FORMAT or HDR_LEN, 2 a reserved field, 3 a section past IMAGE_LEN, 4 overlapping sections, 5 the hook area, 6 ENTRY or VECTORS
outside the code. A count, kind or length out of range counts as 2 or 3 (log entry 30). -/
def profileFormat (img : List Byte) : Nat :=
  let w := imgWord img 0
  let n := w 14 % 16
  let xs := sectionsOf img
  if !(w 0 == 0x4D534C42 && w 1 == 256 * 2 ^ 16 + 1) then 1
  else if !(decide (1 ≤ n) && decide (n ≤ 8) && w 14 / 16 == 0 &&
    w 3 / 2 ^ 16 == 0 && w 5 / 2 ^ 24 == 0 && bitsOf (w 7) 6 2 == 0 && bitsOf (w 7) 14 2 == 0 && w 7 / 2 ^ 22 == 0 &&
    bitsOf (w 8) 7 1 == 0 && w 8 / 2 ^ 11 == 0 && w 13 / 2 ^ 23 == 0 && w 15 / 2 ^ 8 == 0 && zeroWords img 18 14 &&
    entriesClean img 32 && xs.all (fun x => decide (x.kind ≤ 4))) then 2
  else if !(imageLen img % 4 == 0 && decide (256 ≤ imageLen img) && decide (imageLen img + sigLen ≤ img.length) &&
    xs.all (fun x => x.kind == 3 || decide (x.src + x.size ≤ imageLen img))) then 3
  else if !sectionsApart (fun k => if k = 4 then 1 else 0) xs then 4
  else if !xs.all (fun x => x.kind == 4 || decide (x.dest + x.size ≤ 0x7F800)) then 5
  else if !(inSection xs 1 (w 9) && inSection xs 1 (w 10)) then 6
  else 0

/-- The key blocks of the owner record's profile signing keys (R389). -/
def ownerProfileKeys (s : State) : List (List Byte) :=
  (List.range (bitsOf (imgWord s.ownerRec 0 1) 16 5)).map (fun i => slice s.ownerRec (64 + keyBlockLen * (1 + i)) keyBlockLen)

/-- Root key digest k is not revoked. -/
def rootLives (s : State) (k : Nat) : Bool := !s.bit PCS_FUSE_ROOT_REVOKED 0 k
def rootDigestOf (k : Nat) : List Byte := (List.range 48).map (Config.rootDigest k)

/-- The usable blocks of the root key table (R386). -/
def rootTable (s : State) : List (List Byte) :=
  (s.rootKeys.filter (fun e => decide (e.1 < 4) && rootLives s e.1 && sha384 e.2 == rootDigestOf e.1)).map (fun e => e.2)

/-- The key blocks that may sign a Belsum image in the present state of the lifecycle (R388). -/
def profileSigners (s : State) : List (List Byte) :=
  if s.get PCS_LC_STATE 0 = lcDeployed then ownerProfileKeys s else rootTable s

/-- Why a Belsum image is not verified (R388): 0 it is; 1 format, 2 signer, 3 signature, 4 SVN. -/
def profileCheck (s : State) (img : List Byte) : Nat :=
  if profileFormat img ≠ 0 then 1
  else
    let ks := (profileSigners s).filter (fun kb => keyIdOf kb == imgKeyId img)
    if ks = [] then 2
    else if !ks.any (fun kb => signedBy kb (img.take (imageLen img)) (slice img (imageLen img) sigLen)) then 3
    else if imgSvn img < svnMin s (256 * imgCpf img + imgCp img) then 4
    else 0

/-! ### Firmware images (R387, R388) -/

def fwSvn (img : List Byte) : Nat := imgWord img 0 4
def fwKeyBlock (img : List Byte) : List Byte := slice img 256 keyBlockLen
def fwCcEntry (img : List Byte) : Nat := imgWord img 0 5
def fwPcEntry (img : List Byte) : Nat := imgWord img 0 6

/-- Sizes of the memories that firmware sections fill: the control core's private SRAM, and the Portcullis core's code SRAM,
which lies above its ROM of 32 KiB (R379). -/
def fwSectionFits (x : Section) : Bool :=
  if x.kind ≤ 2 then decide (x.dest + x.size ≤ 0x10_0000) else decide (0x8000 ≤ x.dest) && decide (x.dest + x.size ≤ 0x4_0000)

/-- What is wrong with a firmware image, by the rules of R165's first row applied to R387; coded as `profileFormat`, 5 being a
section that its core's memory does not hold. -/
def firmwareFormat (img : List Byte) : Nat :=
  let w := imgWord img 0
  let n := w 7 % 16
  let xs := fwSectionsOf img
  if !(w 0 == 0x49574644 && w 1 == 256 * 2 ^ 16 + 1) then 1
  else if !(decide (1 ≤ n) && decide (n ≤ 8) && w 7 / 16 == 0 && w 3 / 2 ^ 24 == 0 && zeroWords img 10 6 && zeroWords img 48 16 &&
    entriesClean img 16 && xs.all (fun x => decide (x.kind ≤ 4))) then 2
  else if !(imageLen img % 4 == 0 && decide (256 + keyBlockLen ≤ imageLen img) && decide (imageLen img + sigLen ≤ img.length) &&
    xs.all (fun x => x.kind == 2 || x.kind == 4 || decide (x.src + x.size ≤ imageLen img))) then 3
  else if !sectionsApart (fun k => (k - 1) / 2) xs then 4
  else if !xs.all fwSectionFits then 5
  else if !(inSection xs 1 (fwCcEntry img) && inSection xs 3 (fwPcEntry img)) then 6
  else 0

/-- The root key entry whose digest the image's key block matches. -/
def fwRoot (s : State) (img : List Byte) : Option Nat :=
  (List.range 4).find? (fun k => rootLives s k && sha384 (fwKeyBlock img) == rootDigestOf k)

/-- Why a firmware image is not verified: 0 it is; 1 format, 2 signer, 3 signature, 4 SVN. -/
def firmwareCheck (s : State) (img : List Byte) : Nat :=
  if firmwareFormat img ≠ 0 then 1
  else if (fwRoot s img).isNone then 2
  else if !signedBy (fwKeyBlock img) (img.take (imageLen img)) (slice img (imageLen img) sigLen) then 3
  else if fwSvn img < s.get KEY_FW_SVN 0 then 4
  else 0

/-- A verified firmware image's key block fills the empty entry of its digest (R386). -/
def rootLearn (img : List Byte) (s : State) : State :=
  match fwRoot s img with
  | some k => if (tblFind s.rootKeys k).isSome then s else { s with rootKeys := tblPut s.rootKeys k (fwKeyBlock img) }
  | none => s

/-! ### The refusals of a load or an installation (07 R165, 16 R372) -/

/-- Which signature fails, as the DETAIL of PROFILE_SIG_FAIL: 1 ML-DSA-87, 2 ECDSA P-384, 3 both. -/
def sigDetail (kb msg sig : List Byte) : Nat :=
  let m := Config.mlDsaOk (kb.take 2592) msg (sig.take 4627)
  let e := Config.ecdsaOk (slice kb 2592 97) msg (slice sig 4628 96)
  (if m then 0 else 1) + (if e then 0 else 2)

/-- Status and DETAIL for an image that is not verified, none for one that is. -/
def profileRefusal (s : State) (img : List Byte) : Option (Nat × Nat) :=
  match profileCheck s img with
  | 0 => none
  | 1 => some (0x0105, profileFormat img)
  | 2 => some (0x0403, 4)
  | 3 =>
    let kb := ((profileSigners s).find? (fun kb => keyIdOf kb == imgKeyId img)).getD []
    some (0x0403, sigDetail kb (img.take (imageLen img)) (slice img (imageLen img) sigLen))
  | _ => some (0x0404, svnMin s (256 * imgCpf img + imgCp img) % 2 ^ 16)

def firmwareRefusal (s : State) (img : List Byte) : Option (Nat × Nat) :=
  match firmwareCheck s img with
  | 0 => none
  | 1 => some (0x0105, firmwareFormat img)
  | 2 => some (0x0403, 4)
  | 3 => some (0x0403, sigDetail (fwKeyBlock img) (img.take (imageLen img)) (slice img (imageLen img) sigLen))
  | _ => some (0x0404, s.get KEY_FW_SVN 0 % 2 ^ 16)

/-! ### Slots (16 R371) -/

/-- The stored bytes of a slot. -/
def slotImage (s : State) (k : Nat) : List Byte := durBytes s (slotOff k + 256) (min (slotWord s k 1) 1048320)

/-- DIGEST of a slot record: 48 octets. -/
def slotDigest (s : State) (k : Nat) : List Byte := durBytes s (slotOff k + 20) 48

end Sys2Proof.Machine
end

