-- ==== Sys2Proof/Machine/Reset.lean ====
section
/-! DEFINITION. Resets, clocks, rails and power domains (19 R427 to R434; 01 R14 to R17; 20 R445). -/

namespace Sys2Proof.Machine

/-! ### Internal cells -/

/-- The reset that waits (R431): its source code of `RST_CAUSE`, the core clock count at which it was asked for. -/
def RST_REQ_SRC : Fld := ⟨1461, 0, 4, .int, 0, .reset, .none⟩
def RST_REQ_AT : Fld := ⟨1462, 0, 64, .int, 0, .reset, .none⟩
/-- The 25 MHz reference (01 R14): core clock counts at which it was lost, and at which it returned. -/
def CLK_LOST_AT : Fld := ⟨1463, 0, 64, .int, 0, .keep, .none⟩
def CLK_REF_AT : Fld := ⟨1464, 0, 64, .int, 0, .keep, .none⟩
/-- RESET_N is low; PERST_N is low, and the core clock count from which configuration requests are answered (R435). -/
def RESET_N_LOW : Fld := ⟨1465, 0, 1, .int, 0, .keep, .none⟩
def PERST_LOW : Fld := ⟨1466, 0, 1, .int, 0, .keep, .none⟩
def CFG_AT : Fld := ⟨1467, 0, 64, .int, 0, .keep, .none⟩
/-- The control-core watchdog (R434): when its count began, and the warning has been given. -/
def RST_WDOG_AT : Fld := ⟨1468, 0, 64, .int, 0, .reset, .none⟩
def RST_WDOG_SAID : Fld := ⟨1469, 0, 1, .int, 0, .reset, .none⟩
/-- The level of ball RSTO_N (R432). -/
def RSTO_N : Fld := ⟨1470, 0, 1, .int, 0, .reset, .none⟩

def rstAddr (off : Nat) : Nat := 0x4010_0000 + off

/-- A millisecond of the core clock. -/
def msec : Nat := 800000

/-! ### What a reset keeps (00 R8; R428) -/

/-- Fields shown "hw" whose hardware state a warm reset leaves as it is. -/
def warmHw : List Fld :=
  [CLK_STAT_ROOT_LOCK, CLK_STAT_REF_OK, CLK_STAT_HOLDOVER, CLK_STAT_BACKUP_OSC, CLK_STAT_SERDES_REF_OK,
   CLK_STAT_PCIE_REF_OK, DEV_STEP_MINOR, DEV_STEP_MAJOR, DEV_CAP_DEBUG_OPEN, TMB_SUMMARY_LOCKED, TMB_SUMMARY_HOLDOVER,
   TMB_DOM_TIME_NS, TMB_DOM_TIME_FRAC, TMB_DOM_STAT_STATE, TMB_DOM_STAT_EPOCH_STALE, TMB_DOM_OFFS_THETA, TMB_PVAR_VAR_TX,
   TMB_PVAR_VAR_RX, TMB_PBASE_BASE_TX, TMB_PBASE_BASE_RX, LIM_CYC_NUM_NUM, LIM_STAT_FILL_HALF, LIM_CNT1_STALE_LAST,
   LIM_TAB_CTRL_DONE, LIM_TAB_STAT_STATE, LIM_TAB_STAT_FAIL_WHY, SBD_FLOW_CTRL_DONE, SBD_FLOW_STAT_STATE,
   SBD_FLOW_STAT_FAIL_WHY, SBD_FDB_STAT_USED, SBD_LVR_CTRL_DONE, SBD_LVR_STAT_STATE, SBD_LVR_STAT_FAIL_WHY,
   MAC_STAT_CYC_BANK, FRT_STAT_STOP_WHY, FRT_STAT_STATE, FRT_STAT_F0, FRT_STAT_F1, FRT_STAT_TM, FRT_QSTAT_TX_CNT,
   FRT_QSTAT_RX_CNT, FRT_DBG_CNT, FRT_DBG_BITCNT, FRT_DBG_SR, FIO_STAT_ISL_UP, FIO_STAT_CLAIMED, FIO_IN_IN,
   FIO_IN_SNAP_IN, FIO_IN_WB_IN, FIO_CPL_IN, FIO_CPL_OUT, FIO_OUT_ST_DRIVEN, FIO_OUT_FLT_SAFE, MKC_IN_TS_NS,
   MKC_IN_TS_FRAC, MKC_IN_TS_RISE, MKC_ADC_LAST_VALUE, TRB_SB_STAT_LEVEL, TRB_SB_TS_NS, TRB_SB_TS_FRAC,
   LDG_STAT_SPARES_EXHAUSTED, LDG_STAT_JOURNAL_SHORT, LDG_STAT_ROTATING, LDG_SPARES_GEN_FREE, LDG_SPARES_SEC_FREE,
   LDG_SPARES_RETIRED, LDG_CAP_USABLE_PAGES, LDG_CAP_JOURNAL_PAGES, LDG_ERR_ADDR, LDG_ERR_KIND, LDG_PF_CRIT_LOST,
   LDG_PF_IMP_LOST, LDG_PF_ROUT_LOST, LDG_PF_GRANT, LDG_PF_VALID, LDG_PF_SEALED, PCS_LC_STATE, PCS_LC_INCOMPLETE,
   PCS_LC_SEED_SLOT, PCS_STAT_WIPING, PCS_TMP_STAT_LIVE, PCS_FUSE_DEBUG_KILL, PCS_FUSE_SCRAP, PCS_FUSE_ROOT_REVOKED,
   PCS_FUSE_SEEDS, PCS_BOOT_SLOT, PCS_BOOT_FAIL_WHY, PWR_TOTAL_CYCLE_UJ, PWR_TOTAL_POWER_MW, PWR_STAT_CAP_EXCEEDED,
   PWR_STAT_HOLDUP_LOW, PWR_STAT_TESTING, PWR_PF_STAT_C_UF, PWR_PF_STAT_E_UJ, PWR_PF_STAT_C_EST_UF, PWR_PF_STAT_EST_UJ,
   PWR_RAIL_MV, PWR_RAIL_MA, PWR_RAIL_E_CYC, PWR_FEED_MV, PWR_FEED_MA, PWR_FEED_PATH, PWR_FEED_PRESENT, PWR_FEED_TEST,
   RDN_STAT_OWN_FIT, RDN_TEST_RESULT, RST_BOOT_SLOT, PWR_TJ_TJ]

/-- Internal state that a warm reset keeps, beside the PCI Express link and configuration (R428). -/
def warmInternal : List Fld :=
  [MAC_CYC, MAC_CYC_OK, FIO_RAW, FIO_AGREE, FIO_FILT, FIO_BREAKS, FIO_GOODS, FIO_STAGE, FIO_LAST, FIO_NEWUP, FIO_GATE, FIO_HELD_OUT,
   FIO_SHORT_AT, ISL_PEER, ISL_PEER_AT, OWNER_AT, HOLD_OUT, FRT_TBL, FRT_SLOTS, FRT_IS_SAFE, FRT_TQ, FRT_RQ, LDG_PAGE, LDG_PHYS, LDG_PHYS_BAD, LDG_OUT, LDG_SECTOR_BAD, LDG_SECTOR_CTR,
   LDG_SECTOR_GEN, LDG_SECTOR_TAG, LDG_CTR_BASE, LDG_REC_SEQ, LDG_NV_WRITTEN, LDG_ANCHOR, LDG_NV_PF, LDG_NV_LOST, LDG_NV_GRANT, LDG_KEY_GEN, LDG_ROT,
   LIM_TW, TAB_BANK, MAC_CLS, TMB_CTR, CORE_COUNT, TMP_LATCH, KEY_EPOCH, KEY_SESSIONS, KEY_FW_SVN,
   KEY_LOG_NEXT, KEY_TAMPERS, KEY_BOOTS, KEY_LC_OPEN, FUSE_SEED, FUSE_OP, FUSE_AT, FUSE_VAL, FT_AT, FT_DONE_AT, CEST_RUN, LAST_OWNER, DOM_OFF,
   AMB_ON, CRS_EPOCH, RAIL_BAD, SBD_FT, FT_BANK, LVR_W, LVR_BANK, LVR_A_COUNT, LVR_A_CT, LVR_A_BASE, LVR_HAVE, SBD_VLAN,
   SBD_PATH, SBD_GRP, SBD_FILT, SBD_METER, SBD_FRER, METER_C, METER_E, METER_AT, FRER_HIST, FRER_RUN, FRER_AT, MIR_SKIP,
   MIR_SEQ, EPOCH_COMMITTED, EPOCH_WAIT, SRV_FIRST, SRV_LAST_TS, SRV_INTEG, SRV_GOOD, SRV_BAD, SRV_GATED, SRV_STEP_SEEN,
   SRV_STEP_NS, SRV_STEP_AT, SRV_INCW_SEEN, SRV_INCW_NS, SRV_INCW_AT, SRV_ACC_AT, SRV_STEP_PRE, VAR_NEXT, TMB_EDGES, TTB_SCH]

def warmPcie : List Fld :=
  [PCIE_UP, FN_D3, HIF_BAR, HIF_VF_ON, PCI_DEVCTL, PCI_DEVCTL2, PCI_AERCTL, PCI_LINK_SPEED, PCI_LINK_WIDTH, MSIX_ADDR, MSIX_DATA, MSIX_MASK, MSIX_EN, MSIX_FMASK, CLK_LOST_AT, CLK_REF_AT, RESET_N_LOW,
   PERST_LOW, CFG_AT]

/-- Fields that even a cold reset keeps: the Ledger's arrays, the key store, the fuses, the always-on domain (R428). -/
def coldKept : List Fld :=
  [PWR_PF_STAT_C_UF, PWR_PF_STAT_E_UJ, CLK_STAT_REF_OK, CLK_STAT_SERDES_REF_OK, CLK_STAT_PCIE_REF_OK, DEV_STEP_MINOR, DEV_STEP_MAJOR,
   LDG_STAT_SPARES_EXHAUSTED, LDG_STAT_JOURNAL_SHORT, LDG_STAT_ROTATING, LDG_SPARES_GEN_FREE, LDG_SPARES_SEC_FREE,
   LDG_SPARES_RETIRED, LDG_CAP_USABLE_PAGES, LDG_CAP_JOURNAL_PAGES, LDG_PF_CRIT_LOST, LDG_PF_IMP_LOST, LDG_PF_ROUT_LOST,
   LDG_PF_GRANT, LDG_PF_VALID, LDG_PF_SEALED, PCS_LC_STATE, PCS_LC_INCOMPLETE, PCS_LC_SEED_SLOT, PCS_TMP_STAT_LIVE,
   PCS_FUSE_DEBUG_KILL, PCS_FUSE_SCRAP, PCS_FUSE_ROOT_REVOKED, PCS_FUSE_SEEDS, PCS_TMP_STAT_SEEN, PCS_TMP_LOG_NS,
   PCS_TMP_LOG_FRAC, PCS_TMP_LOG_SENSOR, PCS_TMP_LOG_STATE, PCS_TMP_LOG_VALID, LDG_PAGE, LDG_PHYS, LDG_PHYS_BAD, LDG_OUT,
   LDG_SECTOR_BAD, LDG_SECTOR_CTR, LDG_SECTOR_GEN, LDG_SECTOR_TAG, LDG_CTR_BASE, LDG_REC_SEQ, LDG_NV_WRITTEN, LDG_ANCHOR, LDG_NV_PF, LDG_NV_LOST,
   LDG_NV_GRANT, LDG_KEY_GEN, LDG_ROT, TMP_LATCH, KEY_EPOCH, KEY_SESSIONS, KEY_FW_SVN, KEY_LOG_NEXT,
   KEY_TAMPERS, KEY_BOOTS, KEY_LC_OPEN, FUSE_SEED, FUSE_OP, FUSE_AT, FUSE_VAL, CRS_EPOCH, RAIL_BAD]

/-- The numbers of the fields that a warm reset keeps. -/
def warmIds : List Nat :=
  (regTable.flatMap (fun r => (r.flds.filter (fun F => F.warm = .keep)).map (fun F => F.id))) ++
    (warmHw ++ warmInternal ++ warmPcie).map (fun F => F.id)

def coldIds : List Nat := (coldKept ++ [RESET_N_LOW, PERST_LOW]).map (fun F => F.id)

/-- The cells of kept fields. -/
def keptCells (ids : List Nat) (cells : List (Nat × Nat)) : List (Nat × Nat) :=
  cells.filter (fun e => ids.contains (e.1 % 4096))

/-- Memory that a reset keeps: the Ledger and what is durable; a warm one also the Soundboard and the private SRAMs, which the
boot loads anew. -/
def keptByte (cold : Bool) (a : Nat) : Bool :=
  let ledger := decide (0x2000_0000 ≤ a) && decide (a < 0x2400_0000)
  if cold then ledger else ledger || decide (a < 0x2000_0000)

/-! ### After a reset -/

/-- The Portcullis restarts from its ROM; a tamper latched while its domain was off wipes first (R428, 17 R396). -/
def pcsRestart (s : State) : State :=
  let v := s.get TMP_LATCH 0
  if v = 0 then s else tamperRun v (s.put TMP_LATCH 0 0)

/-- Tables whose verification a warm reset cut off ask for their grants again. -/
def reAsk (s : State) : State :=
  let s := overRange (fun t u => if u.get LIM_TAB_STAT_STATE t = 1 then u.bgAsk (.table t) else u) 33 s
  let s := overRange (fun q u => if u.get SBD_LVR_STAT_STATE q = 1 then u.bgAsk (.louvre q) else u) 40 s
  if s.get SBD_FLOW_STAT_STATE 0 = 1 then s.bgAsk .flow else s

/-- Every Fret is stopped by a warm reset, its slots at SAFE (R432). -/
def fretsReset (s : State) : State :=
  overRange (fun f t => ((t.put FRT_STAT_STOP_WHY f 3).put FRT_IS_SAFE f 1).put FRT_SLOTS f (t.get FRT_CFG_SAFE f)) 64 s

/-- What a warm reset leaves beside the kept state (R428, R432). It turns a Portcullis domain on that was off (01 R17). The outputs of
a unit that is not paired enter their safe state; those of a paired unit, whose words stop, hold (18 R421). -/
def afterWarm (s : State) : State :=
  let s := fretsReset s
  let s := overRange (fun c t => (if t.flag AMB_ON c then t.put AMB_CH_STAT_STATE c ambConfig else t).putFlag AMB_CH_STAT_CLAIMED c
    (!t.flag RDN_CFG_EN 0)) 16 s
  let s := overRange (fun k t => t.putFlag TTB_POC_STAT_CLAIMED k (!t.flag RDN_CFG_EN 0)) 4 s
  let s := if s.flag RDN_CFG_EN 0 then s.put RDN_STAT_ROLE 0 3 else s
  let s := ((if s.domOn domPortcullis then s else pcsCodeOpen s).put PWR_STAT_TESTING 0 0).put DOM_OFF domPortcullis 0
  let s := overRange (fun f t => if t.get PWR_FEED_PATH f = 2 then t.put PWR_FEED_PATH f 1 else t) 4 s
  let s := coreOutputs (s.sat RST_BOOT_RESETS 0)
  let s := reAsk { s with events := [] }
  debugSync ((s.put PCS_STAT_STATE 0 1).put SPAD_AT 0 (s.get CORE_COUNT 0))

/-- What a cold reset leaves beside the kept state: the Portcullis core's code SRAM is open (01 R17), and the root PLL relocks when
it has its reference. -/
def afterCold (hadRef : Bool) (s : State) : State :=
  let s := s.put CRS_EPOCH pcsMemNum (s.get CRS_EPOCH pcsMemNum + 1)
  debugSync ((s.putFlag CLK_STAT_ROOT_LOCK 0 hadRef).putFlag CLK_STAT_BACKUP_OSC 0 (!hadRef))

/-- A reset of class 0 power-on, 1 cold or 2 warm takes effect (R427, R428). Staged entries that are not durable are lost. -/
def doReset (cls src : Nat) (s : State) : State :=
  let cold := decide (cls < 2)
  let hadRef := s.flag CLK_STAT_REF_OK 0
  let keptList {α : Type} (l : List α) : List α := if cold then [] else l
  let base : State := { State.reset with
    pending := s.pending
    cells := keptCells (if cold then coldIds else warmIds) s.cells
    mem := s.mem.filter (fun e => keptByte cold e.1)
    sram := (keptList s.sram).filter (fun e => decide (pcsMemBase ≤ e.1))
    fdb := keptList s.fdb
    journal := s.journal
    anchors := s.anchors
    dirCopies := s.dirCopies
    ownerRec := s.ownerRec
    rootKeys := s.rootKeys
    caks := s.caks
    out := s.out
    freeCtr := s.freeCtr }
  let base := fuseCut base
  let t := if cold then afterCold hadRef base else afterWarm base
  let t := if cls = 0 then t.put TMP_LATCH 0 0 else t
  pcsRestart ((t.put RST_CAUSE_CLASS 0 cls).put RST_CAUSE_SRC 0 src)

/-- The PCI Express link goes down, for every function (14 R338). -/
def pcieDown (s : State) : State :=
  if s.flag PCIE_UP 0 then (((overRange (fun f t => functionGone f false t) 16 s).put PCIE_UP 0 0).put PCI_LINK_SPEED 0 0).put PCI_LINK_WIDTH 0 0 else s

/-- An endpoint reset: link and configuration space, MSI-X tables (R428). -/
def endpointReset (src : Nat) (s : State) : State :=
  let s := pcieDown s
  let s := overList (fun (F : Fld) (t : State) =>
    overList (fun (e : Nat × Nat) (u : State) => u.clear F e.1) (t.listed F) t)
    [FN_D3, HIF_BAR, HIF_VF_ON, PCI_DEVCTL, PCI_DEVCTL2, PCI_AERCTL, PCI_LINK_SPEED, PCI_LINK_WIDTH, MSIX_ADDR, MSIX_DATA, MSIX_MASK,
      MSIX_EN, MSIX_FMASK] s
  (s.put RST_CAUSE_CLASS 0 3).put RST_CAUSE_SRC 0 src

/-! ### Requests (R429 to R431) -/

/-- An endpoint reset is asked for: a reset of a higher class in progress takes effect instead, and while power failure is declared
the power-fail restart serves it (R429). -/
def endpointAsk (src : Nat) (s : State) : State :=
  if s.flag PWR_STAT_PF 0 || s.get RST_REQ 0 != 0 then s else endpointReset src s

/-- A reset of class 1 cold or 2 warm is asked for: it begins with a flush, or joins the one in progress; the higher class
takes effect (R429, R431). -/
def resetAsk (cls src : Nat) (s : State) : State :=
  let r := s.get RST_REQ 0
  if r = 0 then
    ldgGo (((s.put RST_REQ 0 cls).put RST_REQ_SRC 0 src).put RST_REQ_AT 0 (s.get CORE_COUNT 0))
  else if cls < r then (s.put RST_REQ 0 cls).put RST_REQ_SRC 0 src
  else s

/-- The reset asked for takes effect once its flush is complete, or 10 ms after the request; while power failure is declared
it is held (R429, R431). -/
def resetNow (s : State) : State :=
  let r := s.get RST_REQ 0
  if r = 0 ∨ s.flag PWR_STAT_PF 0 = true then s
  else if s.flag LDG_FLUSH_BUSY 0 && decide (s.get CORE_COUNT 0 < s.get RST_REQ_AT 0 + 10 * msec) then s
  else doReset r (s.get RST_REQ_SRC 0) s

/-- A write of `RST_HOST` (R430). -/
def rstHostWrite (v : Nat) (s : State) : State :=
  if bitsOf v 16 16 ≠ 0xD0A1 then s.sat RST_HOST_BAD_KEY 0
  else match v % 4 with
    | 0 => resetAsk 1 3 s
    | 1 => resetAsk 2 3 s
    | 2 => endpointAsk 3 s
    | _ => s

/-- A write of `RST_CTRL` (R431). -/
def rstCtrlWrite (v : Nat) (s : State) : State :=
  let s := if bitOf v 0 then resetAsk 1 4 s else s
  if bitOf v 1 then resetAsk 2 4 s else s

/-- A write of `RST_WDOG` (R434): KICK restarts the count, and so does turning the watchdog on. -/
def rstWdogWrite (v : Nat) (s : State) : State :=
  let was := s.get RST_WDOG_TIMEOUT_MS 0
  let s := s.put RST_WDOG_TIMEOUT_MS 0 (bitsOf v 0 16)
  if bitOf v 16 || was == 0 then (s.put RST_WDOG_AT 0 (s.get CORE_COUNT 0)).put RST_WDOG_SAID 0 0 else s

/-! ### The fatal-fault path (R433) -/

/-- Cycling stops at once: no further boundary, no cyclic or slice frame of this cycle. -/
def cyclingHalts (s : State) : State :=
  let s : State := { s with assembled := [], sliceReads := [], timed := [], twins := [] }
  ((((s.put LIM_STAT_RUNNING 0 0).put LIM_CYC_CTRL_RUN 0 0).put LIM_PHASE 0 0).put LIM_STOP 0 0).put LATCH_DONE 0 0

/-- Every Course enters STOPPED, and every Fret stops with its slots at SAFE. -/
def enginesHalt (s : State) : State :=
  let s := overRange (fun n t => if t.get CRS_STAT_STATE n = crsOff then t
    else lockLost n (((t.put CRS_STAT_STATE n crsStopped).put CRS_STAT_HALT_WHY n 0).put CORE_BLOCK n 0)) 32 s
  overRange (fun f t =>
    let t := if t.flag FRT_STAT_RUN f then fretStop f 1 t else t
    (t.put FRT_IS_SAFE f 1).put FRT_SLOTS f (t.get FRT_CFG_SAFE f)) 64 s

/-- The control core takes the fatal-fault path, with the cause, PC and code page that `RST_FATAL` records; where its handler
stands in the boot ROM is open. -/
def fatalPath (cause pc cp : Nat) (s : State) : State :=
  if s.get FATAL_PATH 0 ≠ 0 then s
  else
    let t := s.nowNs (s.get LIM_CYC_CTRL_DOM 0)
    let s := (((s.put RST_FATAL_CAUSE 0 cause).put RST_FATAL_PC 0 pc).put RST_FATAL_CP 0 cp).put RST_FATAL_TIME_NS 0 t
    let s := setRm 32 true (((lockLost 32 s).put CORE_CP 32 3).used.put CORE_PC 32 s.fresh)
    let s := (coreOutputs (enginesHalt (cyclingHalts s))).sat RST_BOOT_FAILS 0
    if s.flag CLK_STAT_BACKUP_OSC 0 then ldgGo (s.put FATAL_PATH 0 2) else resetAsk 2 9 (s.put FATAL_PATH 0 1)

/-! ### Clocks (01 R14, R15) -/

/-- The reference returns: within the holdover limit the PLL relocks; a PLL that has stopped starts again with the RESET
stage. -/
def refRestored (s : State) : State :=
  if s.flag CLK_STAT_REF_OK 0 then s
  else
    let now := s.get CORE_COUNT 0
    let s := (s.put CLK_STAT_REF_OK 0 1).put CLK_REF_AT 0 now
    if s.flag CLK_STAT_HOLDOVER 0 then
      ((s.put CLK_STAT_HOLDOVER 0 0).put CLK_STAT_ROOT_LOCK 0 1).raise 3 ((now - s.get CLK_LOST_AT 0) / usec)
    else if s.get RST_BOOT_STAGE 0 = 0 then (s.put CLK_STAT_ROOT_LOCK 0 1).put CLK_STAT_BACKUP_OSC 0 0
    else s

/-- Every SerDes port goes down, or starts its lanes again; lanes of the pair link go down without their reference. -/
def serdesPorts (s : State) : State :=
  overRange (fun p t => macLinkDown (16 + p) t) 16 (pairCheck s)
def trunkLanes (s : State) : State :=
  overRange (fun l t => if portOfLane t l = l then trkLinkDown l t else t) 8 s

/-! ### Power domains (01 R16, R17) -/

/-- A Course's domain turns on: what its memory holds is open, the Course is STOPPED. -/
def courseOn (n : Nat) (s : State) : State :=
  let s : State := { s with sram := s.sram.filter (fun e => e.1 / 0x8_0000 ≠ n) }
  let s := ((s.put CRS_ON n 1).put CRS_EPOCH n (s.get CRS_EPOCH n + 1)).put CRS_FILLED n 0
  (coreReset n s).put CRS_STAT_STATE n crsStopped

/-- The Portcullis domain turns on, its core as after reset (17 R400; log entry 29). -/
def pcsOn (s : State) : State := if s.domOn domPortcullis then s else coreReset 33 (pcsPowerUp s)

/-- It turns off: its L1 leaves the directory first, its dirty lines written back. -/
def courseOff (n : Nat) (s : State) : State :=
  let s := coreForget n (dirLeave n (courseStop n s))
  let s : State := { s with sram := s.sram.filter (fun e => e.1 / 0x8_0000 ≠ n) }
  ((s.put CRS_ON n 0).put CRS_STAT_STATE n crsOff).put CRS_STAT_HALT_WHY n 0

/-- What follows when a domain other than a Course, a bus controller or the Portcullis has turned on or off: its links. -/
def domainLinks (d : Nat) (s : State) : State :=
  if 39 ≤ d ∧ d < 71 then macLinkDown (d - 39) (pairCheck s)
  else if 71 ≤ d ∧ d < 73 then
    overRange (fun k t => let l := 4 * (d - 71) + k; if portOfLane t l = l then trkLinkDown l t else t) 4 s
  else s

/-- Domain `d` turns on. -/
def domainOn (d : Nat) (s : State) : State :=
  if s.domOn d then s
  else if d < 32 then courseOn d s
  else if d = 32 then pcsOn s
  else if d < 73 then domainLinks d (s.put DOM_OFF d 0)
  else if d < 89 then ambPowerOn (d - 73) s
  else if d < 93 then ttbPowerOn (d - 89) s
  else if s.flag RAIL_BAD 5 then s else s.put MKC_CTRL_ADC_EN 0 1

/-- Domain `d` turns off. -/
def domainOff (d : Nat) (s : State) : State :=
  if !s.domOn d then s
  else if d < 32 then courseOff d s
  else if d = 32 then pcsPowerDown s
  else if d < 73 then domainLinks d (s.put DOM_OFF d 1)
  else if d < 89 then ambPowerOff (d - 73) s
  else if d < 93 then ttbPowerOff (d - 89) s
  else s.put MKC_CTRL_ADC_EN 0 0

/-- DOMAIN_POWER's final reply is due once its domain is as asked (14 R331). -/
def domainSettle (d : Nat) (on : Bool) (s : State) : State :=
  if s.domOn d = on then s.settle (.power d on) 0 0 [] else s

/-! ### Rails (20 R445) -/

/-- The blocks of a rail react. -/
def railBlocks (r : Nat) (s : State) : State :=
  match r with
  | 2 => trunkLanes s
  | 3 => trunkLanes s
  | 4 => pcieDown (overRange (fun p t => macLinkDown p t) 32 (pairCheck s))
  | 5 => overRange (fun p t => macLinkDown p t) 16 s
  | _ => s

/-- Commands that wait for a trunk group's power fail while its rail is low. -/
def railFails (r : Nat) (s : State) : State :=
  if r = 2 ∨ r = 3 then ((s.settle (.power (domTrunk 0) true) 0x0505 r []).settle (.power (domTrunk 1) true) 0x0505 r []) else s

/-! ### The commands -/

/-- REFERENCE_LOST (01 R14). -/
def execReferenceLost (s : State) : Result :=
  .next (if s.flag CLK_STAT_REF_OK 0 then
    let s := ((s.put CLK_STAT_REF_OK 0 0).put CLK_STAT_ROOT_LOCK 0 0).put CLK_LOST_AT 0 (s.get CORE_COUNT 0)
    if s.flag CLK_STAT_BACKUP_OSC 0 then s else (s.put CLK_STAT_HOLDOVER 0 1).raise 2
  else s)

/-- REFERENCE_RESTORED (01 R14). -/
def execReferenceRestored (s : State) : Result := .next (refRestored s)

/-- HOLDOVER_LIMIT_EXPIRY (01 R14): the root PLL stops and the fatal-fault path begins. -/
def execHoldoverLimitExpiry (s : State) : Result :=
  .next (if s.flag CLK_STAT_HOLDOVER 0 &&
      decide (s.get CLK_LOST_AT 0 + max 1 (s.get CLK_HOLD_LIMIT_LIMIT 0) * 100 * usec ≤ s.get CORE_COUNT 0) then
    fatalPath 0xF0 (s.get CORE_PC 32) (s.get CORE_CP 32) ((s.put CLK_STAT_HOLDOVER 0 0).put CLK_STAT_BACKUP_OSC 0 1)
  else s)

/-- SERDES_REFERENCE_LOSS (01 R15). -/
def execSerdesReferenceLoss (s : State) : Result :=
  .next (if s.flag CLK_STAT_SERDES_REF_OK 0 then trunkLanes (serdesPorts (s.put CLK_STAT_SERDES_REF_OK 0 0)) else s)

/-- SERDES_REFERENCE_RESTORED (01 R15): the lanes begin again. -/
def execSerdesReferenceRestored (s : State) : Result :=
  .next (if s.flag CLK_STAT_SERDES_REF_OK 0 then s else trunkLanes (serdesPorts (s.put CLK_STAT_SERDES_REF_OK 0 1)))

/-- PCIE_REFERENCE_LOSS (01 R15). -/
def execPcieReferenceLoss (s : State) : Result :=
  .next (if s.flag CLK_STAT_PCIE_REF_OK 0 then pcieDown (s.put CLK_STAT_PCIE_REF_OK 0 0) else s)

/-- PCIE_REFERENCE_RESTORED (01 R15): configuration requests are answered 20 ms later (R435). -/
def execPcieReferenceRestored (s : State) : Result :=
  .next (if s.flag CLK_STAT_PCIE_REF_OK 0 then s
    else (s.put CLK_STAT_PCIE_REF_OK 0 1).put CFG_AT 0 (s.get CORE_COUNT 0 + 20 * msec))

/-- PCIE_LINK_DOWN (14 R338): for every function. -/
def execPcieLinkDown (s : State) : Result := .next (pcieDown s)

/-- The link has trained to a speed from 2.5 to 32 GT/s (codes 1 to 5) and a width of 1, 2, 4 or 8 lanes, which are open (14 R320). -/
def linkTrained (x : Nat) (s : State) : State := (s.put PCI_LINK_SPEED 0 (1 + x % 5)).put PCI_LINK_WIDTH 0 (2 ^ (x / 5 % 4))

/-- PCIE_LINK_UP (14 R335): held attention events of functions that are up are raised. The link needs its reference, its rail
and PERST_N high. -/
def execPcieLinkUp (s : State) : Result :=
  .next (if s.flag PCIE_UP 0 || !s.flag CLK_STAT_PCIE_REF_OK 0 || s.flag RAIL_BAD 4 || s.flag PERST_LOW 0 then s
    else overRange (fun f t => if t.flag FN_D3 f then t else sideUp (34 + f) t) 16 (linkTrained s.fresh (s.used.put PCIE_UP 0 1)))

/-- DOMAIN_TURN_ON (01 R17). -/
def execDomainTurnOn (d : Fin 94) (s : State) : Result := .next (domainSettle d true (domainOn d s))

/-- DOMAIN_TURN_OFF (01 R16). -/
def execDomainTurnOff (d : Fin 94) (s : State) : Result := .next (domainSettle d false (domainOff d s))

/-- POWER_FAIL_RESTART (18 R411): the hold-up node has stayed at `mv` or above for 10 ms. -/
def execPowerFailRestart (mv : BitVec 16) (s : State) : Result :=
  .next (if s.flag PWR_STAT_PF 0 && s.get LDG_STAT_STATE 0 == ldgPfDone && decide (10 * s.get PWR_PF_PF_OK 0 < mv.toNat) then
    doReset 1 5 s else s)

/-- POWER_ON_RESET (R427). -/
def execPowerOnReset (s : State) : Result := .next (doReset 0 0 s)

/-- RESET_N_ASSERT (R427): held low for 1 µs. -/
def execResetNAssert (s : State) : Result := .next ((doReset 1 1 s).put RESET_N_LOW 0 1)

/-- RESET_N_RELEASE (R427). -/
def execResetNRelease (s : State) : Result := .next (s.put RESET_N_LOW 0 0)

/-- PERST_N (R427): low. -/
def execPerstN (s : State) : Result := .next ((endpointAsk 6 s).put PERST_LOW 0 1)

/-- PERST_N_RELEASE (R435). -/
def execPerstNRelease (s : State) : Result :=
  .next ((s.put PERST_LOW 0 0).put CFG_AT 0 (s.get CORE_COUNT 0 + 20 * msec))

/-- RST_CTRL_COLD (R431). -/
def execRstCtrlCold (q : Requester) (s : State) : Result := .next (s.gateCC q (rstAddr 4) (rstCtrlWrite 1))

/-- RST_CTRL_WARM (R431). -/
def execRstCtrlWarm (q : Requester) (s : State) : Result := .next (s.gateCC q (rstAddr 4) (rstCtrlWrite 2))

/-- RST_HOST_WRITE (R430): the physical function and the control core may. -/
def execRstHostWrite (q : Requester) (v : Word) (s : State) : Result :=
  .next (if q = .pf ∨ q = .cc then s.gate q (rstAddr 8) (rstHostWrite v.toNat) else s.denied q (rstAddr 8) .no)

/-- REFERENCE_STABLE (R433): REF_OK has been 1 for 1 ms. -/
def execReferenceStable (s : State) : Result :=
  .next (if s.get FATAL_PATH 0 == 2 && s.flag CLK_STAT_REF_OK 0 && !s.flag PWR_STAT_PF 0 &&
      decide (s.get CLK_REF_AT 0 + msec ≤ s.get CORE_COUNT 0) then doReset 1 10 s else s)

/-- RST_WDOG_KICK (R434): the register written, by the control core. -/
def execRstWdogKick (q : Requester) (v : Word) (s : State) : Result := .next (s.gateCC q (rstAddr 0x18) (rstWdogWrite v.toNat))

/-- Half the timeout has passed: the warning, once. -/
def wdogHalf (s : State) : State :=
  let n := s.get RST_WDOG_TIMEOUT_MS 0
  if n ≠ 0 ∧ s.flag RST_WDOG_SAID 0 = false ∧ s.get RST_WDOG_AT 0 + n * msec / 2 ≤ s.get CORE_COUNT 0 then
    (s.put RST_WDOG_SAID 0 1).raise 1
  else s

/-- RST_WDOG_WARN (R434). -/
def execRstWdogWarn (s : State) : Result := .next (wdogHalf s)

/-- CC_WATCHDOG_EXPIRY (R434). -/
def execCcWatchdogExpiry (s : State) : Result :=
  .next (let n := s.get RST_WDOG_TIMEOUT_MS 0
    if n ≠ 0 ∧ s.get RST_WDOG_AT 0 + n * msec ≤ s.get CORE_COUNT 0 then
      fatalPath 0xF1 (s.get CORE_PC 32) (s.get CORE_CP 32) (wdogHalf s)
    else s)

/-- RAIL_OUT_OF_RANGE (20 R445): rail r of 18 R406. -/
def execRailOutOfRange (r : Fin 16) (s : State) : Result :=
  .next (if s.flag RAIL_BAD r then s else railFails r (railBlocks r (s.put RAIL_BAD r 1)))

/-- RAIL_BACK_IN_RANGE (20 R445). -/
def execRailBackInRange (r : Fin 16) (s : State) : Result :=
  .next (if s.flag RAIL_BAD r then railBlocks r (s.put RAIL_BAD r 0) else s)

/-- PORTCULLIS_WAKE (17 R400). -/
def execPortcullisWake (s : State) : Result :=
  .next (if s.flag PCS_WAKE 0 || s.get TMP_LATCH 0 != 0 then pcsOn s else s)

end Sys2Proof.Machine
end

