-- ==== Sys2Proof/Machine/Boot.lean ====
section
/-! DEFINITION. Boot (19 R435 to R438): the stages from RESET to READY or SAFE_HALT. -/

namespace Sys2Proof.Machine

/-- The firmware slot chosen plus 1 (0 none), and the slots whose digest failed (R436, 17 R388). -/
def BOOT_PICK : Fld := ⟨1471, 0, 2, .int, 0, .reset, .none⟩
def BOOT_TRIED : Fld := ⟨1472, 0, 2, .int, 0, .reset, .none⟩

def stageReset : Nat := 0
def stageSelfTest : Nat := 1
def stageSelect : Nat := 2
def stageLoad : Nat := 3
def stageRecovery : Nat := 4
def stageReady : Nat := 5
def stageSafeHalt : Nat := 6

def bootStage (s : State) : Nat := s.get RST_BOOT_STAGE 0
def setStage (v : Nat) (s : State) : State := s.put RST_BOOT_STAGE 0 v

/-- The supplies are good and the root PLL is locked (R435, 20 R445). -/
def suppliesGood (s : State) : Bool :=
  !s.flag RESET_N_LOW 0 && s.flag CLK_STAT_ROOT_LOCK 0 && [0, 1, 13].all (fun r => !s.flag RAIL_BAD r)

/-- The VALID firmware slots in the order in which the boot ROM tries them: descending GEN, and the lower GEN first when FAILS
is 2 or 3 (R436). -/
def bootOrder (s : State) : List Nat :=
  let two := if slotGen s 0 < slotGen s 1 then [1, 0] else [0, 1]
  let two := if s.get RST_BOOT_FAILS 0 = 2 ∨ s.get RST_BOOT_FAILS 0 = 3 then two.reverse else two
  two.filter (fun k => slotValid s k && !s.bit BOOT_TRIED 0 k)

/-- The first slot whose image verifies; every one before it is recorded in FAIL_WHY (R436, 17 R388). -/
def bootTry : List Nat → State → State
  | [], s => s.put BOOT_PICK 0 0
  | k :: ks, s =>
    let why := firmwareCheck s (slotImage s k)
    if why = 0 then s.put BOOT_PICK 0 (k + 1) else bootTry ks (s.put PCS_BOOT_FAIL_WHY 0 why)

/-- Slot choice: none in SCRAPPED (17 R392), none when FAILS has reached 4 (R437). -/
def bootSelect (s : State) : State :=
  if s.get PCS_LC_STATE 0 = lcScrapped ∨ 4 ≤ s.get RST_BOOT_FAILS 0 then s.put BOOT_PICK 0 0 else bootTry (bootOrder s) s

/-- A section of a firmware image is loaded: into the control core's private SRAM, or the Portcullis core's own memory. -/
def loadSection (img : List Byte) (x : Section) (s : State) : State :=
  let bs := if x.kind = 2 ∨ x.kind = 4 then List.replicate x.size 0 else slice img x.src x.size
  if x.kind ≤ 2 then s.putBytes (0x800_0000 + x.dest) bs else s.putSram (pcsMemBase + x.dest) bs

/-- The Portcullis core loads its code from the verified firmware image (17 R379, R399, R400). -/
def loadPcs (img : List Byte) (s : State) : State :=
  overList (loadSection img) ((fwSectionsOf img).filter (fun x => decide (2 < x.kind))) s

/-- A core enters firmware at a byte offset of the memory it executes from. -/
def coreEnter (k entry : Nat) (s : State) : State :=
  setRm k false ((s.put CORE_CP k (entry / 0x4_0000)).put CORE_PC k (entry % 0x4_0000 / 4))

/-- FW_LOAD: the sections are loaded if the stored DIGEST is that of the bytes; else the slot is recorded and skipped. -/
def bootLoad (k : Nat) (s : State) : State :=
  let img := slotImage s k
  if sha384 img = slotDigest s k then
    let s := rootLearn img (overList (loadSection img) (fwSectionsOf img) s)
    let s := coreEnter 32 (fwCcEntry img) ((s.put RST_BOOT_SLOT 0 k).put PCS_BOOT_SLOT 0 k)
    setStage stageLoad s
  else bootSelect ((s.put PCS_BOOT_FAIL_WHY 0 5).putBit BOOT_TRIED 0 k true)

/-- The slot that booted, as the firmware SVN minimum and attestation see it. -/
def bootSlot (s : State) : Nat := s.get RST_BOOT_SLOT 0

/-- Damair firmware at LEDGER_RECOVERY: the Ledger (16 R376), the firmware SVN minimum (17 R388), an interrupted lifecycle
transition (17 R394). -/
def bootRecover (s : State) : State :=
  let s := ldgRecover (setStage stageRecovery s)
  let v := slotWord s (bootSlot s) 4
  let s := if s.get KEY_FW_SVN 0 < v then s.put KEY_FW_SVN 0 v else s
  if s.flag KEY_LC_OPEN 0 then ((s.put KEY_LC_OPEN 0 0).put PCS_LC_INCOMPLETE 0 1).raise 100 else s

/-! ### The commands -/

/-- SELF_TEST (R435): a cold reset's zeroing leaves the Soundboard and the control-core SRAM reading zero. The Portcullis core
starts in its ROM. -/
def execSelfTest (s : State) : Result :=
  .next (if bootStage s = stageReset ∧ suppliesGood s = true then
    let s := if s.get PCS_STAT_STATE 0 = pcsOff ∧ s.domOn domPortcullis = true then s.put PCS_STAT_STATE 0 pcsBooting else s
    setStage stageSelfTest s
  else s)

/-- FW_SELECT (R436): RSTO_N goes high (R432). -/
def execFwSelect (s : State) : Result :=
  .next (if bootStage s = stageSelfTest then bootSelect ((setStage stageSelect s).put RSTO_N 0 1) else s)

/-- FW_LOAD (R435). -/
def execFwLoad (s : State) : Result :=
  .next (if bootStage s = stageSelect ∧ s.get BOOT_PICK 0 ≠ 0 then bootLoad (s.get BOOT_PICK 0 - 1) s else s)

/-- LEDGER_RECOVERY (16 R376). -/
def execLedgerRecovery (s : State) : Result := .next (if bootStage s = stageLoad then bootRecover s else s)

/-- RST_READY (R435): its DETAIL carries CLASS and SRC of `RST_CAUSE` (21 R465). -/
def execRstReady (s : State) : Result :=
  .next (if bootStage s = stageRecovery then
    ((setStage stageReady s).sat KEY_BOOTS 0).raise 0 (s.get RST_CAUSE_CLASS 0 + 4 * s.get RST_CAUSE_SRC 0)
  else s)

/-- SAFE_HALT (R437): ring 0 is the physical function's, with context 0. -/
def execSafeHalt (s : State) : Result :=
  .next (if bootStage s = stageSelect ∧ s.get BOOT_PICK 0 = 0 then
    ((setStage stageSafeHalt s).put HIF_RING_OWN_FUNC 0 0).put HIF_RING_OWN_CTX 0 0
  else s)

/-- BOOT_DONE (R436): the control core writes 1. -/
def execBootDone (q : Requester) (s : State) : Result :=
  .next (s.gateCC q (rstAddr 0x10) (fun s => (s.put RST_BOOT_BOOT_DONE 0 1).put RST_BOOT_FAILS 0 0))

/-- PORTCULLIS_READY (17 R399, R400): the core has run its ROM, loaded and entered its firmware and accepts requests; held attention events of
its Wickets are raised (14 R335). -/
def execPortcullisReady (s : State) : Result :=
  .next (if s.get PCS_STAT_STATE 0 = pcsBooting ∧ s.domOn domPortcullis = true ∧ stageLoad ≤ bootStage s ∧
      bootStage s ≤ stageReady then
    let img := slotImage s (bootSlot s)
    sideUp 33 (coreEnter 33 (fwPcEntry img) (pcsKeys ((loadPcs img s).put PCS_STAT_STATE 0 pcsReady)))
  else s)

end Sys2Proof.Machine
end

