-- ==== Sys2Proof/Machine/Profiles.lean ====
section
/-! DEFINITION. Profiles (07 R163 to R167): the table of what is loaded, the checks of a load, loading and unloading. -/

namespace Sys2Proof.Machine

/-! ### Internal cells: what Damair firmware knows of a loaded profile, by its number 0 to 15 (R164) -/

/-- 0 none, 1 being loaded, 2 loaded, 3 being unloaded. -/
def INST_STATE : Fld := ⟨1505, 0, 2, .int, 0, .reset, .none⟩
/-- Its slot, Courses, Soundboard area (offset in bytes, KiB), and the owner of field port p in bits [8p + 7:8p]. -/
def INST_SLOT : Fld := ⟨1506, 0, 3, .int, 0, .reset, .none⟩
def INST_COURSES : Fld := ⟨1507, 0, 32, .int, 0, .reset, .none⟩
def INST_SB : Fld := ⟨1508, 0, 32, .int, 0, .reset, .none⟩
def INST_SB_KIB : Fld := ⟨1509, 0, 32, .int, 0, .reset, .none⟩
def INST_OWNERS : Fld := ⟨1510, 0, 256, .int, 0, .reset, .none⟩
/-- What its image's header says: CPF and CP in bytes 0 and 1, CLASS, VERSION, WCET, MIN_PERIOD, SVN; the slot's DIGEST. -/
def INST_CPFCP : Fld := ⟨1511, 0, 16, .int, 0, .reset, .none⟩
def INST_CLASS : Fld := ⟨1512, 0, 32, .int, 0, .reset, .none⟩
def INST_VERSION : Fld := ⟨1513, 0, 24, .int, 0, .reset, .none⟩
def INST_WCET : Fld := ⟨1514, 0, 32, .int, 0, .reset, .none⟩
def INST_MINP : Fld := ⟨1515, 0, 23, .int, 0, .reset, .none⟩
def INST_SVN : Fld := ⟨1516, 0, 32, .int, 0, .reset, .none⟩
def INST_DIGEST : Fld := ⟨1517, 0, 384, .int, 0, .reset, .none⟩

def instNone : Nat := 0
def instLoading : Nat := 1
def instLoaded : Nat := 2
def instUnloading : Nat := 3

def instState (s : State) (i : Nat) : Nat := s.get INST_STATE i

/-- The members of a set of 32 Courses or ports, from the lowest up. -/
def members (mask : Nat) : List Nat := (List.range 32).filter (fun n => bitOf mask n)

/-- The profile that a Course belongs to. -/
def instOf (s : State) (n : Nat) : Option Nat :=
  (List.range 16).find? (fun i => instState s i != instNone && s.bit INST_COURSES i n)

/-- A profile uses a slot. -/
def slotUsed (s : State) (k : Nat) : Bool := (List.range 16).any (fun i => instState s i != instNone && s.get INST_SLOT i == k)

/-- The lowest-numbered loaded profile that a period is too short for (R165). -/
def periodTooShort (s : State) (period : Nat) : Option Nat :=
  (List.range 16).find? (fun i => instState s i != instNone &&
    (decide (period < s.get INST_MINP i) || decide (period < s.get INST_WCET i)))

/-! ### The checks of a load (R165) -/

/-- What PROFILE_LOAD asks for: number, slot, Courses, area, and the owning Course of each port (255 none). -/
structure LoadAsk where
  inst : Nat
  slot : Nat
  courses : Nat
  sb : Nat
  kib : Nat
  owners : List Nat
deriving DecidableEq, Repr

/-- The owner asked for a port. -/
def LoadAsk.owner (a : LoadAsk) (p : Nat) : Option Nat :=
  match a.owners[p]? with
  | some n => if n < 32 then some n else none
  | none => none

/-- The Course that owns a port: a loaded profile's, or that of one whose load was accepted and has not ended (R164). -/
def portTaken (s : State) (p : Nat) : Option Nat :=
  match portOwner s p with
  | some m => some m
  | none => (List.range 16).findSome? (fun i =>
      let m := bitsOf (s.get INST_OWNERS i) (8 * p) 8
      if instState s i = instLoading ∧ m < 32 then some m else none)

/-- The first Course for which the load is refused with COURSE_BUSY (R165): not OFF or STOPPED, or in another profile; then a
port that another Course owns. -/
def busyCourse (s : State) (a : LoadAsk) : Option Nat :=
  match (members a.courses).find? (fun n =>
      decide (crsStopped < s.get CRS_STAT_STATE n) || (instOf s n).isSome) with
  | some n => some n
  | none => ((List.range 32).filterMap (fun p => match a.owner p, portTaken s p with
      | some n, some m => if n = m then none else some m
      | _, _ => none)).head?

/-- A port does not suit the image: its mode, its ring role, or more than PORTS_MAX ports for its Course. -/
def portUnfit (s : State) (img : List Byte) (a : LoadAsk) (p : Nat) : Bool :=
  let w := imgWord img 0
  match a.owner p with
  | none => false
  | some n =>
    !bitOf (w 8 % 128) (s.get MAC_CFG_MODE p) ||
      (s.get MAC_CFG_RING_ROLE p == 1 && !bitOf (w 8) 8) || (s.get MAC_CFG_RING_ROLE p == 2 && !bitOf (w 8) 9) ||
      decide (bitsOf (w 7) 16 6 ≤ ((List.range p).filter (fun k => a.owner k == some n)).length)

/-- Status and DETAIL of a refused load, none for one that R165 lets pass. Where no Course is the reason for COURSE_BUSY its
DETAIL is open. -/
def loadRefusal (s : State) (a : LoadAsk) : Option (Nat × Nat) :=
  let img := slotImage s a.slot
  let w := imgWord img 0
  let n := (members a.courses).length
  let need := bitsOf (w 11) 16 16 + n * (w 11 % 2 ^ 16)
  if !slotValid s a.slot then some (0x0105, 1)
  else match profileRefusal s img with
    | some x => some x
    | none =>
      if n < w 7 % 64 ∨ bitsOf (w 7) 8 6 < n then some (0x020A, s.fresh % 2 ^ 16)
      else match busyCourse s a with
        | some c => some (0x020A, c)
        | none =>
          if instState s a.inst ≠ instNone then some (0x020A, s.fresh % 2 ^ 16)
          else match (List.range 32).find? (portUnfit s img a) with
            | some p => some (0x0211, p)
            | none =>
              if a.kib < need ∨ 0x400_0000 < a.sb + 1024 * a.kib ∨ s.areaReserved a.sb (1024 * a.kib) = false then
                some (0x0302, min 65535 (need - a.kib))
              else if s.flag LIM_STAT_RUNNING 0 && (decide (s.get LIM_CYC_PERIOD_PERIOD 0 < w 13 % 2 ^ 23) ||
                  decide (s.get LIM_CYC_PERIOD_PERIOD 0 < w 12)) then some (0x0205, a.inst)
              else none

/-- A load that passed is entered in the table. -/
def loadBegin (a : LoadAsk) (s : State) : State :=
  let i := a.inst
  let w := imgWord (slotImage s a.slot) 0
  let owners := ofBytes ((List.range 32).map (fun p => BitVec.ofNat 8 ((a.owner p).getD 255)))
  let s := ((((s.put INST_STATE i instLoading).put INST_SLOT i a.slot).put INST_COURSES i a.courses).put INST_SB i a.sb).put
    INST_SB_KIB i a.kib
  let s := (((s.put INST_OWNERS i owners).put INST_CPFCP i (w 3 % 2 ^ 16)).put INST_CLASS i (w 4)).put INST_VERSION i (w 5)
  let s := ((s.put INST_WCET i (w 12)).put INST_MINP i (w 13)).put INST_SVN i (w 6)
  s.put INST_DIGEST i (ofBytes (slotDigest s a.slot))

/-! ### Loading (R166) -/

/-- The ports that Course `n` owns in profile `i`. -/
def instPorts (s : State) (i n : Nat) : Nat :=
  ((List.range 32).map (fun p => if bitsOf (s.get INST_OWNERS i) (8 * p) 8 = n then 2 ^ p else 0)).foldl (· + ·) 0

/-- Step 2: every byte of the local memory is written. -/
def loadMemory (img : List Byte) (n : Nat) (s : State) : State :=
  let s : State := { s.put CRS_FILLED n 1 with sram := s.sram.filter (fun e => e.1 / 0x8_0000 ≠ n) }
  overList (fun (x : Section) (t : State) =>
    if x.kind = 1 ∨ x.kind = 2 then t.putSram (0x8_0000 * n + x.dest) (slice img x.src x.size) else t) (sectionsOf img) s

/-- Values that the specification does not give: the next free one in each of a Course's fields, from the first on. -/
def freeFields (n : Nat) : List Fld → State → State
  | [], s => s
  | F :: Fs, s => freeFields n Fs (s.used.put F n s.fresh)

/-- The firmware places a ring of a Course in a reserved window, with LOG2 from 4 to 12 (R177); which place is open, and with no
window there is none. -/
def freeRing (n : Nat) (base log2 : Fld) (s : State) : State :=
  let ws := (List.range 4).filter (fun i => s.windowOk i)
  match ws[s.fresh % ws.length]? with
  | none => s
  | some i =>
    let size := s.get SBD_RSV_SIZE i
    let s := s.used
    let l := 4 + s.fresh % (if size = 1 then 8 else 9)
    let s := s.used.put log2 n l
    (s.put base n (s.get SBD_RSV_BASE i * 1024 + s.fresh % (size * 1024 - 2 ^ l / 2 + 1))).used

/-- Step 3: what is set for a Course. Its context, whether that is on, and its rings are the firmware's choice. -/
def loadRegisters (img : List Byte) (i rank size n : Nat) (s : State) : State :=
  let s := ((s.put CRS_IDENT_INST n i).put CRS_IDENT_RANK n rank).put CRS_IDENT_SIZE n size
  let s := s.put CRS_OWN_PORTS n (instPorts s i n)
  let s := s.setFlds n (imgWord img 0 15) [CRS_RIGHTS_TMB_SAMPLE, CRS_RIGHTS_FRT, CRS_RIGHTS_AMB, CRS_RIGHTS_TTB,
    CRS_RIGHTS_FIO_MKC, CRS_RIGHTS_TRANSOM, CRS_RIGHTS_HOSTMEM, CRS_RIGHTS_LEDGER_READ]
  let s := freeRing n CRS_RXR_CFG_BASE CRS_RXR_CFG_LOG2 (freeRing n CRS_TXR_CFG_BASE CRS_TXR_CFG_LOG2 s)
  let s := freeFields n [CRS_XLT_CTX, CRS_XLT_EN, CRS_RXR_CFG_RXBUF] s
  let s := (((s.put CRS_TXR_PTR_TAIL n 0).put CRS_TXR_PTR_HEAD n 0).put CRS_RXR_PTR_TAIL n 0).put CRS_RXR_PTR_HEAD n 0
  (s.put TXR_STUCK n 0).put CRS_EVT_EN_EN n 0

/-- Damair firmware routes the hook event of a tagged port to an input of its Course, which one is open (R175). -/
def loadHooks (n : Nat) (s : State) : State :=
  overRange (fun p t =>
    if t.bit CRS_OWN_PORTS n p && t.flag MAC_CFG_TAG_BY_COURSE p then
      ((t.used.put EVT_ROUTE_KIND_A (2080 + p) 1).put EVT_ROUTE_COURSE_A (2080 + p) n).put EVT_ROUTE_INPUT_A (2080 + p) (t.fresh % 56)
    else t) 32 s

/-- Steps 1 to 3 and 5 for Course `n`. -/
def loadCourse (img : List Byte) (i rank size n : Nat) (s : State) : State :=
  let s := loadMemory img n (domainOn n s)
  coreLoaded n (imgWord img 0 9) (imgWord img 0 10) (loadHooks n (loadRegisters img i rank size n s))

/-- Every Course in turn, by its rank. -/
def loadCourses (img : List Byte) (i size : Nat) : Nat → List Nat → State → State
  | _, [], s => s
  | rank, n :: ns, s => loadCourses img i size (rank + 1) ns (loadCourse img i rank size n s)

/-- A profile load runs to its end (R166). -/
def loadEnd (i : Nat) (s : State) : State :=
  if instState s i ≠ instLoading then s
  else
    let img := slotImage s (s.get INST_SLOT i)
    let ns := members (s.get INST_COURSES i)
    let s := loadCourses img i ns.length 0 ns s
    let s := overList (fun (x : Section) (t : State) =>
      if x.kind = 4 then soundboardWrite (t.get INST_SB i + x.dest) (slice img x.src x.size) t else t) (sectionsOf img) s
    (s.put INST_STATE i instLoaded).settle (.load i) 0 0 []

/-! ### Unloading (R167) -/

/-- The cyclic lists of the owned ports are off, the ports released, the Courses off. -/
def unloadEnd (i : Nat) (s : State) : State :=
  let ns := members (s.get INST_COURSES i)
  let s := overList (fun (n : Nat) (t : State) =>
    let t := overList (fun (p : Nat) (u : State) => u.put MAC_CYC_CTRL_EN p 0) (members (t.get CRS_OWN_PORTS n)) t
    courseOff n (t.put CRS_OWN_PORTS n 0)) ns s
  (s.put INST_STATE i instNone).settle (.unload i) 0 0 []

/-- The streams of a Course are aborted (13 R318). -/
def courseStreams (n : Nat) (s : State) : State :=
  overRange (fun k t => if t.get XLT_STR_CFG_OWNER k = n then strAbort k .none t else t) 128 s

/-- An unload stops the Courses and aborts their streams; the rest follows at the next boundary, at once while cycling has not started. -/
def unloadBegin (i : Nat) (s : State) : State :=
  let s := overList (fun n t => courseStreams n (courseStop n t)) (members (s.get INST_COURSES i)) (s.put INST_STATE i instUnloading)
  if s.started then s else unloadEnd i s

/-- The boundary ends every unload under way. -/
def unloadBoundary (s : State) : State := overRange (fun i t => if instState t i = instUnloading then unloadEnd i t else t) 16 s

/-- PROFILE_LOADED (R166). -/
def execProfileLoaded (i : Fin 16) (s : State) : Result := .next (loadEnd i s)

end Sys2Proof.Machine
end

