-- ==== Sys2Proof/Machine/Host.lean ====
section
/-! DEFINITION. The host commands (14 R325 to R331; 21 R462 to R464): the checks of R330 and what each opcode does, but for
those of the Portcullis (Machine/Firmware.lean). -/

namespace Sys2Proof.Machine

/-! ### Internal cells -/

/-- A RESET command whose reply is not written yet: its class + 1, its ring. -/
def RST_CMD : Fld := ⟨1518, 0, 2, .int, 0, .reset, .none⟩
def RST_CMD_RING : Fld := ⟨1519, 0, 5, .int, 0, .reset, .none⟩
/-- The PTP service runs on a domain; its role and ports as PTP_SERVICE gave them. -/
def PTP_ON : Fld := ⟨1520, 0, 1, .int, 0, .reset, .none⟩
def PTP_ROLE : Fld := ⟨1521, 0, 8, .int, 0, .reset, .none⟩
def PTP_PORTS : Fld := ⟨1522, 0, 64, .int, 0, .reset, .none⟩

/-! ### Parameters (R326, R330) -/

/-- A parameter: its size in bytes, and the values in its stated range. -/
structure Param where
  size : Nat
  ok : Nat → Bool

def pAny (size : Nat) : Param := ⟨size, fun _ => true⟩
def pTo (size most : Nat) : Param := ⟨size, fun v => decide (v ≤ most)⟩
def pIn (size least most : Nat) : Param := ⟨size, fun v => decide (least ≤ v) && decide (v ≤ most)⟩

/-- A device-virtual address: 48 bits. -/
def pVa : Param := pTo 8 (2 ^ 48 - 1)

/-- The offsets of parameters in a descriptor. -/
def paramOffsets (ps : List Param) : List Nat := fieldOffsets 8 (ps.map (fun p => p.size))

/-- The parameters of a command, in the order of R331. -/
def paramValues (ps : List Param) (c : HostCmd) : List Nat :=
  ((paramOffsets ps).zip ps).map (fun x => ofBytes (slice c.params (x.1 - 8) x.2.size))

/-- A descriptor byte belongs to a parameter. -/
def paramUses (ps : List Param) (k : Nat) : Bool :=
  ((paramOffsets ps).zip ps).any (fun x => decide (x.1 ≤ k) && decide (k < x.1 + x.2.size))

/-- The byte offset of the first offending field of a descriptor, if any (R330; 21 R463). -/
def paramFault (ps : List Param) (c : HostCmd) : Option Nat :=
  let bad := ((paramOffsets ps).zip (ps.zip (paramValues ps c))).filterMap (fun x => if x.2.1.ok x.2.2 then none else some x.1)
  let stray := (List.range 56).filterMap (fun i => if paramUses ps (8 + i) || c.params[i]?.getD 0 == 0 then none else some (8 + i))
  (bad ++ stray).min?

/-- Parameter `i`. -/
def arg (p : List Nat) (i : Nat) : Nat := p[i]?.getD 0

/-! ### The course of a command (R326 to R330) -/

/-- How a command goes on once R330 lets it pass: a final reply, ACCEPTED, or it is not started yet. -/
inductive Verdict where
  | ok (res : List Nat)
  | no (status detail : Nat)
  | accepted
  | hold
deriving DecidableEq, Repr

/-- The opcodes that SAFE_HALT answers, in SCRAPPED and otherwise (19 R437). -/
def haltOpcode (s : State) (op : Nat) (p : List Nat) : Bool :=
  op == 0x0100 || op == 0x0101 ||
    (s.get PCS_LC_STATE 0 != 4 && (op == 0x0103 || (op == 0x0502 && decide (arg p 0 ≤ 1))))

/-- Why a command is refused before any check of its own (R330, then 19 R437). -/
def refusal (op : Nat) (may : State → Nat → List Nat → Bool) (sec : Bool) (ps : List Param) (c : HostCmd) (s : State) :
    Option (Nat × Nat) :=
  let p := paramValues ps c
  if c.flags / 4 ≠ 0 then some (0x0102, 0)
  else if !may s (ringFunc s c.ring) p then some (0x0401, 0)
  else if sec && !s.flag HIF_PF_SEC_SEC_EN 0 then some (0x0402, 0)
  else match paramFault ps c with
    | some k => some (0x0103, k)
    | none => if s.get RST_BOOT_STAGE 0 = 6 ∧ haltOpcode s op p = false then some (0x0213, 0) else none

/-- A command is accepted: it gets its first reply, and its final one once what it waits for has happened. -/
def accept (c : HostCmd) (w : CmdWait) (data : List Byte) (s : State) : State :=
  let s : State := { s with cmds := s.cmds ++ [⟨c.ring, c.tag, c.opcode, c.mute, w, none, c.params, data⟩] }
  reply c.ring c.tag c.opcode 1 0 [] c.mute false s

/-- A command is accepted whose outcome is known. -/
def acceptDone (c : HostCmd) (status detail : Nat) (res : List Nat) (s : State) : State :=
  let s : State := { s with cmds := s.cmds ++ [⟨c.ring, c.tag, c.opcode, c.mute, .firmware, some (status, detail, res), c.params, []⟩] }
  reply c.ring c.tag c.opcode 1 0 [] c.mute false s

/-- The command whose turn it is, if it is one of ring r with opcode `op` (R326, R328). -/
def nextCommand (op r : Nat) (s : State) : Option HostCmd :=
  match ringNext s with
  | none => none
  | some c => if c.ring = r ∧ c.opcode = op then some c else none

/-- A command of ring r with opcode `op` runs: who may issue it, whether it needs a secure session, its parameters, and what
it does. -/
def hostCommand (op : Nat) (may : State → Nat → List Nat → Bool) (sec : Bool) (ps : List Param)
    (run : HostCmd → List Nat → State → Verdict × State) (r : Nat) (s : State) : State :=
  match nextCommand op r s with
  | none => s
  | some c =>
    let t : State := ringServe r { s with fetched := s.fetched.erase c }
    let final (status detail : Nat) (res : List Nat) (u : State) : State :=
      ringTurn (finalReply r c.tag op status detail res c.mute (bitOf c.flags 0) u)
    match refusal op may sec ps c s with
    | some (status, detail) => final status detail [] t
    | none =>
      match run c (paramValues ps c) t with
      | (.ok res, u) => final 0 0 res u
      | (.no status detail, u) => final status detail [] u
      | (.accepted, u) => ringTurn u
      | (.hold, u) => { u with fetched := s.fetched }

/-- The functions of R331: any, or the PF alone. -/
def anyFunc (_ : State) (_ : Nat) (_ : List Nat) : Bool := true
def pfOnly (_ : State) (f : Nat) (_ : List Nat) : Bool := f == 0

/-! ### The Portcullis answers (17 R399, R400) -/

/-- A command that needs the Portcullis starts once it is ready: it powers a domain in standby; in FATAL it is refused. In
SAFE_HALT the verify service of the ROM answers (19 R437). -/
def pcsGate (run : HostCmd → List Nat → State → Verdict × State) (c : HostCmd) (p : List Nat) (s : State) : Verdict × State :=
  let st := s.get PCS_STAT_STATE 0
  if s.get RST_BOOT_STAGE 0 = 6 ∨ st = pcsReady then run c p s
  else if st = pcsFatalState then (.no 0x0504 2, s)
  else (.hold, if s.domOn domPortcullis then s else s.put PCS_WAKE 0 1)

/-! ### Group 0x01 -/

def runNop (_ : HostCmd) (_ : List Nat) (s : State) : Verdict × State := (.ok [], s)

/-- The version is what the header of the running firmware's image gives; in SAFE_HALT none runs, and the value is open. -/
def runDevInfo (_ : HostCmd) (_ : List Nat) (s : State) : Verdict × State :=
  let halt := s.get RST_BOOT_STAGE 0 == 6
  let ver := if halt then s.fresh else durWord s (slotOff (bootSlot s) + 256 + 12) % 2 ^ 24
  (.ok [s.get DEV_ID_ID 0, s.get DEV_STEP_MINOR 0 + 256 * s.get DEV_STEP_MAJOR 0, ver, s.get PCS_LC_STATE 0,
    s.get DEV_HUB_HUB_NUM 0, s.get DEV_HUB_LINE_ID 0], if halt then s.used else s)

/-- The domain of a kind and index, if there is one: 0 Course, 1 Fret bank, 2 field port, 3 trunk group, 4 AMB channel, 5 TTB
cluster, 6 ADC. -/
def powerDomain (kind i : Nat) : Nat :=
  match kind with
  | 0 => i
  | 1 => domFretBank i
  | 2 => if i < 16 then domPhy i else domSerdes i
  | 3 => domTrunk i
  | 4 => domAmb i
  | 5 => domTtb i
  | _ => domAdc

def powerCount : Nat → Nat
  | 0 => 32
  | 1 => 6
  | 2 => 32
  | 3 => 2
  | 4 => 16
  | 5 => 4
  | _ => 1

/-- A running Fret uses a pin of a bank. -/
def bankInUse (s : State) (b : Nat) : Bool :=
  (List.range 64).any (fun f => s.flag FRT_STAT_RUN f &&
    ((List.range 32).any (fun k => s.get FRT_PIN_MODE (32 * b + k) != 0 && s.get FRT_PIN_FRET (32 * b + k) == f) ||
      inSel.any (fun F => s.get F f / 32 == b)))

/-- What keeps a domain from being turned off (R331). -/
def domainBusy (s : State) (kind i : Nat) : Bool :=
  match kind with
  | 1 => bankInUse s i
  | 2 => s.flag MAC_CFG_EN i
  | 3 => (List.range 4).any (fun k => s.flag TRK_PORT_CFG_EN (4 * i + k))
  | 4 => decide (ambConfig < ambState s i)
  | _ => false

def runDomainPower (c : HostCmd) (p : List Nat) (s : State) : Verdict × State :=
  let kind := arg p 0
  let i := arg p 1
  let on := arg p 2 == 1
  let d := powerDomain kind i
  if powerCount kind ≤ i then (.no 0x0103 9, s)
  else if kind = 0 ∧ (instOf s i).isSome = true then (.no 0x020A i, s)
  else if !on && domainBusy s kind i then (.no 0x020B 0, s)
  else if s.domOn d = on then (.accepted, acceptDone c 0 0 [] s)
  else
    let rails := if kind = 3 then [2, 3] else if kind = 6 then [5] else []
    match rails.find? (fun r => on && s.flag RAIL_BAD r) with
    | some r => (.accepted, acceptDone c 0x0505 r [] s)
    | none => (.accepted, accept c (.power d on) [] s)

/-- The reset of a RESET command begins once its reply is written (19 R430). -/
def resetCmdDue (s : State) : State :=
  match s.get RST_CMD 0 with
  | 0 => s
  | k + 1 =>
    if s.replies.any (fun x => x.ring == s.get RST_CMD_RING 0) then s
    else
      let s := s.put RST_CMD 0 0
      if k = 2 then endpointAsk 2 s else resetAsk (k + 1) 2 s

/-- Of two commands whose replies wait, the higher class takes effect. -/
def runReset (c : HostCmd) (p : List Nat) (s : State) : Verdict × State :=
  let was := s.get RST_CMD 0
  let k := if was = 0 then arg p 0 + 1 else min was (arg p 0 + 1)
  (.ok [], (s.put RST_CMD 0 k).put RST_CMD_RING 0 c.ring)

def runRouteSet (_ : HostCmd) (p : List Nat) (s : State) : Verdict × State := (.ok [], routeSet (arg p 0) (arg p 1) s)

/-- A VF may invalidate what one of its own contexts holds, by its context or pages. -/
def invMay (s : State) (f : Nat) (p : List Nat) : Bool :=
  f == 0 || (decide (arg p 1 < 64) && arg p 0 != 0 && ctxFunc s (arg p 1) == f)

/-- While an invalidation is under way the next is not started. -/
def runXltInvalidate (c : HostCmd) (p : List Nat) (s : State) : Verdict × State :=
  if s.flag XLT_INV_BUSY 0 then (.hold, s)
  else (.accepted, invGo (arg p 0) (arg p 1) (arg p 3 / 4096) (min 65536 (arg p 2)) (accept c .invalidate [] s))

/-- A stream's owner. -/
def strMay (s : State) (f : Nat) (p : List Nat) : Bool :=
  f == 0 || (decide (arg p 0 < 128) && s.get XLT_STR_CFG_OWNER (arg p 0) == 33 + f)

def runStreamCtrl (_ : HostCmd) (p : List Nat) (s : State) : Verdict × State :=
  let k := arg p 0
  if arg p 1 = 1 then
    (if strState s k = strFaulted then (.ok [], strResume k .none s) else (.no 0x020C 0, s))
  else (.ok [], strAbort k .none s)

/-! ### Group 0x02 -/

/-- The registers of a start as CYCLE_START writes them; DOM stays under its lock (00 R7). -/
def startRegisters (dom period start num0 : Nat) (s : State) : State :=
  let s := if s.flag LIM_CYC_CTRL_LOCK 0 then s else s.put LIM_CYC_CTRL_DOM 0 dom
  ((s.put LIM_CYC_PERIOD_PERIOD 0 period).put LIM_CYC_START_START 0 start).put LIM_CYC_NUM0_NUM0 0 num0

/-- While cycling runs no start is made either (03 R53); its DETAIL is the condition of R52 that fails, 0 if none does. -/
def runCycleStart (_ : HostCmd) (p : List Nat) (s : State) : Verdict × State :=
  let period := arg p 1
  let t := startRegisters (arg p 0) period (arg p 2) (arg p 3) s
  let why := if startRefusal t ≠ 1 ∧ 2 ^ 23 ≤ period then 2 else startRefusal t
  if why ≠ 0 ∨ s.flag LIM_STAT_RUNNING 0 then (.no 0x0203 why, s)
  else match periodTooShort s period with
    | some i => (.no 0x0205 i, s)
    | none => (.ok [], runStart t)

def runCycleStop (c : HostCmd) (_ : List Nat) (s : State) : Verdict × State :=
  if s.flag LIM_STAT_RUNNING 0 then (.accepted, runStop (accept c .stop [] s)) else (.no 0x0202 0, s)

def runPeriodChange (_ : HostCmd) (p : List Nat) (s : State) : Verdict × State :=
  match periodTooShort s (arg p 1) with
  | some i => (.no 0x0205 i, s)
  | none => if changeOk s (arg p 1) (arg p 0) then (.ok [], cycChgArm (arg p 1) (arg p 0) s) else (.no 0x0204 0, s)

/-- An empty group is PARAM_INVALID (03 R73): the first field that offends is `ports`. -/
def runTabCommit (c : HostCmd) (p : List Nat) (s : State) : Verdict × State :=
  let mask := arg p 0 + 2 ^ 32 * arg p 1
  if mask = 0 then (.no 0x0103 8, s)
  else if s.flag LIM_STAT_COMMIT_PEND 0 then (.no 0x0206 0, s)
  else (.accepted, tabGo mask (accept c .tabCommit [] s))

/-- A switch that is on keeps `LIM_BASE` as its lock does (04 R83). -/
def runImageSet (_ : HostCmd) (p : List Nat) (s : State) : Verdict × State :=
  if s.flag LIM_STAT_RUNNING 0 then (.no 0x0201 0, s)
  else if s.flag LIM_CYC_CTRL_LOCK 0 || s.flag SBD_CTRL_EN 0 then (.no 0x0208 0, s)
  else (.ok [], limBaseWrite (arg p 0 + 2 ^ 16 * arg p 1) s)

/-! ### Group 0x03 -/

/-- A scan begins under the conditions of 05 R133, while none runs on the port. -/
def runTopoScan (c : HostCmd) (p : List Nat) (s : State) : Verdict × State :=
  let k := arg p 0
  let st := s.get MAC_SCAN_STAT_STATE k
  if st = 1 ∨ st = 2 ∨ ringRole s k ≠ 1 ∨ s.flag MAC_STAT_LINK k = false then (.no 0x020D 0, s)
  else (.accepted, scanGo k (accept c (.scan k) [] s))

def runFdbAdd (_ : HostCmd) (p : List Nat) (s : State) : Verdict × State :=
  match fdbAddStatic (arg p 0) (arg p 1) (arg p 2) s with
  | (t, true) => (.ok [], t)
  | (_, false) => (.no 0x0301 0, s)

def runFdbDel (_ : HostCmd) (p : List Nat) (s : State) : Verdict × State :=
  match fdbRemove (arg p 0) (arg p 1) s with
  | (t, true) => (.ok [], t)
  | (_, false) => (.no 0x0209 0, s)

def runFlowCommit (c : HostCmd) (_ : List Nat) (s : State) : Verdict × State :=
  if s.flag SBD_FLOW_STAT_PEND 0 then (.no 0x0206 0, s) else (.accepted, flowGo (accept c .flowCommit [] s))

def runLvrCommit (c : HostCmd) (p : List Nat) (s : State) : Verdict × State :=
  let q := arg p 0
  if s.flag SBD_LVR_STAT_PEND q then (.no 0x0206 0, s) else (.accepted, lvrGo q (accept c (.louvre q) [] s))

/-! ### Group 0x04 -/

/-- What PROFILE_LOAD asks for; a port's owner is 255 or a Course of the load. -/
def loadAsk (c : HostCmd) (p : List Nat) : LoadAsk :=
  ⟨arg p 0, arg p 1, arg p 2, arg p 3, arg p 4, (slice c.params 16 32).map (fun b => b.toNat)⟩

/-- The descriptor byte of the first port whose owner is out of range. -/
def ownerFault (a : LoadAsk) : Option Nat :=
  ((List.range 32).find? (fun p => match a.owners[p]? with
    | some n => n != 255 && !(decide (n < 32) && bitOf a.courses n)
    | none => false)).map (fun p => 24 + p)

def runProfileLoad (c : HostCmd) (p : List Nat) (s : State) : Verdict × State :=
  let a := loadAsk c p
  match ownerFault a with
  | some k => (.no 0x0103 k, s)
  | none => match loadRefusal s a with
    | some (status, detail) => (.no status detail, s.used)
    | none => (.accepted, loadBegin a (accept c (.load a.inst) [] s))

/-- A profile that is being loaded is unloaded once it is loaded. -/
def runProfileUnload (c : HostCmd) (p : List Nat) (s : State) : Verdict × State :=
  let i := arg p 0
  if instState s i = instLoading then (.hold, s)
  else if instState s i ≠ instLoaded then (.no 0x0209 0, s)
  else (.accepted, unloadBegin i (accept c (.unload i) [] s))

def runProfileStart (_ : HostCmd) (p : List Nat) (s : State) : Verdict × State :=
  let i := arg p 0
  if instState s i = instLoaded then (.ok [], gstartArm (s.get INST_COURSES i) (arg p 1) s) else (.no 0x0209 0, s)

def runProfileInfo (_ : HostCmd) (p : List Nat) (s : State) : Verdict × State :=
  let i := arg p 0
  if instState s i ≠ instLoaded then (.no 0x0209 0, s)
  else (.ok [s.get INST_CPFCP i % 256, s.get INST_CPFCP i / 256, s.get INST_CLASS i, s.get INST_VERSION i, s.get INST_WCET i,
    s.get INST_COURSES i], s)

def runCourseStop (_ : HostCmd) (p : List Nat) (s : State) : Verdict × State :=
  (.ok [], overList courseStop (members (arg p 0)) s)

/-! ### Group 0x05 (16 R372, R374, R377) -/

/-- The end of the general data area: pages 0 to 12,543. -/
def dataEnd : Nat := 12544 * 4096

/-- The Ledger has met a power failure (16 R367). -/
def ledgerGone (s : State) : Bool := decide (ldgPowerFail ≤ s.get LDG_STAT_STATE 0)

/-- Status of an access to host memory that has failed (21 R464). -/
def hostFault : HostMem → Option (Nat × Nat)
  | .done _ => none
  | .fault why => some (0x0501, why.val + 1)

/-- The octets of a read of host memory. -/
def hostOctets (n : Nat) : HostMem → List Byte
  | .done bs => bs.take n ++ List.replicate (n - bs.length) 0
  | .fault _ => []

/-- Sectors are read in order until one cannot be: what is wrong (0 nothing), the octets before, and the state. -/
def readSectors : List Nat → List LdgEcc → State → Nat × List Byte × State
  | [], _, s => (0, [], s)
  | k :: ks, es, s =>
    match ldgSector k (es.headD .good) s with
    | (0, s) =>
      let bs := ldgBytes s (256 * k) 256
      let (w, r, t) := readSectors ks (es.drop 1) s
      (w, bs ++ r, t)
    | (w, s) => (w, [], s)

/-- The sectors that a range touches. -/
def rangeSectors (off n : Nat) : List Nat := (List.range ((off + n + 255) / 256 - off / 256)).map (fun i => off / 256 + i)

def runLedgerRead (ecc : List LdgEcc) (host : HostMem) (c : HostCmd) (p : List Nat) (s : State) : Verdict × State :=
  let off := arg p 0
  let n := arg p 1
  if dataEnd < off + n then (.no 0x0104 0, s)
  else if ledgerGone s then (.no 0x0503 0, s)
  else
    let (why, bs, t) := readSectors (rangeSectors off n) ecc s
    let bs := slice bs (off % 256) n
    let t := if bs = [] then t else t.emit (.hostWrite (ringCtx s c.ring) (arg p 2) bs)
    match hostFault host with
    | some (status, detail) => (.accepted, acceptDone c (if bs = [] then 0x0502 else status) (if bs = [] then why else detail) [] t)
    | none => (.accepted, acceptDone c (if why = 0 then 0 else 0x0502) why [] t)

def runLedgerWrite (host : HostMem) (c : HostCmd) (p : List Nat) (s : State) : Verdict × State :=
  let cls := arg p 0
  let off := arg p 1
  let n := arg p 2
  if dataEnd < off + n then (.no 0x0104 0, s)
  else match retiredIn s off n with
    | some l => (.no 0x0303 l, s)
    | none =>
      if ledgerGone s then (.no 0x0503 0, s)
      else
        let t := s.emit (.hostRead (ringCtx s c.ring) (arg p 3) n)
        match hostFault host with
        | some (status, detail) => (.accepted, acceptDone c status detail [] t)
        | none =>
          let id := s.get LDG_CMD 0 + 1
          let t := accept c (.ledger id 0) [] (t.put LDG_CMD 0 id)
          (.accepted, ldgCmdStep id (ldgWriteAll none id off cls (hostOctets n host) t))

def runLedgerInfo (_ : HostCmd) (_ : List Nat) (s : State) : Verdict × State :=
  let flags := s.get LDG_STAT_SPARES_EXHAUSTED 0 + 2 * s.get LDG_STAT_JOURNAL_SHORT 0 + (if pfIncomplete s then 4 else 0) +
    8 * s.get LDG_STAT_ROTATING 0
  (.ok [4 * s.get LDG_CAP_USABLE_PAGES 0, s.get LDG_SPARES_GEN_FREE 0, s.get LDG_SPARES_SEC_FREE 0, flags], s)

def runLedgerCompact (c : HostCmd) (_ : List Nat) (s : State) : Verdict × State :=
  if ledgerGone s then (.no 0x0503 0, s) else (.accepted, compactAsk (accept c .compact [] s))

/-! ### Group 0x07 (18 R415, R417) -/

/-- EN stays under its lock (00 R7). -/
def runPairConfig (_ : HostCmd) (p : List Nat) (s : State) : Verdict × State :=
  let en := arg p 0 == 1
  if s.flag LIM_STAT_RUNNING 0 && (en || s.flag RDN_CFG_EN 0) then (.no 0x0201 0, s)
  else
    let s := if s.flag RDN_CFG_LOCK 0 then s else rdnEnable en s
    (.ok [], rdnSync ((s.put RDN_CLAIM_CLAIM 0 (arg p 1)).put RDN_HOLD_HOLD 0 (arg p 2)))

def runClaimSet (_ : HostCmd) (p : List Nat) (s : State) : Verdict × State := (.ok [], rdnSync (s.put RDN_CLAIM_CLAIM 0 (arg p 0)))

def runPairStatus (_ : HostCmd) (_ : List Nat) (s : State) : Verdict × State :=
  (.ok [effClaim s, s.get RDN_STAT_PEER_CLAIM 0, s.get RDN_STAT_ROLE 0, s.get RDN_STAT_LINK 0, s.get RDN_CNT_SWITCHOVERS 0], s)

/-! ### Group 0x08 (18 R403, R405, R410) -/

/-- A set of numbers below `n` as bits. -/
def maskOf (f : Nat → Bool) (n : Nat) : Nat := ((List.range n).map (fun i => if f i then 2 ^ i else 0)).foldl (· + ·) 0

/-- Words 5 + 2f and 6 + 2f of the health report. -/
def feedWords (s : State) (f : Nat) : List Nat :=
  let age := (s.get CORE_COUNT 0 - s.get FT_DONE_AT f) / second
  [s.get PWR_FEED_MV f + 2 ^ 16 * s.get PWR_FEED_MA f,
    s.get PWR_FEED_PATH f + 4 * s.get PWR_FEED_PRESENT f + 8 * s.get PWR_FEED_TEST f + 2 ^ 8 * min (2 ^ 24 - 1) age]

/-- The flags of word 4. -/
def healthFlags (s : State) : Nat :=
  let feeds := (List.range 4).any (fun f => !s.flag PWR_FEED_PRESENT f || s.get PWR_FEED_TEST f == 2)
  let paths := s.get RDN_STAT_PATHS 0
  let degraded := (List.range 32).any (fun p => s.get MAC_STAT_LANE p == laneDegraded) ||
    (List.range 8).any (fun l => s.get TRK_LANE_STAT_LANE l == laneDegraded)
  let couplers := s.get FIO_CPL_IN 0 != 0 || s.get FIO_CPL_OUT 0 != 0
  let bit (k : Nat) (b : Bool) : Nat := if b then 2 ^ k else 0
  s.get LDG_STAT_SPARES_EXHAUSTED 0 + bit 1 (s.flag LDG_STAT_JOURNAL_SHORT 0) + bit 2 (pfIncomplete s) + bit 3 feeds +
    bit 4 (s.flag PWR_STAT_HOLDUP_LOW 0) + bit 5 (s.flag PWR_STAT_CAP_EXCEEDED 0) +
    bit 6 (s.flag RDN_CFG_EN 0 && !s.flag RDN_STAT_PEER_FIT 0) + bit 7 (paths == 1 || paths == 2) + bit 8 degraded +
    bit 9 couplers + bit 10 (s.get PCS_TMP_STAT_SEEN 0 != 0)

/-- The health report: 64 words. `FIO_CPL` shows failed couplers, the report healthy ones (12 R281). -/
def healthReport (s : State) : List Byte :=
  let d := s.get LIM_CYC_CTRL_DOM 0
  let ws := [0x48544C48, 256 * 2 ^ 16 + 1, s.nowNs d, s.now d % 256, healthFlags s] ++ (List.range 4).flatMap (feedWords s) ++
    [2 ^ 32 - 1 - s.get FIO_CPL_IN 0, 2 ^ 16 - 1 - s.get FIO_CPL_OUT 0 + 2 ^ 16 * s.get FIO_STAT_ISL_UP 0, s.get PWR_TOTAL_POWER_MW 0,
      s.get PWR_TOTAL_CYCLE_UJ 0, 10 * s.get PWR_PF_STAT_EST_UJ 0, s.get PWR_CAP_CAP_MW 0,
      effClaim s + 2 ^ 8 * s.get RDN_STAT_PEER_CLAIM 0 + 2 ^ 16 * s.get RDN_STAT_ROLE 0 + 2 ^ 18 * s.get RDN_STAT_LINK 0,
      s.get RDN_CNT_SWITCHOVERS 0, s.get RDN_TEST_RESULT 0, s.get LDG_CAP_USABLE_PAGES 0, s.get PWR_TJ_TJ 0,
      maskOf (fun p => s.get MAC_STAT_LANE p == laneDegraded) 32, maskOf (fun l => s.get TRK_LANE_STAT_LANE l == laneDegraded) 8]
  let bs := ws.flatMap (toBytes 4)
  bs ++ List.replicate (256 - bs.length) 0

def runHealthReport (host : HostMem) (c : HostCmd) (p : List Nat) (s : State) : Verdict × State :=
  let t := s.emit (.hostWrite (ringCtx s c.ring) (arg p 0) (healthReport s))
  match hostFault host with
  | some (status, detail) => (.accepted, acceptDone c status detail [] t)
  | none => (.accepted, acceptDone c 0 0 [256] t)

def runPowerCap (_ : HostCmd) (p : List Nat) (s : State) : Verdict × State := (.ok [], s.put PWR_CAP_CAP_MW 0 (arg p 0))

/-- EST_UJ counts units of 10 µJ; the reply gives mJ. -/
def runEnergyRead (_ : HostCmd) (_ : List Nat) (s : State) : Verdict × State :=
  (.ok [s.get PWR_TOTAL_POWER_MW 0, s.get PWR_TOTAL_CYCLE_UJ 0, s.get PWR_PF_STAT_EST_UJ 0 / 100, s.get PWR_CAP_CAP_MW 0], s)

def runFeedTest (_ : HostCmd) (p : List Nat) (s : State) : Verdict × State := (.ok [], s.put PWR_FEED_CFG_TEST_S 0 (arg p 0))

/-! ### Group 0x09 (02 R37, R39) -/

/-- Seconds as a domain's epoch pair gives them at its present nanosecond (02 R49). -/
def epochSeconds (s : State) (d : Nat) : Nat :=
  s.get TMB_DOM_EPOCH_SECONDS d + (s.nowNs d + 2 ^ 32 - s.get TMB_DOM_EPOCH_REF_REF_NS d) % 2 ^ 32 / 1000000000

def runTimeRead (_ : HostCmd) (p : List Nat) (s : State) : Verdict × State :=
  let d := arg p 0
  (.ok [s.nowNs d, s.now d % 256, s.get TMB_DOM_STAT_STATE d, epochSeconds s d], s)

def runDomainSet (_ : HostCmd) (p : List Nat) (s : State) : Verdict × State :=
  (.ok [], tmbDomCfgWrite (arg p 0) (arg p 1 + 4 * arg p 2 + 2 ^ 8 * arg p 3) s)

/-- A signed number of 64 bits that the 40 bits of `TMB_DOM_STEP` can hold. -/
def stepFits (v : Nat) : Bool := decide (v < 2 ^ 39) || decide (2 ^ 64 - 2 ^ 39 ≤ v)

def runTimeStep (_ : HostCmd) (p : List Nat) (s : State) : Verdict × State :=
  let d := arg p 0
  (if s.linesRunIn d then .no 0x020F 0 else .ok [], tmbDomStep d (arg p 1) s)

/-- The service starts; how it then works its domain is the firmware's. -/
def runPtpService (c : HostCmd) (p : List Nat) (s : State) : Verdict × State :=
  let d := arg p 0
  (.accepted, accept c .firmware [] (((s.put PTP_ON d 0).put PTP_ROLE d (arg p 1)).put PTP_PORTS d (arg p 2)))

/-! ### The commands -/

/-- NOP (R331). -/
def execNop (r : Fin 32) (s : State) : Result := .next (hostCommand 0x0100 anyFunc false [] runNop r s)

/-- DEV_INFO (R331). -/
def execDevInfo (r : Fin 32) (s : State) : Result := .next (hostCommand 0x0101 anyFunc false [] runDevInfo r s)

/-- DOMAIN_POWER (R331). -/
def execDomainPower (r : Fin 32) (s : State) : Result :=
  .next (hostCommand 0x0102 pfOnly false [pTo 1 6, pAny 1, pTo 1 1] runDomainPower r s)

/-- RESET (19 R430). -/
def execReset (r : Fin 32) (s : State) : Result := .next (resetCmdDue (hostCommand 0x0103 pfOnly false [pTo 1 2] runReset r s))

/-- RESET_TAKES_EFFECT (R431). -/
def execResetTakesEffect (s : State) : Result := .next (resetNow (resetCmdDue s))

/-- ROUTE_SET (13 R304). -/
def execRouteSet (r : Fin 32) (s : State) : Result :=
  .next (hostCommand 0x0104 pfOnly false [pTo 2 4095, pAny 8] runRouteSet r s)

/-- XLT_INVALIDATE (13 R315). -/
def execXltInvalidate (r : Fin 32) (s : State) : Result :=
  .next (hostCommand 0x0105 invMay false [pTo 1 2, pTo 1 63, pAny 4, pVa] runXltInvalidate r s)

/-- STREAM_CTRL (13 R318). -/
def execStreamCtrl (r : Fin 32) (s : State) : Result :=
  .next (hostCommand 0x0106 strMay false [pTo 1 127, pIn 1 1 2] runStreamCtrl r s)

/-- CYCLE_START (03 R52). -/
def execCycleStart (r : Fin 32) (s : State) : Result :=
  .next (hostCommand 0x0200 pfOnly false [pTo 1 15, pAny 4, pAny 4, pAny 4] runCycleStart r s)

/-- CYCLE_STOP (03 R53). -/
def execCycleStop (r : Fin 32) (s : State) : Result := .next (hostCommand 0x0201 pfOnly false [] runCycleStop r s)

/-- PERIOD_CHANGE (03 R54). -/
def execPeriodChange (r : Fin 32) (s : State) : Result :=
  .next (hostCommand 0x0202 pfOnly false [pAny 4, pAny 4] runPeriodChange r s)

/-- TAB_COMMIT (03 R73). -/
def execTabCommit (r : Fin 32) (s : State) : Result :=
  .next (hostCommand 0x0203 pfOnly false [pAny 4, pTo 1 1] runTabCommit r s)

/-- IMAGE_SET (03 R57). -/
def execImageSet (r : Fin 32) (s : State) : Result :=
  .next (hostCommand 0x0204 pfOnly false [pTo 2 1023, pAny 1] runImageSet r s)

/-- TOPO_SCAN (05 R133). -/
def execTopoScan (r : Fin 32) (s : State) : Result := .next (hostCommand 0x0300 pfOnly false [pTo 1 31] runTopoScan r s)

/-- FDB_ADD (04 R90). -/
def execFdbAdd (r : Fin 32) (s : State) : Result :=
  .next (hostCommand 0x0301 pfOnly false [pTo 8 (2 ^ 48 - 1), pTo 2 4095, pTo 8 (2 ^ 40 - 1)] runFdbAdd r s)

/-- FDB_DEL (04 R90). -/
def execFdbDel (r : Fin 32) (s : State) : Result :=
  .next (hostCommand 0x0302 pfOnly false [pTo 8 (2 ^ 48 - 1), pTo 2 4095] runFdbDel r s)

/-- FLOW_COMMIT (04 R88). -/
def execFlowCommit (r : Fin 32) (s : State) : Result := .next (hostCommand 0x0303 pfOnly false [] runFlowCommit r s)

/-- LVR_COMMIT (04 R103). -/
def execLvrCommit (r : Fin 32) (s : State) : Result := .next (hostCommand 0x0304 pfOnly false [pTo 1 39] runLvrCommit r s)

/-- The parameters of PROFILE_LOAD, the owners of the ports as four fields of 8 bytes. -/
def loadParams : List Param := [pTo 1 15, pTo 1 7, pAny 4, pAny 4, pAny 4, pAny 8, pAny 8, pAny 8, pAny 8]

/-- PROFILE_LOAD (07 R165). -/
def execProfileLoad (r : Fin 32) (s : State) : Result := .next (hostCommand 0x0400 pfOnly false loadParams (pcsGate runProfileLoad) r s)

/-- PROFILE_UNLOAD (07 R167). -/
def execProfileUnload (r : Fin 32) (s : State) : Result :=
  .next (hostCommand 0x0401 pfOnly false [pTo 1 15] runProfileUnload r s)

/-- PROFILE_START (07 R174). -/
def execProfileStart (r : Fin 32) (s : State) : Result :=
  .next (hostCommand 0x0402 pfOnly false [pTo 1 15, pAny 4] runProfileStart r s)

/-- PROFILE_INFO (R331). -/
def execProfileInfo (r : Fin 32) (s : State) : Result :=
  .next (hostCommand 0x0403 anyFunc false [pTo 1 15] runProfileInfo r s)

/-- COURSE_STOP (07 R161). -/
def execCourseStop (r : Fin 32) (s : State) : Result := .next (hostCommand 0x0404 pfOnly false [pAny 4] runCourseStop r s)

/-- LEDGER_READ (16 R377): what the array reads of its sectors find, and what its writes of host memory meet. -/
def execLedgerRead (r : Fin 32) (ecc : List LdgEcc) (host : HostMem) (s : State) : Result :=
  .next (hostCommand 0x0500 pfOnly false [pAny 4, pIn 4 1 1048576, pVa] (runLedgerRead ecc host) r s)

/-- LEDGER_WRITE (16 R377): what its read of host memory meets. -/
def execLedgerWrite (r : Fin 32) (host : HostMem) (s : State) : Result :=
  .next (hostCommand 0x0501 pfOnly false [pTo 1 2, pAny 4, pIn 4 1 1048576, pVa] (runLedgerWrite host) r s)

/-- LEDGER_INFO (16 R377). -/
def execLedgerInfo (r : Fin 32) (s : State) : Result := .next (hostCommand 0x0503 anyFunc false [] runLedgerInfo r s)

/-- LEDGER_COMPACT (16 R374). -/
def execLedgerCompact (r : Fin 32) (s : State) : Result := .next (hostCommand 0x0504 pfOnly false [] runLedgerCompact r s)

/-- PAIR_CONFIG (18 R415). -/
def execPairConfig (r : Fin 32) (s : State) : Result :=
  .next (hostCommand 0x0700 pfOnly false [pTo 1 1, pAny 1, pTo 4 (2 ^ 20 - 1)] runPairConfig r s)

/-- CLAIM_SET (18 R417). -/
def execClaimSet (r : Fin 32) (s : State) : Result := .next (hostCommand 0x0701 pfOnly false [pAny 1] runClaimSet r s)

/-- PAIR_STATUS (18 R415). -/
def execPairStatus (r : Fin 32) (s : State) : Result := .next (hostCommand 0x0702 anyFunc false [] runPairStatus r s)

/-- HEALTH_REPORT (18 R405): what its write of host memory meets. -/
def execHealthReport (r : Fin 32) (host : HostMem) (s : State) : Result :=
  .next (hostCommand 0x0800 anyFunc false [pVa] (runHealthReport host) r s)

/-- POWER_CAP (18 R410). -/
def execPowerCap (r : Fin 32) (s : State) : Result :=
  .next (hostCommand 0x0801 pfOnly false [pTo 4 (2 ^ 20 - 1)] runPowerCap r s)

/-- ENERGY_READ (18 R410). -/
def execEnergyRead (r : Fin 32) (s : State) : Result := .next (hostCommand 0x0802 anyFunc false [] runEnergyRead r s)

/-- FEED_TEST (18 R403). -/
def execFeedTest (r : Fin 32) (s : State) : Result := .next (hostCommand 0x0803 pfOnly false [pAny 2] runFeedTest r s)

/-- TIME_READ (R331; 02 R39). -/
def execTimeRead (r : Fin 32) (s : State) : Result := .next (hostCommand 0x0900 anyFunc false [pTo 1 15] runTimeRead r s)

/-- DOMAIN_SET (R331). -/
def execDomainSet (r : Fin 32) (s : State) : Result :=
  .next (hostCommand 0x0901 pfOnly false [pTo 1 15, pTo 1 3, pTo 1 1, pTo 1 63] runDomainSet r s)

/-- TIME_STEP (02 R37). -/
def execTimeStep (r : Fin 32) (s : State) : Result :=
  .next (hostCommand 0x0902 pfOnly false [pTo 1 15, ⟨8, stepFits⟩] runTimeStep r s)

/-- PTP_SERVICE (R331). -/
def execPtpService (r : Fin 32) (s : State) : Result :=
  .next (hostCommand 0x0903 pfOnly false [pTo 1 15, pAny 1, pTo 8 (2 ^ 40 - 1)] runPtpService r s)

end Sys2Proof.Machine
end

