-- ==== Sys2Proof/Machine/Firmware.lean ====
section
/-! DEFINITION. The host commands that need the Portcullis (16 R372, R375; 17 R389 to R398), and the final replies of accepted
commands (14 R327). -/

namespace Sys2Proof.Machine

/-- A command reads `n` octets of host memory at `va` and goes on working on them. -/
def readAnd (host : HostMem) (c : HostCmd) (va n : Nat) (s : State) : Verdict × State :=
  let t := s.emit (.hostRead (ringCtx s c.ring) va n)
  match hostFault host with
  | some (status, detail) => (.accepted, acceptDone c status detail [] t)
  | none => (.accepted, accept c .firmware (hostOctets n host) t)

/-! ### IMAGE_INSTALL (16 R372) -/

/-- The highest GEN of any VALID slot of a slot's kind. -/
def topGen (s : State) (k : Nat) : Nat :=
  (((List.range 8).filter (fun i => (decide (i < 2) == decide (k < 2)) && slotValid s i)).map (slotGen s)).foldl max 0

/-- Why an image may not be installed in a slot: it does not verify. -/
def installRefusal (s : State) (k : Nat) (img : List Byte) : Option (Nat × Nat) :=
  if k < 2 then firmwareRefusal s img else profileRefusal s img

/-- A step's writes go to the Ledger; a flush follows, and then step `next` (R370). -/
def stepWrites (who : Requester) (next : Nat) (ws : List (Nat × List Byte)) (x : AsyncCmd) (s : State) : State :=
  let id := s.get LDG_CMD 0 + 1
  let s : State := { s with cmds := s.cmds.map (fun c => if c = x then { c with wait := .ledger id next } else c) }
  let s := overList (fun (w : Nat × List Byte) t => ldgWriteAll (some who) id w.1 0 w.2 t) ws (s.put LDG_CMD 0 id)
  ldgCmdStep id s

/-- Words 1 to 16 of the slot record of an image: IMAGE_LEN, KEY_GEN + 1, CPF and CP, SVN, DIGEST (R371). -/
def slotRecord (s : State) (k : Nat) (img : List Byte) : List Byte :=
  toBytes 4 img.length ++ toBytes 4 (slotWord s k 2 + 1) ++ toBytes 4 (if k < 2 then 0 else imgCpf img + 2 ^ 8 * imgCp img) ++
    toBytes 4 (if k < 2 then fwSvn img else imgSvn img) ++ sha384 img

/-- Steps 3 and 4: the image under the new slot key, then words 1 to 16; step 5: the commit word; then the minimum SVN, if it is to
rise (R372, R373). None when nothing is left to do. Each step goes by one FINAL_REPLY (DEDUCED, log entry 199). -/
def installStep (n : Nat) (x : AsyncCmd) (s : State) : Option State :=
  let k := ofBytes (slice x.params 0 1)
  let img := x.data
  match n with
  | 1 => some (stepWrites .pcs 2 [(slotOff k + 256, img), (slotOff k + 4, slotRecord s k img)] x s)
  | 2 => some (stepWrites .cc 3 [(slotOff k, toBytes 4 (2 + 2 ^ 8 * ((topGen s k + 1) % 2 ^ 24)))] x s)
  | _ =>
    let i := 256 * imgCpf img + imgCp img
    if 2 ≤ k ∧ svnMin s i < imgSvn img then some (stepWrites .pcs 0 [(svnOff i, toBytes 4 (imgSvn img))] x s) else none

/-- One installation runs at a time. Step 2: word 0 becomes WRITING, and a flush follows. -/
def runImageInstall (host : HostMem) (c : HostCmd) (p : List Nat) (s : State) : Verdict × State :=
  let k := arg p 0
  let n := arg p 1
  if (decide (k < 2) && s.get RST_BOOT_STAGE 0 == 5 && bootSlot s == k) || slotUsed s k then (.no 0x0210 k, s)
  else if s.cmds.any (fun x => x.opcode == 0x0502 && x.done.isNone) then (.hold, s)
  else match retiredIn s (slotOff k) (256 + n) with
    | some l => (.no 0x0303 l, s)
    | none =>
      if ledgerGone s then (.no 0x0503 0, s)
      else
        let t := s.emit (.hostRead (ringCtx s c.ring) (arg p 2) n)
        match hostFault host with
        | some (status, detail) => (.accepted, acceptDone c status detail [] t)
        | none =>
          let img := hostOctets n host
          match installRefusal s k img with
          | some (status, detail) => (.accepted, acceptDone c status detail [] t)
          | none =>
            let t := accept c (.step 0) img (if k < 2 then rootLearn img t else t)
            (.accepted, overList (fun x u => stepWrites .cc 1 [(slotOff k, toBytes 4 (slotWord u k 0 / 2 ^ 8 * 2 ^ 8 + 1))] x u)
              (t.cmds.filter (fun x => x.wait == .step 0)) t)

/-! ### Sessions (17 R389, R390) -/

/-- Eight octets of the device serial. -/
def serial : List Byte := (List.range 8).map Config.deviceSerial

/-- Octets of an owner record with `n` profile keys, but for its signature block; the owner's key block in it. -/
def ownerLen (n : Nat) : Nat := 64 + keyBlockLen * (1 + n)
def ownerKeys (rec : List Byte) : Nat := bitsOf (imgWord rec 0 1) 16 5
def ownerBlock (rec : List Byte) : List Byte := slice rec 64 keyBlockLen
def ownerSize (rec : List Byte) : Nat := ownerLen (ownerKeys rec) + sigLen

/-- An owner record is well formed, bound to this device, and signed by its owner key (R389). -/
def ownerOk (rec : List Byte) : Bool :=
  let n := ownerLen (ownerKeys rec)
  imgWord rec 0 0 == 0x524E574F && imgWord rec 0 1 % 2 ^ 16 == 1 && imgWord rec 0 1 / 2 ^ 21 == 0 &&
    decide (ownerKeys rec ≤ 16) && slice rec 12 8 == serial && zeroWords rec 5 11 &&
    signedBy (ownerBlock rec) (rec.take n) (slice rec n sigLen)

/-- A record may replace the held one: the same owner key and a higher SEQ. -/
def ownerReplaces (s : State) (rec : List Byte) : Bool :=
  ownerOk rec && !s.ownerRec.isEmpty && ownerBlock rec == ownerBlock s.ownerRec &&
    decide (imgWord s.ownerRec 0 2 < imgWord rec 0 2)

/-- The key blocks that may sign a session request in the present state of the lifecycle. -/
def sessionSigners (s : State) : List (List Byte) :=
  if s.get PCS_LC_STATE 0 = lcDeployed then (if s.ownerRec.isEmpty then [] else [ownerBlock s.ownerRec]) else rootTable s

/-- The owner record that follows a request, if HAS_OWNER says so. -/
def requestOwner (req : List Byte) : List Byte :=
  if bitOf (imgWord req 0 1) 0 then slice req 64 (ownerSize (req.drop 64)) else []

/-- Why a session request is refused, as the DETAIL of SESSION_REFUSED; 0 when it is not. -/
def sessionRefusal (s : State) (req : List Byte) : Nat :=
  let rec' := requestOwner req
  let n := 64 + rec'.length
  let dur := imgWord req 0 3
  if s.get PCS_LC_STATE 0 = lcScrapped then 6
  else if imgWord req 0 0 ≠ 0x53534553 ∨ 2 ≤ imgWord req 0 1 ∨ dur < 1 ∨ 86400 < dur ∨ zeroWords req 6 10 = false then 1
  else if slice req 16 8 ≠ serial then 2
  else if imgWord req 0 2 ≠ s.get KEY_SESSIONS 0 then 3
  else if sessionSigners s = [] then 4
  else if !(sessionSigners s).any (fun kb => signedBy kb (req.take n) (slice req n sigLen)) then 5
  else if !rec'.isEmpty && !ownerReplaces s rec' then 7
  else 0

/-- A session opens. -/
def sessionOpen (req : List Byte) (s : State) : State :=
  let rec' := requestOwner req
  let s := s.put KEY_SESSIONS 0 (s.get KEY_SESSIONS 0 + 1)
  let s : State := if rec'.isEmpty then s else { s with ownerRec := rec' }
  let s := s.put SESS_END 0 (s.get CORE_COUNT 0 + imgWord req 0 3 * second)
  (debugSync (s.put HIF_PF_SEC_SEC_EN 0 1)).raise 98 1

/-- Octets that a session request may have: header, owner record with 16 profile keys, signature block. -/
def requestMax : Nat := 64 + ownerLen 16 + sigLen + sigLen

/-- The final reply opens or closes the session (14 R331). -/
def runSecSession (host : HostMem) (c : HostCmd) (p : List Nat) (s : State) : Verdict × State :=
  if arg p 0 = 0 then (.accepted, accept c .firmware [] s)
  else pcsGate (fun c p s => readAnd host c (arg p 1) requestMax s) c p s

/-! ### Lifecycle (17 R392 to R394) -/

/-- A transition of R392; target 8 blows DEBUG_KILL. -/
def lcAllowed (from' dest : Nat) : Bool :=
  if from' = lcScrapped then false
  else dest == lcScrapped || dest == 8 || (from' == lcManufacture && dest == lcProvisioned) ||
    (from' == lcProvisioned && dest == lcDeployed) || (from' == lcDeployed && dest == lcReturned) ||
    (from' == lcReturned && dest == lcProvisioned)

/-- The parameters hold: the wipe runs, and the transition is open until its commit word. -/
def lcBegin (c : HostCmd) (data : List Byte) (s : State) : State :=
  accept c (.step 1) data ((wipe (s.fresh % 8) s.used).put KEY_LC_OPEN 0 1)

def lcStart (host : HostMem) (c : HostCmd) (p : List Nat) (s : State) : Verdict × State :=
  let dest := arg p 0
  if dest = 8 then (.accepted, accept c (.step 1) [] (s.put KEY_LC_OPEN 0 1))
  else if dest = lcProvisioned then
    (if (nextSeed s).isNone then (.no 0x0304 0, s)
    else if !s.flag PCS_STAT_DRBG_OK 0 then (.no 0x0504 1, s)
    else (.accepted, lcBegin c [] s))
  else if dest = lcDeployed then
    let n := ownerLen 16 + sigLen
    let t := s.emit (.hostRead (ringCtx s c.ring) (arg p 1) n)
    match hostFault host with
    | some (status, detail) => (.accepted, acceptDone c status detail [] t)
    | none =>
      let bs := hostOctets n host
      let rec' := bs.take (ownerSize bs)
      if ownerOk rec' then (.accepted, lcBegin c rec' t) else (.accepted, acceptDone c 0x0405 7 [] t)
  else (.accepted, lcBegin c [] s)

def runLifecycleSet (host : HostMem) (c : HostCmd) (p : List Nat) (s : State) : Verdict × State :=
  if !lcAllowed (s.get PCS_LC_STATE 0) (arg p 0) then (.no 0x0212 0, s) else pcsGate (lcStart host) c p s

/-- The identity public block of a seed (R397): its last three octets are zero. -/
def identityBlock (seed : Nat) : List Byte :=
  (List.range 4257).map (Config.identityByte seed) ++ List.replicate 3 0

/-- The identity seed in use. -/
def seedNow (s : State) : Nat := s.get FUSE_SEED (s.get PCS_LC_SEED_SLOT 0)

/-- The fuse sequence of a transition begins, or the owner record is written (R394). -/
def lcFuses (dest : Nat) (data : List Byte) (s : State) : State :=
  if dest = lcProvisioned then fuseBegin 1 (s.fresh % 2 ^ 256) (drbgAsk s.used)
  else if dest = lcDeployed then { s with ownerRec := data }
  else if dest = lcReturned then { s with ownerRec := [] }
  else fuseBegin (if dest = lcScrapped then 2 else 3) 0 s

/-- The commit word is written (R394); what is counted since provisioning starts anew. -/
def lcCommit (dest : Nat) (s : State) : State :=
  let lc := if dest = 8 then s.get PCS_LC_STATE 0 else dest
  let s := ((s.put PCS_LC_STATE 0 lc).put PCS_LC_INCOMPLETE 0 0).put KEY_LC_OPEN 0 0
  let s := if dest = lcProvisioned then (s.put KEY_BOOTS 0 0).put KEY_TAMPERS 0 0 else s
  (debugSync s).raise 99 lc

/-- How an accepted command that works in steps goes on: to its next step, or to its final reply. -/
inductive Went where
  | on (s : State)
  | ends (y : Nat × Nat × List Nat) (s : State)

/-- An accepted command waits for something else. -/
def waitFor (x : AsyncCmd) (w : CmdWait) (s : State) : State :=
  { s with cmds := s.cmds.map (fun c => if c = x then { c with wait := w } else c) }

/-- A command is no longer accepted and unfinished. -/
def withoutCmd (x : AsyncCmd) (s : State) : State := { s with cmds := s.cmds.erase x }

/-- A transition's steps: the fuse sequence or the owner record; once a sequence has run, its fuses are blown, and a new identity's
public block goes to host memory; then the commit word (R394). Each goes by one FINAL_REPLY (DESIGN CHOICE, log entry 201). -/
def lcStep (n : Nat) (x : AsyncCmd) (host : HostMem) (s : State) : Went :=
  let dest := ofBytes (slice x.params 0 1)
  let va := ofBytes (slice x.params 8 8)
  match n with
  | 1 => .on (waitFor x (.step 2) (lcFuses dest x.data (fuseCut s)))
  | 2 =>
    if !fuseDone s then .on s
    else
      let t := fuseBlow s
      if dest = lcProvisioned then
        let u := t.emit (.hostWrite (ringCtx s x.ring) va (identityBlock (seedNow t)))
        match hostFault host with
        | some (status, detail) => .ends (status, detail, []) (withoutCmd x u)
        | none => .on (waitFor x (.step 3) u)
      else .on (waitFor x (.step 3) t)
  | _ => .ends (0, 0, []) (lcCommit dest (withoutCmd x s))

/-! ### KEY_ROTATE and CAK_INSTALL (16 R375, 17 R391) -/

/-- A rotation begins once none is open. -/
def runKeyRotate (c : HostCmd) (p : List Nat) (s : State) : Verdict × State :=
  if ledgerGone s then (.no 0x0503 0, s)
  else if s.get LDG_ROT 0 ≠ 0 then (.hold, s)
  else pcsGate (fun c p s => (.accepted, rotateOpen (arg p 0) (accept c .rotate [] s))) c p s

def runCakInstall (host : HostMem) (c : HostCmd) (p : List Nat) (s : State) : Verdict × State :=
  pcsGate (fun c p s => readAnd host c (arg p 1) 1664 s) c p s

/-- What a block holds for a port, or why it is refused, as the DETAIL of CAK_INVALID. -/
def cakOf (s : State) (port : Nat) (bs : List Byte) : List Byte ⊕ Nat :=
  match Config.kemOpen (seedNow s) (bs.take 1568) with
  | none => .inr 1
  | some key =>
    match Config.gcmOpen key (slice bs 1568 12) (serial ++ toBytes 1 port) (slice bs 1580 68) (slice bs 1648 16) with
    | none => .inr 2
    | some pt => if 1 ≤ imgWord pt 0 8 ∧ imgWord pt 0 8 ≤ 32 then .inl pt else .inr 3

/-- A good CAK replaces the port's, and MKA begins anew on it. -/
def cakEnd (x : AsyncCmd) (s : State) : (Nat × Nat × List Nat) × State :=
  if s.get PCS_LC_STATE 0 = lcScrapped then ((0x0504, 0, []), s) else
  let port := ofBytes (slice x.params 0 1)
  match cakOf s port x.data with
  | .inl pt => ((0, 0, []), keysDerived (mkaStart port pt { s with caks := tblPut s.caks port pt }))
  | .inr d => ((0x0406, d, []), s)

/-! ### Attestation (17 R397, R398) -/

/-- The loaded profiles. -/
def loadedInsts (s : State) : List Nat := (List.range 16).filter (fun i => instState s i == instLoaded)

/-- The header of the report, 128 octets. -/
def attestHeader (s : State) (nonceLen : Nat) : List Byte :=
  let n := (loadedInsts s).length
  let d := s.get LIM_CYC_CTRL_DOM 0
  let w4 := s.get PCS_LC_STATE 0 + 8 * s.get DEV_CAP_DEBUG_OPEN 0 + 16 * s.get HIF_PF_SEC_SEC_EN 0 +
    32 * s.get PCS_LC_INCOMPLETE 0 + 2 ^ 8 * n + 2 ^ 16 * s.get DEV_HUB_HUB_NUM 0 + 2 ^ 24 * nonceLen
  [0x54535441, 1 + 2 ^ 16 * (256 + 64 * n), s.get DEV_ID_ID 0, s.get DEV_STEP_MINOR 0 + 256 * s.get DEV_STEP_MAJOR 0, w4,
      s.get DEV_HUB_LINE_ID 0, s.get KEY_BOOTS 0, s.get KEY_TAMPERS 0, s.nowNs d, s.now d % 256].flatMap (toBytes 4) ++
    toBytes 8 (epochSeconds s d % 2 ^ 48) ++ sha384 (identityBlock (seedNow s)) ++ serial ++ toBytes 4 (s.get KEY_SESSIONS 0) ++
    List.replicate 20 0

/-- The firmware record, and the record of a loaded profile: 64 octets each. -/
def attestFirmware (s : State) : List Byte :=
  let k := bootSlot s
  toBytes 4 (k + 2 ^ 8 * slotGen s k) ++ toBytes 4 (slotWord s k 4) ++ slotDigest s k ++
    durBytes s (slotOff k + 256 + 32) 8
def attestInst (s : State) (i : Nat) : List Byte :=
  let w0 := i + 2 ^ 8 * s.get INST_CPFCP i + 2 ^ 24 * s.get INST_SLOT i
  toBytes 4 w0 ++ toBytes 4 (s.get INST_SVN i) ++ toBytes 48 (s.get INST_DIGEST i) ++ toBytes 4 (s.get INST_COURSES i) ++
    toBytes 4 (s.get INST_VERSION i)

/-- The signature block of the identity keys: the ML-DSA-87 signature of 4,627 octets, a zero octet, then the ECDSA P-384 values (07
R163). -/
def identitySignature (seed : Nat) (body : List Byte) : List Byte :=
  (List.range sigLen).map (fun i => if i = 4627 then 0 else Config.identitySign seed body i)

/-- The report. -/
def attestReport (s : State) (nonce : List Byte) : List Byte :=
  let body := attestHeader s nonce.length ++ attestFirmware s ++ (loadedInsts s).flatMap (attestInst s) ++ nonce ++
    List.replicate (64 - nonce.length) 0
  body ++ identitySignature (seedNow s) body ++ identityBlock (seedNow s)

/-- In SCRAPPED the identity keys are never derived (R392): no report can be signed, nor a block for them opened. -/
def identityGone (s : State) : Bool := s.get PCS_LC_STATE 0 == lcScrapped

def runAttest (host : HostMem) (c : HostCmd) (p : List Nat) (s : State) : Verdict × State :=
  if identityGone s then (.no 0x0504 0, s)
  else pcsGate (fun c p s => readAnd host c (arg p 1) (arg p 0) s) c p s

def attestEnd (x : AsyncCmd) (host : HostMem) (s : State) : (Nat × Nat × List Nat) × State :=
  if identityGone s then ((0x0504, 0, []), s) else
  let va := ofBytes (slice x.params 16 8)
  let t := s.emit (.hostWrite (ringCtx s x.ring) va (attestReport s x.data))
  match hostFault host with
  | some (status, detail) => ((status, detail, []), t)
  | none => ((0, 0, [9240 + 64 * (loadedInsts s).length]), t)

/-! ### Final replies (14 R327) -/

/-- What Damair firmware still does for an accepted command, and its outcome. -/
def firmwareEnd (x : AsyncCmd) (host : HostMem) (s : State) : (Nat × Nat × List Nat) × State :=
  match x.opcode with
  | 0x0600 => attestEnd x host s
  | 0x0601 =>
    if ofBytes (slice x.params 0 1) = 0 then ((0, 0, []), sessionEnd 1 s) else
    let why := sessionRefusal s x.data
    if why = 0 then ((0, 0, []), sessionOpen x.data s) else ((0x0405, why, []), s)
  | 0x0604 => cakEnd x s
  | 0x0903 => ((0, 0, []), s.put PTP_ON (ofBytes (slice x.params 0 1)) 1)
  | _ => ((0, 0, []), s)

/-- The `k`-th accepted command of ring r, if its outcome is known or the firmware can go on with it. -/
def readyCommand (s : State) (r k : Nat) : Option AsyncCmd :=
  match (s.cmds.filter (fun c => c.ring == r))[k]? with
  | some x =>
    if x.done.isSome then some x
    else match x.wait with
      | .firmware | .step _ => some x
      | _ => none
  | none => none

/-- A command gets its final reply. -/
def commandEnds (x : AsyncCmd) (y : Nat × Nat × List Nat) (s : State) : State :=
  ringTurn (finalReply x.ring x.tag x.opcode y.1 y.2.1 y.2.2 x.mute true s)

/-- An accepted command goes on: its next step, or what is left and its final reply. -/
def finalOf (r k : Nat) (host : HostMem) (s : State) : State :=
  if s.get FATAL_PATH 0 ≠ 0 then s else
  match readyCommand s r k with
  | none => s
  | some x =>
    let t : State := { s with cmds := s.cmds.erase x }
    match x.done, x.wait with
    | some y, _ => commandEnds x y t
    | none, .step n =>
      if x.opcode = 0x0602 then
        match lcStep n x host s with
        | .on u => u
        | .ends y u => commandEnds x y u
      else match installStep n x s with
        | some u => u
        | none => commandEnds x (0, 0, []) t
    | none, _ =>
      let z := firmwareEnd x host t
      commandEnds x z.1 z.2

/-! ### The commands -/

/-- IMAGE_INSTALL (16 R372): what its read of host memory meets. -/
def execImageInstall (r : Fin 32) (host : HostMem) (s : State) : Result :=
  .next (hostCommand 0x0502 pfOnly false [pTo 1 7, pTo 4 1048320, pVa] (pcsGate (runImageInstall host)) r s)

/-- ATTEST (17 R397): what its read of the nonce meets. -/
def execAttest (r : Fin 32) (host : HostMem) (s : State) : Result :=
  .next (hostCommand 0x0600 anyFunc false [pIn 2 1 64, pVa, pVa] (runAttest host) r s)

/-- SEC_SESSION (17 R390): what its read of the request meets. -/
def execSecSession (r : Fin 32) (host : HostMem) (s : State) : Result :=
  .next (hostCommand 0x0601 pfOnly false [pTo 1 1, pVa] (runSecSession host) r s)

/-- LIFECYCLE_SET (17 R392): what its read of the owner record meets. -/
def execLifecycleSet (r : Fin 32) (host : HostMem) (s : State) : Result :=
  .next (hostCommand 0x0602 pfOnly true [pAny 1, pVa] (runLifecycleSet host) r s)

/-- KEY_ROTATE (16 R375). -/
def execKeyRotate (r : Fin 32) (s : State) : Result := .next (hostCommand 0x0603 pfOnly true [pTo 1 1] runKeyRotate r s)

/-- CAK_INSTALL (17 R391): what its read of the block meets. -/
def execCakInstall (r : Fin 32) (host : HostMem) (s : State) : Result :=
  .next (hostCommand 0x0604 pfOnly true [pTo 1 7, pVa] (runCakInstall host) r s)

/-- FINAL_REPLY (R327): the `k`-th accepted command of ring r that waits, and what the firmware's writes of host memory for it
meet. -/
def execFinalReply (r : Fin 32) (k : Nat) (host : HostMem) (s : State) : Result := .next (finalOf r k host s)

end Sys2Proof.Machine
end

