-- ==== Sys2Proof/Machine/Boundary.lean ====
section
/-! DEFINITION. What happens at a boundary of the line cycle (spec/03_line_cycle_shutter_tablature.md R51 to R59, and the
rules of the other chapters that speak of the boundary), and what the passing of core clock cycles does. -/

namespace Sys2Proof.Machine

/-- A boundary is due: cycling is armed or runs, and the line domain has reached its instant (R51). -/
def boundaryDue (s : State) : Bool :=
  s.get LIM_PHASE 0 != 0 && s.reached (s.get LIM_CYC_CTRL_DOM 0) (s.get LIM_NEXT 0)

/-- The cycle number and the period from boundary `k` on: an armed change takes effect at boundary AT (R54). -/
def boundaryPeriod (k : Nat) (s : State) : State :=
  if s.flag LIM_STAT_CHG_PEND 0 && s.get LIM_CYC_CHG_AT 0 == k then
    ((s.put LIM_CYC_PERIOD_PERIOD 0 (s.get LIM_CYC_CHG_NEW_PERIOD 0)).put LIM_STAT_CHG_PEND 0 0).raise 2051
  else s

/-- The cycle timer at a boundary: the number it begins, its instant, and that of the next one, a period later (R51). -/
def boundaryTimer (k : Nat) (s : State) : State :=
  let t := s.get LIM_NEXT 0
  let s := boundaryPeriod k (s.put LIM_CYC_NUM_NUM 0 k)
  (s.put LIM_CUR 0 t).put LIM_NEXT 0 (t + s.get LIM_CYC_PERIOD_PERIOD 0 * 320)

/-- The Shutter: the half written until now, of cycle `k` − 1, becomes the out half. The twin pairs of its period end (those
of the one before that no pass came to are settled), the status pass is due for the slots mapped until now, and the committed
copies swap (R59, R69, R70, R73, 04 R88). -/
def boundaryShutter (k : Nat) (s : State) : State :=
  let s := twinSettle (1 - s.fillHalf) (k + 14) s
  let ended := if s.started then twinsEnded s else []
  let mapped := mappedRx s
  let s := (s.put LIM_STAT_FILL_HALF 0 (k % 2)).put LIM_OUT_SEEN 0 0
  flowBoundary (commitBoundary { passDue mapped s with twins := ended })

/-- The transmit side: unloads end, cyclic banks flip, the lists of halted Courses stop, and what was read or assembled for
the cycle that ended is forgotten (05 R122, 06 R145, 07 R161, R167). -/
def boundaryPorts (s : State) : State :=
  let s := overRange cycBoundary 32 (unloadBoundary s)
  let s := overRange (fun e t => (t.put SLICE_SENT e 0).put SLICE_GOT e 0) 64 s
  { s with assembled := [], sliceReads := [] }

/-- The other blocks at a boundary of line time `t` (1/256 ns): group starts (07 R174, 09 R234), the field I/O and the
sequences (12), the Latch (18 R419), the watchdogs and busy counters of the Courses (07 R162, R172), the planner (18 R408). -/
def boundaryBlocks (k t : Nat) (ends : Bool) (s : State) : State :=
  let s := fioWatchdogBoundary (fioBoundaryDue t (fioSnap s))
  let s := ownerBoundary k s
  let s := fretGstartBoundary (gstartBoundary (busyBoundary ends (wdogBoundary s)))
  (seqBoundary t s).put PLAN_DUE 0 1

/-- A stop that waited takes place at this boundary, the last one: copies of cyclic frames that still wait for the wire are forgotten,
without a count (R53; log entry 15). -/
def boundaryStop (k : Nat) (s : State) : State :=
  if s.flag LIM_STOP 0 then
    let s := { s with timed := [] }
    ((((s.put LIM_STAT_RUNNING 0 0).put LIM_PHASE 0 0).put LIM_STOP 0 0).settle .stop 0 0 [k])
  else s

/-- A boundary: it begins the next cycle (R51). -/
def boundary (s : State) : State :=
  let k := (s.get LIM_CYC_NUM_NUM 0 + 1) % 2 ^ 32
  let t := s.get LIM_NEXT 0
  let ends := s.started
  let s := boundaryTimer k (overRange sliceSweep 64 (timedSweep (arrivalsCross s)))
  let s := (boundaryShutter k s).put LIM_PHASE 0 2
  let s := boundaryBlocks k t ends (boundaryPorts s)
  msixBoundary (boundaryStop k (s.raise 2048))

/-- `n` core clock cycles pass: line time advances (02 R31), Courses in RUN were busy or stalled (07 R159, R172), frames whose last octet left
release their cells (04 R95), Fret clock edges capture the pins (09 R223), octets arrive in the hook areas (07 R175), frames whose octet 64 crossed without a tag count as
unmatched (05 R116), elastic buffers return to centre (R132), synthesisers lock (06 R139), coldstart nodes that have listened long
enough lead (11 R265), and an idle far bus takes an access whose wait for a lock is over (15 R345). -/
def passTime (n : Nat) (s : State) : State :=
  islandTimes (farWaits (ttbListens (synthLocks (ebCentres (arrivalsEnd (hooksExpire (hooksFill (releaseWires (pinsCapture n (timeBaseTick n
    (stallTick n (busyTick n (corrsNote s)))))))))))))

/-! ### The commands' meanings -/

/-- BOUNDARY (R51): without effect while none is due. -/
def execBoundary (s : State) : Result := .next (if boundaryDue s then boundary s else s)

/-- TIME_BASE_TICK (R31). -/
def execTimeBaseTick (n : Nat) (s : State) : Result := .next (passTime n s)

end Sys2Proof.Machine
end

