-- ==== Sys2Proof/Machine/Bus.lean ====
section
/-! DEFINITION. Accesses to the register region and to the host's doorbell pages (00 R4 to R8, R467; 01 R23 to R26; 14 R323 to
R325): which register or table word an address names, what a write of it does beyond its access codes, what a read gives and
clears, and the halves of 64-bit registers. -/

namespace Sys2Proof.Machine

/-! ### Words of table entries (R4): 32-bit registers that an aligned 64-bit access may take two at a time -/

/-- A word of a table entry: its value as it reads, and what a write of it does. -/
structure TabWord where
  value : Nat
  write : Nat → State → State

/-- The fields of a written word that are not reserved (R5). -/
def wordMask (ms : List Nat) (w v : Nat) : Nat := v &&& (ms[w]?).getD (2 ^ 32 - 1)

/-- LIM (03): shadow and active tables. -/
def limWord (s : State) (off : Nat) : Option TabWord :=
  if 0x8_0000 ≤ off then
    let p := off % 0x8_0000 / 0x4000
    let o := off % 0x4000
    if o < 0x2000 then some ⟨s.tabWord p (1 - s.active p) (o / 4), tabWordWrite p (o / 4)⟩
    else some ⟨s.tabWord p (s.active p) (o % 0x2000 / 4), fun _ t => t⟩
  else if 0x7_0000 ≤ off ∧ off < 0x7_0800 then
    some ⟨s.tabWord 32 (1 - s.active 32) (off % 0x1000 / 4), tabWordWrite 32 (off % 0x1000 / 4)⟩
  else if 0x7_1000 ≤ off ∧ off < 0x7_1800 then some ⟨s.tabWord 32 (s.active 32) (off % 0x1000 / 4), fun _ t => t⟩
  else none

/-- The words of the active entry that `SBD_ARD_SEL` names (04). -/
def ardWord (s : State) (w : Nat) : Nat :=
  let e := s.get SBD_ARD_SEL_ENTRY 0
  let t := s.get SBD_ARD_SEL_TABLE 0
  if t = 64 then s.ftWord (s.get FT_BANK 0) e w
  else if t < 40 then
    if e = 1024 then (if w = 0 then s.get LVR_A_CT t else if w = 1 then s.get LVR_A_BASE t else 0)
    else if e < 1024 ∧ w < 2 then s.get LVR_W ((t * 2 + s.get LVR_BANK t) * 2048 + 2 * e + w)
    else 0
  else 0

/-- SBD (04): flow shadow, gate lists, filters, meters, groups, redundancy functions, VLAN table, the active-entry window. -/
def sbdWord (s : State) (off : Nat) : Option TabWord :=
  if 0x320 ≤ off ∧ off < 0x340 then some ⟨ardWord s ((off - 0x320) / 4), fun _ t => t⟩
  else if 0x1_0000 ≤ off ∧ off < 0x5_0000 then
    let w := (off - 0x1_0000) / 4
    some ⟨s.get SBD_FT ((1 - s.get FT_BANK 0) * 65536 + w), flowWordWrite w⟩
  else if 0x6_0000 ≤ off ∧ off < 0xB_0000 then
    let q := off / 0x2000 - 48
    let w := off % 0x2000 / 4
    some ⟨s.get LVR_W ((q * 2 + (1 - s.get LVR_BANK q)) * 2048 + w), lvrWordWrite q w⟩
  else if 0xC_0000 ≤ off ∧ off < 0xC_4000 then
    let w := off % 0x4000 / 4
    some ⟨s.get SBD_FILT w, filtWordWrite (w / 4) (w % 4)⟩
  else if 0xC_4000 ≤ off ∧ off < 0xC_5000 then
    let w := off % 0x1000 / 4
    some ⟨s.get SBD_METER w, meterWordWrite w⟩
  else if 0xC_5000 ≤ off ∧ off < 0xC_6000 then
    let w := off % 0x1000 / 4
    some ⟨s.get SBD_GRP w, fun v t => t.put SBD_GRP w (wordMask [0xFFFF_FFFF, 0xFFFF_FFFF, 0x1FF, 0] (w % 4) v)⟩
  else if 0xC_8000 ≤ off ∧ off < 0xD_0000 then
    let w := off % 0x8000 / 4
    some ⟨s.get SBD_FRER w, frerWordWrite (w / 8) (w % 8)⟩
  else if 0xD_0000 ≤ off ∧ off < 0xE_0000 then
    let w := off % 0x1_0000 / 4
    some ⟨s.get SBD_VLAN w, fun v t => t.put SBD_VLAN w (wordMask [0xFFFF_FFFF, 0x1FF, 0xFFFF_FFFF, 0x1FF] (w % 4) v)⟩
  else none

/-- MAC (05): classifier rules, cyclic lists (a write to the bank in force is ignored, R122), scan maps (R134). -/
def macWord (s : State) (off : Nat) : Option TabWord :=
  let p := off / 0x4000
  let o := off % 0x4000
  if 32 ≤ p then none
  else if 0x100 ≤ o ∧ o < 0x200 then
    let w := (o - 0x100) / 4
    some ⟨s.get MAC_CLS (p * 64 + w),
      fun v t => t.put MAC_CLS (p * 64 + w) (wordMask [0x3_FF07, 0xFFFF, 0x3F, 0xFFFF_FFFF] (w % 4) v)⟩
  else if 0x400 ≤ o ∧ o < 0xC00 then
    let w := (o - 0x400) / 4
    some ⟨s.get MAC_CYC (p * 512 + w), fun v t =>
      if t.get MAC_STAT_CYC_BANK p = w / 256 then t
      else t.put MAC_CYC (p * 512 + w) (wordMask [0xFF1F, 0x7F_FFFF, 0x3FFF, 0x3FF_FFFF] (w % 4) v)⟩
  else if 0x1000 ≤ o ∧ o < 0x2000 then
    let w := o % 0x1000 / 4
    some ⟨s.get SCAN_MAP (p * 1024 + w), fun v t => if w % 4 = 3 then scanAddrWrite p (w / 4) v t else t⟩
  else none

/-- The table word at an aligned address of the register region. -/
def tableWord (s : State) (a : Nat) : Option TabWord :=
  let off := blockOff a
  match blockOf a with
  | 4 => limWord s off
  | 5 => sbdWord s off
  | 6 => macWord s off
  | 11 =>
    if off < 0x1_0000 ∧ 0x2000 ≤ off % 0x4000 then
      let i := 2048 * (off / 0x4000) + (off % 0x4000 - 0x2000) / 4
      some ⟨s.get TTB_SCH i, schWrite (off / 0x4000) ((off % 0x4000 - 0x2000) / 4)⟩
    else none
  | _ => none

/-! ### Registers that stand in no table of the register headings -/

/-- The path sets (04 R91), and the transition words of the Frets (09 R226). -/
def extraRegs : List RegInfo :=
  [⟨348, "SBD_PATH", 0x4050_0800, 64, [(8, 64)], [SBD_PATH]⟩,
   ⟨349, "FRT_TBL", 0x4091_1000, 32, [(0x2000, 64), (4, 1024)], [FRT_TBL]⟩]

/-- The register at an address. -/
def regAt (a : Nat) : Option (RegInfo × Nat) := findReg a (regTable ++ extraRegs)

/-! ### What writes do beyond the access codes; none where the codes say all -/

/-- RST and CLK (19 R430, R431, R434, R436). -/
def rstAct (q : Requester) (a n v : Nat) : Option (State → State) :=
  if n = N_RST_CTRL then some (rstCtrlWrite v)
  else if n = N_RST_HOST then some (if q = .pf ∨ q = .cc then rstHostWrite v else fun s => s.refuse q a)
  else if n = N_RST_BOOT then
    some (fun s => if bitOf v 7 then (s.put RST_BOOT_BOOT_DONE 0 1).put RST_BOOT_FAILS 0 0 else s)
  else if n = N_RST_WDOG then some (rstWdogWrite v)
  else none

/-- TMB (02). -/
def tmbAct (q : Requester) (n i v : Nat) : Option (State → State) :=
  if n = N_TMB_SNAP then some (if bitOf v 0 then tmbSnap else id)
  else if n = N_TMB_DOM_CFG then some (tmbDomCfgWrite i v)
  else if n = N_TMB_DOM_INC then some (tmbDomIncWrite i v)
  else if n = N_TMB_DOM_STEP then some (tmbDomStep i (v % 2 ^ 40))
  else if n = N_TMB_DOM_SAMPLE then
    some (fun s => sampleSubmit i (v % 2 ^ 40) (s.get TMB_DOM_SMPT_TS i) (bitsOf v 40 6) s)
  else if n = N_TMB_DOM_EPOCH then some (epochCommit q i (v % 2 ^ 48))
  else if n = N_TMB_DOM_EPOCH_REF then some (epochRefHold q i v)
  else none

/-- A register that is written only while cycling does not run (03 R53). -/
def limIdle (F : Fld) (v : Nat) (s : State) : State := if s.flag LIM_STAT_RUNNING 0 then s else s.put F 0 v

/-- LIM (03). -/
def limAct (n i v : Nat) : Option (State → State) :=
  if n = N_LIM_CYC_CTRL then some (cycCtrlWrite v)
  else if n = N_LIM_CYC_PERIOD then some (limIdle LIM_CYC_PERIOD_PERIOD v)
  else if n = N_LIM_CYC_START then some (limIdle LIM_CYC_START_START v)
  else if n = N_LIM_CYC_NUM0 then some (limIdle LIM_CYC_NUM0_NUM0 v)
  else if n = N_LIM_CYC_CHG then some (cycChgArm (v % 2 ^ 23) (bitsOf v 32 32))
  else if n = N_LIM_BASE then some (limBaseWrite v)
  else if n = N_LIM_TAB_COMMIT then some (tabCommitWrite v)
  else if n = N_LIM_TAB_CTRL then some (tabCtrlWrite i v)
  else if n = N_LIM_TAB_CRC then some (tabCrcWrite i v)
  else none

/-- SBD (04). -/
def sbdAct (n i v : Nat) : Option (State → State) :=
  if n = N_SBD_CTRL then some (sbdCtrlWrite v)
  else if n = N_SBD_RSV then some (sbdRsvWrite i v)
  else if n = N_SBD_FLOW_CTRL then some (flowCtrlWrite v)
  else if n = N_SBD_FLOW_CRC then some (flowCrcWrite v)
  else if n = N_SBD_FLOW_COMMIT then some (flowCommitWrite v)
  else if n = N_SBD_LVR_CTRL then some (lvrCtrlWrite i v)
  else if n = N_SBD_LVR_CT then some (lvrShadowWrite SBD_LVR_CT_CT i v)
  else if n = N_SBD_LVR_BASE then some (lvrShadowWrite SBD_LVR_BASE_BASE i v)
  else if n = N_SBD_LVR_CRC then some (lvrShadowWrite SBD_LVR_CRC_CRC i v)
  else if n = 348 then some (fun s => s.put SBD_PATH i (v / 256 * 256 + v % 16))
  else none

/-- A write of the fields of a register by their access codes, then what follows it. -/
def andThen (q : Requester) (a i v : Nat) (r : RegInfo) (k : State → State) : Option (State → State) :=
  some (fun s => k (s.writeFlds q a i v r.flds))

/-- MAC and TRK (05, 06). -/
def portAct (q : Requester) (a : Nat) (r : RegInfo) (i v : Nat) : Option (State → State) :=
  if r.num = N_MAC_CFG then some (macCfgWrite i v)
  else if r.num = N_MAC_CYC_CTRL then
    andThen q a i v r (fun t => refreshDuplex i (if t.flag MAC_CYC_CTRL_EN i then t.put MAC_CYC_HALT i 0 else t))
  else if r.num = N_MAC_LANE then andThen q a i v r (if bitOf v 24 then macRetrainReq i else id)
  else if r.num = N_MAC_SCAN_CTRL then
    andThen q a i v r (fun s => let s := if bitOf v 1 then scanAbort i s else s; if bitOf v 0 then scanGo i s else s)
  else if r.num = N_TRK_GRP_CFG then some (trkGrpWrite i v)
  else if r.num = N_TRK_LANE_CFG then some (trkLaneWrite i v)
  else if r.num = N_TRK_LANE_THR then andThen q a i v r (if bitOf v 24 then fun s => s.put LANE_REQ (32 + i) 1 else id)
  else if r.num = N_TRK_PORT_CFG then some (trkPortWrite i v)
  else if r.num = N_TRK_MSEC_CFG then andThen q a i v r (fun s => refreshPort (portOfLane s i) s)
  else none

/-- CRS (07). -/
def crsAct (q : Requester) (a n i v : Nat) : Option (State → State) :=
  if n = N_CRS_CTRL then some (crsCtrlWrite q i v)
  else if n = N_CRS_TCMP then some (tcmpWrite (i / 4) (i % 4) v)
  else if n = N_CRS_SWEVT then some (swEvents i v)
  else if n = N_CRS_TXR_PTR then some (txrTail i v)
  else if n = N_CRS_RXR_PTR then some (rxrTail i v)
  else if n = N_CRS_MSG_SEND then some (msgSend i (v % 64))
  else if n = N_CRS_Q_POP then some (popWrite q a (v % 64))
  else if n = N_CRS_HOOK then some (hookRegWrite (i / 32) (i % 32) (v % 256) (bitOf v 8))
  else if n = N_CRS_HOOK_WR then some (hookWrSubmit i v)
  else if n = N_CRS_Q_CFG then some (queueCfgWrite i v)
  else if n = N_CRS_GSTART then some (gstartArm (v % 2 ^ 32) (bitsOf v 32 32))
  else none

/-- FRT (09): the program registers of R224 besides. -/
def frtAct (a n i v : Nat) : Option (State → State) :=
  if n = N_FRT_GSTART then some (fretGstartArm v)
  else if n = N_FRT_CTRL then some (frtCtrlWrite i v)
  else if n = N_FRT_TXQ then some (txqWrite i v)
  else if n = N_FRT_TCMP then some (frtTcmpWrite i v)
  else frtProgram (blockOff a) v

/-- AMB (10): the configuration registers are written only in CONFIG and OFF (R243); channels 12 to 15 have no data phase, and
their AMB_DBT and AMB_TDC hold nothing. -/
def ambAct (q : Requester) (a : Nat) (r : RegInfo) (i v : Nat) : Option (State → State) :=
  let c := (blockOff a) / 0x1000
  let n := r.num
  let own (k : State → State) : Option (State → State) := some (ambConfigured c k)
  if n = N_AMB_CH_CTRL then some (ambMode c (v % 8))
  else if n = N_AMB_TX_REQ then some (ambRequest c v)
  else if n = N_AMB_TX_CANCEL then some (ambCancel c v)
  else if n = N_AMB_RXQ_ACK then some (ambAck c (i % 4) (v % 2 ^ 11))
  else if n = N_AMB_RXQ_CFG then own (ambRxqCfg c (i % 4) v)
  else if n = N_AMB_DBT ∧ 12 ≤ c then own id
  else if n = N_AMB_CH_CFG then
    own (fun s => busOffPending c (s.writeFlds q a i (if 12 ≤ c then v % 2 ^ 13 else v) r.flds))
  else if n = N_AMB_TDC then
    some (fun s => ambConfigured c (fun t => if 12 ≤ c then t else t.put AMB_TDC_TDCO c v)
      (if bitOf v 15 then s.put AMB_TDC_SAT c 0 else s))
  else if [N_AMB_NBT, N_AMB_DBT, N_AMB_TXB_CFG, N_AMB_WAKE_ID, N_AMB_WAKE_DATA, N_AMB_WAKE_DMASK, N_AMB_REF_CFG,
      N_AMB_REF_PERIOD, N_AMB_REF_BASE, N_AMB_FLT].contains n then
    own (fun s => s.writeFlds q a i v r.flds)
  else none

/-- TTB (11): the configuration registers are written only in DEFAULT_CONFIG and CONFIG (R263). -/
def ttbAct (q : Requester) (a : Nat) (r : RegInfo) (i v : Nat) : Option (State → State) :=
  let n := r.num
  if n = N_TTB_POC_CMD then some (pocCmdWrite i v)
  else if n = N_TTB_MODE_CTRL then some (modeCtrlWrite i v)
  else if n = N_TTB_MODE_VALID then some (modeValidWrite i v)
  else if n = N_TTB_ALIGN then some (fun s => ttbAlignOff i (s.writeFlds q a i v r.flds))
  else if [N_TTB_CL_T0, N_TTB_CL_T1, N_TTB_CL_T2, N_TTB_CL_T3, N_TTB_CL_T4, N_TTB_CL_SYNC, N_TTB_CL_SYNC2, N_TTB_KEY,
      N_TTB_BUF_CFG, N_TTB_ALIGN_EXT].contains n then
    some (ttbConfigured i (fun s => s.writeFlds q a i v r.flds))
  else none

/-- FIO and MKC (12). -/
def fioAct (q : Requester) (a : Nat) (r : RegInfo) (i v : Nat) : Option (State → State) :=
  let n := r.num
  if n = N_FIO_CTRL then some (fioCtrlWrite q v)
  else if n = N_FIO_SBASE then some (fioSbaseWrite v)
  else if n = N_FIO_WDOG then some (fioWdogWrite v)
  else if n = N_FIO_OUT then some (fioOutWrite v)
  else if n = N_FIO_OUT_FLT then some (fioFltWrite v)
  else if n = N_FIO_OUT_CFG then andThen q a i v r stages
  else if n = N_MKC_CTRL then
    some (fun s => s.writeFlds q a i (if s.flag RAIL_BAD 5 then v % 16 else v) r.flds)
  else if n = N_MKC_SEQ_CFG then some (seqCfgWrite i v)
  else if [N_MKC_SEQ_DELAY, N_MKC_SEQ_LEN, N_MKC_SEQ_N, N_MKC_SEQ_RING].contains n then
    some (seqConfigured i (fun s => s.writeFlds q a i v r.flds))
  else if n = N_MKC_SEQ_ACK then some (seqAck i (v % 512))
  else if n = N_MKC_LOG_ACK then some (seqLogAck i (v % 512))
  else none

/-- EVT and XLT (13). -/
def evtAct (q : Requester) (a n i v : Nat) : Option (State → State) :=
  if n = N_EVT_ROUTE then some (routeWrite q i v)
  else if n = N_EVT_LOG_CFG then some (logCfgWrite i v)
  else if n = N_EVT_LOG_ACK then some (logAck i (v % 2 ^ 15))
  else if n = N_XLT_INV then some (invWrite v)
  else if n = N_XLT_FQ_CFG then some (fqCfgWrite i v)
  else if n = N_XLT_FQ_ACK then some (fun s => if fqWriter s q i then fqAck i (v % 2 ^ 11) s else s.refuse q a)
  else if n = N_XLT_STR_PTR then some (strTail q i (v % 2 ^ 12) .none)
  else if n = N_XLT_STR_CTRL then some (strCtrl q i v .none)
  else none

/-- HIF (14): the pages of the rings, the secure enable, the Wickets. -/
def hifAct (q : Requester) (a : Nat) (r : RegInfo) (i v : Nat) : Option (State → State) :=
  let n := r.num
  if n = N_HIF_DB_CMD then some (doorbell RING_TAIL i (v % 2 ^ 12))
  else if n = N_HIF_DB_STS then some (fun s => ringFlush i (doorbell RING_STS_HEAD i (v % 2 ^ 12) s))
  else if n = N_HIF_RING_CTRL then some (ringCtrlWrite i v)
  else if n = N_HIF_RING_CMD then some (ringVaWrite HIF_RING_CMD_VA i v)
  else if n = N_HIF_RING_STS then some (ringVaWrite HIF_RING_STS_VA i v)
  else if n = N_HIF_RING_WB then some (ringVaWrite HIF_RING_WB_VA i v)
  else if n = N_HIF_PF_SEC then
    some (fun s => if bitOf v 0 then debugSync (s.put HIF_PF_SEC_SEC_EN 0 1) else sessionEnd 1 s)
  else if n = N_WKT_CTL_AB then some (wktCtlWrite q i 0 v)
  else if n = N_WKT_CTL_BA then some (wktCtlWrite q i 1 v)
  else if n = N_WKT_CFG then some (wktCfgWrite i v)
  -- DEDUCED, log entry 195: its Wicket's sides and the control core alone write WKT_STAT.
  else if n = N_WKT_STAT then
    some (fun s => if q = .cc ∨ sideOf q = some (wktSender s i 0) ∨ sideOf q = some (wktSender s i 1) then s.writeFlds q a i v r.flds
      else s.refuse q a)
  else if n = N_WKT_MODE then
    if q = .cc ∨ (q = .pf ∧ 32 ≤ i) then andThen q a i v r id else some (fun s => s.refuse q a)
  else none

/-- LDG, PCS and RDN (16 to 18). -/
def lateAct (q : Requester) (a : Nat) (r : RegInfo) (i v : Nat) : Option (State → State) :=
  let n := r.num
  if n = N_LDG_QUOTA then some (ldgQuotaWrite v)
  else if n = N_LDG_FLUSH then some (if bitOf v 0 then ldgGo else id)
  else if n = N_PCS_CTRL then some (pcsCtrlWrite q v)
  else if n = N_RDN_CFG then some (rdnCfgWrite q v)
  else if n = N_RDN_CLAIM then andThen q a i v r rdnSync
  else none

/-- What a write of copy `i` of a register does. -/
def regAct (q : Requester) (a : Nat) (r : RegInfo) (i v : Nat) : State → State :=
  let k : Option (State → State) :=
    if a < 0x4000_0000 then hifAct q a r i v
    else match blockOf a with
    | 1 => rstAct q a r.num v
    | 3 => tmbAct q r.num i v
    | 4 => limAct r.num i v
    | 5 => sbdAct r.num i v
    | 6 => portAct q a r i v
    | 7 => portAct q a r i v
    | 8 => crsAct q a r.num i v
    | 9 => frtAct a r.num i v
    | 10 => ambAct q a r i v
    | 11 => ttbAct q a r i v
    | 12 => fioAct q a r i v
    | 13 => evtAct q a r.num i v
    | 14 => evtAct q a r.num i v
    | 15 => hifAct q a r i v
    | 17 => lateAct q a r i v
    | 18 => lateAct q a r i v
    | 19 => lateAct q a r i v
    | _ => none
  match k with
  | some f => f
  | none => fun s => s.writeFlds q a i v r.flds

/-- A requester may write no field of copy `i` of a register (R467): its fields are closed to it, or the copy is, as a route is by
R304. -/
def barred (q : Requester) (r : RegInfo) (i : Nat) : Bool :=
  r.closedTo q || (r.num == N_EVT_ROUTE && !routeWriter q i)

/-- A write of a whole register by a requester that may reach it (R6, R467). -/
def regWrite (q : Requester) (a : Nat) (r : RegInfo) (i v : Nat) (s : State) : State :=
  if barred q r i then s.refuse q a else regAct q a r i v s

/-! ### What reads give and do -/

/-- The wake bits that act: those of Portcullis and host-function sides (14 R335). -/
def wakeSides (s : State) (i : Nat) : Nat :=
  let ok (side : Nat) : Bool := side == 33 || (decide (34 ≤ side) && decide (side < 50))
  (if ok (s.get WKT_CFG_SIDE_A i) then 2 else 0) + (if ok (s.get WKT_CFG_SIDE_B i) then 4 else 0)

/-- A register as it reads: its fields, but for those that show something else. -/
def regValue (r : RegInfo) (i : Nat) (s : State) : Nat :=
  let n := r.num
  let v := s.readFlds i r.flds
  if n = N_TMB_DOM_TIME then s.nowNs i + s.now i % 256 * 2 ^ 32
  else if n = N_AMB_TX_REQ then s.get AMB_TX_PEND_PEND i
  else if n = N_AMB_CH_STAT then (v &&& (2 ^ 32 - 1 - 2 ^ 6)) + (if 12 ≤ i then 2 ^ 6 else 0)
  else if n = N_AMB_CH_CFG ∧ 12 ≤ i then v % 2 ^ 13
  else if (n = N_AMB_DBT ∨ n = N_AMB_TDC) ∧ 12 ≤ i then 0
  else if n = N_FIO_STAT then v % 2 + (if s.get FIO_GATE 0 = 0 then 2 else 0)
  else if n = N_PCS_TMP_EN then if s.get PCS_LC_STATE 0 = lcDeployed then v ||| 0xF else v
  else if n = N_CRS_HOOK ∧ s.bit CRS_OWN_PORTS (i / 32) (i % 32) = false then 0
  else if n = N_WKT_MODE then v &&& (2 ^ 32 - 1 - 6 + wakeSides s i)
  else if n = N_RDN_CLAIM then v % 2 ^ 8 + 2 ^ 8 * effClaim s
  else if n = N_FRT_RXQ then (rxqRead i s).1
  else v

/-- What a read of bits `lo` to `hi` of a register clears (R6), and what else it does. -/
def regTaken (r : RegInfo) (i lo hi : Nat) (s : State) : State :=
  let s := s.clearRC i lo hi r.flds
  if r.num = N_FRT_RXQ then (rxqRead i s).2
  else if r.num = N_MKC_SEQ_CNT then s.put SEQ_LOGGED i 0
  else s

/-! ### Halves of 64-bit registers (R4) -/

/-- The capture of a requester's lower-half read. -/
def capture (q : Requester) (a v : Nat) (s : State) : State :=
  ((s.put HALF_CAP_ON q.num 1).put HALF_CAP_ADDR q.num a).put HALF_CAP_VAL q.num (v / 2 ^ 32)

/-- A read of a lower half. -/
def readLower (q : Requester) (a : Nat) (r : RegInfo) (i : Nat) (s : State) : Nat × State :=
  let v := regValue r i s
  (v % 2 ^ 32, capture q a v (regTaken r i 0 64 s))

/-- A read of an upper half: the capture once, else the live half, whose RC fields clear. -/
def readUpper (q : Requester) (a : Nat) (r : RegInfo) (i : Nat) (s : State) : Nat × State :=
  if s.flag HALF_CAP_ON q.num && s.get HALF_CAP_ADDR q.num == a then
    (s.get HALF_CAP_VAL q.num, s.put HALF_CAP_ON q.num 0)
  else (regValue r i s / 2 ^ 32, regTaken r i 32 64 s)

/-- A write of a lower half is held. -/
def writeLower (q : Requester) (a v : Nat) (s : State) : State :=
  ((s.put HALF_HELD_ON q.num 1).put HALF_HELD_ADDR q.num a).put HALF_HELD_VAL q.num v

/-- A write of an upper half updates both halves: with the held lower half, or the lower half as it stands. -/
def writeUpper (q : Requester) (a : Nat) (r : RegInfo) (i v : Nat) (s : State) : State :=
  if s.flag HALF_HELD_ON q.num && s.get HALF_HELD_ADDR q.num == a then
    regWrite q a r i (v * 2 ^ 32 + s.get HALF_HELD_VAL q.num) (s.put HALF_HELD_ON q.num 0)
  else regWrite q a r i (v * 2 ^ 32 + s.standing i r.flds) s

/-! ### Accesses -/

/-- Word i of direction d of a Wicket. -/
def wktWord (a : Nat) : Option (Nat × Nat × Nat) :=
  let o := a % 0x1_0000
  if 0x40F1_0000 ≤ a ∧ a < 0x40F1_4000 ∧ o % 4 = 0 ∧ o % 0x80 < 0x40 then some (o / 0x100, o % 0x100 / 0x80, o % 0x80 / 4) else none

/-- An address lies in a register, a table word or a data word. -/
def taken (s : State) (a : Nat) : Bool :=
  (match regAt (a / 2 * 2) with
    | some (r, _) => r.width == 16
    | none => false) || (regAt (a / 4 * 4)).isSome ||
  (match regAt (a / 8 * 8) with
    | some (r, _) => r.width == 64
    | none => false) || (tableWord s (a / 4 * 4)).isSome || (wktWord (a / 4 * 4)).isSome

/-- What an access of `n` bytes at an address names (R4): a whole register, a half, table words, a data word, nothing (R5), or
it is malformed. -/
inductive Named where
  | whole (r : RegInfo) (i : Nat)
  | lower (r : RegInfo) (i : Nat)
  | upper (r : RegInfo) (i : Nat)
  | word
  | words
  | data (w d i : Nat)
  | nothing
  | bad
deriving DecidableEq, Repr

def named (s : State) (a n : Nat) : Named :=
  if !([1, 2, 4, 8].contains n) || a % n != 0 then .bad else
  match wktWord a, tableWord s (a / 4 * 4), regAt a with
  | some (w, d, i), _, _ => if n = 4 then .data w d i else .bad
  | none, some _, _ => if n = 4 then .word else if n = 8 then .words else .bad
  | none, none, some (r, i) =>
    if r.width = 8 * n then .whole r i else if r.width = 64 ∧ n = 4 then .lower r i else .bad
  | none, none, none =>
    match regAt (a - 4) with
    | some (r, i) =>
      if a % 8 = 4 ∧ r.width = 64 then (if n = 4 then .upper r i else .bad)
      else if (List.range n).any (fun k => taken s (a + k)) then .bad else .nothing
    | none => if (List.range n).any (fun k => taken s (a + k)) then .bad else .nothing

/-- A write of `n` bytes at an address of the region, by a requester that may make it. -/
def accessWrite (q : Requester) (a n v : Nat) (s : State) : State :=
  match named s a n with
  | .whole r i => regWrite q a r i v s
  | .lower r i => if barred q r i then s.refuse q a else writeLower q a v s
  | .upper r i => writeUpper q (a - 4) r i v s
  | .word => match tableWord s a with
    | some w => w.write v s
    | none => s
  | .words =>
    let s := match tableWord s a with
      | some w => w.write (v % 2 ^ 32) s
      | none => s
    match tableWord s (a + 4) with
    | some w => w.write (v / 2 ^ 32) s
    | none => s
  | .data w d i => wktDataWrite q w d i v s
  | .nothing => s
  | .bad => s.refuse q a 2

/-- A read of `n` bytes at an address of the region, by a requester that may make it; none for an error response. -/
def accessRead (q : Requester) (a n : Nat) (s : State) : Option Nat × State :=
  match named s a n with
  | .whole r i => (some (regValue r i s), regTaken r i 0 64 s)
  | .lower r i => let x := readLower q a r i s; (some x.1, x.2)
  | .upper r i => let x := readUpper q (a - 4) r i s; (some x.1, x.2)
  | .word => (some ((tableWord s a).map (fun w => w.value) |>.getD 0), s)
  | .words =>
    (some (((tableWord s a).map (fun w => w.value)).getD 0 + ((tableWord s (a + 4)).map (fun w => w.value)).getD 0 * 2 ^ 32), s)
  | .data w d i => (some (s.get WKT_DATA (32 * w + 16 * d + i)), s)
  | .nothing => (some 0, s)
  | .bad => (none, s.refuse q a 2)

/-- The rules of the register's own chapter say who may write it, in place of R168: the data and control words of the Wickets (14 R332), the streams' TAIL
and CTRL and the fault queues' ACK (13 R308, R318). -/
def ownRules (q : Requester) (a : Nat) : Bool :=
  (match q with
    | .course _ => true
    | _ => false) &&
  ((decide (0x40F1_2000 ≤ a) && decide (a < 0x40F1_4000) && decide (a % 0x80 < 0x44)) ||
    (decide (0x40E2_0000 ≤ a) && decide (a < 0x40E2_1000) && (a % 0x20 == 8 || a % 0x20 == 0xC)) ||
    (decide (0x40E1_0000 ≤ a) && decide (a < 0x40E1_1000) && a % 0x40 == 0x18))

/-- A write in the register region (R4, R22, R168, R381). -/
def busWrite (q : Requester) (a n v : Nat) (s : State) : State :=
  match s.permit q .registers a (!ownRules q a) with
  | .yes => accessWrite q a n v s
  | p => s.denied q a p

/-- A read in the register region. -/
def busRead (q : Requester) (a n : Nat) (s : State) : Option Nat × State :=
  match s.permit q .registers a false with
  | .yes => accessRead q a n s
  | p => (none, s.denied q a p)

/-! ### The host's own pages (01 R25, 14 R323 to R325)

The model numbers them above the device addresses (log entry 31): 2^40 + X is offset X of the physical function's BAR4, 2^41 + X
of the BAR0 of the virtual function that asks, 2^42 + 4096 f + X of function f's configuration space. -/

/-- Ring page r, offset o, of the register table. -/
def ringReg (r o : Nat) : Nat := 0x1000 * r + o

/-- A read by a requester that does not own the ring gives zero (R325). -/
def ringRead (q : Requester) (r o n : Nat) (s : State) : Option Nat × State :=
  if hostFunc q = some (ringFunc s r) then accessRead q (ringReg r o) n s else (some 0, s)

/-- A word of the MSI-X table entry of vector v as it reads. -/
def vecWord (s : State) (v w : Nat) : Nat :=
  match w with
  | 0 => s.get MSIX_ADDR v % 2 ^ 32
  | 1 => s.get MSIX_ADDR v / 2 ^ 32
  | 2 => s.get MSIX_DATA v
  | _ => s.get MSIX_MASK v

def vecWordWrite (v w x : Nat) (s : State) : State :=
  match w with
  | 0 => s.put MSIX_ADDR v (s.get MSIX_ADDR v / 2 ^ 32 * 2 ^ 32 + x % 2 ^ 32 / 4 * 4)
  | 1 => s.put MSIX_ADDR v (x % 2 ^ 32 * 2 ^ 32 + s.get MSIX_ADDR v % 2 ^ 32)
  | 2 => s.put MSIX_DATA v x
  | _ => vecMaskWrite v (bitOf x 0) s

/-- Vectors from `v0` on, 32 to a word, of the pending-bit array; those of other functions read zero. -/
def pendWord (s : State) (f v0 : Nat) : Nat :=
  ((List.range 32).filter (fun k => s.flag VEC_PEND (v0 + k) && vecOwner s (v0 + k) == f)).foldl (fun x k => x + 2 ^ k) 0

/-- What an offset of a function's own pages names: a ring page, a Wicket register, a word of its MSI-X table, a word of its
pending bits, nothing, or no assigned offset. -/
inductive HostSpot where
  | ring (r o : Nat)
  | wicket (a : Nat)
  | vec (v w : Nat)
  | pend (v0 : Nat)
  | nothing
  | none
deriving DecidableEq, Repr

/-- The physical function's BAR4 (01 R25); entries of VF-owned vectors read zero and ignore writes (14 R324). -/
def pfSpot (s : State) (x : Nat) : HostSpot :=
  if x < 0x2_0000 then .ring (x / 0x1000) (x % 0x1000)
  else if 0x8_0000 ≤ x ∧ x < 0x8_8000 then
    let v := x % 0x8000 / 16
    if vecOwner s v = 0 then .vec v (x % 16 / 4) else .nothing
  else if 0x9_0000 ≤ x ∧ x < 0x9_0100 then .pend (x % 0x100 / 4 * 32)
  else if x < 0x10_0000 then .nothing
  else .none

/-- The rings of a function, in ascending order. -/
def ringsOf (s : State) (f : Nat) : List Nat := (List.range 32).filter (fun r => ringFunc s r == f)

/-- A virtual function's BAR0 (14 R323); the entry of a vector that a lower function owns reads zero and ignores writes (R324). -/
def vfSpot (s : State) (f x : Nat) : HostSpot :=
  if x < 0x8000 then
    match ((ringsOf s f).take 8)[x / 0x1000]? with
    | some r => .ring r (x % 0x1000)
    | Option.none => .none
  else if x < 0xA000 then
    let w := 32 + x % 0x8000 / 0x100
    if wktSender s w 0 = 34 + f ∨ wktSender s w 1 = 34 + f then .wicket (wktAddr (x % 0x100) w) else .none
  else if x < 0xA800 then
    let k := x % 0x800 / 16
    let v := s.get HIF_VF_CFG_VEC_BASE f + k
    if k < min 128 (s.get HIF_VF_CFG_VEC_N f) then (if vecOwner s v = f then .vec v (x % 16 / 4) else .nothing) else .none
  else if 0xB000 ≤ x ∧ x < 0xB010 then .pend (s.get HIF_VF_CFG_VEC_BASE f + x % 16 / 4 * 32)
  else .none

/-- The page that an extended address names for a requester. -/
def hostSpot (s : State) (q : Requester) (a : Nat) : HostSpot :=
  match q with
  | .pf => if 2 ^ 40 ≤ a ∧ a < 2 ^ 41 then pfSpot s (a % 2 ^ 40) else .none
  | .vf f => if 2 ^ 41 ≤ a ∧ a < 2 ^ 42 ∧ f.val ≠ 0 then vfSpot s f (a % 2 ^ 41) else .none
  | _ => .none

/-- The words of a run of `n` bytes of an MSI-X table. -/
def vecSpan (n w : Nat) (x : Nat) : List (Nat × Nat) := if n = 8 then [(w, x % 2 ^ 32), (w + 1, x / 2 ^ 32)] else [(w, x)]

def hostFn (q : Requester) : Nat := (hostFunc q).getD 0

/-- A write of a host function to its own pages. -/
def pageWrite (q : Requester) (a n v : Nat) (s : State) : State :=
  if a % n ≠ 0 then s.refuse q a else
  match hostSpot s q a with
  | .ring r o => ringGate q r (accessWrite q (ringReg r o) n v) s
  | .wicket b => accessWrite q b n v s
  | .vec k w =>
    if n = 4 ∨ n = 8 then overList (fun (e : Nat × Nat) (t : State) => vecWordWrite k e.1 e.2 t) (vecSpan n w v) s
    else s.refuse q a
  | .pend _ => s
  | .nothing => s
  | .none => s.refuse q a

/-- A read of a host function from its own pages. -/
def pageRead (q : Requester) (a n : Nat) (s : State) : Option Nat × State :=
  if a % n ≠ 0 then (none, s.refuse q a) else
  match hostSpot s q a with
  | .ring r o => ringRead q r o n s
  | .wicket b => accessRead q b n s
  | .vec k w =>
    if n = 4 then (some (vecWord s k w), s)
    else if n = 8 then (some (vecWord s k w + vecWord s k (w + 1) * 2 ^ 32), s)
    else (none, s.refuse q a)
  | .pend v0 =>
    if n = 4 then (some (pendWord s (hostFn q) v0), s)
    else if n = 8 then (some (pendWord s (hostFn q) v0 + pendWord s (hostFn q) (v0 + 32) * 2 ^ 32), s)
    else (none, s.refuse q a)
  | .nothing => (some 0, s)
  | .none => (none, s.refuse q a)

/-! ### Configuration space (14 R320)

The words at which the registers stand are the model's; the fields of a word are those of PCI Express (log entry 31). -/

/-- Size of BAR k of a function, and whether it is prefetchable (01 R24, 14 R323); 0 for none. -/
def barSize (f k : Nat) : Nat :=
  if f = 0 then (if k < 2 then 0x400_0000 else if k = 2 then 0x10_0000 else 0)
  else if k = 0 then 0x1_0000 else if k = 1 then 0x40_0000 else 0

/-- A BAR as it reads: 64 bits, its address a multiple of its size. -/
def barWord (s : State) (f k : Nat) : Nat :=
  if barSize f k = 0 then 0 else s.get HIF_BAR (4 * f + k) / barSize f k * barSize f k + 4 + (if k = 1 then 8 else 0)

/-- The word at offset `o` of function f's configuration space. -/
def configWord (s : State) (f o : Nat) : Nat :=
  if 0x10 ≤ o ∧ o < 0x28 then barWord s f ((o - 0x10) / 8) / 2 ^ (8 * (o % 8)) % 2 ^ 32
  else match o with
  | 0x00 => Config.pciVendor.toNat + 2 ^ 16 * (if f = 0 then 0x9740 else 0x9741)
  | 0x08 => Config.pciRevision.toNat + 2 ^ 8 * 0x02_8000
  | 0x40 => 2 ^ 16 * (if f = 0 then 2047 else 127) + 2 ^ 30 * s.get MSIX_FMASK f + 2 ^ 31 * s.get MSIX_EN f
  | 0x48 => 3 * s.get FN_D3 f
  | 0x60 => s.get PCI_DEVCTL f
  | 0x64 => 5 + 2 ^ 4 * 8 + 2 ^ 11 + 2 ^ 16 * s.get PCI_LINK_SPEED 0 + 2 ^ 20 * s.get PCI_LINK_WIDTH 0
  | 0x68 => 0x1F + 2 ^ 16 * s.get PCI_DEVCTL2 f
  | 0x80 => if f = 0 then (if s.listed HIF_VF_ON = [] then 0 else 1) + 2 ^ 16 * 15 else 0
  | 0x90 => s.get PCI_AERCTL f + 0xA0
  | _ => 0

/-- Device control: Max Payload Size to 512 bytes, Max Read Request Size to 4,096; a larger code leaves the field. Bit 15 asks for a
function-level reset. -/
def deviceControl (f v : Nat) (s : State) : State :=
  let old := s.get PCI_DEVCTL f
  let mps := if bitsOf v 5 3 ≤ 2 then bitsOf v 5 3 else bitsOf old 5 3
  let mrrs := if bitsOf v 12 3 ≤ 5 then bitsOf v 12 3 else bitsOf old 12 3
  let s := s.put PCI_DEVCTL f (2 ^ 5 * mps + 2 ^ 12 * mrrs)
  if bitOf v 15 then functionReset f s else s

/-- Device control 2: the completion timeout's range, A to D or the default, and its disable bit; the 10-bit tag enable. -/
def deviceControl2 (f v : Nat) (s : State) : State :=
  let range := if [0, 1, 2, 5, 6, 9, 10, 13, 14].contains (v % 16) then v % 16 else s.get PCI_DEVCTL2 f % 16
  s.put PCI_DEVCTL2 f (range + v % 2 ^ 16 / 16 % 2 * 16 + bitsOf v 12 1 * 2 ^ 12)

/-- A write of the word at offset `o` of function f's configuration space. -/
def configPut (f o v : Nat) (s : State) : State :=
  if 0x10 ≤ o ∧ o < 0x28 then
    let k := 4 * f + (o - 0x10) / 8
    let old := s.get HIF_BAR k
    if o % 8 = 4 then s.put HIF_BAR k (v * 2 ^ 32 + old % 2 ^ 32) else s.put HIF_BAR k (old / 2 ^ 32 * 2 ^ 32 + v)
  else match o with
  | 0x40 => msixControl f (bitOf v 31) (bitOf v 30) s
  | 0x48 => if v % 4 = 3 then d3Enter f s else if v % 4 = 0 then d3Leave f s else s
  | 0x60 => deviceControl f v s
  | 0x68 => deviceControl2 f (v / 2 ^ 16) s
  | 0x80 => if f = 0 then overRange (fun g t => if g = 0 then t else t.putFlag HIF_VF_ON g (bitOf v 0)) 16 s else s
  | 0x90 => s.put PCI_AERCTL f (bitsOf v 6 1 * 2 ^ 6 + bitsOf v 8 1 * 2 ^ 8)
  | _ => s

/-- Bytes of the word at `w` with those of a run of `n` bytes `v` at `o` laid over them. -/
def wordOver (old w o n v : Nat) : Nat :=
  ofBytes ((List.range 4).map (fun i =>
    if o ≤ w + i ∧ w + i < o + n then BitVec.ofNat 8 (v / 2 ^ (8 * (w + i - o))) else BitVec.ofNat 8 (old / 2 ^ (8 * i))))

/-- The words that a run of `n` bytes at `o` touches. -/
def wordsOf (o n : Nat) : List Nat := if o / 4 = (o + n - 1) / 4 then [o / 4 * 4] else [o / 4 * 4, o / 4 * 4 + 4]

/-- A function is there: the physical one, or a virtual one with VF Enable set. -/
def fnThere (s : State) (f : Nat) : Bool := f == 0 || s.flag HIF_VF_ON f

/-- A configuration write to function f, a word at a time. -/
def configWrite (f o n v : Nat) (s : State) : State :=
  if !fnThere s f then s
  else overList (fun w t => configPut f w (wordOver (configWord t f w) w o n v) t) (wordsOf o n) s

/-- A configuration read of function f. -/
def configRead (s : State) (f o n : Nat) : Option Nat :=
  if !fnThere s f then none
  else some ((configWord s f (o / 4 * 4) + 2 ^ 32 * configWord s f (o / 4 * 4 + 4)) / 2 ^ (8 * (o % 4)) % 2 ^ (8 * n))

/-- The endpoint answers configuration requests: PERST_N is high, with a valid reference, for 20 ms (19 R435). -/
def configAnswers (s : State) : Bool :=
  !s.flag PERST_LOW 0 && s.flag CLK_STAT_PCIE_REF_OK 0 && decide (s.get CFG_AT 0 ≤ s.get CORE_COUNT 0)

/-- A write of a memory over the fabric, behind the requester's earlier ones (01 R10): of the Soundboard, of a Course's local memory,
of the control core's SRAM or of the scratchpad. The Ledger, the far bus and host memory are written by the cores' own commands. -/
def memWrite (q : Requester) (a n v : Nat) (s : State) : State :=
  let r := regionOf a
  match s.permit q r a true with
  | .yes =>
    if a % n ≠ 0 ∨ regionOf (a + n - 1) ≠ r then s.refuse q a else
    match r with
    | .soundboard => soundboardWrite (a - sbBase) (toBytes n v) (s.inOrder q)
    | .course _ => s.putSram a (toBytes n v)
    | .ccSram | .ccSecure | .scratchpad => s.putBytes a (toBytes n v)
    | _ => s.refuse q a
  | p => s.denied q a p

/-- A write at any address: of a register, of a memory, or of a host function's own pages and configuration. -/
def anyWrite (q : Requester) (a n v : Nat) (s : State) : State :=
  if a < 2 ^ 40 then
    (if regionOf a = .registers then busWrite q a n v s else memWrite q a n v s)
  else if a < 2 ^ 42 then pageWrite q a n v s
  else match hostFunc q with
    | some _ => if configAnswers s then configWrite (a % 2 ^ 42 / 4096 % 16) (a % 4096) n v s else s
    | none => s.refuse q a

/-- A read of a memory over the fabric: of the Soundboard, as a host makes through BAR2, of a Course's local memory, of the control
core's SRAM or of the scratchpad. What the error check finds is open; an uncorrectable error ends it with an error response (04
R80, 07 R158). The Ledger, the far bus and host memory are read by the cores' own commands. -/
def memRead (q : Requester) (a n : Nat) (s : State) : Option Nat × State :=
  let r := regionOf a
  match s.permit q r a false with
  | .yes =>
    if a % n ≠ 0 ∨ regionOf (a + n - 1) ≠ r then (none, s.refuse q a) else
    let e := freeEcc s.fresh
    match r with
    | .soundboard =>
      let t := eccSeen e (s.used.inOrder q)
      if e = .uncorr then (none, t.refuse q a 3) else (some (ofBytes (t.bytes a n)), t)
    | .course j =>
      let t := if e = .corr then s.used.sat CRS_STAT_ECC_CORR j else s.used
      if e = .uncorr then (none, t.refuse q a 3)
      else (some (ofBytes ((List.range n).map (fun i => s.sramByte (a + i)))), t)
    | .ccSram | .ccSecure | .scratchpad => (some (ofBytes (s.bytes a n)), s)
    | _ => (none, s.refuse q a)
  | p => (none, s.denied q a p)

/-- A read at any address, answered or refused. -/
def anyRead (q : Requester) (a n : Nat) (s : State) : State :=
  let x : Option Nat × State :=
    if a < 2 ^ 40 then
      (if regionOf a = .registers then busRead q a n s else memRead q a n s)
    else if a < 2 ^ 42 then pageRead q a n s
    else match hostFunc q with
      | some _ => (if configAnswers s then configRead s (a % 2 ^ 42 / 4096 % 16) (a % 4096) n else none, s)
      | none => (none, s.refuse q a)
  match x.1 with
  | some v => x.2.emit (.readData q a v)
  | none => x.2

/-! ### The commands' meanings -/

/-- REGISTER_WRITE (00 R6): a write of 2^size bytes. -/
def execRegisterWrite (q : Requester) (a : BitVec 43) (size : Fin 4) (v : BitVec 64) (s : State) : Result :=
  let n := 2 ^ size.val
  .next (anyWrite q a.toNat n (v.toNat % 2 ^ (8 * n)) s)

/-- READ_CLEAR (00 R6): a read of a whole register; a read at an address of a memory is answered as well (04 R80). -/
def execReadClear (q : Requester) (a : BitVec 43) (size : Fin 4) (s : State) : Result :=
  .next (anyRead q a.toNat (2 ^ size.val) s)

/-- LOWER_HALF_READ (00 R4): of the 64-bit register at `a`. -/
def execLowerHalfRead (q : Requester) (a : BitVec 43) (s : State) : Result := .next (anyRead q a.toNat 4 s)

/-- UPPER_HALF_READ (00 R4): of the 64-bit register at `a`. -/
def execUpperHalfRead (q : Requester) (a : BitVec 43) (s : State) : Result := .next (anyRead q (a.toNat + 4) 4 s)

/-- LOWER_HALF_WRITE (00 R4): of the 64-bit register at `a`. -/
def execLowerHalfWrite (q : Requester) (a : BitVec 43) (v : Word) (s : State) : Result := .next (anyWrite q a.toNat 4 v.toNat s)

/-- UPPER_HALF_WRITE (00 R4): of the 64-bit register at `a`. -/
def execUpperHalfWrite (q : Requester) (a : BitVec 43) (v : Word) (s : State) : Result :=
  .next (anyWrite q (a.toNat + 4) 4 v.toNat s)

/-- The lock bit that the register at an address holds, with its copy. -/
def lockAt (a : Nat) : Option (Fld × Nat) :=
  match regAt a, lockOf a with
  | some (r, i), some (L, _) => if r.flds.contains L then some (L, i) else none
  | _, _ => none

/-- LOCK_BIT_SET (00 R7): the lock bit of the register at `a` is set, its other fields left as they are. -/
def execLockBitSet (q : Requester) (a : Word) (s : State) : Result :=
  .next (match lockAt a.toNat with
    | some (L, i) => s.gate q a.toNat (fun t => t.put L i 1)
    | none => s)

end Sys2Proof.Machine
end

