-- ==== Sys2Proof/Machine/Flags.lean ====
section
/-! DEFINITION. Results and flags of the Praben arithmetic (08 R192, R193, R196, R205, R213): the ALU functions, the condition
field, products, and the CRCs of the block instruction. -/

namespace Sys2Proof.Machine

/-- A result with the carry and overflow flags it sets; none leaves the flag as it was (R192). -/
structure AluOut where
  r : Nat
  c : Option Bool
  v : Option Bool
deriving DecidableEq, Repr

/-- The sign bit of a word. -/
def neg32 (a : Nat) : Bool := bitOf a 31

/-- a + b + c with carry out and signed overflow. -/
def addOut (a b : Nat) (c : Bool) : AluOut :=
  let t := a + b + (if c then 1 else 0)
  let r := t % 2 ^ 32
  ⟨r, some (decide (2 ^ 32 ≤ t)), some (neg32 a == neg32 b && neg32 r != neg32 a)⟩

/-- a − b − (1 − c): the sum with the complement, whose carry 1 means no borrow. -/
def subOut (a b : Nat) (c : Bool) : AluOut := addOut a (2 ^ 32 - 1 - b % 2 ^ 32) c

/-- A result that sets N and Z alone. -/
def plain (r : Nat) : AluOut := ⟨r, none, none⟩

/-- a shifted left, right with zero fill, right with sign fill, rotated right (0 to 3), by 0 to 31. -/
def shiftOf (f a n : Nat) : AluOut :=
  match f with
  | 0 => ⟨a * 2 ^ n % 2 ^ 32, if n = 0 then none else some (bitOf a (32 - n)), none⟩
  | 1 => ⟨a / 2 ^ n, if n = 0 then none else some (bitOf a (n - 1)), none⟩
  | 2 => ⟨ofSigned 32 ((toSigned 32 a).fdiv (2 ^ n)), if n = 0 then none else some (bitOf a (n - 1)), none⟩
  | _ =>
    let r := (a / 2 ^ n + a * 2 ^ (32 - n)) % 2 ^ 32
    ⟨r, if n = 0 then none else some (neg32 r), none⟩

/-- The ALU functions of MAJ 0 on two words and the carry (R192). -/
def aluOf (fn a b : Nat) (c : Bool) : AluOut :=
  match fn with
  | 0 => addOut a b false
  | 1 => addOut a b c
  | 2 => subOut a b true
  | 3 => subOut a b c
  | 4 => plain (a &&& b)
  | 5 => plain (a ||| b)
  | 6 => plain (a ^^^ b)
  | 7 => plain (a &&& (2 ^ 32 - 1 - b % 2 ^ 32))
  | 8 => shiftOf 0 a (b % 32)
  | 9 => shiftOf 1 a (b % 32)
  | 10 => shiftOf 2 a (b % 32)
  | 11 => shiftOf 3 a (b % 32)
  | 12 => plain (if toSigned 32 a ≤ toSigned 32 b then a else b)
  | 13 => plain (if toSigned 32 a ≤ toSigned 32 b then b else a)
  | 14 => plain (min a b)
  | _ => plain (max a b)

/-- The functions of LOGI (R193) on a word and IMM11. -/
def logiOf (f a imm : Nat) : AluOut :=
  match f with
  | 0 => plain (a &&& imm)
  | 1 => plain (a ||| imm)
  | 2 => plain (a ^^^ imm)
  | _ => shiftOf (bitsOf imm 9 2) a (imm % 32)

/-- The condition field on the flags V, C, Z, N (R196). -/
def condHolds (cond : Nat) (v c z n : Bool) : Bool :=
  match cond with
  | 0 => true
  | 1 => false
  | 2 => z
  | 3 => !z
  | 4 => c
  | 5 => !c
  | 6 => n
  | 7 => !n
  | 8 => v
  | 9 => !v
  | 10 => c && !z
  | 11 => !c || z
  | 12 => n == v
  | 13 => n != v
  | 14 => !z && n == v
  | _ => z || n != v

/-- The 64-bit product: signed for MUL and MULH, unsigned for MULHU (R205). -/
def productOf (fn a b : Nat) : Nat :=
  if fn = 2 then a * b else ofSigned 64 (toSigned 32 a * toSigned 32 b)

/-! ### The CRCs of CRCB (R213) -/

/-- Eight steps of a reflected CRC, least significant bit first. -/
def reflSteps (poly : Nat) : Nat → Nat → Nat
  | 0, c => c
  | n + 1, c => reflSteps poly n (if c % 2 = 1 then (c / 2) ^^^ poly else c / 2)

/-- Eight steps of a CRC of `w` bits that is not reflected. -/
def msbSteps (w poly : Nat) : Nat → Nat → Nat
  | 0, c => c
  | n + 1, c => msbSteps w poly n (if bitOf c (w - 1) then (c * 2 % 2 ^ w) ^^^ poly else c * 2 % 2 ^ w)

/-- One byte folded into the raw CRC register. -/
def crcFold (sel c b : Nat) : Nat :=
  match sel with
  | 0 => reflSteps 0x82F6_3B78 8 (c ^^^ b)
  | 1 => reflSteps 0xEDB8_8320 8 (c ^^^ b)
  | 2 => msbSteps 16 0x1021 8 ((c % 2 ^ 16) ^^^ (b * 256))
  | _ => msbSteps 8 0x07 8 ((c % 2 ^ 8) ^^^ b)

/-- A run of bytes folded in. -/
def crcFolds (sel : Nat) : Nat → List Byte → Nat
  | c, [] => c
  | c, b :: bs => crcFolds sel (crcFold sel c b.toNat) bs

end Sys2Proof.Machine
end

