-- ==== Sys2Proof/Machine/Operands.lean ====
section
/-! DEFINITION. The instruction formats of Praben (08 R191 to R195, R202, R211, R217): the fields of a word, and which
instruction it is, or none where it is illegal. -/

namespace Sys2Proof.Machine

/-- The register fields. -/
def opRd (w : Nat) : Nat := bitsOf w 19 5
def opRa (w : Nat) : Nat := bitsOf w 14 5
def opRb (w : Nat) : Nat := bitsOf w 9 5
def opCond (w : Nat) : Nat := bitsOf w 28 4
def opFn (w : Nat) : Nat := bitsOf w 4 4
/-- RD of MFS, RA of MTS, RD of RDFEAT; REG of the bank instructions. -/
def opSys (w : Nat) : Nat := bitsOf w 15 5
def opReg (w : Nat) : Nat := bitsOf w 16 5

/-- A signed field. -/
def opSigned (w lo n : Nat) : Int := toSigned n (bitsOf w lo n)

/-- Bits of a word that must be zero. -/
def zeroBits (w lo n : Nat) : Bool := bitsOf w lo n == 0

/-- Which instruction a word is: MAJ × 16 + its function, sub-operation or OP (R191, R192, R193, R202, R205, R211, R217); none
for a reserved bit, MAJ 13 to 15, or an illegal sub-operation. -/
def kindOf (w : Nat) : Option Nat :=
  let ok (b : Bool) (k : Nat) : Option Nat := if b then some k else none
  match bitsOf w 24 4 with
  | 0 => ok (zeroBits w 0 4) (opFn w)
  | 1 => some 0x10
  | 2 => ok (bitsOf w 11 2 != 3 || zeroBits w 5 4) (0x20 + bitsOf w 11 2)
  | 3 => ok (zeroBits w 16 2) 0x30
  | 4 => ok (zeroBits w 0 4 && !bitOf w 8 && decide (opFn w < 3)) (0x40 + opFn w)
  | 5 => ok (bitsOf w 10 2 != 3) 0x50
  | 6 => ok (bitsOf w 10 2 != 3 && !bitOf w 9) 0x60
  | 7 => ok (zeroBits w 16 7) (0x70 + bitsOf w 23 1)
  | 8 => match bitsOf w 20 4 with
    | 0 => ok (!bitOf w 19 && zeroBits w 0 14) 0x80
    | 1 => some 0x81
    | 2 => ok (!bitOf w 19 && zeroBits w 0 14) 0x82
    | 3 => ok (zeroBits w 0 20) 0x83
    | 4 => ok (zeroBits w 0 20) 0x84
    | 5 => some 0x85
    | 6 => ok (zeroBits w 16 4) 0x86
    | _ => none
  | 9 => match bitsOf w 20 4 with
    | 0 => ok (zeroBits w 8 7) 0x90
    | 1 => ok (zeroBits w 8 7) 0x91
    | 2 => ok (zeroBits w 2 13) 0x92
    | 3 => ok (zeroBits w 0 20) 0x93
    | 4 => ok (zeroBits w 0 20) 0x94
    | _ => none
  | 10 => ok (zeroBits w 0 16) (0xA0 + bitsOf w 21 1)
  | 11 => match bitsOf w 3 2 with
    | 0 => ok (zeroBits w 0 3) 0xB0
    | 1 => ok (zeroBits w 0 3 && zeroBits w 7 2) 0xB1
    | 2 => ok (zeroBits w 0 3) 0xB2
    | _ => none
  | 12 => ok (zeroBits w 9 2) (0xC0 + bitsOf w 11 1)
  | _ => none

/-- The size in bytes of a load or store (R194). -/
def opSize (w : Nat) : Nat := 2 ^ bitsOf w 10 2

/-- A short address: base plus scaled displacement, modulo 2^16 (R189). -/
def shortAddr (base : Nat) (disp : Int) : Nat := (((base : Nat) : Int) + disp) % 65536 |>.toNat

/-- A loaded value, extended to a word (R194). -/
def extend (n : Nat) (zero : Bool) (v : Nat) : Nat := if zero then v else ofSigned 32 (toSigned (8 * n) v)

/-- The control transfers with a delay slot (R204). -/
def isTransfer (kind : Nat) : Bool := [0x70, 0x71, 0x80, 0x81, 0x82, 0x83, 0x85].contains kind

/-- What may not stand in a delay slot (R204). -/
def slotIllegal (kind : Nat) : Bool := isTransfer kind || [0x84, 0x86, 0x93].contains kind

end Sys2Proof.Machine
end

