-- ==== Sys2Proof/Machine/CoreBus.lean ====
section
/-! DEFINITION. The accesses of the Praben cores to memory (08 R189, R190, R199, R206, R209; 07 R157 to R160, R168, R185; 15
R344 to R348): the memory a core executes from, its rights, one access, and runs of accesses. -/

namespace Sys2Proof.Machine

/-! ### The core as a requester and the memory it executes from -/

def coreReq (k : Nat) : Requester :=
  if h : k < 32 then .course ⟨k, h⟩ else if k = 32 then .cc else .pcs

/-- The own-Course alias resolves to the Course's own memory (01 R20). -/
def ownAddr (k a : Nat) : Nat := if k < 32 ∧ regionOf a = .own then k * 0x8_0000 + a % 0x8_0000 else a

/-- The size of the memory a core executes from (R190, R219; 17 R379). -/
def execSize (k : Nat) : Nat := if k < 32 then 0x8_0000 else if k = 32 then 0x10_0000 else 0x4_0000

/-- A byte of it. In recovery mode the boot ROM stands in the control core's secure page (17 R382); the first 32 KiB of the
Portcullis core's memory are its ROM (17 R379). -/
def execByte (s : State) (k off : Nat) : Byte :=
  if k < 32 then s.sramByte (k * 0x8_0000 + off)
  else if k = 32 then
    (if coreRm s 32 && decide (0xC_0000 ≤ off) then Config.romByte 32 off else s.byte (0x800_0000 + off))
  else if off < 0x8000 then Config.romByte 33 off
  else s.sramByte (pcsMemBase + off)

def execWord (s : State) (k off : Nat) : Nat := ofBytes ((List.range 4).map (fun i => execByte s k (off + i)))

/-- The device address of an offset of that memory; the Portcullis core's lies outside the map. -/
def execAddr (k off : Nat) : Nat := if k < 32 then k * 0x8_0000 + off else if k = 32 then 0x800_0000 + off else off

/-! ### What an access gives -/

/-- An access of a core answers, faults with a cause (R209) at a device address, or waits. -/
inductive Got where
  | ok (bs : List Byte)
  | fault (cause addr : Nat)
  | wait
deriving DecidableEq, Repr

/-- The KIND of the error response that a requester got between two states, 0 for none. -/
def errorOf (q : Requester) (s t : State) : Nat :=
  ((t.out.drop s.out.length).findSome? (fun o => match o with
    | .errorResponse p _ kind => if p = q then some kind else none
    | _ => none)).getD 0

/-- The access of a core is answered with an error. -/
def coreError (k a cause : Nat) (s : State) : Got × State := (.fault cause a, s.refuse (coreReq k) a cause)

/-- An access whose target answered, or gave an error. -/
def judged (k a : Nat) (bs : List Byte) (s t : State) : Got × State :=
  (if errorOf (coreReq k) s t = 0 then .ok bs else .fault (errorOf (coreReq k) s t) a, t)

/-- The core waits for an uncached access of its own (07 R160). -/
def coreStalls (k : Nat) (s : State) : Got × State := (.wait, s.put CORE_STALL k 1)

/-- A cacheable access, or a store that finds no room, freezes the core's pipeline: the instruction issues again (07 R159, R160). -/
def coreFreezes (k : Nat) (s : State) : Got × State := (.wait, s.put CORE_FREEZE k 1)

/-! ### The L1 data cache (07 R182; 03 R61) -/

/-- The core's L1 holds a line so that it may be read, or written. -/
def l1Has (s : State) (k line : Nat) (write : Bool) : Bool :=
  if write then (match s.dirEntry line with
    | some e => e.owner == some k
    | none => false)
  else (s.holdersOf line).contains k

/-- A Soundboard access of a core: its L1 holds the line as the access needs it, or asks the directory for it and the core waits for
the grant (07 R182). The Portcullis core has no L1, and a store into the line image needs no ownership, as no L1 holds such a line
dirty (03 R61). -/
def lineReady (k c : Nat) (write : Bool) (s : State) : Got × State :=
  let line := c / 64
  if 32 < k ∨ (write && s.imageLine line) = true ∨ l1Has s k line write = true then (.ok [], s)
  else
    let kind : DirKind := if !write then .rd else if l1Has s k line false then .upg else .own
    let t := dirRequest line [(k, kind)] s
    if l1Has t k line write then (.ok [], t) else coreFreezes k t

/-! ### Translated host space (01 R21; 07 R185; 13 R311) -/

/-- The core's translation is on; its context; the device-virtual address of a device address. -/
def hostOn (s : State) (k : Nat) : Bool := if k < 32 then s.flag CRS_XLT_EN k else s.flag XLT_CFG_CC_EN 0
def coreCtx (s : State) (k : Nat) : Nat := if k < 32 then s.get CRS_XLT_CTX k else s.get XLT_CFG_CC_CTX 0
def coreVa (s : State) (k a : Nat) : Nat := (s.get XLT_CTX_CFG_WIN (coreCtx s k) * 2 ^ 39 + a % 2 ^ 39) % 2 ^ 48

/-- The translation of an access is there, has failed, or is asked for. -/
def hostReady (k a : Nat) (write : Bool) (s : State) : Got × State :=
  let ctx := coreCtx s k
  let va := coreVa s k a
  let x : Waiter := ⟨k, write, va⟩
  match xltFaultOf s k with
  | some f =>
    let s := xltFaultTaken f s
    if f.who.write = write ∧ f.who.va / 4096 = va / 4096 then coreError k a 4 (xltRecord f 0 s)
    else coreStalls k (xltAsk x ctx s)
  | none =>
    if (xltHit s ctx va write).isSome then (.ok [], s) else coreStalls k (xltAsk x ctx s)

/-! ### The Transom (15 R340, R344, R345) -/

/-- A read of the core, or the write of its STX, is under way. -/
def trbPending (s : State) (k : Nat) : Bool :=
  (s.trbNow.toList ++ s.trbQueue ++ s.trbWait).any (fun x => x.req == k && !x.posted)

/-- A Transom read has its reply, or is under way; a Transom write finds room. -/
def trbReady (k a n : Nat) (write lock : Bool) (s : State) : Got × State :=
  if trbRefused s a then coreError k a 2 (trbRecord k (a % 2 ^ 32) 1 write s)
  else if write then (if trbRoom s 1 then (.ok [], s) else coreStalls k s)
  else if (trbReply s k a).isSome then (.ok [], s)
  else if trbPending s k then coreStalls k s
  else coreStalls k (trbRead k none a n lock s)

/-! ### One access -/

/-- Rights, power, translation and replies of an access of n bytes at a device address, before it is performed. -/
def coreReady (k a n : Nat) (write lock : Bool) (s : State) : Got × State :=
  let q := coreReq k
  let c := ownAddr k a
  let r := regionOf c
  if r = .unmapped ∨ r = .own ∨ s.powered r c = false then coreError k a 2 s
  else if r.listed = .ledger then
    if write then
      (if ldgWhyNot (some q) (c - ldgBase) s = 0 then (.ok [], s) else judged k a [] s (ldgStore q (c - ldgBase) [] s))
    else (.ok [], s)
  else if r = .hostSpace ∧ k ≤ 32 ∧ hostOn s k = false then coreError k a 2 s
  else match s.permit q r c (write && !ownRules q c) with
    | .yes =>
      if r = .transom then trbReady k c n write lock s
      else if r = .hostSpace then hostReady k c write s
      else if r = .soundboard then lineReady k c write s
      else (.ok [], s)
    | p => (.fault 1 a, s.denied q a p)

/-- What the error check of a memory found (04 R80, 07 R158): a corrected error is counted, another ends the read. -/
def eccRead (k a c : Nat) (e : Ecc) (bs : List Byte) (s : State) : Got × State :=
  let s := match regionOf c with
    | .course j => if e = .corr then s.sat CRS_STAT_ECC_CORR j else s
    | .soundboard => eccSeen e s
    | _ => s
  if e = .uncorr then coreError k a 3 s else (.ok bs, s)

/-- The core's own stores that are still in its write-through buffer show in what it reads (03 R61, 01 R10). -/
def wtbOver (s : State) (k x : Nat) (b : Byte) : Byte :=
  (s.wtb.filter (fun l => l.who = k && decide (l.addr ≤ x) && decide (x < l.addr + l.bytes.length))).foldl
    (fun _ l => l.bytes.getD (x - l.addr) 0) b

/-- A byte that one of the core's own stores has written less than 3 instructions ago reads as before (R199). -/
def oldOver (s : State) (k x : Nat) (b : Byte) : Byte :=
  ((s.flights.findSome? (fun f => match f.dst with
    | .old at' bs => if f.core = k ∧ at' ≤ x ∧ x < at' + bs.length then bs[x - at']? else none
    | _ => none))).getD b

/-- The bytes of a memory as the core sees them. -/
def memBytes (s : State) (k c n : Nat) : List Byte :=
  (List.range n).map (fun i =>
    let x := c + i
    match regionOf x with
    | .course _ => s.sramByte x
    | .ccSram | .ccSecure => execByte s 32 (x % 0x80_0000)
    | .soundboard => wtbOver s k x (s.byte x)
    | _ => s.byte x)

/-- Bytes from an address on as the core's loads see them: its latest stores not yet (R199). -/
def oldOvers (s : State) (k c : Nat) (bs : List Byte) : List Byte :=
  (bs.zip (List.range bs.length)).map (fun e => oldOver s k (c + e.2) e.1)

/-- The memory contents as the core's loads see them. -/
def seenBytes (s : State) (k c n : Nat) : List Byte := oldOvers s k c (memBytes s k c n)

/-- A read of n bytes that is ready; `host` is what host memory answers for it. -/
def coreTake (k a n : Nat) (m : Meets) (s : State) : Got × State :=
  let q := coreReq k
  let c := ownAddr k a
  match regionOf c with
  | .ledger | .ledgerSecure =>
    let x := ldgLoad q (c - ldgBase) n m.ledger s
    judged k a (oldOvers s k c x.2.1) s x.2.2
  | .registers =>
    let x := busRead q c n s
    judged k a (oldOvers s k c (toBytes n (x.1.getD 0))) s x.2
  | .transom =>
    match trbReply s k c with
    | some r => if r.error then coreError k a 2 (trbReplyTaken r s) else (.ok r.bytes, trbReplyTaken r s)
    | none => (.wait, s)
  | .hostSpace =>
    let ctx := coreCtx s k
    let va := coreVa s k c
    match xltHit s ctx va false with
    | none => (.wait, s)
    | some e =>
      let s := (tlbUse e s).emit (.pcieRead (ctxFunc s ctx) (ctxPasid s ctx) (e.phys va) n)
      match m.host with
      | some bs => (.ok (bs.take n ++ List.replicate (n - bs.length) 0), s)
      | none => coreError k a 2 s
  | _ => eccRead k a c m.ecc (seenBytes s k c n) s

/-- A store of core k that does not write through, after the stores still in its buffer (01 R10): its own L1 keeps the line, one that
it owns now Modified, unless it lies in the line image (07 R182, R184); its own reservation stays (08 R218). -/
def ownStore (k c : Nat) (bs : List Byte) (s : State) : State :=
  let t := State.keepL1 k (soundboardWrite (c - sbBase) bs) (drainThrough k s)
  match t.dirEntry (c / 64) with
  | some e => if e.owner = some k then putDir { e with dirty := !t.imageLine (c / 64) } t else t
  | none => t

/-- A Course's store into the line image enters its write-through buffer (03 R61). -/
def writesThrough (s : State) (k c : Nat) : Bool :=
  decide (k < 32) && regionOf c == .soundboard && (s.inHalf 0 (c - sbBase) || s.inHalf 1 (c - sbBase))

/-- A write that is ready and finds room. -/
def corePut (k a : Nat) (bs : List Byte) (s : State) : Got × State :=
  let q := coreReq k
  let c := ownAddr k a
  match regionOf c with
  | .course _ => (.ok [], s.keepResv k (fun t => t.putSram c bs))
  | .soundboard =>
    if writesThrough s k c then (.ok [], { s with wtb := s.wtb ++ [⟨k, c, bs⟩] }) else (.ok [], ownStore k c bs s)
  | .ledger | .ledgerSecure => judged k a [] s (ldgStore q (c - ldgBase) bs s)
  | .registers => judged k a [] s (busWrite q c bs.length (ofBytes bs) s)
  | .transom => (.ok [], trbWrite k c bs s)
  | .hostSpace =>
    let ctx := coreCtx s k
    let va := coreVa s k c
    match xltHit s ctx va true with
    | none => (.wait, s)
    | some e => (.ok [], (tlbUse e s).emit (.pcieWrite (ctxFunc s ctx) (ctxPasid s ctx) (e.phys va) bs))
  | _ => (.ok [], s.putBytes c bs)

/-! ### Runs of accesses: device addresses with lengths -/

/-- Every access of a run is ready. -/
def readyAll (k : Nat) (write : Bool) : List (Nat × Nat) → State → Got × State
  | [], s => (.ok [], s)
  | (a, n) :: r, s => match coreReady k a n write false s with
    | (.ok _, t) => readyAll k write r t
    | x => x

/-- The buffers have room for the writes of a run: the write-through buffer's 8 entries (03 R61), the Transom's write queue (15
R344). -/
def roomAll (k : Nat) (as : List (Nat × Nat)) (s : State) : Bool :=
  let cs := as.map (fun e => ownAddr k e.1)
  let lines := (cs.filter (fun c => writesThrough s k c)).length
  let far := (cs.filter (fun c => regionOf c == .transom)).length
  (lines == 0 || decide ((s.wtb.filter (fun l => l.who = k)).length + lines ≤ 8)) && (far == 0 || trbRoom s far)

/-- A run of writes waits for room; at the Transom it is an uncached access that waits. -/
def noRoom (k : Nat) (as : List (Nat × Nat)) (s : State) : Got × State :=
  if as.any (fun e => regionOf (ownAddr k e.1) == .transom) then coreStalls k s else coreFreezes k s

/-- The reads of a run, one after another. -/
def readAll (k : Nat) (m : Meets) : List (Nat × Nat) → State → Got × State
  | [], s => (.ok [], s)
  | (a, n) :: r, s => match coreTake k a n m s with
    | (.ok bs, t) => match readAll k { m with host := m.host.map (fun h => h.drop n) } r t with
      | (.ok cs, u) => (.ok (bs ++ cs), u)
      | x => x
    | x => x

/-- The writes of a run, one after another; an error leaves those before it done. -/
def writeAll (k : Nat) : List (Nat × Nat) → List Byte → State → Got × State
  | [], _, s => (.ok [], s)
  | (a, n) :: r, bs, s => match corePut k a (bs.take n) s with
    | (.ok _, t) => writeAll k r (bs.drop n) t
    | x => x

/-- A read of a run: ready first, then performed. -/
def coreLoad (k : Nat) (m : Meets) (as : List (Nat × Nat)) (s : State) : Got × State :=
  match readyAll k false as s with
  | (.ok _, t) => readAll k m as t
  | x => x

/-- A write of a run: ready first, with room, then performed. -/
def coreSave (k : Nat) (as : List (Nat × Nat)) (bs : List Byte) (s : State) : Got × State :=
  match readyAll k true as s with
  | (.ok _, t) =>
    if roomAll k as t then writeAll k as bs t else noRoom k as t
  | x => x

/-- The aligned 8-byte units that n bytes from a short address of a bank touch (R189, R215). -/
def pieces (bank : Nat) : Nat → Nat → Nat → List (Nat × Nat)
  | 0, _, _ => []
  | fuel + 1, short, n =>
    if n = 0 then [] else
    let x := short % 65536
    let m := min n (8 - x % 8)
    (bank * 65536 + x, m) :: pieces bank fuel (x + m) (n - m)

end Sys2Proof.Machine
end

