-- ==== Sys2Proof/Machine/Praben.lean ====
section
/-! DEFINITION. The Praben cores (08): registers and results in flight, entry, faults, frames, and how an instruction issues
and ends. The instructions' meanings stand in Machine/Instructions.lean. -/

namespace Sys2Proof.Machine

/-! ### Registers (R186 to R188) -/

/-- General register r: g0 reads as zero, and writes to it are discarded. -/
def State.gReg (s : State) (k r : Nat) : Nat := if r = 0 then 0 else s.get CORE_G (32 * k + r)
def setG (k r v : Nat) (s : State) : State := if r = 0 then s else s.put CORE_G (32 * k + r) v
def State.bReg (s : State) (k b : Nat) : Nat := s.get CORE_B (4 * k + b)

/-- SR.SEC is 1 exactly while CP = 3, on the control core alone (17 R382). -/
def coreSec (s : State) (k : Nat) : Bool := k == 32 && s.get CORE_CP k == 3

/-- SR (R186). -/
def State.srWord (s : State) (k : Nat) : Nat :=
  s.get CORE_V k + 2 * s.get CORE_C k + 4 * s.get CORE_Z k + 8 * s.get CORE_N k + 16 * s.get CORE_CP k +
    256 * s.get CORE_LVL k + 1024 * s.get CORE_IEN k + 2048 * s.get CORE_IEU k + 4096 * s.get CORE_FLT k +
    16384 * s.get CORE_MDBUSY k + (if coreRm s k then 32768 else 0) + (if coreSec s k then 65536 else 0)

/-- PC in [15:0], CP in [19:16]. -/
def State.pcWord (s : State) (k : Nat) : Nat := s.get CORE_PC k + 65536 * s.get CORE_CP k
/-- The address n instructions on in the code page (R190). -/
def State.pcPlus (s : State) (k n : Nat) : Nat := (s.get CORE_PC k + n) % 65536 + 65536 * s.get CORE_CP k
def setPcWord (k v : Nat) (s : State) : State := (s.put CORE_PC k v).put CORE_CP k (v / 65536)

/-- The flags of a mask, as SR numbers them, from a value. -/
def setFlags (k mask v : Nat) (s : State) : State :=
  let one (b : Nat) (F : Fld) (s : State) : State := if bitOf mask b then s.put F k (bitsOf v b 1) else s
  one 3 CORE_N (one 2 CORE_Z (one 1 CORE_C (one 0 CORE_V s)))

/-- What MTS writes (R187, R188). -/
def setSpecial (k i v : Nat) (s : State) : State :=
  match i with
  | 0 => ((setFlags k 15 v s).put CORE_IEN k (bitsOf v 10 1)).put CORE_IEU k (bitsOf v 11 1)
  | 1 => s.put CORE_VBASE k v
  | 8 => s.put CORE_SLIM k v
  | 9 => s.put CORE_CRCP k v
  | 10 => s.put CORE_SMASK k v
  | _ => s

/-- A special register as MFS reads it (R188); none for an index that is not listed. -/
def State.special (s : State) (k i : Nat) : Option Nat :=
  match i with
  | 0 => some (s.srWord k)
  | 1 => some (s.get CORE_VBASE k)
  | 2 => some (s.get CORE_FCAUSE k)
  | 3 => some (s.get CORE_FADDR k % 2 ^ 32)
  | 4 => some (s.get CORE_FADDR k / 2 ^ 32)
  | 5 => some (s.get CORE_MD k % 2 ^ 32)
  | 6 => some (s.get CORE_MD k / 2 ^ 32)
  | 7 => some ((s.get CORE_COUNT 0 - s.get CORE_CYC0 k) % 2 ^ 32)
  | 8 => some (s.get CORE_SLIM k)
  | 9 => some (s.get CORE_CRCP k)
  | 10 => some (s.get CORE_SMASK k)
  | _ => none

/-- The words of RDFEAT (R219). -/
def featWord (s : State) (k n : Nat) : Nat :=
  let rm := if coreRm s k then 1 else 0
  let l1 := if k ≤ 32 then 1 else 0
  match n with
  | 0 => 1 + 32 * 2 ^ 8 + 2 ^ 14 + l1 * 2 ^ 15 + (1 - rm) * 2 ^ 16 + rm * 2 ^ 17
  | 1 => k + 64 * 2 ^ 8 + 64 * 2 ^ 16
  | 2 => execSize k / 1024 + 32 * l1 * 2 ^ 16
  | _ => 3 + 3 * 2 ^ 4 + 18 * 2 ^ 8 + 2 ^ 16 + 12 * 2 ^ 20

/-! ### Results in flight (R197 to R199) -/

/-- A result lands. -/
def landFlight (f : Flight) (s : State) : State :=
  match f.dst with
  | .g r => setG f.core r f.value s
  | .b b => s.put CORE_B (4 * f.core + b) f.value
  | .flags mask => setFlags f.core mask f.value s
  | .product => s.put CORE_MD f.core f.value
  | .special i => setSpecial f.core i f.value s
  | .old _ _ => s

/-- A result that an instruction leaves: where it lands, its distance d, its value. -/
abbrev Left := FlightDst × Nat × Nat

/-- An instruction of core k ends: the results at their distance land, those issued later last (R198). -/
def landDue (k : Nat) (fl : List Left) (s : State) : State :=
  let all := s.flights ++ fl.map (fun x => (⟨k, x.2.1, x.1, x.2.2⟩ : Flight))
  let all := all.map (fun f => if f.core = k then { f with left := f.left - 1 } else f)
  let s : State := { s with flights := all.filter (fun f => !(f.core == k && f.left == 0)) }
  overList landFlight (all.filter (fun f => f.core == k && f.left == 0)) s

/-- Entry lets every result in flight land (R200). -/
def landAll (k : Nat) (s : State) : State :=
  overList landFlight (s.flights.filter (fun f => f.core = k)) { s with flights := s.flights.filter (fun f => f.core ≠ k) }

/-- The iterative multiply lands 18 core clock cycles after its issue (R205). -/
def mulLand (k : Nat) (s : State) : State :=
  if s.flag CORE_MDBUSY k && decide (s.get CORE_MD_AT k ≤ s.get CORE_COUNT 0) then
    (s.put CORE_MD k (s.get CORE_MD_NEXT k)).put CORE_MDBUSY k 0
  else s

/-! ### Inputs (R210; 07 R169, R170; 13 R301) -/

/-- Inputs that are pending with their enable set; those of them at level URGENT. The control core and the Portcullis core have
no enables and no levels: all act, at NORMAL. -/
def coreInputs (s : State) (k : Nat) : Nat :=
  if k < 32 then s.get CRS_EVT_PEND_PEND k &&& s.get CRS_EVT_EN_EN k else s.get CC_PEND (k - 32)
def urgentInputs (s : State) (k : Nat) : Nat := if k < 32 then coreInputs s k &&& s.get CRS_EVT_LVL_URGENT k else 0

def lowestInput (v : Nat) : Nat := ((List.range 64).find? (fun i => bitOf v i)).getD 0

/-- The input that may be taken, with the level of its handler (R210.3). -/
def entryInput (s : State) (k : Nat) : Option (Nat × Nat) :=
  let u := urgentInputs s k
  let n := coreInputs s k - u
  if u ≠ 0 ∧ s.flag CORE_IEU k = true ∧ s.get CORE_LVL k < 2 then some (lowestInput u, 2)
  else if n ≠ 0 ∧ s.flag CORE_IEN k = true ∧ s.get CORE_LVL k ≤ 1 then some (lowestInput n, 1)
  else none

def inputTaken (k i : Nat) (s : State) : State :=
  if k < 32 then s.putBit CRS_EVT_PEND_PEND k i false else s.putBit CC_PEND (k - 32) i false

/-- A core that executes: a Course in RUN (07 R161), the control core out of reset (19 R435), the Portcullis core while it boots
or is ready (17 R399). -/
def coreRuns (s : State) (k : Nat) : Bool :=
  if k < 32 then s.get CRS_STAT_STATE k == crsRun
  else if k = 32 then bootStage s != stageReset
  else s.domOn domPortcullis && (s.get PCS_STAT_STATE 0 == pcsBooting || s.get PCS_STAT_STATE 0 == pcsReady)

/-- A non-posted write of the core waits for its quota at the Ledger (16 R358). -/
def coreHeld (s : State) (k : Nat) : Bool := s.ldgWait.any (fun w => w.who == some (coreReq k))

/-- No entry before this instruction or element: it stands in a delay slot (R204), is the first element of a block instruction that
has been set up (R210.3, R216), waits for an uncached access (07 R160), or has faulted already (R210). A first element that is
frozen is abandoned at entry (R215), but in a delay slot, where nothing enters before an element has run. -/
def noEntry (s : State) (k : Nat) : Bool :=
  (if s.flag CORE_BLOCK k then s.flag CORE_SETUP k && (s.flag CORE_SLOT k || !s.flag CORE_FREEZE k) else s.flag CORE_SLOT k) ||
    s.flag CORE_STALL k || coreHeld s k || s.get CORE_FP k != 0

/-- The core's next instruction, or with `blk` its next element, may issue. -/
def mayIssue (s : State) (k : Nat) (blk : Bool) : Bool :=
  coreRuns s k && s.flag CORE_BLOCK k == blk && !coreHeld s k && (!s.flag CORE_WAIT k || coreInputs s k != 0) &&
    (noEntry s k || (entryInput s k).isNone)

/-! ### Frames and entry (R206 to R210) -/

/-- The device addresses of n words from the stack pointer in bank b3, at g31 and up. -/
def stackWords (s : State) (k g n : Nat) : List (Nat × Nat) :=
  (List.range n).map (fun i => (s.bReg k 3 * 65536 + (g + 4 * i) % 65536, 4))

/-- The stack pointer n words down. -/
def pushedG (s : State) (k n : Nat) : Nat := (s.gReg k 31 + 2 ^ 32 - 4 * n) % 2 ^ 32

/-- The pushes of a frame, word 0 the last (R206, R208). A frame is stored whole or not at all (R210.1). Each push decrements g31
before it stores, so a misaligned one faults at the address below. -/
def pushFrame (k : Nat) (ws : List Nat) (s : State) : Got × State :=
  let g := pushedG s k ws.length
  let as := stackWords s k g ws.length
  let lim := s.get CORE_SLIM k
  if s.gReg k 31 % 4 ≠ 0 then (.fault 5 (s.bReg k 3 * 65536 + pushedG s k 1 % 65536), s)
  else if lim ≠ 0 ∧ as.any (fun e => decide (e.1 % 65536 < lim)) = true then (.fault 7 0, s)
  else coreSave k as.reverse (ws.reverse.flatMap (fun w => toBytes 4 w)) s

/-- The pops of a frame of n words. -/
def popFrame (k n : Nat) (m : Meets) (s : State) : Got × State :=
  if s.gReg k 31 % 4 ≠ 0 then (.fault 5 (s.bReg k 3 * 65536 + s.gReg k 31 % 65536), s)
  else coreLoad k m (stackWords s k (s.gReg k 31) n) s

/-- Word i of a popped frame. -/
def frameWord (bs : List Byte) (i : Nat) : Nat := ofBytes ((bs.drop (4 * i)).take 4)

/-- The six words of R208. -/
def entryFrame (s : State) (k resume : Nat) : List Nat :=
  let sr := s.srWord k % 65536 + (if s.flag CORE_SLOT k then 8192 else 0)
  [resume % 65536 + sr * 65536, s.bReg k 0, s.bReg k 1, s.bReg k 2, s.bReg k 3,
    if s.flag CORE_SLOT k then s.get CORE_SLOT_TO k else 0]

/-- What the error check of a core's own memory leaves (07 R158): a corrected error is counted, another recorded. -/
def fetchEcc (k off : Nat) (e : Ecc) (s : State) : State :=
  if 32 ≤ k then s else
  match e with
  | .corr => s.sat CRS_STAT_ECC_CORR k
  | .uncorr => s.courseFault k 3 (execAddr k off)
  | _ => s

/-- The offset of a word of the vector table (R209): at VBASE, or in the secure page while SEC = 1 (17 R382). -/
def vectorOff (s : State) (k i : Nat) : Nat :=
  if coreSec s k then 0xC_0000 + s.get PCS_CC_GATE_SVBASE 0 * 512 % 0x4_0000 + 4 * i
  else s.get CORE_VBASE k / 512 * 512 + 4 * i
def vectorWord (s : State) (k i : Nat) : Nat :=
  if vectorOff s k i + 4 ≤ execSize k then execWord s k (vectorOff s k i) else 0

/-- The read of a vector word, checked (07 R158): none where it is uncorrectable. -/
def vectorRead (k i : Nat) (vec : Ecc) (s : State) : Option Nat × State :=
  if execSize k < vectorOff s k i + 4 then (some 0, s)
  else (if vec = .uncorr then none else some (vectorWord s k i), fetchEcc k (vectorOff s k i) vec s)

/-- What any entry leaves: the stack pointer, no reservation, the handler's PC and CP. -/
def entered (k vector : Nat) (s : State) : State :=
  let s := resvLost k (setG k 31 (pushedG s k 6) s)
  let s := (((s.put CORE_SLOT k 0).put CORE_BLOCK k 0).put CORE_WAIT k 0).put CORE_FREEZE k 0
  setPcWord k vector s

/-- A fatal fault (R210.6; 19 R433; 17 R399): a Course halts, the control core takes the fatal-fault path, the Portcullis core
restarts from its ROM. -/
def coreFatal (k cause : Nat) (s : State) : State :=
  let s := s.put CORE_BLOCK k 0
  if k < 32 then courseHalt k 1 s
  else if k = 32 then fatalPath cause (s.get CORE_PC k) (s.get CORE_CP k) s
  else
    let s := pcsFatal cause s
    if s.get PCS_STAT_STATE 0 = pcsFatalState then s
    else
      let cyc := s.get CORE_CYC0 k
      (coreReset k s).put CORE_CYC0 k cyc

/-- FCAUSE and FADDR (R209): the address of causes 1 to 4 and 9, and of ALIGN on a data access. -/
def faultCause (k cause code : Nat) (addr : Option Nat) (s : State) : State :=
  let s := s.put CORE_FCAUSE k (cause + 65536 * code)
  match addr with
  | some a => s.put CORE_FADDR k a
  | none => s

/-- A fault whose frame cannot be pushed yet is held: the core enters it, and does nothing else, once it can (R210). -/
def faultHeld (k cause code : Nat) (addr : Option Nat) (s : State) : State :=
  ((s.put CORE_FP k cause).put CORE_FP_CODE k code).put CORE_FP_AT k (match addr with
    | some a => a % 2 ^ 40 + 1
    | none => 0)

/-- An entry whose vector word is uncorrectable (07 R158): that ECC fault of the entry is fatal (R210.6; DEDUCED, log entry 194). -/
def vectorLost (k i : Nat) (s : State) : State := coreFatal k 3 (faultCause k 3 0 (some (execAddr k (vectorOff s k i))) s)

/-- Fault entry (R209, R210); a TRAP resumes after itself. -/
def faultEntry (k : Nat) (vec : Ecc) (cause code : Nat) (addr : Option Nat) (s : State) : State :=
  let s := landAll k ((s.put CORE_STALL k 0).put CORE_FREEZE k 0)
  let t := faultCause k cause code addr s
  if s.flag CORE_FLT k then coreFatal k cause t
  else match vectorRead k (64 + cause) vec s with
    | (none, u) => vectorLost k (64 + cause) u
    | (some v, u) =>
      if !bitOf v 31 then coreFatal k cause (faultCause k cause code addr u)
      else match pushFrame k (entryFrame u k (if cause = 8 then u.pcPlus k 1 else u.get CORE_PC k)) u with
        | (.wait, u) => faultHeld k cause code addr u
        | (.fault c a, u) => coreFatal k c (faultCause k c 0 (if c ≤ 5 then some a else none) u)
        | (.ok _, u) =>
          let u := entered k (vectorWord u k (64 + cause)) (faultCause k cause code addr u)
          (((u.put CORE_LVL k 2).put CORE_IEN k 0).put CORE_IEU k 0).put CORE_FLT k 1

/-- The entry of a held fault is tried again. -/
def faultAgain (k : Nat) (vec : Ecc) (s : State) : State :=
  let at' := s.get CORE_FP_AT k
  faultEntry k vec (s.get CORE_FP k) (s.get CORE_FP_CODE k) (if at' = 0 then none else some (at' - 1))
    (((s.put CORE_FP k 0).put CORE_FP_CODE k 0).put CORE_FP_AT k 0)

/-- Interrupt entry (R208, R210). -/
def interruptEntry (k : Nat) (vec : Ecc) (s : State) : State :=
  if !coreRuns s k || noEntry s k then s else
  match entryInput s k with
  | none => s
  | some (i, lvl) =>
    match vectorRead k i vec (landAll k s) with
    | (none, u) => vectorLost k i u
    | (some _, u) =>
      match pushFrame k (entryFrame u k (u.get CORE_PC k)) u with
      | (.wait, u) => u
      | (.fault c a, u) => coreFatal k c (faultCause k c 0 (if c ≤ 5 then some a else none) u)
      | (.ok _, u) =>
        let u := inputTaken k i (entered k (vectorWord u k i) u)
        let u := (u.put CORE_LVL k lvl).put CORE_IEN k 0
        if lvl = 2 then u.put CORE_IEU k 0 else u

/-! ### Issue and end of an instruction (R190, R191, R196, R204) -/

/-- What an issued instruction does: it ends with results, the next in sequence or a slot's target following; it transfers
control, after its delay slot; it ends with everything in the state; it faults, an access of its own having left its records in
the state; it is fatal; or it waits and issues again. -/
inductive Ran where
  | done (fl : List Left) (s : State)
  | jump (fl : List Left) (dest : Nat) (s : State)
  | set (s : State)
  | fault (cause code : Nat) (addr : Option Nat) (s : State)
  | fatal (cause : Nat) (addr : Option Nat) (s : State)
  | wait (s : State)

/-- The program counter moves past an instruction, or from a delay slot to where its transfer goes (R204). -/
def advance (k : Nat) (s : State) : State :=
  if s.flag CORE_SLOT k then (setPcWord k (s.get CORE_SLOT_TO k) s).put CORE_SLOT k 0
  else s.put CORE_PC k (s.get CORE_PC k + 1)

/-- An instruction ends. -/
def retire (k : Nat) (fl : List Left) (s : State) : State := advance k (landDue k fl s)

/-- A transfer ends: its delay slot is next. -/
def transfer (k : Nat) (fl : List Left) (dest : Nat) (s : State) : State :=
  let s := landDue k fl s
  ((s.put CORE_PC k (s.get CORE_PC k + 1)).put CORE_SLOT k 1).put CORE_SLOT_TO k dest

/-- The state after what an instruction does. -/
def settleRan (k : Nat) (vec : Ecc) : Ran → State
  | .done fl s => retire k fl s
  | .jump fl dest s => transfer k fl dest s
  | .set s => s
  | .fault cause code addr s => faultEntry k vec cause code addr s
  | .fatal cause addr s => coreFatal k cause (faultCause k cause 0 addr (landAll k s))
  | .wait s => s

/-- The offset of the next instruction (R190). -/
def fetchOff (s : State) (k : Nat) : Nat := s.get CORE_CP k * 0x4_0000 + s.get CORE_PC k * 4

/-- The flags satisfy the word's condition (R196). -/
def condOk (s : State) (k w : Nat) : Bool :=
  condHolds (opCond w) (s.flag CORE_V k) (s.flag CORE_C k) (s.flag CORE_Z k) (s.flag CORE_N k)

/-- An instruction whose condition fails (R196): a transfer keeps its delay slot (R204), BRL its link (R203). -/
def notTaken (k kind : Nat) (s : State) : Ran :=
  if isTransfer kind && !s.flag CORE_SLOT k then
    .jump (if kind = 0x71 then [(.g 30, 1, s.pcPlus k 2)] else []) (s.pcPlus k 2) s
  else .done [] s

/-- A decoded instruction runs. -/
def runKind (k kind w : Nat) (run : Nat → Nat → State → Ran) (s : State) : Ran :=
  if !condOk s k w then notTaken k kind s
  else if s.flag CORE_SLOT k && slotIllegal kind then .fault 6 0 none s
  else run k w s

/-- A core issues the instruction that stands at its PC, if that is the one of `x`, of the kind named, and it may; or enters the fault
that the one there has had. -/
def issue (kind : Nat) (x : Issue) (run : Nat → Nat → State → Ran) (s : State) : State :=
  let k := x.core.val
  let w := x.word.toNat
  let off := fetchOff s k
  if !mayIssue s k false then s else
  let t := mulLand k (((s.put CORE_WAIT k 0).put CORE_STALL k 0).put CORE_FREEZE k 0)
  let u := fetchEcc k off x.ecc t
  let ends := settleRan k x.vec
  if s.get CORE_FP k ≠ 0 then faultAgain k x.vec t
  else if execSize k ≤ off then ends (.fault 9 0 (some (execAddr k off)) t)
  else if execWord s k off ≠ w then s
  else if x.ecc = .uncorr then ends (.fault 3 0 (some (execAddr k off)) u)
  else match kindOf w with
    | none => ends (.fault 6 0 none u)
    | some kd => if kd = kind then ends (runKind k kind w run u) else s

end Sys2Proof.Machine
end

