-- ==== Sys2Proof/Machine/Instructions.lean ====
section
/-! DEFINITION. The Praben instructions (08): what each does when it issues, the elements of the block instructions, entry, and
the end of the iterative multiply. -/

namespace Sys2Proof.Machine

/-! ### Arithmetic (R192, R193) -/

def flagBits (v c z n : Bool) : Nat := (if v then 1 else 0) + (if c then 2 else 0) + (if z then 4 else 0) + (if n then 8 else 0)

/-- A result with the flags it sets: N and Z, and C and V where the function sets them (R192). -/
def aluLeft (rd : Nat) (setF : Bool) (o : AluOut) : List Left :=
  (.g rd, 1, o.r) ::
    (if setF then
      [(.flags (12 + (if o.c.isSome then 2 else 0) + (if o.v.isSome then 1 else 0)), 1,
        flagBits (o.v.getD false) (o.c.getD false) (o.r == 0) (neg32 o.r))]
    else [])

/-- The register ALU functions. -/
def runAlu (fn k w : Nat) (s : State) : Ran :=
  .done (aluLeft (opRd w) (bitOf w 8) (aluOf fn (s.gReg k (opRa w)) (s.gReg k (opRb w)) (s.flag CORE_C k))) s

def runAddi (k w : Nat) (s : State) : Ran :=
  .done (aluLeft (opRd w) (bitOf w 13) (addOut (s.gReg k (opRa w)) (ofSigned 32 (opSigned w 0 13)) false)) s

/-- The immediates of LOGI (R193). -/
def runLogi (f k w : Nat) (s : State) : Ran :=
  .done (aluLeft (opRd w) (bitOf w 13) (logiOf f (s.gReg k (opRa w)) (bitsOf w 0 11))) s

def runMovi (k w : Nat) (s : State) : Ran :=
  let imm := bitsOf w 0 16
  .done [(.g (opRd w), 1, if bitOf w 18 then imm * 65536 + s.gReg k (opRd w) % 65536 else imm)] s

/-! ### Multiply (R205) -/

/-- In recovery mode an iterative multiply starts, or starts anew; else the product comes at distance 3. -/
def runMul (fn k w : Nat) (s : State) : Ran :=
  let p := productOf fn (s.gReg k (opRa w)) (s.gReg k (opRb w))
  if coreRm s k then
    .done [] (((s.put CORE_MD_NEXT k p).put CORE_MD_AT k (s.get CORE_COUNT 0 + 18)).put CORE_MDBUSY k 1)
  else .done [(.g (opRd w), 3, if fn = 0 then p % 2 ^ 32 else p / 2 ^ 32), (.product, 3, p)] s

/-! ### Loads and stores (R189, R194, R199) -/

/-- The device address of a load, store or exclusive access; `disp` in bytes. -/
def dataAddr (s : State) (k w : Nat) (disp : Int) : Nat :=
  s.bReg k (bitsOf w 12 2) * 65536 + shortAddr (s.gReg k (opRa w)) disp

def memAddr (s : State) (k w : Nat) : Nat := dataAddr s k w (opSigned w 0 9 * (opSize w : Nat))

/-- What an access of one word means for an instruction that needs its bytes. -/
def withBytes (x : Got × State) (f : List Byte → State → Ran) : Ran :=
  match x with
  | (.ok bs, s) => f bs s
  | (.fault c a, s) => .fault c 0 (if c = 7 then none else some a) s
  | (.wait, s) => .wait s

def runLoad (m : Meets) (k w : Nat) (s : State) : Ran :=
  let a := memAddr s k w
  let n := opSize w
  if a % n ≠ 0 then .fault 5 0 (some a) s
  else withBytes (coreLoad k m [(a, n)] s) (fun bs s =>
    .done [(.g (opRd w), 3, extend n (bitOf w 9 || n == 4) (ofBytes bs))] s)

/-- What a load of `n` bytes at device address `c` would give now, nothing happening; none at the far bus and in host memory, whose
contents are not the device's. -/
def contents (s : State) (k c n : Nat) : Option (List Byte) :=
  match regionOf c with
  | .course _ | .ccSram | .ccSecure | .soundboard | .scratchpad => some (memBytes s k c n)
  | .ledger | .ledgerSecure => some (ldgBytes s (c - ldgBase) n)
  | .registers => some (toBytes n ((busRead (coreReq k) c n s).1.getD 0))
  | _ => none

/-- The bytes that a store replaces, which loads still see for two instructions (R199). -/
def oldLeft (s : State) (k a n : Nat) : List Left :=
  let c := ownAddr k a
  match contents s k c n with
  | some bs => [(.old c bs, 3, 0)]
  | none => []

def runStore (k w : Nat) (s : State) : Ran :=
  let a := memAddr s k w
  let n := opSize w
  if a % n ≠ 0 then .fault 5 0 (some a) s
  else withBytes (coreSave k [(a, n)] (toBytes n (s.gReg k (opRd w))) s) (fun _ t => .done (oldLeft s k a n) t)

/-! ### Control transfer (R202 to R204, R207; 17 R382) -/

/-- A transfer of the control core into its secure page from another page is taken only to a gate PC (17 R382). -/
def gateRefuses (s : State) (k dest : Nat) : Bool :=
  k == 32 && dest / 65536 == 3 && s.get CORE_CP k != 3 && decide (max 1 (s.get PCS_CC_GATE_N 0) ≤ dest % 65536)

/-- A transfer through the gate's check. -/
def gated (k dest : Nat) (s : State) (r : Ran) : Ran :=
  if gateRefuses s k dest then .fault 1 0 (some (execAddr k (dest / 65536 * 0x4_0000 + dest % 65536 * 4))) s else r

def runBranch (link : Bool) (k w : Nat) (s : State) : Ran :=
  let dest := ((((s.get CORE_PC k : Nat) : Int) + opSigned w 0 16) % 65536).toNat
  .jump (if link then [(.g 30, 1, s.pcPlus k 2)] else []) (dest + 65536 * s.get CORE_CP k) s

/-- The target in a register: PC in [15:0], CP in [19:16]. -/
def regTarget (s : State) (k w : Nat) : Nat := s.gReg k (opRa w) % 2 ^ 20

def runJr (k w : Nat) (s : State) : Ran := gated k (regTarget s k w) s (.jump [] (regTarget s k w) s)
def runJmp (k w : Nat) (s : State) : Ran := gated k (bitsOf w 0 20) s (.jump [] (bitsOf w 0 20) s)

/-- The call frame of R207 is pushed, then the transfer is made. -/
def runCallTo (k dest : Nat) (s : State) : Ran :=
  gated k dest s (withBytes (pushFrame k [s.pcPlus k 2, s.bReg k 2] s) (fun _ t =>
    .jump [(.g 31, 1, pushedG s k 2)] dest t))

def runCall (k w : Nat) (s : State) : Ran := runCallTo k (bitsOf w 0 20) s
def runCallr (k w : Nat) (s : State) : Ran := runCallTo k (regTarget s k w) s

def runRet (m : Meets) (k _w : Nat) (s : State) : Ran :=
  withBytes (popFrame k 2 m s) (fun bs t =>
    .jump [(.g 31, 1, (s.gReg k 31 + 8) % 2 ^ 32), (.b 2, 1, frameWord bs 1)] (frameWord bs 0 % 2 ^ 20) t)

/-- What RETI restores (R210.5): b0 to b3, SR but for MDBUSY and RM, PC; with DS the single instruction there is a delay slot. -/
def restored (k : Nat) (bs : List Byte) (s : State) : State :=
  let w0 := frameWord bs 0
  let sr := w0 / 65536
  let s := resvLost k (setG k 31 ((s.gReg k 31 + 24) % 2 ^ 32) (landDue k [] s))
  let s := overRange (fun b t => t.put CORE_B (4 * k + b) (frameWord bs (1 + b))) 4 s
  let s := ((setFlags k 15 sr s).put CORE_CP k (bitsOf sr 4 4)).put CORE_LVL k (bitsOf sr 8 2)
  let s := ((s.put CORE_IEN k (bitsOf sr 10 1)).put CORE_IEU k (bitsOf sr 11 1)).put CORE_FLT k (bitsOf sr 12 1)
  ((s.put CORE_SLOT k (bitsOf sr 13 1)).put CORE_SLOT_TO k (frameWord bs 5)).put CORE_PC k w0

def runReti (m : Meets) (k _w : Nat) (s : State) : Ran :=
  match popFrame k 6 m s with
  | (.wait, t) => .wait t
  | (.fault c a, t) => .fatal c (some a) t
  | (.ok bs, t) =>
    if k = 32 ∧ bitsOf (frameWord bs 0) 20 4 = 3 ∧ coreSec s k = false then .fault 1 0 (some (execAddr k 0xC_0000)) t
    else .set (restored k bs t)

def runTrap (_k w : Nat) (s : State) : Ran := .fault 8 (bitsOf w 0 16) none s

/-! ### System and bank (R187, R188, R195, R217, R219) -/

def runMfs (k w : Nat) (s : State) : Ran :=
  match s.special k (bitsOf w 0 8) with
  | some v => .done [(.g (opSys w), 1, v)] s
  | none => .fault 6 0 none s

/-- An index that is not listed, or that MTS does not write, is illegal (R188). -/
def runMts (k w : Nat) (s : State) : Ran :=
  let i := bitsOf w 0 8
  if [0, 1, 8, 9, 10].contains i then .done [(.special i, 2, s.gReg k (opSys w))] s else .fault 6 0 none s

def runRdfeat (k w : Nat) (s : State) : Ran := .done [(.g (opSys w), 1, featWord s k (w % 4))] s

/-- WAIT stops issue until an enabled input is pending (R217); the Portcullis core's wait lets its domain turn off (17 R400). -/
def runWait (k _w : Nat) (s : State) : Ran :=
  if coreInputs s k ≠ 0 then .done [] s
  else
    let t := retire k [] (s.put CORE_WAIT k 1)
    .set (if k = 33 ∧ t.flag PCS_STBY_ASK 0 = true then pcsPowerDown t else t)

/-- FENCE is over: the write-through buffer is empty and no write of the core is at the Transom or waits at the Ledger (R217). -/
def fenceDone (s : State) (k : Nat) : Bool := !s.wtb.any (fun l => l.who == k) && !trbBusy s k && !coreHeld s k

def runFence (k _w : Nat) (s : State) : Ran := if fenceDone s k then .done [] s else .wait s

def runMtb (k w : Nat) (s : State) : Ran := .done [(.b (bitsOf w 22 2), 2, s.gReg k (opReg w) % 2 ^ 24)] s
def runMfb (k w : Nat) (s : State) : Ran := .done [(.g (opReg w), 1, s.bReg k (bitsOf w 22 2))] s

/-! ### Exclusive access (R218; 15 R348) -/

def exclAddr (s : State) (k w : Nat) : Nat := dataAddr s k w (4 * opSigned w 0 9)

/-- The granule of an address, for a region that has one: the Soundboard's 64-byte line, the 8-byte unit of a Course's own memory, in
the Transom's space the window (15 R348). -/
def granule (s : State) (k c : Nat) : Option Resv :=
  match regionOf c with
  | .soundboard => some ⟨k, c / 64 * 64, 64⟩
  | .course j => if j = k then some ⟨k, c / 8 * 8, 8⟩ else none
  | .transom =>
    match farWindow s (c % 2 ^ 32) with
    | some w => some ⟨k, c / 2 ^ 32 * 2 ^ 32 + s.get TRB_WIN_BASE w * 0x1_0000, s.get TRB_WIN_SIZE w * 0x1_0000⟩
    | none => some ⟨k, c / 4 * 4, 4⟩
  | _ => none

def setResv (r : Resv) (s : State) : State := { resvLost r.core s with resvs := s.resvs.filter (fun x => x.core ≠ r.core) ++ [r] }

/-- The core's reservation covers an address. -/
def holds (s : State) (k c : Nat) : Bool := s.resvs.any (fun r => r.core == k && decide (r.addr ≤ c) && decide (c < r.addr + r.len))

/-- An exclusive access to a region without granules (R218): NOT_ALLOWED, or the bus error of no region at all. -/
def exclRefused (k a : Nat) (s : State) : Ran :=
  let c := ownAddr k a
  let cause := if regionOf c = .unmapped ∨ regionOf c = .own then 2 else 1
  .fault cause 0 (some a) (s.refuse (coreReq k) a cause)

def runLdx (m : Meets) (k w : Nat) (s : State) : Ran :=
  let a := exclAddr s k w
  let c := ownAddr k a
  if a % 4 ≠ 0 then .fault 5 0 (some a) s else
  match granule s k c with
  | none => exclRefused k a s
  | some r =>
    let x := match coreReady k a 4 false (regionOf c == .transom) s with
      | (.ok _, t) => coreTake k a 4 m t
      | y => y
    withBytes x (fun bs t => .done [(.g (opRd w), 3, ofBytes bs)] (setResv r t))

/-- STX stores nothing (R218, 15 R348): Z := 0, and a lock of the core is released. -/
def stxFails (k c : Nat) (s : State) : Ran :=
  let s := resvLost k s
  .done [(.flags 4, 3, 0)]
    (if regionOf c = .transom ∧ trbLocked s = true ∧ lockOwner s = k then trbKick (unlock s) else s)

/-- STX in the Transom window (15 R348): under the lock of the LDX to this window the write is non-posted. One whose lock is released
before its write begins stores nothing, and Z is 0. -/
def stxFar (k a w : Nat) (s : State) : Ran :=
  match trbReply s k a with
  | some r =>
    let t := resvLost k (trbReplyTaken r s)
    if r.error then .fault 2 0 (some a) (((landAll k t).put CORE_Z k 0).refuse (coreReq k) a 2)
    else .done [(.flags 4, 3, if r.bytes = [] then 0 else 4)] t
  | none =>
    if trbPending s k then .wait (s.put CORE_STALL k 1)
    else if holds s k a && trbLocked s && lockOwner s == k && farWindow s (a % 2 ^ 32) == some (s.get TRB_LOCK_WIN 0) then
      .wait ((trbStore k a (toBytes 4 (s.gReg k (opRd w))) s).put CORE_STALL k 1)
    else stxFails k a s

def runStx (k w : Nat) (s : State) : Ran :=
  let a := exclAddr s k w
  let c := ownAddr k a
  if a % 4 ≠ 0 then .fault 5 0 (some a) s else
  match granule s k c with
  | none => exclRefused k a s
  | some _ =>
    if regionOf c = .transom then
      (if s.permit (coreReq k) .transom c true = .yes then stxFar k c w s
      else .fault 1 0 (some a) (s.denied (coreReq k) a (s.permit (coreReq k) .transom c true)))
    else if holds s k c then
      withBytes (coreSave k [(a, 4)] (toBytes 4 (s.gReg k (opRd w))) s) (fun _ t =>
        .done ((.flags 4, 3, 4) :: oldLeft s k a 4) (resvLost k t))
    else stxFails k c s

/-! ### Block instructions (R211 to R216) -/

/-- The three registers of a block instruction are different and none is g0, and SZ is not 3 (R212). -/
def blockLegal (op w : Nat) : Bool :=
  let d := opRd w
  let a := opRa w
  let n := opRb w
  d != 0 && a != 0 && n != 0 && d != a && d != n && a != n && !(op == 2 && bitsOf w 7 2 == 3)

/-- The item size of SEEK; SWEEP and CRCB count bytes. -/
def itemSize (op w : Nat) : Nat := if op = 2 then 2 ^ bitsOf w 7 2 else 1

/-- The bank of the source, and of the destination. -/
def srcBank (s : State) (k w : Nat) : Nat := s.bReg k (bitsOf w 5 2)
def dstBank (s : State) (k w : Nat) : Nat := s.bReg k (bitsOf w 7 2)

/-- A block instruction ends; SEEK leaves Z (R214). -/
def blockEnds (op k : Nat) (found : Bool) (s : State) : State :=
  retire k (if op = 2 then [(.flags 4, 1, if found then 4 else 0)] else []) ((s.put CORE_BLOCK k 0).put CORE_SETUP k 0)

/-- A block instruction is set up (R212): a count of 0 ends it, else its elements follow, PC standing on it; no event is taken before
the first of them (R216). -/
def runBlock (op k w : Nat) (s : State) : Ran :=
  let src := s.gReg k (opRa w)
  if !blockLegal op w then .fault 6 0 none s
  else if src % itemSize op w ≠ 0 then .fault 5 0 (some (srcBank s k w * 65536 + src % 65536)) s
  else if s.gReg k (opRb w) = 0 then .set (blockEnds op k false s)
  else .set ((s.put CORE_BLOCK k 1).put CORE_SETUP k 1)

/-- The registers after an element: source, destination (SWEEP) and count advance, as 32-bit additions (R213). -/
def blockAdvance (op k w bytes items : Nat) (s : State) : State :=
  let s := setG k (opRa w) (s.gReg k (opRa w) + bytes) s
  let s := if op = 0 then setG k (opRd w) (s.gReg k (opRd w) + bytes) s else s
  setG k (opRb w) (s.gReg k (opRb w) - items) s

/-- After an element the block instruction has elements left, or ends. -/
def blockNext (op k w : Nat) (s : State) : State :=
  if s.gReg k (opRb w) = 0 then blockEnds op k false s else s.put CORE_SETUP k 0

/-- An element that does not complete: a fault is taken with the registers as they stood (R216). -/
def elementStops (k : Nat) (vec : Ecc) (x : Got × State) : State :=
  match x with
  | (.fault c a, s) => faultEntry k vec c 0 (some a) s
  | (_, s) => s

/-- What an element of SWEEP writes is what its later elements read there, whatever a store just before it hides (R199, R213). -/
def oldWritten (k : Nat) : List (Nat × Nat) → List Byte → State → State
  | [], _, s => s
  | (a, n) :: r, bs, s =>
    let c := ownAddr k a
    let patch (at' : Nat) (os : List Byte) : List Byte :=
      (os.zip (List.range os.length)).map (fun e => if c ≤ at' + e.2 ∧ at' + e.2 < c + n then bs.getD (at' + e.2 - c) e.1 else e.1)
    oldWritten k r (bs.drop n) { s with flights := s.flights.map (fun f => match f.dst with
      | .old at' os => if f.core = k then { f with dst := .old at' (patch at' os) } else f
      | _ => f) }

/-- An element of SWEEP (R213): up to the next 64-byte boundary of the destination. -/
def sweepElement (m : Meets) (k : Nat) (vec : Ecc) (w : Nat) (s : State) : State :=
  let dst := s.gReg k (opRd w)
  let n := min (s.gReg k (opRb w)) (64 - dst % 64)
  let from' := pieces (srcBank s k w) n (s.gReg k (opRa w)) n
  let dest := pieces (dstBank s k w) n dst n
  match readyAll k false from' s with
  | (.ok _, s) => match readyAll k true dest s with
    | (.ok _, s) =>
      if !roomAll k dest s then (noRoom k dest s).2
      else match readAll k m from' s with
        | (.ok bs, s) => match writeAll k dest bs s with
          | (.ok _, s) => blockNext 0 k w (blockAdvance 0 k w n n (oldWritten k dest bs s))
          | x => elementStops k vec x
        | x => elementStops k vec x
    | x => elementStops k vec x
  | x => elementStops k vec x

/-- An element of CRCB (R213): up to the next 64-byte boundary of the source. -/
def crcElement (m : Meets) (k : Nat) (vec : Ecc) (w : Nat) (s : State) : State :=
  let src := s.gReg k (opRa w)
  let n := min (s.gReg k (opRb w)) (64 - src % 64)
  match coreLoad k m (pieces (srcBank s k w) n src n) s with
  | (.ok bs, s) =>
    let s := setG k (opRd w) (crcFolds (s.get CORE_CRCP k) (s.gReg k (opRd w)) bs) s
    blockNext 1 k w (blockAdvance 1 k w n n s)
  | x => elementStops k vec x

/-- The first item of some bytes that matches the key under SMASK over its width (R214). -/
def seekItem (key mask sz : Nat) (bs : List Byte) : Option Nat :=
  (List.range (bs.length / sz)).find? (fun i =>
    ((ofBytes ((bs.drop (sz * i)).take sz) ^^^ key) &&& mask) % 2 ^ (8 * sz) == 0)

/-- The items of a run are read up to and including a match: the place of the match, if any. -/
def seekRun (k : Nat) (m : Meets) (key mask sz : Nat) : List (Nat × Nat) → Nat → State → Got × Option Nat × State
  | [], _, s => (.ok [], none, s)
  | (a, n) :: r, i, s => match coreTake k a n m s with
    | (.ok bs, t) => match seekItem key mask sz bs with
      | some j => (.ok [], some (i + j), t)
      | none => seekRun k { m with host := m.host.map (fun h => h.drop n) } key mask sz r (i + n / sz) t
    | (x, t) => (x, none, t)

/-- An element of SEEK (R213, R214). -/
def seekElement (m : Meets) (k : Nat) (vec : Ecc) (w : Nat) (s : State) : State :=
  let src := s.gReg k (opRa w)
  let sz := itemSize 2 w
  let items := min (s.gReg k (opRb w)) ((64 - src % 64) / sz)
  let as := pieces (srcBank s k w) (items * sz) src (items * sz)
  match readyAll k false as s with
  | (.ok _, s) => match seekRun k m (s.gReg k (opRd w)) (s.get CORE_SMASK k) sz as 0 s with
    | (.ok _, some j, s) => blockEnds 2 k true (blockAdvance 2 k w (j * sz) j s)
    | (.ok _, none, s) => blockNext 2 k w (blockAdvance 2 k w (items * sz) items s)
    | (x, _, s) => elementStops k vec (x, s)
  | x => elementStops k vec x

/-- One element of the block instruction at the PC (R213). -/
def blockElement (m : Meets) (k : Nat) (vec : Ecc) (s : State) : State :=
  if !mayIssue s k true then s else
  let w := execWord s k (fetchOff s k)
  let s := mulLand k ((s.put CORE_STALL k 0).put CORE_FREEZE k 0)
  if s.get CORE_FP k ≠ 0 then faultAgain k vec s else
  match bitsOf w 3 2 with
  | 0 => sweepElement m k vec w s
  | 1 => crcElement m k vec w s
  | _ => seekElement m k vec w s

/-! ### The commands' meanings -/

/-- INTERRUPT_ENTRY (R210). -/
def execInterruptEntry (e : EntryIn) (s : State) : Result := .next (interruptEntry e.core.val e.vec s)

/-- ADD (R192). -/
def execAdd (x : Issue) (s : State) : Result := .next (issue 0x00 x (runAlu 0) s)

/-- ADC (R192). -/
def execAdc (x : Issue) (s : State) : Result := .next (issue 0x01 x (runAlu 1) s)

/-- SUB (R192). -/
def execSub (x : Issue) (s : State) : Result := .next (issue 0x02 x (runAlu 2) s)

/-- SBC (R192). -/
def execSbc (x : Issue) (s : State) : Result := .next (issue 0x03 x (runAlu 3) s)

/-- AND (R192). -/
def execAnd (x : Issue) (s : State) : Result := .next (issue 0x04 x (runAlu 4) s)

/-- OR (R192). -/
def execOr (x : Issue) (s : State) : Result := .next (issue 0x05 x (runAlu 5) s)

/-- XOR (R192). -/
def execXor (x : Issue) (s : State) : Result := .next (issue 0x06 x (runAlu 6) s)

/-- ANDN (R192). -/
def execAndn (x : Issue) (s : State) : Result := .next (issue 0x07 x (runAlu 7) s)

/-- SHL (R192). -/
def execShl (x : Issue) (s : State) : Result := .next (issue 0x08 x (runAlu 8) s)

/-- SHR (R192). -/
def execShr (x : Issue) (s : State) : Result := .next (issue 0x09 x (runAlu 9) s)

/-- SAR (R192). -/
def execSar (x : Issue) (s : State) : Result := .next (issue 0x0A x (runAlu 10) s)

/-- ROR (R192). -/
def execRor (x : Issue) (s : State) : Result := .next (issue 0x0B x (runAlu 11) s)

/-- MIN (R192). -/
def execMin (x : Issue) (s : State) : Result := .next (issue 0x0C x (runAlu 12) s)

/-- MAX (R192). -/
def execMax (x : Issue) (s : State) : Result := .next (issue 0x0D x (runAlu 13) s)

/-- MINU (R192). -/
def execMinu (x : Issue) (s : State) : Result := .next (issue 0x0E x (runAlu 14) s)

/-- MAXU (R192). -/
def execMaxu (x : Issue) (s : State) : Result := .next (issue 0x0F x (runAlu 15) s)

/-- ADDI (R193). -/
def execAddi (x : Issue) (s : State) : Result := .next (issue 0x10 x runAddi s)

/-- ANDI (R193). -/
def execAndi (x : Issue) (s : State) : Result := .next (issue 0x20 x (runLogi 0) s)

/-- ORI (R193). -/
def execOri (x : Issue) (s : State) : Result := .next (issue 0x21 x (runLogi 1) s)

/-- XORI (R193). -/
def execXori (x : Issue) (s : State) : Result := .next (issue 0x22 x (runLogi 2) s)

/-- LOGI_SHIFT (R193). -/
def execLogiShift (x : Issue) (s : State) : Result := .next (issue 0x23 x (runLogi 3) s)

/-- MOVI (R193). -/
def execMovi (x : Issue) (s : State) : Result := .next (issue 0x30 x runMovi s)

/-- MUL (R205). -/
def execMul (x : Issue) (s : State) : Result := .next (issue 0x40 x (runMul 0) s)

/-- MULH (R205). -/
def execMulh (x : Issue) (s : State) : Result := .next (issue 0x41 x (runMul 1) s)

/-- MULHU (R205). -/
def execMulhu (x : Issue) (s : State) : Result := .next (issue 0x42 x (runMul 2) s)

/-- ITERATIVE_MULTIPLY_DONE (R205). -/
def execIterativeMultiplyDone (core : Fin 34) (s : State) : Result := .next (mulLand core.val s)

/-- LOAD (R194). -/
def execLoad (x : Issue) (m : Meets) (s : State) : Result := .next (issue 0x50 x (runLoad m) s)

/-- STORE (R194). -/
def execStore (x : Issue) (s : State) : Result := .next (issue 0x60 x runStore s)

/-- BRANCH (R203). -/
def execBranch (x : Issue) (s : State) : Result := .next (issue 0x70 x (runBranch false) s)

/-- BRL (R203). -/
def execBrl (x : Issue) (s : State) : Result := .next (issue 0x71 x (runBranch true) s)

/-- JR (R202). -/
def execJr (x : Issue) (s : State) : Result := .next (issue 0x80 x runJr s)

/-- CALL (R207). -/
def execCall (x : Issue) (s : State) : Result := .next (issue 0x81 x runCall s)

/-- CALLR (R207). -/
def execCallr (x : Issue) (s : State) : Result := .next (issue 0x82 x runCallr s)

/-- RET (R207). -/
def execRet (x : Issue) (m : Meets) (s : State) : Result := .next (issue 0x83 x (runRet m) s)

/-- RETI (R210). -/
def execReti (x : Issue) (m : Meets) (s : State) : Result := .next (issue 0x84 x (runReti m) s)

/-- JMP (R202). -/
def execJmp (x : Issue) (s : State) : Result := .next (issue 0x85 x runJmp s)

/-- TRAP (R209). -/
def execTrap (x : Issue) (s : State) : Result := .next (issue 0x86 x runTrap s)

/-- MFS (R188). -/
def execMfs (x : Issue) (s : State) : Result := .next (issue 0x90 x runMfs s)

/-- MTS (R187, R188). -/
def execMts (x : Issue) (s : State) : Result := .next (issue 0x91 x runMts s)

/-- RDFEAT (R219). -/
def execRdfeat (x : Issue) (s : State) : Result := .next (issue 0x92 x runRdfeat s)

/-- WAIT (R217). -/
def execWait (x : Issue) (s : State) : Result := .next (issue 0x93 x runWait s)

/-- FENCE (R217). -/
def execFence (x : Issue) (s : State) : Result := .next (issue 0x94 x runFence s)

/-- MTB (R195). -/
def execMtb (x : Issue) (s : State) : Result := .next (issue 0xA0 x runMtb s)

/-- MFB (R195). -/
def execMfb (x : Issue) (s : State) : Result := .next (issue 0xA1 x runMfb s)

/-- SWEEP (R211 to R213). -/
def execSweep (x : Issue) (s : State) : Result := .next (issue 0xB0 x (runBlock 0) s)

/-- CRCB (R211 to R213). -/
def execCrcb (x : Issue) (s : State) : Result := .next (issue 0xB1 x (runBlock 1) s)

/-- SEEK (R211 to R213). -/
def execSeek (x : Issue) (s : State) : Result := .next (issue 0xB2 x (runBlock 2) s)

/-- BLOCK_ELEMENT (R213, R214). -/
def execBlockElement (e : EntryIn) (m : Meets) (s : State) : Result := .next (blockElement m e.core.val e.vec s)

/-- LDX (R218). -/
def execLdx (x : Issue) (m : Meets) (s : State) : Result := .next (issue 0xC0 x (runLdx m) s)

/-- STX (R218). -/
def execStx (x : Issue) (s : State) : Result := .next (issue 0xC1 x runStx s)

end Sys2Proof.Machine
end

