-- ==== Sys2Proof/Machine/Dispatch.lean ====
section
/-! DEFINITION. The dispatch: one arm for each constructor of Instr. -/

namespace Sys2Proof.Machine

def exec (i : Instr) (s : State) : Host.Outcome State Fault Refusal :=
  match i with
  | .registerWrite q a size v => Sys2Proof.Machine.execRegisterWrite q a size v s
  | .readClear q a size => Sys2Proof.Machine.execReadClear q a size s
  | .lowerHalfRead q a => Sys2Proof.Machine.execLowerHalfRead q a s
  | .upperHalfRead q a => Sys2Proof.Machine.execUpperHalfRead q a s
  | .lowerHalfWrite q a v => Sys2Proof.Machine.execLowerHalfWrite q a v s
  | .upperHalfWrite q a v => Sys2Proof.Machine.execUpperHalfWrite q a v s
  | .lockBitSet q a => Sys2Proof.Machine.execLockBitSet q a s
  | .referenceLost => Sys2Proof.Machine.execReferenceLost s
  | .referenceRestored => Sys2Proof.Machine.execReferenceRestored s
  | .holdoverLimitExpiry => Sys2Proof.Machine.execHoldoverLimitExpiry s
  | .serdesReferenceLoss => Sys2Proof.Machine.execSerdesReferenceLoss s
  | .pcieReferenceLoss => Sys2Proof.Machine.execPcieReferenceLoss s
  | .domainTurnOn d => Sys2Proof.Machine.execDomainTurnOn d s
  | .domainTurnOff d => Sys2Proof.Machine.execDomainTurnOff d s
  | .timeBaseTick n => Sys2Proof.Machine.execTimeBaseTick n s
  | .tmbDomIncWrite q d v => Sys2Proof.Machine.execTmbDomIncWrite q d v s
  | .tmbSnap q => Sys2Proof.Machine.execTmbSnap q s
  | .tmbDomStep q d v => Sys2Proof.Machine.execTmbDomStep q d v s
  | .stepApply d => Sys2Proof.Machine.execStepApply d s
  | .tmbDomCfgWrite q d v => Sys2Proof.Machine.execTmbDomCfgWrite q d v s
  | .epochRefHold q d v => Sys2Proof.Machine.execEpochRefHold q d v s
  | .epochCommit q d sec => Sys2Proof.Machine.execEpochCommit q d sec s
  | .epochRefReached d => Sys2Proof.Machine.execEpochRefReached d s
  | .epochStaleExpiry d => Sys2Proof.Machine.execEpochStaleExpiry d s
  | .varPartTrack p tx rx => Sys2Proof.Machine.execVarPartTrack p tx rx s
  | .sampleSubmit q d theta port => Sys2Proof.Machine.execSampleSubmit q d theta port s
  | .servoUpdate d => Sys2Proof.Machine.execServoUpdate d s
  | .servoHoldover d => Sys2Proof.Machine.execServoHoldover d s
  | .limRunStart q => Sys2Proof.Machine.execLimRunStart q s
  | .limRunStop q => Sys2Proof.Machine.execLimRunStop q s
  | .limCycChgArm q period at' => Sys2Proof.Machine.execLimCycChgArm q period at' s
  | .boundary => Sys2Proof.Machine.execBoundary s
  | .statusPass => Sys2Proof.Machine.execStatusPass s
  | .statusPassEnd => Sys2Proof.Machine.execStatusPassEnd s
  | .soundboardWrite q off bs => Sys2Proof.Machine.execSoundboardWrite q off bs s
  | .writeThroughDrain n => Sys2Proof.Machine.execWriteThroughDrain n s
  | .txAssembly p e ecc => Sys2Proof.Machine.execTxAssembly p e ecc s
  | .frameReceive r => Sys2Proof.Machine.execFrameReceive r s
  | .rxDrain => Sys2Proof.Machine.execRxDrain s
  | .limTabDone q t => Sys2Proof.Machine.execLimTabDone q t s
  | .limTabCopy q t => Sys2Proof.Machine.execLimTabCopy q t s
  | .tabCopyComplete t => Sys2Proof.Machine.execTabCopyComplete t s
  | .limTabReopen q t => Sys2Proof.Machine.execLimTabReopen q t s
  | .limBaseWrite q v => Sys2Proof.Machine.execLimBaseWrite q v s
  | .tabVerificationEnd t => Sys2Proof.Machine.execTabVerificationEnd t s
  | .limTabCommitGo q ports slices => Sys2Proof.Machine.execLimTabCommitGo q ports slices s
  | .limTabCommitCancel q => Sys2Proof.Machine.execLimTabCommitCancel q s
  | .sliceRead e torn ecc => Sys2Proof.Machine.execSliceRead e torn ecc s
  | .sliceFrameEgress e => Sys2Proof.Machine.execSliceFrameEgress e s
  | .sliceFrameReceive => Sys2Proof.Machine.execSliceFrameReceive s
  | .sbdEnSet q => Sys2Proof.Machine.execSbdEnSet q s
  | .scrubRoundLate => Sys2Proof.Machine.execScrubRoundLate s
  | .fdbAgeOut mac vid => Sys2Proof.Machine.execFdbAgeOut mac vid s
  | .flowDone q => Sys2Proof.Machine.execFlowDone q s
  | .flowCopy q => Sys2Proof.Machine.execFlowCopy q s
  | .flowReopen q => Sys2Proof.Machine.execFlowReopen q s
  | .flowGo q => Sys2Proof.Machine.execFlowGo q s
  | .flowCancel q => Sys2Proof.Machine.execFlowCancel q s
  | .flowVerificationEnd => Sys2Proof.Machine.execFlowVerificationEnd s
  | .egressStart p coll head body => Sys2Proof.Machine.execEgressStart p coll head body s
  | .txCompletion n => Sys2Proof.Machine.execTxCompletion n s
  | .louvreCycleStart p => Sys2Proof.Machine.execLouvreCycleStart p s
  | .gateEntry p => Sys2Proof.Machine.execGateEntry p s
  | .lvrDone q p => Sys2Proof.Machine.execLvrDone q p s
  | .lvrCopy q p => Sys2Proof.Machine.execLvrCopy q p s
  | .lvrReopen q p => Sys2Proof.Machine.execLvrReopen q p s
  | .lvrGo q p => Sys2Proof.Machine.execLvrGo q p s
  | .lvrCancel q p => Sys2Proof.Machine.execLvrCancel q p s
  | .lvrVerificationEnd p => Sys2Proof.Machine.execLvrVerificationEnd p s
  | .preemptVerifyEnd p ok => Sys2Proof.Machine.execPreemptVerifyEnd p ok s
  | .recoveryReset h => Sys2Proof.Machine.execRecoveryReset h s
  | .macPortEnable q p v => Sys2Proof.Machine.execMacPortEnable q p v s
  | .macLinkUp p speed fdx tx rx => Sys2Proof.Machine.execMacLinkUp p speed fdx tx rx s
  | .macLinkDown p => Sys2Proof.Machine.execMacLinkDown p s
  | .macMarginMeasure p m => Sys2Proof.Machine.execMacMarginMeasure p m s
  | .macRetrainReq q p => Sys2Proof.Machine.execMacRetrainReq q p s
  | .macRetrainWindow p => Sys2Proof.Machine.execMacRetrainWindow p s
  | .macRetrainDone p degraded tx rx => Sys2Proof.Machine.execMacRetrainDone p degraded tx rx s
  | .timedFrameEgress p e => Sys2Proof.Machine.execTimedFrameEgress p e s
  | .directTransmitLaunch x => Sys2Proof.Machine.execDirectTransmitLaunch x s
  | .timedFrameLateDrop p e => Sys2Proof.Machine.execTimedFrameLateDrop p e s
  | .passThroughFrame x excess => Sys2Proof.Machine.execPassThroughFrame x excess s
  | .scanGo q p => Sys2Proof.Machine.execScanGo q p s
  | .scanAbort q p => Sys2Proof.Machine.execScanAbort q p s
  | .scanResponse p r => Sys2Proof.Machine.execScanResponse p r s
  | .scanTimeout p => Sys2Proof.Machine.execScanTimeout p s
  | .scanAddrWrite q p n v => Sys2Proof.Machine.execScanAddrWrite q p n v s
  | .trkGrpCfgWrite q g v => Sys2Proof.Machine.execTrkGrpCfgWrite q g v s
  | .trkPortEnable q l v => Sys2Proof.Machine.execTrkPortEnable q l v s
  | .synthLockTimeout k => Sys2Proof.Machine.execSynthLockTimeout k s
  | .synthRetry k => Sys2Proof.Machine.execSynthRetry k s
  | .linkTrainingDone l rate tx rx => Sys2Proof.Machine.execLinkTrainingDone l rate tx rx s
  | .trainingFailure k => Sys2Proof.Machine.execTrainingFailure k s
  | .deskewLost l => Sys2Proof.Machine.execDeskewLost l s
  | .trkLinkDown l => Sys2Proof.Machine.execTrkLinkDown l s
  | .trkMarginMeasure k m corr uncorr => Sys2Proof.Machine.execTrkMarginMeasure k m corr uncorr s
  | .trkRetrainReq q k => Sys2Proof.Machine.execTrkRetrainReq q k s
  | .trkRateWrite q k v => Sys2Proof.Machine.execTrkRateWrite q k v s
  | .trkRetrainWindow k => Sys2Proof.Machine.execTrkRetrainWindow k s
  | .trkRetrainDone k degraded rate tx rx => Sys2Proof.Machine.execTrkRetrainDone k degraded rate tx rx s
  | .saInstall l tx chan an => Sys2Proof.Machine.execSaInstall l tx chan an s
  | .saRetire l chan an => Sys2Proof.Machine.execSaRetire l chan an s
  | .txAnChange l an => Sys2Proof.Machine.execTxAnChange l an s
  | .ttRequestSend ch => Sys2Proof.Machine.execTtRequestSend ch s
  | .ttRequestAnswer ch => Sys2Proof.Machine.execTtRequestAnswer ch s
  | .ttResponseReceive ch => Sys2Proof.Machine.execTtResponseReceive ch s
  | .crsStart q n => Sys2Proof.Machine.execCrsStart q n s
  | .crsStop q n => Sys2Proof.Machine.execCrsStop q n s
  | .crsGstartArm q mask at' => Sys2Proof.Machine.execCrsGstartArm q mask at' s
  | .crsWdogKick q n => Sys2Proof.Machine.execCrsWdogKick q n s
  | .courseWatchdogWarning n => Sys2Proof.Machine.execCourseWatchdogWarning n s
  | .courseWatchdogExpiry n => Sys2Proof.Machine.execCourseWatchdogExpiry n s
  | .crsTcmpArm q n i1 ns frac dom => Sys2Proof.Machine.execCrsTcmpArm q n i1 ns frac dom s
  | .tcmpMatch n i1 => Sys2Proof.Machine.execTcmpMatch n i1 s
  | .eventDelivery => Sys2Proof.Machine.execEventDelivery s
  | .interruptEntry core => Sys2Proof.Machine.execInterruptEntry core s
  | .profileLoaded i1 => Sys2Proof.Machine.execProfileLoaded i1 s
  | .hookTag q n p tag => Sys2Proof.Machine.execHookTag q n p tag s
  | .crsHookWr q n v => Sys2Proof.Machine.execCrsHookWr q n v s
  | .crsTxrTail q n v => Sys2Proof.Machine.execCrsTxrTail q n v s
  | .txDescriptorTake n ecc => Sys2Proof.Machine.execTxDescriptorTake n ecc s
  | .crsRxrTail q n v => Sys2Proof.Machine.execCrsRxrTail q n v s
  | .rxRingDelivery n => Sys2Proof.Machine.execRxRingDelivery n s
  | .crsSwevt q n v => Sys2Proof.Machine.execCrsSwevt q n v s
  | .crsMsgSend q n k => Sys2Proof.Machine.execCrsMsgSend q n k s
  | .crsQPop q n k => Sys2Proof.Machine.execCrsQPop q n k s
  | .crsQEnable q k v => Sys2Proof.Machine.execCrsQEnable q k v s
  | .directoryRequest line rs => Sys2Proof.Machine.execDirectoryRequest line rs s
  | .directoryRoundEnd line => Sys2Proof.Machine.execDirectoryRoundEnd line s
  | .l1RetryReissue k line => Sys2Proof.Machine.execL1RetryReissue k line s
  | .l1Writeback k line => Sys2Proof.Machine.execL1Writeback k line s
  | .add x => Sys2Proof.Machine.execAdd x s
  | .adc x => Sys2Proof.Machine.execAdc x s
  | .sub x => Sys2Proof.Machine.execSub x s
  | .sbc x => Sys2Proof.Machine.execSbc x s
  | .and x => Sys2Proof.Machine.execAnd x s
  | .or x => Sys2Proof.Machine.execOr x s
  | .xor x => Sys2Proof.Machine.execXor x s
  | .andn x => Sys2Proof.Machine.execAndn x s
  | .shl x => Sys2Proof.Machine.execShl x s
  | .shr x => Sys2Proof.Machine.execShr x s
  | .sar x => Sys2Proof.Machine.execSar x s
  | .ror x => Sys2Proof.Machine.execRor x s
  | .min x => Sys2Proof.Machine.execMin x s
  | .max x => Sys2Proof.Machine.execMax x s
  | .minu x => Sys2Proof.Machine.execMinu x s
  | .maxu x => Sys2Proof.Machine.execMaxu x s
  | .addi x => Sys2Proof.Machine.execAddi x s
  | .andi x => Sys2Proof.Machine.execAndi x s
  | .ori x => Sys2Proof.Machine.execOri x s
  | .xori x => Sys2Proof.Machine.execXori x s
  | .logiShift x => Sys2Proof.Machine.execLogiShift x s
  | .movi x => Sys2Proof.Machine.execMovi x s
  | .mul x => Sys2Proof.Machine.execMul x s
  | .mulh x => Sys2Proof.Machine.execMulh x s
  | .mulhu x => Sys2Proof.Machine.execMulhu x s
  | .iterativeMultiplyDone core => Sys2Proof.Machine.execIterativeMultiplyDone core s
  | .load x m => Sys2Proof.Machine.execLoad x m s
  | .store x => Sys2Proof.Machine.execStore x s
  | .branch x => Sys2Proof.Machine.execBranch x s
  | .brl x => Sys2Proof.Machine.execBrl x s
  | .jr x => Sys2Proof.Machine.execJr x s
  | .call x => Sys2Proof.Machine.execCall x s
  | .callr x => Sys2Proof.Machine.execCallr x s
  | .ret x m => Sys2Proof.Machine.execRet x m s
  | .reti x m => Sys2Proof.Machine.execReti x m s
  | .jmp x => Sys2Proof.Machine.execJmp x s
  | .trap x => Sys2Proof.Machine.execTrap x s
  | .mfs x => Sys2Proof.Machine.execMfs x s
  | .mts x => Sys2Proof.Machine.execMts x s
  | .rdfeat x => Sys2Proof.Machine.execRdfeat x s
  | .wait x => Sys2Proof.Machine.execWait x s
  | .fence x => Sys2Proof.Machine.execFence x s
  | .mtb x => Sys2Proof.Machine.execMtb x s
  | .mfb x => Sys2Proof.Machine.execMfb x s
  | .sweep x => Sys2Proof.Machine.execSweep x s
  | .crcb x => Sys2Proof.Machine.execCrcb x s
  | .seek x => Sys2Proof.Machine.execSeek x s
  | .blockElement core m => Sys2Proof.Machine.execBlockElement core m s
  | .ldx x m => Sys2Proof.Machine.execLdx x m s
  | .stx x => Sys2Proof.Machine.execStx x s
  | .fretCycle f ins => Sys2Proof.Machine.execFretCycle f ins s
  | .frtStart q f => Sys2Proof.Machine.execFrtStart q f s
  | .frtStop q f => Sys2Proof.Machine.execFrtStop q f s
  | .frtQflush q f => Sys2Proof.Machine.execFrtQflush q f s
  | .frtTxqWrite q f v => Sys2Proof.Machine.execFrtTxqWrite q f v s
  | .frtRxqRead q f => Sys2Proof.Machine.execFrtRxqRead q f s
  | .frtProgramWrite q a v => Sys2Proof.Machine.execFrtProgramWrite q a v s
  | .frtGstartArm q at' => Sys2Proof.Machine.execFrtGstartArm q at' s
  | .frtTcmpArm q f ns frac dom => Sys2Proof.Machine.execFrtTcmpArm q f ns frac dom s
  | .fretTimeMatch f => Sys2Proof.Machine.execFretTimeMatch f s
  | .ambModeRequest q c m => Sys2Proof.Machine.execAmbModeRequest q c m s
  | .ambIntegrationDone c => Sys2Proof.Machine.execAmbIntegrationDone c s
  | .ambSleepEntry c => Sys2Proof.Machine.execAmbSleepEntry c s
  | .ambTxReq q c mask => Sys2Proof.Machine.execAmbTxReq q c mask s
  | .ambTxCancel q c mask => Sys2Proof.Machine.execAmbTxCancel q c mask s
  | .ambFrameChoice c => Sys2Proof.Machine.execAmbFrameChoice c s
  | .ambAttemptEnd c r sof delay => Sys2Proof.Machine.execAmbAttemptEnd c r sof delay s
  | .ambRecoveryDone c => Sys2Proof.Machine.execAmbRecoveryDone c s
  | .ambFrameReceive c r sof => Sys2Proof.Machine.execAmbFrameReceive c r sof s
  | .ambRxqAck q c k n => Sys2Proof.Machine.execAmbRxqAck q c k n s
  | .ambTimedEligible c b => Sys2Proof.Machine.execAmbTimedEligible c b s
  | .ambTimedDeadline c b => Sys2Proof.Machine.execAmbTimedDeadline c b s
  | .ambWakeEdge c => Sys2Proof.Machine.execAmbWakeEdge c s
  | .referenceInstant c => Sys2Proof.Machine.execReferenceInstant c s
  | .referenceDeadline c => Sys2Proof.Machine.execReferenceDeadline c s
  | .refSlaveTimeout c => Sys2Proof.Machine.execRefSlaveTimeout c s
  | .pocConfig q k => Sys2Proof.Machine.execPocConfig q k s
  | .pocReady q k => Sys2Proof.Machine.execPocReady q k s
  | .pocWakeup q k => Sys2Proof.Machine.execPocWakeup q k s
  | .pocRun q k => Sys2Proof.Machine.execPocRun q k s
  | .pocAllowColdstart q k => Sys2Proof.Machine.execPocAllowColdstart q k s
  | .pocAllSlots q k => Sys2Proof.Machine.execPocAllSlots q k s
  | .pocHalt q k => Sys2Proof.Machine.execPocHalt q k s
  | .pocFreeze q k => Sys2Proof.Machine.execPocFreeze q k s
  | .ttbStartupDone k c => Sys2Proof.Machine.execTtbStartupDone k c s
  | .ttbColdstartFail k => Sys2Proof.Machine.execTtbColdstartFail k s
  | .ttbWakeupDone k r => Sys2Proof.Machine.execTtbWakeupDone k r s
  | .ttbWakeRx k => Sys2Proof.Machine.execTtbWakeRx k s
  | .ttbWakeEdge k ch => Sys2Proof.Machine.execTtbWakeEdge k ch s
  | .ttbCycleStart k => Sys2Proof.Machine.execTtbCycleStart k s
  | .clockCorrection k fs offs rates => Sys2Proof.Machine.execClockCorrection k fs offs rates s
  | .staticSlotRead k slot => Sys2Proof.Machine.execStaticSlotRead k slot s
  | .staticSlot k slot => Sys2Proof.Machine.execStaticSlot k slot s
  | .dynamicSlot k id minislot => Sys2Proof.Machine.execDynamicSlot k id minislot s
  | .ttbFrameReceive k ch ts f => Sys2Proof.Machine.execTtbFrameReceive k ch ts f s
  | .ttbSlotEnd k id syntaxErr contentErr boundary => Sys2Proof.Machine.execTtbSlotEnd k id syntaxErr contentErr boundary s
  | .modeValidWrite q k v => Sys2Proof.Machine.execModeValidWrite q k v s
  | .ttbModeCtrlReq q k m => Sys2Proof.Machine.execTtbModeCtrlReq q k m s
  | .modeAgreement k => Sys2Proof.Machine.execModeAgreement k s
  | .couplerFailure c => Sys2Proof.Machine.execCouplerFailure c s
  | .couplerRecovery c => Sys2Proof.Machine.execCouplerRecovery c s
  | .fioIslandDown => Sys2Proof.Machine.execFioIslandDown s
  | .fioIslandUp => Sys2Proof.Machine.execFioIslandUp s
  | .fioSampleWindow mv ua => Sys2Proof.Machine.execFioSampleWindow mv ua s
  | .fioOutWrite q v => Sys2Proof.Machine.execFioOutWrite q v s
  | .outputUpdateInstant => Sys2Proof.Machine.execOutputUpdateInstant s
  | .shortLatchOff j => Sys2Proof.Machine.execShortLatchOff j s
  | .shortRetry j => Sys2Proof.Machine.execShortRetry j s
  | .fioShortClear q mask => Sys2Proof.Machine.execFioShortClear q mask s
  | .openLoad j => Sys2Proof.Machine.execOpenLoad j s
  | .fioWdogExpiry => Sys2Proof.Machine.execFioWdogExpiry s
  | .fioWdogKick q => Sys2Proof.Machine.execFioWdogKick q s
  | .fioEnWrite q v => Sys2Proof.Machine.execFioEnWrite q v s
  | .fioSafeClear q mask => Sys2Proof.Machine.execFioSafeClear q mask s
  | .markEdge i1 ts level => Sys2Proof.Machine.execMarkEdge i1 ts level s
  | .adcSample ts codes => Sys2Proof.Machine.execAdcSample ts codes s
  | .adcResult => Sys2Proof.Machine.execAdcResult s
  | .seqSwTrig q k => Sys2Proof.Machine.execSeqSwTrig q k s
  | .seqStart k => Sys2Proof.Machine.execSeqStart k s
  | .seqCompletion k => Sys2Proof.Machine.execSeqCompletion k s
  | .mkcSeqAck q k n => Sys2Proof.Machine.execMkcSeqAck q k n s
  | .mkcLogAck q k n => Sys2Proof.Machine.execMkcLogAck q k n s
  | .mkcSeqEnWrite q k v => Sys2Proof.Machine.execMkcSeqEnWrite q k v s
  | .mkcSeqStop q k => Sys2Proof.Machine.execMkcSeqStop q k s
  | .evtRouteWrite q src v => Sys2Proof.Machine.execEvtRouteWrite q src v s
  | .msixMessageSend v => Sys2Proof.Machine.execMsixMessageSend v s
  | .msixTimeLimit v => Sys2Proof.Machine.execMsixTimeLimit v s
  | .msixUnmask f v => Sys2Proof.Machine.execMsixUnmask f v s
  | .logRecordWrite l => Sys2Proof.Machine.execLogRecordWrite l s
  | .evtLogAck q l n => Sys2Proof.Machine.execEvtLogAck q l n s
  | .evtLogEnable q l v => Sys2Proof.Machine.execEvtLogEnable q l v s
  | .xltStrTail q k tail => Sys2Proof.Machine.execXltStrTail q k tail s
  | .streamAtMatch k => Sys2Proof.Machine.execStreamAtMatch k s
  | .chunkIssue host ecc => Sys2Proof.Machine.execChunkIssue host ecc s
  | .walkEntryRead i1 r => Sys2Proof.Machine.execWalkEntryRead i1 r s
  | .descriptorComplete k => Sys2Proof.Machine.execDescriptorComplete k s
  | .streamFaulted k => Sys2Proof.Machine.execStreamFaulted k s
  | .xltStrResume q k => Sys2Proof.Machine.execXltStrResume q k s
  | .xltStrAbort q k => Sys2Proof.Machine.execXltStrAbort q k s
  | .xltInvGo q kind ctx => Sys2Proof.Machine.execXltInvGo q kind ctx s
  | .invalidationComplete => Sys2Proof.Machine.execInvalidationComplete s
  | .xltFqAck q c n => Sys2Proof.Machine.execXltFqAck q c n s
  | .functionLevelReset f => Sys2Proof.Machine.execFunctionLevelReset f s
  | .d3hotEntry f => Sys2Proof.Machine.execD3hotEntry f s
  | .pcieLinkDown => Sys2Proof.Machine.execPcieLinkDown s
  | .hifDbCmd q r v => Sys2Proof.Machine.execHifDbCmd q r v s
  | .hifDbSts q r v => Sys2Proof.Machine.execHifDbSts q r v s
  | .descriptorFetch r host => Sys2Proof.Machine.execDescriptorFetch r host s
  | .hifRingEnable q r v => Sys2Proof.Machine.execHifRingEnable q r v s
  | .nop r => Sys2Proof.Machine.execNop r s
  | .devInfo r => Sys2Proof.Machine.execDevInfo r s
  | .domainPower r => Sys2Proof.Machine.execDomainPower r s
  | .reset r => Sys2Proof.Machine.execReset r s
  | .routeSet r => Sys2Proof.Machine.execRouteSet r s
  | .xltInvalidate r => Sys2Proof.Machine.execXltInvalidate r s
  | .streamCtrl r => Sys2Proof.Machine.execStreamCtrl r s
  | .cycleStart r => Sys2Proof.Machine.execCycleStart r s
  | .cycleStop r => Sys2Proof.Machine.execCycleStop r s
  | .periodChange r => Sys2Proof.Machine.execPeriodChange r s
  | .tabCommit r => Sys2Proof.Machine.execTabCommit r s
  | .imageSet r => Sys2Proof.Machine.execImageSet r s
  | .topoScan r => Sys2Proof.Machine.execTopoScan r s
  | .fdbAdd r => Sys2Proof.Machine.execFdbAdd r s
  | .fdbDel r => Sys2Proof.Machine.execFdbDel r s
  | .flowCommit r => Sys2Proof.Machine.execFlowCommit r s
  | .lvrCommit r => Sys2Proof.Machine.execLvrCommit r s
  | .profileLoad r => Sys2Proof.Machine.execProfileLoad r s
  | .profileUnload r => Sys2Proof.Machine.execProfileUnload r s
  | .profileStart r => Sys2Proof.Machine.execProfileStart r s
  | .profileInfo r => Sys2Proof.Machine.execProfileInfo r s
  | .courseStop r => Sys2Proof.Machine.execCourseStop r s
  | .ledgerRead r ecc host => Sys2Proof.Machine.execLedgerRead r ecc host s
  | .ledgerWrite r host => Sys2Proof.Machine.execLedgerWrite r host s
  | .imageInstall r host => Sys2Proof.Machine.execImageInstall r host s
  | .ledgerInfo r => Sys2Proof.Machine.execLedgerInfo r s
  | .ledgerCompact r => Sys2Proof.Machine.execLedgerCompact r s
  | .attest r host => Sys2Proof.Machine.execAttest r host s
  | .secSession r host => Sys2Proof.Machine.execSecSession r host s
  | .lifecycleSet r host => Sys2Proof.Machine.execLifecycleSet r host s
  | .keyRotate r => Sys2Proof.Machine.execKeyRotate r s
  | .cakInstall r host => Sys2Proof.Machine.execCakInstall r host s
  | .pairConfig r => Sys2Proof.Machine.execPairConfig r s
  | .claimSet r => Sys2Proof.Machine.execClaimSet r s
  | .pairStatus r => Sys2Proof.Machine.execPairStatus r s
  | .healthReport r host => Sys2Proof.Machine.execHealthReport r host s
  | .powerCap r => Sys2Proof.Machine.execPowerCap r s
  | .energyRead r => Sys2Proof.Machine.execEnergyRead r s
  | .feedTest r => Sys2Proof.Machine.execFeedTest r s
  | .timeRead r => Sys2Proof.Machine.execTimeRead r s
  | .domainSet r => Sys2Proof.Machine.execDomainSet r s
  | .timeStep r => Sys2Proof.Machine.execTimeStep r s
  | .ptpService r => Sys2Proof.Machine.execPtpService r s
  | .wktDataWrite q w d i1 v => Sys2Proof.Machine.execWktDataWrite q w d i1 v s
  | .wktGo q w d len => Sys2Proof.Machine.execWktGo q w d len s
  | .wktAck q w d => Sys2Proof.Machine.execWktAck q w d s
  | .wicketCrossed w => Sys2Proof.Machine.execWicketCrossed w s
  | .wktCfgWrite q w v => Sys2Proof.Machine.execWktCfgWrite q w v s
  | .transomRead q a n => Sys2Proof.Machine.execTransomRead q a n s
  | .transomWrite q a bs => Sys2Proof.Machine.execTransomWrite q a bs s
  | .queuedWritePerform => Sys2Proof.Machine.execQueuedWritePerform s
  | .beatComplete data err => Sys2Proof.Machine.execBeatComplete data err s
  | .rdyTimeout => Sys2Proof.Machine.execRdyTimeout s
  | .tryAgain => Sys2Proof.Machine.execTryAgain s
  | .retryGapExpiry => Sys2Proof.Machine.execRetryGapExpiry s
  | .lockTimeout => Sys2Proof.Machine.execLockTimeout s
  | .sidebandPoll raw => Sys2Proof.Machine.execSidebandPoll raw s
  | .ledgerWindowWrite q off size v => Sys2Proof.Machine.execLedgerWindowWrite q off size v s
  | .ledgerWriteAccept => Sys2Proof.Machine.execLedgerWriteAccept s
  | .journalRecordWrite => Sys2Proof.Machine.execJournalRecordWrite s
  | .ldgFlushGo q v => Sys2Proof.Machine.execLdgFlushGo q v s
  | .ldgQuotaWrite q v => Sys2Proof.Machine.execLdgQuotaWrite q v s
  | .applierQuantum bad => Sys2Proof.Machine.execApplierQuantum bad s
  | .compactionComplete => Sys2Proof.Machine.execCompactionComplete s
  | .ledgerScrubQuantum finds again => Sys2Proof.Machine.execLedgerScrubQuantum finds again s
  | .ledgerScrubLate => Sys2Proof.Machine.execLedgerScrubLate s
  | .pageRemap l spare => Sys2Proof.Machine.execPageRemap l spare s
  | .keyRotationComplete => Sys2Proof.Machine.execKeyRotationComplete s
  | .powerFailCommit => Sys2Proof.Machine.execPowerFailCommit s
  | .pfSeal => Sys2Proof.Machine.execPfSeal s
  | .tamper sensors live => Sys2Proof.Machine.execTamper sensors live s
  | .wipeDone => Sys2Proof.Machine.execWipeDone s
  | .scratchpadClearDone => Sys2Proof.Machine.execScratchpadClearDone s
  | .drbgHealthFail repetition proportion => Sys2Proof.Machine.execDrbgHealthFail repetition proportion s
  | .drbgStartRetry pass => Sys2Proof.Machine.execDrbgStartRetry pass s
  | .drbgReseed => Sys2Proof.Machine.execDrbgReseed s
  | .sessionExpiry => Sys2Proof.Machine.execSessionExpiry s
  | .pcsStby q v => Sys2Proof.Machine.execPcsStby q v s
  | .portcullisWake => Sys2Proof.Machine.execPortcullisWake s
  | .feedLost f mv => Sys2Proof.Machine.execFeedLost f mv s
  | .feedRestored f mv => Sys2Proof.Machine.execFeedRestored f mv s
  | .feedTestRound => Sys2Proof.Machine.execFeedTestRound s
  | .feedTestStep mv carries c => Sys2Proof.Machine.execFeedTestStep mv carries c s
  | .railMeasure rails feeds tj => Sys2Proof.Machine.execRailMeasure rails feeds tj s
  | .plannerRound words => Sys2Proof.Machine.execPlannerRound words s
  | .powerFailureDeclare mv => Sys2Proof.Machine.execPowerFailureDeclare mv s
  | .pfEnergyHandover ma mv dv => Sys2Proof.Machine.execPfEnergyHandover ma mv dv s
  | .powerFailRestart mv => Sys2Proof.Machine.execPowerFailRestart mv s
  | .claimWordSend => Sys2Proof.Machine.execClaimWordSend s
  | .claimWordReceive path w => Sys2Proof.Machine.execClaimWordReceive path w s
  | .claimPathAbsent path => Sys2Proof.Machine.execClaimPathAbsent path s
  | .latchEvaluation => Sys2Proof.Machine.execLatchEvaluation s
  | .holdExpiry => Sys2Proof.Machine.execHoldExpiry s
  | .mirrorRead torn => Sys2Proof.Machine.execMirrorRead torn s
  | .mirrorFrameReceive i1 first slots => Sys2Proof.Machine.execMirrorFrameReceive i1 first slots s
  | .mirrorDeadline => Sys2Proof.Machine.execMirrorDeadline s
  | .standbySelfTest results => Sys2Proof.Machine.execStandbySelfTest results s
  | .pairLinkLaneUp l => Sys2Proof.Machine.execPairLinkLaneUp l s
  | .pairLinkLaneDown l => Sys2Proof.Machine.execPairLinkLaneDown l s
  | .powerOnReset => Sys2Proof.Machine.execPowerOnReset s
  | .resetNAssert => Sys2Proof.Machine.execResetNAssert s
  | .resetNRelease => Sys2Proof.Machine.execResetNRelease s
  | .perstN => Sys2Proof.Machine.execPerstN s
  | .rstCtrlCold q => Sys2Proof.Machine.execRstCtrlCold q s
  | .rstCtrlWarm q => Sys2Proof.Machine.execRstCtrlWarm q s
  | .rstHostWrite q v => Sys2Proof.Machine.execRstHostWrite q v s
  | .resetTakesEffect => Sys2Proof.Machine.execResetTakesEffect s
  | .referenceStable => Sys2Proof.Machine.execReferenceStable s
  | .rstWdogKick q v => Sys2Proof.Machine.execRstWdogKick q v s
  | .rstWdogWarn => Sys2Proof.Machine.execRstWdogWarn s
  | .ccWatchdogExpiry => Sys2Proof.Machine.execCcWatchdogExpiry s
  | .selfTest => Sys2Proof.Machine.execSelfTest s
  | .fwSelect => Sys2Proof.Machine.execFwSelect s
  | .fwLoad => Sys2Proof.Machine.execFwLoad s
  | .ledgerRecovery => Sys2Proof.Machine.execLedgerRecovery s
  | .rstReady => Sys2Proof.Machine.execRstReady s
  | .safeHalt => Sys2Proof.Machine.execSafeHalt s
  | .bootDone q => Sys2Proof.Machine.execBootDone q s
  | .railOutOfRange r => Sys2Proof.Machine.execRailOutOfRange r s
  | .pwrTjHigh tj => Sys2Proof.Machine.execPwrTjHigh tj s
  | .pwrTjOver tj => Sys2Proof.Machine.execPwrTjOver tj s
  | .serdesReferenceRestored => Sys2Proof.Machine.execSerdesReferenceRestored s
  | .pcieReferenceRestored => Sys2Proof.Machine.execPcieReferenceRestored s
  | .pcieLinkUp => Sys2Proof.Machine.execPcieLinkUp s
  | .d0Entry f => Sys2Proof.Machine.execD0Entry f s
  | .perstNRelease => Sys2Proof.Machine.execPerstNRelease s
  | .railBackInRange r => Sys2Proof.Machine.execRailBackInRange r s
  | .portcullisReady => Sys2Proof.Machine.execPortcullisReady s
  | .finalReply r k host => Sys2Proof.Machine.execFinalReply r k host s
  | .xltFqEnable q c v => Sys2Proof.Machine.execXltFqEnable q c v s
  | .ambRxqEnable q c k v => Sys2Proof.Machine.execAmbRxqEnable q c k v s

end Sys2Proof.Machine
end

