-- ==== Sys2Proof/Safety.lean ====
section
/-! DEFINITION. What holds of a good state and of a good run. -/

namespace Sys2Proof.Machine

/-- The numbered state is in its canonical form: keys strictly rising. -/
def State.cellsSorted (s : State) : Bool := tblSorted s.cells

/-- The memories are in their canonical forms. -/
def State.memOk (s : State) : Bool := Memory.wf s.mem && tblSorted s.sram

/-- The state is as the operations keep it. -/
abbrev State.Inv (s : State) : Prop := s.cellsSorted = true ∧ Memory.wf s.mem = true ∧ tblSorted s.sram = true

/-- A step that answers a state. -/
def StepsTo (s t : State) : Prop := step s = .next t

/-- A run of `n` steps, each answering a state. -/
def RunsTo : Nat → State → State → Prop
  | 0, s, t => s = t
  | n + 1, s, t => ∃ u, StepsTo s u ∧ RunsTo n u t

/-- A command, met by a state, answers a state of which `P` holds. -/
def Gives (c : Instr) (s : State) (P : State → Prop) : Prop := ∃ t : State, exec c s = .next t ∧ P t

/-- Two states with the same numbered state, but for the copies of fields in `cs` and every copy of the fields in `Fs`. -/
def CellsBut (s t : State) (cs : List (Fld × Nat)) (Fs : List Fld) : Prop :=
  ∀ (F : Fld) (i : Nat), (∀ e ∈ cs, cellKey e.1 e.2 ≠ cellKey F i) → (∀ G ∈ Fs, G.id % 4096 ≠ F.id % 4096) →
    t.get F i = s.get F i

/-- Two states that differ in numbered state alone. -/
def Quiet (s t : State) : Prop := { t with cells := s.cells } = s

/-- Two states that differ in numbered state and in the events that wait for delivery alone. -/
def QuietE (s t : State) : Prop := { t with cells := s.cells, events := s.events } = s

/-- Two states that differ in numbered state, waiting events and what has left the part alone. -/
def QuietO (s t : State) : Prop := { t with cells := s.cells, events := s.events, out := s.out } = s

/-- The numbered state that raising an event may change (13 R301, R305). -/
def evtCells : List Fld := [EVT_SEEN_SEEN, VEC_K, VEC_FIRST, VEC_DUE, VEC_BND]

/-- Soundboard offsets `off` to `off + n - 1` that a write changes as it changes ordinary memory: in no out half, no status byte and
no pool cell (03 R58, R60, 04 R82). -/
abbrev SbPlain (s : State) (off n : Nat) : Prop := ∀ k : Nat, k < n → (s.started = false ∨ s.inHalf (1 - s.fillHalf) (off + k) = false) ∧
  s.inStatus 0 (off + k) = false ∧ s.inStatus 1 (off + k) = false ∧ s.inPool (off + k) = false

/-- Core `x.core` stands on the word of `x` and may issue it, no fault held (08 R190, R210). -/
abbrev StandsOn (x : Issue) (s : State) : Prop := mayIssue s x.core.val false = true ∧ s.get CORE_FP x.core.val = 0 ∧ fetchOff s x.core.val < execSize x.core.val ∧
  execWord s x.core.val (fetchOff s x.core.val) = x.word.toNat ∧ x.ecc ≠ .uncorr

/-- It does, and the word's condition holds (08 R196). -/
abbrev Stands (x : Issue) (s : State) : Prop := StandsOn x s ∧ condOk s x.core.val x.word.toNat = true

/-- Nothing that core `k` issued is still to land. -/
abbrev Still (k : Nat) (s : State) : Prop := (∀ f ∈ s.flights, f.core ≠ k) ∧ s.get CORE_MDBUSY k = 0

/-- Core `k` goes on: to the next instruction, or from a delay slot to where its transfer goes (08 R204). -/
abbrev GoesOn (k : Nat) (s t : State) : Prop :=
  t.pcWord k = (if s.get CORE_SLOT k = 0 then s.pcPlus k 1 else s.get CORE_SLOT_TO k % 2 ^ 20) ∧ t.get CORE_SLOT k = 0

/-- The numbered state that going on may change beside a result; a corrected fetch counts (07 R158). -/
def goCells (k : Nat) : List (Fld × Nat) :=
  [(CORE_PC, k), (CORE_CP, k), (CORE_SLOT, k), (CORE_WAIT, k), (CORE_STALL, k), (CORE_FREEZE, k), (CORE_SETUP, k), (CRS_STAT_ECC_CORR, k)]

/-- Address `a` of a data access (08 R189): bank BK, base register, and displacement `d` in bytes. -/
abbrev DataAt (k bk ra : Nat) (d : Int) (a : Nat) (s : State) : Prop :=
  a = s.get CORE_B (4 * k + bk) * 2 ^ 16 + ((((s.gReg k ra : Nat) : Int) + d).emod (2 ^ 16)).toNat

/-- The `n` words below the stack pointer of Course `k` lie from `base` up in its own memory, above its stack limit (08 R206). -/
abbrev StackAt (k n base : Nat) (s : State) : Prop := k < 32 ∧ s.get CRS_ON k = 1 ∧ s.gReg k 31 < 2 ^ 32 ∧ s.gReg k 31 % 4 = 0 ∧
  4 * n ≤ s.gReg k 31 % 2 ^ 16 ∧ s.get CORE_SLIM k ≤ s.gReg k 31 % 2 ^ 16 - 4 * n ∧
  base = s.get CORE_B (4 * k + 3) * 2 ^ 16 + (s.gReg k 31 % 2 ^ 16 - 4 * n) ∧ regionOf base = .course k

/-- Words have been pushed to `base`, word 0 the lowest, and no other byte has changed (08 R206). -/
abbrev Pushed (k base : Nat) (ws : List Nat) (s t : State) : Prop :=
  (List.range (4 * ws.length)).map (fun i => t.sramByte (base + i)) = ws.flatMap (toBytes 4) ∧
  (∀ a : Nat, a < base ∨ base + 4 * ws.length ≤ a → t.sramByte a = s.sramByte a) ∧ t.mem = s.mem ∧
  t.gReg k 31 = s.gReg k 31 - 4 * ws.length

/-- A transfer of core `k` will take effect after its delay slot, which is next (08 R204). -/
abbrev SlotNext (k dest : Nat) (s t : State) : Prop := t.pcWord k = s.pcPlus k 1 ∧ t.get CORE_SLOT k = 1 ∧ t.get CORE_SLOT_TO k = dest

/-- Vector `i` of Course `k` stands at offset `off` of its memory, clear of the `n` bytes at `base`, and holds `v` (08 R209). -/
abbrev VectorAt (k i base n v : Nat) (s : State) : Prop :=
  s.get CORE_VBASE k / 512 * 512 + 4 * i + 4 ≤ 0x8_0000 ∧ (k * 0x8_0000 + s.get CORE_VBASE k / 512 * 512 + 4 * i + 4 ≤ base ∨
    base + n ≤ k * 0x8_0000 + s.get CORE_VBASE k / 512 * 512 + 4 * i) ∧
  execWord s k (s.get CORE_VBASE k / 512 * 512 + 4 * i) = v

/-- The frame that entry pushes (08 R208). -/
def frameWords (k resume : Nat) (s : State) : List Nat :=
  [resume % 2 ^ 16 + (s.srWord k % 2 ^ 16 + s.get CORE_SLOT k * 2 ^ 13) * 2 ^ 16, s.get CORE_B (4 * k), s.get CORE_B (4 * k + 1),
   s.get CORE_B (4 * k + 2), s.get CORE_B (4 * k + 3), s.get CORE_SLOT k * s.get CORE_SLOT_TO k]

/-- Course `k` can take a fault of `cause`: none is being handled, the vector `v` is valid, and the frame finds its place. -/
abbrev CanFault (k cause base v : Nat) (s : State) : Prop := s.get CORE_FLT k = 0 ∧ StackAt k 6 base s ∧ Still k s ∧
  VectorAt k (64 + cause) base 24 v s ∧ v / 2 ^ 31 % 2 = 1 ∧ s.get CORE_SLOT k < 2

/-- It has taken the fault (08 R208 to R210). -/
abbrev FaultTaken (k cause code : Nat) (addr : Option Nat) (resume base v : Nat) (s t : State) : Prop :=
  Pushed k base (frameWords k resume s) s t ∧ t.pcWord k = v % 2 ^ 20 ∧ t.get CORE_LVL k = 2 ∧ t.get CORE_IEN k = 0 ∧
  t.get CORE_IEU k = 0 ∧ t.get CORE_FLT k = 1 ∧ t.get CORE_FCAUSE k = cause + code * 2 ^ 16 ∧
  t.get CORE_FADDR k = (match addr with
    | none => s.get CORE_FADDR k
    | some a => a % 2 ^ 40) ∧ t.get CORE_SLOT k = 0 ∧ (∀ r ∈ t.resvs, r.core ≠ k)

/-- Copy of `b` for class queue (p, c) is dropped by no port rule and admitted (04 R94, R105). -/
abbrev MayQueue (s : State) (p c : Nat) (b : List Byte) : Prop :=
  portClosed s false p = false ∧ admits s (s.get SBD_POOL_FREE 0) (cellsOf b.length) p c = true

/-- A frame of the octets `b` has joined class queue (p, c) and nothing has left (04 R94, R95). -/
abbrev Queued (p c : Nat) (b : List Byte) (s t : State) : Prop :=
  t.queues = s.queues ++ [⟨p, c, s.get FRAME_NEXT 0⟩] ∧ t.frames.take s.frames.length = s.frames ∧
  (t.frames.drop s.frames.length).map (fun f => (f.id, f.bytes, f.refs)) = [(s.get FRAME_NEXT 0, b, 1)] ∧ t.out = s.out ∧ t.mem = s.mem

/-- The numbered state that queueing a copy for (p, c), or dropping it, may change beside an event (04 R82, R94, R105). -/
def queueCells1 (p c : Nat) : List (Fld × Nat) :=
  [(FRAME_NEXT, 0), (SBD_POOL_FREE, 0), (POOL_WAS_LOW, 0), (SBD_QCNT_ADMIT_DROP, p * 8 + c), (SBD_PCNT_LINK_DROP, p)]

/-- Window `w` of the Transom takes far address `a` (15 R340). -/
abbrev InWindow (w a : Nat) (s : State) : Prop := s.get TRB_CFG_EN 0 = 1 ∧ w < 8 ∧
  s.get TRB_WIN_BASE w * 0x1_0000 ≤ a ∧ a < (s.get TRB_WIN_BASE w + s.get TRB_WIN_SIZE w) * 0x1_0000 ∧
  (∀ v : Nat, v < w → a < s.get TRB_WIN_BASE v * 0x1_0000 ∨ (s.get TRB_WIN_BASE v + s.get TRB_WIN_SIZE v) * 0x1_0000 ≤ a)

/-- No access waits for the far bus or is on it, and no lock is held. -/
abbrev FarIdle (s : State) : Prop := s.trbNow = none ∧ s.trbQueue = [] ∧ s.trbWait = [] ∧ s.get TRB_STAT_LOCKED 0 = 0

/-- A staged entry has been written as the next journal record, encrypted and tagged under the sector's counter and key, and its bytes
are the sector's durable ones (16 R352, R355, R359). -/
def Journalled (e : LdgEntry) (s t : State) : Prop := ∃ r : LdgRecord, t.journal = s.journal ++ [r] ∧ r.seq = s.get LDG_REC_SEQ 0 + 1 ∧
  t.get LDG_REC_SEQ 0 = s.get LDG_REC_SEQ 0 + 1 ∧ r.sector = e.sector ∧ r.cls = e.cls ∧ r.crc = r.crcOf ∧
  r.bytes = (List.range 256).map (fun i => durByte t (256 * e.sector + i)) ∧
  r.text = sectorText t e.sector (sectorCtr t e.sector) (t.get LDG_SECTOR_GEN e.sector) r.bytes ∧
  r.tag = toBytes 16 (t.get LDG_SECTOR_TAG e.sector) ∧ t.get LDG_SECTOR_GEN e.sector = genNow s e.sector % 2 ^ 32 ∧
  t.get LDG_SECTOR_TAG e.sector = ofBytes (sectorTag t e.sector (sectorCtr t e.sector) (genNow s e.sector) r.bytes) % 2 ^ 128 ∧
  r.dir = (if pageState s (e.sector / 16) = pageFree then some (pageUsed, s.get LDG_PHYS (e.sector / 16)) else none) ∧
  (∀ x ∈ e.bytes, durByte t (256 * e.sector + x.1) = x.2) ∧
  (∀ a : Nat, (∀ x ∈ e.bytes, 256 * e.sector + x.1 ≠ a) → durByte t a = durByte s a) ∧ t.mem = s.mem

/-- The journal's records follow one another in sequence, with their CRCs, each of a whole sector or of the directory alone (16 R359). -/
abbrev GoodRing (s : State) : Prop := s.journal.Pairwise (fun a b => a.seq < b.seq) ∧
  ∀ r ∈ s.journal, 0 < r.seq ∧ r.crc = r.crcOf ∧ (r.bytes = [] ∨ r.bytes.length = 256) ∧ r.sector < 2 ^ 18

/-- The directory's changes of pages, each page's state and physical page plus 1, are the next journal records, and nothing else but
numbered state, events and a request of compaction has changed (16 R361, R364). -/
def DirRecorded (ds : List (Nat × Nat × Nat)) (s t : State) : Prop :=
  t.journal.take s.journal.length = s.journal ∧
  (t.journal.drop s.journal.length).map (fun r => (r.sector, r.bytes, r.dir)) = ds.map (fun d => (16 * d.1, [], some d.2)) ∧
  (t.journal.drop s.journal.length).all (fun r => r.crc == r.crcOf) = true ∧
  { t with cells := s.cells, events := s.events, journal := s.journal, bgReqs := s.bgReqs } = s

/-- A write by `q` to offset `o` of the Ledger's window is not refused (16 R353, R365, R367). -/
abbrev LedgerTakes (q : Requester) (o : Nat) (s : State) : Prop := o < 0x3C0_0000 ∧ s.get LDG_STAT_STATE 0 < 2 ∧
  s.permit q (regionOf (0x2000_0000 + o)) (0x2000_0000 + o) true = .yes ∧ (pageState s (o / 4096) = pageFree ∨ pageState s (o / 4096) = pageUsed)

/-- The class that the Ledger gives a write of `q`: 0 ROUTINE, 1 IMPORTANT, 2 CRITICAL (16 R357). -/
def classOf (q : Requester) (s : State) : Nat := min 2 (if q = .pcs then s.get LDG_WCLS_PC_CLASS 0 else s.get LDG_WCLS_CC_CLASS 0)

/-- Class `c` has room for one more entry, and no reset or fatal-fault path waits (16 R358). -/
abbrev ClassRoom (c : Nat) (s : State) : Prop := c < 3 ∧ s.get RST_REQ 0 = 0 ∧ s.get FATAL_PATH 0 = 0 ∧
  (s.staged.filter (fun e => e.cls = c)).length < 256 * s.get (if c = 0 then LDG_QUOTA_ROUT else if c = 1 then LDG_QUOTA_IMP else LDG_QUOTA_CRIT) 0

/-- The newest bytes at offset `o` of the Ledger's window are `bs`, and no other of its bytes reads otherwise than before (16 R356). -/
abbrev NewestAre (o : Nat) (bs : List Byte) (s t : State) : Prop := (List.range bs.length).map (fun i => ldgNewest t (o + i)) = bs ∧
  ∀ a : Nat, a < o ∨ o + bs.length ≤ a → ldgNewest t a = ldgNewest s a

/-- The Ledger's background job `j` may run its quantum: granted, or for the applier and compaction, with the journal ring short
(16 R361). -/
abbrev LedgerMay (j : BgJob) (s : State) : Prop := s.get LDG_STAT_STATE 0 < 2 ∧ (j ∈ s.bgGrants ∨ ((j = .applier ∨ j = .compaction) ∧
  16 * s.get LDG_CAP_JOURNAL_PAGES 0 < s.journal.length + 256 * s.get LDG_QUOTA_CRIT 0 + 512))

/-- The tamper pins, as sensors 4 and 5, whose level POL sets and, with `held`, for as long as FILT asks (17 R395). -/
def pinSensors (pins : BitVec 2) (held0 held1 : Nat) (s : State) : Nat :=
  (if pins.getLsbD 0 = s.flag PCS_TMP_CFG_POL0 0 ∧ max 1 (s.get PCS_TMP_CFG_FILT0 0) ≤ held0 then 16 else 0) +
  (if pins.getLsbD 1 = s.flag PCS_TMP_CFG_POL1 0 ∧ max 1 (s.get PCS_TMP_CFG_FILT1 0) ≤ held1 then 32 else 0)

/-- The sensors that act (17 R395): in DEPLOYED the first four whatever EN holds, in SCRAPPED none. -/
def sensorsArmed (s : State) : Nat := match s.get PCS_LC_STATE 0 with
  | 4 => 0
  | 2 => s.get PCS_TMP_EN_EN 0 ||| 15
  | _ => s.get PCS_TMP_EN_EN 0

/-- The first four sensors that declare tamper on what they measure (17 R395): MESH 1, at two checks; LIGHT 2, for 10 µs; VOLT 4, an
excursion of VCORE out of 0.62 to 0.90 V that returns within 10 µs, or VAO out of 1.60 to 2.00 V; TEMP 8, out of −60 to 135 °C for 100 µs. -/
def readTampers (r : TamperReads) : Nat :=
  (if r.mesh.toNat ≠ 0 ∧ r.meshWas.toNat ≠ 0 then 1 else 0) + (if 10 ≤ r.light.toNat then 2 else 0) +
  (if (r.core.toNat ≠ 0 ∧ (r.core.toNat < 620 ∨ 900 < r.core.toNat) ∧ 700 ≤ r.coreBack.toNat ∧ r.coreBack.toNat ≤ 820 ∧ r.coreAfter.toNat < 100) ∨
    r.vao.toNat < 1600 ∨ 2000 < r.vao.toNat then 4 else 0) +
  (if (r.tj < -60 ∨ 135 < r.tj) ∧ 100 ≤ r.tjFor.toNat then 8 else 0)

/-- Those of them whose condition is present. -/
def readLive (r : TamperReads) : Nat :=
  (if r.mesh.toNat ≠ 0 then 1 else 0) + (if r.light.toNat ≠ 0 then 2 else 0) +
  (if (r.core.toNat ≠ 0 ∧ (r.core.toNat < 620 ∨ 900 < r.core.toNat) ∧ 700 ≤ r.coreBack.toNat ∧ r.coreBack.toNat ≤ 820 ∧ r.coreAfter.toNat < 100) ∨
    r.vao.toNat < 1600 ∨ 2000 < r.vao.toNat then 4 else 0) +
  (if r.tj < -60 ∨ 135 < r.tj then 8 else 0)

/-- A wipe has run (17 R393). -/
abbrev Wiped (s t : State) : Prop := t.get KEY_EPOCH 0 = (s.get KEY_EPOCH 0 + 1) % 2 ^ 32 ∧ t.get ENGINE_KEYS 0 = 0 ∧
  t.get PCS_STAT_WIPING 0 = 1 ∧ t.get SPAD_CLR 0 = 1 ∧ t.caks = [] ∧ t.get HIF_PF_SEC_SEC_EN 0 = 0 ∧
  (∀ a : Nat, 0x3000_0000 ≤ a → a < 0x3004_0000 → t.byte a = 0) ∧ (∀ a : Nat, 0x23B0_0000 ≤ a → a < 0x23C0_0000 → t.byte a = 0) ∧
  (∀ o : Nat, 0x3B0_0000 ≤ o → o < 0x3C0_0000 → ldgNewest t o = 0) ∧
  (∀ a : Nat, a < 0x23B0_0000 ∨ 0x23C0_0000 ≤ a → a < 0x3000_0000 ∨ 0x3004_0000 ≤ a → t.byte a = s.byte a)

/-- Every feed is there (18 R402). -/
abbrev FeedsThere (s : State) : Prop := ∀ f : Fin 4, s.get PWR_FEED_PRESENT f = 1

/-- Step `k` of a feed round has begun (18 R403): its paths are off, every other path is as before. -/
abbrev FeedStep (k : Nat) (s t : State) : Prop := t.get FT_STEP 0 = k ∧
  ∀ f : Nat, f < 4 → t.get PWR_FEED_PATH f = if f ∈ stepOff k then 2 else s.get PWR_FEED_PATH f

/-- The usable energy estimate `e`, in µJ, shows, and HOLDUP_LOW follows it (18 R413). -/
abbrev EstimateShown (e : Nat) (s t : State) : Prop := t.get PWR_PF_STAT_EST_UJ 0 = min 65535 (e / 10) ∧
  (e < 20000 → t.get PWR_STAT_HOLDUP_LOW 0 = 1 ∧ (s.get PWR_STAT_HOLDUP_LOW 0 = 0 → t.bit EVT_SEEN_SEEN 0 19 = true)) ∧
  (22000 ≤ e → t.get PWR_STAT_HOLDUP_LOW 0 = 0) ∧ (20000 ≤ e → e < 22000 → t.get PWR_STAT_HOLDUP_LOW 0 = s.get PWR_STAT_HOLDUP_LOW 0)

/-- The energy of rails 0 to 13 over this microsecond, in pJ (18 R406). -/
def railsPj (s : State) : Nat := ((List.range 14).map (fun r => s.get PWR_RAIL_MV r * s.get PWR_RAIL_MA r * 10)).sum

/-- What the island's own comparison of the two latest claim words gives (18 R421): 0 the stages follow their unit, 1 they hold, 2 they
are off. -/
def islandGrant (s : State) : Nat :=
  if s.flag RDN_CFG_EN 0 = false then 0
  else if s.get ISL_OWN 0 ≠ 0 ∧ (s.get ISL_OWN 0 - 1) / 2 ^ 8 % 2 = 1 ∧
      (if s.get ISL_PEER 0 = 0 then 0 else (s.get ISL_PEER 0 - 1) % 2 ^ 8) < (s.get ISL_OWN 0 - 1) % 2 ^ 8 then 0
  else if s.get ISL_PEER 0 ≠ 0 ∧ (s.get ISL_PEER 0 - 1) / 2 ^ 8 % 2 = 1 then 2
  else 1

/-- The numbered state of the island's outputs that a new comparison may change. -/
def islandCells : List Fld := [FIO_GATE, FIO_STAGE, FIO_OUT_ST_DRIVEN, FIO_LAST, FIO_OUT_FLT_SAFE]

/-- The effective claim of a unit (18 R417). -/
def claimNow (s : State) : Nat :=
  if s.flag PWR_STAT_PF 0 = true ∨ s.flag LIM_STAT_RUNNING 0 = false ∨ (s.flag RDN_CFG_AUTO_YIELD 0 = true ∧ s.flag RDN_STAT_OWN_FIT 0 = false) then 0
  else s.get RDN_CLAIM_CLAIM 0

/-- The standby takes mirror frames of range `i` in this cycle (18 R423). -/
abbrev Mirrors (s : State) : Prop := s.get RDN_CFG_EN 0 = 1 ∧ s.get RDN_CFG_MIRROR_EN 0 = 1 ∧ s.get RDN_STAT_ROLE 0 = 2 ∧ s.get LIM_PHASE 0 = 2 ∧
  s.get MIR_OVER 0 = 0

/-- `t` units of 1.25 ns after the latest boundary have passed. -/
abbrev PastBoundary (t : Nat) (s : State) : Prop := s.reached (s.get LIM_CYC_CTRL_DOM 0) ((s.get LIM_CUR 0 + t * 320) % 2 ^ 40) = true

/-- The lock bits (00 R7). -/
def lockFields : List Fld := [DEV_LOCK_LOCK, TMB_CTRL_LOCK, LIM_CYC_CTRL_LOCK, SBD_CTRL_LOCK, MAC_CFG_LOCK, TRK_SLICE_TAG_LOCK, FIO_CTRL_LOCK,
  TRB_CFG_LOCK, LDG_CTRL_LOCK, PCS_CTRL_LOCK, PWR_PF_LOCK, RDN_CFG_LOCK]

/-- A power-on or cold reset of class `cls` from source `src` has taken effect, with no tamper latched and no fuse being written (19
R428): the Ledger's arrays, the key store, the fuses and the always-on domain are as before, and everything else stands as at reset. -/
abbrev ColdReset (cls src : Nat) (s t : State) : Prop := t.get RST_CAUSE_CLASS 0 = cls ∧ t.get RST_CAUSE_SRC 0 = src ∧
  t.get CLK_STAT_ROOT_LOCK 0 = (if s.flag CLK_STAT_REF_OK 0 then 1 else 0) ∧ t.get CLK_STAT_BACKUP_OSC 0 = (if s.flag CLK_STAT_REF_OK 0 then 0 else 1) ∧
  { t with cells := [] } = { State.reset with
    pending := s.pending, mem := s.mem.filter (fun e => 0x2000_0000 ≤ e.1 ∧ e.1 < 0x2400_0000), journal := s.journal, anchors := s.anchors, dirCopies := s.dirCopies, ownerRec := s.ownerRec,
    rootKeys := s.rootKeys, caks := s.caks, out := s.out, freeCtr := s.freeCtr } ∧
  (∀ F ∈ coldKept, F ≠ TMP_LATCH → F ≠ CRS_EPOCH → ∀ i : Nat, t.get F i = s.get F i) ∧ t.get TMP_LATCH 0 = 0 ∧
  CellsBut State.reset t [(RST_CAUSE_CLASS, 0), (RST_CAUSE_SRC, 0), (CLK_STAT_ROOT_LOCK, 0), (CLK_STAT_BACKUP_OSC, 0), (DEV_CAP_DEBUG_OPEN, 0)]
    ([RESET_N_LOW, PERST_LOW] ++ coldKept)

/-- A warm reset from source `src` has taken effect, with no tamper latched (19 R428, R432): the Soundboard, the Ledger's arrays, the
line-time counters, the locks and the host link are kept; Courses are off; lines, ports, lanes, buses and Frets are stopped. -/
abbrev WarmReset (src : Nat) (s t : State) : Prop := t.get RST_CAUSE_CLASS 0 = 2 ∧ t.get RST_CAUSE_SRC 0 = src ∧ t.get RST_BOOT_STAGE 0 = 0 ∧
  t.get RSTO_N 0 = 0 ∧ t.get RST_REQ 0 = 0 ∧ t.get FATAL_PATH 0 = 0 ∧
  (∀ a : Nat, a < 0x2000_0000 ∨ (0x2000_0000 ≤ a ∧ a < 0x2400_0000) → t.byte a = s.byte a) ∧
  (∀ a : Nat, 0x3000_0000 ≤ a → a < 0x3004_0000 → t.byte a = 0) ∧ t.staged = [] ∧ t.ldgWait = [] ∧
  (∀ d : Fin 4, t.get TMB_CTR d = s.get TMB_CTR d) ∧ t.get PCIE_UP 0 = s.get PCIE_UP 0 ∧ t.get CLK_STAT_ROOT_LOCK 0 = s.get CLK_STAT_ROOT_LOCK 0 ∧
  (∀ F ∈ lockFields, ∀ i : Nat, t.get F i = s.get F i) ∧ (∀ n : Fin 32, t.get CRS_ON n = 0) ∧ t.get LIM_STAT_RUNNING 0 = 0 ∧
  (∀ p : Fin 32, t.get MAC_STAT_LINK p = 0) ∧ (∀ l : Fin 8, t.get TRK_PORT_STAT_LINK l = 0) ∧
  (∀ c : Fin 16, t.get AMB_CH_STAT_STATE c = if s.flag AMB_ON c then ambConfig else ambOff) ∧
  (∀ f : Fin 64, t.get FRT_STAT_RUN f = 0 ∧ t.get FRT_STAT_STOP_WHY f = 3 ∧ t.get FRT_SLOTS f = s.get FRT_CFG_SAFE f % 2 ^ 8) ∧
  (s.get RDN_CFG_EN 0 = 0 → t.get FIO_OUT_FLT_SAFE 0 % 2 ^ 16 = 2 ^ 16 - 1) ∧ t.trbWait = [] ∧ t.trbQueue = [] ∧ t.trbNow = none ∧ t.get TRB_STAT_LOCKED 0 = 0 ∧ t.out = s.out ∧ t.pending = s.pending ∧
  t.get RST_BOOT_RESETS 0 = min (s.get RST_BOOT_RESETS 0 + 1) (2 ^ 16 - 1)

/-- An endpoint reset from source `src` has taken effect (19 R428, 14 R338): the link, its configuration and the MSI-X tables are reset;
the line, its time, the Soundboard and every lock are as before. -/
abbrev EndpointReset (src : Nat) (s t : State) : Prop := t.get RST_CAUSE_CLASS 0 = 3 ∧ t.get RST_CAUSE_SRC 0 = src ∧ t.get PCIE_UP 0 = 0 ∧
  (∀ F ∈ [FN_D3, HIF_BAR, HIF_VF_ON, PCI_DEVCTL, PCI_DEVCTL2, PCI_AERCTL, PCI_LINK_SPEED, PCI_LINK_WIDTH, MSIX_ADDR, MSIX_DATA, MSIX_MASK, MSIX_EN,
    MSIX_FMASK], ∀ i : Nat, t.get F i = F.cold) ∧
  t.mem = s.mem ∧ t.sram = s.sram ∧ t.staged = s.staged ∧ t.get LIM_STAT_RUNNING 0 = s.get LIM_STAT_RUNNING 0 ∧
  (∀ d : Fin 4, t.get TMB_CTR d = s.get TMB_CTR d) ∧ (∀ p : Fin 32, t.get MAC_STAT_LINK p = s.get MAC_STAT_LINK p) ∧
  (∀ n : Fin 32, t.get CRS_ON n = s.get CRS_ON n) ∧ t.get RST_BOOT_STAGE 0 = s.get RST_BOOT_STAGE 0 ∧
  (∀ F ∈ lockFields, ∀ i : Nat, t.get F i = s.get F i)

/-- A reset of class `cls`, 1 cold or 2 warm, has been asked for by source `src`: it begins with a flush of the Ledger, joins the one under
way, or takes its place where it is higher (19 R429, R431). -/
abbrev ResetAsked (cls src : Nat) (s t : State) : Prop :=
  (s.get RST_REQ 0 = 0 → t.get RST_REQ 0 = cls ∧ t.get RST_REQ_SRC 0 = src ∧ t.get RST_REQ_AT 0 = s.get CORE_COUNT 0 % 2 ^ 64 ∧
    t.get LDG_TARGET 0 = s.get LDG_SEQ 0 % 2 ^ 64 ∧ ((∃ e ∈ s.staged, e.first ≤ s.get LDG_SEQ 0 % 2 ^ 64) ↔ t.get LDG_FLUSH_BUSY 0 = 1)) ∧
  (cls < s.get RST_REQ 0 → t.get RST_REQ 0 = cls ∧ t.get RST_REQ_SRC 0 = src ∧ t.get RST_REQ_AT 0 = s.get RST_REQ_AT 0) ∧
  (s.get RST_REQ 0 ≠ 0 → s.get RST_REQ 0 ≤ cls → t.get RST_REQ 0 = s.get RST_REQ 0 ∧ t.get RST_REQ_SRC 0 = s.get RST_REQ_SRC 0 ∧
    t.get RST_REQ_AT 0 = s.get RST_REQ_AT 0)

/-- Its frame. -/
abbrev AskedOnly (s t : State) : Prop := { t with cells := s.cells, events := s.events, cmds := s.cmds } = s ∧
  CellsBut s t [(RST_REQ, 0), (RST_REQ_SRC, 0), (RST_REQ_AT, 0), (LDG_TARGET, 0), (LDG_FLUSH_BUSY, 0)] evtCells

/-- The fatal-fault path has begun for cause `cause` (19 R433). -/
abbrev FatalTaken (cause : Nat) (s t : State) : Prop := t.get FATAL_PATH 0 = (if s.flag CLK_STAT_BACKUP_OSC 0 then 2 else 1) ∧
  t.get RST_FATAL_CAUSE 0 = cause ∧ t.get RST_FATAL_PC 0 = s.get CORE_PC 32 % 2 ^ 16 ∧ t.get RST_FATAL_CP 0 = s.get CORE_CP 32 % 2 ^ 4 ∧
  t.get RST_FATAL_TIME_NS 0 = s.nowNs (s.get LIM_CYC_CTRL_DOM 0) % 2 ^ 32 ∧ t.get CORE_CP 32 = 3 ∧ t.get LIM_STAT_RUNNING 0 = 0 ∧ t.get LIM_PHASE 0 = 0 ∧
  t.timed = [] ∧ t.assembled = [] ∧ t.sliceReads = [] ∧ t.twins = [] ∧
  (∀ n : Fin 32, t.get CRS_STAT_STATE n = if s.get CRS_STAT_STATE n = crsOff then crsOff else crsStopped) ∧
  (∀ f : Fin 64, t.get FRT_STAT_RUN f = 0 ∧ t.get FRT_SLOTS f = s.get FRT_CFG_SAFE f % 2 ^ 8) ∧
  (s.get RDN_CFG_EN 0 = 0 → t.get FIO_OUT_FLT_SAFE 0 % 2 ^ 16 = 2 ^ 16 - 1) ∧
  t.get RST_BOOT_FAILS 0 = min (s.get RST_BOOT_FAILS 0 + 1) 7 ∧ t.mem = s.mem ∧ t.staged = s.staged ∧
  (s.get CLK_STAT_BACKUP_OSC 0 = 0 → s.get RST_REQ 0 = 0 → t.get RST_REQ 0 = 2 ∧ t.get RST_REQ_SRC 0 = 9) ∧
  (s.get CLK_STAT_BACKUP_OSC 0 = 1 → t.get RST_REQ 0 = s.get RST_REQ 0)

/-- The firmware slot that the boot ROM tries first (19 R436): the higher GEN, or the lower when FAILS is 2 or 3. -/
def firstSlot (s : State) : Nat := (if slotWord s 0 0 / 2 ^ 8 < slotWord s 1 0 / 2 ^ 8 then 1 else 0) ^^^ (if s.get RST_BOOT_FAILS 0 / 2 = 1 then 1 else 0)

/-- Firmware slot `k` is VALID; it is, and its image is verified (16 R371, 17 R388). -/
abbrev SlotHolds (k : Nat) (s : State) : Prop := slotWord s k 0 % 2 ^ 2 = 2
abbrev SlotPasses (k : Nat) (s : State) : Prop := SlotHolds k s ∧ firmwareCheck s (slotImage s k) = 0

/-- The control core's private SRAM holds the sections of a firmware image, and no other byte of memory has changed (17 R387). -/
abbrev SectionsLoaded (img : List Byte) (s t : State) : Prop :=
  (sectionsApart (fun k => if k ≤ 2 then 0 else 1) (fwSectionsOf img) = true → (∀ x ∈ fwSectionsOf img, fwSectionFits x = true) →
    ∀ x ∈ fwSectionsOf img, x.kind ≤ 2 → (x.kind = 2 ∨ x.src + x.size ≤ img.length) → t.bytes (0x800_0000 + x.dest) x.size =
      (if x.kind = 2 then List.replicate x.size 0 else slice img x.src x.size)) ∧
  (∀ a : Nat, (∀ x ∈ fwSectionsOf img, x.kind ≤ 2 → a < 0x800_0000 + x.dest ∨ 0x800_0000 + x.dest + x.size ≤ a) → t.byte a = s.byte a)

/-- Fret `f` runs, on a powered block, no stall in progress, and stands on the entry word `e`, the levels captured for its slots
looked at (09 R223, R225, R226). -/
abbrev FretAt (f ins e act : Nat) (s : State) : Prop := s.get FRT_STAT_RUN f = 1 ∧ fretsOn s = true ∧ s.get FRT_STAT_STALLED f = 0 ∧
  e = s.get FRT_TBL (f * 1024 + 16 * s.get FRT_STAT_STATE f + fretIndex s f (slotSamples f ins (List.range 8) s).1) ∧
  e / 2 ^ 14 % 16 = act ∧
  s.get FRT_STAT_F0 f < 2 ∧ s.get FRT_STAT_F1 f < 2

/-- The entry `e` is done (09 R226): the slot values, the flags and the state; nothing else but what the cells `cs` name and the
level outside of a pin that nothing drove and that is now asked for (R223). -/
abbrev FretMoved (f e : Nat) (cs : List (Fld × Nat)) (s t : State) : Prop :=
  t.get FRT_SLOTS f = (if e / 2 ^ 22 % 2 = 1 then s.get FRT_SLOTS f else e / 2 ^ 6 % 2 ^ 8) ∧ t.get FRT_STAT_STATE f = e % 2 ^ 6 ∧
  t.get FRT_STAT_F0 f = (match e / 2 ^ 18 % 4 with
    | 0 => s.get FRT_STAT_F0 f
    | 1 => 1
    | 2 => 0
    | _ => 1 - s.get FRT_STAT_F0 f) ∧
  t.get FRT_STAT_F1 f = (match e / 2 ^ 20 % 4 with
    | 0 => s.get FRT_STAT_F1 f
    | 1 => 1
    | 2 => 0
    | _ => 1 - s.get FRT_STAT_F1 f) ∧ t.get FRT_STAT_STALLED f = 0 ∧ QuietE s t ∧
  CellsBut s t ([(FRT_SLOTS, f), (FRT_STAT_STATE, f), (FRT_STAT_F0, f), (FRT_STAT_F1, f), (FRT_DBG_CNT, f)] ++ cs)
    (PIN_HIST :: evtCells)

/-- The level that message bus channel `c` samples in a nominal bit lengthened by `shift` quanta: bit j of `w` is RXD in the bit's
peripheral clock period j (10 R240, R241). -/
def sampledAt (c shift w : Nat) (s : State) : Bool :=
  let n := s.get AMB_NBT_NTSEG1_M1 c + 1
  let q := s.get AMB_NBT_NBRP_M1 c + 1
  if s.get AMB_CH_CFG_TRIPLE c ≠ 0 ∧ 12 ≤ c then
    decide (2 ≤ (w.testBit ((n - 1 + shift) * q)).toNat + (w.testBit ((n + shift) * q)).toNat + (w.testBit ((n + 1 + shift) * q)).toNat)
  else w.testBit ((1 + n + shift) * q)

/-- The first edge from recessive to dominant of a bit up to the sample point is in period `j`; or the bit has none (10 R241). -/
abbrev EdgeAt (c w j : Nat) (s : State) : Prop := j < (s.get AMB_NBT_NTSEG1_M1 c + 2) * (s.get AMB_NBT_NBRP_M1 c + 1) ∧
  w.testBit j = true ∧ w.testBit (j + 1) = false ∧ ∀ i : Nat, i < j → w.testBit i = true → w.testBit (i + 1) = true
abbrev NoEdge (c w : Nat) (s : State) : Prop := ∀ i : Nat, i < (s.get AMB_NBT_NTSEG1_M1 c + 2) * (s.get AMB_NBT_NBRP_M1 c + 1) →
  w.testBit i = true → w.testBit (i + 1) = true

/-- Channel `c` takes the level `v` from a nominal bit that it does not send dominant: an edge resynchronises it by at most NSJW + 1
quanta (10 R241). -/
abbrev Taken (c w : Nat) (v : Bool) (s : State) : Prop := (NoEdge c w s ∧ sampledAt c 0 w s = v) ∨ ∃ j : Nat,
  j < (s.get AMB_NBT_NTSEG1_M1 c + 2) * (s.get AMB_NBT_NBRP_M1 c + 1) ∧ EdgeAt c w j s ∧
  sampledAt c (min (j / (s.get AMB_NBT_NBRP_M1 c + 1)) (s.get AMB_NBT_NSJW_M1 c + 1)) w s = v

/-- Buffer `b` of message bus channel `c` has completed (10 R250): words 4 to 6, PEND, DONE and the event; no other byte of
memory has changed. -/
abbrev AmbDone (c b status attempts sof : Nat) (s t : State) : Prop :=
  t.bit AMB_TX_PEND_PEND c b = false ∧ t.bit AMB_TX_DONE_DONE c b = true ∧ t.bit AMB_TX_CANCEL_CANCEL c b = false ∧
  t.mem = (s.putBytes (sbBase + 64 * s.get AMB_TXB_CFG_BASE c + 96 * b + 16) (toBytes 4 (status + attempts * 2 ^ 8 + 2 ^ 31) ++
    toBytes 4 (sof / 2 ^ 8) ++ toBytes 4 (sof % 2 ^ 8))).mem ∧
  (status ≠ 0 → t.bit EVT_SEEN_SEEN ((2689 + 16 * c) / 32) ((2689 + 16 * c) % 32) = true) ∧
  (status = 6 → t.get AMB_CNT1_TX_LATE_DROP c = min (s.get AMB_CNT1_TX_LATE_DROP c + 1) (2 ^ 8 - 1)) ∧
  (∀ j : Fin 32, j.val ≠ b → t.bit AMB_TX_PEND_PEND c j = s.bit AMB_TX_PEND_PEND c j)

/-- READY from CONFIG is refused for cluster `k` (11 R263). -/
abbrev TtbUnfit (k : Nat) (s : State) : Prop :=
  s.get TTB_CL_T1_STATIC_SLOTS k * s.get TTB_CL_T1_SLOT_MT k + s.get TTB_CL_T2_MINISLOTS k * s.get TTB_CL_T2_MINISLOT_MT k +
    s.get TTB_CL_T3_SYMWIN_MT k + s.get TTB_CL_T3_NIT_MT k ≠ s.get TTB_CL_T0_MPC k ∨
  s.get TTB_CL_T0_MT_UT k < 40 ∨ 480 < s.get TTB_CL_T0_MT_UT k ∨ s.get TTB_CL_T0_MPC k < 10 ∨ 16000 < s.get TTB_CL_T0_MPC k ∨
  s.get TTB_CL_T1_STATIC_SLOTS k < 2 ∨
  ((s.get TTB_KEY_SYNC k ≠ 0 ∨ s.get TTB_KEY_STARTUP k ≠ 0) ∧
    (s.get TTB_KEY_KEY_ID k = 0 ∨ s.get TTB_CL_T1_STATIC_SLOTS k < s.get TTB_KEY_KEY_ID k)) ∨
  (s.get TTB_KEY_STARTUP k ≠ 0 ∧ s.get TTB_KEY_SYNC k = 0) ∨
  s.get TTB_CL_T2_MINISLOTS k < s.get TTB_CL_T4_LATEST_TX k ∨
  s.get TTB_CL_T3_OFFCORR_START k + s.get TTB_CL_T3_NIT_MT k < s.get TTB_CL_T0_MPC k ∨
  s.get TTB_CL_T0_MPC k ≤ s.get TTB_CL_T3_OFFCORR_START k ∨
  (s.get TTB_MODE_CTRL_AGREE_EN k ≠ 0 ∧
    (2 * s.get TTB_CL_T1_STATIC_PLEN k < s.get TTB_MODE_CTRL_MODE_OFF k + 1 ∨ s.get TTB_KEY_SYNC k = 0)) ∨
  s.areaReserved (64 * s.get TTB_BUF_CFG_BASE k) (128 * 320) = false ∨
  s.bit TTB_MODE_VALID_VALID k (s.get TTB_MODE_CTRL_START_MODE k) = false

/-- The words of entry `e` of mode `m` of cluster `k` (11 R270). -/
abbrev SchAt (k m e w0 w1 : Nat) (s : State) : Prop :=
  s.get TTB_SCH (2048 * k + 256 * m + 2 * e) = w0 ∧ s.get TTB_SCH (2048 * k + 256 * m + 2 * e + 1) = w1

/-- The entries of mode `m` of cluster `k` but those named are unused (11 R270). -/
abbrev SchElse (k m : Nat) (es : List Nat) (s : State) : Prop :=
  ∀ e : Nat, e < 128 → e ∉ es → s.get TTB_SCH (2048 * k + 256 * m + 2 * e) % 2 ^ 11 = 0

/-- Sequence `k` has configuration that EN = 1 refuses with TRIG `trig` and MASK `mask` (12 R299). -/
abbrev SeqUnfit (k trig mask : Nat) (s : State) : Prop :=
  s.areaReserved (64 * s.get MKC_SEQ_RING_BASE k) (2 ^ min 8 (max 2 (s.get MKC_SEQ_RING_LOG2 k)) * (256 * s.get MKC_SEQ_RING_SLOT_K k)) = false ∨
  256 * s.get MKC_SEQ_RING_SLOT_K k < 32 + (if 8 ≤ k then 2 * (List.range 8).countP (fun c => mask.testBit c) else 8) *
    max 1 (s.get MKC_SEQ_N_MAXN k) ∨
  (8 ≤ k ∧ mask % 2 ^ 8 = 0) ∨ (k < 8 ∧ mask = 0) ∨ ((8 ≤ k ∨ trig = 3) ∧ s.get MKC_CTRL_ADC_EN 0 = 0)

/-- Soundboard offset of the slot that the running sequence `k` has claimed (12 R296). -/
abbrev SlotOf (k slot : Nat) (s : State) : Prop := slot = 64 * s.get MKC_SEQ_RING_BASE k +
  (s.get MKC_SEQ_PTR_HEAD k + s.get MKC_SEQ_PTR_COUNT k) % 2 ^ min 8 (max 2 (s.get MKC_SEQ_RING_LOG2 k)) * (256 * s.get MKC_SEQ_RING_SLOT_K k)

/-- A trigger of sequence `k` at `ts` has been logged with `action` (12 R298). -/
abbrev SeqLogged (k ts action : Nat) (s t : State) : Prop :=
  t.get MKC_LOG_NS (16 * k + (s.get MKC_LOG_PTR_HEAD k + s.get MKC_LOG_PTR_COUNT k) % 16) = ts / 2 ^ 8 ∧
  t.get MKC_LOG_FRAC (16 * k + (s.get MKC_LOG_PTR_HEAD k + s.get MKC_LOG_PTR_COUNT k) % 16) = ts % 2 ^ 8 ∧
  t.get MKC_LOG_ACTION (16 * k + (s.get MKC_LOG_PTR_HEAD k + s.get MKC_LOG_PTR_COUNT k) % 16) = action ∧
  (s.get MKC_LOG_PTR_COUNT k < 16 → t.get MKC_LOG_PTR_COUNT k = s.get MKC_LOG_PTR_COUNT k + 1) ∧
  (s.get MKC_LOG_PTR_COUNT k = 16 → t.get MKC_LOG_PTR_COUNT k = 16 ∧ t.get MKC_LOG_PTR_HEAD k = (s.get MKC_LOG_PTR_HEAD k + 1) % 16 ∧
    t.get MKC_LOG_PTR_LOST k = min (s.get MKC_LOG_PTR_LOST k + 1) (2 ^ 16 - 1)) ∧
  (s.get SEQ_LOGGED k = 0 → t.bit EVT_SEEN_SEEN ((3153 + 4 * k) / 32) ((3153 + 4 * k) % 32) = true)

/-- Device vector `v` belongs to function `f`: the lowest VF whose range holds it, else the PF (14 R324). -/
abbrev VecOf (v f : Nat) (s : State) : Prop :=
  (∀ g : Nat, g < 16 → 0 < g → (f = 0 ∨ g < f) →
    v < s.get HIF_VF_CFG_VEC_BASE g ∨ s.get HIF_VF_CFG_VEC_BASE g + min 128 (s.get HIF_VF_CFG_VEC_N g) ≤ v) ∧
  (f ≠ 0 → f < 16 ∧ s.get HIF_VF_CFG_VEC_BASE f ≤ v ∧ v < s.get HIF_VF_CFG_VEC_BASE f + min 128 (s.get HIF_VF_CFG_VEC_N f))

/-- The code of a requester in OWNER of a stream (13, `XLT_STR_CFG`); `none` for one that can own no stream. -/
def ownerCode : Requester → Option Nat
  | .course n => some n
  | .cc => some 32
  | .pf => some 33
  | .vf f => some (33 + f)
  | _ => none

/-- Requester `q` owns stream `k` (13 R308). -/
abbrev OwnsStream (q : Requester) (k : Nat) (s : State) : Prop := ownerCode q = some (s.get XLT_STR_CFG_OWNER k)

/-- Stream `k` runs its descriptor: LEN, SRC_VA, DST_VA, the operands and the bytes done (13 R308, R309); it has met no fault. -/
abbrev StreamAt (k len sva dva src dst done : Nat) (s : State) : Prop :=
  s.get XLT_STR_STAT_STATE k = 2 ∧ s.get STR_FK k = 0 ∧ s.get STR_END k = 0 ∧ s.get STR_TRB k = 0 ∧ s.xltFaults = [] ∧
  s.get STR_W (8 * k) % 2 ^ 24 = len ∧ s.get STR_W (8 * k) / 2 ^ 24 % 2 = sva ∧ s.get STR_W (8 * k) / 2 ^ 25 % 2 = dva ∧
  s.get STR_W (8 * k + 1) + 2 ^ 32 * s.get STR_W (8 * k + 2) = src ∧ s.get STR_W (8 * k + 3) + 2 ^ 32 * s.get STR_W (8 * k + 4) = dst ∧
  s.get XLT_STR_STAT_DONE_BYTES k = done

/-- `n` bytes of device addresses from `a` lie in the Soundboard. -/
abbrev InSoundboard (a n : Nat) : Prop := sbBase ≤ a ∧ a + n ≤ sbBase + 2 ^ 26

/-- No range of `n` host physical addresses from `a` meets a BAR or the peer window (13 R312). -/
abbrev NoDevice (s : State) (a n : Nat) : Prop := intoDevice s a n = false

/-- An ALU word of MAJ 0 (08 R191) that core `x.core` stands on, with its operands. -/
abbrev AluIn (x : Issue) (fn cond rd ra rb S a b : Nat) (s : State) : Prop :=
  x.word.toNat = cond * 2 ^ 28 + rd * 2 ^ 19 + ra * 2 ^ 14 + rb * 2 ^ 9 + S * 2 ^ 8 + fn * 2 ^ 4 ∧ Stands x s ∧
    s.gReg x.core ra = a ∧ s.gReg x.core rb = b ∧ a < 2 ^ 32 ∧ b < 2 ^ 32

/-- An ALU instruction of core `k` has ended with result `r` and, with S = 1, the flags N and Z, and C and V where given; with
nothing else to land it changed nothing else (08 R192, R197). -/
abbrev AluEnds (k rd S r : Nat) (c v : Option Bool) (s t : State) : Prop :=
  t.gReg k rd = (if rd = 0 then 0 else r) ∧ GoesOn k s t ∧
  (S = 1 → t.get CORE_Z k = (if r = 0 then 1 else 0) ∧ t.get CORE_N k = r / 2 ^ 31 ∧
    (c.isSome = true → t.get CORE_C k = (c.getD false).toNat) ∧ (v.isSome = true → t.get CORE_V k = (v.getD false).toNat)) ∧
  (Still k s → Quiet s t ∧ CellsBut s t ((if rd = 0 then [] else [(CORE_G, 32 * k + rd)]) ++
    (if S = 1 then [(CORE_Z, k), (CORE_N, k)] ++ (if c.isSome then [(CORE_C, k)] else []) ++ (if v.isSome then [(CORE_V, k)] else [])
      else []) ++ goCells k) [])

/-- The 56 parameter bytes of a descriptor: `bs`, and zeros (14 R326). -/
def parsOf (bs : List Byte) : List Byte := bs ++ List.replicate (56 - bs.length) 0

/-- The entries of a status ring (14 R327). -/
abbrev stsSize (s : State) (r : Nat) : Nat := 2 ^ min 12 (max 4 (s.get HIF_RING_CTRL_LOG2 r))

/-- Ring `r` runs, its status ring has room for a reply, and one translation of 1 GiB leads its addresses to `pa` (14 R327, 13 R313). -/
abbrev RingOpen (r pa : Nat) (s : State) : Prop :=
  s.get HIF_RING_STAT_STATE r = 1 ∧ (s.get RING_STS_TAIL r + stsSize s r - s.get RING_STS_HEAD r % stsSize s r) % stsSize s r + 1 < stsSize s r ∧
  s.get RING_STS_TAIL r < 2 ^ 12 ∧ 64 * s.get HIF_RING_STS_VA r + 2 ^ 17 ≤ 2 ^ 30 ∧ 64 * s.get HIF_RING_WB_VA r < 2 ^ 30 ∧
  s.tlb = [⟨s.get HIF_RING_OWN_CTX r, 2, 0, pa, true, true⟩] ∧ s.xltFaults = [] ∧ s.replies = []

/-- Damair firmware comes to a command of ring `r` with opcode `op`, flags, tag and parameter bytes `ps`, and its replies can be written
(14 R326 to R328). -/
abbrev Asks (r pa op flags tag : Nat) (ps : List Byte) (s : State) : Prop :=
  s.fetched = [⟨r, tag, op, flags, ps, false⟩] ∧ s.get RST_BOOT_STAGE 0 = 5 ∧ s.get FATAL_PATH 0 = 0 ∧ RingOpen r pa s ∧ s.get RST_CMD 0 = 0 ∧
  (flags / 2 % 2 = 0 ∨ s.cmds = [])

/-- A reply has been written to the status ring, then the write-back block, after what had left the part before (14 R326, R327). -/
abbrev Replies (r pa tag status detail : Nat) (body : List Byte) (before : List Output) (s t : State) : Prop :=
  t.out = before ++
    [.pcieWrite (s.get XLT_CTX_CFG_FUNC (s.get HIF_RING_OWN_CTX r)) (ctxPasid s (s.get HIF_RING_OWN_CTX r))
        (pa + 64 * s.get HIF_RING_STS_VA r + 32 * s.get RING_STS_TAIL r)
        (toBytes 4 tag ++ toBytes 2 status ++ toBytes 2 detail ++ body ++ List.replicate (24 - body.length) 0),
      .pcieWrite (s.get XLT_CTX_CFG_FUNC (s.get HIF_RING_OWN_CTX r)) (ctxPasid s (s.get HIF_RING_OWN_CTX r)) (pa + 64 * s.get HIF_RING_WB_VA r)
        (toBytes 4 (s.get HIF_RING_STAT_CMD_HEAD r) ++ toBytes 4 ((s.get RING_STS_TAIL r + 1) % stsSize s r) ++ List.replicate 8 0)] ∧
  t.get RING_STS_TAIL r = (s.get RING_STS_TAIL r + 1) % stsSize s r ∧ t.replies = []

/-- A command has ended with its final reply, HIF_CMD_DONE raised where its IRQ flag says so (14 R326, R339). -/
abbrev Answers (r pa flags tag status detail : Nat) (body : List Byte) (s t : State) : Prop :=
  Replies r pa tag status detail body s.out s t ∧ t.fetched = [] ∧ t.cmds = s.cmds ∧
  (flags % 2 = 1 → t.bit EVT_SEEN_SEEN (112 + r / 16) (2 * (r % 16)) = true)

/-- A command has been accepted and waits for `w`; before its reply `before` had left the part (14 R327). -/
abbrev Accepts (r pa op tag : Nat) (ps : List Byte) (w : CmdWait) (before : List Output) (s t : State) : Prop :=
  Replies r pa tag 1 0 [] before s t ∧ t.fetched = [] ∧ t.cmds = s.cmds ++ [⟨r, tag, op, false, w, none, ps, []⟩]

/-- A command has been accepted and its outcome is known; its final reply is still to come (14 R327). -/
abbrev AcceptsEnded (r pa op tag : Nat) (ps : List Byte) (status detail : Nat) (res : List Nat) (before : List Output) (s t : State) : Prop :=
  Replies r pa tag 1 0 [] before s t ∧ t.fetched = [] ∧
  t.cmds = s.cmds ++ [⟨r, tag, op, false, .firmware, some (status, detail, res), ps, []⟩]

/-- Two states that differ in numbered state, waiting events, what has left the part and the commands of rings alone. -/
def QuietH (s t : State) : Prop := { t with cells := s.cells, events := s.events, out := s.out, fetched := s.fetched, cmds := s.cmds } = s

/-- A command has ended with its final reply and done nothing else, as one that is refused (14 R330). -/
def JustAnswers (r pa flags tag status detail : Nat) (s t : State) : Prop :=
  Answers r pa flags tag status detail [] s t ∧ QuietH s t ∧ CellsBut s t [(RING_STS_TAIL, r), (RING_TURN, 0)] evtCells

/-- The staging memory takes the writes `ws` of class `c` at once, each to sectors of their own, and no reset waits (16 R358). -/
abbrev Takes (slot : Nat) (ws : List (Nat × List Byte)) (c : Nat) (s : State) : Prop :=
  slot < 8 ∧ s.ldgWait = [] ∧ s.get RST_REQ 0 = 0 ∧ s.staged = [] ∧ (ws.map (fun w => w.2.length / 256 + 2)).sum ≤ ldgQuota s c ∧
  s.get LDG_SEQ 0 + 2 ^ 13 < 2 ^ 64 ∧ s.get LDG_CMD 0 + 1 < 2 ^ 64

/-- The one accepted command, IMAGE_INSTALL of ring `r` with `tag`, parameters `ps` and image `img`, has made the writes `ws` to the
Ledger, newest first seen at its last covering write, and goes on with step `next` after the flush that it has begun (16 R370, R372). -/
def WritesThen (ws : List (Nat × List Byte)) (next r tag : Nat) (ps img : List Byte) (s t : State) : Prop :=
  t.mem = s.mem ∧ t.journal = s.journal ∧ t.get LDG_FLUSH_BUSY 0 = 1 ∧ s.get LDG_SEQ 0 < t.get LDG_SEQ 0 ∧
  t.get LDG_TARGET 0 = t.get LDG_SEQ 0 ∧ t.cmds = [⟨r, tag, 0x0502, false, .flush (t.get LDG_SEQ 0) next, none, ps, img⟩] ∧
  (∀ a : Nat, ldgNewest t a = match ws.find? (fun w => decide (w.1 ≤ a) && decide (a < w.1 + w.2.length)) with
    | some w => w.2.getD (a - w.1) 0
    | none => ldgNewest s a)

/-- The opcodes of 14 R331. -/
def hostOps : List Nat :=
  [0x0100, 0x0101, 0x0102, 0x0103, 0x0104, 0x0105, 0x0106, 0x0200, 0x0201, 0x0202, 0x0203, 0x0204, 0x0300, 0x0301,
   0x0302, 0x0303, 0x0304, 0x0400, 0x0401, 0x0402, 0x0403, 0x0404, 0x0500, 0x0501, 0x0502, 0x0503, 0x0504, 0x0600,
   0x0601, 0x0602, 0x0603, 0x0604, 0x0700, 0x0701, 0x0702, 0x0800, 0x0801, 0x0802, 0x0803, 0x0900, 0x0901, 0x0902,
   0x0903]

/-- A command of ring `r` with opcode `op` (14 R331), whatever its own accesses meet. -/
def HostRow (r : Fin 32) (op : Nat) (c : Instr) : Prop :=
  match op with
  | 0x0100 => c = .nop r
  | 0x0101 => c = .devInfo r
  | 0x0102 => c = .domainPower r
  | 0x0103 => c = .reset r
  | 0x0104 => c = .routeSet r
  | 0x0105 => c = .xltInvalidate r
  | 0x0106 => c = .streamCtrl r
  | 0x0200 => c = .cycleStart r
  | 0x0201 => c = .cycleStop r
  | 0x0202 => c = .periodChange r
  | 0x0203 => c = .tabCommit r
  | 0x0204 => c = .imageSet r
  | 0x0300 => c = .topoScan r
  | 0x0301 => c = .fdbAdd r
  | 0x0302 => c = .fdbDel r
  | 0x0303 => c = .flowCommit r
  | 0x0304 => c = .lvrCommit r
  | 0x0400 => c = .profileLoad r
  | 0x0401 => c = .profileUnload r
  | 0x0402 => c = .profileStart r
  | 0x0403 => c = .profileInfo r
  | 0x0404 => c = .courseStop r
  | 0x0500 => ∃ (e : List LdgEcc) (h : HostMem), c = .ledgerRead r e h
  | 0x0501 => ∃ h : HostMem, c = .ledgerWrite r h
  | 0x0502 => ∃ h : HostMem, c = .imageInstall r h
  | 0x0503 => c = .ledgerInfo r
  | 0x0504 => c = .ledgerCompact r
  | 0x0600 => ∃ h : HostMem, c = .attest r h
  | 0x0601 => ∃ h : HostMem, c = .secSession r h
  | 0x0602 => ∃ h : HostMem, c = .lifecycleSet r h
  | 0x0603 => c = .keyRotate r
  | 0x0604 => ∃ h : HostMem, c = .cakInstall r h
  | 0x0700 => c = .pairConfig r
  | 0x0701 => c = .claimSet r
  | 0x0702 => c = .pairStatus r
  | 0x0800 => ∃ h : HostMem, c = .healthReport r h
  | 0x0801 => c = .powerCap r
  | 0x0802 => c = .energyRead r
  | 0x0803 => c = .feedTest r
  | 0x0900 => c = .timeRead r
  | 0x0901 => c = .domainSet r
  | 0x0902 => c = .timeStep r
  | 0x0903 => c = .ptpService r
  | _ => False

/-- The opcodes that every function may issue, or a virtual function for what it holds (14 R331). -/
def anyOps : List Nat := [0x0100, 0x0101, 0x0105, 0x0106, 0x0403, 0x0503, 0x0600, 0x0702, 0x0800, 0x0802, 0x0900]

/-- The opcodes that need a secure session, and those without parameters (14 R331). -/
def secOps : List Nat := [0x0602, 0x0603, 0x0604]
def bareOps : List Nat := [0x0100, 0x0101, 0x0201, 0x0303, 0x0503, 0x0504, 0x0702, 0x0802]

/-- What the device says of itself and never changes (01 R20, R29). -/
def identityFields : List Fld := [DEV_ID_ID, DEV_RES0_COURSES, DEV_RES0_FRETS, DEV_RES0_FIELD_PORTS, DEV_RES0_TRUNK_LANES, DEV_RES1_AMB_CHANNELS,
  DEV_RES1_TTB_CLUSTERS, DEV_RES1_FIO_INPUTS, DEV_RES1_FIO_OUTPUTS, DEV_RES1_MARK_INPUTS, DEV_RES1_ADC_CHANNELS]

/-- A command by which a reset of the device can take effect (19 R427 to R433, 18 R411). -/
def mayReset (c : Instr) : Bool :=
  match c with
  | .powerOnReset | .resetNAssert | .powerFailRestart _ | .referenceStable | .resetTakesEffect => true
  | _ => false

/-- No step of the machine stops. -/
def Safe : Prop := ∀ s : State, ∃ t : State, StepsTo s t

end Sys2Proof.Machine
end

