-- ==== Sys2Proof/Certificates/Slice0/Obligations.lean ====
section
/-! DEFINITION. The statements for the provers, in the order of spec/'s chapters: for every command what it does to a state
that meets its conditions, and rules over all commands. Each clause names the rule it follows. -/

open Sys2Proof Sys2Proof.Machine

/-- The model's own: a step runs the command at the front of the queue, an empty queue idles, and no step stops (log entry 1) (R7). -/
def Obligations.QueueIsRun : Prop :=
  (∀ (c : Instr) (rest : List Instr) (s : State), s.pending = c :: rest → step s = exec c { s with pending := rest }) ∧
  (∀ (s : State), s.pending = [] → step s = .next s) ∧
  Safe

/-- The numbered state and the memories are in their canonical forms after reset, and no command waits (R18, R428). -/
def Obligations.InvariantAtReset : Prop :=
  State.reset.Inv ∧ State.reset.pending = []

/-- Every step keeps the canonical forms of the numbered state and of the memories, whatever command it runs (R18, R428, R6). -/
def Obligations.InvariantKept : Prop :=
  (∀ (s t : State), s.Inv → step s = .next t → t.Inv)

/-- No command but one by which a cold reset takes effect clears a lock bit or changes the identity registers; a power-on reset clears every lock bit (R7, R8, R20, R428). -/
def Obligations.LockBitsStay : Prop :=
  (∀ (c : Instr) (F : Fld) (i : Nat) (s : State), mayReset c = false → F ∈ lockFields → s.get F i = 1 → Gives c s (fun t => t.get F i = 1)) ∧
  (∀ (c : Instr) (F : Fld) (s : State), mayReset c = false → F ∈ identityFields → Gives c s (fun t => t.get F 0 = s.get F 0)) ∧
  (∀ (F : Fld) (i : Nat) (s : State), s.get RST_REQ 0 = 2 → s.get RST_CMD 0 = 0 → F ∈ lockFields → s.get F i = 1 →
    Gives .resetTakesEffect s (fun t => t.get F i = 1)) ∧
  (∀ (F : Fld) (i : Nat) (s : State), F ∈ lockFields → Gives .powerOnReset s (fun t => t.get F i = 0) ∧
    Gives .resetNAssert s (fun t => t.get F i = 0))

/-- A register write acts on each field by its access code, on a wrong width not at all (00 Scope R6, 00 Scope R4, 00 Scope R5, R7). -/
def Obligations.RegisterWritesByAccessCode : Prop :=
  (∀ (q : Requester) (v : BitVec 64) (s : State), s.permit q .registers 0x4010_0804 true = .yes →
    exec (.registerWrite q 0x4010_0804 2 v) s = .next (s.put CLK_HOLD_LIMIT_LIMIT 0 (v.toNat % 2 ^ 16))) ∧
  (∀ (q : Requester) (v : BitVec 64) (s : State), s.permit q .registers 0x4000_0020 true = .yes → s.get DEV_LOCK_LOCK 0 = 0 →
    exec (.registerWrite q 0x4000_0020 2 v) s =
      .next ((s.put DEV_HUB_HUB_NUM 0 (v.toNat % 2 ^ 6)).put DEV_HUB_LINE_ID 0 (v.toNat / 2 ^ 8 % 2 ^ 16))) ∧
  (∀ (q : Requester) (v : BitVec 64) (s : State), s.permit q .registers 0x4000_0020 true = .yes → s.get DEV_LOCK_LOCK 0 = 1 →
    exec (.registerWrite q 0x4000_0020 2 v) s = .next s) ∧
  (∀ (q : Requester) (v : BitVec 64) (s : State), s.permit q .registers 0x4000_0000 true = .yes →
    exec (.registerWrite q 0x4000_0000 2 v) s = .next s) ∧
  (∀ (q : Requester) (v : BitVec 64) (s : State), s.permit q .registers 0x4040_0020 true = .yes →
    s.get LIM_STAT_CHG_REJ 0 < 2 → s.get LIM_STAT_START_ERR 0 < 2 →
    Gives (.registerWrite q 0x4040_0020 2 v) s (fun t =>
      t.get LIM_STAT_CHG_REJ 0 = (if v.getLsbD 5 then 0 else s.get LIM_STAT_CHG_REJ 0) ∧
      t.get LIM_STAT_START_ERR 0 = (if v.getLsbD 6 then 0 else s.get LIM_STAT_START_ERR 0) ∧
      Quiet s t ∧ CellsBut s t [(LIM_STAT_CHG_REJ, 0), (LIM_STAT_START_ERR, 0)] [])) ∧
  (∀ (q : Requester) (v : BitVec 64) (s : State), s.permit q .registers 0x4000_0024 true = .yes → s.get DEV_LOCK_LOCK 0 = 0 →
    exec (.registerWrite q 0x4000_0024 2 v) s = .next (s.put DEV_LOCK_LOCK 0 (v.toNat % 2))) ∧
  (∀ (q : Requester) (v : BitVec 64) (s : State), s.permit q .registers 0x4000_0100 true = .yes →
    exec (.registerWrite q 0x4000_0100 2 v) s = .next s) ∧
  (∀ (q : Requester) (size : Fin 4) (v : BitVec 64) (s : State), q = .cc ∨ q = .pcs ∨ q = .pf → size ≠ 2 →
    exec (.registerWrite q 0x4000_0020 size v) s = .next (s.emit (.errorResponse q 0x4000_0020 2))) ∧
  (∀ (q : Requester) (s : State), s.permit q .registers 0x4000_0024 true = .yes →
    exec (.lockBitSet q 0x4000_0024) s = .next (s.put DEV_LOCK_LOCK 0 1))

/-- A register read answers the register and clears its RC fields; halves of 64-bit registers capture and hold (00 Scope R4, 00 Scope R6, R9). -/
def Obligations.RegisterReadsAndHalves : Prop :=
  (∀ (q : Requester) (a : BitVec 43) (size : Fin 4) (r : RegInfo) (i : Nat) (s : State), a.toNat < 2 ^ 40 →
    regionOf a.toNat = .registers → s.permit q .registers a.toNat false = .yes → named s a.toNat (2 ^ size.val) = .whole r i →
    r.num ≠ N_FRT_RXQ → r.num ≠ N_MKC_SEQ_CNT →
    exec (.readClear q a size) s = .next ((s.clearRC i 0 64 r.flds).emit (.readData q a.toNat (regValue r i s)))) ∧
  (∀ (q : Requester) (a : BitVec 43) (r : RegInfo) (i : Nat) (s : State), a.toNat < 2 ^ 40 →
    regionOf a.toNat = .registers → s.permit q .registers a.toNat false = .yes → named s a.toNat 4 = .lower r i →
    r.num ≠ N_FRT_RXQ → r.num ≠ N_MKC_SEQ_CNT →
    exec (.lowerHalfRead q a) s =
      .next (((((s.clearRC i 0 64 r.flds).put HALF_CAP_ON q.num 1).put HALF_CAP_ADDR q.num a.toNat).put HALF_CAP_VAL q.num
        (regValue r i s / 2 ^ 32)).emit (.readData q a.toNat (regValue r i s % 2 ^ 32)))) ∧
  (∀ (q : Requester) (a : BitVec 43) (r : RegInfo) (i : Nat) (s : State), a.toNat + 4 < 2 ^ 40 →
    regionOf (a.toNat + 4) = .registers → s.permit q .registers (a.toNat + 4) false = .yes →
    named s (a.toNat + 4) 4 = .upper r i → r.num ≠ N_FRT_RXQ → r.num ≠ N_MKC_SEQ_CNT →
    exec (.upperHalfRead q a) s = .next
      (if s.get HALF_CAP_ON q.num ≠ 0 ∧ s.get HALF_CAP_ADDR q.num = a.toNat then
        (s.put HALF_CAP_ON q.num 0).emit (.readData q (a.toNat + 4) (s.get HALF_CAP_VAL q.num))
      else (s.clearRC i 32 64 r.flds).emit (.readData q (a.toNat + 4) (regValue r i s / 2 ^ 32)))) ∧
  (∀ (q : Requester) (v : Word) (s : State), s.permit q .registers 0x4070_0040 true = .yes →
    exec (.lowerHalfWrite q 0x4070_0040 v) s = .next
      (((s.put HALF_HELD_ON q.num 1).put HALF_HELD_ADDR q.num 0x4070_0040).put HALF_HELD_VAL q.num v.toNat)) ∧
  (∀ (q : Requester) (v : Word) (s : State), s.permit q .registers 0x4070_0044 true = .yes →
    s.get TRK_SLICE_TAG_LOCK 0 = 0 → s.get TRK_SLICE_DA_DA 0 < 2 ^ 48 → s.get HALF_HELD_VAL q.num < 2 ^ 32 →
    Gives (.upperHalfWrite q 0x4070_0040 v) s (fun t =>
      t.get TRK_SLICE_DA_DA 0 = v.toNat % 2 ^ 16 * 2 ^ 32 +
        (if s.get HALF_HELD_ON q.num ≠ 0 ∧ s.get HALF_HELD_ADDR q.num = 0x4070_0040 then s.get HALF_HELD_VAL q.num
        else s.get TRK_SLICE_DA_DA 0 % 2 ^ 32) ∧
      (s.get HALF_HELD_ADDR q.num = 0x4070_0040 → t.get HALF_HELD_ON q.num = 0) ∧
      Quiet s t ∧ CellsBut s t [(TRK_SLICE_DA_DA, 0), (HALF_HELD_ON, q.num)] [])) ∧
  (∀ (s : State) (i lo hi : Nat) (Fs : List Fld), (∀ F ∈ Fs, F.acc = .rc → F.cold = 0) →
    (∀ F ∈ Fs, F.acc = .rc → lo ≤ F.lo → F.lo < hi → (s.clearRC i lo hi Fs).get F i = 0) ∧
    Quiet s (s.clearRC i lo hi Fs) ∧
    CellsBut s (s.clearRC i lo hi Fs) ((Fs.filter (fun F => F.acc = .rc && decide (lo ≤ F.lo) && decide (F.lo < hi))).map (fun F => (F, i))) [])

/-- Loss and return of the clock references: holdover, its limit, and the lanes and links of the other references (R14, R15, R433, 21 Status and event catalogue R465). -/
def Obligations.ClockReferenceEvents : Prop :=
  (∀ s : State, s.get CLK_STAT_REF_OK 0 = 1 → s.get CLK_STAT_BACKUP_OSC 0 = 0 →
    exec .referenceLost s = .next (((((s.put CLK_STAT_REF_OK 0 0).put CLK_STAT_ROOT_LOCK 0 0).put CLK_LOST_AT 0
      (s.get CORE_COUNT 0)).put CLK_STAT_HOLDOVER 0 1).raise 2)) ∧
  (∀ s : State, s.get CLK_STAT_REF_OK 0 = 0 → s.get CLK_STAT_HOLDOVER 0 = 1 →
    exec .referenceRestored s = .next (((((s.put CLK_STAT_REF_OK 0 1).put CLK_REF_AT 0 (s.get CORE_COUNT 0)).put
      CLK_STAT_HOLDOVER 0 0).put CLK_STAT_ROOT_LOCK 0 1).raise 3 ((s.get CORE_COUNT 0 - s.get CLK_LOST_AT 0) / 800))) ∧
  (∀ s : State, s.get CLK_STAT_HOLDOVER 0 = 1 → s.get FATAL_PATH 0 = 0 →
    s.get CLK_LOST_AT 0 + max 1 (s.get CLK_HOLD_LIMIT_LIMIT 0) * 100 * 800 ≤ s.get CORE_COUNT 0 →
    Gives .holdoverLimitExpiry s (fun t => t.get CLK_STAT_HOLDOVER 0 = 0 ∧ t.get CLK_STAT_BACKUP_OSC 0 = 1 ∧
      t.get FATAL_PATH 0 = 2 ∧ t.get RST_FATAL_CAUSE 0 = 0xF0 ∧ t.get CORE_CP 32 = 3 ∧ t.get LIM_STAT_RUNNING 0 = 0)) ∧
  (∀ s : State, s.get CLK_STAT_SERDES_REF_OK 0 = 1 →
    Gives .serdesReferenceLoss s (fun t => t.get CLK_STAT_SERDES_REF_OK 0 = 0 ∧
      (∀ p : Fin 16, t.get MAC_STAT_LINK (16 + p.val) = 0) ∧ (∀ l : Fin 8, portOfLane s l = l → t.get TRK_PORT_STAT_LINK l = 0) ∧
      t.get CLK_STAT_ROOT_LOCK 0 = s.get CLK_STAT_ROOT_LOCK 0 ∧ t.get CLK_STAT_HOLDOVER 0 = s.get CLK_STAT_HOLDOVER 0)) ∧
  (∀ s : State, s.get CLK_STAT_SERDES_REF_OK 0 = 0 →
    Gives .serdesReferenceRestored s (fun t => t.get CLK_STAT_SERDES_REF_OK 0 = 1 ∧
      t.get CLK_STAT_ROOT_LOCK 0 = s.get CLK_STAT_ROOT_LOCK 0)) ∧
  (∀ s : State, s.get CLK_STAT_PCIE_REF_OK 0 = 1 →
    Gives .pcieReferenceLoss s (fun t => t.get CLK_STAT_PCIE_REF_OK 0 = 0 ∧ t.get PCIE_UP 0 = 0 ∧
      t.get CLK_STAT_ROOT_LOCK 0 = s.get CLK_STAT_ROOT_LOCK 0 ∧ t.get CLK_STAT_HOLDOVER 0 = s.get CLK_STAT_HOLDOVER 0)) ∧
  (∀ s : State, s.get CLK_STAT_PCIE_REF_OK 0 = 0 →
    exec .pcieReferenceRestored s = .next ((s.put CLK_STAT_PCIE_REF_OK 0 1).put CFG_AT 0 (s.get CORE_COUNT 0 + 20 * 800000)))

/-- Turning a power domain on or off: what its memory and its state become, and what stays (R16, R17, 17 Portcullis R400, 10 Arbitrated message bus R241, 11 Time-triggered bus R264). -/
def Obligations.DomainPowerEvents : Prop :=
  (∀ (d : Fin 94) (n : Nat) (s : State), d.val = n → n < 32 → s.get CRS_ON n = 0 →
    Gives (.domainTurnOn d) s (fun t => t.get CRS_ON n = 1 ∧ t.get CRS_STAT_STATE n = crsStopped ∧
      (∀ e ∈ t.sram, e.1 / 0x8_0000 ≠ n) ∧
      t.sram.filter (fun e => e.1 / 0x8_0000 ≠ n) = s.sram.filter (fun e => e.1 / 0x8_0000 ≠ n) ∧ t.mem = s.mem)) ∧
  (∀ (d : Fin 94) (n : Nat) (s : State), d.val = n → n < 32 → s.get CRS_ON n = 1 →
    Gives (.domainTurnOff d) s (fun t => t.get CRS_ON n = 0 ∧ t.get CRS_STAT_STATE n = crsOff ∧ t.get CRS_STAT_HALT_WHY n = 0 ∧
      (∀ e ∈ t.sram, e.1 / 0x8_0000 ≠ n) ∧ (∀ e ∈ t.dir, e.holders.contains n = false))) ∧
  (∀ s : State, s.domOn domPortcullis = false → (domRails domPortcullis).all (fun r => !s.flag RAIL_BAD r) = true →
    s.get TMP_LATCH 0 = 0 →
    Gives (.domainTurnOn 32) s (fun t => t.domOn domPortcullis = true ∧ t.get PCS_STAT_STATE 0 = pcsBooting ∧
      (∀ a : Nat, 0x3000_0000 ≤ a → a < 0x3004_0000 → t.byte a = 0))) ∧
  (∀ s : State, s.domOn domPortcullis = true →
    Gives (.domainTurnOff 32) s (fun t => t.domOn domPortcullis = false ∧ t.get PCS_STAT_STATE 0 = pcsOff ∧
      t.get ENGINE_KEYS 0 = 0 ∧ (∀ a : Nat, 0x3000_0000 ≤ a → a < 0x3004_0000 → t.byte a = 0))) ∧
  (∀ (d : Fin 94) (c : Nat) (s : State), d.val = 73 + c → c < 16 → s.get AMB_ON c = 0 →
    Gives (.domainTurnOn d) s (fun t => t.get AMB_ON c = 1 ∧ t.get AMB_CH_STAT_STATE c = ambConfig ∧
      CellsBut s t [(AMB_ON, c), (AMB_CH_STAT_STATE, c)] [] ∧ { t with cells := s.cells, cmds := s.cmds } = s)) ∧
  (∀ (d : Fin 94) (c : Nat) (s : State), d.val = 73 + c → c < 16 → s.get AMB_ON c = 1 →
    Gives (.domainTurnOff d) s (fun t => t.get AMB_ON c = 0 ∧ t.get AMB_CH_STAT_STATE c = ambOff ∧
      t.get AMB_ERRC_TEC c = 0 ∧ t.get AMB_ERRC_REC c = 0 ∧
      CellsBut s t [(AMB_ON, c), (AMB_CH_STAT_STATE, c), (AMB_CUR, c), (AMB_TECX, c), (AMB_ERRC_TEC, c), (AMB_ERRC_REC, c),
        (AMB_ERRC_LEC, c), (AMB_CH_STAT_FAULT, c), (AMB_WANT, c), (AMB_CUT, c)] [] ∧
      t.ambTries = s.ambTries.filter (fun e => e.chan ≠ c) ∧
      { t with cells := s.cells, cmds := s.cmds, ambTries := s.ambTries } = s)) ∧
  (∀ (d : Fin 94) (s : State), d.val < 39 → 32 < d.val → s.get DOM_OFF d = 1 →
    Gives (.domainTurnOn d) s (fun t => t.get DOM_OFF d = 0 ∧ CellsBut s t [(DOM_OFF, d.val)] [] ∧
      { t with cells := s.cells, cmds := s.cmds } = s)) ∧
  (∀ (d : Fin 94) (s : State), s.domOn d = true → exec (.domainTurnOn d) s = .next (s.settle (.power d true) 0 0 [])) ∧
  (∀ (d : Fin 94) (s : State), s.domOn d = false → exec (.domainTurnOff d) s = .next (s.settle (.power d false) 0 0 []))

/-- The line-time counters: how they advance, the limits of the increment, steps, and the snapshot (R31, R32, R35, R37, R38). -/
def Obligations.LineTimeCounters : Prop :=
  (∀ (n : Nat) (s : State), (∀ d : Fin 16, s.get TMB_STEP_ON d = 0) →
    Gives (.timeBaseTick n) s (fun t => t.get CORE_COUNT 0 = (s.get CORE_COUNT 0 + n) % 2 ^ 64 ∧
      (∀ d : Fin 16, s.get TMB_DOM_CFG_MODE d = 0 → t.get TMB_CTR d = s.get TMB_CTR d) ∧
      (∀ d : Fin 16, s.get TMB_DOM_CFG_MODE d ≠ 0 → t.get TMB_CTR d =
        (s.get TMB_CTR d + n * (s.get TMB_DOM_INC_NS d * 2 ^ 40 + s.get TMB_DOM_INC_FRAC d)) % 2 ^ 72))) ∧
  (∀ (n : Nat) (s : State), (∀ d : Fin 16, s.get TMB_STEP_ON d = 0) → s.wires = [] → s.hooked = [] → s.hookIn = [] → s.trbQueue = [] →
    s.arriving = [] → s.get ISL_OWN 0 = 0 → s.get ISL_PEER 0 = 0 → (∀ k : Fin 4, s.get TTB_COLD k = 0) →
    Gives (.timeBaseTick n) s (fun t => Quiet s { t with ctrRuns := s.ctrRuns, corrRuns := s.corrRuns } ∧
      CellsBut s t [(CORE_COUNT, 0)] [TMB_CTR, TMB_EDGES, TMB_DOM_STAT_EPOCH_STALE, EPOCH_WAIT, BUSY_NOW, CRS_STALL_STALL_CYC, PIN_HIST,
        MAC_EB_EXCESS, EB_DIR, EB_AT, TRK_LANE_STAT_SYNTH_LOCK])) ∧
  (∀ (q : Requester) (d : Fin 16) (v : BitVec 64) (s : State), s.permit q .registers (tmbAddr 0x10 d) true = .yes →
    s.get TMB_DOM_CFG_MODE d ≠ 2 →
    Gives (.tmbDomIncWrite q d v) s (fun t => t.get TMB_DOM_INC_NS d * 2 ^ 40 + t.get TMB_DOM_INC_FRAC d =
        max (min (v.toNat % 2 ^ 44) (0x0140_0000_0000 + 1374389534)) (0x0140_0000_0000 - 1374389534) ∧
      Quiet s t ∧ CellsBut s t [(TMB_DOM_INC_NS, d), (TMB_DOM_INC_FRAC, d), (SRV_INCW_SEEN, d), (SRV_INCW_NS, d),
        (SRV_INCW_AT, d)] [])) ∧
  (∀ (q : Requester) (d : Fin 16) (v : BitVec 64) (s : State), s.permit q .registers (tmbAddr 0x10 d) true = .yes →
    s.get TMB_DOM_CFG_MODE d = 2 → exec (.tmbDomIncWrite q d v) s = .next s) ∧
  (∀ (q : Requester) (s : State), s.permit q .registers 0x4030_0004 true = .yes →
    Gives (.tmbSnap q) s (fun t => (∀ d : Fin 16, t.get TMB_DOM_SNAP_NS d = s.get TMB_CTR d / 2 ^ 40 % 2 ^ 32 ∧
        t.get TMB_DOM_SNAP_FRAC d = s.get TMB_CTR d / 2 ^ 32 % 2 ^ 8) ∧
      Quiet s t ∧ CellsBut s t [] [TMB_DOM_SNAP_NS, TMB_DOM_SNAP_FRAC])) ∧
  (∀ (q : Requester) (d : Fin 16) (v : BitVec 40) (s : State), s.permit q .registers (tmbAddr 0x18 d) true = .yes →
    (s.get LIM_STAT_RUNNING 0 = 0 ∨ s.get LIM_CYC_CTRL_DOM 0 ≠ d) →
    exec (.tmbDomStep q d v) s = .next ((s.put TMB_STEP_ON d 1).put TMB_STEP_VAL d v.toNat)) ∧
  (∀ (q : Requester) (d : Fin 16) (v : BitVec 40) (s : State), s.permit q .registers (tmbAddr 0x18 d) true = .yes →
    s.get LIM_STAT_RUNNING 0 = 1 → s.get LIM_CYC_CTRL_DOM 0 = d →
    exec (.tmbDomStep q d v) s = .next ((s.put TMB_DOM_CNT1_STEP_BLOCKED d
      (min (s.get TMB_DOM_CNT1_STEP_BLOCKED d + 1) 255)).raise (1923 + 4 * d))) ∧
  (∀ (d : Fin 16) (s : State), s.get TMB_STEP_ON d = 1 → s.get TMB_STEP_VAL d < 2 ^ 40 → s.get SMP_ON d = 1 →
    (s.get LIM_STAT_RUNNING 0 = 0 ∨ s.get LIM_CYC_CTRL_DOM 0 ≠ d) →
    Gives (.stepApply d) s (fun t => (t.get TMB_CTR d : Int) =
        (s.get TMB_CTR d + (BitVec.ofNat 40 (s.get TMB_STEP_VAL d)).toInt * 2 ^ 32) % 2 ^ 72 ∧
      t.get TMB_STEP_ON d = 0 ∧ t.get SMP_ON d = 0 ∧
      t.get TMB_DOM_CNT1_STALE d = min (s.get TMB_DOM_CNT1_STALE d + 1) 255 ∧ Quiet s t ∧
      CellsBut s t [(TMB_CTR, d), (TMB_STEP_ON, d), (SMP_ON, d), (TMB_DOM_CNT1_STALE, d), (TMB_DOM_STAT_EPOCH_STALE, d),
        (SRV_STEP_SEEN, d), (SRV_STEP_NS, d), (SRV_STEP_PRE, d), (SRV_STEP_AT, d), (SRV_INCW_SEEN, d)] [])) ∧
  (∀ (d : Fin 16) (s : State), s.get TMB_STEP_ON d = 1 → s.get LIM_STAT_RUNNING 0 = 1 → s.get LIM_CYC_CTRL_DOM 0 = d →
    Gives (.stepApply d) s (fun t => t.get TMB_CTR d = s.get TMB_CTR d ∧ t.get TMB_STEP_ON d = 0 ∧
      t.get TMB_DOM_CNT1_STEP_BLOCKED d = min (s.get TMB_DOM_CNT1_STEP_BLOCKED d + 1) 255 ∧
      t.bit EVT_SEEN_SEEN (60 + d.val / 8) (4 * (d.val % 8) + 3) = true))

/-- The epoch pair: held values per requester, commits, and when the pair is valid (R39). -/
def Obligations.EpochPair : Prop :=
  (∀ (q : Requester) (d : Fin 16) (v : Word) (s : State), s.permit q .registers (tmbAddr 0x60 d) true = .yes →
    exec (.epochRefHold q d v) s =
      .next ((s.put EPOCH_HELD_ON (q.num * 16 + d) 1).put EPOCH_HELD_VAL (q.num * 16 + d) v.toNat)) ∧
  (∀ (q : Requester) (d : Fin 16) (sec : BitVec 48) (ref : Nat) (s : State), s.permit q .registers (tmbAddr 0x58 d) true = .yes →
    ref = (if s.get EPOCH_HELD_ON (q.num * 16 + d) = 0 then s.get TMB_DOM_EPOCH_REF_REF_NS d
      else s.get EPOCH_HELD_VAL (q.num * 16 + d)) → ref < 2 ^ 32 → s.get TMB_CTR d < 2 ^ 72 →
    Gives (.epochCommit q d sec) s (fun t => t.get TMB_DOM_EPOCH_SECONDS d = sec.toNat ∧ t.get TMB_DOM_EPOCH_REF_REF_NS d = ref ∧
      t.get EPOCH_HELD_ON (q.num * 16 + d) = 0 ∧ t.get EPOCH_COMMITTED d = 1 ∧
      (t.get EPOCH_WAIT d = 1 ↔ 1 ≤ (ref + 2 ^ 32 - s.get TMB_CTR d / 2 ^ 40) % 2 ^ 32 ∧
        (ref + 2 ^ 32 - s.get TMB_CTR d / 2 ^ 40) % 2 ^ 32 ≤ 2 ^ 31 - 1) ∧
      (t.get TMB_DOM_STAT_EPOCH_STALE d = 0 ↔ t.get EPOCH_WAIT d = 0 ∧
        (s.get TMB_CTR d / 2 ^ 40 + 2 ^ 32 - ref) % 2 ^ 32 < 4000000000) ∧
      Quiet s t ∧ CellsBut s t [(TMB_DOM_EPOCH_SECONDS, d), (TMB_DOM_EPOCH_REF_REF_NS, d), (EPOCH_HELD_ON, q.num * 16 + d),
        (EPOCH_COMMITTED, d), (EPOCH_WAIT, d), (TMB_DOM_STAT_EPOCH_STALE, d)] [])) ∧
  (∀ (d : Fin 16) (s : State), s.get EPOCH_WAIT d = 1 → s.get EPOCH_COMMITTED d = 1 →
    s.get TMB_DOM_EPOCH_REF_REF_NS d < 2 ^ 32 → s.get TMB_CTR d < 2 ^ 72 →
    (s.get TMB_CTR d / 2 ^ 32 + 2 ^ 40 - s.get TMB_DOM_EPOCH_REF_REF_NS d * 256) % 2 ^ 40 < 2 ^ 39 →
    exec (.epochRefReached d) s = .next ((s.put EPOCH_WAIT d 0).put TMB_DOM_STAT_EPOCH_STALE d 0)) ∧
  (∀ (d : Fin 16) (s : State), s.get TMB_DOM_EPOCH_REF_REF_NS d < 2 ^ 32 → s.get TMB_CTR d < 2 ^ 72 →
    (s.get EPOCH_WAIT d = 0 ∨
      2 ^ 39 ≤ (s.get TMB_CTR d / 2 ^ 32 + 2 ^ 40 - s.get TMB_DOM_EPOCH_REF_REF_NS d * 256) % 2 ^ 40) →
    exec (.epochRefReached d) s = .next s) ∧
  (∀ (d : Fin 16) (s : State), s.get EPOCH_COMMITTED d = 1 → s.get EPOCH_WAIT d = 0 →
    exec (.epochStaleExpiry d) s = .next (s.put TMB_DOM_STAT_EPOCH_STALE d
      (if 4000000000 ≤ (s.get TMB_CTR d / 2 ^ 40 + 2 ^ 32 - s.get TMB_DOM_EPOCH_REF_REF_NS d) % 2 ^ 32 then 1 else 0))) ∧
  (∀ (d : Fin 16) (s : State), (s.get EPOCH_COMMITTED d = 0 ∨ s.get EPOCH_WAIT d = 1) →
    exec (.epochStaleExpiry d) s = .next (s.put TMB_DOM_STAT_EPOCH_STALE d 1)) ∧
  (∀ (n : Nat) (s : State) (d : Fin 16), Gives (.timeBaseTick n) s (fun t => t.get TMB_DOM_EPOCH_SECONDS d = s.get TMB_DOM_EPOCH_SECONDS d ∧
    t.get TMB_DOM_EPOCH_REF_REF_NS d = s.get TMB_DOM_EPOCH_REF_REF_NS d))

/-- The Peg servo: submitted samples, rejection, the loop, its states; and the variable parts of a port (R45, R46, R44, R32, R50). -/
def Obligations.PegServo : Prop :=
  (∀ (q : Requester) (d : Fin 16) (theta : BitVec 40) (port : BitVec 6) (s : State),
    s.permit q .registers (tmbAddr 0x38 d) true = .yes → s.get SMP_ON d = 0 →
    exec (.sampleSubmit q d theta port) s = .next ((((s.put SMP_ON d 1).put SMP_THETA d theta.toNat).put SMP_TS d
      (s.get TMB_DOM_SMPT_TS d)).put SMP_PORT d port.toNat)) ∧
  (∀ (q : Requester) (d : Fin 16) (theta : BitVec 40) (port : BitVec 6) (s : State),
    s.permit q .registers (tmbAddr 0x38 d) true = .yes → s.get SMP_ON d = 1 →
    Gives (.sampleSubmit q d theta port) s (fun t =>
      t.get TMB_DOM_CNT0_REJECTED d = min (s.get TMB_DOM_CNT0_REJECTED d + 1) 65535 ∧ t.get SMP_THETA d = theta.toNat ∧
      Quiet s t ∧ CellsBut s t [(TMB_DOM_CNT0_REJECTED, d), (SMP_ON, d), (SMP_THETA, d), (SMP_TS, d), (SMP_PORT, d)] [])) ∧
  (∀ (d : Fin 16) (s : State), s.get SMP_ON d = 1 →
    (s.get TMB_DOM_CFG_MODE d ≠ 2 ∨ (s.get TMB_DOM_CFG_SRC_PORT d ≠ 63 ∧ s.get SMP_PORT d ≠ s.get TMB_DOM_CFG_SRC_PORT d)) →
    exec (.servoUpdate d) s = .next ((s.put SMP_ON d 0).put TMB_DOM_CNT0_REJECTED d
      (min (s.get TMB_DOM_CNT0_REJECTED d + 1) 65535))) ∧
  (∀ (d : Fin 16) (s : State), s.get SMP_ON d = 1 → s.get TMB_DOM_CFG_MODE d = 2 → s.get TMB_DOM_CFG_SRC_PORT d = 63 →
    s.get SRV_STEP_SEEN d = 0 → s.get SRV_INCW_SEEN d = 0 → s.get SRV_FIRST d = 1 → s.get TMB_DOM_STAT_STATE d ≠ 3 →
    (toSigned 40 (s.get SMP_THETA d)).natAbs ≤ max (s.get TMB_DOM_THRESH_STEP_THR d) 1 * 25600 →
    Gives (.servoUpdate d) s (fun t => t.get SRV_FIRST d = 0 ∧ t.get SMP_ON d = 0 ∧
      t.get TMB_DOM_CNT0_ACCEPTED d = min (s.get TMB_DOM_CNT0_ACCEPTED d + 1) 65535 ∧
      toSigned 32 (t.get TMB_DOM_OFFS_THETA d) = toSigned 40 (s.get SMP_THETA d) ∧ Quiet s t ∧
      CellsBut s t [(SMP_ON, d), (SRV_FIRST, d), (TMB_DOM_CNT0_ACCEPTED, d), (SRV_LAST_TS, d), (SRV_ACC_AT, d),
        (TMB_DOM_OFFS_THETA, d)] [])) ∧
  (∀ (d : Fin 16) (s : State), s.get SMP_ON d = 1 → s.get TMB_DOM_CFG_MODE d = 2 → s.get TMB_DOM_CFG_SRC_PORT d = 63 →
    s.get SRV_STEP_SEEN d = 0 → s.get SRV_INCW_SEEN d = 0 → s.get TMB_DOM_STAT_STATE d = 3 →
    (s.get SRV_FIRST d = 1 ∨ 250000 ≤ (s.get SMP_TS d + 2 ^ 32 - s.get SRV_LAST_TS d) % 2 ^ 32) →
    (toSigned 40 (s.get SMP_THETA d)).natAbs ≤ max (s.get TMB_DOM_THRESH_STEP_THR d) 1 * 25600 →
    s.get TMB_DOM_THRESH_LOCK_THR d * 256 < (toSigned 40 (s.get SMP_THETA d)).natAbs →
    Gives (.servoUpdate d) s (fun t => t.get TMB_DOM_STAT_STATE d = 1 ∧ t.get SMP_ON d = 0 ∧ t.get SRV_FIRST d = 0 ∧
      t.get TMB_DOM_CNT0_ACCEPTED d = min (s.get TMB_DOM_CNT0_ACCEPTED d + 1) 65535)) ∧
  (∀ (d : Fin 16) (th integ r y lim : Int) (tau kp ki : Nat) (s : State), s.get SMP_ON d = 1 → s.get TMB_DOM_CFG_MODE d = 2 →
    s.get TMB_DOM_CFG_SRC_PORT d = 63 → s.get SRV_STEP_SEEN d = 0 → s.get SRV_INCW_SEEN d = 0 → s.get SRV_FIRST d = 0 →
    s.get TMB_DOM_STAT_STATE d = 2 → th = toSigned 40 (s.get SMP_THETA d) →
    th.natAbs ≤ s.get TMB_DOM_THRESH_GATE d * 1024 → th.natAbs ≤ max (s.get TMB_DOM_THRESH_STEP_THR d) 1 * 25600 →
    tau = (s.get SMP_TS d + 2 ^ 32 - s.get SRV_LAST_TS d) % 2 ^ 32 → 250000 ≤ tau → tau ≤ 2000000000 →
    kp = s.get TMB_DOM_SERVO_KP_LOCK d → kp < 16 → ki = s.get TMB_DOM_SERVO_KI_LOCK d →
    lim = ((min (s.get TMB_DOM_SERVO_SLEW_MAX d) 1000 : Nat) : Int) →
    r = roundDiv (th * 2 ^ 40) tau → integ = roundDiv (toSigned 64 (s.get SRV_INTEG d) * 2 ^ ki + r) (2 ^ ki) →
    integ.natAbs * 1000000 ≤ lim.natAbs * 2 ^ 48 → integ ≤ roundDiv (lim * 2 ^ 48) 1000000 →
    -(roundDiv (lim * 2 ^ 48) 1000000) ≤ integ →
    y = -(r * 2 ^ (15 - kp) + integ * 2 ^ 15) → y.natAbs * 1000000 ≤ lim.natAbs * 2 ^ 63 →
    Gives (.servoUpdate d) s (fun t => toSigned 64 (t.get SRV_INTEG d) = integ ∧
      ((t.get TMB_DOM_INC_NS d * 2 ^ 40 + t.get TMB_DOM_INC_FRAC d : Nat) : Int) =
        max (min (0x0140_0000_0000 + roundDiv (0x0140_0000_0000 * y) (2 ^ 63)) (0x0140_0000_0000 + 1374389534))
          (0x0140_0000_0000 - 1374389534) ∧
      t.get TMB_DOM_CNT0_ACCEPTED d = min (s.get TMB_DOM_CNT0_ACCEPTED d + 1) 65535 ∧ t.get SRV_LAST_TS d = s.get SMP_TS d)) ∧
  (∀ (d : Fin 16) (s : State), s.get SMP_ON d = 1 → s.get TMB_DOM_CFG_MODE d = 2 → s.get TMB_DOM_CFG_SRC_PORT d = 63 →
    s.get SRV_STEP_SEEN d = 0 → s.get SRV_INCW_SEEN d = 0 → s.get SRV_FIRST d = 0 → s.get TMB_DOM_STAT_STATE d = 2 →
    s.get TMB_DOM_THRESH_GATE d * 1024 < (toSigned 40 (s.get SMP_THETA d)).natAbs → s.get SRV_GATED d = 3 →
    250000 ≤ (s.get SMP_TS d + 2 ^ 32 - s.get SRV_LAST_TS d) % 2 ^ 32 →
    exec (.servoUpdate d) s = .next ((setServo d 1 ((((s.put SMP_ON d 0).put TMB_DOM_CNT0_REJECTED d
      (min (s.get TMB_DOM_CNT0_REJECTED d + 1) 65535)).put SRV_GOOD d 0).put SRV_GATED d 0)).raise (1921 + 4 * d))) ∧
  (∀ (q : Requester) (d : Fin 16) (v : Word) (s : State), s.permit q .registers (tmbAddr 0 d) true = .yes →
    s.get TMB_DOM_CFG_MODE d ≠ 2 → v.toNat % 4 = 2 →
    Gives (.tmbDomCfgWrite q d v) s (fun t => t.get TMB_DOM_CFG_MODE d = 2 ∧ t.get TMB_DOM_STAT_STATE d = 1 ∧
      t.get SRV_FIRST d = 1 ∧ t.get SRV_INTEG d = ofSigned 64 (roundDiv
        (((s.get TMB_DOM_INC_NS d * 2 ^ 40 + s.get TMB_DOM_INC_FRAC d : Nat) : Int) * 2 ^ 48 - 0x0140_0000_0000 * 2 ^ 48)
        0x0140_0000_0000) ∧ t.get TMB_DOM_INC_FRAC d = s.get TMB_DOM_INC_FRAC d ∧ Quiet s t)) ∧
  (∀ (q : Requester) (d : Fin 16) (v : Word) (s : State), s.permit q .registers (tmbAddr 0 d) true = .yes → v.toNat % 4 ≠ 2 →
    Gives (.tmbDomCfgWrite q d v) s (fun t => t.get TMB_DOM_CFG_MODE d = v.toNat % 4 ∧ t.get TMB_DOM_STAT_STATE d = 0 ∧
      Quiet s t ∧ CellsBut s t [(TMB_DOM_CFG_MODE, d), (TMB_DOM_CFG_STEP_EN, d), (TMB_DOM_CFG_SRC_PORT, d),
        (TMB_DOM_STAT_STATE, d), (TMB_SUMMARY_LOCKED, 0), (TMB_SUMMARY_HOLDOVER, 0)] [])) ∧
  (∀ (d : Fin 16) (s : State), s.get TMB_DOM_CFG_MODE d = 2 → (s.get TMB_DOM_STAT_STATE d = 1 ∨ s.get TMB_DOM_STAT_STATE d = 2) →
    max (s.get TMB_DOM_LOCKCNT_HOLD_MS d) 1 * 800000 ≤ s.get CORE_COUNT 0 - s.get SRV_ACC_AT d →
    exec (.servoHoldover d) s = .next (((setServo d 3 (s.put SRV_GOOD d 0)).putInc d
      (incOf (min (s.get TMB_DOM_SERVO_SLEW_MAX d) 1000) (-(toSigned 64 (s.get SRV_INTEG d) * 2 ^ 15)))).raise (1922 + 4 * d))) ∧
  (∀ (p : Fin 40) (tx rx : BitVec 16) (s : State), s.get TMB_CTRL_VAR_TRACK_EN 0 = 1 → 16 ≤ p.val →
    s.get VAR_NEXT p ≤ s.get CORE_COUNT 0 → s.get TMB_PVAR_VAR_TX p < 2 ^ 16 → s.get TMB_PVAR_VAR_RX p < 2 ^ 16 →
    Gives (.varPartTrack p tx rx) s (fun t =>
      t.get TMB_PVAR_VAR_TX p = max (min tx.toNat (s.get TMB_PVAR_VAR_TX p + 4)) (s.get TMB_PVAR_VAR_TX p - 4) ∧
      t.get TMB_PVAR_VAR_RX p = max (min rx.toNat (s.get TMB_PVAR_VAR_RX p + 4)) (s.get TMB_PVAR_VAR_RX p - 4) ∧
      (s.get CORE_COUNT 0 + 800000 < 2 ^ 64 → t.get VAR_NEXT p = s.get CORE_COUNT 0 + 800000) ∧
      QuietE s t ∧ CellsBut s t [(TMB_PVAR_VAR_TX, p), (TMB_PVAR_VAR_RX, p), (VAR_NEXT, p), (ASYM_OUT, p)] evtCells)) ∧
  (∀ (p : Fin 40) (tx rx : BitVec 16) (s : State),
    (s.get TMB_CTRL_VAR_TRACK_EN 0 = 0 ∨ s.get CORE_COUNT 0 < s.get VAR_NEXT p) →
    exec (.varPartTrack p tx rx) s = .next s)

/-- Starting and stopping line cycles, a change of period, and what a boundary does to the timer and the halves (R51, R52, R53, R54, R59). -/
def Obligations.CycleTimer : Prop :=
  (∀ (q : Requester) (n0 : Nat) (s : State), s.permit q .registers 0x4040_0000 true = .yes → s.get LIM_STAT_RUNNING 0 = 0 →
    1000 * 256 ≤ (s.get LIM_CYC_START_START 0 * 256 + 2 ^ 40 - s.now (s.get LIM_CYC_CTRL_DOM 0)) % 2 ^ 40 →
    (s.get LIM_CYC_START_START 0 * 256 + 2 ^ 40 - s.now (s.get LIM_CYC_CTRL_DOM 0)) % 2 ^ 40 ≤ 2000000000 * 256 →
    25000 ≤ s.get LIM_CYC_PERIOD_PERIOD 0 → s.get LIM_CYC_PERIOD_PERIOD 0 ≤ 6400000 →
    (s.get LIM_BASE_SLOTS_K 0 = 0 ∨ s.get LIM_BASE_BASE 0 * 0x1_0000 + 2 * s.stride ≤ 0x400_0000) → s.get DEV_LOCK_LOCK 0 = 1 →
    n0 = (s.get LIM_CYC_NUM0_NUM0 0 + 2 ^ 32 - 1) % 2 ^ 32 →
    exec (.limRunStart q) s = .next (((((((s.put LIM_CYC_CTRL_RUN 0 1).put LIM_STAT_RUNNING 0 1).put LIM_PHASE 0 1).put LIM_STOP 0 0).put
      LIM_CYC_NUM_NUM 0 n0).put LIM_STAT_FILL_HALF 0 (n0 % 2)).put LIM_NEXT 0 (s.get LIM_CYC_START_START 0 * 256))) ∧
  (∀ (q : Requester) (s : State), s.permit q .registers 0x4040_0000 true = .yes → s.get LIM_STAT_RUNNING 0 = 0 →
    ((s.get LIM_CYC_START_START 0 * 256 + 2 ^ 40 - s.now (s.get LIM_CYC_CTRL_DOM 0)) % 2 ^ 40 < 1000 * 256 ∨
      2000000000 * 256 < (s.get LIM_CYC_START_START 0 * 256 + 2 ^ 40 - s.now (s.get LIM_CYC_CTRL_DOM 0)) % 2 ^ 40 ∨
      s.get LIM_CYC_PERIOD_PERIOD 0 < 25000 ∨ 6400000 < s.get LIM_CYC_PERIOD_PERIOD 0 ∨
      (s.get LIM_BASE_SLOTS_K 0 ≠ 0 ∧ 0x400_0000 < s.get LIM_BASE_BASE 0 * 0x1_0000 + 2 * s.stride) ∨ s.get DEV_LOCK_LOCK 0 = 0) →
    exec (.limRunStart q) s = .next (s.put LIM_STAT_START_ERR 0 1)) ∧
  (∀ (q : Requester) (s : State), s.permit q .registers 0x4040_0000 true = .yes → s.get LIM_STAT_RUNNING 0 = 1 →
    exec (.limRunStart q) s = .next s) ∧
  (∀ (q : Requester) (s : State), s.permit q .registers 0x4040_0000 true = .yes → s.get LIM_STAT_RUNNING 0 = 1 →
    exec (.limRunStop q) s = .next ((s.put LIM_CYC_CTRL_RUN 0 0).put LIM_STOP 0 1)) ∧
  (∀ (q : Requester) (period : BitVec 23) (at' : Word) (ahead : Nat) (s : State), s.permit q .registers 0x4040_0018 true = .yes →
    ahead = (at'.toNat + 2 ^ 32 - s.get LIM_CYC_NUM_NUM 0) % 2 ^ 32 →
    1 ≤ ahead → ahead ≤ 2 ^ 31 - 1 → 25000 ≤ period.toNat → period.toNat ≤ 6400000 →
    exec (.limCycChgArm q period at') s = .next (((s.put LIM_CYC_CHG_NEW_PERIOD 0 period.toNat).put LIM_CYC_CHG_AT 0 at'.toNat).put
      LIM_STAT_CHG_PEND 0 1)) ∧
  (∀ (q : Requester) (period : BitVec 23) (at' : Word) (ahead : Nat) (s : State), s.permit q .registers 0x4040_0018 true = .yes →
    ahead = (at'.toNat + 2 ^ 32 - s.get LIM_CYC_NUM_NUM 0) % 2 ^ 32 →
    (ahead = 0 ∨ 2 ^ 31 ≤ ahead ∨ period.toNat < 25000 ∨ 6400000 < period.toNat) →
    exec (.limCycChgArm q period at') s = .next (s.put LIM_STAT_CHG_REJ 0 1)) ∧
  (∀ (k p : Nat) (s : State), s.get LIM_PHASE 0 ≠ 0 → s.reached (s.get LIM_CYC_CTRL_DOM 0) (s.get LIM_NEXT 0) = true →
    s.get LIM_STOP 0 = 0 → k = (s.get LIM_CYC_NUM_NUM 0 + 1) % 2 ^ 32 → s.get LIM_CYC_CHG_NEW_PERIOD 0 < 2 ^ 23 →
    p = (if s.get LIM_STAT_CHG_PEND 0 = 1 ∧ s.get LIM_CYC_CHG_AT 0 = k then s.get LIM_CYC_CHG_NEW_PERIOD 0
      else s.get LIM_CYC_PERIOD_PERIOD 0) → s.get LIM_STAT_CHG_PEND 0 < 2 →
    Gives .boundary s (fun t => t.get LIM_CYC_NUM_NUM 0 = k ∧ t.get LIM_STAT_FILL_HALF 0 = k % 2 ∧
      t.get LIM_CYC_PERIOD_PERIOD 0 = p ∧ t.get LIM_NEXT 0 = (s.get LIM_NEXT 0 + p * 320) % 2 ^ 40 ∧
      t.get LIM_STAT_STATUS_PEND 0 = 1 ∧ t.get LIM_PHASE 0 = 2 ∧ t.get LIM_STAT_RUNNING 0 = s.get LIM_STAT_RUNNING 0 ∧
      t.bit EVT_SEEN_SEEN 64 0 = true ∧ t.get LIM_OUT_SEEN 0 = 0)) ∧
  (∀ (k : Nat) (s : State), s.get LIM_PHASE 0 ≠ 0 → s.reached (s.get LIM_CYC_CTRL_DOM 0) (s.get LIM_NEXT 0) = true →
    s.get LIM_STOP 0 = 1 → k = (s.get LIM_CYC_NUM_NUM 0 + 1) % 2 ^ 32 →
    Gives .boundary s (fun t => t.get LIM_CYC_NUM_NUM 0 = k ∧ t.get LIM_STAT_FILL_HALF 0 = k % 2 ∧
      t.get LIM_STAT_RUNNING 0 = 0 ∧ t.get LIM_PHASE 0 = 0 ∧ t.bit EVT_SEEN_SEEN 64 0 = true)) ∧
  (∀ s : State, (s.get LIM_PHASE 0 = 0 ∨ s.reached (s.get LIM_CYC_CTRL_DOM 0) (s.get LIM_NEXT 0) = false) →
    exec .boundary s = .next s)

/-- Writes to the line image: what the halves accept, the write-through buffer, the drain, and the status pass (R58, R60, R61, R62, R68, R69, 04 Soundboard switch R82). -/
def Obligations.LineImageWrites : Prop :=
  (∀ (q : Requester) (off : BitVec 26) (bs : List Byte) (s : State), regionOfAccess (sbBase + off.toNat) bs.length = .soundboard →
    Gives (.soundboardWrite q off bs) s (fun t => (∀ a : Nat, t.byte a =
        if sbBase + off.toNat ≤ a ∧ a < sbBase + off.toNat + bs.length ∧
          (s.started && s.inHalf (1 - s.fillHalf) (a - sbBase)) = false ∧ s.inStatus 0 (a - sbBase) = false ∧
          s.inStatus 1 (a - sbBase) = false ∧ s.inPool (a - sbBase) = false
        then bs.getD (a - (sbBase + off.toNat)) 0 else s.byte a) ∧
      CellsBut s t [(LIM_CNT0_OUT_WR, 0), (LIM_OUT_SEEN, 0), (SBD_STAT_POOL_WR, 0)] evtCells)) ∧
  (∀ (q : Requester) (off : BitVec 26) (b : Byte) (s : State), s.started = true →
    s.inHalf (1 - s.fillHalf) off.toNat = true → s.get LIM_OUT_SEEN 0 = 0 →
    Gives (.soundboardWrite q off [b]) s (fun t => t.get LIM_CNT0_OUT_WR 0 = min (s.get LIM_CNT0_OUT_WR 0 + 1) 65535 ∧
      t.bit EVT_SEEN_SEEN 64 2 = true ∧ t.mem = s.mem)) ∧
  (∀ (q : Requester) (off : BitVec 26) (bs : List Byte) (s : State), regionOfAccess (sbBase + off.toNat) bs.length ≠ .soundboard →
    Gives (.soundboardWrite q off bs) s (fun t => t.mem = s.mem ∧ t.sram = s.sram)) ∧
  (∀ (n : Fin 32) (l : Landing) (ls : List Landing) (s : State), s.wtb = l :: ls → l.who = n → sbBase ≤ l.addr →
    Gives (.writeThroughDrain n) s (fun t => t.wtb = ls ∧ (∀ a : Nat, t.byte a =
        if l.addr ≤ a ∧ a < l.addr + l.bytes.length ∧
          (s.started && s.inHalf (1 - s.fillHalf) (a - sbBase)) = false ∧ s.inStatus 0 (a - sbBase) = false ∧
          s.inStatus 1 (a - sbBase) = false ∧ s.inPool (a - sbBase) = false
        then l.bytes.getD (a - l.addr) 0 else s.byte a))) ∧
  (∀ (n : Fin 32) (s : State), (∀ l ∈ s.wtb, l.who ≠ n) → exec (.writeThroughDrain n) s = .next s) ∧
  (∀ (l : Landing) (ls : List Landing) (s : State), s.drain = l :: ls →
    Gives .rxDrain s (fun t => t.drain = ls ∧ t.cells = s.cells ∧ (∀ a : Nat, t.byte a =
      if l.addr ≤ a ∧ a < l.addr + l.bytes.length then l.bytes.getD (a - l.addr) 0 else s.byte a))) ∧
  (∀ s : State, s.drain = [] → exec .rxDrain s = .next s) ∧
  (∀ s : State, s.get PASS_PHASE 0 = 1 → s.drain = [] →
    Gives .statusPass s (fun t => t.get PASS_PHASE 0 = 2 ∧ t.get LIM_STAT_STATUS_PEND 0 = s.get LIM_STAT_STATUS_PEND 0 ∧
      (∀ n ∈ t.passSlots, n ∈ s.passSlots) ∧ t.events = s.events)) ∧
  (∀ s : State, (s.get PASS_PHASE 0 ≠ 1 ∨ s.drain ≠ []) → exec .statusPass s = .next s) ∧
  (∀ s : State, s.get PASS_PHASE 0 = 2 →
    Gives .statusPassEnd s (fun t => t.get PASS_PHASE 0 = 0 ∧ t.get LIM_STAT_STATUS_PEND 0 = 0 ∧ t.passSlots = [] ∧
      t.get LIM_CNT1_STALE_LAST 0 = t.get PASS_COUNT 0 ∧ t.bit EVT_SEEN_SEEN 64 1 = true ∧
      (∀ n ∈ s.passSlots, (t.byte (t.statusAddr (1 - s.get LIM_STAT_FILL_HALF 0) n)).toNat % 16 =
        (s.get LIM_CYC_NUM_NUM 0 + 15) % 16))) ∧
  (∀ s : State, s.get PASS_PHASE 0 ≠ 2 → exec .statusPassEnd s = .next s)

/-- Tablatures: the shadow's states, copies, verification, and the group commit (R71, R72, R73, R53, 04 Soundboard switch R83). -/
def Obligations.TabTables : Prop :=
  (∀ (q : Requester) (t : Fin 33) (s : State), s.permit q .registers (tabAddr t) true = .yes → s.get LIM_TAB_STAT_STATE t = 0 →
    s.get TAB_COPYING t = 0 →
    exec (.limTabDone q t) s = .next (((s.put LIM_TAB_STAT_STATE t 1).put LIM_TAB_CTRL_DONE t 1).bgAsk (.table t))) ∧
  (∀ (q : Requester) (t : Fin 33) (s : State), s.permit q .registers (tabAddr t) true = .yes → s.get LIM_TAB_STAT_STATE t = 0 →
    s.get TAB_COPYING t = 1 → exec (.limTabDone q t) s = .next (s.put TAB_DONE_WAIT t 1)) ∧
  (∀ (q : Requester) (t : Fin 33) (s : State), s.permit q .registers (tabAddr t) true = .yes → s.get LIM_TAB_STAT_STATE t ≠ 0 →
    exec (.limTabDone q t) s = .next s ∧ exec (.limTabCopy q t) s = .next s) ∧
  (∀ (q : Requester) (t : Fin 33) (s : State), s.permit q .registers (tabAddr t) true = .yes → s.get LIM_TAB_STAT_STATE t = 0 →
    exec (.limTabCopy q t) s = .next (s.put TAB_COPYING t 1)) ∧
  (∀ (t : Fin 33) (s : State), s.get TAB_COPYING t = 1 → s.get TAB_DONE_WAIT t = 0 → s.get TAB_BANK t < 2 → s.Inv →
    Gives (.tabCopyComplete t) s (fun u => u.get TAB_COPYING t = 0 ∧
      (∀ w : Nat, w < tabWords t → u.tabWord t (1 - s.get TAB_BANK t) w = s.tabWord t (s.get TAB_BANK t) w % 2 ^ 32) ∧
      (∀ (v : Fin 33) (b : Fin 2) (w : Nat), w < 2048 → (v ≠ t ∨ b.val = s.get TAB_BANK t) → u.tabWord v b w = s.tabWord v b w) ∧
      Quiet s u ∧ CellsBut s u [(TAB_COPYING, t)] [LIM_TW])) ∧
  (∀ (t : Fin 33) (s : State), s.get TAB_COPYING t = 0 → exec (.tabCopyComplete t) s = .next s) ∧
  (∀ (q : Requester) (t : Fin 33) (s : State), s.permit q .registers (tabAddr t) true = .yes → s.get LIM_TAB_STAT_STATE t ≠ 0 →
    (s.get LIM_STAT_COMMIT_PEND 0 = 0 ∨ bitOf (s.get TAB_GROUP 0) t = false) →
    exec (.limTabReopen q t) s = .next (((s.put LIM_TAB_STAT_STATE t 0).put LIM_TAB_CTRL_DONE t 0).bgDrop (.table t))) ∧
  (∀ (q : Requester) (t : Fin 33) (s : State), s.permit q .registers (tabAddr t) true = .yes →
    (s.get LIM_TAB_STAT_STATE t = 0 ∨ (s.get LIM_STAT_COMMIT_PEND 0 = 1 ∧ bitOf (s.get TAB_GROUP 0) t = true)) →
    exec (.limTabReopen q t) s = .next s) ∧
  (∀ (q : Requester) (v : Word) (s : State), s.permit q .registers 0x4040_0030 true = .yes →
    (s.get LIM_STAT_RUNNING 0 = 1 ∨ s.get SBD_CTRL_EN 0 = 1 ∨ s.get LIM_CYC_CTRL_LOCK 0 = 1) →
    exec (.limBaseWrite q v) s = .next s) ∧
  (∀ (q : Requester) (v : Word) (s : State), s.permit q .registers 0x4040_0030 true = .yes →
    s.get LIM_STAT_RUNNING 0 = 0 → s.get SBD_CTRL_EN 0 = 0 → s.get LIM_CYC_CTRL_LOCK 0 = 0 →
    s.get LIM_BASE_BASE 0 ≠ v.toNat % 2 ^ 10 →
    Gives (.limBaseWrite q v) s (fun u => u.get LIM_BASE_BASE 0 = v.toNat % 2 ^ 10 ∧
      u.get LIM_BASE_SLOTS_K 0 = v.toNat / 2 ^ 16 % 2 ^ 8 ∧
      (∀ t : Fin 33, u.get LIM_TAB_STAT_STATE t = if s.get LIM_TAB_STAT_STATE t = 2 then 1 else s.get LIM_TAB_STAT_STATE t) ∧
      CellsBut s u [(LIM_BASE_BASE, 0), (LIM_BASE_SLOTS_K, 0)] [LIM_TAB_STAT_STATE, LIM_TAB_CTRL_DONE] ∧
      { u with cells := s.cells, bgReqs := s.bgReqs } = s)) ∧
  (∀ (t : Fin 33) (s : State), s.bgGranted (.table t) = true → s.get LIM_TAB_STAT_STATE t = 1 →
    s.get LIM_STAT_COMMIT_PEND 0 = 0 →
    Gives (.tabVerificationEnd t) s (fun u => u.get LIM_TAB_STAT_STATE t = (if u.get LIM_TAB_STAT_FAIL_WHY t = 0 then 2 else 3) ∧
      u.get LIM_TAB_STAT_FAIL_WHY t = (if t.val ≠ 32 ∧ 512 < s.get LIM_TAB_CTRL_COUNT t then 2
        else if crc32c (tabCrcBytes s t (1 - s.get TAB_BANK t)) ≠ s.get LIM_TAB_CRC_CRC t then 1
        else if t.val = 32 then
          (if (s.usedEntries 32 (1 - s.get TAB_BANK t)).all (fun w => sliceOk s (1 - s.get TAB_BANK t) (w / 4)) then 0 else 2)
        else if (s.tabEntries t (1 - s.get TAB_BANK t)).all (fun e => e.kind == 0 || e.ok s t) then 0 else 2) ∧
      u.get LIM_TAB_CTRL_DONE t = 1 ∧
      CellsBut s u [(LIM_TAB_STAT_STATE, t), (LIM_TAB_STAT_FAIL_WHY, t), (LIM_TAB_CTRL_DONE, t)] evtCells)) ∧
  (∀ (q : Requester) (ports : Word) (slices : Bool) (s : State), s.permit q .registers 0x4040_0100 true = .yes →
    (s.get LIM_STAT_COMMIT_PEND 0 = 1 ∨ (ports = 0 ∧ slices = false)) →
    exec (.limTabCommitGo q ports slices) s = .next s) ∧
  (∀ (q : Requester) (ports : Word) (slices : Bool) (s : State), s.permit q .registers 0x4040_0100 true = .yes →
    s.get LIM_STAT_COMMIT_PEND 0 = 0 → (ports ≠ 0 ∨ slices = true) → s.get LIM_PHASE 0 = 2 →
    exec (.limTabCommitGo q ports slices) s =
      .next ((((s.put LIM_TAB_COMMIT_PORTS 0 ports.toNat).put LIM_TAB_COMMIT_SLICES 0 (if slices then 1 else 0)).put TAB_GROUP 0
        (ports.toNat + (if slices then 2 ^ 32 else 0))).put LIM_STAT_COMMIT_PEND 0 1)) ∧
  (∀ (q : Requester) (ports : Word) (slices : Bool) (s : State), s.permit q .registers 0x4040_0100 true = .yes →
    s.get LIM_STAT_COMMIT_PEND 0 = 0 → (ports ≠ 0 ∨ slices = true) → s.get LIM_PHASE 0 ≠ 2 →
    (∀ t : Fin 33, bitOf (ports.toNat + (if slices then 2 ^ 32 else 0)) t = true → s.get LIM_TAB_STAT_STATE t = 2) →
    Gives (.limTabCommitGo q ports slices) s (fun u => u.get LIM_STAT_COMMIT_PEND 0 = 0 ∧
      (∀ t : Fin 33, bitOf (ports.toNat + (if slices then 2 ^ 32 else 0)) t = true →
        u.get TAB_BANK t = 1 - s.get TAB_BANK t ∧ u.get LIM_TAB_STAT_STATE t = 0) ∧
      (∀ t : Fin 33, bitOf (ports.toNat + (if slices then 2 ^ 32 else 0)) t = false →
        u.get TAB_BANK t = s.get TAB_BANK t ∧ u.get LIM_TAB_STAT_STATE t = s.get LIM_TAB_STAT_STATE t) ∧
      u.bit EVT_SEEN_SEEN 64 8 = true)) ∧
  (∀ (q : Requester) (s : State), s.permit q .registers 0x4040_0100 true = .yes → s.get LIM_STAT_COMMIT_PEND 0 = 1 →
    Gives (.limTabCommitCancel q) s (fun u => u.get LIM_STAT_COMMIT_PEND 0 = 0 ∧
      (∀ t : Fin 33, u.get LIM_TAB_STAT_STATE t = s.get LIM_TAB_STAT_STATE t ∧ u.get TAB_BANK t = s.get TAB_BANK t) ∧
      CellsBut s u [(LIM_STAT_COMMIT_PEND, 0), (TAB_GROUP, 0)] [])) ∧
  (∀ (q : Requester) (s : State), s.permit q .registers 0x4040_0100 true = .yes → s.get LIM_STAT_COMMIT_PEND 0 = 0 →
    exec (.limTabCommitCancel q) s = .next s)

/-- Turning the switch on, the flow table's shadow and commit, and ageing of the forwarding database (R82, R83, R88, R90, R81, R71). -/
def Obligations.SwitchAndFlowTable : Prop :=
  (∀ (q : Requester) (s : State), s.permit q .registers 0x4050_0000 true = .yes → s.get SBD_CTRL_EN 0 = 0 →
    (s.get LIM_BASE_SLOTS_K 0 = 0 ∨ s.get LIM_BASE_BASE 0 * 0x1_0000 + 2 * s.stride ≤ 0x400_0000) →
    (∀ i : Fin 4, s.get SBD_RSV_SIZE i = 0 ∨ ((s.get SBD_RSV_BASE i + s.get SBD_RSV_SIZE i) * 0x1_0000 ≤ 0x400_0000 ∧
      (s.stride = 0 ∨ s.halfBase 0 + 2 * s.stride ≤ s.get SBD_RSV_BASE i * 0x1_0000 ∨
        (s.get SBD_RSV_BASE i + s.get SBD_RSV_SIZE i) * 0x1_0000 ≤ s.halfBase 0))) →
    exec (.sbdEnSet q) s = .next (((s.put SBD_CTRL_EN 0 1).put SBD_POOL_TOTAL 0 ((1024 - ((List.range 1024).filter (fun u =>
      s.unitReserved u || s.inHalf 0 (u * 0x1_0000) || s.inHalf 1 (u * 0x1_0000))).length) * 256)).put SBD_POOL_FREE 0
      ((1024 - ((List.range 1024).filter (fun u =>
      s.unitReserved u || s.inHalf 0 (u * 0x1_0000) || s.inHalf 1 (u * 0x1_0000))).length) * 256))) ∧
  (∀ (q : Requester) (i : Fin 4) (s : State), s.permit q .registers 0x4050_0000 true = .yes → s.get SBD_CTRL_EN 0 = 0 →
    s.get SBD_RSV_SIZE i ≠ 0 → 0x400_0000 < (s.get SBD_RSV_BASE i + s.get SBD_RSV_SIZE i) * 0x1_0000 →
    exec (.sbdEnSet q) s = .next (s.put SBD_STAT_CFG_ERR 0 1)) ∧
  (∀ (q : Requester) (s : State), s.permit q .registers 0x4050_0000 true = .yes → s.get SBD_CTRL_EN 0 = 1 →
    exec (.sbdEnSet q) s = .next s) ∧
  (∀ (q : Requester) (s : State), s.permit q .registers 0x4050_0200 true = .yes → s.get SBD_FLOW_STAT_STATE 0 = 0 →
    exec (.flowDone q) s = .next (((s.put SBD_FLOW_STAT_STATE 0 1).put SBD_FLOW_CTRL_DONE 0 1).bgAsk .flow)) ∧
  (∀ (q : Requester) (s : State), s.permit q .registers 0x4050_0200 true = .yes → s.get SBD_FLOW_STAT_STATE 0 = 0 →
    s.get FT_BANK 0 < 2 → s.Inv →
    Gives (.flowCopy q) s (fun t => (∀ w : Nat, w < 65536 → t.get SBD_FT ((1 - s.get FT_BANK 0) * 65536 + w) =
        s.get SBD_FT (s.get FT_BANK 0 * 65536 + w) % 2 ^ 32 ∧
        t.get SBD_FT (s.get FT_BANK 0 * 65536 + w) = s.get SBD_FT (s.get FT_BANK 0 * 65536 + w)) ∧
      Quiet s t ∧ CellsBut s t [] [SBD_FT])) ∧
  (∀ (q : Requester) (s : State), s.permit q .registers 0x4050_0200 true = .yes → s.get SBD_FLOW_STAT_STATE 0 ≠ 0 →
    exec (.flowDone q) s = .next s ∧ exec (.flowCopy q) s = .next s) ∧
  (∀ (q : Requester) (s : State), s.permit q .registers 0x4050_0200 true = .yes → s.get SBD_FLOW_STAT_STATE 0 ≠ 0 →
    s.get SBD_FLOW_STAT_PEND 0 = 0 →
    exec (.flowReopen q) s = .next (((s.put SBD_FLOW_STAT_STATE 0 0).put SBD_FLOW_CTRL_DONE 0 0).bgDrop .flow)) ∧
  (∀ (q : Requester) (s : State), s.permit q .registers 0x4050_0200 true = .yes →
    (s.get SBD_FLOW_STAT_STATE 0 = 0 ∨ s.get SBD_FLOW_STAT_PEND 0 = 1) → exec (.flowReopen q) s = .next s) ∧
  (∀ (q : Requester) (s : State), s.permit q .registers 0x4050_020C true = .yes → s.get SBD_FLOW_STAT_PEND 0 = 0 →
    (s.get LIM_PHASE 0 = 2 ∨ s.get SBD_FLOW_STAT_STATE 0 < 2) →
    exec (.flowGo q) s = .next (s.put SBD_FLOW_STAT_PEND 0 1)) ∧
  (∀ (q : Requester) (s : State), s.permit q .registers 0x4050_020C true = .yes → s.get SBD_FLOW_STAT_PEND 0 = 0 →
    s.get LIM_PHASE 0 ≠ 2 → s.get SBD_FLOW_STAT_STATE 0 = 2 →
    Gives (.flowGo q) s (fun t => t.get FT_BANK 0 = (1 - s.get FT_BANK 0) % 2 ∧ t.get SBD_FLOW_STAT_STATE 0 = 0 ∧
      t.get SBD_FLOW_STAT_PEND 0 = 0 ∧ t.bit EVT_SEEN_SEEN 28 0 = true ∧
      CellsBut s t [(FT_BANK, 0), (SBD_FLOW_STAT_STATE, 0), (SBD_FLOW_STAT_PEND, 0), (SBD_FLOW_CTRL_DONE, 0)] evtCells)) ∧
  (∀ (q : Requester) (s : State), s.permit q .registers 0x4050_020C true = .yes → s.get SBD_FLOW_STAT_PEND 0 = 1 →
    exec (.flowCancel q) s = .next ((s.put SBD_FLOW_STAT_PEND 0 0).settle .flowCommit 0x0207 64 [])) ∧
  (∀ (s : State), s.bgGranted .flow = true → s.get SBD_FLOW_STAT_STATE 0 = 1 → s.get SBD_FLOW_STAT_PEND 0 = 0 →
    Gives .flowVerificationEnd s (fun t => t.get SBD_FLOW_STAT_FAIL_WHY 0 =
        (if crc32c ((List.range 65536).flatMap (fun w => toBytes 4 (s.get SBD_FT ((1 - s.get FT_BANK 0) * 65536 + w)))) ≠
          s.get SBD_FLOW_CRC_CRC 0 then 1
        else if !(flowUsed s (1 - s.get FT_BANK 0)).all (flowEntryOk s (1 - s.get FT_BANK 0)) then 2
        else if !(flowUsed s (1 - s.get FT_BANK 0)).all (fun e => entryBucket s (1 - s.get FT_BANK 0) e == e / 8) then 3 else 0) ∧
      t.get SBD_FLOW_STAT_STATE 0 = (if t.get SBD_FLOW_STAT_FAIL_WHY 0 = 0 then 2 else 3) ∧
      (t.get SBD_FLOW_STAT_FAIL_WHY 0 ≠ 0 → t.bit EVT_SEEN_SEEN 28 2 = true) ∧ t.bgGrants = s.bgGrants.erase .flow ∧
      CellsBut s t [(SBD_FLOW_STAT_STATE, 0), (SBD_FLOW_STAT_FAIL_WHY, 0), (SBD_FLOW_CTRL_DONE, 0)] evtCells)) ∧
  (∀ (mac : BitVec 48) (vid : BitVec 12) (e : FdbEntry) (l r : List FdbEntry) (s : State), s.fdb = l ++ e :: r →
    e.mac = mac.toNat → e.vid = vid.toNat → (∀ x ∈ l ++ r, x.mac ≠ mac.toNat ∨ x.vid ≠ vid.toNat) → e.static = false →
    s.get SBD_FDB_CFG_AGE_S 0 ≠ 0 → s.get SBD_FDB_CFG_AGE_S 0 * 800000000 ≤ s.get CORE_COUNT 0 - e.seen →
    Gives (.fdbAgeOut mac vid) s (fun t => t.fdb = l ++ r ∧ CellsBut s t [(SBD_FDB_STAT_USED, 0)] [] ∧
      { t with cells := s.cells, fdb := s.fdb } = s)) ∧
  (∀ (mac : BitVec 48) (vid : BitVec 12) (s : State), (∀ x ∈ s.fdb, x.mac = mac.toNat → x.vid = vid.toNat → x.static = true) →
    exec (.fdbAgeOut mac vid) s = .next s) ∧
  (∀ s : State, sbsDue s = true → s.get SBS_POS 0 < 1024 → s.get SBS_TOLD 0 = 0 →
    exec .scrubRoundLate s = .next (((s.put SBS_TOLD 0 1).put SBD_STAT_SCRUB_LATE 0 1).raise 902))

/-- A Louvre's shadow and commit, its cycle starts and entries, strict-priority egress, ageing, preemption verify, recovery reset (R101, R102, R103, R104, R105, R99, R111, 04 Soundboard switch R100). -/
def Obligations.LouvreSchedules : Prop :=
  (∀ (q : Requester) (p : Fin 40) (s : State), s.permit q .registers (sbdPortAddr 0x10 p) true = .yes →
    s.get SBD_LVR_STAT_STATE p = 0 →
    exec (.lvrDone q p) s = .next (((s.put SBD_LVR_STAT_STATE p 1).put SBD_LVR_CTRL_DONE p 1).bgAsk (.louvre p))) ∧
  (∀ (q : Requester) (p : Fin 40) (s : State), s.permit q .registers (sbdPortAddr 0x10 p) true = .yes →
    s.get SBD_LVR_STAT_STATE p = 0 → s.get LVR_BANK p < 2 → s.Inv →
    Gives (.lvrCopy q p) s (fun t => (∀ w : Nat, w < 2048 →
        t.get LVR_W ((p * 2 + (1 - s.get LVR_BANK p)) * 2048 + w) = s.get LVR_W ((p * 2 + s.get LVR_BANK p) * 2048 + w) % 2 ^ 32) ∧
      t.get SBD_LVR_CTRL_COUNT p = s.get LVR_A_COUNT p % 2 ^ 11 ∧ t.get SBD_LVR_CT_CT p = s.get LVR_A_CT p % 2 ^ 23 ∧
      t.get SBD_LVR_BASE_BASE p = s.get LVR_A_BASE p % 2 ^ 32 ∧ (s.get SBD_LVR_STAT_PEND p = 0 → t.get LVR_AT p = s.get LVR_AT p) ∧
      Quiet s t ∧ CellsBut s t [(SBD_LVR_CTRL_COUNT, p), (SBD_LVR_CT_CT, p), (SBD_LVR_BASE_BASE, p), (LVR_AT, p)] [LVR_W])) ∧
  (∀ (q : Requester) (p : Fin 40) (s : State), s.permit q .registers (sbdPortAddr 0x10 p) true = .yes →
    s.get SBD_LVR_STAT_STATE p ≠ 0 → exec (.lvrDone q p) s = .next s ∧ exec (.lvrCopy q p) s = .next s) ∧
  (∀ (q : Requester) (p : Fin 40) (s : State), s.permit q .registers (sbdPortAddr 0x10 p) true = .yes →
    s.get SBD_LVR_STAT_STATE p ≠ 0 → s.get SBD_LVR_STAT_PEND p = 0 →
    exec (.lvrReopen q p) s = .next (((s.put SBD_LVR_STAT_STATE p 0).put SBD_LVR_CTRL_DONE p 0).bgDrop (.louvre p))) ∧
  (∀ (q : Requester) (p : Fin 40) (s : State), s.permit q .registers (sbdPortAddr 0x10 p) true = .yes →
    s.get SBD_LVR_STAT_PEND p = 0 →
    exec (.lvrGo q p) s = .next ((s.put SBD_LVR_STAT_PEND p 1).put LVR_AT p
      (cycleFrom s (s.get SBD_LVR_CTRL_DOM p) (s.get SBD_LVR_BASE_BASE p) (s.get SBD_LVR_CT_CT p)))) ∧
  (∀ (q : Requester) (p : Fin 40) (s : State), s.permit q .registers (sbdPortAddr 0x10 p) true = .yes →
    s.get SBD_LVR_STAT_PEND p = 1 → exec (.lvrReopen q p) s = .next s ∧ exec (.lvrGo q p) s = .next s ∧
    exec (.lvrCancel q p) s = .next ((s.put SBD_LVR_STAT_PEND p 0).settle (.louvre p) 0x0207 (128 + p) [])) ∧
  (∀ (p : Fin 40) (s : State), s.get SBD_LVR_STAT_PEND p = 1 → s.reached (s.get SBD_LVR_CTRL_DOM p) (s.get LVR_AT p) = true →
    s.get SBD_LVR_STAT_STATE p = 2 →
    Gives (.louvreCycleStart p) s (fun t => t.get LVR_A_COUNT p = s.get SBD_LVR_CTRL_COUNT p % 2 ^ 11 ∧
      t.get LVR_A_CT p = s.get SBD_LVR_CT_CT p % 2 ^ 23 ∧ t.get LVR_A_BASE p = s.get SBD_LVR_BASE_BASE p % 2 ^ 32 ∧
      t.get SBD_LVR_CTRL_COUNT p = s.get LVR_A_COUNT p % 2 ^ 11 ∧ t.get SBD_LVR_CT_CT p = s.get LVR_A_CT p % 2 ^ 23 ∧
      t.get SBD_LVR_BASE_BASE p = s.get LVR_A_BASE p % 2 ^ 32 ∧ t.get LVR_BANK p = (1 - s.get LVR_BANK p) % 2 ∧
      t.get SBD_LVR_STAT_PEND p = 0 ∧ t.get SBD_LVR_STAT_STATE p = 0 ∧ t.get LVR_HAVE p = 1 ∧
      t.bit EVT_SEEN_SEEN ((1024 + 8 * p) / 32) ((1024 + 8 * p) % 32) = true ∧
      (s.get SBD_LVR_CTRL_EN p ≠ 0 → t.get SBD_LVR_STAT_ACTIVE p = 1 ∧ t.get LVR_POS p = 0 ∧
        t.get LVR_START p = s.get LVR_AT p % 2 ^ 40) ∧ t.queues = s.queues ∧ t.frames = s.frames ∧
      CellsBut s t [(LVR_A_COUNT, p), (LVR_A_CT, p), (LVR_A_BASE, p), (SBD_LVR_CTRL_COUNT, p), (SBD_LVR_CT_CT, p),
        (SBD_LVR_BASE_BASE, p), (LVR_BANK, p), (SBD_LVR_STAT_PEND, p), (SBD_LVR_STAT_STATE, p), (SBD_LVR_CTRL_DONE, p),
        (LVR_HAVE, p), (SBD_LVR_STAT_ACTIVE, p), (LVR_POS, p), (LVR_START, p), (LVR_NEXT, p), (LVR_HOLD, p)] evtCells)) ∧
  (∀ (p : Fin 40) (s : State), s.get SBD_LVR_STAT_PEND p = 1 → s.reached (s.get SBD_LVR_CTRL_DOM p) (s.get LVR_AT p) = true →
    s.get SBD_LVR_STAT_STATE p = 3 → s.get SBD_LVR_CTRL_EN p = 0 →
    exec (.louvreCycleStart p) s = .next ((s.put SBD_LVR_STAT_PEND p 0).settle (.louvre p) 0x0207 (128 + p) [])) ∧
  (∀ (p : Fin 40) (s : State), s.get SBD_LVR_STAT_PEND p = 1 → s.reached (s.get SBD_LVR_CTRL_DOM p) (s.get LVR_AT p) = true →
    s.get SBD_LVR_STAT_STATE p < 2 → s.get SBD_LVR_CTRL_EN p = 0 →
    exec (.louvreCycleStart p) s = .next (((s.put SBD_LVR_STAT_DEFER p (min (s.get SBD_LVR_STAT_DEFER p + 1) 255)).put LVR_AT p
      (s.get LVR_AT p + s.get SBD_LVR_CT_CT p * 320)).raise (1025 + 8 * p))) ∧
  (∀ (p : Fin 40) (s : State), s.get SBD_LVR_STAT_PEND p = 0 → s.get SBD_LVR_CTRL_EN p = 1 → s.get LVR_HAVE p = 1 →
    s.reached (s.get SBD_LVR_CTRL_DOM p) (s.get LVR_NEXT p) = true →
    bitsOf (s.gateEntry p (s.get LVR_BANK p) 0).1 8 2 = 0 →
    exec (.louvreCycleStart p) s = .next ((((s.put LVR_START p (s.get LVR_NEXT p)).put LVR_NEXT p
      (s.get LVR_NEXT p + s.get LVR_A_CT p * 320)).put SBD_LVR_STAT_ACTIVE p 1).put LVR_POS p 0)) ∧
  (∀ (p : Fin 40) (x : Nat × Nat × Nat) (s : State), s.get SBD_LVR_STAT_ACTIVE p = 1 →
    (lvrSpans s p).find? (fun x => x.1 = s.get LVR_POS p + 1) = some x →
    s.reached (s.get SBD_LVR_CTRL_DOM p) (s.get LVR_START p + x.2.1) = true →
    Gives (.gateEntry p) s (fun t => t.get LVR_POS p = x.1 % 1024 ∧
      t.get LVR_HOLD p = (match bitsOf (s.gateEntry p (s.get LVR_BANK p) x.1).1 8 2 with
        | 1 => 1
        | 2 => 0
        | _ => s.get LVR_HOLD p) ∧
      { t with cells := s.cells, wires := s.wires } = s ∧ CellsBut s t [(LVR_POS, p), (LVR_HOLD, p)] [])) ∧
  (∀ (p : Fin 40) (s : State), s.get SBD_LVR_STAT_ACTIVE p = 0 → exec (.gateEntry p) s = .next s) ∧
  (∀ (p : Fin 40) (why n : Nat) (s : State), s.bgGranted (.louvre p) = true → s.get SBD_LVR_STAT_STATE p = 1 →
    n = s.get SBD_LVR_CTRL_COUNT p →
    why = (if n = 0 ∨ 1024 < n then 2
      else if crc32c ((List.range (2 * n)).flatMap (fun w => toBytes 4 (s.get LVR_W ((p * 2 + (1 - s.get LVR_BANK p)) * 2048 + w)))) ≠
          s.get SBD_LVR_CRC_CRC p then 1
      else if s.get SBD_LVR_CT_CT p < 800 ∨ 6400000 < s.get SBD_LVR_CT_CT p then 2
      else if (List.range n).any (fun i => bitsOf (s.gateEntry p (1 - s.get LVR_BANK p) i).1 8 2 == 3 ||
        decide ((s.gateEntry p (1 - s.get LVR_BANK p) i).2 % 2 ^ 23 < 8)) then 2 else 0) →
    Gives (.lvrVerificationEnd p) s (fun t => t.get SBD_LVR_STAT_STATE p = (if why = 0 then 2 else 3) ∧
      t.get SBD_LVR_STAT_FAIL_WHY p = why ∧ t.bgGrants = s.bgGrants.erase (.louvre p) ∧
      (why ≠ 0 → t.bit EVT_SEEN_SEEN ((1026 + 8 * p) / 32) ((1026 + 8 * p) % 32) = true) ∧
      CellsBut s t [(SBD_LVR_STAT_STATE, p), (SBD_LVR_STAT_FAIL_WHY, p), (SBD_LVR_CTRL_DONE, p)] evtCells)) ∧
  (∀ (p : Fin 40) (s : State), s.get SBD_PORT_PREEMPT_STATUS p = 1 →
    exec (.preemptVerifyEnd p true) s = .next (s.put SBD_PORT_PREEMPT_STATUS p 2) ∧
    exec (.preemptVerifyEnd p false) s = .next ((s.put SBD_PORT_PREEMPT_STATUS p 3).raise (1030 + 8 * p))) ∧
  (∀ (h : Fin 1024) (s : State), (s.get SBD_FRER (8 * h)).testBit 1 = true → s.get FRER_RUN h = 1 →
    s.get SBD_FRER (8 * h) / 2 ^ 9 % 2 ^ 12 * 800000 ≤ s.get CORE_COUNT 0 - s.get FRER_AT h →
    exec (.recoveryReset h) s = .next (((s.put FRER_RUN h 0).put SBD_FRER (8 * h + 7)
      (min ((s.put FRER_RUN h 0).get SBD_FRER (8 * h + 7) + 1) (2 ^ 32 - 1))).raise 904)) ∧
  (∀ (p : Fin 40) (c d : Nat) (f : Frame) (q1 q2 : List QCopy) (s : State), s.queues = q1 ++ ⟨p, c, f.id⟩ :: q2 → c < 8 →
    (∀ x ∈ q1, x.port = p → x.cls < c) → (∀ x ∈ q2, x.port = p → x.cls ≤ c) → (∀ x ∈ q2, x ≠ ⟨p, c, f.id⟩) →
    s.frame f.id = some f → f.inPort = 72 → f.origin = none → f.bridge = none → f.info.handle = none →
    ptpAt f.bytes = none → d = frameDomain s p f.bytes →
    (∀ w ∈ s.wires, w.port ≠ p ∧ (w.paused = none → s.get CORE_COUNT 0 < w.until')) →
    portLink s p = true → portReady s p = true → s.get MAC_CFG_RING_ROLE p = 0 → s.get RDN_CFG_EN 0 = 0 →
    s.get SBD_LVR_STAT_ACTIVE p = 0 → s.get SBD_LVR_CTRL_EN p = 0 → s.bit SBD_LVR_CTRL_ADMIN_GATES p c = true →
    s.get SBD_PORT_PREEMPT_STATUS p = 0 → (∀ k : Nat, k < 8 → s.get SBD_QCLASS_RES_LIMIT (p * 8 + k) = 0) →
    s.directs = [] → s.get LIM_PHASE 0 = 0 → (∀ k : Nat, k < 4 → s.get SBD_MIR_CFG_EN k = 0) →
    (∀ l : Nat, l < 8 → s.get TRK_MSEC_CFG_EN l = 0) →
    Gives (.egressStart p false .none .none) s (fun t => t.out = s.out ++ [.frame p f.bytes (egressStamp s p d s.fresh) false] ∧
      t.queues = q1.filter (fun x => x ≠ ⟨p, c, f.id⟩) ++ q2 ∧
      t.wires = s.wires ++ [⟨p, c, f.id, s.get CORE_COUNT 0 + wireCycles (portRate s p) f.bytes.length, none, s.get CORE_COUNT 0⟩] ∧
      t.freeCtr = s.freeCtr + 1 ∧ t.events = s.events ∧
      CellsBut s t [(MAC_CNT_TX_TX_OK, p), (TRK_CNT_TX_TX_OK, p - 32)] [])) ∧
  (∀ (p : Fin 40) (c : Nat) (f : Frame) (s : State), s.queues = [⟨p, c, f.id⟩] → c < 8 → s.frame f.id = some f → f.seg = 0 →
    s.get SBD_QCLASS_RES_LIMIT (p * 8 + c) ≠ 0 →
    s.get SBD_QCLASS_RES_LIMIT (p * 8 + c) * 800 < s.get CORE_COUNT 0 - f.arrived → s.wires = [] →
    Gives (.egressStart p false .none .none) s (fun t => t.queues = [] ∧ t.out = s.out ∧ t.wires = [] ∧
      t.get SBD_QCNT_AGE_DROP (p * 8 + c) = min (s.get SBD_QCNT_AGE_DROP (p * 8 + c) + 1) (2 ^ 32 - 1))) ∧
  (∀ (p : Fin 40) (c : Nat) (f : Frame) (s : State), s.queues = [⟨p, c, f.id⟩] → c < 8 → s.frame f.id = some f →
    s.get SBD_QCLASS_RES_LIMIT (p * 8 + c) = 0 → s.wires = [] → gateOpen s p c = false →
    exec (.egressStart p false .none .none) s = .next s)

/-- Enabling a field port, its link going up and down, its lane's margin, degradation and retrain (R113, R114, R126, R127, R128, R129, R44, R105). -/
def Obligations.FieldPortLinks : Prop :=
  (∀ (q : Requester) (p : Fin 32) (v : Word) (s : State), s.permit q .registers (macAddr 0 p) true = .yes →
    v.toNat % 2 = 1 → v.toNat / 2 ^ 31 % 2 = 0 → s.get MAC_CFG_EN p = 0 → s.get MAC_CFG_LOCK p = 0 →
    (if p.val < 16 then v.toNat / 2 % 16 = 0 else 1 ≤ v.toNat / 2 % 16 ∧ v.toNat / 2 % 16 ≤ 6) →
    (v.toNat / 2 ^ 11 % 4 = 0 ∨ v.toNat / 2 ^ 11 % 4 = 3) → (s.get RDN_CFG_EN 0 = 0 ∨ p.val < 30) →
    Gives (.macPortEnable q p v) s (fun t => t.get MAC_CFG_EN p = 1 ∧ t.get MAC_CFG_MODE p = v.toNat / 2 % 16 ∧
      t.get MAC_CFG_AN_EN p = v.toNat / 2 ^ 5 % 2 ∧ t.get MAC_CFG_SPEED p = v.toNat / 2 ^ 6 % 8 ∧
      t.get MAC_CFG_HDX p = v.toNat / 2 ^ 9 % 2 ∧ t.get MAC_CFG_FCS_STRIP p = v.toNat / 2 ^ 10 % 2 ∧
      t.get MAC_CFG_RING_ROLE p = v.toNat / 2 ^ 11 % 4 ∧ t.get MAC_CFG_RING_PEER p = v.toNat / 2 ^ 13 % 32 ∧
      t.get MAC_CFG_TAG_BY_COURSE p = v.toNat / 2 ^ 18 % 2 ∧ t.get MAC_STAT_LINK p = 0 ∧ t.get MAC_STAT_TX_READY p = 0 ∧
      (16 ≤ p.val → s.domOn (domSerdes p) = true → s.get CLK_STAT_SERDES_REF_OK 0 = 1 → t.get MAC_STAT_LANE p = 1) ∧
      Quiet s t ∧ CellsBut s t [(MAC_CFG_EN, p), (MAC_CFG_MODE, p), (MAC_CFG_AN_EN, p), (MAC_CFG_SPEED, p), (MAC_CFG_HDX, p),
        (MAC_CFG_FCS_STRIP, p), (MAC_CFG_RING_ROLE, p), (MAC_CFG_RING_PEER, p), (MAC_CFG_TAG_BY_COURSE, p),
        (MAC_STAT_LINK, p), (MAC_STAT_TX_READY, p), (MAC_STAT_AN_DONE, p), (MAC_STAT_LANE, p)] [])) ∧
  (∀ (q : Requester) (p : Fin 32) (v : Word) (s : State), s.permit q .registers (macAddr 0 p) true = .yes →
    v.toNat % 2 = 1 → s.get MAC_CFG_EN p = 0 → s.get MAC_CFG_LOCK p = 0 →
    ((if p.val < 16 then v.toNat / 2 % 16 ≠ 0 else v.toNat / 2 % 16 = 0 ∨ 6 < v.toNat / 2 % 16) ∨
      ((v.toNat / 2 ^ 11 % 4 = 1 ∨ v.toNat / 2 ^ 11 % 4 = 2) ∧ v.toNat / 2 ^ 13 % 32 ≠ p.val ∧
        (s.get MAC_CFG_RING_PEER (v.toNat / 2 ^ 13 % 32) ≠ p.val ∨
          s.get MAC_CFG_RING_ROLE (v.toNat / 2 ^ 13 % 32) ≠ v.toNat / 2 ^ 11 % 4)) ∨
      (s.get RDN_CFG_EN 0 = 1 ∧ 30 ≤ p.val)) →
    Gives (.macPortEnable q p v) s (fun t => t.get MAC_CFG_EN p = 0 ∧ t.get MAC_STAT_CFG_ERR p = 1 ∧
      t.bit EVT_SEEN_SEEN ((271 + 16 * p) / 32) ((271 + 16 * p) % 32) = true ∧ t.get MAC_STAT_LINK p = s.get MAC_STAT_LINK p ∧
      t.out = s.out ∧ t.queues = s.queues)) ∧
  (∀ (q : Requester) (p : Fin 32) (v : Word) (s : State), s.permit q .registers (macAddr 0 p) true = .yes →
    v.toNat % 2 = 0 → v.toNat / 2 ^ 31 % 2 = 0 → s.get MAC_CFG_EN p = 0 → s.get MAC_CFG_LOCK p = 1 →
    exec (.macPortEnable q p v) s = .next ((((s.put MAC_CFG_AN_EN p (v.toNat / 2 ^ 5 % 2)).put MAC_CFG_SPEED p
      (v.toNat / 2 ^ 6 % 8)).put MAC_CFG_HDX p (v.toNat / 2 ^ 9 % 2)).put MAC_CFG_FCS_STRIP p (v.toNat / 2 ^ 10 % 2))) ∧
  (∀ (p : Fin 32) (sp : Fin 6) (fdx : Bool) (tx rx : BitVec 16) (s : State), s.get MAC_STAT_LINK p = 0 → s.get MAC_CFG_EN p = 1 →
    s.domOn (if p.val < 16 then domPhy p else domSerdes p) = true → (p.val < 16 ∨ s.get CLK_STAT_SERDES_REF_OK 0 = 1) →
    (∀ k : Nat, k < 32 → s.get MAC_SCAN_STAT_STATE k = 0) →
    Gives (.macLinkUp p sp fdx tx rx) s (fun t => t.get MAC_STAT_LINK p = 1 ∧ t.get MAC_STAT_TX_READY p = 1 ∧
      t.get MAC_STAT_SPEED p = (match s.get MAC_CFG_MODE p with
        | 1 => 2
        | 2 => 3
        | 5 => 5
        | 6 => 5
        | _ => if s.get MAC_CFG_AN_EN p ≠ 0 then sp.val else s.get MAC_CFG_SPEED p % 8) ∧
      (s.get MAC_CFG_MODE p ≠ 0 ∨ s.get MAC_CYC_CTRL_EN p = 1 ∨ s.get MAC_CFG_RING_ROLE p = 1 ∨ s.get MAC_CFG_RING_ROLE p = 2 →
        t.get MAC_STAT_FDX p = 1) ∧ (16 ≤ p.val → t.get MAC_STAT_LANE p = 2) ∧
      t.bit EVT_SEEN_SEEN ((256 + 16 * p) / 32) ((256 + 16 * p) % 32) = true ∧
      (16 ≤ p.val → t.get TMB_PVAR_VAR_TX p = tx.toNat ∧ t.get TMB_PVAR_VAR_RX p = rx.toNat) ∧
      (p.val < 16 → t.get MAC_STAT_SPEED p < 2 → t.get TMB_PVAR_VAR_TX p = 0 ∧ t.get TMB_PVAR_VAR_RX p = 0) ∧ QuietE s t ∧
      CellsBut s t [(MAC_STAT_LINK, p), (MAC_STAT_SPEED, p), (MAC_STAT_FDX, p), (MAC_STAT_TX_READY, p), (MAC_STAT_AN_DONE, p),
        (MAC_STAT_LANE, p), (LANE_GOOD, p), (TMB_PVAR_VAR_TX, p), (TMB_PVAR_VAR_RX, p), (TMB_PBASE_BASE_TX, p),
        (TMB_PBASE_BASE_RX, p), (ASYM_OUT, p), (VAR_NEXT, p), (SBD_PORT_PREEMPT_STATUS, p)] evtCells)) ∧
  (∀ (p : Fin 32) (sp : Fin 6) (fdx : Bool) (tx rx : BitVec 16) (s : State), s.get MAC_CFG_EN p = 0 →
    exec (.macLinkUp p sp fdx tx rx) s = .next s) ∧
  (∀ (p : Fin 32) (s : State), s.get MAC_STAT_LINK p = 1 → (∀ k : Nat, k < 32 → s.get MAC_SCAN_STAT_STATE k = 0) →
    Gives (.macLinkDown p) s (fun t => t.get MAC_STAT_LINK p = 0 ∧ t.get MAC_STAT_TX_READY p = 0 ∧
      t.bit EVT_SEEN_SEEN ((257 + 16 * p) / 32) ((257 + 16 * p) % 32) = true ∧
      t.queues = s.queues.filter (fun x => x.port ≠ p.val) ∧ t.out = s.out ∧ t.mem = s.mem ∧ t.wires = s.wires ∧
      CellsBut s t [(MAC_STAT_LINK, p), (MAC_STAT_TX_READY, p), (MAC_STAT_AN_DONE, p), (MAC_STAT_LANE, p),
        (SBD_PORT_PREEMPT_STATUS, p), (SBD_POOL_FREE, 0), (POOL_WAS_LOW, 0), (SBD_PCNT_LINK_DROP, p)] evtCells)) ∧
  (∀ (p : Fin 32) (m : Byte) (s : State), p.val < 16 →
    exec (.macMarginMeasure p m) s = .next (s.put MAC_STAT_MARGIN p m.toNat)) ∧
  (∀ (p : Fin 32) (m : Byte) (s : State), 16 ≤ p.val → s.get MAC_STAT_LANE p = 2 → m.toNat < s.get MAC_LANE_FLOOR p →
    m.toNat < s.get MAC_LANE_THRESH p → s.get LANE_LOW p = 1 →
    exec (.macMarginMeasure p m) s = .next (((((s.put MAC_STAT_MARGIN p m.toNat).put MAC_STAT_LANE p 4).put LANE_GOOD p 0).put
      MAC_CNT_LANE_DEGRADES p (min (s.get MAC_CNT_LANE_DEGRADES p + 1) (2 ^ 16 - 1))).raise (262 + 16 * p))) ∧
  (∀ (p : Fin 32) (m : Byte) (s : State), 16 ≤ p.val → s.get MAC_STAT_LANE p = 2 → s.get MAC_LANE_FLOOR p ≤ m.toNat →
    m.toNat < s.get MAC_LANE_THRESH p → s.get LANE_LOW p = 0 →
    exec (.macMarginMeasure p m) s = .next ((((s.put MAC_STAT_MARGIN p m.toNat).put LANE_LOW p 1).put LANE_REQ p 1).raise
      (261 + 16 * p))) ∧
  (∀ (p : Fin 32) (m : Byte) (s : State), 16 ≤ p.val → s.get MAC_STAT_LANE p = 4 → s.get MAC_LANE_FLOOR p ≤ m.toNat →
    s.get MAC_LANE_THRESH p ≤ m.toNat → max 1 (s.get MAC_LANE_RECOVER_N p) ≤ s.get LANE_GOOD p + 1 →
    exec (.macMarginMeasure p m) s = .next (((((s.put MAC_STAT_MARGIN p m.toNat).put LANE_LOW p 0).put LANE_GOOD p 0).put
      MAC_STAT_LANE p 2).raise (263 + 16 * p))) ∧
  (∀ (q : Requester) (p : Fin 32) (s : State), s.permit q .registers (macAddr 0x14 p) true = .yes →
    exec (.macRetrainReq q p) s = .next (if p.val < 16 then s else s.put LANE_REQ p 1)) ∧
  (∀ (p : Fin 32) (s : State), s.get LANE_REQ p = 1 → s.get MAC_STAT_LANE p = 2 ∨ s.get MAC_STAT_LANE p = 4 →
    (s.get SBD_LVR_CTRL_EN p = 0 ∨ protectedWithin s p (30000 * 256) = false) →
    (∀ x ∈ timedWaits s p, 30000 * 256 < x) →
    exec (.macRetrainWindow p) s = .next ((((s.put LANE_REQ p 0).put LANE_WAS p (s.get MAC_STAT_LANE p)).put MAC_STAT_LANE p
      3).put MAC_STAT_TX_READY p 0)) ∧
  (∀ (p : Fin 32) (s : State), (s.get LANE_REQ p = 0 ∨ (∃ x ∈ timedWaits s p, x ≤ 30000 * 256)) →
    exec (.macRetrainWindow p) s = .next s) ∧
  (∀ (p : Fin 32) (deg : Bool) (tx rx : BitVec 16) (s : State), s.get MAC_STAT_LANE p = 3 →
    Gives (.macRetrainDone p deg tx rx) s (fun t => t.get MAC_STAT_LANE p = (if deg then 4 else 2) ∧
      t.get MAC_STAT_TX_READY p = 1 ∧ t.get MAC_CNT_LANE_RETRAINS p = min (s.get MAC_CNT_LANE_RETRAINS p + 1) (2 ^ 16 - 1) ∧
      t.bit EVT_SEEN_SEEN ((264 + 16 * p) / 32) ((264 + 16 * p) % 32) = true ∧ QuietE s t ∧
      CellsBut s t [(MAC_STAT_LANE, p), (MAC_STAT_TX_READY, p), (LANE_GOOD, p), (MAC_CNT_LANE_RETRAINS, p),
        (MAC_CNT_LANE_DEGRADES, p), (TMB_PVAR_VAR_TX, p), (TMB_PVAR_VAR_RX, p), (ASYM_OUT, p), (VAR_NEXT, p)] evtCells)) ∧
  (∀ (p : Fin 32) (deg : Bool) (tx rx : BitVec 16) (s : State), s.get MAC_STAT_LANE p ≠ 3 →
    exec (.macRetrainDone p deg tx rx) s = .next s)

/-- What a field port does with a received frame, and the pass-through of a ring's node (R115, R116, R117, R114, R118, R175, R131, R132, R80). -/
def Obligations.FieldPortFrames : Prop :=
  (∀ (r : RxFrame) (s : State), r.port.val < 30 → s.get MAC_STAT_LINK r.port = 0 → exec (.frameReceive r) s = .next s) ∧
  (∀ (r : RxFrame) (s : State), r.port.val < 30 → s.get MAC_STAT_LINK r.port = 1 → s.get MAC_CFG_TAG_BY_COURSE r.port = 0 →
    (r.bytes.length < 64 ∨ max 64 (min 16000 (s.get MAC_MAXLEN_MAX_LEN r.port)) < r.bytes.length) → s.get SBD_CTRL_EN 0 = 0 →
    (∀ k : Nat, k < 16 → s.get MAC_CLS (r.port * 64 + 4 * k) % 2 = 0) → s.get MAC_CFG_RING_ROLE r.port = 0 →
    exec (.frameReceive r) s = .next
      (if s.get MAC_CNT_RX_RX_FCS r.port = 0 ∧ s.get MAC_CNT_RX_RX_LEN r.port = 0 then
        (s.put MAC_CNT_RX_RX_LEN r.port 1).raise (259 + 16 * r.port)
      else s.put MAC_CNT_RX_RX_LEN r.port (min (s.get MAC_CNT_RX_RX_LEN r.port + 1) (2 ^ 16 - 1)))) ∧
  (∀ (r : RxFrame) (s : State), r.port.val < 30 → s.get MAC_STAT_LINK r.port = 1 → s.get MAC_CFG_TAG_BY_COURSE r.port = 0 →
    64 ≤ r.bytes.length → r.bytes.length ≤ max 64 (min 16000 (s.get MAC_MAXLEN_MAX_LEN r.port)) → r.fcsOk = false →
    s.get SBD_CTRL_EN 0 = 0 → (∀ k : Nat, k < 16 → s.get MAC_CLS (r.port * 64 + 4 * k) % 2 = 0) →
    s.get MAC_CFG_RING_ROLE r.port = 0 →
    exec (.frameReceive r) s = .next
      (if s.get MAC_CNT_RX_RX_FCS r.port = 0 ∧ s.get MAC_CNT_RX_RX_LEN r.port = 0 then
        (s.put MAC_CNT_RX_RX_FCS r.port 1).raise (259 + 16 * r.port)
      else s.put MAC_CNT_RX_RX_FCS r.port (min (s.get MAC_CNT_RX_RX_FCS r.port + 1) (2 ^ 16 - 1)))) ∧
  (∀ (r : RxFrame) (da sa rest : List Byte) (s : State), r.port.val < 30 → s.get MAC_STAT_LINK r.port = 1 → r.fcsOk = true →
    r.bytes = da ++ sa ++ [0x88, 0x08, 0x00, 0x01] ++ rest → da.length = 6 → sa.length = 6 → 64 ≤ r.bytes.length →
    r.bytes.length ≤ max 64 (min 16000 (s.get MAC_MAXLEN_MAX_LEN r.port)) →
    exec (.frameReceive r) s = .next ((s.put MAC_CNT_RX_RX_OK r.port (min (s.get MAC_CNT_RX_RX_OK r.port + 1) (2 ^ 32 - 1))).put
      MAC_CNT_RX2_RX_PAUSE r.port (min (s.get MAC_CNT_RX2_RX_PAUSE r.port + 1) (2 ^ 16 - 1)))) ∧
  (∀ (r : RxFrame) (da sa rest : List Byte) (e0 e1 : Byte) (k : Nat) (s u : State), r.port.val < 30 →
    s.get MAC_STAT_LINK r.port = 1 → s.get MAC_CFG_TAG_BY_COURSE r.port = 0 → r.fcsOk = true →
    r.bytes = da ++ sa ++ [e0, e1] ++ rest → da.length = 6 → sa.length = 6 → 64 ≤ r.bytes.length →
    r.bytes.length ≤ max 64 (min 16000 (s.get MAC_MAXLEN_MAX_LEN r.port)) →
    e0.toNat * 256 + e1.toNat ∉ [0x0800, 0x86DD, 0x8100, 0x88A8, 0x8808] →
    u = s.put MAC_CNT_RX_RX_OK r.port (min (s.get MAC_CNT_RX_RX_OK r.port + 1) (2 ^ 32 - 1)) → k < 16 →
    s.get MAC_CLS (r.port * 64 + 4 * k) % 2 = 1 → s.get MAC_CLS (r.port * 64 + 4 * k) / 2 ^ 17 % 2 = 0 →
    s.get MAC_CLS (r.port * 64 + 4 * k) / 2 % 4 = 0 →
    (s.get MAC_CLS (r.port * 64 + 4 * k) / 2 ^ 16 % 2 = 0 ∨
      s.get MAC_CLS (r.port * 64 + 4 * k + 1) % 65536 = e0.toNat * 256 + e1.toNat) →
    (∀ j : Nat, j < k → s.get MAC_CLS (r.port * 64 + 4 * j) % 2 = 0) → s.get MAC_CFG_RING_ROLE r.port = 0 →
    exec (.frameReceive r) s = .next (tabTake (s.get MAC_CLS (r.port * 64 + 4 * k) / 2 ^ 8 % 2 ^ 8) r true (s.get CORE_COUNT 0 - r.age)
      (u.put MAC_CNT_RX2_RX_CYCLIC r.port (min (s.get MAC_CNT_RX2_RX_CYCLIC r.port + 1) (2 ^ 32 - 1))))) ∧
  (∀ (r : RxFrame) (da sa rest : List Byte) (e0 e1 : Byte) (s u : State), r.port.val < 30 →
    s.get MAC_STAT_LINK r.port = 1 → s.get MAC_CFG_TAG_BY_COURSE r.port = 0 → r.fcsOk = true →
    r.bytes = da ++ sa ++ [e0, e1] ++ rest → da.length = 6 → sa.length = 6 → 64 ≤ r.bytes.length →
    r.bytes.length ≤ max 64 (min 16000 (s.get MAC_MAXLEN_MAX_LEN r.port)) →
    e0.toNat * 256 + e1.toNat ∉ [0x0800, 0x86DD, 0x8100, 0x88A8, 0x8808] →
    u = s.put MAC_CNT_RX_RX_OK r.port (min (s.get MAC_CNT_RX_RX_OK r.port + 1) (2 ^ 32 - 1)) →
    (∀ j : Nat, j < 16 → s.get MAC_CLS (r.port * 64 + 4 * j) % 2 = 0) → s.hookIn = [] →
    (∀ n : Nat, n < 32 → s.bit CRS_OWN_PORTS n r.port = false) →
    (s.get MAC_CFG_MODE r.port, s.get MAC_STAT_SPEED r.port) ∈ [(0, 1), (0, 2), (1, 2), (2, 3), (3, 2), (4, 5), (5, 5)] →
    exec (.frameReceive r) s = .next (if s.get MAC_CFG_RING_ROLE r.port = 2 ∨
        (s.get MAC_CFG_RING_ROLE r.port = 1 ∧ owning s = false ∧ s.bit RDN_PORT_GATE_MASK 0 r.port = true) then
        { u with passing := s.passing ++ [⟨r.port, r.bytes, none, 0, false, s.bankOf r.port r.crossed r.spans, s.get CORE_COUNT 0 - r.age,
          stampsAt s r.port r.bytes r.age r.phase⟩] }
      else switchFrame r.port r.bytes false (stampsAt s r.port r.bytes r.age r.phase) u)) ∧
  (∀ (r : RxFrame) (da sa rest : List Byte) (e0 e1 : Byte) (s : State), r.port.val < 30 →
    s.get MAC_STAT_LINK r.port = 1 → s.get MAC_CFG_TAG_BY_COURSE r.port = 1 → r.fcsOk = true →
    r.bytes = da ++ sa ++ [e0, e1] ++ rest → da.length = 6 → sa.length = 6 → 64 ≤ r.bytes.length →
    r.bytes.length ≤ max 64 (min 16000 (s.get MAC_MAXLEN_MAX_LEN r.port)) →
    e0.toNat * 256 + e1.toNat ∉ [0x0800, 0x86DD, 0x8100, 0x88A8, 0x8808] → s.hooked = [] →
    Gives (.frameReceive r) s (fun t => t.hooked = [⟨s.get CORE_COUNT 0 - r.age + (64 * 6400 + portRate s r.port - 1) / portRate s r.port,
        s.get CORE_COUNT 0 - r.age, r, stampsAt s r.port r.bytes r.age r.phase⟩] ∧
      t.get MAC_CNT_RX_RX_OK r.port = min (s.get MAC_CNT_RX_RX_OK r.port + 1) (2 ^ 32 - 1) ∧
      t.bit EVT_SEEN_SEEN ((2080 + r.port) / 32) ((2080 + r.port) % 32) = true ∧ t.mem = s.mem ∧ t.out = s.out ∧
      t.passing = s.passing)) ∧
  (∀ (p : Fin 32) (c : Ecc) (e : BitVec 8) (s : State), (∀ x ∈ s.passing, x.inPort ≠ p) → exec (.passThroughFrame ⟨p, c⟩ e) s = .next s) ∧
  (∀ (p : Fin 32) (c : Ecc) (e : BitVec 8) (x : Passing) (ps : List Passing) (k : Nat) (s : State), s.passing = x :: ps → x ∉ ps →
    x.inPort = p → k = s.get MAC_CFG_RING_PEER p → k < 32 → s.get MAC_STAT_TX_READY k = 1 → s.get TMB_PCFG_TC_EN p = 0 → x.tag = none → x.bad = false →
    -8 ≤ e.toInt → e.toInt ≤ 8 →
    Gives (.passThroughFrame ⟨p, c⟩ e) s (fun t => t.passing = ps ∧
      t.get MAC_CNT_PT_PT_FWD p = min (s.get MAC_CNT_PT_PT_FWD p + 1) (2 ^ 32 - 1) ∧
      t.out = s.out ++ [.frame k (withFcs (x.bytes.take (x.bytes.length - 4)))
        (egressStamp s k (frameDomain s k (withFcs (x.bytes.take (x.bytes.length - 4)))) s.fresh) false] ∧ t.events = s.events ∧
      CellsBut s t [(MAC_CNT_PT_PT_FWD, p), (EB_DIR, p), (EB_AT, p), (MAC_EB_EXCESS, p), (MAC_EB_PEAK, p), (MAC_EB_EXCESS, k), (MAC_EB_PEAK, k),
        (MAC_CNT_TX_TX_OK, k)] [])) ∧
  (∀ (p : Fin 32) (c : Ecc) (e : BitVec 8) (x : Passing) (ps : List Passing) (k : Nat) (s : State), s.passing = x :: ps → x ∉ ps →
    x.inPort = p → k = s.get MAC_CFG_RING_PEER p → k < 32 → s.get MAC_STAT_TX_READY k = 1 → s.get TMB_PCFG_TC_EN p = 0 → x.tag = none →
    (e.toInt < -8 ∨ 8 < e.toInt) →
    Gives (.passThroughFrame ⟨p, c⟩ e) s (fun t => t.passing = ps ∧
      t.get MAC_CNT_PT_ELASTIC_OVERRUN p = min (s.get MAC_CNT_PT_ELASTIC_OVERRUN p + 1) 255 ∧
      t.get MAC_CNT_PT_PT_BAD p = min (s.get MAC_CNT_PT_PT_BAD p + 1) 255 ∧
      t.bit EVT_SEEN_SEEN ((260 + 16 * p) / 32) ((260 + 16 * p) % 32) = true ∧
      t.out = s.out ++ [.frame k (withFcs (x.bytes.take (x.bytes.length - 4)))
        (egressStamp s k (frameDomain s k (withFcs (x.bytes.take (x.bytes.length - 4)))) s.fresh) true])) ∧
  (∀ (p : Fin 32) (x : Passing) (ps : List Passing) (k : Nat) (s : State), s.passing = x :: ps → x ∉ ps →
    x.inPort = p → k = s.get MAC_CFG_RING_PEER p → k < 32 → s.get MAC_STAT_TX_READY k = 1 → s.get TMB_PCFG_TC_EN p = 0 → s.get RDN_CFG_EN 0 = 0 →
    x.bad = false → (passOverlay x s).2.1 = 0 →
    Gives (.passThroughFrame ⟨p, .none⟩ 0) s (fun t => t.passing = ps ∧ t.events = s.events ∧ t.freeCtr = s.freeCtr + 1 ∧
      t.out = s.out ++ [.frame k (withFcs ((passOverlay x s).1.take ((passOverlay x s).1.length - 4)))
        (egressStamp s k (frameDomain s k (withFcs ((passOverlay x s).1.take ((passOverlay x s).1.length - 4)))) s.fresh) false]))

/-- A cyclic frame's assembly, its egress at E, its late drop, and the launch of a direct-transmit frame (R122, R123, R124, R125, R65, R80, R130). -/
def Obligations.TimedTransmission : Prop :=
  (∀ (p : Fin 32) (e : Fin 64) (b : List Byte) (s : State), s.get LIM_PHASE 0 = 2 → s.get MAC_CYC_ON p = 1 →
    s.bit MAC_CYC_OK p e = true → s.bit MAC_CYC_DONE p e = false → (∀ a ∈ s.assembled, a.port ≠ p ∨ a.entry ≠ e) →
    s.get MAC_CFG_RING_ROLE p ≠ 2 → s.get RDN_CFG_EN 0 = 0 →
    s.reached (s.get LIM_CYC_CTRL_DOM 0) (cycE s p e (s.get LIM_CUR 0)) = false →
    b = s.bytes (sbBase + cycWord s p e 3 % 2 ^ 26) (cycWord s p e 2 % 2 ^ 14) →
    (150 + ((((s.liveEntries p (s.active p)).filter (fun x => x.kind = 2 && x.frame = cycWord s p e 0 / 2 ^ 8 % 2 ^ 8)).map
      (fun x => (s.pairsOf x).length)).sum + 63) / 64) * 256 ≤
        (cycE s p e (s.get LIM_CUR 0) + 2 ^ 40 - s.now (s.get LIM_CYC_CTRL_DOM 0)) % 2 ^ 40 →
    exec (.txAssembly p e .none) s =
      .next { s with assembled := s.assembled ++ [⟨p, e, overlayTx s p (cycWord s p e 0 / 2 ^ 8 % 2 ^ 8) b, false⟩] }) ∧
  (∀ (p : Fin 32) (e : Fin 64) (ecc : Ecc) (s : State), (s.get LIM_PHASE 0 ≠ 2 ∨ s.get MAC_CYC_ON p = 0 ∨ s.bit MAC_CYC_OK p e = false ∨
      s.bit MAC_CYC_DONE p e = true ∨ (∃ a ∈ s.assembled, a.port = p ∧ a.entry = e) ∨
      s.get MAC_CFG_RING_ROLE p = 2 ∨ s.reached (s.get LIM_CYC_CTRL_DOM 0) (cycE s p e (s.get LIM_CUR 0)) = true ∨
      (cycE s p e (s.get LIM_CUR 0) + 2 ^ 40 - s.now (s.get LIM_CYC_CTRL_DOM 0)) % 2 ^ 40 < 150 * 256) →
    exec (.txAssembly p e ecc) s = .next s) ∧
  (∀ (p : Fin 32) (e : Fin 64) (a : Assembled) (as : List Assembled) (d n : Nat) (s : State), s.get LIM_PHASE 0 = 2 →
    s.get MAC_CYC_ON p = 1 → s.bit MAC_CYC_OK p e = true → s.bit MAC_CYC_DONE p e = false → s.assembled = a :: as →
    a.port = p → a.entry = e → a.bad = false → (∀ x ∈ as, x.port ≠ p ∨ x.entry ≠ e) → (∀ x ∈ s.timed, x.list ≠ p ∨ x.entry ≠ e) →
    (∀ w ∈ s.wires, w.port ≠ p ∧ s.get LVR_HOLD w.port = 0 ∧ (w.paused = none → s.get CORE_COUNT 0 < w.until')) →
    s.get MAC_CFG_RING_ROLE p = 0 → s.get RDN_CFG_EN 0 = 0 → s.get MAC_STAT_LINK p = 1 → s.get MAC_STAT_TX_READY p = 1 →
    s.reached (s.get LIM_CYC_CTRL_DOM 0) (cycE s p e (s.get LIM_CUR 0)) = true →
    (s.now (s.get LIM_CYC_CTRL_DOM 0) + 2 ^ 40 - cycE s p e (s.get LIM_CUR 0)) % 2 ^ 40 * 5 ≤
      symbolTime s p + s.get MAC_CYC_CTRL_LATE_MAX p * 1600 →
    n = cycWord s p e 2 % 2 ^ 14 + 4 → gateFits s p (cycWord s p e 0 / 2 % 8) n = true →
    ptpAt (withFcs a.bytes) = none → d = frameDomain s p (withFcs a.bytes) → (∀ k : Nat, k < 4 → s.get SBD_MIR_CFG_EN k = 0) →
    Gives (.timedFrameEgress p e) s (fun t => t.bit MAC_CYC_DONE p e = true ∧ t.assembled = as ∧
      t.out = s.out ++ [.frame p (withFcs a.bytes) (egressStamp s p d s.fresh) false] ∧
      t.wires = s.wires ++ [⟨p, cycWord s p e 0 / 2 % 8, 0, s.get CORE_COUNT 0 +
        wireCycles (portRate s p) (withFcs a.bytes).length, none, s.get CORE_COUNT 0⟩] ∧ t.queues = s.queues ∧ t.mem = s.mem ∧
      t.timed = s.timed ∧
      t.get MAC_CNT_TX_TX_OK p = min (s.get MAC_CNT_TX_TX_OK p + 1) (2 ^ 32 - 1) ∧
      CellsBut s t [(MAC_CYC_DONE, p), (MAC_CNT_TX_TX_OK, p)] [])) ∧
  (∀ (p : Fin 32) (e : Fin 64) (why : Nat) (s : State), s.get LIM_PHASE 0 = 2 → s.get MAC_CYC_ON p = 1 →
    s.bit MAC_CYC_OK p e = true → s.bit MAC_CYC_DONE p e = false → s.wires = [] → s.get MAC_CFG_RING_ROLE p = 0 →
    s.get RDN_CFG_EN 0 = 0 → s.reached (s.get LIM_CYC_CTRL_DOM 0) (cycE s p e (s.get LIM_CUR 0)) = true →
    (∀ x ∈ s.timed, x.list ≠ p ∨ x.entry ≠ e) → (∀ x ∈ s.assembled, x.port = p ∧ x.entry = e) →
    (s.get MAC_STAT_LINK p = 0 ∨ s.get MAC_STAT_TX_READY p = 0 ∨ symbolTime s p + s.get MAC_CYC_CTRL_LATE_MAX p * 1600 <
        (s.now (s.get LIM_CYC_CTRL_DOM 0) + 2 ^ 40 - cycE s p e (s.get LIM_CUR 0)) % 2 ^ 40 * 5 ∨
      gateFits s p (cycWord s p e 0 / 2 % 8) (cycWord s p e 2 % 2 ^ 14 + 4) = false ∨ s.assembled = []) →
    why = (if s.get MAC_STAT_LINK p = 0 then 4 else if s.get MAC_STAT_TX_READY p = 0 then 2
      else if gateFits s p (cycWord s p e 0 / 2 % 8) (cycWord s p e 2 % 2 ^ 14 + 4) = false then 1
      else if s.assembled = [] then 5 else 3) →
    Gives (.timedFrameEgress p e) s (fun t => t.bit MAC_CYC_DONE p e = true ∧ t.get MAC_STAT_LATE_WHY p = why ∧
      t.get MAC_CNT_TX_TX_LATE_DROP p = min (s.get MAC_CNT_TX_TX_LATE_DROP p + 1) (2 ^ 16 - 1) ∧
      (s.get MAC_CNT_TX_TX_LATE_DROP p = 0 → t.bit EVT_SEEN_SEEN ((258 + 16 * p) / 32) ((258 + 16 * p) % 32) = true) ∧
      t.out = s.out ∧ t.wires = [] ∧ t.queues = s.queues ∧ t.assembled = [] ∧ t.timed = s.timed ∧
      CellsBut s t [(MAC_CYC_DONE, p), (MAC_STAT_LATE_WHY, p), (MAC_CNT_TX_TX_LATE_DROP, p)] evtCells)) ∧
  (∀ (p : Fin 32) (e : Fin 64) (s : State), s.wires = [] → (∀ x ∈ s.timed, x.list ≠ p ∨ x.entry ≠ e) →
    (s.reached (s.get LIM_CYC_CTRL_DOM 0) (cycE s p e (s.get LIM_CUR 0)) = false ∨ s.get LIM_PHASE 0 ≠ 2 ∨
      s.bit MAC_CYC_DONE p e = true ∨ s.get MAC_CFG_RING_ROLE p = 2) → exec (.timedFrameEgress p e) s = .next s) ∧
  (∀ (p : Fin 32) (e : Fin 64) (a : Assembled) (s : State), s.get LIM_PHASE 0 = 2 → s.get MAC_CYC_ON p = 1 →
    s.bit MAC_CYC_OK p e = true → s.bit MAC_CYC_DONE p e = false → s.wires = [] → s.get MAC_CFG_RING_ROLE p = 0 →
    s.assembled = [a] → a.port = p → a.entry = e → (∀ x ∈ s.timed, x.list ≠ p ∨ x.entry ≠ e) →
    gateFits s p (cycWord s p e 0 / 2 % 8) (cycWord s p e 2 % 2 ^ 14 + 4) = true →
    s.get RDN_CFG_EN 0 = 0 → s.reached (s.get LIM_CYC_CTRL_DOM 0) (cycE s p e (s.get LIM_CUR 0)) = true →
    s.get MAC_STAT_LINK p = 1 → s.get MAC_STAT_TX_READY p = 1 → symbolTime s p + s.get MAC_CYC_CTRL_LATE_MAX p * 1600 <
      (s.now (s.get LIM_CYC_CTRL_DOM 0) + 2 ^ 40 - cycE s p e (s.get LIM_CUR 0)) % 2 ^ 40 * 5 →
    Gives (.timedFrameLateDrop p (some e)) s (fun t => t.bit MAC_CYC_DONE p e = true ∧ t.get MAC_STAT_LATE_WHY p = 3 ∧
      t.get MAC_CNT_TX_TX_LATE_DROP p = min (s.get MAC_CNT_TX_TX_LATE_DROP p + 1) (2 ^ 16 - 1) ∧ t.out = s.out ∧ t.assembled = [] ∧
      t.timed = s.timed)) ∧
  (∀ (p : Fin 32) (x : Direct) (f : Frame) (o : TxOrigin) (d : Nat) (s : State), s.get RDN_CFG_EN 0 = 0 → s.directs = [x] → x.port = p →
    s.reached x.dom x.launch = true → s.frames = [f] → f.id = x.frame → f.origin = some o → f.refs = 1 → f.seg = 0 →
    o.word2 / 2 ^ 4 % 2 = 0 → f.inPort = 72 → f.info.handle = none → f.stamp = none → s.wires = [] → s.queues = [] →
    s.get MAC_STAT_LINK p = 1 → s.get MAC_STAT_TX_READY p = 1 →
    (s.now x.dom + 2 ^ 40 - x.launch) % 2 ^ 40 * 5 ≤ symbolTime s p + s.get MAC_CYC_CTRL_LATE_MAX p * 1600 →
    gateFits s p x.cls f.bytes.length = true → ptpAt f.bytes = none → d = frameDomain s p f.bytes →
    (∀ k : Nat, k < 4 → s.get SBD_MIR_CFG_EN k = 0) →
    Gives (.directTransmitLaunch ⟨p, false, .none, .none⟩) s (fun t => t.directs = [] ∧
      t.out = s.out ++ [.frame p f.bytes (egressStamp s p d s.fresh) false] ∧
      t.wires = [⟨p, x.cls, f.id, s.get CORE_COUNT 0 + wireCycles (portRate s p) f.bytes.length, none, s.get CORE_COUNT 0⟩] ∧
      t.frames = [{ f with stamp := some (egressStamp s p d s.fresh, d), seg := 1 }] ∧
      CellsBut s t [(MAC_CNT_TX_TX_OK, p)] [])) ∧
  (∀ (l : Launch) (p : Fin 32) (x : Direct) (f : Frame) (o : TxOrigin) (s : State), l.port = p → s.get RDN_CFG_EN 0 = 0 → s.directs = [x] → x.port = p →
    s.reached x.dom x.launch = true → s.frames = [f] → f.id = x.frame → f.origin = some o → f.refs = 1 → f.status = 0 →
    s.wires = [] → x.armed = false → s.get MAC_STAT_LINK p = 0 →
    Gives (.directTransmitLaunch l) s (fun t => t.directs = [] ∧ t.txDone = s.txDone ++ [⟨o, 2, f.stamp⟩] ∧ t.frames = [] ∧
      t.get MAC_STAT_LATE_WHY p = 4 ∧ t.out = s.out ∧
      t.get MAC_CNT_TX_TX_LATE_DROP p = min (s.get MAC_CNT_TX_TX_LATE_DROP p + 1) (2 ^ 16 - 1))) ∧
  (∀ (l : Launch) (p : Fin 32) (s : State), l.port = p → (∀ x ∈ s.directs, x.port = p → s.reached x.dom x.launch = false) → s.wires = [] →
    exec (.directTransmitLaunch l) s = .next s ∧ exec (.timedFrameLateDrop p none) s = .next s)

/-- The topology scan: start, probe answers, hops without an answer, link changes, and the assigned addresses (R133, R134, R135). -/
def Obligations.TopologyScan : Prop :=
  (∀ (q : Requester) (p : Fin 32) (b : List Byte) (s : State), s.permit q .registers (macAddr 0x300 p) true = .yes →
    s.get MAC_SCAN_STAT_STATE p ≠ 1 → s.get MAC_SCAN_STAT_STATE p ≠ 2 → s.get MAC_CFG_RING_ROLE p = 1 → s.get RDN_CFG_EN 0 = 0 →
    s.get MAC_STAT_LINK p = 1 →
    b = withFcs (putOctets (s.bytes (sbBase + s.get MAC_SCAN_TPL_OFFSET p) (s.get MAC_SCAN_TPL_LEN p))
      (s.get MAC_SCAN_TPL_HOP_OFF p) [0, 1]) →
    Gives (.scanGo q p) s (fun t => t.get MAC_SCAN_STAT_STATE p = 1 ∧ t.get MAC_SCAN_STAT_RESTARTED p = 0 ∧
      t.get MAC_SCAN_STAT_NODES p = 0 ∧ t.get MAC_SCAN_STAT_CONFIRMED p = 0 ∧ t.get MAC_SCAN_STAT_FROM_PORT p = p ∧
      (∀ w : Nat, w < 1024 → t.get SCAN_MAP (p * 1024 + w) = 0) ∧ t.get SCAN_HOP p = 1 ∧
      (MayQueue s p (s.get MAC_SCAN_CTRL_TC p) b → Queued p (s.get MAC_SCAN_CTRL_TC p) b s t) ∧ t.out = s.out ∧
      CellsBut s t ([(MAC_SCAN_STAT_STATE, p.val), (MAC_SCAN_STAT_RESTARTED, p.val), (MAC_SCAN_STAT_NODES, p.val),
        (MAC_SCAN_STAT_CONFIRMED, p.val), (MAC_SCAN_STAT_FROM_PORT, p.val), (SCAN_HOP, p.val), (SCAN_END, p.val)] ++
        queueCells1 p (s.get MAC_SCAN_CTRL_TC p)) (SCAN_MAP :: evtCells))) ∧
  (∀ (q : Requester) (p : Fin 32) (s : State), s.permit q .registers (macAddr 0x300 p) true = .yes →
    s.get MAC_SCAN_STAT_STATE p ≠ 1 → s.get MAC_SCAN_STAT_STATE p ≠ 2 →
    (s.get MAC_CFG_RING_ROLE p ≠ 1 ∨ s.get MAC_STAT_LINK p = 0) →
    exec (.scanGo q p) s = .next (s.put MAC_SCAN_STAT_STATE p 6) ∧ exec (.scanAbort q p) s = .next s) ∧
  (∀ (q : Requester) (p : Fin 32) (s : State), s.permit q .registers (macAddr 0x300 p) true = .yes →
    s.get MAC_SCAN_STAT_STATE p = 1 ∨ s.get MAC_SCAN_STAT_STATE p = 2 → exec (.scanGo q p) s = .next s ∧
    Gives (.scanAbort q p) s (fun t => t.get MAC_SCAN_STAT_STATE p = 5 ∧ t.cells = (s.put MAC_SCAN_STAT_STATE p 5).cells ∧
      { t with cells := s.cells, cmds := s.cmds } = s)) ∧
  (∀ (p : Fin 32) (r : RxFrame) (h id n ts : Nat) (s : State), s.get MAC_SCAN_STAT_STATE p = 1 → r.port.val = p.val → r.fcsOk = true →
    h = s.get SCAN_HOP p → 1 ≤ h → h < 255 → h < s.get MAC_SCAN_CTRL_MAXHOP p → be16 r.bytes (s.get MAC_SCAN_TPL_HOP_OFF p) = h →
    s.get CORE_COUNT 0 ≤ s.get SCAN_END p → id = beNum r.bytes (s.get MAC_SCAN_RSP_ID_OFF p) 6 → id ≠ 0 →
    s.get MAC_SCAN_CTRL_CHG_EN p = 0 → n = p * 1024 + 4 * (h - 1) → s.get SCAN_MAP (n + 1) = 0 →
    ts = ingressStamp s p (frameDomain s p r.bytes) r.age r.phase →
    Gives (.scanResponse p r) s (fun t => t.get SCAN_MAP n = id % 2 ^ 32 ∧
      t.get SCAN_MAP (n + 1) = (id / 2 ^ 32 + h * 2 ^ 16 + p * 2 ^ 24 + 2 ^ 29) % 2 ^ 32 ∧
      t.get SCAN_MAP (n + 2) = (ts + 2 ^ 40 - s.get SCAN_TS p) % 2 ^ 40 / 256 % 2 ^ 32 ∧
      t.get MAC_SCAN_STAT_NODES p = (s.get MAC_SCAN_STAT_NODES p + 1) % 2 ^ 8 ∧ t.get SCAN_HOP p = h + 1 ∧
      t.get MAC_SCAN_STAT_STATE p = 1 ∧ t.get MAC_SCAN_STAT_CONFIRMED p = s.get MAC_SCAN_STAT_CONFIRMED p)) ∧
  (∀ (p : Fin 32) (r : RxFrame) (h id n : Nat) (s : State), s.get MAC_SCAN_STAT_STATE p = 2 → r.port.val = p.val → r.fcsOk = true →
    h = s.get SCAN_HOP p → 1 ≤ h → h < 255 → h < s.get MAC_SCAN_CTRL_MAXHOP p → be16 r.bytes (s.get MAC_SCAN_TPL_HOP_OFF p) = h →
    s.get CORE_COUNT 0 ≤ s.get SCAN_END p → id = beNum r.bytes (s.get MAC_SCAN_RSP_ID_OFF p) 6 → id ≠ 0 →
    s.get MAC_SCAN_CTRL_CHG_EN p = 0 → n = p * 1024 + 4 * (h - 1) → s.get SCAN_MAP n = id % 2 ^ 32 →
    s.get SCAN_MAP (n + 1) = id / 2 ^ 32 + h * 2 ^ 16 + p * 2 ^ 24 + 2 ^ 29 →
    Gives (.scanResponse p r) s (fun t => t.get SCAN_MAP n = id % 2 ^ 32 ∧ t.bit SCAN_MAP (n + 1) 31 = true ∧
      t.bit SCAN_MAP (n + 1) 30 = true ∧ t.get MAC_SCAN_STAT_CONFIRMED p = (s.get MAC_SCAN_STAT_CONFIRMED p + 1) % 2 ^ 8 ∧
      t.get MAC_SCAN_STAT_NODES p = s.get MAC_SCAN_STAT_NODES p ∧ t.get SCAN_HOP p = h + 1)) ∧
  (∀ (p : Fin 32) (r : RxFrame) (s : State), s.get MAC_SCAN_STAT_STATE p = 2 → r.port.val = p.val → r.fcsOk = true →
    be16 r.bytes (s.get MAC_SCAN_TPL_HOP_OFF p) = s.get SCAN_HOP p → s.get CORE_COUNT 0 ≤ s.get SCAN_END p →
    beNum r.bytes (s.get MAC_SCAN_RSP_ID_OFF p) 6 = 0 →
    Gives (.scanResponse p r) s (fun t => t.get MAC_SCAN_STAT_STATE p = 3 ∧
      t.bit EVT_SEEN_SEEN ((265 + 16 * p) / 32) ((265 + 16 * p) % 32) = true ∧ t.out = s.out ∧
      CellsBut s t [(MAC_SCAN_STAT_STATE, p)] evtCells)) ∧
  (∀ (p : Fin 32) (r : RxFrame) (s : State), s.get MAC_SCAN_STAT_STATE p = 1 ∨ s.get MAC_SCAN_STAT_STATE p = 2 →
    r.port.val = s.get MAC_CFG_RING_PEER p → r.fcsOk = true → be16 r.bytes (s.get MAC_SCAN_TPL_HOP_OFF p) = s.get SCAN_HOP p →
    s.get CORE_COUNT 0 ≤ s.get SCAN_END p → beNum r.bytes (s.get MAC_SCAN_RSP_ID_OFF p) 6 ≠ 0 → s.get MAC_SCAN_CTRL_CHG_EN p = 1 →
    (r.bytes.getD (s.get MAC_SCAN_RSP_CHG_OFF p) 0).toNat % 2 = 1 →
    Gives (.scanResponse p r) s (fun t =>
      (s.get MAC_SCAN_STAT_RESTARTED p = 0 → t.get MAC_SCAN_STAT_STATE p = 1 ∧ t.get MAC_SCAN_STAT_RESTARTED p = 1 ∧
        t.get MAC_SCAN_STAT_FROM_PORT p = r.port ∧ t.get SCAN_HOP p = 1 ∧ (∀ w : Nat, w < 1024 → t.get SCAN_MAP (p * 1024 + w) = 0) ∧
        t.bit EVT_SEEN_SEEN ((266 + 16 * p) / 32) ((266 + 16 * p) % 32) = true) ∧
      (s.get MAC_SCAN_STAT_RESTARTED p = 1 → t.get MAC_SCAN_STAT_STATE p = 4 ∧ t.out = s.out ∧
        t.bit EVT_SEEN_SEEN ((267 + 16 * p) / 32) ((267 + 16 * p) % 32) = true))) ∧
  (∀ (p : Fin 32) (r : RxFrame) (s : State), (be16 r.bytes (s.get MAC_SCAN_TPL_HOP_OFF p) ≠ s.get SCAN_HOP p ∨
      s.get MAC_SCAN_STAT_STATE p = 0 ∨ s.get SCAN_END p < s.get CORE_COUNT 0 ∨ r.fcsOk = false ∨
      (r.port.val ≠ p.val ∧ r.port.val ≠ s.get MAC_CFG_RING_PEER p)) → exec (.scanResponse p r) s = .next s) ∧
  (∀ (p : Fin 32) (b : List Byte) (s : State), s.get MAC_SCAN_STAT_STATE p = 1 → s.get SCAN_END p ≤ s.get CORE_COUNT 0 →
    s.get MAC_SCAN_STAT_FROM_PORT p = p →
    b = withFcs (putOctets (s.bytes (sbBase + s.get MAC_SCAN_TPL_OFFSET p) (s.get MAC_SCAN_TPL_LEN p))
      (s.get MAC_SCAN_TPL_HOP_OFF p) [0, 1]) →
    Gives (.scanTimeout p) s (fun t => t.get MAC_SCAN_STAT_STATE p = 2 ∧ t.get SCAN_HOP p = 1 ∧
      (MayQueue s p (s.get MAC_SCAN_CTRL_TC p) b → Queued p (s.get MAC_SCAN_CTRL_TC p) b s t) ∧ t.out = s.out ∧
      CellsBut s t ([(MAC_SCAN_STAT_STATE, p.val), (SCAN_HOP, p.val), (SCAN_END, p.val)] ++
        queueCells1 p (s.get MAC_SCAN_CTRL_TC p)) evtCells)) ∧
  (∀ (p : Fin 32) (s : State), s.get MAC_SCAN_STAT_STATE p = 2 → s.get SCAN_END p ≤ s.get CORE_COUNT 0 →
    Gives (.scanTimeout p) s (fun t => t.get MAC_SCAN_STAT_STATE p = 3 ∧ t.out = s.out ∧
      t.bit EVT_SEEN_SEEN ((265 + 16 * p) / 32) ((265 + 16 * p) % 32) = true)) ∧
  (∀ (p : Fin 32) (s : State), s.get CORE_COUNT 0 < s.get SCAN_END p → exec (.scanTimeout p) s = .next s) ∧
  (∀ (q : Requester) (p : Fin 32) (n : Fin 256) (v : Word) (s : State),
    s.permit q .registers (macAddr (0x1000 + 16 * n.val + 12) p) true = .yes →
    exec (.scanAddrWrite q p n v) s = .next (if v.toNat % 2 ^ 16 = 0 ∨ (s.get SCAN_MAP (p * 1024 + 4 * n + 1)).testBit 31 = true then
      s.put SCAN_MAP (p * 1024 + 4 * n + 3) (v.toNat % 2 ^ 16) else s))

/-- Trunk groups, ports and lanes: enabling, link-up, failures, margin and degradation, windows and rate changes (R137, R138, R139, R140, R141, R142, R143, R144, R105, R7). -/
def Obligations.TrunkPortsAndLanes : Prop :=
  (∀ (q : Requester) (g : Fin 2) (v : Word) (s : State), s.permit q .registers (0x4070_0010 + 16 * g.val) true = .yes →
    s.get TRK_GRP_CFG_EN g = 1 → v.toNat % 2 = 1 → s.get TRK_SLICE_TAG_LOCK 0 = 0 →
    v.toNat / 2 % 2 ≠ s.get TRK_GRP_CFG_SPLIT g →
    exec (.trkGrpCfgWrite q g v) s = .next ((((s.put TRK_PORT_STAT_CFG_ERR (4 * g) 1).raise (782 + 64 * g))).put TRK_GRP_CFG_EN g 1)) ∧
  (∀ (q : Requester) (g : Fin 2) (v : Word) (s : State), s.permit q .registers (0x4070_0010 + 16 * g.val) true = .yes →
    s.get TRK_GRP_CFG_EN g = 0 → s.get TRK_SLICE_TAG_LOCK 0 = 0 → (∀ k : Nat, k < 8 → s.get TRK_PORT_STAT_LINK k = 0) →
    Gives (.trkGrpCfgWrite q g v) s (fun t => t.get TRK_GRP_CFG_EN g = v.toNat % 2 ∧ t.get TRK_GRP_CFG_SPLIT g = v.toNat / 2 % 2 ∧
      (∀ l : Fin 4, s.get TRK_PORT_CFG_EN (4 * g + l) = 0 → v.toNat % 2 = 1 → v.toNat / 2 % 2 = 0 →
        t.get TRK_LANE_STAT_LANE (4 * g + l) = 0) ∧ { t with cells := s.cells, freeCtr := s.freeCtr, events := s.events } = s)) ∧
  (∀ (q : Requester) (l : Fin 8) (v : Word) (s : State), s.permit q .registers (trkPortAddr 0 l) true = .yes →
    v.toNat % 2 = 1 → s.get TRK_PORT_CFG_EN l = 0 → s.get TRK_GRP_CFG_SPLIT (l / 4) = 0 → s.get TRK_GRP_CFG_EN (l / 4) = 1 →
    s.domOn (domTrunk (l / 4)) = true → s.get CLK_STAT_SERDES_REF_OK 0 = 1 → s.get TRK_SLICE_TAG_LOCK 0 = 0 →
    (s.get TRK_LANE_CFG_IF l ≠ 2 ∨ 2 ≤ s.get TRK_LANE_CFG_RATE l) →
    Gives (.trkPortEnable q l v) s (fun t => t.get TRK_PORT_CFG_EN l = 1 ∧ t.get TRK_PORT_CFG_FACING l = v.toNat / 2 % 4 ∧
      t.get TRK_PORT_CFG_SLICE_EN l = v.toNat / 2 ^ 3 % 2 ∧ t.get TRK_PORT_CFG_MAX_LEN l = v.toNat / 2 ^ 4 % 2 ^ 14 ∧
      t.get TRK_PORT_CFG_UNCORR_MAX l = v.toNat / 2 ^ 18 % 2 ^ 8 ∧ t.get TRK_LANE_STAT_LANE l = 1 ∧
      t.get TRK_PORT_STAT_LINK l = 0 ∧ t.get TRK_PORT_STAT_TX_READY l = 0 ∧ t.get TRK_LANE_STAT_SYNTH_LOCK l = 0 ∧
      t.freeCtr = s.freeCtr + 1 ∧ { t with cells := s.cells, freeCtr := s.freeCtr, events := s.events } = s ∧
      CellsBut s t [(TRK_PORT_CFG_EN, l), (TRK_PORT_CFG_FACING, l), (TRK_PORT_CFG_SLICE_EN, l), (TRK_PORT_CFG_MAX_LEN, l),
        (TRK_PORT_CFG_UNCORR_MAX, l), (TRAIN_FAILS, l), (TRAIN_RATE, l), (TRK_LANE_STAT_LANE, l), (TRK_LANE_STAT_SYNTH_LOCK, l),
        (SYNTH_FAILED, l), (SYNTH_SINCE, l), (SYNTH_AT, l), (LANE_REQ, 32 + l), (RATE_REQ, l), (RATE_RUN, l),
        (TRK_PORT_STAT_LINK, l), (TRK_PORT_STAT_FEC_LOCK, l), (TRK_PORT_STAT_ALIGNED, l),
        (TRK_PORT_STAT_TX_READY, l), (TRK_PORT_STAT_LIVE, l)] evtCells)) ∧
  (∀ (q : Requester) (l : Fin 8) (v : Word) (s : State), s.permit q .registers (trkPortAddr 0 l) true = .yes →
    v.toNat % 2 = 1 → s.get TRK_PORT_CFG_EN l = 0 → s.get TRK_GRP_CFG_SPLIT (l / 4) = 0 → s.get TRK_LANE_CFG_IF l = 2 →
    s.get TRK_LANE_CFG_RATE l < 2 →
    Gives (.trkPortEnable q l v) s (fun t => t.get TRK_PORT_CFG_EN l = 0 ∧ t.get TRK_PORT_STAT_CFG_ERR l = 1 ∧
      t.bit EVT_SEEN_SEEN ((782 + 16 * l) / 32) ((782 + 16 * l) % 32) = true ∧
      t.get TRK_LANE_STAT_LANE l = s.get TRK_LANE_STAT_LANE l)) ∧
  (∀ (k : Fin 8) (s : State), s.get TRK_LANE_STAT_LANE k = 1 → s.get TRK_LANE_STAT_SYNTH_LOCK k = 0 →
    s.get SYNTH_SINCE k + 800000 ≤ s.get CORE_COUNT 0 →
    Gives (.synthLockTimeout k) s (fun t => t.get TRK_LANE_STAT_LANE k = 0 ∧ t.get SYNTH_FAILED k = 1 ∧
      t.bit EVT_SEEN_SEEN ((781 + 16 * k) / 32) ((781 + 16 * k) % 32) = true ∧ QuietE s t)) ∧
  (∀ (k : Fin 8) (s : State), s.get SYNTH_FAILED k = 1 → s.get SYNTH_SINCE k + 80000000 ≤ s.get CORE_COUNT 0 →
    Gives (.synthRetry k) s (fun t => t.get TRK_LANE_STAT_LANE k = 1 ∧ t.get SYNTH_FAILED k = 0 ∧
      t.get TRK_LANE_STAT_SYNTH_LOCK k = 0 ∧ t.freeCtr = s.freeCtr + 1 ∧ { t with cells := s.cells, freeCtr := s.freeCtr } = s)) ∧
  (∀ (k : Fin 8) (s : State), s.get CORE_COUNT 0 < s.get SYNTH_SINCE k + 800000 →
    exec (.synthRetry k) s = .next s ∧ exec (.synthLockTimeout k) s = .next s) ∧
  (∀ (k : Fin 8) (s : State), s.get SYNTH_FAILED k = 0 → s.get TRK_LANE_STAT_SYNTH_LOCK k = 1 →
    exec (.synthRetry k) s = .next s ∧ exec (.synthLockTimeout k) s = .next s) ∧
  (∀ (l : Fin 8) (rate : Fin 3) (tx rx : BitVec 16) (s : State), s.get TRK_GRP_CFG_SPLIT (l / 4) = 0 → s.get TRK_PORT_CFG_EN l = 1 →
    s.get TRK_PORT_STAT_LINK l = 0 → s.get TRK_LANE_STAT_LANE l = 1 →
    Gives (.linkTrainingDone l rate tx rx) s (fun t => t.get TRK_LANE_STAT_LANE l = 2 ∧ t.get TRK_PORT_STAT_LINK l = 1 ∧
      t.get TRK_PORT_STAT_FEC_LOCK l = 1 ∧ t.get TRK_LANE_STAT_SYNTH_LOCK l = 1 ∧ t.get TRK_PORT_STAT_LIVE l = 1 ∧
      (s.get TRK_LANE_CFG_IF l = 2 → t.get TRK_LANE_STAT_RATE l = 2) ∧
      (s.get TRK_LANE_CFG_IF l ≠ 2 → s.get TRK_LANE_CFG_AN_EN l = 1 → t.get TRK_LANE_STAT_RATE l = min rate.val (min 2 (s.get TRK_LANE_CFG_RATE l))) ∧
      (s.get TRK_LANE_CFG_IF l ≠ 2 → s.get TRK_LANE_CFG_AN_EN l = 0 → s.get TRAIN_RATE l = 3 → t.get TRK_LANE_STAT_RATE l = min 2 (s.get TRK_LANE_CFG_RATE l)) ∧
      t.get TRK_PORT_STAT_TX_READY l = (if s.get TRK_MSEC_CFG_EN l = 0 ∨ s.get TRK_MSEC_SA_TX_SA l ≠ 0 then 1 else 0) ∧
      t.get TMB_PVAR_VAR_TX (32 + l) = tx.toNat ∧ t.get TMB_PVAR_VAR_RX (32 + l) = rx.toNat ∧
      t.bit EVT_SEEN_SEEN ((768 + 16 * l) / 32) ((768 + 16 * l) % 32) = true ∧ QuietE s t)) ∧
  (∀ (l : Fin 8) (rate : Fin 3) (tx rx : BitVec 16) (s : State), s.get TRK_PORT_CFG_EN l = 0 ∨ s.get TRK_PORT_STAT_LINK l = 1 →
    exec (.linkTrainingDone l rate tx rx) s = .next s) ∧
  (∀ (k : Fin 8) (s : State), s.get TRK_LANE_STAT_LANE k = 1 → s.get TRK_LANE_CFG_FALLBACK k = 1 → s.get TRK_LANE_CFG_AN_EN k = 0 →
    s.get TRK_GRP_CFG_SPLIT (k / 4) = 0 → s.get TRK_LANE_CFG_IF k ≠ 2 → exec (.trainingFailure k) s = .next
      (if s.get TRAIN_FAILS k < 2 then s.put TRAIN_FAILS k (s.get TRAIN_FAILS k + 1)
      else (s.put TRAIN_FAILS k 0).put TRAIN_RATE k
        ((if s.get TRAIN_RATE k = 3 then min 2 (s.get TRK_LANE_CFG_RATE k) else s.get TRAIN_RATE k) - 1))) ∧
  (∀ (k : Fin 8) (s : State), (s.get TRK_LANE_STAT_LANE k ≠ 1 ∨ s.get TRK_LANE_CFG_FALLBACK k = 0 ∨ s.get TRK_LANE_CFG_AN_EN k = 1 ∨
      s.get TRK_LANE_CFG_IF k = 2) →
    exec (.trainingFailure k) s = .next s) ∧
  (∀ (l : Fin 8) (s : State), l.val % 4 = 0 → s.get TRK_GRP_CFG_SPLIT (l / 4) = 1 → s.get TRK_PORT_STAT_ALIGNED l = 1 →
    s.get TRK_PORT_STAT_LINK l = 1 →
    Gives (.deskewLost l) s (fun t => t.get TRK_PORT_STAT_LINK l = 0 ∧ t.get TRK_PORT_STAT_ALIGNED l = 0 ∧
      t.get TRK_PORT_STAT_TX_READY l = 0 ∧ t.bit EVT_SEEN_SEEN ((780 + 16 * l) / 32) ((780 + 16 * l) % 32) = true ∧
      t.queues = s.queues.filter (fun x => x.port ≠ 32 + l.val))) ∧
  (∀ (l : Fin 8) (s : State), s.get TRK_GRP_CFG_SPLIT (l / 4) = 0 → exec (.deskewLost l) s = .next s) ∧
  (∀ (l : Fin 8) (s : State), s.get TRK_PORT_STAT_LINK l = 1 → s.get TRK_GRP_CFG_SPLIT (l / 4) = 0 →
    Gives (.trkLinkDown l) s (fun t => t.get TRK_PORT_STAT_LINK l = 0 ∧ t.get TRK_PORT_STAT_TX_READY l = 0 ∧
      t.get TRK_PORT_STAT_LIVE l = 0 ∧ t.bit EVT_SEEN_SEEN ((769 + 16 * l) / 32) ((769 + 16 * l) % 32) = true ∧
      t.queues = s.queues.filter (fun x => x.port ≠ 32 + l.val) ∧ t.out = s.out ∧ t.mem = s.mem)) ∧
  (∀ (k : Fin 8) (m : Byte) (s : State), s.get TRK_GRP_CFG_SPLIT (k / 4) = 0 → s.get TRK_LANE_STAT_LANE k = 2 →
    m.toNat < s.get TRK_LANE_THR_FLOOR k →
    Gives (.trkMarginMeasure k m 0 0) s (fun t => t.get TRK_LANE_STAT_MARGIN k = m.toNat ∧ t.get TRK_LANE_STAT_LANE k = 4 ∧
      t.get TRK_PORT_STAT_LIVE k = 0 ∧ t.get TRK_LANE_CNT_DEGRADES k = min (s.get TRK_LANE_CNT_DEGRADES k + 1) (2 ^ 16 - 1) ∧
      t.bit EVT_SEEN_SEEN ((773 + 16 * k) / 32) ((773 + 16 * k) % 32) = true ∧ QuietE s t)) ∧
  (∀ (k : Fin 8) (m : Byte) (s : State), s.get TRK_GRP_CFG_SPLIT (k / 4) = 0 → s.get TRK_LANE_STAT_LANE k = 2 →
    s.get TRK_LANE_THR_FLOOR k ≤ m.toNat → m.toNat < s.get TRK_LANE_THR_THRESH k → s.get LANE_LOW (32 + k) = 0 →
    Gives (.trkMarginMeasure k m 0 0) s (fun t => t.get TRK_LANE_STAT_LANE k = 2 ∧ t.get LANE_REQ (32 + k) = 1 ∧
      t.bit EVT_SEEN_SEEN ((772 + 16 * k) / 32) ((772 + 16 * k) % 32) = true)) ∧
  (∀ (k : Fin 8) (m : Byte) (corr uncorr : Word) (s : State), s.get TRK_GRP_CFG_SPLIT (k / 4) = 0 → s.get TRK_LANE_STAT_LANE k = 2 →
    s.get TRK_LANE_THR_FLOOR k ≤ m.toNat → s.get TRK_LANE_THR_THRESH k ≤ m.toNat →
    max 1 (s.get TRK_PORT_CFG_UNCORR_MAX k) ≤ uncorr.toNat →
    Gives (.trkMarginMeasure k m corr uncorr) s (fun t =>
      t.get TRK_CNT_FEC_UNCORR k = min (s.get TRK_CNT_FEC_UNCORR k + uncorr.toNat) (2 ^ 32 - 1) ∧
      t.get TRK_CNT_FEC_CORR k = min (s.get TRK_CNT_FEC_CORR k + corr.toNat) (2 ^ 32 - 1) ∧ t.get TRK_LANE_STAT_LANE k = 4)) ∧
  (∀ (k : Fin 8) (m : Byte) (s : State), s.get TRK_GRP_CFG_SPLIT (k / 4) = 0 → s.get TRK_LANE_STAT_LANE k = 4 →
    s.get TRK_LANE_THR_FLOOR k ≤ m.toNat → s.get TRK_LANE_THR_THRESH k ≤ m.toNat →
    max 1 (s.get TRK_LANE_THR_RECOVER_N k) ≤ s.get LANE_GOOD (32 + k) + 1 →
    Gives (.trkMarginMeasure k m 0 0) s (fun t => t.get TRK_LANE_STAT_LANE k = 2 ∧
      t.bit EVT_SEEN_SEEN ((774 + 16 * k) / 32) ((774 + 16 * k) % 32) = true)) ∧
  (∀ (q : Requester) (k : Fin 8) (s : State), s.permit q .registers (trkLaneAddr 8 k) true = .yes →
    exec (.trkRetrainReq q k) s = .next (s.put LANE_REQ (32 + k) 1)) ∧
  (∀ (q : Requester) (k : Fin 8) (v : Word) (s : State), s.permit q .registers (trkLaneAddr 0 k) true = .yes →
    s.get TRK_SLICE_TAG_LOCK 0 = 1 → s.get TRK_GRP_CFG_SPLIT (k / 4) = 0 → v.toNat % 4 ≠ s.get TRK_LANE_CFG_RATE k →
    s.get TRK_LANE_CFG_IF k ≠ 2 →
    exec (.trkRateWrite q k v) s = .next (if s.get TRK_PORT_CFG_EN k = 0 then
        (((s.put TRK_LANE_CFG_RATE k v.toNat).put TRK_LANE_CFG_AN_EN k (v.toNat / 2 ^ 4 % 2)).put TRK_LANE_CFG_FALLBACK k
          (v.toNat / 2 ^ 5 % 2))
      else (((s.put TRK_LANE_CFG_RATE k v.toNat).put TRK_LANE_CFG_AN_EN k (v.toNat / 2 ^ 4 % 2)).put TRK_LANE_CFG_FALLBACK k
          (v.toNat / 2 ^ 5 % 2)).put RATE_REQ k 1)) ∧
  (∀ (k : Fin 8) (s : State), s.get TRK_GRP_CFG_SPLIT (k / 4) = 0 → (s.get LANE_REQ (32 + k) = 1 ∨ s.get RATE_REQ k = 1) →
    s.get TRK_LANE_STAT_LANE k = 2 ∨ s.get TRK_LANE_STAT_LANE k = 4 → s.get SBD_LVR_CTRL_EN (32 + k) = 0 →
    (∀ x ∈ timedWaits s (32 + k), 50000 * 256 < x) →
    Gives (.trkRetrainWindow k) s (fun t => t.get TRK_LANE_STAT_LANE k = (if s.get RATE_REQ k = 0 then 3 else 1) ∧
      t.get TRK_PORT_STAT_TX_READY k = 0 ∧ t.get LANE_REQ (32 + k) = 0 ∧ t.get RATE_REQ k = 0 ∧
      { t with cells := s.cells, freeCtr := s.freeCtr } = s)) ∧
  (∀ (k : Fin 8) (s : State), (timedWaits s (32 + portOfLane s k)).any (fun x => decide (x ≤ 50000 * 256)) = true →
    exec (.trkRetrainWindow k) s = .next s) ∧
  (∀ (k : Fin 8) (deg : Bool) (rate : Fin 3) (tx rx : BitVec 16) (s : State), s.get TRK_GRP_CFG_SPLIT (k / 4) = 0 →
    s.get TRK_LANE_STAT_LANE k = 3 →
    Gives (.trkRetrainDone k deg rate tx rx) s (fun t => t.get TRK_LANE_STAT_LANE k = (if deg then 4 else 2) ∧
      t.get TRK_LANE_CNT_RETRAINS k = min (s.get TRK_LANE_CNT_RETRAINS k + 1) (2 ^ 16 - 1) ∧
      t.bit EVT_SEEN_SEEN ((775 + 16 * k) / 32) ((775 + 16 * k) % 32) = true ∧ t.get RATE_RUN k = 0 ∧ QuietE s t)) ∧
  (∀ (k : Fin 8) (deg : Bool) (rate : Fin 3) (tx rx : BitVec 16) (s : State), s.get TRK_LANE_STAT_LANE k = 2 →
    exec (.trkRetrainDone k deg rate tx rx) s = .next s)

/-- Slice frames out and in, and the association numbers of MACsec (R145, R146, R147, R149, R150, R152, R75, R76, R77, R28). -/
def Obligations.SlicesAndMacsec : Prop :=
  (∀ (e : Fin 64) (k n l b : Nat) (s : State), k = s.get SLICE_GOT e → n = sliceSlots (sliceWord s e 1 / 2 ^ 18 % 2 ^ 12) k →
    l = sliceWord s e 0 / 2 ^ 4 % 2 ^ 3 → b = (sliceE s e k (s.get LIM_CUR 0) + 2 ^ 40 - (150 + (33 * n + 63) / 64) * 256) % 2 ^ 40 →
    s.get LIM_PHASE 0 = 2 → sliceWord s e 0 % 2 = 1 → 480 * k < sliceWord s e 1 / 2 ^ 18 % 2 ^ 12 →
    s.get TRK_GRP_CFG_SPLIT (l / 4) = 0 → s.get TRK_PORT_CFG_EN l = 1 → s.get TRK_PORT_CFG_SLICE_EN l = 1 →
    s.get RDN_CFG_EN 0 = 0 → s.reached (s.get LIM_CYC_CTRL_DOM 0) b = true →
    (s.now (s.get LIM_CYC_CTRL_DOM 0) + 2 ^ 40 - b) % 2 ^ 40 ≤ 320 →
    Gives (.sliceRead e [] []) s (fun t => t.sliceReads = s.sliceReads ++ [⟨e, k,
        trunkFrame s (s.get TRK_PORT_MAC_MAC l) (sliceWord s e 0 / 2 ^ 16 % 2 ^ 3) (slicePayload s e k [] [] s.fresh), false⟩] ∧
      t.get SLICE_GOT e = k + 1 ∧ (slicePayload s e k [] [] s.fresh).take 2 = [0x5C, 0x01] ∧
      (slicePayload s e k [] [] s.fresh).length = 32 + 32 * n + (n + 3) / 4 * 4 ∧ t.out = s.out ∧
      CellsBut s t [(SLICE_GOT, e)] [])) ∧
  (∀ (e : Fin 64) (torn : List Nat) (ecc : List (Nat × Ecc)) (s : State), (s.get LIM_PHASE 0 ≠ 2 ∨ sliceWord s e 0 % 2 = 0 ∨
      s.get TRK_PORT_CFG_SLICE_EN (sliceWord s e 0 / 2 ^ 4 % 2 ^ 3) = 0) → exec (.sliceRead e torn ecc) s = .next s) ∧
  (∀ (e : Fin 64) (k n l c E d : Nat) (x : SliceRead) (xs : List SliceRead) (s : State), k = s.get SLICE_SENT e →
    n = sliceSlots (sliceWord s e 1 / 2 ^ 18 % 2 ^ 12) k → l = sliceWord s e 0 / 2 ^ 4 % 2 ^ 3 → c = sliceWord s e 0 / 2 ^ 16 % 2 ^ 3 →
    E = sliceE s e k (s.get LIM_CUR 0) → s.get LIM_PHASE 0 = 2 → sliceWord s e 0 % 2 = 1 →
    480 * k < sliceWord s e 1 / 2 ^ 18 % 2 ^ 12 → s.get TRK_GRP_CFG_SPLIT (l / 4) = 0 → s.get TRK_PORT_CFG_EN l = 1 →
    s.get TRK_PORT_CFG_SLICE_EN l = 1 → s.get RDN_CFG_EN 0 = 0 → s.get TRK_MSEC_CFG_EN l = 0 →
    s.reached (s.get LIM_CYC_CTRL_DOM 0) E = true →
    (s.now (s.get LIM_CYC_CTRL_DOM 0) + 2 ^ 40 - E) % 2 ^ 40 * 5 ≤ 10240000 / portRate s (32 + l) →
    s.get TRK_PORT_STAT_LINK l = 1 → s.get TRK_PORT_STAT_TX_READY l = 1 → gateFits s (32 + l) c (sliceLen n + 4) = true →
    s.wires = [] → s.sliceReads = x :: xs → x.entry = e → x.k = k → (∀ y ∈ xs, y.entry ≠ e) →
    ptpAt (withFcs x.bytes) = none → d = frameDomain s (32 + l) (withFcs x.bytes) → (∀ j : Nat, j < 4 → s.get SBD_MIR_CFG_EN j = 0) →
    Gives (.sliceFrameEgress e) s (fun t => t.get SLICE_SENT e = k + 1 ∧ t.sliceReads = xs ∧
      t.out = s.out ++ [.frame (32 + l) (withFcs x.bytes) (egressStamp s (32 + l) d s.fresh) false] ∧
      t.get TRK_CNT_TX_TX_OK l = min (s.get TRK_CNT_TX_TX_OK l + 1) (2 ^ 32 - 1) ∧ t.queues = s.queues ∧
      CellsBut s t [(SLICE_SENT, e), (SLICE_GOT, e), (TRK_CNT_TX_TX_OK, l)] [])) ∧
  (∀ (e : Fin 64) (k n l c E why : Nat) (s : State), k = s.get SLICE_SENT e →
    n = sliceSlots (sliceWord s e 1 / 2 ^ 18 % 2 ^ 12) k → l = sliceWord s e 0 / 2 ^ 4 % 2 ^ 3 → c = sliceWord s e 0 / 2 ^ 16 % 2 ^ 3 →
    E = sliceE s e k (s.get LIM_CUR 0) → s.get LIM_PHASE 0 = 2 → sliceWord s e 0 % 2 = 1 →
    480 * k < sliceWord s e 1 / 2 ^ 18 % 2 ^ 12 → s.get TRK_GRP_CFG_SPLIT (l / 4) = 0 → s.get RDN_CFG_EN 0 = 0 →
    s.get TRK_MSEC_CFG_EN l = 0 → s.reached (s.get LIM_CYC_CTRL_DOM 0) E = true → s.wires = [] → s.sliceReads = [] →
    why = (if s.get TRK_PORT_CFG_EN l = 0 ∨ s.get TRK_PORT_CFG_SLICE_EN l = 0 then 6
      else if s.get TRK_PORT_STAT_LINK l = 0 then 4 else if s.get TRK_PORT_STAT_TX_READY l = 0 then 2
      else if gateFits s (32 + l) c (sliceLen n + 4) = false then 1
      else if 10240000 / portRate s (32 + l) < (s.now (s.get LIM_CYC_CTRL_DOM 0) + 2 ^ 40 - E) % 2 ^ 40 * 5 then 3 else 5) →
    Gives (.sliceFrameEgress e) s (fun t => t.get SLICE_SENT e = k + 1 ∧ t.get TRK_PORT_STAT_LATE_WHY l = why ∧
      t.get TRK_CNT_TX_TX_LATE_DROP l = min (s.get TRK_CNT_TX_TX_LATE_DROP l + 1) (2 ^ 16 - 1) ∧
      (s.get TRK_CNT_TX_TX_LATE_DROP l = 0 → t.bit EVT_SEEN_SEEN ((770 + 16 * l) / 32) ((770 + 16 * l) % 32) = true) ∧
      t.out = s.out ∧ t.queues = s.queues)) ∧
  (∀ (e : Fin 64) (s : State), s.wires = [] → (s.get LIM_PHASE 0 ≠ 2 ∨ sliceWord s e 0 % 2 = 0 ∨
    s.reached (s.get LIM_CYC_CTRL_DOM 0) (sliceE s e (s.get SLICE_SENT e) (s.get LIM_CUR 0)) = false) →
    exec (.sliceFrameEgress e) s = .next s) ∧
  (∀ (r : RxFrame) (l : Nat) (s : State), 32 ≤ r.port.val → l = r.port.val - 32 → s.get TRK_PORT_STAT_LINK l = 1 → r.fcsOk = true →
    64 ≤ r.bytes.length → r.bytes.length ≤ max 64 (min 16000 (s.get TRK_PORT_CFG_MAX_LEN l)) → s.get TRK_MSEC_CFG_EN l = 0 →
    trunkSubtype s r.bytes = 0x5C → s.get TRK_PORT_CFG_SLICE_EN l = 1 → 2 ≤ s.get TRK_PORT_CFG_FACING l → r.crossed = 0 →
    etype r.bytes ≠ 0x8808 →
    exec (.frameReceive r) s = .next { s.put TRK_CNT_RX_RX_OK l (min (s.get TRK_CNT_RX_RX_OK l + 1) (2 ^ 32 - 1)) with
      sliceIn := s.sliceIn ++ [⟨r, true, s.get LIM_CYC_NUM_NUM 0 % 2 ^ 32, s.bankOf 32 0 r.spans⟩] }) ∧
  (∀ (r : RxFrame) (l : Nat) (s u : State), 32 ≤ r.port.val → l = r.port.val - 32 → s.get TRK_PORT_STAT_LINK l = 1 → r.fcsOk = true →
    64 ≤ r.bytes.length → r.bytes.length ≤ max 64 (min 16000 (s.get TRK_PORT_CFG_MAX_LEN l)) → s.get TRK_MSEC_CFG_EN l = 1 →
    etype r.bytes ≠ 0x888E → 2 ≤ s.get TRK_MSEC_CFG_VALIDATE l →
    (be16 r.bytes 12 ≠ 0x88E5 ∨ (∀ i : Nat, i < 16 → s.bit TRK_MSEC_SA_RX_SA l i = false)) →
    u = s.put TRK_CNT_RX_RX_OK l (min (s.get TRK_CNT_RX_RX_OK l + 1) (2 ^ 32 - 1)) →
    exec (.frameReceive r) s = .next (if s.get TRK_MSEC_CNT_NOT_VALID l = 0 ∧ s.get TRK_MSEC_CNT_LATE l = 0 then
      (u.put TRK_MSEC_CNT_NOT_VALID l 1).raise (779 + 16 * l)
      else u.put TRK_MSEC_CNT_NOT_VALID l (min (s.get TRK_MSEC_CNT_NOT_VALID l + 1) (2 ^ 16 - 1)))) ∧
  (∀ s : State, s.sliceIn = [] → exec .sliceFrameReceive s = .next s) ∧
  (∀ (x : SliceIn) (xs : List SliceIn) (s : State), s.sliceIn = x :: xs → payloadWord x.frame.bytes 0 / 2 ^ 16 ≠ s.get DEV_HUB_LINE_ID 0 →
    exec .sliceFrameReceive s = .next ({ s with sliceIn := xs }.put TRK_CNT_RX_LINE_DROP (x.frame.port.val - 32)
      (min (s.get TRK_CNT_RX_LINE_DROP (x.frame.port.val - 32) + 1) (2 ^ 16 - 1)))) ∧
  (∀ (x : SliceIn) (xs : List SliceIn) (s : State), s.sliceIn = x :: xs → payloadWord x.frame.bytes 0 / 2 ^ 16 = s.get DEV_HUB_LINE_ID 0 →
    (payloadWord x.frame.bytes 2 ≠ x.cycle ∨ s.slots = 0 ∨
      (∀ k : Nat, k < 64 → sliceWordIn s x.bank (64 + k) 0 % 2 = 0)) →
    exec .sliceFrameReceive s = .next (({ s with sliceIn := xs }.put LIM_CNT0_SLICE_DROP 0
      (min (s.get LIM_CNT0_SLICE_DROP 0 + 1) (2 ^ 16 - 1))).raise 2052)) ∧
  (∀ (x : SliceIn) (xs : List SliceIn) (e n : Nat) (s : State), s.sliceIn = x :: xs →
    payloadWord x.frame.bytes 0 / 2 ^ 16 = s.get DEV_HUB_LINE_ID 0 →
    sliceRxEntry s x.bank (payloadWord x.frame.bytes 1 % 2 ^ 6) (payloadWord x.frame.bytes 1 / 2 ^ 24 % 2 ^ 8) = some e →
    payloadWord x.frame.bytes 2 = x.cycle → x.cycle = s.get LIM_CYC_NUM_NUM 0 → x.frame.crossed = 0 →
    x.frame.late = false → x.good = true → payloadWord x.frame.bytes 3 % 2 ^ 18 = 0 → n = payloadWord x.frame.bytes 3 / 2 ^ 18 % 2 ^ 9 →
    payloadWord x.frame.bytes 3 / 2 ^ 31 % 2 = 0 → n ≤ sliceWordIn s x.bank e 1 / 2 ^ 18 % 2 ^ 12 →
    sliceWordIn s x.bank e 1 % 2 ^ 18 + n ≤ s.slots → sliceLen n + 4 ≤ x.frame.bytes.length →
    Gives .sliceFrameReceive s (fun t => t.sliceIn = xs ∧ t.cells = s.cells ∧
      (∀ j b : Nat, j < n → b < 32 → t.byte (s.slotAddr (x.cycle % 2) (32 * (sliceWordIn s x.bank e 1 % 2 ^ 18 + j) + b)) =
        x.frame.bytes.getD (50 + 32 * j + b) 0) ∧
      (∀ j : Nat, j < n → t.byte (s.statusAddr (x.cycle % 2) (sliceWordIn s x.bank e 1 % 2 ^ 18 + j)) =
        BitVec.ofNat 8 (x.cycle % 16 + 0x40)) ∧
      (∀ a : Nat, (a < sbBase + s.halfBase (x.cycle % 2) ∨ sbBase + s.halfBase (x.cycle % 2) + s.stride ≤ a) → t.byte a = s.byte a))) ∧
  (∀ (l : Fin 8) (tx : Bool) (chan an : Fin 4) (s : State), (∀ m ∈ s.mkas, m.port ≠ l) → exec (.saInstall l tx chan an) s = .next s) ∧
  (∀ (l : Fin 8) (tx : Bool) (chan an : Fin 4) (m : Mka) (s : State), s.mkas.find? (fun x => x.port = l.val) = some m →
    s.get PCS_STAT_STATE 0 ≠ pcsReady → exec (.saInstall l tx chan an) s = .next s.used) ∧
  (∀ (l : Fin 8) (tx : Bool) (chan an : Fin 4) (m : Mka) (s : State), s.mkas.find? (fun x => x.port = l.val) = some m →
    s.get PCS_STAT_DRBG_OK 0 = 0 → (s.fresh.testBit 0 = true → exec (.saInstall l tx chan an) s = .next s.used) ∧ s.used.mkas = s.mkas) ∧
  (∀ (l : Fin 8) (tx : Bool) (chan an : Fin 4) (m : Mka) (sa : Nat) (k : SaKey) (s : State), s.get TRK_GRP_CFG_SPLIT (l / 4) = 0 →
    s.mkas.find? (fun x => x.port = l.val) = some m → m.port = l → s.get PCS_STAT_STATE 0 = pcsReady → s.get PCS_STAT_DRBG_OK 0 = 1 →
    sa = (if tx then 16 + an.val else 4 * chan.val + an.val) → k = newSaKey l sa m.kek (s.fresh.testBit 0) s.used.fresh →
    Gives (.saInstall l tx chan an) s (fun t => (tx = true → t.bit TRK_MSEC_SA_TX_SA l an = true ∧
        (an.val = s.get TRK_MSEC_CFG_TX_AN l → t.get TRK_MSEC_TXPN_PN l = 1)) ∧
      (tx = false → t.bit TRK_MSEC_SA_RX_SA l (4 * chan + an) = true) ∧
      t.saKeys = s.saKeys.filter (fun x => !(x.port = l.val && x.sa = sa)) ++ [k] ∧
      (s.fresh.testBit 0 = true → t.get DRBG_REQS 0 = min (s.get DRBG_REQS 0 + 1) (2 ^ 32 - 1) ∧
        t.mkas = s.mkas.map (fun x => if x.port = l.val then { x with wrapped := Config.keyWrap x.kek k.sak } else x)) ∧
      (s.fresh.testBit 0 = false → t.get DRBG_REQS 0 = s.get DRBG_REQS 0 ∧ t.mkas = s.mkas) ∧
      { t with cells := s.cells, saKeys := s.saKeys, mkas := s.mkas, freeCtr := s.freeCtr } = s ∧
      CellsBut s t ((if tx then [(TRK_MSEC_SA_TX_SA, l.val), (TRK_MSEC_TXPN_PN, l.val), (MSEC_PN, 4 * l + an), (PN_SEEN, 4 * l + an)]
        else [(TRK_MSEC_SA_RX_SA, l.val), (MSEC_RXPN, 16 * l + 4 * chan + an)]) ++
        [(TRK_PORT_STAT_TX_READY, l.val), (TRK_PORT_STAT_LIVE, l.val), (DRBG_REQS, 0)]) [])) ∧
  (∀ (l : Fin 8) (chan an : Fin 4) (s : State), s.get TRK_MSEC_SA_RX_SA l < 2 ^ 16 →
    Gives (.saRetire l chan an) s (fun t => t.bit TRK_MSEC_SA_RX_SA l (4 * chan + an) = false ∧
      t.saKeys = s.saKeys.filter (fun x => !(x.port = l.val && x.sa = 4 * chan.val + an.val)) ∧
      { t with cells := s.cells, saKeys := s.saKeys } = s ∧
      CellsBut s t [(TRK_MSEC_SA_RX_SA, l)] [])) ∧
  (∀ (l : Fin 8) (an : Fin 4) (s : State), s.bit TRK_MSEC_SA_TX_SA l an = true → an.val ≠ s.get TRK_MSEC_CFG_TX_AN l →
    s.get TRK_MSEC_CFG_TX_AN l < 4 → s.get TRK_GRP_CFG_SPLIT (l / 4) = 0 →
    Gives (.txAnChange l an) s (fun t => t.get TRK_MSEC_CFG_TX_AN l = an ∧
      t.get TRK_MSEC_TXPN_PN l = s.get MSEC_PN (4 * l + an) % 2 ^ 64 ∧
      t.get MSEC_PN (4 * l + s.get TRK_MSEC_CFG_TX_AN l) = s.get TRK_MSEC_TXPN_PN l % 2 ^ 64 ∧ Quiet s t)) ∧
  (∀ (l : Fin 8) (an : Fin 4) (s : State), s.bit TRK_MSEC_SA_TX_SA l an = false → exec (.txAnChange l an) s = .next s)

/-- The time-transfer engine of a trunk port: requests, answers, and the samples that responses give (R147, R153, R154, R155, R45). -/
def Obligations.TimeTransfer : Prop :=
  (∀ (ch : Fin 9) (n c : Nat) (b : List Byte) (s : State), ch.val < 8 → s.get TRK_TT_CFG_EN ch = 1 → s.get TRK_PORT_STAT_LINK ch = 1 →
    s.get TRK_TT_DOM_SLAVE ch ≠ 0 → s.get TT_DUE ch ≤ s.get CORE_COUNT 0 → n = (s.get TT_SEQ ch + 1) % 2 ^ 16 →
    s.get TRK_TT_DOM_SLAVE ch < 2 ^ 16 → c = s.get TRK_TT_CFG_TC ch →
    b = withFcs (trunkFrame s (s.get TRK_PORT_MAC_MAC ch) c (([0x5E + 0x100 + s.get DEV_HUB_LINE_ID 0 * 2 ^ 16,
      s.get DEV_HUB_HUB_NUM 0 + n * 2 ^ 16, s.get TRK_TT_DOM_SLAVE ch] : List Nat).flatMap (toBytes 4))) →
    (∀ d : Nat, d < 16 → s.get TT_MISS (ch * 16 + d) ≠ 4) → portClosed s false (32 + ch) = false →
    admits s (s.get SBD_POOL_FREE 0) 1 (32 + ch) c = true →
    Gives (.ttRequestSend ch) s (fun t => t.get TT_SEQ ch = n ∧
      t.get TT_DUE ch = (s.get CORE_COUNT 0 + 800000000 / 2 ^ min 11 (s.get TRK_TT_CFG_LOG_INT ch)) % 2 ^ 64 ∧
      t.queues = s.queues ++ [⟨32 + ch, c, s.get FRAME_NEXT 0⟩] ∧ t.frames.length = s.frames.length + 1 ∧
      (t.frames.getD s.frames.length ⟨0, [], 0, 0, 0, 0, ⟨0, 0, 0, 0, 0, none, false, false, false, false, false, false, none⟩,
        none, 0, none, none, false, 0⟩).bytes = b ∧ t.get TRK_TT_CNT_LOST ch = s.get TRK_TT_CNT_LOST ch ∧ t.out = s.out)) ∧
  (∀ (ch : Fin 9) (d : Fin 16) (s : State), ch.val < 8 → s.get TRK_TT_CFG_EN ch = 1 → s.get TRK_PORT_STAT_LINK ch = 1 →
    s.get TRK_TT_DOM_SLAVE ch = 2 ^ d.val → s.get TT_DUE ch ≤ s.get CORE_COUNT 0 → s.get TT_MISS (ch * 16 + d) = 4 →
    s.get TT_LOST_SAID (ch * 16 + d) = 0 →
    Gives (.ttRequestSend ch) s (fun t => t.get TRK_TT_CNT_LOST ch = min (s.get TRK_TT_CNT_LOST ch + 1) (2 ^ 16 - 1) ∧
      t.bit EVT_SEEN_SEEN ((776 + 16 * ch) / 32) ((776 + 16 * ch) % 32) = true ∧ t.get TT_LOST_SAID (ch * 16 + d) = 1)) ∧
  (∀ (ch : Fin 9) (s : State), ch.val < 8 → (s.get TRK_TT_CFG_EN ch = 0 ∨ s.get TRK_TT_DOM_SLAVE ch = 0 ∨
    s.get TRK_PORT_STAT_LINK ch = 0 ∨ s.get CORE_COUNT 0 < s.get TT_DUE ch) → exec (.ttRequestSend ch) s = .next s) ∧
  (∀ (ch : Fin 9) (x : TtIn) (n c : Nat) (d : Fin 16) (b : List Byte) (s : State), ch.val < 8 → s.ttIn = [x] → x.chan = ch →
    octet x.payload 5 % 2 = 0 → s.get TRK_TT_CFG_EN ch = 1 → s.get TRK_PORT_STAT_LINK ch = 1 →
    n = ttWord x 1 / 2 ^ 16 → n < 2 ^ 16 → ttWord x 2 % 2 ^ 16 = 2 ^ d.val → (s.get TRK_TT_DOM_MASTER ch).testBit d = true →
    c = s.get TRK_TT_CFG_TC ch →
    b = withFcs (trunkFrame s (s.get TRK_PORT_MAC_MAC ch) c (([0x5E + 0x100 + s.get DEV_HUB_LINE_ID 0 * 2 ^ 16,
      s.get DEV_HUB_HUB_NUM 0 + 2 ^ 8 + n * 2 ^ 16, 2 ^ d.val, x.stamps.getD d 0 / 256, s.get TT_T3 (ch * 16 + d) / 256,
      x.stamps.getD d 0 % 256 + s.get TT_T3 (ch * 16 + d) % 256 * 2 ^ 8 +
        (if s.get TT_T3_ON ch ≠ 0 ∧ s.get TT_T3_SEQ ch = (n + 65535) % 65536 then 2 ^ 16 else 0)] : List Nat).flatMap (toBytes 4))) →
    admits s (s.get SBD_POOL_FREE 0) 1 (32 + ch) c = true →
    Gives (.ttRequestAnswer ch) s (fun t => t.ttIn = [] ∧ t.queues = s.queues ++ [⟨32 + ch, c, s.get FRAME_NEXT 0⟩] ∧
      (t.frames.getD s.frames.length ⟨0, [], 0, 0, 0, 0, ⟨0, 0, 0, 0, 0, none, false, false, false, false, false, false, none⟩,
        none, 0, none, none, false, 0⟩).bytes = b ∧ t.get TRK_TT_CNT_REFUSED ch = s.get TRK_TT_CNT_REFUSED ch)) ∧
  (∀ (ch : Fin 9) (x : TtIn) (d : Fin 16) (s : State), ch.val < 8 → s.ttIn = [x] → x.chan = ch →
    octet x.payload 5 % 2 = 0 → s.get TRK_TT_CFG_EN ch = 1 → s.get TRK_PORT_STAT_LINK ch = 1 → ttWord x 2 % 2 ^ 16 = 2 ^ d.val →
    (s.get TRK_TT_DOM_MASTER ch).testBit d = false →
    Gives (.ttRequestAnswer ch) s (fun t => t.ttIn = [] ∧
      t.get TRK_TT_CNT_REFUSED ch = min (s.get TRK_TT_CNT_REFUSED ch + 1) (2 ^ 16 - 1) ∧
      (s.get TRK_TT_CNT_REFUSED ch = 0 → t.bit EVT_SEEN_SEEN ((777 + 16 * ch) / 32) ((777 + 16 * ch) % 32) = true))) ∧
  (∀ (ch : Fin 9) (s : State), (∀ x ∈ s.ttIn, x.chan ≠ ch) → exec (.ttRequestAnswer ch) s = .next s ∧
    exec (.ttResponseReceive ch) s = .next s) ∧
  (∀ (ch : Fin 9) (x : TtIn) (s : State), s.ttIn = [x] → x.chan = ch → octet x.payload 5 % 2 = 1 →
    ttWord x 1 / 2 ^ 16 ≠ s.get TT_SEQ ch → exec (.ttResponseReceive ch) s = .next { s with ttIn := [] }) ∧
  (∀ (ch : Fin 9) (x : TtIn) (d : Fin 16) (n t1 t2 t3 t4 : Nat) (s : State), ch.val < 8 → s.ttIn = [x] → x.chan = ch →
    octet x.payload 5 % 2 = 1 → s.get TRK_TT_CFG_EN ch = 1 → s.get TRK_PORT_STAT_LINK ch = 1 → n = s.get TT_SEQ ch → n < 2 ^ 16 →
    ttWord x 1 / 2 ^ 16 = n → s.get TRK_TT_DOM_SLAVE ch = 2 ^ d.val → ttWord x 2 = 2 ^ d.val → s.get TT_HAVE ch = 1 →
    s.get TT_HAVE_SEQ ch = (n + 65535) % 65536 → s.get TT_CARRIED (ch * 16 + d) = 1 → ttWord x 5 / 2 ^ 16 % 2 = 1 →
    t1 = s.get TT_T1_OLD (ch * 16 + d) → t2 = s.get TT_T2 (ch * 16 + d) → t3 = ttWord x 4 * 256 + ttWord x 5 / 2 ^ 8 % 2 ^ 8 →
    t4 = s.get TT_T4 (ch * 16 + d) → t1 < 2 ^ 40 → t2 < 2 ^ 40 → t3 < 2 ^ 40 → t4 < 2 ^ 40 → s.get SMP_ON d = 0 →
    Gives (.ttResponseReceive ch) s (fun t => t.ttIn = [] ∧
      t.get TRK_TT_CNT_SAMPLES ch = min (s.get TRK_TT_CNT_SAMPLES ch + 1) (2 ^ 32 - 1) ∧
      t.get TRK_TT_DELAY_DELAY ch = ofSigned 24 ((ttDiff t2 t1 + ttDiff t4 t3).fdiv 2) ∧ t.get SMP_ON d = 1 ∧
      t.get SMP_THETA d = ofSigned 40 ((ttDiff t4 t3 - ttDiff t2 t1).fdiv 2 - s.getS TRK_TT_CFG_ASYM ch * 16) ∧
      t.get SMP_TS d = t4 / 256 ∧ t.get SMP_PORT d = 32 + ch ∧ t.get TT_MISS (ch * 16 + d) = 0 ∧
      t.get TT_T2 (ch * 16 + d) = (ttWord x 3 * 256 + ttWord x 5 % 256) % 2 ^ 40 ∧
      t.get TT_T4 (ch * 16 + d) = x.stamps.getD d 0 % 2 ^ 40 ∧ t.get TT_HAVE_SEQ ch = n ∧ Quiet { s with ttIn := [] } t)) ∧
  (∀ (ch : Fin 9) (x : TtIn) (d : Fin 16) (n : Nat) (s : State), ch.val < 8 → s.ttIn = [x] → x.chan = ch →
    octet x.payload 5 % 2 = 1 → s.get TRK_TT_CFG_EN ch = 1 → s.get TRK_PORT_STAT_LINK ch = 1 → n = s.get TT_SEQ ch → n < 2 ^ 16 →
    ttWord x 1 / 2 ^ 16 = n → s.get TRK_TT_DOM_SLAVE ch = 2 ^ d.val → ttWord x 2 = 2 ^ d.val →
    (s.get TT_HAVE ch = 0 ∨ s.get TT_HAVE_SEQ ch ≠ (n + 65535) % 65536 ∨ ttWord x 5 / 2 ^ 16 % 2 = 0) →
    Gives (.ttResponseReceive ch) s (fun t => t.get TRK_TT_CNT_SAMPLES ch = s.get TRK_TT_CNT_SAMPLES ch ∧
      t.get SMP_ON d = s.get SMP_ON d ∧ t.get TT_HAVE ch = 1 ∧ t.get TT_HAVE_SEQ ch = n ∧ t.get TT_MISS (ch * 16 + d) = 0))

/-- Course states, group start, the watchdog, time compares and software events (R161, R162, R171, R173, R174, R180). -/
def Obligations.CourseStates : Prop :=
  (∀ (n : Fin 32) (s : State), s.permit .cc .registers (crsAddr 0 n) true = .yes →
    exec (.crsStart .cc n) s = .next (if s.get CRS_STAT_STATE n = 1 then s.put CRS_STAT_STATE n 2 else s)) ∧
  (∀ (n : Fin 32) (s : State), s.permit .cc .registers (crsAddr 0 n) true = .yes →
    (s.get CRS_STAT_STATE n = 2 ∨ s.get CRS_STAT_STATE n = 3) →
    Gives (.crsStop .cc n) s (fun t => t.get CRS_STAT_STATE n = 1 ∧ (t.wtb.filter (fun l => l.who = n.val)) = [] ∧
      t.get CRS_STAT_HALT_WHY n = s.get CRS_STAT_HALT_WHY n)) ∧
  (∀ (n : Fin 32) (s : State), s.permit .cc .registers (crsAddr 0 n) true = .yes →
    (s.get CRS_STAT_STATE n = 2 ∨ s.get CRS_STAT_STATE n = 3) → s.wtb = [] → s.get TRB_STAT_LOCKED 0 = 0 →
    exec (.crsStop .cc n) s = .next ((s.put CRS_STAT_STATE n 1).put CORE_BLOCK n 0)) ∧
  (∀ (n : Fin 32) (s : State), s.permit .cc .registers (crsAddr 0 n) true = .yes →
    (s.get CRS_STAT_STATE n = 0 ∨ s.get CRS_STAT_STATE n = 1) → exec (.crsStop .cc n) s = .next s) ∧
  (∀ (mask at' : Word) (s : State), s.permit .cc .registers 0x4088_1000 true = .yes → s.get LIM_STAT_RUNNING 0 = 1 →
    s.get LIM_CYC_NUM_NUM 0 < 2 ^ 32 → 1 ≤ (at'.toNat + 2 ^ 32 - s.get LIM_CYC_NUM_NUM 0) % 2 ^ 32 →
    (at'.toNat + 2 ^ 32 - s.get LIM_CYC_NUM_NUM 0) % 2 ^ 32 < 2 ^ 31 →
    exec (.crsGstartArm .cc mask at') s =
      .next (((s.put CRS_GSTART_MASK 0 mask.toNat).put CRS_GSTART_AT 0 at'.toNat).put GST_ARMED 0 1)) ∧
  (∀ (mask at' : Word) (s : State), s.permit .cc .registers 0x4088_1000 true = .yes →
    (s.get LIM_STAT_RUNNING 0 = 0 ∨ (at'.toNat + 2 ^ 32 - s.get LIM_CYC_NUM_NUM 0) % 2 ^ 32 = 0 ∨
      2 ^ 31 ≤ (at'.toNat + 2 ^ 32 - s.get LIM_CYC_NUM_NUM 0) % 2 ^ 32) →
    Gives (.crsGstartArm .cc mask at') s (fun t => (∀ n : Fin 32, t.get CRS_STAT_STATE n =
        if mask.getLsbD n = true ∧ s.get CRS_STAT_STATE n = 1 then 2 else s.get CRS_STAT_STATE n) ∧ t.get GST_ARMED 0 = 0 ∧
      Quiet s t ∧ CellsBut s t [(CRS_GSTART_MASK, 0), (CRS_GSTART_AT, 0), (GST_ARMED, 0)] [CRS_STAT_STATE])) ∧
  (∀ (q : Requester) (n : Fin 32) (s : State), s.permit q .registers (crsAddr 0 n) true = .yes →
    exec (.crsWdogKick q n) s = .next ((s.put WDOG_CNT n 0).put WDOG_SAID n 0)) ∧
  (∀ (n : Fin 32) (s : State), 0 < s.get CRS_CTRL_WDOG_N n → s.get CRS_CTRL_WDOG_N n ≤ s.get WDOG_CNT n → s.get WDOG_SAID n = 0 →
    exec (.courseWatchdogWarning n) s = .next (if s.bit CRS_EVT_PEND_PEND n 63 then (s.put WDOG_SAID n 1).putBit CRS_EVT_DUP_DUP n 63 true
      else (s.put WDOG_SAID n 1).putBit CRS_EVT_PEND_PEND n 63 true)) ∧
  (∀ (n : Fin 32) (s : State), (s.get CRS_CTRL_WDOG_N n = 0 ∨ s.get WDOG_CNT n < s.get CRS_CTRL_WDOG_N n) →
    exec (.courseWatchdogWarning n) s = .next s ∧ exec (.courseWatchdogExpiry n) s = .next s) ∧
  (∀ (n : Fin 32) (s : State), 0 < s.get CRS_CTRL_WDOG_N n → 2 * s.get CRS_CTRL_WDOG_N n ≤ s.get WDOG_CNT n →
    s.get CRS_STAT_STATE n = 2 → s.get TRB_STAT_LOCKED 0 = 0 →
    Gives (.courseWatchdogExpiry n) s (fun t => t.get CRS_STAT_STATE n = 3 ∧ t.get CRS_STAT_HALT_WHY n = 2 ∧
      t.bit EVT_SEEN_SEEN ((3971 + 4 * n) / 32) ((3971 + 4 * n) % 32) = true ∧ QuietE s t ∧
      CellsBut s t [(CRS_STAT_STATE, n), (CRS_STAT_HALT_WHY, n), (WDOG_CNT, n), (WDOG_SAID, n), (CRS_EVT_PEND_PEND, n),
        (CRS_EVT_DUP_DUP, n), (CORE_BLOCK, n)] (MAC_CYC_HALT :: evtCells) ∧
      (∀ p : Fin 32, t.get MAC_CYC_HALT p =
        if s.get CRS_CTRL_HALT_PORTS n ≠ 0 ∧ s.bit CRS_OWN_PORTS n p = true then 1 else s.get MAC_CYC_HALT p))) ∧
  (∀ (q : Requester) (n : Fin 32) (i : Fin 4) (ns : Word) (frac : Byte) (dom : Fin 16) (s : State),
    s.permit q .registers (crsAddr (0x200 + 0x10 * i) n) true = .yes →
    exec (.crsTcmpArm q n i ns frac dom) s = .next ((((s.put CRS_TCMP_NS (4 * n + i) ns.toNat).put CRS_TCMP_FRAC (4 * n + i)
      frac.toNat).put CRS_TCMP_DOM (4 * n + i) dom).put CRS_TCMP_ARM (4 * n + i) 1)) ∧
  (∀ (n : Fin 32) (i : Fin 4) (d : Nat) (s : State), s.get CRS_TCMP_ARM (4 * n + i) = 1 → d = s.get CRS_TCMP_DOM (4 * n + i) →
    s.get TMB_CTR d < 2 ^ 72 → s.get CRS_TCMP_NS (4 * n + i) < 2 ^ 32 → s.get CRS_TCMP_FRAC (4 * n + i) < 2 ^ 8 →
    s.bit CRS_EVT_PEND_PEND n (56 + i) = false →
    exec (.tcmpMatch n i) s = .next (if (s.get TMB_CTR d / 2 ^ 32 + 2 ^ 40 - (s.get CRS_TCMP_NS (4 * n + i) * 256 +
        s.get CRS_TCMP_FRAC (4 * n + i))) % 2 ^ 40 < 2 ^ 39 then
      ((s.put CRS_TCMP_ARM (4 * n + i) 0).put CRS_TCMP_FIRED (4 * n + i) 1).putBit CRS_EVT_PEND_PEND n (56 + i) true else s)) ∧
  (∀ (n : Fin 32) (i : Fin 4) (s : State), s.get CRS_TCMP_ARM (4 * n + i) = 0 → exec (.tcmpMatch n i) s = .next s) ∧
  (∀ (q : Requester) (n : Fin 32) (v : BitVec 3) (s : State), s.permit q .registers (crsAddr 0x300 n) true = .yes →
    Gives (.crsSwevt q n v) s (fun t => (∀ k : Fin 3, v.getLsbD k = true →
        t.bit EVT_SEEN_SEEN ((3968 + 4 * n + k) / 32) ((3968 + 4 * n + k) % 32) = true) ∧
      (v = 0 → t = s) ∧ QuietE s t ∧ CellsBut s t [] evtCells))

/-- Port hooks, the Courses' frame rings, and the message queues (R175, R176, R177, R178, R179, R181, R119, R94, R116). -/
def Obligations.HooksRingsAndQueues : Prop :=
  (∀ (q : Requester) (n p : Fin 32) (tag : Byte) (h : HookHeld) (s u : State), s.permit q .registers (crsAddr (0x800 + 8 * p) n) true = .yes →
    s.bit CRS_OWN_PORTS n p = true → s.hooked = [h] → h.frame.port.val = p.val → h.frame.fcsOk = true → 64 ≤ h.frame.bytes.length →
    h.frame.bytes.length ≤ max 64 (min 16000 (s.get MAC_MAXLEN_MAX_LEN p)) → s.get MAC_CFG_RING_ROLE p = 0 →
    u = (({ s with hooked := [] } : State).put CRS_HOOK_TAG (n * 32 + p) tag.toNat) →
    exec (.hookTag q n p tag) s = .next (if h.deadline ≤ s.get CORE_COUNT 0 then switchFrame p h.frame.bytes false h.stamps u
      else if 10000 ≤ portRate s p then s.put CRS_HOOK_TAG (n * 32 + p) tag.toNat
      else tabTake tag.toNat h.frame true h.first (u.put MAC_CNT_RX2_RX_CYCLIC p
        (min (s.get MAC_CNT_RX2_RX_CYCLIC p + 1) (2 ^ 32 - 1))))) ∧
  (∀ (q : Requester) (n p : Fin 32) (tag : Byte) (s : State), s.permit q .registers (crsAddr (0x800 + 8 * p) n) true = .yes →
    s.bit CRS_OWN_PORTS n p = false → exec (.hookTag q n p tag) s = .next s) ∧
  (∀ (q : Requester) (n p : Fin 32) (off : BitVec 14) (en : BitVec 4) (data : Word) (v : BitVec 64) (x : Passing) (s : State),
    s.permit q .registers (crsAddr 0xA00 n) true = .yes →
    v.toNat % 2 ^ 57 = data.toNat + off.toNat * 2 ^ 32 + p * 2 ^ 48 + en.toNat * 2 ^ 53 → v.toNat / 2 ^ 46 % 4 = 0 →
    s.bit CRS_OWN_PORTS n p = true → s.passing = [x] → x.inPort = p → s.bit RDN_PORT_GATE_MASK 0 p = false →
    (∀ k : Nat, k < x.bytes.length → off.toNat ≤ k ∧ k < off.toNat + 4 ∧ en.getLsbD (k - off.toNat) = true →
      octetLeft s p x.first k = false) →
    exec (.crsHookWr q n v) s = .next { s with passing := [{ x with bytes := (List.range x.bytes.length).map (fun k =>
      if off.toNat ≤ k ∧ k < off.toNat + 4 ∧ en.getLsbD (k - off.toNat) = true then BitVec.ofNat 8 (data.toNat / 2 ^ (8 * (k - off.toNat)))
      else x.bytes.getD k 0) }] }) ∧
  (∀ (q : Requester) (n p : Fin 32) (off : BitVec 14) (en : BitVec 4) (data : Word) (v : BitVec 64) (x : Passing) (s : State),
    s.permit q .registers (crsAddr 0xA00 n) true = .yes →
    v.toNat % 2 ^ 57 = data.toNat + off.toNat * 2 ^ 32 + p * 2 ^ 48 + en.toNat * 2 ^ 53 → v.toNat / 2 ^ 46 % 4 = 0 →
    s.bit CRS_OWN_PORTS n p = true → s.passing = [x] → x.inPort = p → s.bit RDN_PORT_GATE_MASK 0 p = false → en ≠ 0 →
    off.toNat + 4 ≤ x.bytes.length → (∀ k : Nat, k < 4 → octetLeft s p x.first (off.toNat + k) = true) →
    exec (.crsHookWr q n v) s = .next (s.count1 MAC_CNT_PT_PT_LATE p (268 + 16 * p))) ∧
  (∀ (q : Requester) (n p : Fin 32) (v : BitVec 64) (s : State), s.permit q .registers (crsAddr 0xA00 n) true = .yes →
    v.toNat / 2 ^ 48 % 32 = p → (∀ x ∈ s.passing, x.inPort ≠ p) → (∀ h ∈ s.hooked, h.frame.port.val ≠ p) →
    s.bit RDN_PORT_GATE_MASK 0 p = false →
    exec (.crsHookWr q n v) s = .next (if s.bit CRS_OWN_PORTS n p = true then s.count1 MAC_CNT_PT_PT_LATE p (268 + 16 * p) else s)) ∧
  (∀ (q : Requester) (n : Fin 32) (v : BitVec 12) (s : State), s.permit q .registers (crsAddr 0x408 n) true = .yes →
    exec (.crsTxrTail q n v) s = .next ((s.put CRS_TXR_PTR_TAIL n (v.toNat % 2 ^ min 12 (max 4 (s.get CRS_TXR_CFG_LOG2 n)))).put
      TXR_STUCK n 0)) ∧
  (∀ (q : Requester) (n : Fin 32) (v : BitVec 12) (s : State), s.permit q .registers (crsAddr 0x418 n) true = .yes →
    exec (.crsRxrTail q n v) s = .next (s.put CRS_RXR_PTR_TAIL n (v.toNat % 2 ^ min 12 (max 4 (s.get CRS_RXR_CFG_LOG2 n))))) ∧
  (∀ (n : Fin 33) (e : Ecc) (s : State), n.val < 32 → (s.get CRS_TXR_PTR_HEAD n = s.get CRS_TXR_PTR_TAIL n ∨ s.get TXR_STUCK n = 1) →
    exec (.txDescriptorTake n e) s = .next s) ∧
  (∀ (n : Fin 33) (e : Ecc) (s : State), n.val < 32 → s.get CRS_TXR_PTR_HEAD n ≠ s.get CRS_TXR_PTR_TAIL n → s.get TXR_STUCK n = 0 →
    s.word (txDesc s n + 28) < 2 ^ 31 → exec (.txDescriptorTake n e) s = .next ((s.put CRS_RING_CNT_TX_BAD n
      (min (s.get CRS_RING_CNT_TX_BAD n + 1) (2 ^ 16 - 1))).put TXR_STUCK n 1)) ∧
  (∀ (n : Fin 33) (a : Nat) (s : State), n.val < 32 → s.get CRS_TXR_PTR_HEAD n ≠ s.get CRS_TXR_PTR_TAIL n → s.get TXR_STUCK n = 0 →
    a = txDesc s n → 2 ^ 31 ≤ s.word (a + 28) → s.word (a + 28) < 2 ^ 32 → 72 < s.word a / 2 ^ 22 % 2 ^ 7 →
    Gives (.txDescriptorTake n .none) s (fun t => t.txDone = s.txDone ++ [⟨⟨n, a, s.word (a + 8), s.word (a + 12)⟩, 6, none⟩] ∧
      t.get CRS_TXR_PTR_HEAD n = (s.get CRS_TXR_PTR_HEAD n + 1) % 2 ^ min 12 (max 4 (s.get CRS_TXR_CFG_LOG2 n)) ∧
      t.frames = s.frames ∧ t.mem = s.mem ∧ t.queues = s.queues)) ∧
  (∀ (n : Fin 33) (a dest tc : Nat) (buf : List Byte) (s : State), n.val < 32 → s.get CRS_TXR_PTR_HEAD n ≠ s.get CRS_TXR_PTR_TAIL n →
    s.get TXR_STUCK n = 0 → a = txDesc s n → s.word (a + 28) / 2 ^ 31 % 2 = 1 → dest = s.word a / 2 ^ 22 % 2 ^ 7 → dest < 40 →
    tc = s.word a / 2 ^ 19 % 2 ^ 3 → s.word (a + 8) % 2 ^ 7 < 2 → portClosed s false dest = false → portClosed s true dest = false →
    buf = (List.range (s.word a % 2 ^ 19)).map (fun k => s.byte (sbBase + s.word (a + 4) % 2 ^ 26 + k)) →
    admits s (s.get SBD_POOL_FREE 0) (cellsOf (buf.length + 4 * (s.word (a + 8) % 2))) dest tc = true →
    admits s (s.get SBD_POOL_FREE 0) (cellsOf buf.length) dest tc = true → 8 ≤ buf.length →
    Gives (.txDescriptorTake n .none) s (fun t => t.queues = s.queues ++ [⟨dest, tc, s.get FRAME_NEXT 0⟩] ∧
      t.frames.map (fun f => f.bytes) = s.frames.map (fun f => f.bytes) ++ [if s.word (a + 8) % 2 = 1 then withFcs buf else buf] ∧
      t.get CRS_TXR_PTR_HEAD n = (s.get CRS_TXR_PTR_HEAD n + 1) % 2 ^ min 12 (max 4 (s.get CRS_TXR_CFG_LOG2 n)) ∧
      t.txDone = s.txDone ∧ t.mem = s.mem)) ∧
  (∀ (a : Nat) (s : State), a = ccDesc s.fresh →
    Gives (.txDescriptorTake 32 .none) s (fun t => (s.word (a + 28) < 2 ^ 31 → t = s.used) ∧
      (s.word (a + 28) / 2 ^ 31 % 2 = 1 → 72 < s.word a / 2 ^ 22 % 2 ^ 7 →
        t = { s.used with txDone := s.txDone ++ [⟨⟨32, a, s.word (a + 8), s.word (a + 12)⟩, 6, none⟩] }))) ∧
  (∀ (n : Fin 33) (s : State), (∀ d ∈ s.txDone, d.origin.ring ≠ n) → exec (.txCompletion n) s = .next s) ∧
  (∀ (n : Fin 33) (off st : Nat) (o : TxOrigin) (s : State), s.txDone = [⟨o, st, none⟩] → o.ring = n → o.desc = sbBase + off →
    st < 256 → SbPlain s (off + 28) 4 →
    Gives (.txCompletion n) s (fun t => t.txDone = [] ∧ t.mem = (s.putBytes (sbBase + off + 28)
        (toBytes 4 (s.word (sbBase + off + 28) % 2 ^ 31 / 256 * 256 + st))).mem ∧
      (n.val < 32 → s.word (sbBase + off + 28) / 2 ^ 30 % 2 = 1 → s.bit CRS_EVT_PEND_PEND n 61 = false →
        t.bit CRS_EVT_PEND_PEND n 61 = true) ∧
      (n.val = 32 ∨ s.word (sbBase + off + 28) / 2 ^ 30 % 2 = 0 → t.cells = s.cells))) ∧
  (∀ (n : Fin 33) (e : Ecc) (s : State), s.queues = [] → exec (.rxRingDelivery ⟨n, e⟩) s = .next (if n.val = 32 then s.used else s)) ∧
  (∀ (n : Fin 33) (c id a buf : Nat) (f : Frame) (s : State), n.val < 32 → (∀ k : Nat, k < 4 → s.get SBD_MIR_CFG_EN k = 0) → s.queues = [⟨40 + n, c, id⟩] → c < 8 → s.frames = [f] → f.id = id →
    f.refs = 1 → f.origin = none → f.info.mirror = false → 40 ≤ f.inPort → agedCopy s ⟨40 + n, c, id⟩ = false → a = rxDesc s n →
    s.get CRS_RXR_PTR_HEAD n ≠ s.get CRS_RXR_PTR_TAIL n → s.word (a + 28) / 2 ^ 31 % 2 = 1 →
    f.bytes.length ≤ 64 * s.get CRS_RXR_CFG_RXBUF n → 0 < s.get CRS_RXR_CFG_RXBUF n → f.bytes.length < 2 ^ 14 →
    buf = s.word (a + 4) % 2 ^ 26 → buf + f.bytes.length ≤ a - sbBase ∨ a - sbBase + 32 ≤ buf → SbPlain s buf f.bytes.length →
    SbPlain s (a - sbBase) 32 → s.bit CRS_EVT_PEND_PEND n 60 = false →
    Gives (.rxRingDelivery ⟨n, .none⟩) s (fun t => t.queues = [] ∧ t.frames = [] ∧ t.bytes (sbBase + buf) f.bytes.length = f.bytes ∧
      t.word a % 2 ^ 14 = f.bytes.length ∧ t.word a / 2 ^ 15 % 2 ^ 7 = f.inPort % 128 ∧ t.word a / 2 ^ 22 % 2 ^ 3 = c ∧
      t.word (a + 28) = s.word (a + 28) % 2 ^ 31 ∧ t.word (a + 20) = s.word (a + 20) ∧ t.bit CRS_EVT_PEND_PEND n 60 = true ∧
      t.get CRS_RXR_PTR_HEAD n = (s.get CRS_RXR_PTR_HEAD n + 1) % 2 ^ min 12 (max 4 (s.get CRS_RXR_CFG_LOG2 n)))) ∧
  (∀ (n : Fin 33) (c id a : Nat) (f : Frame) (s : State), n.val < 32 → s.queues = [⟨40 + n, c, id⟩] → c < 8 → s.frames = [f] → f.id = id →
    f.refs = 1 → f.origin = none → f.info.mirror = false → 40 ≤ f.inPort → agedCopy s ⟨40 + n, c, id⟩ = false → a = rxDesc s n →
    s.get CRS_RXR_PTR_HEAD n ≠ s.get CRS_RXR_PTR_TAIL n → s.word (a + 28) / 2 ^ 31 % 2 = 1 →
    64 * s.get CRS_RXR_CFG_RXBUF n < f.bytes.length → 0 < s.get CRS_RXR_CFG_RXBUF n →
    Gives (.rxRingDelivery ⟨n, .none⟩) s (fun t => t.queues = [] ∧ t.frames = [] ∧ t.mem = s.mem ∧
      t.get CRS_RING_CNT_RX_TOOBIG n = min (s.get CRS_RING_CNT_RX_TOOBIG n + 1) (2 ^ 16 - 1) ∧
      t.get CRS_RXR_PTR_HEAD n = s.get CRS_RXR_PTR_HEAD n)) ∧
  (∀ (q : Requester) (n : Fin 32) (k : Fin 64) (b : Nat) (s : State), s.permit q .registers (crsAddr 0x510 n) true = .yes →
    s.get CRS_Q_CFG_EN k = 1 → s.get Q_FULL k = 0 →
    b = 64 * s.get CRS_Q_CFG_BASE k + 16 * s.get CRS_Q_PTR_TAIL k → SbPlain s b 16 →
    Gives (.crsMsgSend q n k) s (fun t => t.get CRS_MSG_STAT_FULL n = 0 ∧
      t.get CRS_Q_PTR_TAIL k = (s.get CRS_Q_PTR_TAIL k + 1) % 2 ^ min 12 (max 4 (s.get CRS_Q_CFG_LOG2 k)) ∧
      (t.get Q_FULL k = 1 ↔ t.get CRS_Q_PTR_TAIL k = s.get CRS_Q_PTR_HEAD k) ∧
      t.mem = (s.putBytes (sbBase + b) ([0, 1, 2, 3].flatMap (fun i => toBytes 4 (s.get CRS_MSG_DATA (4 * n + i))))).mem ∧
      (s.get CRS_Q_CFG_CONSUMER k < 32 → s.bit CRS_EVT_PEND_PEND (s.get CRS_Q_CFG_CONSUMER k) 62 = false →
        t.bit CRS_EVT_PEND_PEND (s.get CRS_Q_CFG_CONSUMER k) 62 = true) ∧ t.get CRS_MSG_STAT_FULL_CNT n = s.get CRS_MSG_STAT_FULL_CNT n)) ∧
  (∀ (q : Requester) (n : Fin 32) (k : Fin 64) (s : State), s.permit q .registers (crsAddr 0x510 n) true = .yes →
    (s.get CRS_Q_CFG_EN k = 0 ∨ s.get Q_FULL k = 1) →
    exec (.crsMsgSend q n k) s = .next ((s.put CRS_MSG_STAT_FULL n 1).put CRS_MSG_STAT_FULL_CNT n
      (min (s.get CRS_MSG_STAT_FULL_CNT n + 1) (2 ^ 16 - 1)))) ∧
  (∀ (n : Fin 32) (k : Fin 64) (s : State), s.permit (.course n) .registers (crsAddr 0x518 n) true = .yes →
    exec (.crsQPop (.course n) n k) s = .next (if s.get CRS_Q_CFG_CONSUMER k ≠ n then s.refuse (.course n) (crsAddr 0x518 n) 2
      else if s.get CRS_Q_PTR_HEAD k = s.get CRS_Q_PTR_TAIL k ∧ s.get Q_FULL k = 0 then s
      else (s.put CRS_Q_PTR_HEAD k ((s.get CRS_Q_PTR_HEAD k + 1) % 2 ^ min 12 (max 4 (s.get CRS_Q_CFG_LOG2 k)))).put Q_FULL k 0)) ∧
  (∀ (k : Fin 64) (v : BitVec 30) (s : State), s.permit .cc .registers (crsGlobal (0x10 * k)) true = .yes →
    exec (.crsQEnable .cc k v) s = .next (((((((s.put CRS_Q_CFG_BASE k (v.toNat % 2 ^ 20)).put CRS_Q_CFG_LOG2 k (v.toNat / 2 ^ 20 % 2 ^ 4)).put
      CRS_Q_CFG_CONSUMER k (v.toNat / 2 ^ 24 % 2 ^ 6)).put CRS_Q_CFG_EN k 1).put CRS_Q_PTR_HEAD k 0).put CRS_Q_PTR_TAIL k 0).put Q_FULL k 0))

/-- The directory of the L1 caches: rounds, arbitration, retries, and lines given up (R182, R183, R184, R218). -/
def Obligations.Directory : Prop :=
  (∀ (line : BitVec 20) (k : Fin 33) (kd : DirKind) (L : Nat) (s : State), L = sbBase / 64 + line.toNat → l1On s k = true →
    s.dir = [] → s.dirReqs = [] → s.dirRounds = [] →
    exec (.directoryRequest line [(k, kd)]) s = .next { s.put DIR_ROT 0 ((k + 1) % 33) with
      dir := [if kd = .rd then ⟨L, none, false, [k.val]⟩ else ⟨L, some k.val, !s.imageLine L, []⟩], dirRounds := [L] }) ∧
  (∀ (line : BitVec 20) (k j : Fin 33) (dirty : Bool) (L : Nat) (s : State), L = sbBase / 64 + line.toNat → l1On s k = true → j ≠ k →
    s.dir = [⟨L, some j.val, dirty, []⟩] → s.dirReqs = [] → s.dirRounds = [] → s.resvs = [⟨j, 64 * L, 64⟩] →
    exec (.directoryRequest line [(k, .own)]) s = .next { s.put DIR_ROT 0 ((k + 1) % 33) with
      dir := [⟨L, some k.val, !s.imageLine L, []⟩], dirRounds := [L], resvs := [] } ∧
    exec (.directoryRequest line [(k, .rd)]) s = .next { s.put DIR_ROT 0 ((k + 1) % 33) with
      dir := [⟨L, none, false, [k.val]⟩], dirRounds := [L], resvs := [] }) ∧
  (∀ (line : BitVec 20) (j k : Fin 33) (L : Nat) (s : State), L = sbBase / 64 + line.toNat → l1On s k = true → l1On s j = true →
    j ≠ k → s.dir = [] → s.dirReqs = [] → s.dirRounds = [] →
    Gives (.directoryRequest line [(j, .rd), (k, .rd)]) s (fun t => t.holdersOf L = [j.val, k.val] ∨ t.holdersOf L = [k.val, j.val]) ∧
    Gives (.directoryRequest line [(j, .rd), (k, .rd)]) s (fun t => t.dirReqs = [] ∧ t.dirRounds = [L])) ∧
  (∀ (line : BitVec 20) (j k : Fin 33) (L : Nat) (s : State), k.val < 32 → L = sbBase / 64 + line.toNat → l1On s k = true → l1On s j = true →
    j ≠ k → s.dir = [] → s.dirReqs = [] → s.dirRounds = [] → s.get DIR_ROT 0 < 33 →
    (j + 33 - s.get DIR_ROT 0) % 33 < (k + 33 - s.get DIR_ROT 0) % 33 →
    Gives (.directoryRequest line [(k, .own), (j, .own)]) s (fun t => t.dir = [⟨L, some j.val, !s.imageLine L, []⟩] ∧
      t.dirReqs = [⟨L, k, .own, some 1, false⟩] ∧ t.dirRounds = [L] ∧ t.get DIR_ROT 0 = (j + 1) % 33 ∧
      t.get CRS_STALL_RETRY k = min (s.get CRS_STALL_RETRY k + 1) (2 ^ 16 - 1) ∧
      t.get CRS_STALL_RETRY_WAIT k = s.get CRS_STALL_RETRY_WAIT k)) ∧
  (∀ (line : BitVec 20) (k : Fin 33) (kd : DirKind) (L : Nat) (s : State), L = sbBase / 64 + line.toNat → l1On s k = true →
    s.dirReqs = [] → s.dirRounds = [L] →
    exec (.directoryRequest line [(k, kd)]) s = .next { s with dirReqs := [⟨L, k, kd, none, true⟩] }) ∧
  (∀ (line : BitVec 20) (L : Nat) (s : State), L = sbBase / 64 + line.toNat → s.dirReqs = [] →
    exec (.directoryRoundEnd line) s = .next { s with dirRounds := s.dirRounds.erase L }) ∧
  (∀ (line : BitVec 20) (k j : Fin 33) (tk : Option Nat) (L : Nat) (s : State), L = sbBase / 64 + line.toNat →
    s.dirReqs = [⟨L, k, .own, tk, true⟩] → s.dirRounds = [L] → s.dir = [⟨L, some j.val, true, []⟩] → j ≠ k → s.resvs = [] →
    exec (.directoryRoundEnd line) s = .next { s.put DIR_ROT 0 ((k + 1) % 33) with dir := [⟨L, some k.val, !s.imageLine L, []⟩], dirReqs := [] }) ∧
  (∀ (line : BitVec 20) (L : Nat) (s : State), L = sbBase / 64 + line.toNat → L ∉ s.dirRounds →
    exec (.directoryRoundEnd line) s = .next s) ∧
  (∀ (line : BitVec 20) (k : Fin 33) (kd : DirKind) (tk : Option Nat) (L : Nat) (s : State), L = sbBase / 64 + line.toNat →
    s.dirReqs = [⟨L, k, kd, tk, false⟩] → s.dirRounds = [L] → (kd = .upg → k.val ∉ s.holdersOf L) →
    exec (.l1RetryReissue k line) s = .next { s with dirReqs := [⟨L, k, if kd = .upg then .own else kd, tk, true⟩] }) ∧
  (∀ (line : BitVec 20) (k : Fin 33) (tk : Option Nat) (L : Nat) (s : State), L = sbBase / 64 + line.toNat →
    s.dirReqs = [⟨L, k, .upg, tk, false⟩] → s.dirRounds = [L] → k.val ∈ s.holdersOf L →
    exec (.l1RetryReissue k line) s = .next { s with dirReqs := [⟨L, k, .upg, tk, true⟩] }) ∧
  (∀ (line : BitVec 20) (k : Fin 33) (dirty : Bool) (L : Nat) (s : State), L = sbBase / 64 + line.toNat →
    s.dir = [⟨L, some k.val, dirty, []⟩] → s.resvs = [⟨k, 64 * L, 64⟩] →
    exec (.l1Writeback k line) s = .next { s with dir := [], resvs := [] }) ∧
  (∀ (line : BitVec 20) (j k : Fin 33) (L : Nat) (s : State), L = sbBase / 64 + line.toNat → j ≠ k →
    s.dir = [⟨L, none, false, [j.val, k.val]⟩] → s.resvs = [] →
    exec (.l1Writeback k line) s = .next { s with dir := [⟨L, none, false, [j.val]⟩] }) ∧
  (∀ (line : BitVec 20) (k : Fin 33) (L : Nat) (s : State), L = sbBase / 64 + line.toNat → (∀ e ∈ s.dir, e.line ≠ L) →
    exec (.l1Writeback k line) s = .next s)

/-- Praben arithmetic: the result, flags and frame of every ALU and immediate instruction (R191, R192, R193, R196, R197, R186, R204). -/
def Obligations.AluInstructions : Prop :=
  (∀ (x : Issue) (cond : Fin 16) (rd ra rb : Fin 32) (S : Fin 2) (a b : Nat) (s : State), AluIn x 0 cond rd ra rb S a b s →
    Gives (.add x) s (fun t => AluEnds x.core rd S ((a + b) % 2 ^ 32)
      (some (decide (2 ^ 32 ≤ a + b)))
      (some (decide (toSigned 32 a + toSigned 32 b ≠ toSigned 32 ((a + b) % 2 ^ 32)))) s t)) ∧
  (∀ (x : Issue) (cond : Fin 16) (rd ra rb : Fin 32) (S : Fin 2) (a b : Nat) (s : State), AluIn x 1 cond rd ra rb S a b s → s.get CORE_C x.core < 2 →
    Gives (.adc x) s (fun t => AluEnds x.core rd S ((a + b + s.get CORE_C x.core) % 2 ^ 32)
      (some (decide (2 ^ 32 ≤ a + b + s.get CORE_C x.core)))
      (some (decide (toSigned 32 a + toSigned 32 b + s.get CORE_C x.core ≠ toSigned 32 ((a + b + s.get CORE_C x.core) % 2 ^ 32)))) s t)) ∧
  (∀ (x : Issue) (cond : Fin 16) (rd ra rb : Fin 32) (S : Fin 2) (a b : Nat) (s : State), AluIn x 2 cond rd ra rb S a b s →
    Gives (.sub x) s (fun t => AluEnds x.core rd S ((a + 2 ^ 32 - b) % 2 ^ 32)
      (some (decide (b ≤ a)))
      (some (decide (toSigned 32 a - toSigned 32 b ≠ toSigned 32 ((a + 2 ^ 32 - b) % 2 ^ 32)))) s t)) ∧
  (∀ (x : Issue) (cond : Fin 16) (rd ra rb : Fin 32) (S : Fin 2) (a b : Nat) (s : State), AluIn x 3 cond rd ra rb S a b s → s.get CORE_C x.core < 2 →
    Gives (.sbc x) s (fun t => AluEnds x.core rd S ((a + 2 ^ 32 - b - (1 - s.get CORE_C x.core)) % 2 ^ 32)
      (some (decide (b + (1 - s.get CORE_C x.core) ≤ a)))
      (some (decide (toSigned 32 a - toSigned 32 b - (1 - s.get CORE_C x.core : Nat) ≠ toSigned 32 ((a + 2 ^ 32 - b - (1 - s.get CORE_C x.core)) % 2 ^ 32)))) s t)) ∧
  (∀ (x : Issue) (cond : Fin 16) (rd ra rb : Fin 32) (S : Fin 2) (a b : Nat) (s : State), AluIn x 4 cond rd ra rb S a b s →
    Gives (.and x) s (fun t => AluEnds x.core rd S (BitVec.ofNat 32 a &&& BitVec.ofNat 32 b).toNat
      none
      none s t)) ∧
  (∀ (x : Issue) (cond : Fin 16) (rd ra rb : Fin 32) (S : Fin 2) (a b : Nat) (s : State), AluIn x 5 cond rd ra rb S a b s →
    Gives (.or x) s (fun t => AluEnds x.core rd S (BitVec.ofNat 32 a ||| BitVec.ofNat 32 b).toNat
      none
      none s t)) ∧
  (∀ (x : Issue) (cond : Fin 16) (rd ra rb : Fin 32) (S : Fin 2) (a b : Nat) (s : State), AluIn x 6 cond rd ra rb S a b s →
    Gives (.xor x) s (fun t => AluEnds x.core rd S (BitVec.ofNat 32 a ^^^ BitVec.ofNat 32 b).toNat
      none
      none s t)) ∧
  (∀ (x : Issue) (cond : Fin 16) (rd ra rb : Fin 32) (S : Fin 2) (a b : Nat) (s : State), AluIn x 7 cond rd ra rb S a b s →
    Gives (.andn x) s (fun t => AluEnds x.core rd S (BitVec.ofNat 32 a &&& ~~~ BitVec.ofNat 32 b).toNat
      none
      none s t)) ∧
  (∀ (x : Issue) (cond : Fin 16) (rd ra rb : Fin 32) (S : Fin 2) (a b : Nat) (s : State), AluIn x 8 cond rd ra rb S a b s →
    Gives (.shl x) s (fun t => AluEnds x.core rd S (a * 2 ^ (b % 32) % 2 ^ 32)
      (if b % 32 = 0 then none else some (a.testBit (32 - b % 32)))
      none s t)) ∧
  (∀ (x : Issue) (cond : Fin 16) (rd ra rb : Fin 32) (S : Fin 2) (a b : Nat) (s : State), AluIn x 9 cond rd ra rb S a b s →
    Gives (.shr x) s (fun t => AluEnds x.core rd S (a / 2 ^ (b % 32))
      (if b % 32 = 0 then none else some (a.testBit (b % 32 - 1)))
      none s t)) ∧
  (∀ (x : Issue) (cond : Fin 16) (rd ra rb : Fin 32) (S : Fin 2) (a b : Nat) (s : State), AluIn x 10 cond rd ra rb S a b s →
    Gives (.sar x) s (fun t => AluEnds x.core rd S ((BitVec.ofNat 32 a).sshiftRight (b % 32)).toNat
      (if b % 32 = 0 then none else some (a.testBit (b % 32 - 1)))
      none s t)) ∧
  (∀ (x : Issue) (cond : Fin 16) (rd ra rb : Fin 32) (S : Fin 2) (a b : Nat) (s : State), AluIn x 11 cond rd ra rb S a b s →
    Gives (.ror x) s (fun t => AluEnds x.core rd S ((BitVec.ofNat 32 a).rotateRight (b % 32)).toNat
      (if b % 32 = 0 then none else some ((BitVec.ofNat 32 a).rotateRight (b % 32)).msb)
      none s t)) ∧
  (∀ (x : Issue) (cond : Fin 16) (rd ra rb : Fin 32) (S : Fin 2) (a b : Nat) (s : State), AluIn x 12 cond rd ra rb S a b s →
    Gives (.min x) s (fun t => AluEnds x.core rd S (if toSigned 32 a ≤ toSigned 32 b then a else b)
      none
      none s t)) ∧
  (∀ (x : Issue) (cond : Fin 16) (rd ra rb : Fin 32) (S : Fin 2) (a b : Nat) (s : State), AluIn x 13 cond rd ra rb S a b s →
    Gives (.max x) s (fun t => AluEnds x.core rd S (if toSigned 32 a ≤ toSigned 32 b then b else a)
      none
      none s t)) ∧
  (∀ (x : Issue) (cond : Fin 16) (rd ra rb : Fin 32) (S : Fin 2) (a b : Nat) (s : State), AluIn x 14 cond rd ra rb S a b s →
    Gives (.minu x) s (fun t => AluEnds x.core rd S (if a ≤ b then a else b)
      none
      none s t)) ∧
  (∀ (x : Issue) (cond : Fin 16) (rd ra rb : Fin 32) (S : Fin 2) (a b : Nat) (s : State), AluIn x 15 cond rd ra rb S a b s →
    Gives (.maxu x) s (fun t => AluEnds x.core rd S (if a ≤ b then b else a)
      none
      none s t)) ∧
  (∀ (x : Issue) (cond : Fin 16) (rd ra : Fin 32) (S : Fin 2) (imm : BitVec 13) (a b : Nat) (s : State),
    x.word.toNat = cond * 2 ^ 28 + 1 * 2 ^ 24 + rd * 2 ^ 19 + ra * 2 ^ 14 + S * 2 ^ 13 + imm.toNat → Stands x s →
    s.gReg x.core ra = a → a < 2 ^ 32 → b = (imm.signExtend 32).toNat →
    Gives (.addi x) s (fun t => AluEnds x.core rd S ((a + b) % 2 ^ 32) (some (decide (2 ^ 32 ≤ a + b)))
      (some (decide (toSigned 32 a + imm.toInt ≠ toSigned 32 ((a + b) % 2 ^ 32)))) s t)) ∧
  (∀ (x : Issue) (cond : Fin 16) (rd ra : Fin 32) (S : Fin 2) (imm : BitVec 11) (a : Nat) (s : State),
    x.word.toNat = cond * 2 ^ 28 + 2 * 2 ^ 24 + rd * 2 ^ 19 + ra * 2 ^ 14 + S * 2 ^ 13 + 0 * 2 ^ 11 + imm.toNat → Stands x s →
    s.gReg x.core ra = a → a < 2 ^ 32 →
    Gives (.andi x) s (fun t => AluEnds x.core rd S (BitVec.ofNat 32 a &&& imm.setWidth 32).toNat none none s t)) ∧
  (∀ (x : Issue) (cond : Fin 16) (rd ra : Fin 32) (S : Fin 2) (imm : BitVec 11) (a : Nat) (s : State),
    x.word.toNat = cond * 2 ^ 28 + 2 * 2 ^ 24 + rd * 2 ^ 19 + ra * 2 ^ 14 + S * 2 ^ 13 + 1 * 2 ^ 11 + imm.toNat → Stands x s →
    s.gReg x.core ra = a → a < 2 ^ 32 →
    Gives (.ori x) s (fun t => AluEnds x.core rd S (BitVec.ofNat 32 a ||| imm.setWidth 32).toNat none none s t)) ∧
  (∀ (x : Issue) (cond : Fin 16) (rd ra : Fin 32) (S : Fin 2) (imm : BitVec 11) (a : Nat) (s : State),
    x.word.toNat = cond * 2 ^ 28 + 2 * 2 ^ 24 + rd * 2 ^ 19 + ra * 2 ^ 14 + S * 2 ^ 13 + 2 * 2 ^ 11 + imm.toNat → Stands x s →
    s.gReg x.core ra = a → a < 2 ^ 32 →
    Gives (.xori x) s (fun t => AluEnds x.core rd S (BitVec.ofNat 32 a ^^^ imm.setWidth 32).toNat none none s t)) ∧
  (∀ (x : Issue) (cond : Fin 16) (rd ra n : Fin 32) (S : Fin 2) (f : Fin 4) (a : Nat) (s : State),
    x.word.toNat = cond * 2 ^ 28 + 2 * 2 ^ 24 + rd * 2 ^ 19 + ra * 2 ^ 14 + S * 2 ^ 13 + 3 * 2 ^ 11 + f * 2 ^ 9 + n → Stands x s →
    s.gReg x.core ra = a → a < 2 ^ 32 →
    Gives (.logiShift x) s (fun t => AluEnds x.core rd S
      (if f = 0 then a * 2 ^ n.val % 2 ^ 32 else if f = 1 then a / 2 ^ n.val
        else if f = 2 then ((BitVec.ofNat 32 a).sshiftRight n).toNat else ((BitVec.ofNat 32 a).rotateRight n).toNat)
      (if n = 0 then none else some (if f = 0 then a.testBit (32 - n) else a.testBit (n - 1))) none s t)) ∧
  (∀ (x : Issue) (cond : Fin 16) (rd : Fin 32) (imm : BitVec 16) (a : Nat) (s : State), s.gReg x.core rd = a → a < 2 ^ 32 →
    (x.word.toNat = cond * 2 ^ 28 + 3 * 2 ^ 24 + rd * 2 ^ 19 + imm.toNat ∨
      x.word.toNat = cond * 2 ^ 28 + 3 * 2 ^ 24 + rd * 2 ^ 19 + 2 ^ 18 + imm.toNat) → Stands x s →
    Gives (.movi x) s (fun t => AluEnds x.core rd 0 (if x.word.toNat / 2 ^ 18 % 2 = 1 then imm.toNat * 2 ^ 16 + a % 2 ^ 16
      else imm.toNat) none none s t))

/-- Praben multiply, special registers, banks, features, WAIT and FENCE (R205, R197, R188, R187, R195, R217, R219, R186). -/
def Obligations.MultiplyAndSystem : Prop :=
  (∀ (x : Issue) (cond : Fin 16) (rd ra rb : Fin 32) (a b p : Nat) (s : State), x.word.toNat =
      cond * 2 ^ 28 + 4 * 2 ^ 24 + rd * 2 ^ 19 + ra * 2 ^ 14 + rb * 2 ^ 9 + 0 * 2 ^ 4 → Stands x s → s.gReg x.core ra = a →
    s.gReg x.core rb = b → a < 2 ^ 32 → b < 2 ^ 32 → p = (BitVec.ofInt 64 (toSigned 32 a * toSigned 32 b)).toNat → coreRm s x.core = false →
    Gives (.mul x) s (fun t => ⟨x.core, 2, .g rd, p % 2 ^ 32⟩ ∈ t.flights ∧ ⟨x.core, 2, .product, p⟩ ∈ t.flights ∧ GoesOn x.core s t ∧
      (Still x.core s → t.flights = s.flights ++ [⟨x.core, 2, .g rd, p % 2 ^ 32⟩, ⟨x.core, 2, .product, p⟩] ∧
        Quiet { s with flights := t.flights } t ∧ CellsBut s t (goCells x.core) []))) ∧
  (∀ (x : Issue) (cond : Fin 16) (rd ra rb : Fin 32) (a b p : Nat) (s : State), x.word.toNat =
      cond * 2 ^ 28 + 4 * 2 ^ 24 + rd * 2 ^ 19 + ra * 2 ^ 14 + rb * 2 ^ 9 + 0 * 2 ^ 4 → Stands x s → s.gReg x.core ra = a →
    s.gReg x.core rb = b → a < 2 ^ 32 → b < 2 ^ 32 → p = (BitVec.ofInt 64 (toSigned 32 a * toSigned 32 b)).toNat → coreRm s x.core = true →
    Gives (.mul x) s (fun t => t.get CORE_MDBUSY x.core = 1 ∧ t.get CORE_MD_NEXT x.core = p ∧
      t.get CORE_MD_AT x.core = (s.get CORE_COUNT 0 + 18) % 2 ^ 64 ∧ GoesOn x.core s t ∧ (Still x.core s → Quiet s t ∧
        CellsBut s t ((CORE_MDBUSY, x.core.val) :: (CORE_MD_NEXT, x.core.val) :: (CORE_MD_AT, x.core.val) :: goCells x.core) []))) ∧
  (∀ (x : Issue) (cond : Fin 16) (rd ra rb : Fin 32) (a b p : Nat) (s : State), x.word.toNat =
      cond * 2 ^ 28 + 4 * 2 ^ 24 + rd * 2 ^ 19 + ra * 2 ^ 14 + rb * 2 ^ 9 + 1 * 2 ^ 4 → Stands x s → s.gReg x.core ra = a →
    s.gReg x.core rb = b → a < 2 ^ 32 → b < 2 ^ 32 → p = (BitVec.ofInt 64 (toSigned 32 a * toSigned 32 b)).toNat → coreRm s x.core = false →
    Gives (.mulh x) s (fun t => ⟨x.core, 2, .g rd, p / 2 ^ 32⟩ ∈ t.flights ∧ ⟨x.core, 2, .product, p⟩ ∈ t.flights ∧ GoesOn x.core s t ∧
      (Still x.core s → t.flights = s.flights ++ [⟨x.core, 2, .g rd, p / 2 ^ 32⟩, ⟨x.core, 2, .product, p⟩] ∧
        Quiet { s with flights := t.flights } t ∧ CellsBut s t (goCells x.core) []))) ∧
  (∀ (x : Issue) (cond : Fin 16) (rd ra rb : Fin 32) (a b p : Nat) (s : State), x.word.toNat =
      cond * 2 ^ 28 + 4 * 2 ^ 24 + rd * 2 ^ 19 + ra * 2 ^ 14 + rb * 2 ^ 9 + 1 * 2 ^ 4 → Stands x s → s.gReg x.core ra = a →
    s.gReg x.core rb = b → a < 2 ^ 32 → b < 2 ^ 32 → p = (BitVec.ofInt 64 (toSigned 32 a * toSigned 32 b)).toNat → coreRm s x.core = true →
    Gives (.mulh x) s (fun t => t.get CORE_MDBUSY x.core = 1 ∧ t.get CORE_MD_NEXT x.core = p ∧
      t.get CORE_MD_AT x.core = (s.get CORE_COUNT 0 + 18) % 2 ^ 64 ∧ GoesOn x.core s t ∧ (Still x.core s → Quiet s t ∧
        CellsBut s t ((CORE_MDBUSY, x.core.val) :: (CORE_MD_NEXT, x.core.val) :: (CORE_MD_AT, x.core.val) :: goCells x.core) []))) ∧
  (∀ (x : Issue) (cond : Fin 16) (rd ra rb : Fin 32) (a b p : Nat) (s : State), x.word.toNat =
      cond * 2 ^ 28 + 4 * 2 ^ 24 + rd * 2 ^ 19 + ra * 2 ^ 14 + rb * 2 ^ 9 + 2 * 2 ^ 4 → Stands x s → s.gReg x.core ra = a →
    s.gReg x.core rb = b → a < 2 ^ 32 → b < 2 ^ 32 → p = a * b → coreRm s x.core = false →
    Gives (.mulhu x) s (fun t => ⟨x.core, 2, .g rd, p / 2 ^ 32⟩ ∈ t.flights ∧ ⟨x.core, 2, .product, p⟩ ∈ t.flights ∧ GoesOn x.core s t ∧
      (Still x.core s → t.flights = s.flights ++ [⟨x.core, 2, .g rd, p / 2 ^ 32⟩, ⟨x.core, 2, .product, p⟩] ∧
        Quiet { s with flights := t.flights } t ∧ CellsBut s t (goCells x.core) []))) ∧
  (∀ (x : Issue) (cond : Fin 16) (rd ra rb : Fin 32) (a b p : Nat) (s : State), x.word.toNat =
      cond * 2 ^ 28 + 4 * 2 ^ 24 + rd * 2 ^ 19 + ra * 2 ^ 14 + rb * 2 ^ 9 + 2 * 2 ^ 4 → Stands x s → s.gReg x.core ra = a →
    s.gReg x.core rb = b → a < 2 ^ 32 → b < 2 ^ 32 → p = a * b → coreRm s x.core = true →
    Gives (.mulhu x) s (fun t => t.get CORE_MDBUSY x.core = 1 ∧ t.get CORE_MD_NEXT x.core = p ∧
      t.get CORE_MD_AT x.core = (s.get CORE_COUNT 0 + 18) % 2 ^ 64 ∧ GoesOn x.core s t ∧ (Still x.core s → Quiet s t ∧
        CellsBut s t ((CORE_MDBUSY, x.core.val) :: (CORE_MD_NEXT, x.core.val) :: (CORE_MD_AT, x.core.val) :: goCells x.core) []))) ∧
  (∀ (k : Fin 34) (s : State), exec (.iterativeMultiplyDone k) s = .next
    (if s.get CORE_MDBUSY k ≠ 0 ∧ s.get CORE_MD_AT k ≤ s.get CORE_COUNT 0 then
      (s.put CORE_MD k (s.get CORE_MD_NEXT k)).put CORE_MDBUSY k 0 else s)) ∧
  (∀ (x : Issue) (cond : Fin 16) (rd : Fin 32) (k : Nat) (s : State), k = x.core →
    x.word.toNat = cond * 2 ^ 28 + 9 * 2 ^ 24 + rd * 2 ^ 15 → Stands x s →
    (s.get CORE_MDBUSY k = 0 ∨ s.get CORE_COUNT 0 < s.get CORE_MD_AT k) →
    s.srWord k < 2 ^ 17 →
    Gives (.mfs x) s (fun t => AluEnds k rd 0 (s.get CORE_V k + s.get CORE_C k * 2 + s.get CORE_Z k * 4 + s.get CORE_N k * 8 +
      s.get CORE_CP k * 2 ^ 4 + s.get CORE_LVL k * 2 ^ 8 + s.get CORE_IEN k * 2 ^ 10 + s.get CORE_IEU k * 2 ^ 11 +
      s.get CORE_FLT k * 2 ^ 12 + s.get CORE_MDBUSY k * 2 ^ 14 + (if coreRm s k then 2 ^ 15 else 0) +
      (if k = 32 ∧ s.get CORE_CP k = 3 then 2 ^ 16 else 0)) none none s t)) ∧
  (∀ (x : Issue) (cond : Fin 16) (rd : Fin 32) (i k v : Nat) (s : State), k = x.core → 1 ≤ i → i ≤ 10 →
    x.word.toNat = cond * 2 ^ 28 + 9 * 2 ^ 24 + rd * 2 ^ 15 + i → Stands x s →
    (s.get CORE_MDBUSY k = 0 ∨ s.get CORE_COUNT 0 < s.get CORE_MD_AT k) →
    v = (match i with
      | 1 => s.get CORE_VBASE k
      | 2 => s.get CORE_FCAUSE k
      | 3 => s.get CORE_FADDR k % 2 ^ 32
      | 4 => s.get CORE_FADDR k / 2 ^ 32
      | 5 => s.get CORE_MD k % 2 ^ 32
      | 6 => s.get CORE_MD k / 2 ^ 32
      | 7 => (s.get CORE_COUNT 0 - s.get CORE_CYC0 k) % 2 ^ 32
      | 8 => s.get CORE_SLIM k
      | 9 => s.get CORE_CRCP k
      | _ => s.get CORE_SMASK k) → v < 2 ^ 32 →
    Gives (.mfs x) s (fun t => AluEnds k rd 0 v none none s t)) ∧
  (∀ (x : Issue) (cond : Fin 16) (ra : Fin 32) (i v : Nat) (s : State), i ∈ [0, 1, 8, 9, 10] →
    x.word.toNat = cond * 2 ^ 28 + 9 * 2 ^ 24 + 1 * 2 ^ 20 + ra * 2 ^ 15 + i → Stands x s → s.gReg x.core ra = v →
    Gives (.mts x) s (fun t => ⟨x.core, 1, .special i, v⟩ ∈ t.flights ∧ GoesOn x.core s t ∧
      (Still x.core s → t.flights = s.flights ++ [⟨x.core, 1, .special i, v⟩] ∧ Quiet { s with flights := t.flights } t ∧
        CellsBut s t (goCells x.core) []))) ∧
  (∀ (x : Issue) (i v : Nat) (s : State), x.word.toNat = 0x10000000 → StandsOn x s → s.get CORE_MDBUSY x.core = 0 →
    s.flights = [⟨x.core, 1, .special i, v⟩] → i ∈ [0, 1, 8, 9, 10] → v < 2 ^ 32 →
    Gives (.add x) s (fun t => t.flights = [] ∧ GoesOn x.core s t ∧
      (i = 0 → t.get CORE_V x.core = v % 2 ∧ t.get CORE_C x.core = v / 2 % 2 ∧ t.get CORE_Z x.core = v / 4 % 2 ∧
        t.get CORE_N x.core = v / 8 % 2 ∧ t.get CORE_IEN x.core = v / 2 ^ 10 % 2 ∧ t.get CORE_IEU x.core = v / 2 ^ 11 % 2 ∧
        CellsBut s t ([(CORE_V, x.core.val), (CORE_C, x.core.val), (CORE_Z, x.core.val), (CORE_N, x.core.val), (CORE_IEN, x.core.val),
          (CORE_IEU, x.core.val)] ++ goCells x.core) []) ∧
      (i = 1 → t.get CORE_VBASE x.core = v ∧ CellsBut s t ((CORE_VBASE, x.core.val) :: goCells x.core) []) ∧
      (i = 8 → t.get CORE_SLIM x.core = v % 2 ^ 16 ∧ CellsBut s t ((CORE_SLIM, x.core.val) :: goCells x.core) []) ∧
      (i = 9 → t.get CORE_CRCP x.core = v % 4 ∧ CellsBut s t ((CORE_CRCP, x.core.val) :: goCells x.core) []) ∧
      (i = 10 → t.get CORE_SMASK x.core = v ∧ CellsBut s t ((CORE_SMASK, x.core.val) :: goCells x.core) []))) ∧
  (∀ (x : Issue) (cond : Fin 16) (rd : Fin 32) (n : Fin 4) (rm l1 : Nat) (s : State),
    x.word.toNat = cond * 2 ^ 28 + 9 * 2 ^ 24 + 2 * 2 ^ 20 + rd * 2 ^ 15 + n → Stands x s →
    rm = (if coreRm s x.core then 1 else 0) → l1 = (if x.core.val ≤ 32 then 1 else 0) →
    Gives (.rdfeat x) s (fun t => AluEnds x.core rd 0
      (if n = 0 then 0x0001 + 32 * 2 ^ 8 + 1 * 2 ^ 14 + l1 * 2 ^ 15 + (1 - rm) * 2 ^ 16 + rm * 2 ^ 17
      else if n = 1 then x.core + 64 * 2 ^ 8 + 64 * 2 ^ 16
      else if n = 2 then (if x.core.val < 32 then 512 else if x.core = 32 then 1024 else 256) + 32 * l1 * 2 ^ 16
      else 0x00C11233) none none s t)) ∧
  (∀ (x : Issue) (cond : Fin 16) (bk : Fin 4) (r : Fin 32) (v : Nat) (s : State),
    x.word.toNat = cond * 2 ^ 28 + 10 * 2 ^ 24 + bk * 2 ^ 22 + r * 2 ^ 16 → Stands x s → s.gReg x.core r = v →
    Gives (.mtb x) s (fun t => ⟨x.core, 1, .b bk, v % 2 ^ 24⟩ ∈ t.flights ∧ GoesOn x.core s t ∧
      (Still x.core s → t.flights = s.flights ++ [⟨x.core, 1, .b bk, v % 2 ^ 24⟩] ∧ Quiet { s with flights := t.flights } t ∧
        CellsBut s t (goCells x.core) []))) ∧
  (∀ (x : Issue) (cond : Fin 16) (bk : Fin 4) (r : Fin 32) (s : State),
    x.word.toNat = cond * 2 ^ 28 + 10 * 2 ^ 24 + bk * 2 ^ 22 + 1 * 2 ^ 21 + r * 2 ^ 16 → Stands x s →
    s.get CORE_B (4 * x.core + bk) < 2 ^ 24 →
    Gives (.mfb x) s (fun t => AluEnds x.core r 0 (s.get CORE_B (4 * x.core + bk)) none none s t)) ∧
  (∀ (x : Issue) (cond : Fin 16) (k : Nat) (s : State), k = x.core → x.word.toNat = cond * 2 ^ 28 + 9 * 2 ^ 24 + 3 * 2 ^ 20 →
    Stands x s → s.get CORE_SLOT k = 0 → (k ≠ 33 ∨ s.get PCS_STBY_ASK 0 = 0) →
    Gives (.wait x) s (fun t => GoesOn k s t ∧ t.get CORE_WAIT k = (if coreInputs s k = 0 then 1 else 0) ∧
      (Still k s → Quiet s t ∧ CellsBut s t (goCells k) []))) ∧
  (∀ (x : Issue) (cond : Fin 16) (k : Nat) (s : State), k = x.core → x.word.toNat = cond * 2 ^ 28 + 9 * 2 ^ 24 + 4 * 2 ^ 20 →
    Stands x s → (∀ l ∈ s.wtb, l.who ≠ k) → trbBusy s k = false →
    Gives (.fence x) s (fun t => GoesOn k s t ∧ (Still k s → Quiet s t ∧ CellsBut s t (goCells k) []))) ∧
  (∀ (x : Issue) (cond : Fin 16) (k : Nat) (s : State), k = x.core → x.word.toNat = cond * 2 ^ 28 + 9 * 2 ^ 24 + 4 * 2 ^ 20 →
    Stands x s → (s.wtb.any (fun l => l.who == k) = true ∨ trbBusy s k = true) →
    Gives (.fence x) s (fun t => t.pcWord k = s.pcWord k ∧ t.flights = s.flights ∧ t.wtb = s.wtb ∧
      t.get CORE_SLOT k = s.get CORE_SLOT k))

/-- Praben loads, stores, LDX and STX: address, size, extension, distance, and the reservation (R189, R194, R197, R199, R218, R61, R20). -/
def Obligations.LoadsAndStores : Prop :=
  (∀ (x : Issue) (m : Meets) (cond : Fin 16) (rd ra : Fin 32) (bk : Fin 4) (sz : Fin 3) (u : Fin 2) (d : BitVec 9) (k n a : Nat)
    (bs : List Byte) (v w s : State), k = x.core → n = 2 ^ sz.val → x.word.toNat = cond * 2 ^ 28 + 5 * 2 ^ 24 + rd * 2 ^ 19 +
      ra * 2 ^ 14 + bk * 2 ^ 12 + sz * 2 ^ 10 + u * 2 ^ 9 + d.toNat → Stands x s → x.ecc = .none → s.get CORE_MDBUSY k = 0 →
    DataAt k bk ra (d.toInt * n) a s → a % n = 0 → v = ((s.put CORE_WAIT k 0).put CORE_STALL k 0).put CORE_FREEZE k 0 →
    w = (coreLoad k m [(a, n)] v).2 →
    (coreLoad k m [(a, n)] v).1 = .ok bs →
    exec (.load x m) s = .next (retire k [(.g rd, 3, if u = 1 ∨ n = 4 then ofBytes bs else ofSigned 32 (toSigned (8 * n) (ofBytes bs)))] w)) ∧
  (∀ (x : Issue) (cond : Fin 16) (rd ra : Fin 32) (bk : Fin 4) (sz : Fin 3) (d : BitVec 9) (k n a : Nat) (v s : State),
    k = x.core → n = 2 ^ sz.val → x.word.toNat = cond * 2 ^ 28 + 6 * 2 ^ 24 + rd * 2 ^ 19 + ra * 2 ^ 14 + bk * 2 ^ 12 + sz * 2 ^ 10 +
      d.toNat → Stands x s → x.ecc = .none → s.get CORE_MDBUSY k = 0 → DataAt k bk ra (d.toInt * n) a s → a % n = 0 →
    v = ((s.put CORE_WAIT k 0).put CORE_STALL k 0).put CORE_FREEZE k 0 → (coreSave k [(a, n)] (toBytes n (s.gReg k rd)) v).1 = .ok [] →
    exec (.store x) s = .next (retire k (oldLeft v k a n) (coreSave k [(a, n)] (toBytes n (s.gReg k rd)) v).2)) ∧
  (∀ (x : Issue) (m : Meets) (cond : Fin 16) (rd ra : Fin 32) (bk : Fin 4) (sz : Fin 3) (u : Fin 2) (d : BitVec 9) (k n a : Nat) (s : State), k = x.core →
    n = 2 ^ sz.val → x.word.toNat = cond * 2 ^ 28 + 5 * 2 ^ 24 + rd * 2 ^ 19 + ra * 2 ^ 14 + bk * 2 ^ 12 + sz * 2 ^ 10 + u * 2 ^ 9 + d.toNat →
    Stands x s → DataAt k bk ra (d.toInt * n) a s → a % n = 0 → m.ecc = .none → Still k s → (∀ l ∈ s.wtb, l.who ≠ k) →
    ((regionOf a = .soundboard ∧ (k ≤ 32 → k ∈ s.holdersOf (a / 64))) ∨ (regionOf a = .course k ∧ k < 32 ∧ s.get CRS_ON k = 1)) →
    Gives (.load x m) s (fun t => t.flights = s.flights ++ [⟨k, 2, .g rd, if u = 1 ∨ n = 4 then
        ofBytes ((List.range n).map (fun i => if regionOf a = .soundboard then s.byte (a + i) else s.sramByte (a + i)))
        else ofSigned 32 (toSigned (8 * n) (ofBytes ((List.range n).map (fun i =>
          if regionOf a = .soundboard then s.byte (a + i) else s.sramByte (a + i)))))⟩] ∧
      GoesOn k s t ∧ Quiet { s with flights := t.flights } t ∧ CellsBut s t (goCells k) [])) ∧
  (∀ (x : Issue) (m : Meets) (cond : Fin 16) (rd ra : Fin 32) (bk : Fin 4) (sz : Fin 3) (u : Fin 2) (d : BitVec 9) (k n a : Nat) (s : State), k = x.core →
    n = 2 ^ sz.val → x.word.toNat = cond * 2 ^ 28 + 5 * 2 ^ 24 + rd * 2 ^ 19 + ra * 2 ^ 14 + bk * 2 ^ 12 + sz * 2 ^ 10 + u * 2 ^ 9 + d.toNat →
    Stands x s → DataAt k bk ra (d.toInt * n) a s → a % n = 0 → m.ecc = .none → Still k s → regionOf a = .soundboard → k ≤ 32 →
    l1On s k = true → s.dir = [] → s.dirReqs = [] →
    (s.dirRounds = [] → Gives (.load x m) s (fun t => t.dir = [⟨a / 64, none, false, [k]⟩] ∧ t.dirRounds = [a / 64] ∧ GoesOn k s t ∧
      t.get DIR_ROT 0 = (k + 1) % 33)) ∧
    (s.dirRounds = [a / 64] → Gives (.load x m) s (fun t => t.dirReqs = [⟨a / 64, k, .rd, none, true⟩] ∧ t.get CORE_FREEZE k = 1 ∧
      Quiet { s with dirReqs := t.dirReqs } t ∧ CellsBut s t [(CORE_WAIT, k), (CORE_STALL, k), (CORE_FREEZE, k), (CRS_STAT_ECC_CORR, k)] []))) ∧
  (∀ (x : Issue) (cond : Fin 16) (rd ra : Fin 32) (bk : Fin 4) (sz : Fin 3) (d : BitVec 9) (k n a : Nat) (s : State), k = x.core →
    n = 2 ^ sz.val → x.word.toNat = cond * 2 ^ 28 + 6 * 2 ^ 24 + rd * 2 ^ 19 + ra * 2 ^ 14 + bk * 2 ^ 12 + sz * 2 ^ 10 + d.toNat →
    Stands x s → DataAt k bk ra (d.toInt * n) a s → a % n = 0 → Still k s → regionOf a = .course k → k < 32 → s.get CRS_ON k = 1 →
    Gives (.store x) s (fun t => t.sram = (s.putSram a (toBytes n (s.gReg k rd))).sram ∧ t.mem = s.mem ∧ t.out = s.out ∧
      t.flights = s.flights ++ [⟨k, 2, .old a ((List.range n).map (fun i => s.sramByte (a + i))), 0⟩] ∧
      (∀ r ∈ t.resvs, r ∈ s.resvs) ∧ GoesOn k s t ∧ CellsBut s t (goCells k) [])) ∧
  (∀ (x : Issue) (cond : Fin 16) (rd ra : Fin 32) (bk : Fin 4) (sz : Fin 3) (d : BitVec 9) (k n a : Nat) (s : State), k = x.core →
    n = 2 ^ sz.val → x.word.toNat = cond * 2 ^ 28 + 6 * 2 ^ 24 + rd * 2 ^ 19 + ra * 2 ^ 14 + bk * 2 ^ 12 + sz * 2 ^ 10 + d.toNat →
    Stands x s → DataAt k bk ra (d.toInt * n) a s → a % n = 0 → Still k s → regionOf a = .soundboard → SbPlain s (a - sbBase) n → (k < 32 →
      s.inHalf 0 (a - sbBase) = false ∧ s.inHalf 1 (a - sbBase) = false) → (∀ l ∈ s.wtb, l.who ≠ k) →
    ((32 < k ∧ s.dirEntry (a / 64) = none) ∨ ∃ dirty : Bool, s.dirEntry (a / 64) = some ⟨a / 64, some k, dirty, []⟩) →
    Gives (.store x) s (fun t => t.dirEntry (a / 64) = (s.dirEntry (a / 64)).map (fun e => { e with dirty := !s.imageLine (a / 64) }) ∧ t.mem = (s.putBytes a (toBytes n (s.gReg k rd))).mem ∧ t.sram = s.sram ∧ t.out = s.out ∧ t.wtb = s.wtb ∧
      GoesOn k s t ∧ CellsBut s t (goCells k) [])) ∧
  (∀ (x : Issue) (cond : Fin 16) (rd ra : Fin 32) (bk : Fin 4) (sz : Fin 3) (d : BitVec 9) (k n a : Nat) (s : State), k = x.core →
    n = 2 ^ sz.val → x.word.toNat = cond * 2 ^ 28 + 6 * 2 ^ 24 + rd * 2 ^ 19 + ra * 2 ^ 14 + bk * 2 ^ 12 + sz * 2 ^ 10 + d.toNat →
    Stands x s → DataAt k bk ra (d.toInt * n) a s → a % n = 0 → Still k s → k < 32 → regionOf a = .soundboard → (s.inHalf 0 (a - sbBase) = true ∨ s.inHalf 1 (a - sbBase) = true) →
    s.imageLine (a / 64) = true → (s.wtb.filter (fun l => l.who = k)).length < 8 →
    Gives (.store x) s (fun t => t.wtb = s.wtb ++ [⟨k, a, toBytes n (s.gReg k rd)⟩] ∧ t.mem = s.mem ∧ t.sram = s.sram ∧ GoesOn k s t ∧
      CellsBut s t (goCells k) [])) ∧
  (∀ (x : Issue) (m : Meets) (cond : Fin 16) (rt ra : Fin 32) (bk : Fin 4) (d : BitVec 9) (k a : Nat) (s : State), k = x.core →
    x.word.toNat = cond * 2 ^ 28 + 12 * 2 ^ 24 + rt * 2 ^ 19 + ra * 2 ^ 14 + bk * 2 ^ 12 + d.toNat →
    Stands x s → DataAt k bk ra (d.toInt * 4) a s → a % 4 = 0 → Still k s → m.ecc = .none → (∀ l ∈ s.wtb, l.who ≠ k) →
    ((regionOf a = .soundboard ∧ (k ≤ 32 → k ∈ s.holdersOf (a / 64))) ∨ (regionOf a = .course k ∧ k < 32 ∧ s.get CRS_ON k = 1)) →
    Gives (.ldx x m) s (fun t => t.flights = s.flights ++ [⟨k, 2, .g rt, ofBytes ((List.range 4).map (fun i =>
          if regionOf a = .soundboard then s.byte (a + i) else s.sramByte (a + i)))⟩] ∧
      t.resvs = s.resvs.filter (fun r => r.core ≠ k) ++
        [if regionOf a = .soundboard then ⟨k, a / 64 * 64, 64⟩ else ⟨k, a / 8 * 8, 8⟩] ∧ GoesOn k s t ∧
      Quiet { s with flights := t.flights, resvs := t.resvs } t ∧ CellsBut s t (goCells k) [])) ∧
  (∀ (x : Issue) (cond : Fin 16) (rt ra : Fin 32) (bk : Fin 4) (d : BitVec 9) (k a : Nat) (s : State), k = x.core →
    x.word.toNat = cond * 2 ^ 28 + 12 * 2 ^ 24 + rt * 2 ^ 19 + ra * 2 ^ 14 + bk * 2 ^ 12 + 2 ^ 11 + d.toNat →
    Stands x s → DataAt k bk ra (d.toInt * 4) a s → a % 4 = 0 → Still k s → regionOf a = .course k → k < 32 → s.get CRS_ON k = 1 → s.resvs = [⟨k, a / 8 * 8, 8⟩] →
    Gives (.stx x) s (fun t => t.sram = (s.putSram a (toBytes 4 (s.gReg k rt))).sram ∧ t.resvs = [] ∧ t.mem = s.mem ∧
      ⟨k, 2, .flags 4, 4⟩ ∈ t.flights ∧ GoesOn k s t ∧ CellsBut s t (goCells k) [])) ∧
  (∀ (x : Issue) (cond : Fin 16) (rt ra : Fin 32) (bk : Fin 4) (d : BitVec 9) (k a : Nat) (s : State), k = x.core →
    x.word.toNat = cond * 2 ^ 28 + 12 * 2 ^ 24 + rt * 2 ^ 19 + ra * 2 ^ 14 + bk * 2 ^ 12 + 2 ^ 11 + d.toNat →
    Stands x s → DataAt k bk ra (d.toInt * 4) a s → a % 4 = 0 → Still k s → (regionOf a = .soundboard ∨ regionOf a = .course k) → (∀ r ∈ s.resvs, r.core ≠ k) →
    Gives (.stx x) s (fun t => t.flights = s.flights ++ [⟨k, 2, .flags 4, 0⟩] ∧ GoesOn k s t ∧
      Quiet { s with flights := t.flights } t ∧ CellsBut s t (goCells k) []))

/-- Praben transfers, calls, returns, TRAP and interrupt entry (R202, R203, R204, R206, R207, R208, R209, R210, R169). -/
def Obligations.ControlTransfer : Prop :=
  (∀ (x : Issue) (cond : Fin 16) (off : BitVec 16) (k : Nat) (s : State), k = x.core → x.word.toNat = cond * 2 ^ 28 + 7 * 2 ^ 24 + off.toNat → Stands x s →
    s.get CORE_SLOT k = 0 → s.get CORE_PC k < 2 ^ 16 → s.get CORE_CP k < 16 →
    Gives (.branch x) s (fun t => SlotNext k ((s.get CORE_PC k + off.toNat) % 2 ^ 16 + s.get CORE_CP k * 2 ^ 16) s t ∧
      (Still k s → Quiet s t ∧ CellsBut s t ((CORE_SLOT_TO, k) :: goCells k) []))) ∧
  (∀ (x : Issue) (cond : Fin 16) (off : BitVec 16) (k : Nat) (s : State), k = x.core → x.word.toNat = cond * 2 ^ 28 + 7 * 2 ^ 24 + 2 ^ 23 + off.toNat → Stands x s →
    s.get CORE_SLOT k = 0 → s.get CORE_PC k < 2 ^ 16 → s.get CORE_CP k < 16 →
    Gives (.brl x) s (fun t => SlotNext k ((s.get CORE_PC k + off.toNat) % 2 ^ 16 + s.get CORE_CP k * 2 ^ 16) s t ∧
      t.gReg k 30 = (s.get CORE_PC k + 2) % 2 ^ 16 + s.get CORE_CP k * 2 ^ 16 ∧
      (Still k s → Quiet s t ∧ CellsBut s t ((CORE_SLOT_TO, k) :: (CORE_G, 32 * k + 30) :: goCells k) []))) ∧
  (∀ (x : Issue) (cond : Fin 16) (off : BitVec 16) (L : Fin 2) (k : Nat) (s : State), k = x.core →
    x.word.toNat = cond * 2 ^ 28 + 7 * 2 ^ 24 + L * 2 ^ 23 + off.toNat → StandsOn x s → condOk s k x.word.toNat = false →
    s.get CORE_SLOT k = 0 → s.get CORE_PC k < 2 ^ 16 → s.get CORE_CP k < 16 →
    Gives (if L = 0 then .branch x else .brl x) s (fun t =>
      SlotNext k ((s.get CORE_PC k + 2) % 2 ^ 16 + s.get CORE_CP k * 2 ^ 16) s t ∧
      (L = 1 → t.gReg k 30 = (s.get CORE_PC k + 2) % 2 ^ 16 + s.get CORE_CP k * 2 ^ 16))) ∧
  (∀ (x : Issue) (cond : Fin 16) (ra : Fin 32) (k : Nat) (s : State), k = x.core → x.word.toNat = cond * 2 ^ 28 + 8 * 2 ^ 24 + ra * 2 ^ 14 → Stands x s →
    s.get CORE_SLOT k = 0 → (k = 32 → s.gReg k ra / 2 ^ 16 % 16 ≠ 3) →
    Gives (.jr x) s (fun t => SlotNext k (s.gReg k ra % 2 ^ 20) s t ∧
      (Still k s → Quiet s t ∧ CellsBut s t ((CORE_SLOT_TO, k) :: goCells k) []))) ∧
  (∀ (x : Issue) (cond : Fin 16) (dest : BitVec 20) (k : Nat) (s : State), k = x.core → x.word.toNat = cond * 2 ^ 28 + 8 * 2 ^ 24 + 5 * 2 ^ 20 + dest.toNat → Stands x s →
    s.get CORE_SLOT k = 0 → (k = 32 → dest.toNat / 2 ^ 16 ≠ 3) →
    Gives (.jmp x) s (fun t => SlotNext k dest.toNat s t ∧
      (Still k s → Quiet s t ∧ CellsBut s t ((CORE_SLOT_TO, k) :: goCells k) []))) ∧
  (∀ (x : Issue) (cond : Fin 16) (dest : BitVec 20) (k base : Nat) (s : State), k = x.core → x.word.toNat = cond * 2 ^ 28 + 8 * 2 ^ 24 + 2 ^ 20 + dest.toNat → Stands x s →
    s.get CORE_SLOT k = 0 → StackAt k 2 base s → Still k s → s.get CORE_PC k < 2 ^ 16 → s.get CORE_CP k < 16 →
    Gives (.call x) s (fun t => SlotNext k (dest.toNat) s t ∧ Pushed k base [(s.get CORE_PC k + 2) % 2 ^ 16 + s.get CORE_CP k * 2 ^ 16,
        s.get CORE_B (4 * k + 2)] s t ∧ CellsBut s t ((CORE_SLOT_TO, k) :: (CORE_G, 32 * k + 31) :: goCells k) [])) ∧
  (∀ (x : Issue) (cond : Fin 16) (ra : Fin 32) (k base : Nat) (s : State), k = x.core → x.word.toNat = cond * 2 ^ 28 + 8 * 2 ^ 24 + 2 * 2 ^ 20 + ra * 2 ^ 14 → Stands x s →
    s.get CORE_SLOT k = 0 → StackAt k 2 base s → Still k s → s.get CORE_PC k < 2 ^ 16 → s.get CORE_CP k < 16 →
    Gives (.callr x) s (fun t => SlotNext k (s.gReg k ra % 2 ^ 20) s t ∧ Pushed k base [(s.get CORE_PC k + 2) % 2 ^ 16 + s.get CORE_CP k * 2 ^ 16,
        s.get CORE_B (4 * k + 2)] s t ∧ CellsBut s t ((CORE_SLOT_TO, k) :: (CORE_G, 32 * k + 31) :: goCells k) [])) ∧
  (∀ (x : Issue) (m : Meets) (cond : Fin 16) (k base w0 w1 : Nat) (s : State), k = x.core → k < 32 →
    x.word.toNat = cond * 2 ^ 28 + 8 * 2 ^ 24 + 3 * 2 ^ 20 → Stands x s → s.get CORE_SLOT k = 0 → Still k s → m.ecc = .none →
    s.get CRS_ON k = 1 → s.gReg k 31 % 4 = 0 → s.gReg k 31 < 2 ^ 32 → s.gReg k 31 % 2 ^ 16 ≤ 2 ^ 16 - 8 →
    base = s.get CORE_B (4 * k + 3) * 2 ^ 16 + s.gReg k 31 % 2 ^ 16 → regionOf base = .course k →
    w0 = ofBytes ((List.range 4).map (fun i => s.sramByte (base + i))) →
    w1 = ofBytes ((List.range 4).map (fun i => s.sramByte (base + 4 + i))) →
    Gives (.ret x m) s (fun t => SlotNext k (w0 % 2 ^ 20) s t ∧ t.gReg k 31 = (s.gReg k 31 + 8) % 2 ^ 32 ∧
      t.get CORE_B (4 * k + 2) = w1 % 2 ^ 24 ∧ Quiet s t ∧
      CellsBut s t ((CORE_SLOT_TO, k) :: (CORE_G, 32 * k + 31) :: (CORE_B, 4 * k + 2) :: goCells k) [])) ∧
  (∀ (x : Issue) (m : Meets) (cond : Fin 16) (k base w0 : Nat) (s : State), k = x.core → k < 32 →
    x.word.toNat = cond * 2 ^ 28 + 8 * 2 ^ 24 + 4 * 2 ^ 20 → Stands x s → s.get CORE_SLOT k = 0 → Still k s → m.ecc = .none →
    s.get CRS_ON k = 1 → s.gReg k 31 % 4 = 0 → s.gReg k 31 < 2 ^ 32 → s.gReg k 31 % 2 ^ 16 ≤ 2 ^ 16 - 24 →
    base = s.get CORE_B (4 * k + 3) * 2 ^ 16 + s.gReg k 31 % 2 ^ 16 → regionOf base = .course k →
    w0 = ofBytes ((List.range 4).map (fun i => s.sramByte (base + i))) →
    Gives (.reti x m) s (fun t => t.gReg k 31 = (s.gReg k 31 + 24) % 2 ^ 32 ∧ (∀ b : Fin 4, t.get CORE_B (4 * k + b) =
        ofBytes ((List.range 4).map (fun i => s.sramByte (base + 4 * (1 + b) + i))) % 2 ^ 24) ∧ t.get CORE_PC k = w0 % 2 ^ 16 ∧
      t.get CORE_V k = w0 / 2 ^ 16 % 2 ∧ t.get CORE_C k = w0 / 2 ^ 17 % 2 ∧ t.get CORE_Z k = w0 / 2 ^ 18 % 2 ∧
      t.get CORE_N k = w0 / 2 ^ 19 % 2 ∧ t.get CORE_CP k = w0 / 2 ^ 20 % 16 ∧ t.get CORE_LVL k = w0 / 2 ^ 24 % 4 ∧
      t.get CORE_IEN k = w0 / 2 ^ 26 % 2 ∧ t.get CORE_IEU k = w0 / 2 ^ 27 % 2 ∧ t.get CORE_FLT k = w0 / 2 ^ 28 % 2 ∧
      t.get CORE_SLOT k = w0 / 2 ^ 29 % 2 ∧ coreRm t k = coreRm s k ∧ t.get CORE_MDBUSY k = 0 ∧
      (t.get CORE_SLOT k = 1 → t.get CORE_SLOT_TO k = ofBytes ((List.range 4).map (fun i => s.sramByte (base + 20 + i))) % 2 ^ 20) ∧
      (∀ r ∈ t.resvs, r.core ≠ k) ∧ t.sram = s.sram ∧ t.mem = s.mem)) ∧
  (∀ (x : Issue) (cond : Fin 16) (code : BitVec 16) (k base v : Nat) (s : State), k = x.core →
    x.word.toNat = cond * 2 ^ 28 + 8 * 2 ^ 24 + 6 * 2 ^ 20 + code.toNat → Stands x s → x.vec ≠ .uncorr → CanFault k 8 base v s → s.get CORE_SLOT k = 0 →
    s.get CORE_PC k < 2 ^ 16 →
    Gives (.trap x) s (FaultTaken k 8 code.toNat none ((s.get CORE_PC k + 1) % 2 ^ 16) base v s)) ∧
  (∀ (e : EntryIn) (i : Fin 64) (lvl k base v : Nat) (s : State), k = e.core → e.vec ≠ .uncorr → s.get CORE_FP k = 0 → s.get CRS_STAT_STATE k = 2 → StackAt k 6 base s → Still k s →
    VectorAt k i base 24 v s → s.get CORE_SLOT k = 0 → s.get CORE_STALL k = 0 → s.ldgWait = [] → s.get CRS_EVT_EN_EN k = 2 ^ i.val →
    s.bit CRS_EVT_PEND_PEND k i = true → lvl = (if s.bit CRS_EVT_LVL_URGENT k i = true then 2 else 1) →
    (lvl = 2 → s.get CORE_IEU k = 1 ∧ s.get CORE_LVL k < 2) → (lvl = 1 → s.get CORE_IEN k = 1 ∧ s.get CORE_LVL k < 2) →
    Gives (.interruptEntry e) s (fun t => Pushed k base (frameWords k (s.get CORE_PC k) s) s t ∧ t.pcWord k = v % 2 ^ 20 ∧
      t.get CORE_LVL k = lvl ∧ t.get CORE_IEN k = 0 ∧ t.get CORE_IEU k = (if lvl = 2 then 0 else s.get CORE_IEU k) ∧
      t.get CORE_FLT k = s.get CORE_FLT k ∧ t.bit CRS_EVT_PEND_PEND k i = false ∧ t.get CORE_WAIT k = 0 ∧ t.get CORE_BLOCK k = 0 ∧
      (∀ r ∈ t.resvs, r.core ≠ k))) ∧
  (∀ (e : EntryIn) (k : Nat) (s : State), k = e.core → (coreInputs s k = 0 ∨ (s.get CORE_IEN k = 0 ∧ s.get CORE_IEU k = 0) ∨
      (s.get CORE_SLOT k = 1 ∧ s.get CORE_BLOCK k = 0) ∨ s.get CORE_FP k ≠ 0) → exec (.interruptEntry e) s = .next s)

/-- Praben block instructions: SWEEP, CRCB and SEEK, their set-up and their elements (R211, R212, R213, R214, R215, R216). -/
def Obligations.BlockInstructions : Prop :=
  (∀ (x : Issue) (cond : Fin 16) (rd rs rn : Fin 32) (bkd bks : Fin 4) (k : Nat) (s : State), k = x.core → x.word.toNat =
      cond * 2 ^ 28 + 11 * 2 ^ 24 + rd * 2 ^ 19 + rs * 2 ^ 14 + rn * 2 ^ 9 + bkd * 2 ^ 7 + bks * 2 ^ 5 → Stands x s → rd ≠ 0 → rs ≠ 0 → rn ≠ 0 → rd ≠ rs → rd ≠ rn → rs ≠ rn → 
    Gives (.sweep x) s (fun t => (s.gReg k rn = 0 → GoesOn k s t ∧ t.get CORE_BLOCK k = 0) ∧
      (s.gReg k rn ≠ 0 → t.pcWord k = s.pcWord k ∧ t.get CORE_BLOCK k = 1 ∧ (Still k s → Quiet s t ∧
        CellsBut s t [(CORE_BLOCK, k), (CORE_WAIT, k), (CORE_STALL, k), (CORE_SETUP, k), (CORE_FREEZE, k), (CRS_STAT_ECC_CORR, k)] [])))) ∧
  (∀ (x : Issue) (cond : Fin 16) (rd rs rn : Fin 32) (bks : Fin 4) (k : Nat) (s : State), k = x.core → x.word.toNat =
      cond * 2 ^ 28 + 11 * 2 ^ 24 + rd * 2 ^ 19 + rs * 2 ^ 14 + rn * 2 ^ 9 + bks * 2 ^ 5 + 1 * 2 ^ 3 → Stands x s → rd ≠ 0 → rs ≠ 0 → rn ≠ 0 → rd ≠ rs → rd ≠ rn → rs ≠ rn → 
    Gives (.crcb x) s (fun t => (s.gReg k rn = 0 → GoesOn k s t ∧ t.get CORE_BLOCK k = 0) ∧
      (s.gReg k rn ≠ 0 → t.pcWord k = s.pcWord k ∧ t.get CORE_BLOCK k = 1 ∧ (Still k s → Quiet s t ∧
        CellsBut s t [(CORE_BLOCK, k), (CORE_WAIT, k), (CORE_STALL, k), (CORE_SETUP, k), (CORE_FREEZE, k), (CRS_STAT_ECC_CORR, k)] [])))) ∧
  (∀ (x : Issue) (cond : Fin 16) (rd rs rn : Fin 32) (bkd bks : Fin 4) (k : Nat) (s : State), k = x.core → x.word.toNat =
      cond * 2 ^ 28 + 11 * 2 ^ 24 + rd * 2 ^ 19 + rs * 2 ^ 14 + rn * 2 ^ 9 + bkd * 2 ^ 7 + bks * 2 ^ 5 + 2 * 2 ^ 3 → Stands x s → rd ≠ 0 → rs ≠ 0 → rn ≠ 0 → rd ≠ rs → rd ≠ rn → rs ≠ rn → bkd.val < 3 → s.gReg k rs % 2 ^ bkd.val = 0 → 
    Gives (.seek x) s (fun t => (s.gReg k rn = 0 → GoesOn k s t ∧ t.get CORE_BLOCK k = 0 ∧ t.get CORE_Z k = 0) ∧
      (s.gReg k rn ≠ 0 → t.pcWord k = s.pcWord k ∧ t.get CORE_BLOCK k = 1 ∧ (Still k s → Quiet s t ∧
        CellsBut s t [(CORE_BLOCK, k), (CORE_WAIT, k), (CORE_STALL, k), (CORE_SETUP, k), (CORE_FREEZE, k), (CRS_STAT_ECC_CORR, k)] [])))) ∧
  (∀ (e : EntryIn) (m : Meets) (cond : Fin 16) (rd rs rn : Fin 32) (bkd bks : Fin 4) (k n S T : Nat) (s : State), k = e.core → k < 32 →
    mayIssue s k true = true → s.get CORE_FP k = 0 → execWord s k (fetchOff s k) = cond * 2 ^ 28 + 11 * 2 ^ 24 + rd * 2 ^ 19 + rs * 2 ^ 14 + rn * 2 ^ 9 + bkd * 2 ^ 7 + bks * 2 ^ 5 →
    rd ≠ 0 → rs ≠ 0 → rn ≠ 0 → rd ≠ rs → rd ≠ rn → rs ≠ rn → Still k s → m.ecc = .none → s.get CRS_ON k = 1 → (∀ r : Fin 32, s.gReg k r < 2 ^ 32) → 0 < s.gReg k rn → 
    n = min (s.gReg k rn) (64 - s.gReg k rd % 64) → S = s.get CORE_B (4 * k + bks) * 2 ^ 16 + s.gReg k rs % 2 ^ 16 →
    T = s.get CORE_B (4 * k + bkd) * 2 ^ 16 + s.gReg k rd % 2 ^ 16 → s.gReg k rs % 2 ^ 16 + n ≤ 2 ^ 16 →
    regionOf S = .course k → regionOf T = .course k →
    Gives (.blockElement e m) s (fun t => (List.range n).map (fun i => t.sramByte (T + i)) =
        (List.range n).map (fun i => s.sramByte (S + i)) ∧ (∀ a : Nat, a < T ∨ T + n ≤ a → t.sramByte a = s.sramByte a) ∧
      t.gReg k rs = (s.gReg k rs + n) % 2 ^ 32 ∧ t.gReg k rd = (s.gReg k rd + n) % 2 ^ 32 ∧ t.gReg k rn = s.gReg k rn - n ∧
      (s.gReg k rn = n → GoesOn k s t ∧ t.get CORE_BLOCK k = 0) ∧
      (n < s.gReg k rn → t.pcWord k = s.pcWord k ∧ t.get CORE_BLOCK k = 1) ∧
      CellsBut s t ([(CORE_G, 32 * k + rs), (CORE_G, 32 * k + rd), (CORE_G, 32 * k + rn), (CORE_BLOCK, k)] ++ goCells k) [])) ∧
  (∀ (e : EntryIn) (m : Meets) (cond : Fin 16) (rd rs rn : Fin 32) (bks : Fin 4) (k n S : Nat) (s : State), k = e.core → k < 32 →
    mayIssue s k true = true → s.get CORE_FP k = 0 → execWord s k (fetchOff s k) = cond * 2 ^ 28 + 11 * 2 ^ 24 + rd * 2 ^ 19 + rs * 2 ^ 14 + rn * 2 ^ 9 + bks * 2 ^ 5 + 1 * 2 ^ 3 →
    rd ≠ 0 → rs ≠ 0 → rn ≠ 0 → rd ≠ rs → rd ≠ rn → rs ≠ rn → Still k s → m.ecc = .none → s.get CRS_ON k = 1 → (∀ r : Fin 32, s.gReg k r < 2 ^ 32) → 0 < s.gReg k rn → 
    n = min (s.gReg k rn) (64 - s.gReg k rs % 64) → S = s.get CORE_B (4 * k + bks) * 2 ^ 16 + s.gReg k rs % 2 ^ 16 →
    regionOf S = .course k → s.get CORE_CRCP k < 4 →
    Gives (.blockElement e m) s (fun t => t.gReg k rd = crcFolds (s.get CORE_CRCP k) (s.gReg k rd)
        ((List.range n).map (fun i => s.sramByte (S + i))) ∧ t.gReg k rs = (s.gReg k rs + n) % 2 ^ 32 ∧
      t.gReg k rn = s.gReg k rn - n ∧ (s.gReg k rn = n → GoesOn k s t ∧ t.get CORE_BLOCK k = 0) ∧
      (n < s.gReg k rn → t.pcWord k = s.pcWord k ∧ t.get CORE_BLOCK k = 1) ∧ Quiet s t ∧
      CellsBut s t ([(CORE_G, 32 * k + rs), (CORE_G, 32 * k + rd), (CORE_G, 32 * k + rn), (CORE_BLOCK, k)] ++ goCells k) [])) ∧
  (∀ (e : EntryIn) (m : Meets) (cond : Fin 16) (rd rs rn : Fin 32) (sz bks : Fin 4) (k n w key S : Nat) (s : State), k = e.core → k < 32 →
    mayIssue s k true = true → s.get CORE_FP k = 0 → execWord s k (fetchOff s k) = cond * 2 ^ 28 + 11 * 2 ^ 24 + rd * 2 ^ 19 + rs * 2 ^ 14 + rn * 2 ^ 9 + sz * 2 ^ 7 + bks * 2 ^ 5 + 2 * 2 ^ 3 →
    rd ≠ 0 → rs ≠ 0 → rn ≠ 0 → rd ≠ rs → rd ≠ rn → rs ≠ rn → Still k s → m.ecc = .none → s.get CRS_ON k = 1 → (∀ r : Fin 32, s.gReg k r < 2 ^ 32) → 0 < s.gReg k rn → 
    key = s.gReg k rd → sz.val < 3 → w = 2 ^ sz.val → n = min (s.gReg k rn) ((64 - s.gReg k rs % 64) / w) → s.gReg k rs % w = 0 →
    S = s.get CORE_B (4 * k + bks) * 2 ^ 16 + s.gReg k rs % 2 ^ 16 → regionOf S = .course k → (∀ j : Nat, j < n →
      (Nat.xor (ofBytes ((List.range w).map (fun i => s.sramByte (S + w * j + i)))) key &&& s.get CORE_SMASK k) % 2 ^ (8 * w) ≠ 0) →
    Gives (.blockElement e m) s (fun t => t.gReg k rs = (s.gReg k rs + n * w) % 2 ^ 32 ∧ t.gReg k rn = s.gReg k rn - n ∧
      t.gReg k rd = key ∧ (s.gReg k rn = n → GoesOn k s t ∧ t.get CORE_BLOCK k = 0 ∧ t.get CORE_Z k = 0) ∧
      (n < s.gReg k rn → t.pcWord k = s.pcWord k ∧ t.get CORE_BLOCK k = 1) ∧ Quiet s t ∧
      CellsBut s t ([(CORE_G, 32 * k + rs), (CORE_G, 32 * k + rn), (CORE_BLOCK, k), (CORE_Z, k)] ++ goCells k) [])) ∧
  (∀ (e : EntryIn) (m : Meets) (cond : Fin 16) (rd rs rn : Fin 32) (sz bks : Fin 4) (k n w key S p : Nat) (s : State), k = e.core → k < 32 →
    mayIssue s k true = true → s.get CORE_FP k = 0 → execWord s k (fetchOff s k) = cond * 2 ^ 28 + 11 * 2 ^ 24 + rd * 2 ^ 19 + rs * 2 ^ 14 + rn * 2 ^ 9 + sz * 2 ^ 7 + bks * 2 ^ 5 + 2 * 2 ^ 3 →
    rd ≠ 0 → rs ≠ 0 → rn ≠ 0 → rd ≠ rs → rd ≠ rn → rs ≠ rn → Still k s → m.ecc = .none → s.get CRS_ON k = 1 → (∀ r : Fin 32, s.gReg k r < 2 ^ 32) → 0 < s.gReg k rn → 
    key = s.gReg k rd → sz.val < 3 → w = 2 ^ sz.val → n = min (s.gReg k rn) ((64 - s.gReg k rs % 64) / w) → s.gReg k rs % w = 0 →
    S = s.get CORE_B (4 * k + bks) * 2 ^ 16 + s.gReg k rs % 2 ^ 16 → regionOf S = .course k → p < n →
    (Nat.xor (ofBytes ((List.range w).map (fun i => s.sramByte (S + w * p + i)))) key &&& s.get CORE_SMASK k) % 2 ^ (8 * w) = 0 → (∀ j : Nat, j < p →
      (Nat.xor (ofBytes ((List.range w).map (fun i => s.sramByte (S + w * j + i)))) key &&& s.get CORE_SMASK k) % 2 ^ (8 * w) ≠ 0) →
    Gives (.blockElement e m) s (fun t => t.gReg k rs = (s.gReg k rs + p * w) % 2 ^ 32 ∧ t.gReg k rn = s.gReg k rn - p ∧
      t.gReg k rd = key ∧ GoesOn k s t ∧ t.get CORE_BLOCK k = 0 ∧ t.get CORE_Z k = 1 ∧ Quiet s t ∧
      CellsBut s t ([(CORE_G, 32 * k + rs), (CORE_G, 32 * k + rn), (CORE_BLOCK, k), (CORE_Z, k)] ++ goCells k) [])) ∧
  (∀ (e : EntryIn) (m : Meets) (s : State), (s.get CORE_BLOCK e.core = 0 ∨ (e.core.val < 32 ∧ s.get CRS_STAT_STATE e.core ≠ 2)) →
    exec (.blockElement e m) s = .next s)

/-- Praben issue, results landing, and every fault cause that an instruction raises (R190, R191, R196, R197, R204, R188, R189, R209, R210, R218, R158). -/
def Obligations.FaultsAndEntry : Prop :=
  (∀ (x : Issue) (s : State), (coreRuns s x.core = false ∨ (s.get CORE_WAIT x.core = 1 ∧ coreInputs s x.core = 0) ∨
      (s.get CORE_FP x.core = 0 ∧ fetchOff s x.core < execSize x.core ∧ execWord s x.core (fetchOff s x.core) ≠ x.word.toNat)) →
    exec (.add x) s = .next s) ∧
  (∀ (x : Issue) (cond : Fin 16) (a b c : Fin 32) (S : Fin 2) (k : Nat) (s : State), k = x.core → x.word.toNat = cond * 2 ^ 28 +
      a * 2 ^ 19 + b * 2 ^ 14 + c * 2 ^ 9 + S * 2 ^ 8 → StandsOn x s → condOk s k x.word.toNat = false →
    Gives (.add x) s (fun t => GoesOn k s t ∧ (Still k s → Quiet s t ∧ CellsBut s t (goCells k) []))) ∧
  (∀ (x : Issue) (r : Fin 32) (v : Nat) (s : State), x.word.toNat = 0x10000000 → StandsOn x s → s.get CORE_MDBUSY x.core = 0 → v < 2 ^ 32 →
    s.flights = [⟨x.core, 1, .g r, v⟩] →
    Gives (.add x) s (fun t => t.flights = [] ∧ t.gReg x.core r = (if r = 0 then 0 else v) ∧ GoesOn x.core s t ∧
      CellsBut s t ((CORE_G, 32 * x.core + r) :: goCells x.core) [])) ∧
  (∀ (x : Issue) (n v : Nat) (d : FlightDst) (s : State), x.word.toNat = 0x10000000 → StandsOn x s → s.get CORE_MDBUSY x.core = 0 →
    s.flights = [⟨x.core, n + 2, d, v⟩] →
    Gives (.add x) s (fun t => t.flights = [⟨x.core, n + 1, d, v⟩] ∧ GoesOn x.core s t ∧ CellsBut s t (goCells x.core) [])) ∧
  (∀ (x : Issue) (k base v : Nat) (s : State), k = x.core → StandsOn x s → x.vec ≠ .uncorr → CanFault k 6 base v s → s.get CORE_PC k < 2 ^ 16 →
    (13 ≤ x.word.toNat / 2 ^ 24 % 16 ∨ (x.word.toNat / 2 ^ 24 % 16 = 0 ∧ x.word.toNat % 16 ≠ 0)) →
    Gives (.add x) s (FaultTaken k 6 0 none (s.get CORE_PC k) base v s)) ∧
  (∀ (x : Issue) (cond : Fin 16) (r : Fin 32) (i k base v : Nat) (s : State), k = x.core → 11 ≤ i → i < 2 ^ 8 → x.word.toNat = cond * 2 ^ 28 +
      9 * 2 ^ 24 + r * 2 ^ 15 + i → Stands x s → x.vec ≠ .uncorr → CanFault k 6 base v s → s.get CORE_PC k < 2 ^ 16 →
    Gives (.mfs x) s (FaultTaken k 6 0 none (s.get CORE_PC k) base v s)) ∧
  (∀ (x : Issue) (cond : Fin 16) (r : Fin 32) (i k base v : Nat) (s : State), k = x.core → i ∉ [0, 1, 8, 9, 10] → i < 2 ^ 8 →
    x.word.toNat = cond * 2 ^ 28 + 9 * 2 ^ 24 + 2 ^ 20 + r * 2 ^ 15 + i → Stands x s → x.vec ≠ .uncorr → CanFault k 6 base v s → s.get CORE_PC k < 2 ^ 16 →
    Gives (.mts x) s (FaultTaken k 6 0 none (s.get CORE_PC k) base v s)) ∧
  (∀ (x : Issue) (off : BitVec 16) (k base v : Nat) (s : State), k = x.core → x.word.toNat = 7 * 2 ^ 24 + off.toNat → StandsOn x s →
    s.get CORE_SLOT k = 1 → x.vec ≠ .uncorr → CanFault k 6 base v s → s.get CORE_PC k < 2 ^ 16 →
    Gives (.branch x) s (FaultTaken k 6 0 none (s.get CORE_PC k) base v s)) ∧
  (∀ (x : Issue) (m : Meets) (cond : Fin 16) (rd ra : Fin 32) (bk : Fin 4) (d : BitVec 9) (k a base v : Nat) (s : State), k = x.core →
    x.word.toNat = cond * 2 ^ 28 + 5 * 2 ^ 24 + rd * 2 ^ 19 + ra * 2 ^ 14 + bk * 2 ^ 12 + 2 * 2 ^ 10 + d.toNat → Stands x s →
    DataAt k bk ra (d.toInt * 4) a s → a % 4 ≠ 0 → x.vec ≠ .uncorr → CanFault k 5 base v s → s.get CORE_PC k < 2 ^ 16 →
    Gives (.load x m) s (FaultTaken k 5 0 (some a) (s.get CORE_PC k) base v s)) ∧
  (∀ (x : Issue) (m : Meets) (cond : Fin 16) (rd ra : Fin 32) (bk : Fin 4) (d : BitVec 9) (k a base v : Nat) (s : State), k = x.core →
    x.word.toNat = cond * 2 ^ 28 + 5 * 2 ^ 24 + rd * 2 ^ 19 + ra * 2 ^ 14 + bk * 2 ^ 12 + 2 * 2 ^ 10 + d.toNat → Stands x s →
    DataAt k bk ra (d.toInt * 4) a s → a % 4 = 0 → regionOf a = .unmapped → x.vec ≠ .uncorr → CanFault k 2 base v s → s.get CORE_PC k < 2 ^ 16 → a < 2 ^ 40 →
    Gives (.load x m) s (fun t => FaultTaken k 2 0 (some a) (s.get CORE_PC k) base v s t ∧
      t.out = s.out ++ [.errorResponse (coreReq k) a 2])) ∧
  (∀ (x : Issue) (m : Meets) (cond : Fin 16) (rd ra : Fin 32) (bk : Fin 4) (d : BitVec 9) (k a base v : Nat) (s : State), k = x.core →
    x.word.toNat = cond * 2 ^ 28 + 12 * 2 ^ 24 + rd * 2 ^ 19 + ra * 2 ^ 14 + bk * 2 ^ 12 + d.toNat → Stands x s →
    DataAt k bk ra (d.toInt * 4) a s → a % 4 = 0 → regionOf a = .registers → x.vec ≠ .uncorr → CanFault k 1 base v s → s.get CORE_PC k < 2 ^ 16 →
    Gives (.ldx x m) s (FaultTaken k 1 0 (some a) (s.get CORE_PC k) base v s)) ∧
  (∀ (x : Issue) (k cause code base v : Nat) (s : State), k = x.core → mayIssue s k false = true → 0 < cause → cause < 10 →
    s.get CORE_FP k = cause → s.get CORE_FP_CODE k = code → s.get CORE_FP_AT k = 0 → s.get CORE_PC k < 2 ^ 16 → x.vec ≠ .uncorr → CanFault k cause base v s →
    Gives (.add x) s (FaultTaken k cause code none (if cause = 8 then (s.get CORE_PC k + 1) % 2 ^ 16 else s.get CORE_PC k) base v s)) ∧
  (∀ (x : Issue) (k : Nat) (s : State), k = x.core → k < 32 → mayIssue s k false = true → s.get CORE_FP k = 0 → execSize k ≤ fetchOff s k →
    Still k s → s.get CORE_FLT k = 0 → s.get TRB_STAT_LOCKED 0 = 0 → x.vec = .uncorr → s.get CORE_VBASE k / 512 * 512 + 296 ≤ execSize k →
    Gives (.sub x) s (fun t => t.get CRS_STAT_STATE k = crsHalted ∧ t.get CORE_FCAUSE k = 3 ∧ t.sram = s.sram ∧ t.mem = s.mem)) ∧
  (∀ (x : Issue) (k base v : Nat) (s : State), k = x.core → mayIssue s k false = true → s.get CORE_FP k = 0 → execSize k ≤ fetchOff s k → x.vec ≠ .uncorr → CanFault k 9 base v s →
    s.get CORE_PC k < 2 ^ 16 →
    Gives (.add x) s (FaultTaken k 9 0 (some (k * 0x8_0000 + s.get CORE_CP k * 0x4_0000 + s.get CORE_PC k * 4)) (s.get CORE_PC k) base v s)) ∧
  (∀ (x : Issue) (k a base v : Nat) (s : State), k = x.core → mayIssue s k false = true → s.get CORE_FP k = 0 → fetchOff s k < execSize k →
    execWord s k (fetchOff s k) = x.word.toNat → x.ecc = .uncorr → a = k * 0x8_0000 + s.get CORE_CP k * 0x4_0000 + s.get CORE_PC k * 4 →
    x.vec ≠ .uncorr → CanFault k 3 base v s → s.get CORE_PC k < 2 ^ 16 →
    Gives (.add x) s (fun t => FaultTaken k 3 0 (some a) (s.get CORE_PC k) base v s t ∧
      (s.get CRS_FAULT_VALID k = 0 → t.get CRS_FAULT_VALID k = 1 ∧ t.get CRS_FAULT_KIND k = 3 ∧ t.get CRS_FAULT_ADDR k = a))) ∧
  (∀ (x : Issue) (code : BitVec 16) (k : Nat) (s : State), k = x.core → k < 32 → x.word.toNat = 8 * 2 ^ 24 + 6 * 2 ^ 20 + code.toNat →
    StandsOn x s → s.get CORE_SLOT k = 0 → s.get TRB_STAT_LOCKED 0 = 0 → x.vec ≠ .uncorr →
    (s.get CORE_FLT k = 1 ∨ execWord s k (s.get CORE_VBASE k / 512 * 512 + 288) < 2 ^ 31) →
    Gives (.trap x) s (fun t => t.get CRS_STAT_STATE k = 3 ∧ t.get CRS_STAT_HALT_WHY k = 1 ∧
      t.get CORE_FCAUSE k = 8 + code.toNat * 2 ^ 16 ∧ t.bit EVT_SEEN_SEEN ((3971 + 4 * k) / 32) ((3971 + 4 * k) % 32) = true ∧
      t.sram = s.sram ∧ t.mem = s.mem))

/-- One Fret clock cycle: the index, every action, stalls and waits, and the frame (R225, R226, R227, R228, R229, R230, R231, R232, R233, R235). -/
def Obligations.FretCycle : Prop :=
  (∀ (f : Fin 64) (ins : BitVec 8) (s : State), (s.get FRT_STAT_RUN f = 0 ∨ fretsOn s = false) → exec (.fretCycle f ins) s = .next s) ∧
  (∀ (f : Fin 64) (ins : BitVec 8) (j code k : Nat) (F : Fld) (s : State), k = f * 64 + s.get FRT_STAT_STATE f → j < 4 →
    F = (match j with
      | 0 => FRT_SSEL_SEL0
      | 1 => FRT_SSEL_SEL1
      | 2 => FRT_SSEL_SEL2
      | _ => FRT_SSEL_SEL3) → s.get FRT_SSEL_USE k = 2 ^ j → s.get F k = code → 8 ≤ code → code < 15 →
    fretIndex s f ins.toNat = (match code with
      | 8 => if s.get FRT_QSTAT_TX_CNT f = 0 then 0 else 2 ^ j
      | 9 => if s.get FRT_QSTAT_RX_CNT f < (match s.get FRT_CFG_QJOIN f with
          | 1 => 0
          | 2 => 8
          | _ => 4) then 2 ^ j else 0
      | 10 => if s.get FRT_DBG_CNT f = 0 then 2 ^ j else 0
      | 11 => if s.get FRT_DBG_BITCNT f = 0 then 2 ^ j else 0
      | 12 => if s.get FRT_STAT_TM f = 0 then 0 else 2 ^ j
      | 13 => if s.get FRT_STAT_F0 f = 0 then 0 else 2 ^ j
      | _ => if s.get FRT_STAT_F1 f = 0 then 0 else 2 ^ j)) ∧
  (∀ (f : Fin 64) (ins : BitVec 8) (k n : Nat) (s : State), k = f * 64 + s.get FRT_STAT_STATE f → s.get FRT_SSEL_USE k = 1 →
    s.get FRT_SSEL_SEL0 k = 7 → n = s.get FRT_INSEL_IN7 f →
    fretIndex s f ins.toNat = (if n < 192 ∧ s.domOn (domFretBank (n / 32)) = true ∧ ins.getLsbD 7 = true then 1 else 0)) ∧
  (∀ (f : Fin 64) (ins : BitVec 8) (j k n : Nat) (s : State), j < 8 → k < 8 → n < 192 → (∀ F ∈ inSel[j]?, s.get F f = n) → (∀ F ∈ inSel[k]?, s.get F f = n) →
    (slotSamples f ins.toNat (List.range 8) s).1.testBit j = (slotSamples f ins.toNat (List.range 8) s).1.testBit k ∧
    (s.get PIN_HIST n / 64 = 3 → (slotSamples f ins.toNat (List.range 8) s).1.testBit j = true) ∧
    (s.get PIN_HIST n / 64 = 2 → (slotSamples f ins.toNat (List.range 8) s).1.testBit j = false)) ∧
  (∀ (f : Fin 64) (ins : BitVec 8) (e : Nat) (s : State), FretAt f ins.toNat e 0 s → 
    Gives (.fretCycle f ins) s (fun t => FretMoved f e [] s t ∧ t.get FRT_DBG_CNT f = (s.get FRT_DBG_CNT f - 1) % 2 ^ 16 ∧ t.events = s.events)) ∧
  (∀ (f : Fin 64) (ins : BitVec 8) (e : Nat) (s : State), FretAt f ins.toNat e 15 s → 
    Gives (.fretCycle f ins) s (fun t => FretMoved f e [] s t ∧ t.get FRT_DBG_CNT f = (s.get FRT_DBG_CNT f - 1) % 2 ^ 16 ∧ t.events = s.events)) ∧
  (∀ (f : Fin 64) (ins : BitVec 8) (e n : Nat) (s : State), FretAt f ins.toNat e 1 s → n = (if s.get FRT_CFG_SHIFT_LEN f = 0 then 32 else s.get FRT_CFG_SHIFT_LEN f) → n ≤ 32 → s.get FRT_DBG_SR f < 2 ^ 32 → s.get FRT_CFG_SFILL f < 2 → 
    Gives (.fretCycle f ins) s (fun t => FretMoved f e [(FRT_DBG_SR, f.val), (FRT_DBG_BITCNT, f.val)] s t ∧ t.get FRT_DBG_CNT f = (s.get FRT_DBG_CNT f - 1) % 2 ^ 16 ∧
      t.get FRT_DBG_BITCNT f = (s.get FRT_DBG_BITCNT f - 1) % 2 ^ 6 ∧ t.get FRT_DBG_SR f = (if s.get FRT_CFG_SHIFT_DIR f = 0 then
        s.get FRT_DBG_SR f / 2 + s.get FRT_CFG_SFILL f * 2 ^ 31 else (2 * s.get FRT_DBG_SR f + s.get FRT_CFG_SFILL f) % 2 ^ n))) ∧
  (∀ (f : Fin 64) (ins : BitVec 8) (e n b : Nat) (s : State), FretAt f ins.toNat e 2 s → n = (if s.get FRT_CFG_SHIFT_LEN f = 0 then 32 else s.get FRT_CFG_SHIFT_LEN f) → n ≤ 32 → s.get FRT_DBG_SR f < 2 ^ 32 →
    b = (if slotIn s f (s.get FRT_CFG_SIN_SLOT f) ((slotSamples f ins.toNat (List.range 8) s).1.testBit (s.get FRT_CFG_SIN_SLOT f)) then 1 else 0) → 
    Gives (.fretCycle f ins) s (fun t => FretMoved f e [(FRT_DBG_SR, f.val), (FRT_DBG_BITCNT, f.val)] s t ∧ t.get FRT_DBG_CNT f = (s.get FRT_DBG_CNT f - 1) % 2 ^ 16 ∧
      t.get FRT_DBG_BITCNT f = (s.get FRT_DBG_BITCNT f - 1) % 2 ^ 6 ∧ t.get FRT_DBG_SR f = (if s.get FRT_CFG_SHIFT_DIR f = 0 then
        s.get FRT_DBG_SR f / 2 % 2 ^ (n - 1) + b * 2 ^ (n - 1) else (2 * s.get FRT_DBG_SR f + b) % 2 ^ n))) ∧
  (∀ (f : Fin 64) (ins : BitVec 8) (e n w : Nat) (s : State), FretAt f ins.toNat e 3 s → n = (if s.get FRT_CFG_SHIFT_LEN f = 0 then 32 else s.get FRT_CFG_SHIFT_LEN f) → n ≤ 32 → 0 < s.get FRT_QSTAT_TX_CNT f → s.get FRT_QSTAT_TX_CNT f ≤ 8 → w = s.get FRT_TQ (8 * f) → w < 2 ^ 32 → 
    Gives (.fretCycle f ins) s (fun t => FretMoved f e ([(FRT_DBG_SR, f.val), (FRT_DBG_BITCNT, f.val), (FRT_QSTAT_TX_CNT, f.val)] ++ (List.range 8).map (fun i => (FRT_TQ, 8 * f.val + i))) s t ∧ t.get FRT_DBG_CNT f = (s.get FRT_DBG_CNT f - 1) % 2 ^ 16 ∧
      t.get FRT_DBG_BITCNT f = n ∧ t.get FRT_QSTAT_TX_CNT f = s.get FRT_QSTAT_TX_CNT f - 1 ∧
      (∀ i : Nat, i < 7 → t.get FRT_TQ (8 * f + i) = s.get FRT_TQ (8 * f + i + 1) % 2 ^ 32) ∧
      t.get FRT_DBG_SR f = w % 2 ^ n + (if s.get FRT_CFG_SHIFT_DIR f = 0 ∧ s.get FRT_CFG_SFILL f ≠ 0 then 2 ^ 32 - 2 ^ n else 0) ∧
      (s.get FRT_QSTAT_TX_CNT f = s.get FRT_QCFG_TX_LOW f + 1 →
        t.bit EVT_SEEN_SEEN ((2177 + 8 * f) / 32) ((2177 + 8 * f) % 32) = true))) ∧
  (∀ (f : Fin 64) (ins : BitVec 8) (e n m : Nat) (s : State), FretAt f ins.toNat e 4 s → n = (if s.get FRT_CFG_SHIFT_LEN f = 0 then 32 else s.get FRT_CFG_SHIFT_LEN f) → n ≤ 32 → s.get FRT_QSTAT_RX_CNT f = m → m < (match s.get FRT_CFG_QJOIN f with
      | 1 => 0
      | 2 => 8
      | _ => 4) → 
    Gives (.fretCycle f ins) s (fun t => FretMoved f e [(FRT_DBG_SR, f.val), (FRT_DBG_BITCNT, f.val), (FRT_QSTAT_RX_CNT, f.val), (FRT_RQ, 8 * f.val + m)] s t ∧ t.get FRT_DBG_CNT f = (s.get FRT_DBG_CNT f - 1) % 2 ^ 16 ∧ t.get FRT_QSTAT_RX_CNT f = m + 1 ∧ t.get FRT_RQ (8 * f + m) = s.get FRT_DBG_SR f % 2 ^ n ∧
      (m + 1 = max 1 (s.get FRT_QCFG_RX_HIGH f) → t.bit EVT_SEEN_SEEN ((2178 + 8 * f) / 32) ((2178 + 8 * f) % 32) = true) ∧ t.get FRT_DBG_SR f = 0 ∧ t.get FRT_DBG_BITCNT f = n)) ∧
  (∀ (f : Fin 64) (ins : BitVec 8) (e : Nat) (s : State), FretAt f ins.toNat e 5 s → 
    Gives (.fretCycle f ins) s (fun t => FretMoved f e [] s t ∧ t.get FRT_DBG_CNT f = s.get FRT_RELOAD_RELOAD0 f % 2 ^ 16)) ∧
  (∀ (f : Fin 64) (ins : BitVec 8) (e : Nat) (s : State), FretAt f ins.toNat e 6 s → 
    Gives (.fretCycle f ins) s (fun t => FretMoved f e [] s t ∧ t.get FRT_DBG_CNT f = s.get FRT_RELOAD_RELOAD1 f % 2 ^ 16)) ∧
  (∀ (f : Fin 64) (ins : BitVec 8) (e : Nat) (s : State), FretAt f ins.toNat e 7 s → s.get FRT_STAT_TM f = 1 → 
    Gives (.fretCycle f ins) s (fun t => FretMoved f e [(FRT_STAT_TM, f.val)] s t ∧ t.get FRT_DBG_CNT f = (s.get FRT_DBG_CNT f - 1) % 2 ^ 16 ∧ t.get FRT_STAT_TM f = 0)) ∧
  (∀ (f : Fin 64) (ins : BitVec 8) (e : Nat) (s : State), FretAt f ins.toNat e 7 s → s.get FRT_STAT_TM f = 0 →
    exec (.fretCycle f ins) s = .next ((slotSamples f ins.toNat (List.range 8) s).2.put FRT_DBG_CNT f (s.get FRT_DBG_CNT f - 1))) ∧
  (∀ (f : Fin 64) (ins : BitVec 8) (e : Nat) (s : State), FretAt f ins.toNat e 8 s → 
    Gives (.fretCycle f ins) s (fun t => FretMoved f e ([(FRT_STAT_TM, f.val), (FRT_TCMP_NS, f.val), (FRT_TCMP_FRAC, f.val), (FRT_TCMP_ARM, f.val)]) s t ∧ t.get FRT_DBG_CNT f = (s.get FRT_DBG_CNT f - 1) % 2 ^ 16 ∧ t.get FRT_TCMP_ARM f = 1 ∧ t.get FRT_STAT_TM f = 0 ∧ t.get FRT_TCMP_NS f * 2 ^ 8 + t.get FRT_TCMP_FRAC f = (s.get FRT_TCMP_NS f * 2 ^ 8 + s.get FRT_TCMP_FRAC f + s.get FRT_TSTEP_STEP f) % 2 ^ 40)) ∧
  (∀ (f : Fin 64) (ins : BitVec 8) (e w : Nat) (s : State), FretAt f ins.toNat e 9 s → 0 < s.get FRT_QSTAT_TX_CNT f → s.get FRT_QSTAT_TX_CNT f ≤ 8 → w = s.get FRT_TQ (8 * f) → w < 2 ^ 32 → 
    Gives (.fretCycle f ins) s (fun t => FretMoved f e ([(FRT_STAT_TM, f.val), (FRT_TCMP_NS, f.val), (FRT_TCMP_FRAC, f.val), (FRT_TCMP_ARM, f.val), (FRT_QSTAT_TX_CNT, f.val)] ++ (List.range 8).map (fun i => (FRT_TQ, 8 * f.val + i))) s t ∧ t.get FRT_DBG_CNT f = (s.get FRT_DBG_CNT f - 1) % 2 ^ 16 ∧ t.get FRT_TCMP_ARM f = 1 ∧ t.get FRT_STAT_TM f = 0 ∧ t.get FRT_TCMP_NS f * 2 ^ 8 + t.get FRT_TCMP_FRAC f = w * 2 ^ 8 ∧ t.get FRT_QSTAT_TX_CNT f = s.get FRT_QSTAT_TX_CNT f - 1)) ∧
  (∀ (f : Fin 64) (ins : BitVec 8) (e m d : Nat) (s : State), FretAt f ins.toNat e 10 s → s.get FRT_QSTAT_RX_CNT f = m → m < (match s.get FRT_CFG_QJOIN f with
      | 1 => 0
      | 2 => 8
      | _ => 4) → d = s.get FRT_TCMP_DOM f → s.get TMB_EDGES d < 2 ^ 216 → 
    Gives (.fretCycle f ins) s (fun t => FretMoved f e [(FRT_QSTAT_RX_CNT, f.val), (FRT_RQ, 8 * f.val + m)] s t ∧ t.get FRT_DBG_CNT f = (s.get FRT_DBG_CNT f - 1) % 2 ^ 16 ∧ t.get FRT_QSTAT_RX_CNT f = m + 1 ∧ t.get FRT_RQ (8 * f + m) = s.get TMB_EDGES d / 2 ^ 184 ∧
      (m + 1 = max 1 (s.get FRT_QCFG_RX_HIGH f) → t.bit EVT_SEEN_SEEN ((2178 + 8 * f) / 32) ((2178 + 8 * f) % 32) = true))) ∧
  (∀ (f : Fin 64) (ins : BitVec 8) (e m : Nat) (s : State), FretAt f ins.toNat e 11 s → s.get FRT_QSTAT_RX_CNT f = m → m < (match s.get FRT_CFG_QJOIN f with
      | 1 => 0
      | 2 => 8
      | _ => 4) → s.get FRT_DBG_CNT f < 2 ^ 16 → 
    Gives (.fretCycle f ins) s (fun t => FretMoved f e [(FRT_QSTAT_RX_CNT, f.val), (FRT_RQ, 8 * f.val + m)] s t ∧ t.get FRT_DBG_CNT f = (s.get FRT_DBG_CNT f - 1) % 2 ^ 16 ∧ t.get FRT_QSTAT_RX_CNT f = m + 1 ∧ t.get FRT_RQ (8 * f + m) = s.get FRT_DBG_CNT f ∧
      (m + 1 = max 1 (s.get FRT_QCFG_RX_HIGH f) → t.bit EVT_SEEN_SEEN ((2178 + 8 * f) / 32) ((2178 + 8 * f) % 32) = true))) ∧
  (∀ (f : Fin 64) (ins : BitVec 8) (e : Nat) (s : State), FretAt f ins.toNat e 12 s → 
    Gives (.fretCycle f ins) s (fun t => FretMoved f e [] s t ∧ t.get FRT_DBG_CNT f = (s.get FRT_DBG_CNT f - 1) % 2 ^ 16 ∧ t.bit EVT_SEEN_SEEN ((2179 + 8 * f) / 32) ((2179 + 8 * f) % 32) = true)) ∧
  (∀ (f : Fin 64) (ins : BitVec 8) (e n : Nat) (s : State), FretAt f ins.toNat e 13 s → n = (if s.get FRT_CFG_SHIFT_LEN f = 0 then 32 else s.get FRT_CFG_SHIFT_LEN f) → n ≤ 32 → 
    Gives (.fretCycle f ins) s (fun t => FretMoved f e [(FRT_DBG_SR, f.val), (FRT_DBG_BITCNT, f.val)] s t ∧ t.get FRT_DBG_CNT f = (s.get FRT_DBG_CNT f - 1) % 2 ^ 16 ∧ t.get FRT_DBG_SR f = 0 ∧ t.get FRT_DBG_BITCNT f = n)) ∧
  (∀ (f : Fin 64) (ins : BitVec 8) (e : Nat) (s : State), FretAt f ins.toNat e 14 s →
    Gives (.fretCycle f ins) s (fun t => t.get FRT_STAT_RUN f = 0 ∧ t.get FRT_STAT_STOP_WHY f = 2 ∧ t.get FRT_STAT_STATE f = e % 2 ^ 6 ∧
      (s.get FRT_CFG_STOP_SAFE f = 1 → t.get FRT_SLOTS f = s.get FRT_CFG_SAFE f % 2 ^ 8) ∧
      t.bit EVT_SEEN_SEEN ((2180 + 8 * f) / 32) ((2180 + 8 * f) % 32) = true ∧ QuietE s t)) ∧
  (∀ (f : Fin 64) (ins : BitVec 8) (e act : Nat) (s : State), FretAt f ins.toNat e act s →
    (((act = 3 ∨ act = 9) ∧ s.get FRT_QSTAT_TX_CNT f = 0) ∨ ((act = 4 ∨ act = 10 ∨ act = 11) ∧ 8 ≤ s.get FRT_QSTAT_RX_CNT f)) →
    Gives (.fretCycle f ins) s (fun t => t.get FRT_STAT_STALLED f = 1 ∧ t.get FRT_DBG_CNT f = (s.get FRT_DBG_CNT f - 1) % 2 ^ 16 ∧
      t.get FRT_CNT_STALL_CYC f = min (s.get FRT_CNT_STALL_CYC f + 1) (2 ^ 32 - 1) ∧
      t.get FRT_CNT_STALLS f = min (s.get FRT_CNT_STALLS f + 1) (2 ^ 16 - 1) ∧
      (s.get FRT_CNT_STALLS f = 0 → t.bit EVT_SEEN_SEEN ((2176 + 8 * f) / 32) ((2176 + 8 * f) % 32) = true) ∧ QuietE s t ∧
      CellsBut s t [(FRT_STAT_STALLED, f), (FRT_DBG_CNT, f), (FRT_CNT_STALL_CYC, f), (FRT_CNT_STALLS, f), (FRT_INDEX, f)] (PIN_HIST :: evtCells))) ∧
  (∀ (f : Fin 64) (ins : BitVec 8) (e : Nat) (s : State), s.get FRT_STAT_RUN f = 1 → fretsOn s = true → s.get FRT_STAT_STALLED f = 1 →
    e = s.get FRT_TBL (f * 1024 + 16 * s.get FRT_STAT_STATE f + s.get FRT_INDEX f) → e / 2 ^ 14 % 16 = 3 → s.get FRT_QSTAT_TX_CNT f = 0 →
    exec (.fretCycle f ins) s = .next (((slotSamples f ins.toNat (List.range 8) s).2.put FRT_DBG_CNT f (s.get FRT_DBG_CNT f - 1)).put FRT_CNT_STALL_CYC f
      (min (s.get FRT_CNT_STALL_CYC f + 1) (2 ^ 32 - 1))))

/-- Starting, stopping and programming Frets, their queues, group start and time compare (R222, R224, R230, R232, R233, R234, R235). -/
def Obligations.FretControl : Prop :=
  (∀ (q : Requester) (f : Fin 64) (s : State), s.permit q .registers (frtAddr 0 f) true = .yes → s.get FRT_STAT_RUN f = 0 →
    Gives (.frtStart q f) s (fun t => t.get FRT_STAT_RUN f = 1 ∧ t.get FRT_STAT_STATE f = s.get FRT_CFG_INIT_STATE f % 2 ^ 6 ∧
      t.get FRT_DBG_SR f = (if s.get FRT_CFG_SFILL f = 0 then 0 else 0xFFFFFFFF) ∧ t.get FRT_DBG_BITCNT f = 0 ∧
      t.get FRT_DBG_CNT f = 0 ∧ t.get FRT_STAT_F0 f = 0 ∧ t.get FRT_STAT_F1 f = 0 ∧ t.get FRT_STAT_TM f = 0 ∧ Quiet s t ∧
      CellsBut s t [(FRT_STAT_RUN, f), (FRT_STAT_STATE, f), (FRT_DBG_SR, f), (FRT_DBG_BITCNT, f), (FRT_DBG_CNT, f), (FRT_STAT_F0, f),
        (FRT_STAT_F1, f), (FRT_STAT_TM, f), (FRT_STAT_STALLED, f), (FRT_IS_SAFE, f)] [])) ∧
  (∀ (q : Requester) (f : Fin 64) (s : State), s.permit q .registers (frtAddr 0 f) true = .yes → s.get FRT_STAT_RUN f = 1 →
    exec (.frtStart q f) s = .next s) ∧
  (∀ (q : Requester) (f : Fin 64) (s : State), s.permit q .registers (frtAddr 0 f) true = .yes → s.get FRT_STAT_RUN f = 1 →
    Gives (.frtStop q f) s (fun t => t.get FRT_STAT_RUN f = 0 ∧ t.get FRT_STAT_STALLED f = 0 ∧ t.get FRT_STAT_STOP_WHY f = 1 ∧
      (s.get FRT_CFG_STOP_SAFE f = 1 → t.get FRT_SLOTS f = s.get FRT_CFG_SAFE f % 2 ^ 8) ∧
      (s.get FRT_CFG_STOP_SAFE f = 0 → s.get FRT_CFG_SOUT_EN f = 0 → t.get FRT_SLOTS f = s.get FRT_SLOTS f) ∧
      t.bit EVT_SEEN_SEEN ((2180 + 8 * f) / 32) ((2180 + 8 * f) % 32) = true ∧ QuietE s t ∧
      CellsBut s t [(FRT_STAT_RUN, f), (FRT_STAT_STALLED, f), (FRT_STAT_STOP_WHY, f), (FRT_SLOTS, f), (FRT_IS_SAFE, f)] evtCells)) ∧
  (∀ (q : Requester) (f : Fin 64) (s : State), s.permit q .registers (frtAddr 0 f) true = .yes → s.get FRT_STAT_RUN f = 0 →
    exec (.frtStop q f) s = .next s) ∧
  (∀ (q : Requester) (f : Fin 64) (s : State), s.permit q .registers (frtAddr 0 f) true = .yes → s.get FRT_STAT_RUN f = 0 →
    Gives (.frtQflush q f) s (fun t => t.get FRT_QSTAT_TX_CNT f = 0 ∧ t.get FRT_QSTAT_RX_CNT f = 0 ∧ QuietE s t ∧
      CellsBut s t [(FRT_QSTAT_TX_CNT, f), (FRT_QSTAT_RX_CNT, f)] evtCells)) ∧
  (∀ (q : Requester) (f : Fin 64) (s : State), s.permit q .registers (frtAddr 0 f) true = .yes → s.get FRT_STAT_RUN f = 1 →
    Gives (.frtQflush q f) s (fun t => t.get FRT_STAT_WR_IGN f = (if s.get FRT_STAT_WR_IGN f = 0 then 1 else s.get FRT_STAT_WR_IGN f) ∧
      t.get FRT_CNT_WR_IGN_CNT f = min (s.get FRT_CNT_WR_IGN_CNT f + 1) (2 ^ 16 - 1) ∧
      (s.get FRT_STAT_WR_IGN f = 0 → t.bit EVT_SEEN_SEEN ((2182 + 8 * f) / 32) ((2182 + 8 * f) % 32) = true) ∧ QuietE s t ∧
      CellsBut s t [(FRT_STAT_WR_IGN, f), (FRT_CNT_WR_IGN_CNT, f)] evtCells)) ∧
  (∀ (q : Requester) (f : Fin 64) (v : Word) (n : Nat) (s : State), s.permit q .registers (frtAddr 0x30 f) true = .yes →
    n = s.get FRT_QSTAT_TX_CNT f → n < (if s.get FRT_CFG_QJOIN f = 1 then 8 else if s.get FRT_CFG_QJOIN f = 2 then 0 else 4) →
    exec (.frtTxqWrite q f v) s = .next ((s.put FRT_TQ (8 * f + n) v.toNat).put FRT_QSTAT_TX_CNT f (n + 1))) ∧
  (∀ (q : Requester) (f : Fin 64) (v : Word) (s : State), s.permit q .registers (frtAddr 0x30 f) true = .yes →
    (if s.get FRT_CFG_QJOIN f = 1 then 8 else if s.get FRT_CFG_QJOIN f = 2 then 0 else 4) ≤ s.get FRT_QSTAT_TX_CNT f →
    exec (.frtTxqWrite q f v) s = .next (if s.get FRT_STAT_TXQ_OVF f = 0 then (s.put FRT_STAT_TXQ_OVF f 1).raise (2181 + 8 * f) else s)) ∧
  (∀ (q : Requester) (f : Fin 64) (n : Nat) (s : State), s.permit q .registers (frtAddr 0x34 f) false = .yes →
    n = s.get FRT_QSTAT_RX_CNT f → 0 < n → n ≤ 8 →
    Gives (.frtRxqRead q f) s (fun t => t.out = s.out ++ [.readData q (frtAddr 0x34 f) (s.get FRT_RQ (8 * f))] ∧
      t.get FRT_QSTAT_RX_CNT f = n - 1 ∧ (∀ i : Nat, i < 7 → t.get FRT_RQ (8 * f + i) = s.get FRT_RQ (8 * f + i + 1) % 2 ^ 32) ∧
      Quiet { s with out := t.out } t ∧ CellsBut s t ((FRT_QSTAT_RX_CNT, f.val) :: (List.range 7).map (fun i => (FRT_RQ, 8 * f.val + i))) [])) ∧
  (∀ (q : Requester) (f : Fin 64) (s : State), s.permit q .registers (frtAddr 0x34 f) false = .yes → s.get FRT_QSTAT_RX_CNT f = 0 →
    exec (.frtRxqRead q f) s = .next ((if s.get FRT_STAT_RXQ_UNF f = 0 then (s.put FRT_STAT_RXQ_UNF f 1).raise (2181 + 8 * f) else s).emit
      (.readData q (frtAddr 0x34 f) 0))) ∧
  (∀ (q : Requester) (f : Fin 64) (i : Fin 1024) (a v : Word) (s : State), a.toNat = frtAddr (0x1000 + 4 * i) f →
    s.permit q .registers a.toNat true = .yes → s.get FRT_STAT_RUN f = 0 →
    exec (.frtProgramWrite q a (v.setWidth 64)) s = .next (s.put FRT_TBL (f * 1024 + i) (v.toNat % 2 ^ 23))) ∧
  (∀ (q : Requester) (f : Fin 64) (j : Fin 64) (a : Word) (v : BitVec 64) (s : State), a.toNat = frtAddr (0x800 + 4 * j) f →
    s.permit q .registers a.toNat true = .yes → s.get FRT_STAT_RUN f = 0 →
    exec (.frtProgramWrite q a v) s = .next (((((s.put FRT_SSEL_SEL0 (f * 64 + j) (v.toNat % 16)).put FRT_SSEL_SEL1 (f * 64 + j)
      (v.toNat / 2 ^ 4 % 16)).put FRT_SSEL_SEL2 (f * 64 + j) (v.toNat / 2 ^ 8 % 16)).put FRT_SSEL_SEL3 (f * 64 + j)
      (v.toNat / 2 ^ 12 % 16)).put FRT_SSEL_USE (f * 64 + j) (v.toNat / 2 ^ 16 % 16))) ∧
  (∀ (q : Requester) (f : Fin 64) (a : Word) (v : BitVec 64) (s : State), a.toNat = frtAddr 8 f →
    s.permit q .registers a.toNat true = .yes → s.get FRT_STAT_RUN f = 0 → v.toNat / 2 ^ 6 % 4 ≠ s.get FRT_CFG_QJOIN f →
    Gives (.frtProgramWrite q a v) s (fun t => t.get FRT_CFG_INIT_STATE f = v.toNat % 2 ^ 6 ∧ t.get FRT_CFG_QJOIN f = v.toNat / 2 ^ 6 % 4 ∧
      t.get FRT_CFG_SHIFT_LEN f = v.toNat / 2 ^ 9 % 2 ^ 5 ∧ t.get FRT_CFG_SAFE f = v.toNat / 2 ^ 24 % 2 ^ 8 ∧
      t.get FRT_QSTAT_TX_CNT f = 0 ∧ t.get FRT_QSTAT_RX_CNT f = 0 ∧ QuietE s t)) ∧
  (∀ (q : Requester) (n : Fin 192) (a : Word) (v : BitVec 64) (s : State), a.toNat = 0x4090_0100 + 4 * n →
    s.permit q .registers a.toNat true = .yes → s.get FRT_STAT_RUN (s.get FRT_PIN_FRET n) = 0 →
    s.get FRT_STAT_RUN (v.toNat / 4 % 2 ^ 6) = 0 →
    exec (.frtProgramWrite q a v) s = .next ((((((s.put FRT_PIN_MODE n (v.toNat % 4)).put FRT_PIN_FRET n (v.toNat / 4 % 2 ^ 6)).put
      FRT_PIN_SLOT n (v.toNat / 2 ^ 8 % 8)).put FRT_PIN_OE_SLOT n (v.toNat / 2 ^ 11 % 8)).put FRT_PIN_DRIVE n
      (v.toNat / 2 ^ 14 % 4)).put FRT_PIN_PULL n (v.toNat / 2 ^ 16 % 4))) ∧
  (∀ (q : Requester) (f : Fin 64) (o : Nat) (a : Word) (v : BitVec 64) (s : State), o ∈ [8, 0xC, 0x10, 0x18, 0x8FC, 0x1FFC] →
    a.toNat = frtAddr o f → s.permit q .registers a.toNat true = .yes → s.get FRT_STAT_RUN f = 1 → s.get FRT_STAT_WR_IGN f = 0 →
    exec (.frtProgramWrite q a v) s = .next (((s.put FRT_CNT_WR_IGN_CNT f (min (s.get FRT_CNT_WR_IGN_CNT f + 1) (2 ^ 16 - 1))).put
      FRT_STAT_WR_IGN f 1).raise (2182 + 8 * f))) ∧
  (∀ (q : Requester) (at' : Word) (s : State), s.permit q .registers 0x4090_0008 true = .yes → s.get LIM_STAT_RUNNING 0 = 1 →
    s.get LIM_CYC_NUM_NUM 0 < 2 ^ 32 → 1 ≤ (at'.toNat + 2 ^ 32 - s.get LIM_CYC_NUM_NUM 0) % 2 ^ 32 →
    (at'.toNat + 2 ^ 32 - s.get LIM_CYC_NUM_NUM 0) % 2 ^ 32 < 2 ^ 31 →
    exec (.frtGstartArm q at') s = .next (((s.put FRT_GSTART_AT 0 at'.toNat).put FGS_ARMED 0 1).put FGS_MASK 0 (s.get FRT_GMASK_MASK 0))) ∧
  (∀ (q : Requester) (at' : Word) (s : State), s.permit q .registers 0x4090_0008 true = .yes →
    (s.get LIM_STAT_RUNNING 0 = 0 ∨ (at'.toNat + 2 ^ 32 - s.get LIM_CYC_NUM_NUM 0) % 2 ^ 32 = 0) →
    Gives (.frtGstartArm q at') s (fun t => (∀ f : Fin 64, t.get FRT_STAT_RUN f =
      (if (s.get FRT_GMASK_MASK 0).testBit f = true ∧ s.get FRT_STAT_RUN f = 0 then 1 else s.get FRT_STAT_RUN f)) ∧ Quiet s t ∧
      t.get FGS_ARMED 0 = 0)) ∧
  (∀ (q : Requester) (f : Fin 64) (ns : Word) (frac : Byte) (dom : Fin 16) (s : State), s.permit q .registers (frtAddr 0x20 f) true = .yes →
    exec (.frtTcmpArm q f ns frac dom) s = .next (((((s.put FRT_TCMP_NS f ns.toNat).put FRT_TCMP_FRAC f frac.toNat).put FRT_TCMP_DOM f dom).put
      FRT_TCMP_ARM f 1).put FRT_STAT_TM f 0)) ∧
  (∀ (f : Fin 64) (d : Nat) (s : State), fretsOn s = true → s.get FRT_TCMP_ARM f = 1 → d = s.get FRT_TCMP_DOM f → s.get TMB_CTR d < 2 ^ 72 →
    s.get FRT_TCMP_NS f < 2 ^ 32 → s.get FRT_TCMP_FRAC f < 2 ^ 8 →
    exec (.fretTimeMatch f) s = .next (if (s.get TMB_CTR d / 2 ^ 32 + 2 ^ 40 - (s.get FRT_TCMP_NS f * 256 + s.get FRT_TCMP_FRAC f)) % 2 ^ 40
        < 2 ^ 39 then ((s.put FRT_TCMP_ARM f 0).put FRT_STAT_TM f 1).raise (2183 + 8 * f) else s))

/-- Message bus channels: modes, refusals, integration, sleep and wake, and fault confinement (R239, R242, R245, R247, R256, R257, R237, R238). -/
def Obligations.AmbModes : Prop :=
  (∀ (q : Requester) (c : Fin 16) (s : State), s.permit q .registers (ambAddr 0 c) true = .yes → (c.val < 12 ∨ ∀ n : Fin 32, q ≠ .course n) →
    s.get AMB_CH_STAT_STATE c ≠ 0 → s.get AMB_CUR c = 0 →
    exec (.ambModeRequest q c 0) s = .next (((s.put AMB_CH_CTRL_MODE c 0).put AMB_WANT c 0).put AMB_CH_STAT_STATE c 1)) ∧
  (∀ (n : Fin 32) (c : Fin 16) (m : Fin 8) (s : State), 12 ≤ c.val →
    exec (.ambModeRequest (.course n) c m) s = .next (s.refuse (.course n) (ambAddr 0 c))) ∧
  (∀ (q : Requester) (c : Fin 16) (m : Fin 8) (s : State), s.permit q .registers (ambAddr 0 c) true = .yes →
    (c.val < 12 ∨ ∀ n : Fin 32, q ≠ .course n) → s.get AMB_CH_STAT_STATE c = 1 → s.get AMB_CUR c = 0 → m = 1 ∨ m = 2 ∨ m = 4 →
    ((s.get AMB_NBT_NTSEG1_M1 c + s.get AMB_NBT_NTSEG2_M1 c + 3) * (s.get AMB_NBT_NBRP_M1 c + 1) * 125 < 10000 ∨
      s.get AMB_NBT_NTSEG1_M1 c + s.get AMB_NBT_NTSEG2_M1 c + 3 < 8 ∨ s.get AMB_NBT_NTSEG2_M1 c < s.get AMB_NBT_NSJW_M1 c ∨
      (s.get AMB_CH_CFG_TRIPLE c = 1 ∧ c.val < 12) ∨ (s.get AMB_REF_CFG_ROLE c ≠ 0 ∧ s.get AMB_REF_PERIOD_PERIOD c < 800) ∨
      s.areaReserved (64 * s.get AMB_TXB_CFG_BASE c) 3072 = false) →
    exec (.ambModeRequest q c m) s = .next ((((s.put AMB_CH_CTRL_MODE c m).put AMB_WANT c 0).put AMB_CH_STAT_CFG_ERR c 1).raise
      (2703 + 16 * c))) ∧
  (∀ (q : Requester) (c : Fin 16) (m : Fin 8) (s : State), s.permit q .registers (ambAddr 0 c) true = .yes →
    (c.val < 12 ∨ ∀ n : Fin 32, q ≠ .course n) → s.get AMB_CH_STAT_STATE c = 1 → s.get AMB_CUR c = 0 → m = 1 ∨ m = 2 ∨ m = 4 →
    ambCfgBad s c = false → s.get AMB_CH_STAT_FAULT c ≠ 2 →
    Gives (.ambModeRequest q c m) s (fun t => t.get AMB_CH_STAT_STATE c = (if m = 4 then 6 else 2) ∧
      t.get AMB_WANT c = (if m = 4 then 0 else m + 1) ∧ t.get AMB_CH_CTRL_MODE c = m ∧ Quiet s t ∧
      CellsBut s t [(AMB_CH_STAT_STATE, c), (AMB_WANT, c), (AMB_CH_CTRL_MODE, c), (REF_NEXT, c), (REF_COUNT, c), (REF_DUE, c),
        (REF_SEEN, c), (REF_LAST, c), (REF_SAID, c)] [])) ∧
  (∀ (q : Requester) (c : Fin 16) (m : Fin 8) (s : State), s.permit q .registers (ambAddr 0 c) true = .yes →
    (c.val < 12 ∨ ∀ n : Fin 32, q ≠ .course n) → s.get AMB_CH_STAT_STATE c ≠ 0 → (m = 3 ∨ (s.get AMB_CUR c ≠ 0 ∧ m.val < 5)) →
    exec (.ambModeRequest q c m) s = .next ((s.put AMB_CH_CTRL_MODE c m).put AMB_WANT c (m + 1))) ∧
  (∀ (c : Fin 16) (ws : List Nat) (s : State), s.get AMB_CH_STAT_STATE c = 2 → ws.length = 11 → (∀ w ∈ ws, Taken c w true s) →
    exec (.ambIntegrationDone ⟨c, ws⟩) s = .next ((s.put AMB_CH_STAT_STATE c (if s.get AMB_WANT c = 1 then 1 else
      if s.get AMB_WANT c = 3 then 4 else if s.get AMB_WANT c = 4 then 5 else if s.get AMB_WANT c = 5 then 6 else 3)).put AMB_WANT c 0)) ∧
  (∀ (c : Fin 16) (ws : List Nat) (s : State), (s.get AMB_CH_STAT_STATE c ≠ 2 ∨ ws.length ≠ 11 ∨ (∃ w ∈ ws, Taken c w false s)) →
    exec (.ambIntegrationDone ⟨c, ws⟩) s = .next s) ∧
  (∀ (c : Fin 16) (s : State), s.get AMB_CH_STAT_STATE c ≠ 1 → exec (.ambSleepEntry c) s = .next
    (if s.get AMB_WANT c = 4 ∧ s.get AMB_CUR c = 0 ∧ s.get AMB_CH_STAT_STATE c ≠ 0 then
      (s.put AMB_CH_STAT_STATE c 5).put AMB_WANT c 0 else s)) ∧
  (∀ (c : Fin 16) (s : State), s.get AMB_CH_STAT_STATE c = 1 → s.get AMB_WANT c = 4 → s.get AMB_CUR c = 0 →
    Gives (.ambSleepEntry c) s (fun t => t.get AMB_CH_STAT_STATE c = 5 ∧ t.get AMB_WANT c = 0 ∧ Quiet s t ∧
      CellsBut s t [(AMB_CH_STAT_STATE, c), (AMB_WANT, c), (REF_NEXT, c), (REF_COUNT, c), (REF_DUE, c), (REF_SEEN, c), (REF_LAST, c),
        (REF_SAID, c)] [])) ∧
  (∀ (c : Fin 16) (ws : List Nat) (s : State), s.get AMB_CH_STAT_FAULT c = 2 →
    (s.get AMB_CH_CFG_AUTO_RECOVER c = 1 ∨ s.get AMB_RECOVERING c = 1) → ws.length = 128 * 11 → (∀ w ∈ ws, Taken c w true s) →
    exec (.ambRecoveryDone ⟨c, ws⟩) s = .next ((((((s.put AMB_CH_STAT_FAULT c 0).put AMB_TECX c 0).put AMB_ERRC_TEC c 0).put AMB_ERRC_REC c 0).put
      AMB_RECOVERING c 0).raise (2697 + 16 * c))) ∧
  (∀ (c : Fin 16) (ws : List Nat) (s : State), (s.get AMB_CH_STAT_FAULT c ≠ 2 ∨
      (s.get AMB_CH_CFG_AUTO_RECOVER c = 0 ∧ s.get AMB_RECOVERING c = 0) ∨ ws.length < 128 * 11) →
    exec (.ambRecoveryDone ⟨c, ws⟩) s = .next s) ∧
  (∀ (c : Fin 16) (n : BitVec 16) (s : State), s.bit AMB_AO_CFG_EDGE_EN 0 c = true → 10 * max 1 (s.get AMB_AO_CFG_WUP_MIN 0) ≤ n.toNat →
    (s.get AMB_AO_CFG_AUTO_ON 0 = 0 ∨ s.get AMB_ON c = 1) →
    exec (.ambWakeEdge ⟨c, n⟩) s = .next (if s.bit AMB_AO_STAT_WOKE 0 c = true then s
      else (s.putBit AMB_AO_STAT_WOKE 0 c true).raise (2700 + 16 * c))) ∧
  (∀ (c : Fin 16) (n : BitVec 16) (s : State), (s.bit AMB_AO_CFG_EDGE_EN 0 c = false ∨
      n.toNat < 10 * max 1 (s.get AMB_AO_CFG_WUP_MIN 0)) → exec (.ambWakeEdge ⟨c, n⟩) s = .next s) ∧
  (∀ (c : Fin 16) (n : BitVec 16) (s : State), s.bit AMB_AO_CFG_EDGE_EN 0 c = true → 10 * max 1 (s.get AMB_AO_CFG_WUP_MIN 0) ≤ n.toNat →
    s.get AMB_AO_CFG_AUTO_ON 0 = 1 → s.get AMB_ON c = 0 → ambCfgBad s c = false → s.get AMB_CUR c = 0 → s.get AMB_CH_STAT_FAULT c = 0 →
    Gives (.ambWakeEdge ⟨c, n⟩) s (fun t => t.get AMB_ON c = 1 ∧ t.get AMB_CH_STAT_STATE c = 2 ∧ t.get AMB_WANT c = 2 ∧
      t.get AMB_CH_CTRL_MODE c = 1 ∧ t.bit AMB_AO_STAT_WOKE 0 c = true ∧
      (s.bit AMB_AO_STAT_WOKE 0 c = false → t.bit EVT_SEEN_SEEN ((2700 + 16 * c) / 32) ((2700 + 16 * c) % 32) = true))) ∧
  (∀ (c : Fin 16) (lec : Fin 7) (sof : BitVec 40) (dl : Option (BitVec 7)) (s : State), s.get AMB_CUR c = 33 → s.get AMB_CUT c = 0 →
    isAfter sof.toNat (s.get REF_SENT_AT c + s.get AMB_REF_CFG_LATE_MAX c * 256000) = false → s.get AMB_CH_STAT_FAULT c < 2 →
    s.get AMB_WANT c = 0 → s.get REF_AT c = s.get REF_SENT_AT c → s.get AMB_TECX c + 8 < 256 → s.get AMB_ERRC_REC c < 128 →
    Gives (.ambAttemptEnd c (.error lec true) sof dl) s (fun t => t.get AMB_ERRC_TEC c = s.get AMB_TECX c + 8 ∧
      t.get AMB_ERRC_LEC c = lec ∧ t.get AMB_CUR c = 0 ∧ t.get AMB_CNT0_ERR_FRAMES c = min (s.get AMB_CNT0_ERR_FRAMES c + 1) (2 ^ 16 - 1) ∧
      t.get AMB_CH_STAT_FAULT c = (if 128 ≤ s.get AMB_TECX c + 8 then 1 else 0) ∧
      (s.get AMB_CH_STAT_FAULT c = 0 → 128 ≤ s.get AMB_TECX c + 8 →
        t.bit EVT_SEEN_SEEN ((2695 + 16 * c) / 32) ((2695 + 16 * c) % 32) = true) ∧
      t.out = s.out ++ (if s.get AMB_CH_STAT_STATE c = 6 then [] else [.ambFlag c (decide (s.get AMB_CH_STAT_FAULT c ≠ 0))]) ∧
      { t with cells := s.cells, events := s.events, out := s.out, ambTries := s.ambTries } = s)) ∧
  (∀ (c : Fin 16) (lec : Fin 7) (sof : BitVec 40) (dl : Option (BitVec 7)) (s : State), s.get AMB_CUR c = 33 → s.get AMB_CUT c = 0 →
    isAfter sof.toNat (s.get REF_SENT_AT c + s.get AMB_REF_CFG_LATE_MAX c * 256000) = false → s.get AMB_CH_STAT_FAULT c = 1 →
    s.get AMB_WANT c = 0 → s.get REF_AT c = s.get REF_SENT_AT c → 248 ≤ s.get AMB_TECX c → s.get AMB_TECX c < 256 →
    s.get AMB_CH_CFG_ABORT_BUSOFF c = 0 →
    Gives (.ambAttemptEnd c (.error lec true) sof dl) s (fun t => t.get AMB_CH_STAT_FAULT c = 2 ∧ t.get AMB_ERRC_TEC c = 255 ∧
      t.bit EVT_SEEN_SEEN ((2696 + 16 * c) / 32) ((2696 + 16 * c) % 32) = true ∧
      t.get AMB_RECOVERING c = 0 ∧ t.get AMB_TX_PEND_PEND c = s.get AMB_TX_PEND_PEND c ∧
      { t with cells := s.cells, events := s.events, out := s.out, ambTries := s.ambTries } = s)) ∧
  (∀ (c : Fin 16) (lec : Fin 7) (big : Bool) (sof : BitVec 40) (s : State), s.get AMB_CH_STAT_STATE c = 4 → s.get AMB_CH_STAT_FAULT c ≠ 2 →
    exec (.ambFrameReceive c (.error lec big) sof) s = .next (s.put AMB_ERRC_LEC c lec))

/-- Message bus transmit buffers: request, cancel, timed buffers, the choice of a frame, and the end of an attempt (R248, R249, R250, R251, R252, R236, R240, R258). -/
def Obligations.AmbTransmit : Prop :=
  (∀ (q : Requester) (c : Fin 16) (mask : Word) (s : State), s.permit q .registers (ambAddr 0x24 c) true = .yes →
    s.get AMB_TX_PEND_PEND c < 2 ^ 32 → (s.get AMB_CH_STAT_FAULT c ≠ 2 ∨ s.get AMB_CH_CFG_ABORT_BUSOFF c = 0) → (∀ b : Fin 32, mask.getLsbD b = true → txBufWord s c b 1 / 2 ^ 13 % 2 = 0) →
    Gives (.ambTxReq q c mask) s (fun t => t.get AMB_TX_PEND_PEND c = s.get AMB_TX_PEND_PEND c ||| mask.toNat ∧ Quiet s t ∧
      CellsBut s t [(AMB_TX_PEND_PEND, c), (AMB_TX_REQ_REQ, c), (AMB_ELIG, c)] [AMB_FAILS, AMB_STARTS, AMB_SOF])) ∧
  (∀ (q : Requester) (c : Fin 16) (b : Fin 32) (mask : Word) (s : State), s.permit q .registers (ambAddr 0x24 c) true = .yes →
    mask.toNat = 2 ^ b.val → s.bit AMB_TX_PEND_PEND c b = false → s.get AMB_ON c = 1 → txBufWord s c b 1 / 2 ^ 13 % 2 = 1 →
    s.reached (s.get AMB_CH_CFG_DOM c) ((txBufWord s c b 2 * 256 + txBufWord s c b 3 % 2 ^ 8 +
      txBufWord s c b 3 / 2 ^ 8 % 2 ^ 16 * 25600 + 1) % 2 ^ 40) = true → SbPlain s (txBuf s c b + 16) 12 →
    Gives (.ambTxReq q c mask) s (AmbDone c b 6 0 0 s)) ∧
  (∀ (q : Requester) (c : Fin 16) (b : Fin 32) (mask : Word) (s : State), s.permit q .registers (ambAddr 0x28 c) true = .yes →
    mask.toNat = 2 ^ b.val → s.bit AMB_TX_PEND_PEND c b = true → s.get AMB_CUR c ≠ b + 1 → SbPlain s (txBuf s c b + 16) 12 →
    Gives (.ambTxCancel q c mask) s (AmbDone c b 3 (s.get AMB_STARTS (32 * c + b)) (s.get AMB_SOF (32 * c + b)) s)) ∧
  (∀ (q : Requester) (c : Fin 16) (b : Fin 32) (mask : Word) (s : State), s.permit q .registers (ambAddr 0x28 c) true = .yes →
    mask.toNat = 2 ^ b.val → s.bit AMB_TX_PEND_PEND c b = true → s.get AMB_CUR c = b + 1 →
    exec (.ambTxCancel q c mask) s = .next (s.putBit AMB_TX_CANCEL_CANCEL c b true)) ∧
  (∀ (q : Requester) (c : Fin 16) (mask : Word) (s : State), s.permit q .registers (ambAddr 0x28 c) true = .yes →
    (∀ b : Fin 32, mask.getLsbD b = true → s.bit AMB_TX_PEND_PEND c b = false) → exec (.ambTxCancel q c mask) s = .next s) ∧
  (∀ (c : Fin 16) (b : Fin 32) (s : State), s.get AMB_ON c = 1 → s.bit AMB_TX_PEND_PEND c b = true → txBufWord s c b 1 / 2 ^ 13 % 2 = 1 →
    exec (.ambTimedEligible c b) s = .next (if s.reached (s.get AMB_CH_CFG_DOM c) ((txBufWord s c b 2 * 256 +
      txBufWord s c b 3 % 2 ^ 8) % 2 ^ 40) = true then s.putBit AMB_ELIG c b true else s)) ∧
  (∀ (c : Fin 16) (b : Fin 32) (s : State), (s.bit AMB_TX_PEND_PEND c b = false ∨ txBufWord s c b 1 / 2 ^ 13 % 2 = 0 ∨ s.get AMB_ON c = 0) →
    exec (.ambTimedEligible c b) s = .next s ∧ exec (.ambTimedDeadline c b) s = .next s) ∧
  (∀ (c : Fin 16) (b : Fin 32) (s : State), s.get AMB_ON c = 1 → s.bit AMB_TX_PEND_PEND c b = true → txBufWord s c b 1 / 2 ^ 13 % 2 = 1 →
    s.get AMB_CUR c ≠ b + 1 → SbPlain s (txBuf s c b + 16) 12 → s.reached (s.get AMB_CH_CFG_DOM c) ((txBufWord s c b 2 * 256 +
      txBufWord s c b 3 % 2 ^ 8 + txBufWord s c b 3 / 2 ^ 8 % 2 ^ 16 * 25600 + 1) % 2 ^ 40) = true →
    Gives (.ambTimedDeadline c b) s (AmbDone c b 6 (s.get AMB_STARTS (32 * c + b)) (s.get AMB_SOF (32 * c + b)) s)) ∧
  (∀ (c : Fin 16) (s : State), (s.get AMB_CUR c ≠ 0 ∨ (s.get AMB_CH_STAT_STATE c ≠ 3 ∧ s.get AMB_CH_STAT_STATE c ≠ 6) ∨
    s.get AMB_CH_STAT_FAULT c = 2 ∨ owning s = false) → exec (.ambFrameChoice c) s = .next s) ∧
  (∀ (c : Fin 16) (s : State), ambMayStart s c = true → s.get REF_DUE c = 1 →
    s.reached (s.get AMB_CH_CFG_DOM c) ((s.get REF_AT c + s.get AMB_REF_CFG_LATE_MAX c * 256000 + 1) % 2 ^ 40) = false →
    exec (.ambFrameChoice c) s = .next (((s.put AMB_CUR c 33).put REF_SENT_AT c (s.get REF_AT c)).put REF_SENT_CYC c (s.get REF_CYC c))) ∧
  (∀ (c : Fin 16) (b d : Fin 32) (s : State), ambMayStart s c = true → s.get REF_DUE c = 0 → b ≠ d →
    s.get AMB_TX_PEND_PEND c = 2 ^ b.val + 2 ^ d.val → s.bit AMB_ELIG c b = true → txBufWord s c b 1 / 2 ^ 13 % 2 = 1 →
    txBufWord s c d 1 / 2 ^ 13 % 2 = 0 → pastDeadline s c b = false → badFormat s c b = false →
    exec (.ambFrameChoice c) s = .next { s.put AMB_CUR c (b + 1) with
      ambTries := s.ambTries.filter (fun e => e.chan ≠ c.val) ++ [readEntry s c b] }) ∧
  (∀ (c : Fin 16) (b d : Fin 32) (s : State), ambMayStart s c = true → s.get REF_DUE c = 0 → b ≠ d →
    s.get AMB_TX_PEND_PEND c = 2 ^ b.val + 2 ^ d.val → txBufWord s c b 1 % 2 ^ 14 = 8 → txBufWord s c d 1 % 2 ^ 14 = 8 →
    txBufWord s c b 0 / 2 ^ 29 = 0 → txBufWord s c d 0 / 2 ^ 29 = 0 → txBufWord s c b 0 % 2 ^ 11 < txBufWord s c d 0 % 2 ^ 11 →
    exec (.ambFrameChoice c) s = .next { s.put AMB_CUR c (b + 1) with
      ambTries := s.ambTries.filter (fun e => e.chan ≠ c.val) ++ [readEntry s c b] }) ∧
  (∀ (c : Fin 16) (b : Fin 32) (s : State), ambMayStart s c = true → s.get REF_DUE c = 0 → s.get AMB_TX_PEND_PEND c = 2 ^ b.val →
    txBufWord s c b 1 / 2 ^ 13 % 2 = 0 → txBufWord s c b 1 / 2 ^ 4 % 2 = 1 → s.get AMB_CH_CFG_FD_EN c = 0 →
    SbPlain s (txBuf s c b + 16) 12 →
    Gives (.ambFrameChoice c) s (AmbDone c b 5 (s.get AMB_STARTS (32 * c + b)) (s.get AMB_SOF (32 * c + b)) s)) ∧
  (∀ (c : Fin 16) (b : Fin 32) (sof : BitVec 40) (dl : Option (BitVec 7)) (e : AmbTry) (s : State), s.get AMB_CUR c = b + 1 →
    s.get AMB_WANT c = 0 → s.get AMB_CUT c = 0 → s.ambTries = [e] → e.chan = c →
    (e.timed = false ∨ isAfter sof.toNat e.deadline = false) → SbPlain s (txBuf s c b + 16) 12 → s.get AMB_CH_STAT_STATE c = 3 → s.get AMB_CH_CFG_SELF_RX c = 0 → s.get AMB_REF_CFG_ROLE c = 0 →
    s.get AMB_TECX c ≤ 127 → s.get AMB_ERRC_REC c ≤ 127 → s.get AMB_CH_STAT_FAULT c = 0 →
    Gives (.ambAttemptEnd c .ok sof dl) s (fun t => AmbDone c b 0 (min (s.get AMB_STARTS (32 * c + b) + 1) 31) sof.toNat s t ∧
      t.get AMB_CUR c = 0 ∧ t.get AMB_CNT0_TX_OK c = min (s.get AMB_CNT0_TX_OK c + 1) (2 ^ 32 - 1) ∧
      t.out = s.out ++ [.amb c e.frame] ∧ t.ambTries = [] ∧ t.get AMB_ERRC_TEC c = s.get AMB_TECX c - 1 ∧
      (e.irq = true → t.bit EVT_SEEN_SEEN ((2688 + 16 * c) / 32) ((2688 + 16 * c) % 32) = true))) ∧
  (∀ (c : Fin 16) (b : Fin 32) (sof : BitVec 40) (dl : Option (BitVec 7)) (e : AmbTry) (s : State), s.get AMB_CUR c = b + 1 →
    s.get AMB_WANT c = 0 → s.get AMB_CUT c = 0 → s.ambTries = [e] → e.chan = c → e.timed = false →
    s.bit AMB_TX_PEND_PEND c b = true → s.bit AMB_TX_CANCEL_CANCEL c b = false →
    s.get AMB_CH_CFG_TDC_EN c = 0 → (16 ≤ e.lim ∨ s.get AMB_FAILS (32 * c + b) < e.lim) →
    Gives (.ambAttemptEnd c .arb sof dl) s (fun t => t.bit AMB_TX_PEND_PEND c b = true ∧ t.get AMB_CUR c = 0 ∧
      t.get AMB_CNT0_ARB_LOST c = min (s.get AMB_CNT0_ARB_LOST c + 1) (2 ^ 16 - 1) ∧
      t.get AMB_FAILS (32 * c + b) = min 255 (s.get AMB_FAILS (32 * c + b) + 1) ∧ t.get AMB_SOF (32 * c + b) = sof.toNat ∧
      { t with cells := s.cells, ambTries := s.ambTries } = s ∧ t.ambTries = [] ∧
      CellsBut s t [(AMB_CUR, c), (AMB_CNT0_ARB_LOST, c), (AMB_FAILS, 32 * c + b), (AMB_STARTS, 32 * c + b), (AMB_SOF, 32 * c + b)] [])) ∧
  (∀ (c : Fin 16) (b : Fin 32) (sof : BitVec 40) (dl : Option (BitVec 7)) (e : AmbTry) (s : State), s.get AMB_CUR c = b + 1 →
    s.get AMB_WANT c = 0 → s.get AMB_CUT c = 0 → s.ambTries = [e] → e.chan = c →
    (e.timed = false ∨ isAfter sof.toNat e.deadline = false) →
    s.bit AMB_TX_PEND_PEND c b = true → SbPlain s (txBuf s c b + 16) 12 → (s.bit AMB_TX_CANCEL_CANCEL c b = true ∨
      e.lim ≤ min 15 (s.get AMB_FAILS (32 * c + b))) →
    Gives (.ambAttemptEnd c .arb sof dl) s (AmbDone c b (if s.bit AMB_TX_CANCEL_CANCEL c b = true then 3 else 1)
      (min (s.get AMB_STARTS (32 * c + b) + 1) 31) sof.toNat s)) ∧
  (∀ (c : Fin 16) (b : Fin 32) (lec : Fin 7) (sof : BitVec 40) (dl : Option (BitVec 7)) (e : AmbTry) (s : State),
    s.get AMB_CUR c = b + 1 → s.get AMB_WANT c = 0 → s.get AMB_CUT c = 0 → s.ambTries = [e] → e.chan = c →
    (e.timed = false ∨ isAfter sof.toNat e.deadline = false) →
    s.bit AMB_TX_PEND_PEND c b = true → SbPlain s (txBuf s c b + 16) 12 →
    s.bit AMB_TX_CANCEL_CANCEL c b = false → e.lim ≤ min 15 (s.get AMB_FAILS (32 * c + b)) →
    Gives (.ambAttemptEnd c (.error lec false) sof dl) s (fun t => AmbDone c b 2 (min (s.get AMB_STARTS (32 * c + b) + 1) 31) sof.toNat s t ∧
      t.get AMB_ERRC_LEC c = lec)) ∧
  (∀ (c : Fin 16) (b : Fin 32) (r : AmbEnd) (sof : BitVec 40) (dl : Option (BitVec 7)) (e : AmbTry) (s : State),
    s.get AMB_CUR c = b + 1 → s.get AMB_WANT c = 0 → s.ambTries = [e] → e.chan = c → e.timed = true →
    isAfter sof.toNat e.deadline = true → s.bit AMB_TX_PEND_PEND c b = true → s.bit AMB_TX_CANCEL_CANCEL c b = false →
    SbPlain s (txBuf s c b + 16) 12 →
    Gives (.ambAttemptEnd c r sof dl) s (fun t =>
      AmbDone c b 6 (s.get AMB_STARTS (32 * c + b)) (s.get AMB_SOF (32 * c + b)) s t ∧ t.out = s.out ∧ t.get AMB_CUR c = 0)) ∧
  (∀ (c : Fin 16) (b : Fin 32) (r : AmbEnd) (sof : BitVec 40) (dl : Option (BitVec 7)) (e : AmbTry) (s : State),
    s.get AMB_CUR c = b + 1 → s.get AMB_WANT c = 0 → s.get AMB_CUT c = 1 → s.ambTries = [e] → e.chan = c → e.timed = false →
    s.bit AMB_TX_PEND_PEND c b = true → s.bit AMB_TX_CANCEL_CANCEL c b = false →
    Gives (.ambAttemptEnd c r sof dl) s (fun t => t.bit AMB_TX_PEND_PEND c b = true ∧ t.get AMB_CUR c = 0 ∧ t.get AMB_CUT c = 0 ∧
      t.out = s.out ∧ t.ambTries = [] ∧
      CellsBut s t [(AMB_CUR, c), (AMB_CUT, c), (AMB_STARTS, 32 * c + b), (AMB_SOF, 32 * c + b)] [])) ∧
  (∀ (c : Fin 16) (r : AmbEnd) (sof : BitVec 40) (dl : Option (BitVec 7)) (s : State), s.get AMB_CUR c = 0 →
    exec (.ambAttemptEnd c r sof dl) s = .next s) ∧
  (∀ (c : Fin 16) (ws : List (Nat × Bool)) (arb : Nat) (lec : Fin 7) (counted : Bool) (sof : BitVec 40) (dl : Option (BitVec 7)) (s : State),
    (∀ w ∈ ws, if w.2 = true then Taken c w.1 true s else sampledAt c 0 w.1 s = false) →
    exec (.ambAttemptEnd c (.nominal ws arb lec counted) sof dl) s = exec (.ambAttemptEnd c .ok sof dl) s) ∧
  (∀ (c : Fin 16) (us vs : List (Nat × Bool)) (x : Nat × Bool) (arb : Nat) (lec : Fin 7) (counted : Bool) (sof : BitVec 40)
      (dl : Option (BitVec 7)) (s : State), (∀ w ∈ us, if w.2 = true then Taken c w.1 true s else sampledAt c 0 w.1 s = false) →
    (if x.2 = true then Taken c x.1 false s else sampledAt c 0 x.1 s = true) →
    exec (.ambAttemptEnd c (.nominal (us ++ x :: vs) arb lec counted) sof dl) s =
      exec (.ambAttemptEnd c (if us.length < arb ∧ x.2 = true then .arb else .error lec counted) sof dl) s) ∧
  (∀ (c : Fin 16) (b : Fin 32) (sof : BitVec 40) (dl : Option (BitVec 7)) (e : AmbTry) (s : State), s.get AMB_CUR c = b + 1 →
    s.get AMB_WANT c = 1 → s.get AMB_CUT c = 0 → s.ambTries = [e] → e.chan = c → e.timed = false → s.bit AMB_TX_PEND_PEND c b = true →
    s.bit AMB_TX_CANCEL_CANCEL c b = false → Gives (.ambAttemptEnd c .arb sof dl) s (fun t => t.bit AMB_TX_PEND_PEND c b = true ∧
      t.get AMB_CUR c = 0 ∧ t.get AMB_CH_STAT_STATE c = 1 ∧ t.mem = s.mem))

/-- Message bus reception, receive queues, sleep filtering, and reference messages (R244, R246, R247, R253, R254, R255, R256, R258, R259, R243). -/
def Obligations.AmbReceiveAndReference : Prop :=
  (∀ (c : Fin 16) (f : AmbFrame) (sof : BitVec 40) (j k n at' : Nat) (s : State), s.get AMB_CH_STAT_STATE c = 3 → s.get AMB_CH_STAT_FAULT c = 0 →
    owning s = true → f.fdf = false → f.brs = false → f.ide = false → s.get AMB_REF_CFG_ROLE c = 0 → j < 32 →
    (∀ i : Nat, i < j → s.get AMB_FLT_VALID (32 * c + i) = 0) → s.get AMB_FLT_VALID (32 * c + j) = 1 → s.get AMB_FLT_IDE (32 * c + j) = 0 →
    s.get AMB_FLT_MASK (32 * c + j) = 0x7FF → s.get AMB_FLT_ID (32 * c + j) = f.id.toNat % 2 ^ 11 →
    s.get AMB_FLT_REJECT (32 * c + j) = 0 → k = s.get AMB_FLT_QUEUE (32 * c + j) → k < 4 → s.get AMB_RXQ_CFG_EN (4 * c + k) = 1 →
    n = s.get AMB_RXQ_PTR_COUNT (4 * c + k) → n < 2 ^ min 10 (max 4 (s.get AMB_RXQ_CFG_LOG2 (4 * c + k))) →
    at' = 64 * s.get AMB_RXQ_CFG_BASE (4 * c + k) + 96 * ((s.get AMB_RXQ_PTR_HEAD (4 * c + k) + n) %
      2 ^ min 10 (max 4 (s.get AMB_RXQ_CFG_LOG2 (4 * c + k)))) → SbPlain s at' 96 → s.get AMB_ERRC_REC c ≤ 127 → s.get AMB_TECX c ≤ 127 →
    f.data.length = (if f.rtr then 0 else min 8 f.dlc.toNat) →
    Gives (.ambFrameReceive c (.frame f) sof) s (fun t => t.get AMB_RXQ_PTR_COUNT (4 * c + k) = n + 1 ∧
      t.get AMB_CNT1_RX_OK c = min (s.get AMB_CNT1_RX_OK c + 1) (2 ^ 32 - 1) ∧
      t.mem = (s.putBytes (sbBase + at') (toBytes 4 (f.id.toNat + (if f.rtr then 2 ^ 30 else 0)) ++
        toBytes 4 (f.dlc.toNat + (if f.esi then 2 ^ 6 else 0) + j * 2 ^ 7) ++ toBytes 4 (sof.toNat / 2 ^ 8) ++ toBytes 4 (sof.toNat % 2 ^ 8) ++
        List.replicate 16 0 ++ f.data ++ List.replicate (64 - f.data.length) 0)).mem ∧
      t.bit EVT_SEEN_SEEN ((2690 + k + 16 * c) / 32) ((2690 + k + 16 * c) % 32) = true ∧ t.out = s.out ++ [.ambAck c])) ∧
  (∀ (c : Fin 16) (f : AmbFrame) (sof : BitVec 40) (k : Nat) (s : State), s.get AMB_CH_STAT_STATE c = 4 → s.get AMB_CH_STAT_FAULT c ≠ 2 →
    f.fdf = false → f.brs = false → s.get AMB_REF_CFG_ROLE c = 0 → (∀ i : Nat, i < 32 → s.get AMB_FLT_VALID (32 * c + i) = 0) →
    s.get AMB_CH_CFG_NOMATCH_EN c = 1 → k = s.get AMB_CH_CFG_NOMATCH_Q c →
    (s.get AMB_RXQ_CFG_EN (4 * c + k) = 0 ∨ 1024 ≤ s.get AMB_RXQ_PTR_COUNT (4 * c + k)) → s.get AMB_RXQ_PTR_OVR (4 * c + k) = 0 →
    exec (.ambFrameReceive c (.frame f) sof) s = .next ((((s.put AMB_CNT1_RX_OK c (min (s.get AMB_CNT1_RX_OK c + 1) (2 ^ 32 - 1))).put
      AMB_CNT1_RX_OVR c (min (s.get AMB_CNT1_RX_OVR c + 1) (2 ^ 16 - 1))).put AMB_RXQ_PTR_OVR (4 * c + k) 1).raise (2694 + 16 * c))) ∧
  (∀ (c : Fin 16) (f : AmbFrame) (sof : BitVec 40) (s : State), s.get AMB_CH_STAT_STATE c = 3 → s.get AMB_CH_STAT_FAULT c ≠ 2 →
    f.fdf = true → s.get AMB_CH_CFG_FD_EN c = 0 → s.get AMB_CH_CFG_PXHD c = 0 →
    exec (.ambFrameReceive c (.frame f) sof) s = .next ((((s.put AMB_CNT1_PROTO_EXC c (min (s.get AMB_CNT1_PROTO_EXC c + 1) (2 ^ 8 - 1))).put
      AMB_CH_STAT_STATE c 2).put AMB_WANT c (if s.get AMB_WANT c = 0 then 2 else s.get AMB_WANT c)).raise (2698 + 16 * c))) ∧
  (∀ (c : Fin 16) (f : AmbFrame) (sof : BitVec 40) (s : State), s.get AMB_CH_STAT_STATE c = 5 → s.get AMB_CH_STAT_FAULT c = 0 →
    f.fdf = false → f.brs = false → s.get AMB_REF_CFG_ROLE c = 0 → owning s = true → s.get AMB_ERRC_REC c ≤ 127 → s.get AMB_TECX c ≤ 127 →
    s.get AMB_WAKE_DMASK_DATA c = 0 → (s.get AMB_WAKE_ID_IDE c = 1 ↔ f.ide = true) → s.get AMB_WAKE_ID_IDE c < 2 →
    s.get AMB_WAKE_ID_MASK c = 0x1FFFFFFF → s.get AMB_WAKE_ID_ID c < 2 ^ 29 → (∀ i : Nat, i < 32 → s.get AMB_FLT_VALID (32 * c + i) = 0) →
    s.get AMB_CH_CFG_NOMATCH_EN c = 0 →
    Gives (.ambFrameReceive c (.frame f) sof) s (fun t => t.get AMB_CH_STAT_STATE c = (if s.get AMB_WAKE_ID_ID c = f.id.toNat then 3 else 5) ∧
      (s.get AMB_WAKE_ID_ID c = f.id.toNat → t.get AMB_CH_STAT_WOKE c = 1 ∧
        t.bit EVT_SEEN_SEEN ((2699 + 16 * c) / 32) ((2699 + 16 * c) % 32) = true) ∧ t.out = s.out ++ [.ambAck c] ∧ QuietO s t)) ∧
  (∀ (c : Fin 16) (ws : List (Nat × Bool)) (f : AmbFrame) (lec : Fin 7) (big : Bool) (sof : BitVec 40) (s : State),
    exec (.ambFrameReceive c (.bits ws f lec big) sof) s = exec (.ambFrameReceive c
      (if ∀ w ∈ ws, nominalBit s c w.1 = w.2 then .frame f else .error lec big) sof) s) ∧
  (∀ (c : Fin 16) (r : AmbRx) (sof : BitVec 40) (s : State), (s.get AMB_CH_STAT_FAULT c = 2 ∨
      s.get AMB_CH_STAT_STATE c ∈ [0, 1, 2] ∨ (s.get AMB_CH_STAT_STATE c = 6 ∧ owning s = true)) →
    exec (.ambFrameReceive c r sof) s = .next s) ∧
  (∀ (q : Requester) (c : Fin 16) (k : Fin 4) (n : BitVec 11) (s : State), s.permit q .registers (ambAddr (0x64 + 8 * k) c) true = .yes →
    exec (.ambRxqAck q c k n) s = .next (if n.toNat = 0 ∨ s.get AMB_RXQ_PTR_COUNT (4 * c + k) < n.toNat then
      s.put AMB_RXQ_PTR_ACK_ERR (4 * c + k) 1 else
      (s.put AMB_RXQ_PTR_HEAD (4 * c + k) ((s.get AMB_RXQ_PTR_HEAD (4 * c + k) + n.toNat) %
        2 ^ min 10 (max 4 (s.get AMB_RXQ_CFG_LOG2 (4 * c + k))))).put AMB_RXQ_PTR_COUNT (4 * c + k)
          (s.get AMB_RXQ_PTR_COUNT (4 * c + k) - n.toNat))) ∧
  (∀ (q : Requester) (c : Fin 16) (k : Fin 4) (v : BitVec 24) (s : State), s.permit q .registers (ambAddr (0x40 + 8 * k) c) true = .yes →
    (c.val < 12 ∨ ∀ n : Fin 32, q ≠ .course n) →
    exec (.ambRxqEnable q c k v) s = .next (if s.get AMB_CH_STAT_STATE c = 1 ∨ s.get AMB_CH_STAT_STATE c = 0 then
      ((((s.put AMB_RXQ_CFG_BASE (4 * c + k) (v.toNat % 2 ^ 20)).put AMB_RXQ_CFG_LOG2 (4 * c + k) (v.toNat / 2 ^ 20 % 2 ^ 4)).put
        AMB_RXQ_CFG_EN (4 * c + k) 1).put AMB_RXQ_PTR_HEAD (4 * c + k) 0).put AMB_RXQ_PTR_COUNT (4 * c + k) 0
      else s.put AMB_CH_STAT_WR_IGN c 1)) ∧
  (∀ (c : Fin 16) (started : Bool) (role : Nat) (s : State), role = s.get AMB_REF_CFG_ROLE c → role = 1 ∨ role = 2 → s.get AMB_CH_STAT_STATE c = 3 →
    s.reached (s.get AMB_CH_CFG_DOM c) (s.get REF_NEXT c) = true → s.get REF_DUE c = 0 → s.get AMB_REF_CFG_CYC_MAX c < 2 ^ 6 →
    Gives (.referenceInstant ⟨c, started⟩) s (fun t =>
      t.get REF_DUE c = (if role = 1 ∨ (s.get REF_SEEN c = 0 ∧ started = false) then 1 else 0) ∧
      (t.get REF_DUE c = 1 → t.get REF_AT c = s.get REF_NEXT c % 2 ^ 40 ∧ t.get REF_CYC c = s.get REF_COUNT c % 2 ^ 6) ∧
      t.get REF_COUNT c = (s.get REF_COUNT c + 1) % (s.get AMB_REF_CFG_CYC_MAX c + 1) ∧
      t.get REF_NEXT c = (s.get REF_NEXT c + s.get AMB_REF_PERIOD_PERIOD c * 320) % 2 ^ 40 ∧ t.get REF_SEEN c = 0 ∧ Quiet s t ∧
      CellsBut s t [(REF_DUE, c), (REF_AT, c), (REF_CYC, c), (REF_COUNT, c), (REF_NEXT, c), (REF_SEEN, c)] [])) ∧
  (∀ (c : Fin 16) (started : Bool) (s : State), (s.get AMB_REF_CFG_ROLE c = 0 ∨ s.get AMB_REF_CFG_ROLE c = 3 ∨ s.get AMB_CH_STAT_STATE c = 1 ∨
      s.reached (s.get AMB_CH_CFG_DOM c) (s.get REF_NEXT c) = false) → exec (.referenceInstant ⟨c, started⟩) s = .next s) ∧
  (∀ (c : Fin 16) (s : State), exec (.referenceDeadline c) s = .next (if s.get REF_DUE c ≠ 0 ∧ s.get AMB_CUR c ≠ 33 ∧
      s.reached (s.get AMB_CH_CFG_DOM c) ((s.get REF_AT c + s.get AMB_REF_CFG_LATE_MAX c * 256000 + 1) % 2 ^ 40) = true then
      ((s.put REF_DUE c 0).put AMB_CNT1_TX_LATE_DROP c (min (s.get AMB_CNT1_TX_LATE_DROP c + 1) (2 ^ 8 - 1))).raise (2702 + 16 * c)
    else s)) ∧
  (∀ (c : Fin 16) (s : State), s.get AMB_CH_STAT_STATE c = 3 →
    exec (.refSlaveTimeout c) s = .next (if s.get AMB_REF_CFG_ROLE c = 3 ∧ s.get REF_SAID c = 0 ∧ s.reached (s.get AMB_CH_CFG_DOM c)
      ((s.get REF_LAST c + s.get AMB_REF_PERIOD_PERIOD c * 640) % 2 ^ 40) = true then (s.put REF_SAID c 1).raise (2702 + 16 * c) else s)) ∧
  (∀ (c : Fin 16) (f : AmbFrame) (sof : BitVec 40) (s : State), s.get AMB_CH_STAT_STATE c = 3 → s.get AMB_CH_STAT_FAULT c = 0 → owning s = true →
    f.fdf = false → f.brs = false → f.ide = false → s.get AMB_REF_CFG_ROLE c = 3 → f.id.toNat / 8 = s.get AMB_REF_CFG_REF_ID c / 8 →
    s.get AMB_ERRC_REC c ≤ 127 → s.get AMB_TECX c ≤ 127 → (∀ i : Nat, i < 32 → s.get AMB_FLT_VALID (32 * c + i) = 0) →
    s.get AMB_CH_CFG_NOMATCH_EN c = 0 →
    Gives (.ambFrameReceive c (.frame f) sof) s (fun t => t.get AMB_REF_TS_NS c = sof.toNat / 2 ^ 8 ∧
      t.get AMB_REF_TS_FRAC c = sof.toNat % 2 ^ 8 ∧ t.get AMB_REF_STAT_CYCLE c = (f.data.headD 0).toNat % 2 ^ 6 ∧
      t.get REF_LAST c = sof.toNat ∧ t.get REF_SAID c = 0 ∧
      t.bit EVT_SEEN_SEEN ((2701 + 16 * c) / 32) ((2701 + 16 * c) % 32) = true ∧ t.out = s.out ++ [.ambAck c] ∧ QuietO s t))

/-- Time-triggered bus protocol control: the eight POC commands, startup, wakeup and wake edges (R263, R264, R265, R266, R267, R262, R280). -/
def Obligations.TtbControl : Prop :=
  (∀ (q : Requester) (k : Fin 4) (s : State), s.permit q .registers (0x40B00040 + 0x4000 * k) true = .yes → s.get DOM_OFF (89 + k) = 0 →
    s.get TTB_POC_STAT_STATE k ∈ [0, 2, 7] → exec (.pocConfig q k) s = .next ((s.put TTB_POC_STAT_STATE k 1).raise (2948 + 32 * k))) ∧
  (∀ (q : Requester) (k : Fin 4) (s : State), s.permit q .registers (0x40B00040 + 0x4000 * k) true = .yes → s.get DOM_OFF (89 + k) = 0 →
    s.get TTB_POC_STAT_STATE k = 1 → TtbUnfit k s → exec (.pocReady q k) s = .next ((s.put TTB_POC_STAT_CFG_ERR k 1).raise (2963 + 32 * k))) ∧
  (∀ (q : Requester) (k : Fin 4) (s : State), s.permit q .registers (0x40B00040 + 0x4000 * k) true = .yes → s.get DOM_OFF (89 + k) = 0 →
    s.get TTB_POC_STAT_STATE k ∈ [1, 3, 4] → (s.get TTB_POC_STAT_STATE k = 1 → ¬ TtbUnfit k s) →
    Gives (.pocReady q k) s (fun t => t.get TTB_POC_STAT_STATE k = 2 ∧
      t.get TTB_POC_STAT_WU_RESULT k = (if s.get TTB_POC_STAT_STATE k = 3 then 7 else s.get TTB_POC_STAT_WU_RESULT k) ∧
      t.bit EVT_SEEN_SEEN (92 + k) 4 = true ∧ QuietE s t ∧
      CellsBut s t [(TTB_POC_STAT_STATE, k), (TTB_POC_STAT_WU_RESULT, k), (TTB_COLD, k)] evtCells)) ∧
  (∀ (q : Requester) (k : Fin 4) (s : State), s.permit q .registers (0x40B00040 + 0x4000 * k) true = .yes → s.get DOM_OFF (89 + k) = 0 →
    s.get TTB_POC_STAT_STATE k = 2 → exec (.pocWakeup q k) s = .next ((s.put TTB_POC_STAT_STATE k 3).raise (2948 + 32 * k)) ∧
    exec (.pocRun q k) s = .next ((((((s.put TTB_LISTEN k (s.get CORE_COUNT 0)).put TTB_ATT k (s.get TTB_CL_T4_COLD_ATT k)).put TTB_LEAD k
      0).put TTB_SINGLE k (s.get TTB_KEY_SINGLE_SLOT k)).put TTB_POC_STAT_STATE k 4).raise (2948 + 32 * k))) ∧
  (∀ (q : Requester) (k : Fin 4) (s : State), s.permit q .registers (0x40B00040 + 0x4000 * k) true = .yes → s.get DOM_OFF (89 + k) = 0 →
    s.get TTB_POC_STAT_STATE k ∈ [2, 4, 5, 6] → exec (.pocAllowColdstart q k) s =
      .next ((if s.get TTB_COLD k = 0 then s.put TTB_LISTEN k (s.get CORE_COUNT 0) else s).put TTB_COLD k 1)) ∧
  (∀ (q : Requester) (k : Fin 4) (s : State), s.permit q .registers (0x40B00040 + 0x4000 * k) true = .yes → s.get DOM_OFF (89 + k) = 0 →
    s.get TTB_POC_STAT_STATE k ∈ [5, 6] → exec (.pocAllSlots q k) s = .next (s.put TTB_SINGLE k 0) ∧
    exec (.pocHalt q k) s = .next (s.put TTB_HALT k 1)) ∧
  (∀ (q : Requester) (k : Fin 4) (s : State), s.permit q .registers (0x40B00040 + 0x4000 * k) true = .yes → s.get DOM_OFF (89 + k) = 0 →
    s.get TTB_POC_STAT_STATE k ∈ [1, 2, 3, 4, 5, 6] → Gives (.pocFreeze q k) s (fun t => t.get TTB_POC_STAT_STATE k = 7 ∧
      t.get TTB_MODE_STAT_PEND k = 0 ∧ (∀ x ∈ t.ttbReads, x.cluster ≠ k) ∧ t.bit EVT_SEEN_SEEN (92 + k) 4 = true ∧
      t.bit EVT_SEEN_SEEN (92 + k) 6 = true ∧ t.mem = s.mem ∧ t.out = s.out ∧
      CellsBut s t [(TTB_POC_STAT_STATE, k), (TTB_POC_STAT_WU_RESULT, k), (TTB_HALT, k), (TTB_MODE_STAT_PEND, k), (TTB_OWN, k),
        (TTB_AGREED, k)] evtCells)) ∧
  (∀ (q : Requester) (k : Fin 4) (s : State), s.permit q .registers (0x40B00040 + 0x4000 * k) true = .yes →
    ((s.get DOM_OFF (89 + k) = 1 ∨ s.get TTB_POC_STAT_STATE k ∉ [0, 2, 7]) →
      exec (.pocConfig q k) s = .next (s.put TTB_POC_STAT_CMD_IGN k 1)) ∧
    ((s.get DOM_OFF (89 + k) = 1 ∨ s.get TTB_POC_STAT_STATE k ∉ [1, 3, 4]) →
      exec (.pocReady q k) s = .next (s.put TTB_POC_STAT_CMD_IGN k 1)) ∧
    ((s.get DOM_OFF (89 + k) = 1 ∨ s.get TTB_POC_STAT_STATE k ≠ 2) →
      exec (.pocWakeup q k) s = .next (s.put TTB_POC_STAT_CMD_IGN k 1) ∧ exec (.pocRun q k) s = .next (s.put TTB_POC_STAT_CMD_IGN k 1)) ∧
    ((s.get DOM_OFF (89 + k) = 1 ∨ s.get TTB_POC_STAT_STATE k ∉ [2, 4, 5, 6]) →
      exec (.pocAllowColdstart q k) s = .next (s.put TTB_POC_STAT_CMD_IGN k 1)) ∧
    ((s.get DOM_OFF (89 + k) = 1 ∨ s.get TTB_POC_STAT_STATE k ∉ [5, 6]) →
      exec (.pocAllSlots q k) s = .next (s.put TTB_POC_STAT_CMD_IGN k 1) ∧ exec (.pocHalt q k) s = .next (s.put TTB_POC_STAT_CMD_IGN k 1)) ∧
    ((s.get DOM_OFF (89 + k) = 1 ∨ s.get TTB_POC_STAT_STATE k = 0) →
      exec (.pocFreeze q k) s = .next (s.put TTB_POC_STAT_CMD_IGN k 1))) ∧
  (∀ (k : Fin 4) (c : BitVec 6) (s : State), s.get TTB_POC_STAT_STATE k = 4 → Gives (.ttbStartupDone k c) s (fun t =>
    t.get TTB_POC_STAT_STATE k = 5 ∧ t.get TTB_MODE_STAT_ACTIVE k = s.get TTB_MODE_CTRL_START_MODE k % 8 ∧
    t.get TTB_POC_STAT_CYCLE k = c.toNat ∧ t.get TTB_MODE_STAT_PEND k = 0 ∧ t.bit EVT_SEEN_SEEN (92 + k) 4 = true ∧ QuietE s t ∧
    CellsBut s t [(TTB_POC_STAT_STATE, k), (TTB_MODE_STAT_ACTIVE, k), (TTB_POC_STAT_CYCLE, k), (TTB_MODE_STAT_PEND, k), (TTB_OWN, k),
      (TTB_AGREED, k), (TTB_NOCORR, k), (TTB_TXEN, k)] evtCells)) ∧
  (∀ (k : Fin 4) (s : State), s.get TTB_POC_STAT_STATE k = 4 → s.get TTB_KEY_STARTUP k = 1 → s.get TTB_COLD k = 1 →
    s.get TTB_ATT k = 0 → s.get TTB_LEAD k ≠ 1 → exec (.ttbColdstartFail k) s = .next (((s.put TTB_POC_STAT_COLD_FAIL k 1).put TTB_COLD k 0).raise (2963 + 32 * k))) ∧
  (∀ (k : Fin 4) (r : Fin 8) (n : Fin 64) (m : Nat) (s : State), s.get TTB_POC_STAT_STATE k = 3 →
    m = (if r.val = 1 then s.get TTB_CL_T4_WU_PAT k else if 4 ≤ r.val then min n.val (s.get TTB_CL_T4_WU_PAT k) else 0) →
    exec (.ttbWakeupDone k ⟨r, n⟩) s = .next ((({ s with out := s.out ++ (if m = 0 ∨ (s.get RDN_CFG_EN 0 ≠ 0 ∧ s.get RDN_STAT_ROLE 0 ≠ 1) then []
      else [Output.ttbWakeup k (2 ^ s.get TTB_KEY_WU_CH k) m]) }.put TTB_POC_STAT_WU_RESULT k r).put TTB_POC_STAT_STATE k 2).raise (2948 + 32 * k))) ∧
  (∀ (k : Fin 4) (c : BitVec 6) (r : Fin 8) (n : Fin 64) (s : State),
    (s.get TTB_POC_STAT_STATE k ≠ 4 → exec (.ttbStartupDone k c) s = .next s ∧ exec (.ttbColdstartFail k) s = .next s) ∧
    (s.get TTB_KEY_STARTUP k = 0 ∨ s.get TTB_COLD k = 0 ∨ s.get TTB_ATT k ≠ 0 ∨ s.get TTB_LEAD k = 1 →
      exec (.ttbColdstartFail k) s = .next s) ∧
    (s.get TTB_POC_STAT_STATE k ≠ 3 → exec (.ttbWakeupDone k ⟨r, n⟩) s = .next s) ∧
    exec (.ttbWakeRx k) s = .next (if s.get TTB_POC_STAT_STATE k ∈ [2, 7] then s.raise (2956 + 32 * k) else s)) ∧
  (∀ (k : Fin 4) (ch : Fin 2) (n : BitVec 16) (s : State), s.bit TTB_AO_CFG_EDGE_EN 0 (2 * k + ch) = true →
    10 * max 1 (s.get TTB_AO_CFG_WUP_MIN 0) ≤ n.toNat → s.bit TTB_AO_STAT_WOKE 0 (2 * k + ch) = false →
    (s.get TTB_AO_CFG_AUTO_ON 0 = 0 ∨ s.get DOM_OFF (89 + k) = 0) →
    exec (.ttbWakeEdge k ⟨ch, n⟩) s = .next ((s.putBit TTB_AO_STAT_WOKE 0 (2 * k + ch) true).raise (2957 + 32 * k + ch))) ∧
  (∀ (k : Fin 4) (ch : Fin 2) (n : BitVec 16) (s : State), s.bit TTB_AO_CFG_EDGE_EN 0 (2 * k + ch) = true →
    10 * max 1 (s.get TTB_AO_CFG_WUP_MIN 0) ≤ n.toNat → s.get TTB_AO_CFG_AUTO_ON 0 = 1 → s.get DOM_OFF (89 + k) = 1 →
    s.get TTB_POC_STAT_STATE k = 0 → Gives (.ttbWakeEdge k ⟨ch, n⟩) s (fun t => t.get TTB_POC_STAT_STATE k = 1 ∧ t.get DOM_OFF (89 + k) = 0 ∧
      t.bit TTB_AO_STAT_WOKE 0 (2 * k + ch) = true ∧
      (s.bit TTB_AO_STAT_WOKE 0 (2 * k + ch) = false → t.bit EVT_SEEN_SEEN (92 + k) (13 + ch) = true) ∧ t.bit EVT_SEEN_SEEN (92 + k) 4 = true ∧
      QuietE s t ∧ CellsBut s t [(TTB_POC_STAT_STATE, k), (DOM_OFF, 89 + k), (TTB_AO_STAT_WOKE, 0)] evtCells)) ∧
  (∀ (k : Fin 4) (ch : Fin 2) (n : BitVec 16) (s : State), (s.bit TTB_AO_CFG_EDGE_EN 0 (2 * k + ch) = false ∨
    n.toNat < 10 * max 1 (s.get TTB_AO_CFG_WUP_MIN 0) ∨ (s.bit TTB_AO_STAT_WOKE 0 (2 * k + ch) = true ∧
      (s.get TTB_AO_CFG_AUTO_ON 0 = 0 ∨ s.get DOM_OFF (89 + k) = 0))) → exec (.ttbWakeEdge k ⟨ch, n⟩) s = .next s)

/-- Time-triggered bus cycles: the timestamp and steering of a cycle start, clock correction, and the mode change (R264, R268, R269, R271, R276, R278, R280). -/
def Obligations.TtbCyclesAndModes : Prop :=
  (∀ (k : Fin 4) (s : State), s.get TTB_POC_STAT_STATE k = 5 → s.get TTB_HALT k = 0 → s.get TTB_ALIGN_EN k = 0 → s.get TTB_AGREED k = 0 →
    Gives (.ttbCycleStart k) s (fun t => t.get TTB_POC_STAT_CYCLE k = (s.get TTB_POC_STAT_CYCLE k + 1) % 64 ∧
      t.get TTB_CYC_TS_NS k = s.now (s.get TTB_ALIGN_DOM k) / 2 ^ 8 % 2 ^ 32 ∧ t.get TTB_CYC_TS_FRAC k = s.now (s.get TTB_ALIGN_DOM k) % 2 ^ 8 ∧
      t.get TTB_CYC_TS_CYCLE k = (s.get TTB_POC_STAT_CYCLE k + 1) % 64 ∧ t.get TTB_ALIGN_STAT_OFF_CTL k = 0 ∧
      t.get TTB_ALIGN_STAT_RATE_CTL k = 0 ∧ t.bit EVT_SEEN_SEEN (92 + k) 0 = true ∧
      t.get TTB_TXEN k = (if s.get RDN_CFG_EN 0 ≠ 0 ∧ s.get RDN_STAT_ROLE 0 ≠ 1 then 0 else 1) ∧ t.mem = s.mem ∧ t.out = s.out ∧
      CellsBut s t [(TTB_POC_STAT_CYCLE, k), (TTB_CYC_TS_NS, k), (TTB_CYC_TS_FRAC, k), (TTB_CYC_TS_CYCLE, k), (TTB_ALIGN_STAT_OFF_CTL, k),
        (TTB_ALIGN_STAT_RATE_CTL, k), (TTB_ALIGN_STAT_DEV, k), (TTB_AL_ON, k), (TTB_TXEN, k), (TTB_MM_NOW, k), (TTB_MM_SAID, k),
        (TTB_LAPSE, k), (TTB_ASK, k), (TTB_SINCE, k)] (TTB_DYN :: evtCells))) ∧
  (∀ (k : Fin 4) (s : State), s.get TTB_POC_STAT_STATE k ∈ [5, 6] → s.get TTB_HALT k = 0 → s.get TTB_AGREED k = 1 →
    s.get TTB_MODE_STAT_TARGET k < 8 → Gives (.ttbCycleStart k) s (fun t => t.get TTB_MODE_STAT_ACTIVE k = s.get TTB_MODE_STAT_TARGET k ∧
      t.get TTB_MODE_STAT_PEND k = 0 ∧ t.get TTB_CNT1_MODE_SWITCH k = min (s.get TTB_CNT1_MODE_SWITCH k + 1) (2 ^ 8 - 1) ∧
      t.bit EVT_SEEN_SEEN (92 + k) 9 = true ∧ t.bit EVT_SEEN_SEEN (92 + k) 0 = true)) ∧
  (∀ (k : Fin 4) (d : Int) (fr : Nat) (s : State), s.get TTB_POC_STAT_STATE k = 5 → s.get TTB_HALT k = 0 → s.get TTB_ALIGN_EN k = 1 →
    s.get TTB_AL_ON k = 1 → s.get TTB_POC_STAT_CYCLE k % 2 = 0 → -(2 ^ 23) ≤ d → d < 2 ^ 23 → fr < 2 ^ 8 →
    (s.now (s.get TTB_ALIGN_DOM k) : Int) = ((s.get TTB_AL_E k : Int) + 256 * d + fr).emod (2 ^ 40) →
    Gives (.ttbCycleStart k) s (fun t => t.getS TTB_ALIGN_STAT_DEV k = d ∧
      t.get TTB_AL_E k = (s.get TTB_AL_E k + s.get TTB_CL_T0_MPC k * s.get TTB_CL_T0_MT_UT k * 3200) % 2 ^ 40 ∧
      t.get TTB_ALIGN_STAT_OFF_CTL k = (if (s.get TTB_ALIGN_DB k : Int) < d then 3 else if d < -(s.get TTB_ALIGN_DB k : Int) then 1 else 0) ∧
      t.get TTB_ALIGN_STAT_RATE_CTL k = (if s.get TTB_AL_HAVE k = 0 then 0 else
        if (s.get TTB_ALIGN_DB_RATE k : Int) < d - s.getS TTB_AL_ODD k then 3 else
        if d - s.getS TTB_AL_ODD k < -(s.get TTB_ALIGN_DB_RATE k : Int) then 1 else 0) ∧ t.getS TTB_AL_ODD k = d ∧
      ((s.get TTB_ALIGN_EXT_ALIGN_MAX k : Int) < (d.natAbs : Int) → t.get TTB_AL_SAID k ≠ 0 ∧
        (s.get TTB_AL_SAID k = 0 → t.bit EVT_SEEN_SEEN (92 + k) 15 = true)) ∧
      (d.natAbs ≤ s.get TTB_ALIGN_EXT_ALIGN_MAX k → t.get TTB_AL_SAID k = 0))) ∧
  (∀ (k : Fin 4) (m d : Nat) (s : State), s.get TTB_POC_STAT_STATE k = 5 → s.get TTB_HALT k = 0 → s.get TTB_ALIGN_EN k = 1 →
    s.get TTB_AL_ON k = 0 → s.get TTB_POC_STAT_CYCLE k % 2 = 1 → s.get TTB_ALIGN_BASE k < 2 ^ 31 →
    2 * d < s.get TTB_CL_T0_MPC k * s.get TTB_CL_T0_MT_UT k * 3200 → d < 2 ^ 31 →
    s.now (s.get TTB_ALIGN_DOM k) = s.get TTB_ALIGN_BASE k * 2 ^ 8 + m * (s.get TTB_CL_T0_MPC k * s.get TTB_CL_T0_MT_UT k * 3200) + d →
    s.now (s.get TTB_ALIGN_DOM k) < s.get TTB_ALIGN_BASE k * 2 ^ 8 + 2 ^ 39 →
    Gives (.ttbCycleStart k) s (fun t => t.getS TTB_ALIGN_STAT_DEV k = (d / 2 ^ 8 : Nat) ∧ t.get TTB_AL_ON k = 1 ∧
      t.get TTB_AL_E k = (s.now (s.get TTB_ALIGN_DOM k) - d + s.get TTB_CL_T0_MPC k * s.get TTB_CL_T0_MT_UT k * 3200) % 2 ^ 40)) ∧
  (∀ (k : Fin 4) (s : State), s.get TTB_POC_STAT_STATE k ∈ [5, 6] → s.get TTB_HALT k = 1 →
    Gives (.ttbCycleStart k) s (fun t => t.get TTB_POC_STAT_STATE k = 7 ∧ t.bit EVT_SEEN_SEEN (92 + k) 6 = true ∧
      CellsBut s t [(TTB_POC_STAT_STATE, k), (TTB_HALT, k), (TTB_MODE_STAT_PEND, k), (TTB_OWN, k), (TTB_AGREED, k)] evtCells)) ∧
  (∀ (k : Fin 4) (s : State), s.get TTB_POC_STAT_STATE k ∈ [0, 1, 2, 3, 7] → exec (.ttbCycleStart k) s = .next s) ∧
  (∀ (k : Fin 4) (s : State), s.get TTB_POC_STAT_STATE k = 4 → s.get TTB_HALT k = 0 → s.get TTB_LEAD k = 1 → s.get TTB_POC_STAT_CYCLE k = 5 →
    exec (.ttbCycleStart k) s = .next (if s.get TTB_ATT k = 0 then (s.put TTB_LISTEN k (s.get CORE_COUNT 0)).put TTB_LEAD k 0 else
      { ((s.put TTB_ATT k (s.get TTB_ATT k - 1)).put TTB_LEAD k 1).put TTB_POC_STAT_CYCLE k 63 with
        out := s.out ++ (if s.get RDN_CFG_EN 0 ≠ 0 ∧ s.get RDN_STAT_ROLE 0 ≠ 1 then [] else
          [.ttbCas k (if s.get TTB_KEY_CH k = 0 then 3 else s.get TTB_KEY_CH k)]) })) ∧
  (∀ (k : Fin 4) (d : SyncDev) (r : Int) (s : State), s.get TTB_POC_STAT_STATE k ∈ [5, 6] → 0 < s.get TTB_CL_SYNC2_SYNC_MAX k →
    syncNoted s k (s.get TTB_POC_STAT_CYCLE k) d.id.toNat = true → syncNoted s k ((s.get TTB_POC_STAT_CYCLE k + 63) % 64) d.id.toNat = true →
    d.off.toInt.natAbs ≤ s.get TTB_CL_SYNC_OFFSET_OUT k → r = s.getS TTB_RATE k + d.rate.toInt → r.natAbs ≤ s.get TTB_CL_SYNC_RATE_OUT k →
    s.get TTB_ALIGN_STAT_OFF_CTL k = 3 → s.get TTB_ALIGN_STAT_RATE_CTL k = 1 → s.get TTB_ALIGN_EXT_EXT_OFF k < 2 ^ 5 →
    s.get TTB_ALIGN_EXT_EXT_RATE k < 2 ^ 5 → d.off.toInt.natAbs < 2 ^ 14 → r.natAbs < 2 ^ 10 →
    Gives (.clockCorrection k [⟨d.chan, d.id⟩] [d.off] [d.rate]) s (fun t => t.getS TTB_SYNC_STAT_OFFSET k = d.off.toInt - s.get TTB_ALIGN_EXT_EXT_OFF k ∧
      t.getS TTB_RATE k = r ∧ t.getS TTB_SYNC_STAT_RATE k = r + s.get TTB_ALIGN_EXT_EXT_RATE k ∧ t.get TTB_SYNC_STAT_NSYNC k = 1 ∧
      t.get TTB_POC_STAT_STATE k = 5 ∧ t.get TTB_NOCORR k = 0 ∧ QuietE s t ∧
      CellsBut s t [(TTB_SYNC_STAT_OFFSET, k), (TTB_SYNC_STAT_RATE, k), (TTB_SYNC_STAT_NSYNC, k), (TTB_POC_STAT_STATE, k),
        (TTB_NOCORR, k), (TTB_RATE, k)] evtCells)) ∧
  (∀ (k : Fin 4) (a b : SyncDev) (r : Int) (s : State), s.get TTB_POC_STAT_STATE k ∈ [5, 6] → 1 < s.get TTB_CL_SYNC2_SYNC_MAX k →
    a.chan = b.chan → a.id ≠ b.id → (∀ c ∈ [s.get TTB_POC_STAT_CYCLE k, (s.get TTB_POC_STAT_CYCLE k + 63) % 64],
      syncNoted s k c a.id.toNat = true ∧ syncNoted s k c b.id.toNat = true) →
    ((a.off.toInt + b.off.toInt).tdiv 2).natAbs ≤ min (2 ^ 14) (s.get TTB_CL_SYNC_OFFSET_OUT k) →
    r = s.getS TTB_RATE k + (a.rate.toInt + b.rate.toInt).tdiv 2 → r.natAbs ≤ min (2 ^ 10) (s.get TTB_CL_SYNC_RATE_OUT k) →
    s.get TTB_ALIGN_STAT_OFF_CTL k = 0 → s.get TTB_ALIGN_STAT_RATE_CTL k = 0 →
    Gives (.clockCorrection k [⟨a.chan, a.id⟩, ⟨b.chan, b.id⟩] [a.off, b.off] [a.rate, b.rate]) s (fun t => t.getS TTB_SYNC_STAT_OFFSET k = (a.off.toInt + b.off.toInt).tdiv 2 ∧
      t.getS TTB_RATE k = r ∧ t.getS TTB_SYNC_STAT_RATE k = r ∧ t.get TTB_SYNC_STAT_NSYNC k = 2)) ∧
  (∀ (k : Fin 4) (fs : List SyncFrame) (offs : List (BitVec 16)) (rates : List (BitVec 12)) (ds : List SyncDev) (m : Nat) (s : State),
    ds = syncDevs fs offs rates → s.get TTB_POC_STAT_STATE k = 5 →
    ((∀ d ∈ ds, syncNoted s k ((s.get TTB_POC_STAT_CYCLE k + 63) % 64) d.id.toNat = false ∨
        syncNoted s k (s.get TTB_POC_STAT_CYCLE k) d.id.toNat = false) ∨
      (∀ d ∈ ds, (s.get TTB_CL_SYNC_OFFSET_OUT k : Int) < d.off.toInt) ∨ 
        (∀ d ∈ ds, (s.get TTB_CL_SYNC_RATE_OUT k : Int) < s.getS TTB_RATE k + d.rate.toInt)) →
    m = min (s.get TTB_NOCORR k + 1) 15 →
    Gives (.clockCorrection k fs offs rates) s (fun t => t.get TTB_CNT1_SYNC_ERR k = min (s.get TTB_CNT1_SYNC_ERR k + 1) (2 ^ 16 - 1) ∧
      (s.get TTB_CNT1_SYNC_ERR k = 0 → t.bit EVT_SEEN_SEEN (92 + k) 7 = true) ∧ t.get TTB_SYNC_STAT_NSYNC k = s.get TTB_SYNC_STAT_NSYNC k ∧
      t.get TTB_SYNC_STAT_OFFSET k = s.get TTB_SYNC_STAT_OFFSET k ∧ t.get TTB_RATE k = s.get TTB_RATE k ∧
      t.get TTB_POC_STAT_STATE k = (if s.get TTB_CL_SYNC2_FATAL_LIM k ≤ m then 7 else if s.get TTB_CL_SYNC_PASSIVE_LIM k ≤ m then 6 else 5) ∧
      (t.get TTB_POC_STAT_STATE k = 6 → t.bit EVT_SEEN_SEEN (92 + k) 5 = true))) ∧
  (∀ (k : Fin 4) (fs : List SyncFrame) (offs : List (BitVec 16)) (rates : List (BitVec 12)) (s : State), s.get TTB_POC_STAT_STATE k ∉ [5, 6] →
    exec (.clockCorrection k fs offs rates) s = .next s) ∧
  (∀ (q : Requester) (k : Fin 4) (m : Fin 8) (a b : Fin 128) (w0 w1 v0 v1 : Nat) (s : State),
    s.permit q .registers (0x40B00074 + 0x4000 * k) true = .yes → a ≠ b → SchAt k m a w0 w1 s → SchAt k m b v0 v1 s →
    SchElse k m [a, b] s → w0 % 2 ^ 11 ≠ 0 → v0 % 2 ^ 11 ≠ 0 → w0 / 2 ^ 12 % 4 ≠ 0 → v0 / 2 ^ 12 % 4 ≠ 0 →
    (∀ j : Fin 8, s.bit TTB_MODE_VALID_VALID k j = false) → s.get TTB_MODE_VALID_FAIL k = 0 →
    (s.get TTB_POC_STAT_STATE k ∉ [5, 6] ∨ s.get TTB_MODE_STAT_ACTIVE k = m) →
    (s.get TTB_MODE_STAT_PEND k = 0 ∨ s.get TTB_MODE_STAT_TARGET k = m) → Gives (.modeValidWrite q k (BitVec.ofNat 16 (2 ^ m.val))) s (fun t =>
      (t.bit TTB_MODE_VALID_VALID k m = true ↔
        (w0 % 2 ^ 11 ≤ s.get TTB_CL_T1_STATIC_SLOTS k + s.get TTB_CL_T2_MINISLOTS k ∧
        v0 % 2 ^ 11 ≤ s.get TTB_CL_T1_STATIC_SLOTS k + s.get TTB_CL_T2_MINISLOTS k ∧
        (w0 / 2 ^ 11 % 2 = 1 → w0 % 2 ^ 11 ≠ s.get TTB_KEY_KEY_ID k) ∧ (v0 / 2 ^ 11 % 2 = 1 → v0 % 2 ^ 11 ≠ s.get TTB_KEY_KEY_ID k) ∧
        ¬ (w0 / 2 ^ 11 % 2 = 1 ∧ v0 / 2 ^ 11 % 2 = 1 ∧ w0 % 2 ^ 11 = v0 % 2 ^ 11 ∧ (w0 / 2 ^ 12 % 4) &&& (v0 / 2 ^ 12 % 4) ≠ 0 ∧
          w0 / 2 ^ 14 % 2 ^ 6 % 2 ^ min (min 6 (w0 / 2 ^ 20 % 8)) (min 6 (v0 / 2 ^ 20 % 8)) =
            v0 / 2 ^ 14 % 2 ^ 6 % 2 ^ min (min 6 (w0 / 2 ^ 20 % 8)) (min 6 (v0 / 2 ^ 20 % 8))))) ∧
      (t.bit TTB_MODE_VALID_FAIL k m = true ↔ t.bit TTB_MODE_VALID_VALID k m = false) ∧ Quiet s t ∧
      CellsBut s t [(TTB_MODE_VALID_VALID, k), (TTB_MODE_VALID_FAIL, k)] [])) ∧
  (∀ (q : Requester) (k : Fin 4) (m : Fin 8) (s : State), s.permit q .registers (0x40B00074 + 0x4000 * k) true = .yes →
    s.get TTB_MODE_VALID_VALID k = 2 ^ m.val → s.get TTB_MODE_VALID_FAIL k < 2 ^ 8 →
    (s.get TTB_POC_STAT_STATE k ∉ [5, 6] ∧ s.get TTB_MODE_STAT_PEND k = 0 →
      exec (.modeValidWrite q k 0) s = .next ((s.put TTB_MODE_VALID_FAIL k (s.get TTB_MODE_VALID_FAIL k)).put TTB_MODE_VALID_VALID k 0)) ∧
    (s.get TTB_POC_STAT_STATE k ∈ [5, 6] → s.get TTB_MODE_STAT_ACTIVE k = m → (s.get TTB_MODE_STAT_PEND k = 0 ∨ s.get TTB_MODE_STAT_TARGET k = m) →
      exec (.modeValidWrite q k 0) s = .next ((s.put TTB_MODE_VALID_FAIL k (s.get TTB_MODE_VALID_FAIL k)).put TTB_CNT1_WR_IGN k
        (min (s.get TTB_CNT1_WR_IGN k + 1) (2 ^ 8 - 1)))) ∧
    (s.get TTB_POC_STAT_STATE k ∉ [5, 6] → s.get TTB_MODE_STAT_PEND k = 1 → s.get TTB_MODE_STAT_TARGET k = m →
      exec (.modeValidWrite q k 0) s = .next ((s.put TTB_MODE_VALID_FAIL k (s.get TTB_MODE_VALID_FAIL k)).put TTB_CNT1_WR_IGN k
        (min (s.get TTB_CNT1_WR_IGN k + 1) (2 ^ 8 - 1)))) ∧
    (∀ j : Fin 8, s.get TTB_POC_STAT_STATE k ∈ [5, 6] → s.get TTB_MODE_STAT_ACTIVE k = j → j ≠ m → s.get TTB_MODE_STAT_PEND k = 1 →
      s.get TTB_MODE_STAT_TARGET k = m → Gives (.modeValidWrite q k 0) s (fun t =>
        t.get TTB_CNT1_WR_IGN k = min (s.get TTB_CNT1_WR_IGN k + 2) (2 ^ 8 - 1) ∧ Quiet s t ∧ CellsBut s t [(TTB_CNT1_WR_IGN, k)] []))) ∧
  (∀ (q : Requester) (k : Fin 4) (m : Fin 8) (s : State), s.permit q .registers (0x40B00070 + 0x4000 * k) true = .yes →
    exec (.ttbModeCtrlReq q k m) s = .next ((((s.put TTB_MODE_CTRL_REQ_MODE k m).put TTB_HELD k 1).put TTB_HELD_MODE k m).put TTB_HELD_WAIT k
      (if s.get TTB_MODE_STAT_PEND k ≠ 0 ∨ s.get TTB_LAPSE k = s.get TTB_POC_STAT_CYCLE k + 1 then 1 else 0))) ∧
  (∀ (k : Fin 4) (s : State), s.get TTB_POC_STAT_STATE k ∈ [5, 6] → s.get TTB_MODE_STAT_PEND k = 1 → s.get TTB_AGREED k = 0 →
    s.get TTB_POC_STAT_CYCLE k = (s.get TTB_MODE_STAT_REQ_CYC k + 1) % 64 →
    (∀ x ∈ s.ttbSync, x.cluster = k.val → x.cyc = s.get TTB_MODE_STAT_REQ_CYC k →
      ∃ y ∈ s.ttbSync, y.cluster = k.val ∧ y.cyc = s.get TTB_POC_STAT_CYCLE k ∧ y.id = x.id) →
    (∀ x ∈ s.ttbSync, x.cluster = k.val → x.cyc = s.get TTB_POC_STAT_CYCLE k →
      ∃ b ∈ x.mode, b / 8 % 2 = 1 ∧ b % 8 = s.get TTB_MODE_STAT_TARGET k) →
    exec (.modeAgreement k) s = .next (s.put TTB_AGREED k 1)) ∧
  (∀ (k : Fin 4) (s : State), s.get TTB_POC_STAT_STATE k ∈ [5, 6] → s.get TTB_MODE_STAT_PEND k = 1 → s.get TTB_AGREED k = 0 →
    s.get TTB_POC_STAT_CYCLE k = (s.get TTB_MODE_STAT_REQ_CYC k + 1) % 64 →
    ((∃ x ∈ s.ttbSync, x.cluster = k.val ∧ x.cyc = s.get TTB_MODE_STAT_REQ_CYC k ∧
      ∀ y ∈ s.ttbSync, y.cluster = k.val → y.cyc = s.get TTB_POC_STAT_CYCLE k → y.id ≠ x.id) ∨
     (∃ x ∈ s.ttbSync, x.cluster = k.val ∧ x.cyc = s.get TTB_POC_STAT_CYCLE k ∧
      ∀ b ∈ x.mode, ¬ (b / 8 % 2 = 1 ∧ b % 8 = s.get TTB_MODE_STAT_TARGET k))) →
    Gives (.modeAgreement k) s (fun t => t.get TTB_MODE_STAT_PEND k = 0 ∧ t.get TTB_AGREED k = 0 ∧
      t.get TTB_CNT1_MODE_LAPSED k = min (s.get TTB_CNT1_MODE_LAPSED k + 1) (2 ^ 8 - 1) ∧
      t.get TTB_MODE_STAT_ACTIVE k = s.get TTB_MODE_STAT_ACTIVE k ∧ t.bit EVT_SEEN_SEEN (92 + k) 10 = true ∧ QuietE s t ∧
      CellsBut s t [(TTB_MODE_STAT_PEND, k), (TTB_OWN, k), (TTB_AGREED, k), (TTB_CNT1_MODE_LAPSED, k), (TTB_LAPSE, k)] evtCells)) ∧
  (∀ (k : Fin 4) (s : State), (s.get TTB_POC_STAT_STATE k ∉ [5, 6] ∨ s.get TTB_MODE_STAT_PEND k = 0 ∨ s.get TTB_AGREED k = 1 ∨
    s.get TTB_POC_STAT_CYCLE k ≠ (s.get TTB_MODE_STAT_REQ_CYC k + 1) % 64) → exec (.modeAgreement k) s = .next s)

/-- Time-triggered bus frames: static and dynamic slots sent, null frames, reception under SEQ, slot ends (R270, R272, R273, R274, R275, R276, R277, R278, R279, R280). -/
def Obligations.TtbFrames : Prop :=
  (∀ (k : Fin 4) (slot : BitVec 11) (b B : Nat) (s : State), s.get TTB_POC_STAT_STATE k = 5 → slot.toNat = s.get TTB_KEY_KEY_ID k → 0 < slot.toNat →
    slot.toNat ≤ s.get TTB_CL_T1_STATIC_SLOTS k → s.get TTB_MODE_CTRL_AGREE_EN k = 0 → b = s.get TTB_KEY_KEY_BUF k →
    B = sbBase + 64 * s.get TTB_BUF_CFG_BASE k + 320 * b → s.word B % 2 = 1 →
    exec (.staticSlotRead k slot) s = .next { s with ttbReads := s.ttbReads ++
      [⟨k, slot.toNat, b, s.bytes (B + 32) (2 * s.get TTB_CL_T1_STATIC_PLEN k)⟩] }) ∧
  (∀ (k : Fin 4) (slot : BitVec 11) (b B m : Nat) (s : State), s.get TTB_POC_STAT_STATE k = 5 → slot.toNat = s.get TTB_KEY_KEY_ID k → 0 < slot.toNat →
    slot.toNat ≤ s.get TTB_CL_T1_STATIC_SLOTS k → s.get TTB_MODE_CTRL_AGREE_EN k = 1 → b = s.get TTB_KEY_KEY_BUF k →
    B = sbBase + 64 * s.get TTB_BUF_CFG_BASE k + 320 * b → s.word B % 2 = 1 → s.get TTB_HELD k = 1 → s.get TTB_MODE_STAT_PEND k = 0 →
    s.get TTB_LAPSE k = 0 → m = s.get TTB_HELD_MODE k → m < 8 → s.get TTB_MODE_STAT_ACTIVE k < 8 → m ≠ s.get TTB_MODE_STAT_ACTIVE k →
    s.get TTB_MODE_CTRL_MODE_OFF k < 2 * s.get TTB_CL_T1_STATIC_PLEN k → s.get TTB_POC_STAT_CYCLE k < 64 →
    Gives (.staticSlotRead k slot) s (fun t => t.get TTB_MODE_STAT_PEND k = 1 ∧ t.get TTB_MODE_STAT_TARGET k = m ∧
      t.get TTB_MODE_STAT_REQ_CYC k = s.get TTB_POC_STAT_CYCLE k ∧ t.get TTB_HELD k = 0 ∧
      t.ttbReads = s.ttbReads ++ [⟨k, slot.toNat, b, (s.bytes (B + 32) (2 * s.get TTB_CL_T1_STATIC_PLEN k)).set
        (s.get TTB_MODE_CTRL_MODE_OFF k) (BitVec.ofNat 8 (m + 8 + 16 * s.get TTB_MODE_STAT_ACTIVE k))⟩] ∧ t.mem = s.mem ∧
      CellsBut s t [(TTB_MODE_STAT_PEND, k), (TTB_MODE_STAT_TARGET, k), (TTB_MODE_STAT_REQ_CYC, k), (TTB_HELD, k), (TTB_LAPSE, k),
        (TTB_OWN, k), (TTB_ASK, k)] [])) ∧
  (∀ (k : Fin 4) (slot : BitVec 11) (b B m : Nat) (s : State), s.get TTB_POC_STAT_STATE k = 5 → slot.toNat = s.get TTB_KEY_KEY_ID k → 0 < slot.toNat →
    slot.toNat ≤ s.get TTB_CL_T1_STATIC_SLOTS k → s.get TTB_MODE_CTRL_AGREE_EN k = 1 → b = s.get TTB_KEY_KEY_BUF k →
    B = sbBase + 64 * s.get TTB_BUF_CFG_BASE k + 320 * b → s.word B % 2 = 1 → s.get TTB_HELD k = 1 → s.get TTB_HELD_WAIT k = 0 →
    s.get TTB_MODE_STAT_PEND k = 1 → s.get TTB_MODE_STAT_REQ_CYC k = s.get TTB_POC_STAT_CYCLE k → m = s.get TTB_HELD_MODE k → m < 8 →
    s.get TTB_MODE_STAT_TARGET k < 8 → s.get TTB_MODE_STAT_ACTIVE k < 8 → m ≠ s.get TTB_MODE_STAT_ACTIVE k →
    s.get TTB_MODE_CTRL_MODE_OFF k < 2 * s.get TTB_CL_T1_STATIC_PLEN k → s.get TTB_POC_STAT_CYCLE k < 64 →
    Gives (.staticSlotRead k slot) s (fun t => t.get TTB_MODE_STAT_PEND k = 1 ∧
      t.get TTB_MODE_STAT_TARGET k = min m (s.get TTB_MODE_STAT_TARGET k) ∧ t.get TTB_HELD k = 0 ∧
      t.ttbReads = s.ttbReads ++ [⟨k, slot.toNat, b, (s.bytes (B + 32) (2 * s.get TTB_CL_T1_STATIC_PLEN k)).set
        (s.get TTB_MODE_CTRL_MODE_OFF k) (BitVec.ofNat 8 (m + 8 + 16 * s.get TTB_MODE_STAT_ACTIVE k))⟩] ∧ t.mem = s.mem)) ∧
  (∀ (k : Fin 4) (slot : BitVec 11) (e : Fin 128) (w0 w1 ch B : Nat) (s : State), s.get TTB_POC_STAT_STATE k = 5 → 0 < slot.toNat →
    slot.toNat ≤ s.get TTB_CL_T1_STATIC_SLOTS k → slot.toNat ≠ s.get TTB_KEY_KEY_ID k → s.get TTB_SINGLE k = 0 →
    SchAt k (s.get TTB_MODE_STAT_ACTIVE k) e w0 w1 s → SchElse k (s.get TTB_MODE_STAT_ACTIVE k) [e] s →
    w0 % 2 ^ 11 = slot.toNat → w0 / 2 ^ 11 % 2 = 1 → ch = (w0 / 2 ^ 12 % 4) &&& (if s.get TTB_KEY_CH k = 0 then 3 else s.get TTB_KEY_CH k) → ch ≠ 0 →
    B = sbBase + 64 * s.get TTB_BUF_CFG_BASE k + 320 * (w1 % 2 ^ 7) → s.word B % 2 = 1 →
    exec (.staticSlotRead k slot) s = .next (if s.get TTB_POC_STAT_CYCLE k % 2 ^ min 6 (w0 / 2 ^ 20 % 8) =
        w0 / 2 ^ 14 % 2 ^ 6 % 2 ^ min 6 (w0 / 2 ^ 20 % 8) then
      { s with ttbReads := s.ttbReads ++ [⟨k, slot.toNat, w1 % 2 ^ 7, s.bytes (B + 32) (2 * s.get TTB_CL_T1_STATIC_PLEN k)⟩] } else s)) ∧
  (∀ (k : Fin 4) (slot : BitVec 11) (b : Nat) (pay : List Byte) (s : State), s.get TTB_POC_STAT_STATE k = 5 →
    slot.toNat = s.get TTB_KEY_KEY_ID k → 0 < slot.toNat → slot.toNat ≤ s.get TTB_CL_T1_STATIC_SLOTS k → b = s.get TTB_KEY_KEY_BUF k →
    s.ttbReads = [⟨k, slot.toNat, b, pay⟩] → s.get TTB_KEY_SYNC k = 1 → s.get TTB_MODE_CTRL_AGREE_EN k = 0 → s.ttbSync = [] →
    s.get TTB_TXEN k = 1 → s.get TTB_POC_STAT_CYCLE k < 64 → SbPlain s (64 * s.get TTB_BUF_CFG_BASE k + 320 * b) 32 →
    Gives (.staticSlot k slot) s (fun t => t.out = s.out ++ [.ttb k (if s.get TTB_KEY_CH k = 0 then 3 else s.get TTB_KEY_CH k)
        ⟨slot, BitVec.ofNat 6 (s.get TTB_POC_STAT_CYCLE k), false, true, s.get TTB_KEY_STARTUP k != 0, false, pay⟩] ∧
      t.ttbReads = [] ∧ t.ttbSync = [⟨k, s.get TTB_POC_STAT_CYCLE k, slot.toNat, none⟩] ∧
      t.mem = (s.putBytes (sbBase + 64 * s.get TTB_BUF_CFG_BASE k + 320 * b + 8) (toBytes 4 (s.word (sbBase + 64 * s.get TTB_BUF_CFG_BASE k +
        320 * b + 8) % 2 ^ 23 / 2 ^ 6 * 2 ^ 6 + s.get TTB_POC_STAT_CYCLE k))).mem ∧ t.cells = s.cells)) ∧
  (∀ (k : Fin 4) (slot : BitVec 11) (s : State), s.get TTB_POC_STAT_STATE k = 5 → slot.toNat = s.get TTB_KEY_KEY_ID k → 0 < slot.toNat →
    slot.toNat ≤ s.get TTB_CL_T1_STATIC_SLOTS k → (∀ x ∈ s.ttbReads, x.cluster ≠ k.val) → s.get TTB_KEY_SYNC k = 0 →
    s.get TTB_POC_STAT_CYCLE k < 64 → SbPlain s (64 * s.get TTB_BUF_CFG_BASE k + 320 * s.get TTB_KEY_KEY_BUF k) 32 →
    Gives (.staticSlot k slot) s (fun t => t.out = (if s.get TTB_TXEN k ≠ 0 then s.out ++ [.ttb k (if s.get TTB_KEY_CH k = 0 then 3 else
        s.get TTB_KEY_CH k) ⟨slot, BitVec.ofNat 6 (s.get TTB_POC_STAT_CYCLE k), true, false, s.get TTB_KEY_STARTUP k != 0, false, []⟩] else s.out) ∧
      t.get TTB_CNT0_NULL_SENT k = min (s.get TTB_CNT0_NULL_SENT k + 1) (2 ^ 16 - 1) ∧
      (s.get TTB_CNT0_NULL_SENT k = 0 → t.bit EVT_SEEN_SEEN (92 + k) 3 = true) ∧
      t.mem = (s.putBytes (sbBase + 64 * s.get TTB_BUF_CFG_BASE k + 320 * s.get TTB_KEY_KEY_BUF k + 8) (toBytes 4 (s.word (sbBase + 64 *
        s.get TTB_BUF_CFG_BASE k + 320 * s.get TTB_KEY_KEY_BUF k + 8) % 2 ^ 23 / 2 ^ 6 * 2 ^ 6 + s.get TTB_POC_STAT_CYCLE k))).mem ∧
      CellsBut s t [(TTB_CNT0_NULL_SENT, k)] evtCells)) ∧
  (∀ (k : Fin 4) (slot : BitVec 11) (e : Fin 128) (w0 w1 ch off : Nat) (pay : List Byte) (s : State), s.get TTB_POC_STAT_STATE k = 5 → 0 < slot.toNat →
    slot.toNat ≤ s.get TTB_CL_T1_STATIC_SLOTS k → slot.toNat ≠ s.get TTB_KEY_KEY_ID k → s.get TTB_SINGLE k = 0 →
    SchAt k (s.get TTB_MODE_STAT_ACTIVE k) e w0 w1 s → SchElse k (s.get TTB_MODE_STAT_ACTIVE k) [e] s →
    w0 % 2 ^ 12 = slot.toNat + 2 ^ 11 → ch = (w0 / 2 ^ 12 % 4) &&& (if s.get TTB_KEY_CH k = 0 then 3 else s.get TTB_KEY_CH k) → ch ≠ 0 →
    w0 / 2 ^ 20 % 2 ^ 5 = 24 →
    s.ttbReads = [⟨k, slot.toNat, w1 % 2 ^ 7, pay⟩] → s.get TTB_TXEN k = 1 → s.get TTB_POC_STAT_CYCLE k < 64 →
    off = 64 * s.get TTB_BUF_CFG_BASE k + 320 * (w1 % 2 ^ 7) → SbPlain s off 32 →
    Gives (.staticSlot k slot) s (fun t => t.out = s.out ++ [.ttb k ch ⟨slot, BitVec.ofNat 6 (s.get TTB_POC_STAT_CYCLE k),
        false, false, false, w1 / 2 ^ 15 % 2 == 1, pay⟩] ∧
      t.mem = ((s.putBytes (sbBase + off + 8) (toBytes 4 (s.word (sbBase + off + 8) % 2 ^ 23 / 2 ^ 6 * 2 ^ 6 + s.get TTB_POC_STAT_CYCLE k))).putBytes
        (sbBase + off) (toBytes 4 (s.word (sbBase + off) / 2 * 2))).mem ∧ t.ttbReads = [] ∧ t.bit EVT_SEEN_SEEN (92 + k) 2 = true ∧
      CellsBut s t [] evtCells)) ∧
  (∀ (k : Fin 4) (slot : BitVec 11) (ch : Fin 2) (id : BitVec 11) (ms : BitVec 13) (s : State), s.get TTB_POC_STAT_STATE k ≠ 5 →
    exec (.staticSlotRead k slot) s = .next s ∧ exec (.dynamicSlot ⟨k, ch⟩ id ms) s = .next s ∧
    (s.get TTB_POC_STAT_STATE k ≠ 4 ∨ s.get TTB_KEY_STARTUP k = 0 ∨ s.get TTB_COLD k = 0 ∨ s.get TTB_KEY_KEY_ID k ≠ slot.toNat ∨
      s.get TTB_LEAD k = 0 → exec (.staticSlot k slot) s = .next s)) ∧
  (∀ (k : Fin 4) (slot : BitVec 11) (s : State), s.get TTB_POC_STAT_STATE k = 4 → s.get TTB_KEY_STARTUP k = 1 → s.get TTB_COLD k = 1 →
    slot.toNat = s.get TTB_KEY_KEY_ID k → (s.get TTB_LEAD k = 1 ∨ (s.get TTB_LEAD k = 2 ∧ 4 ≤ s.get TTB_SINCE k)) →
    exec (.staticSlot k slot) s = .next (if s.get TTB_TXEN k = 0 then s else { s with out := s.out ++
      [.ttb k (if s.get TTB_KEY_CH k = 0 then 3 else s.get TTB_KEY_CH k)
        ⟨slot, BitVec.ofNat 6 (s.get TTB_POC_STAT_CYCLE k), true, true, true, false, []⟩] })) ∧
  (∀ (k : Fin 4) (ch : Fin 2) (id : BitVec 11) (ms : BitVec 13) (e : Fin 128) (w0 w1 m off : Nat) (s : State),
    s.get TTB_POC_STAT_STATE k = 5 → s.get TTB_CL_T1_STATIC_SLOTS k < id.toNat → s.get TTB_SINGLE k = 0 →
    SchAt k (s.get TTB_MODE_STAT_ACTIVE k) e w0 w1 s → SchElse k (s.get TTB_MODE_STAT_ACTIVE k) [e] s → w0 % 2 ^ 12 = id.toNat + 2 ^ 11 →
    m = (w0 / 2 ^ 12 % 4) &&& (if s.get TTB_KEY_CH k = 0 then 3 else s.get TTB_KEY_CH k) → m / 2 ^ ch.val % 2 = 1 →
    s.get TTB_DYN (128 * k + e) < 8 → s.get TTB_DYN (128 * k + e) / 2 ^ ch.val % 2 = 0 → w0 / 2 ^ 20 % 2 ^ 3 = 0 →
    s.get TTB_TXEN k = 1 → s.get TTB_POC_STAT_CYCLE k < 64 → off = 64 * s.get TTB_BUF_CFG_BASE k + 320 * (w1 % 2 ^ 7) →
    SbPlain s off 32 → s.word (sbBase + off) % 2 = 1 →
    (ms.toNat ≤ s.get TTB_CL_T4_LATEST_TX k → Gives (.dynamicSlot ⟨k, ch⟩ id ms) s (fun t =>
      t.out = s.out ++ [.ttb k (2 ^ ch.val) ⟨id, BitVec.ofNat 6 (s.get TTB_POC_STAT_CYCLE k), false, false, false, w1 / 2 ^ 15 % 2 == 1,
        s.bytes (sbBase + off + 32) (2 * (w1 / 2 ^ 8 % 2 ^ 7))⟩] ∧
      t.get TTB_DYN (128 * k + e) = s.get TTB_DYN (128 * k + e) + 2 ^ ch.val ∧
      (if w0 / 2 ^ 23 % 2 = 1 ∧ m = s.get TTB_DYN (128 * k + e) % 4 + 2 ^ ch.val then
        t.mem = ((s.putBytes (sbBase + off + 8) (toBytes 4 (s.word (sbBase + off + 8) % 2 ^ 23 / 2 ^ 6 * 2 ^ 6 +
          s.get TTB_POC_STAT_CYCLE k))).putBytes (sbBase + off) (toBytes 4 (s.word (sbBase + off) / 2 * 2))).mem ∧
        (w0 / 2 ^ 24 % 2 = 1 → t.bit EVT_SEEN_SEEN (92 + k) 2 = true)
      else t.mem = (s.putBytes (sbBase + off + 8) (toBytes 4 (s.word (sbBase + off + 8) % 2 ^ 23 / 2 ^ 6 * 2 ^ 6 +
        s.get TTB_POC_STAT_CYCLE k))).mem) ∧ CellsBut s t [(TTB_DYN, 128 * k + e)] evtCells)) ∧
    (s.get TTB_CL_T4_LATEST_TX k < ms.toNat → s.get TTB_DYN (128 * k + e) / 2 ^ 2 = 1 → exec (.dynamicSlot ⟨k, ch⟩ id ms) s = .next s) ∧
    (s.get TTB_CL_T4_LATEST_TX k < ms.toNat → s.get TTB_DYN (128 * k + e) / 2 ^ 2 = 0 → Gives (.dynamicSlot ⟨k, ch⟩ id ms) s (fun t =>
      t.get TTB_CNT0_DYN_MISSED k = min (s.get TTB_CNT0_DYN_MISSED k + 1) (2 ^ 16 - 1) ∧
      (s.get TTB_CNT0_DYN_MISSED k = 0 → t.bit EVT_SEEN_SEEN (92 + k) 18 = true) ∧ QuietE s t ∧
      CellsBut s t [(TTB_CNT0_DYN_MISSED, k), (TTB_DYN, 128 * k + e)] evtCells))) ∧
  (∀ (k : Fin 4) (ch : Fin 2) (ts : BitVec 40) (f : TtbFrame) (e : Fin 128) (w0 w1 off n : Nat) (s : State), s.get TTB_POC_STAT_STATE k ∈ [5, 6] →
    f.cycle.toNat = s.get TTB_POC_STAT_CYCLE k → f.sync = false → SchAt k (s.get TTB_MODE_STAT_ACTIVE k) e w0 w1 s →
    SchElse k (s.get TTB_MODE_STAT_ACTIVE k) [e] s → w0 % 2 ^ 12 = f.id.toNat → f.id.toNat ≠ 0 → w0 / 2 ^ 12 % 4 / 2 ^ ch.val % 2 = 1 →
    (s.get TTB_KEY_CH k = 0 ∨ s.get TTB_KEY_CH k / 2 ^ ch.val % 2 = 1) → w0 / 2 ^ 20 % 2 ^ 3 = 0 → (∀ x ∈ s.ttbRx, x.cluster ≠ k.val ∨ x.frame.id ≠ f.id) → f.null = false → n < 128 →
    f.payload.length = 2 * n → off = 64 * s.get TTB_BUF_CFG_BASE k + 320 * (w1 % 2 ^ 7) → SbPlain s off 320 →
    Gives (.ttbFrameReceive k ch ts f) s (fun t => t.mem = ((s.putBytes (sbBase + off + 32) f.payload).putBytes (sbBase + off + 4)
        (toBytes 4 ((s.word (sbBase + off + 4) / 2 * 2 + 2) % 2 ^ 32) ++ toBytes 4 (s.word (sbBase + off + 8) / 2 ^ 6 % 2 ^ 7 * 2 ^ 6 +
          f.cycle.toNat + f.ppi.toNat * 2 ^ 13 + f.startup.toNat * 2 ^ 15 + n * 2 ^ 16) ++ toBytes 4 (ts.toNat / 2 ^ 8) ++
          toBytes 4 (ts.toNat % 2 ^ 8) ++ List.replicate 12 0)).mem ∧ t.ttbRx = s.ttbRx ++ [⟨k, ch, f⟩] ∧ t.cells = s.cells ∧ t.out = s.out)) ∧
  (∀ (k : Fin 4) (ch : Fin 2) (ts : BitVec 40) (f : TtbFrame) (e : Fin 128) (w0 w1 off : Nat) (s : State), s.get TTB_POC_STAT_STATE k ∈ [5, 6] →
    f.cycle.toNat = s.get TTB_POC_STAT_CYCLE k → f.sync = false → SchAt k (s.get TTB_MODE_STAT_ACTIVE k) e w0 w1 s →
    SchElse k (s.get TTB_MODE_STAT_ACTIVE k) [e] s → w0 % 2 ^ 12 = f.id.toNat → f.id.toNat ≠ 0 → w0 / 2 ^ 12 % 4 = 3 →
    (s.get TTB_KEY_CH k = 0 ∨ s.get TTB_KEY_CH k = 3) → w0 / 2 ^ 20 % 2 ^ 3 = 0 → f.null = true → off = 64 * s.get TTB_BUF_CFG_BASE k + 320 * (w1 % 2 ^ 7) → SbPlain s off 32 →
    Gives (.ttbFrameReceive k ch ts f) s (fun t => t.mem = (if (∃ x ∈ s.ttbRx, x.cluster = k.val ∧ x.frame.id = f.id ∧ x.chan < 2) then s.mem else
        (s.putBytes (sbBase + off + 4) (toBytes 4 ((s.word (sbBase + off + 4) / 2 * 2 + 2) % 2 ^ 32) ++
          toBytes 4 ((s.word (sbBase + off + 8) / 2 ^ 6 * 2 ^ 6 ||| 2 ^ 8) + f.cycle.toNat))).mem) ∧
      ((∀ x ∈ s.ttbRx, x.chan < 2) → t.ttbRx = s.ttbRx ++ [⟨k, ch, f⟩] ∧ t.cells = s.cells))) ∧
  (∀ (k : Fin 4) (ch : Fin 2) (ts : BitVec 40) (f : TtbFrame) (b : Byte) (s : State), s.get TTB_POC_STAT_STATE k ∈ [5, 6] →
    (s.get TTB_KEY_CH k = 0 ∨ s.get TTB_KEY_CH k / 2 ^ ch.val % 2 = 1) →
    f.cycle.toNat = s.get TTB_POC_STAT_CYCLE k → f.sync = true → f.null = false → SchElse k (s.get TTB_MODE_STAT_ACTIVE k) [] s →
    s.get TTB_MODE_CTRL_AGREE_EN k = 1 → f.payload[s.get TTB_MODE_CTRL_MODE_OFF k]? = some b → s.ttbSync = [] →
    s.get TTB_MODE_STAT_PEND k = 0 → s.get TTB_MODE_STAT_ACTIVE k < 8 →
    Gives (.ttbFrameReceive k ch ts f) s (fun t => t.ttbSync = [⟨k, s.get TTB_POC_STAT_CYCLE k, f.id.toNat, some b.toNat⟩] ∧
      (b.toNat / 2 ^ 4 % 2 ^ 3 ≠ s.get TTB_MODE_STAT_ACTIVE k →
        t.get TTB_CNT1_MODE_MISMATCH k = min (s.get TTB_CNT1_MODE_MISMATCH k + 1) (2 ^ 8 - 1) ∧
        (s.get TTB_MM_SAID k = 0 → t.bit EVT_SEEN_SEEN (92 + k) 11 = true)) ∧
      (b.toNat / 2 ^ 4 % 2 ^ 3 = s.get TTB_MODE_STAT_ACTIVE k → t.get TTB_CNT1_MODE_MISMATCH k = s.get TTB_CNT1_MODE_MISMATCH k) ∧
      (b.toNat / 2 ^ 3 % 2 = 1 ∧ b.toNat % 2 ^ 3 ≠ s.get TTB_MODE_STAT_ACTIVE k → t.get TTB_MODE_STAT_PEND k = 1 ∧
        t.get TTB_MODE_STAT_TARGET k = b.toNat % 2 ^ 3 ∧ t.get TTB_MODE_STAT_REQ_CYC k = f.cycle.toNat ∧
        t.bit EVT_SEEN_SEEN (92 + k) 8 = true) ∧
      (¬ (b.toNat / 2 ^ 3 % 2 = 1 ∧ b.toNat % 2 ^ 3 ≠ s.get TTB_MODE_STAT_ACTIVE k) → t.get TTB_MODE_STAT_PEND k = 0) ∧
      t.get TTB_MODE_STAT_ACTIVE k = s.get TTB_MODE_STAT_ACTIVE k ∧ t.mem = s.mem ∧ t.out = s.out)) ∧
  (∀ (k : Fin 4) (id : BitVec 11) (se ce bo : Bool) (e : Fin 128) (w0 w1 off : Nat) (fa fb : TtbFrame) (s : State),
    s.get TTB_POC_STAT_STATE k ∈ [5, 6] → SchAt k (s.get TTB_MODE_STAT_ACTIVE k) e w0 w1 s → SchElse k (s.get TTB_MODE_STAT_ACTIVE k) [e] s →
    w0 % 2 ^ 12 = id.toNat → id.toNat ≠ 0 → w0 / 2 ^ 12 % 4 = 3 →
    (s.get TTB_KEY_CH k = 0 ∨ s.get TTB_KEY_CH k = 3) → w0 / 2 ^ 20 % 2 ^ 3 = 0 → w0 / 2 ^ 24 % 2 = 1 →
    s.ttbRx = [⟨k, 0, fa⟩, ⟨k, 1, fb⟩] → fa.id = id → fb.id = id → fa.null = false → fb.null = false →
    off = 64 * s.get TTB_BUF_CFG_BASE k + 320 * (w1 % 2 ^ 7) → SbPlain s off 32 →
    Gives (.ttbSlotEnd k id se ce bo) s (fun t => t.ttbRx = [] ∧
      t.mem = (s.putBytes (sbBase + off + 4) (toBytes 4 ((s.word (sbBase + off + 4) / 2 * 2 + 2) % 2 ^ 32) ++
        toBytes 4 (s.word (sbBase + off + 8) / 2 ^ 13 * 2 ^ 13 % 2 ^ 23 + s.word (sbBase + off + 8) % 2 ^ 6 + 2 ^ 6 + 2 ^ 7 +
          se.toNat * 2 ^ 9 + ce.toNat * 2 ^ 10 + bo.toNat * 2 ^ 11 + (decide (fa.payload ≠ fb.payload)).toNat * 2 ^ 12))).mem ∧
      t.bit EVT_SEEN_SEEN (92 + k) 1 = true ∧
      (fa.payload ≠ fb.payload → t.get TTB_CNT0_CH_DIFF k = min (s.get TTB_CNT0_CH_DIFF k + 1) (2 ^ 16 - 1) ∧
        t.bit EVT_SEEN_SEEN (92 + k) 16 = true) ∧
      (se = true ∨ ce = true ∨ bo = true → t.get TTB_CNT0_SLOT_ERR k = min (s.get TTB_CNT0_SLOT_ERR k + 1) (2 ^ 16 - 1) ∧
        (s.get TTB_CNT0_SLOT_ERR k = 0 → t.bit EVT_SEEN_SEEN (92 + k) 17 = true)) ∧
      CellsBut s t [(TTB_CNT0_CH_DIFF, k), (TTB_CNT0_SLOT_ERR, k)] evtCells)) ∧
  (∀ (k : Fin 4) (ch : Fin 2) (ts : BitVec 40) (f : TtbFrame) (id : BitVec 11) (se ce bo : Bool) (s : State),
    (s.get TTB_POC_STAT_STATE k ∉ [4, 5, 6] → exec (.ttbFrameReceive k ch ts f) s = .next s) ∧
    (s.get TTB_POC_STAT_STATE k ∉ [5, 6] → exec (.ttbSlotEnd k id se ce bo) s = .next s) ∧
    (s.get TTB_KEY_CH k ≠ 0 → s.get TTB_KEY_CH k / 2 ^ ch.val % 2 = 0 → exec (.ttbFrameReceive k ch ts f) s = .next s) ∧
    (s.get TTB_POC_STAT_STATE k ≠ 4 → f.cycle.toNat ≠ s.get TTB_POC_STAT_CYCLE k → exec (.ttbFrameReceive k ch ts f) s = .next s)) ∧
  (∀ (k : Fin 4) (ch : Fin 2) (ts : BitVec 40) (f : TtbFrame) (s : State), s.get TTB_POC_STAT_STATE k = 4 →
    (s.get TTB_KEY_CH k = 0 ∨ s.get TTB_KEY_CH k / 2 ^ ch.val % 2 = 1) →
    (s.get TTB_LEAD k = 1 → exec (.ttbFrameReceive k ch ts f) s =
      .next (if s.get TTB_POC_STAT_CYCLE k < 4 ∨ s.get TTB_POC_STAT_CYCLE k = 63 then (s.put TTB_LISTEN k (s.get CORE_COUNT 0)).put TTB_LEAD k 0
        else s)) ∧
    (s.get TTB_LEAD k = 0 → exec (.ttbFrameReceive k ch ts f) s =
      .next (if f.startup = true then ((s.put TTB_LEAD k 2).put TTB_SINCE k 0).put TTB_POC_STAT_CYCLE k f.cycle.toNat
        else (s.put TTB_LISTEN k (s.get CORE_COUNT 0)).put TTB_LEAD k 0)) ∧
    (s.get TTB_LEAD k = 2 → exec (.ttbFrameReceive k ch ts f) s = .next s))

/-- Isolated field I/O: couplers and the island, sampled inputs and wire break, outputs, latch-offs and the safe state (R281, R282, R283, R284, R285, R286, R287, R288, R300). -/
def Obligations.FieldIo : Prop :=
  (∀ (c : Fin 48) (s : State), s.get FIO_STAT_ISL_UP 0 = 1 → c.val < 32 → s.bit FIO_CPL_IN 0 c = false → exec (.couplerFailure c) s =
    .next (((s.putBit FIO_CPL_IN 0 c true).put FIO_CNT_CPL_CNT 0 (min (s.get FIO_CNT_CPL_CNT 0 + 1) (2 ^ 16 - 1))).raise 3107)) ∧
  (∀ (j : Fin 16) (s : State), s.get FIO_STAT_ISL_UP 0 = 1 → s.bit FIO_CPL_OUT 0 j = false → s.get FIO_GATE 0 = 0 →
    s.bit FIO_OUT_FLT_SAFE 0 j = false → s.bit FIO_NEWUP 0 j = false → s.bit FIO_OUT_FLT_SHORT 0 j = false →
    Gives (.couplerFailure ⟨32 + j, by omega⟩) s (fun t => t.bit FIO_CPL_OUT 0 j = true ∧ t.bit FIO_OUT_FLT_SAFE 0 j = true ∧
      t.get FIO_CNT_CPL_CNT 0 = min (s.get FIO_CNT_CPL_CNT 0 + 1) (2 ^ 16 - 1) ∧
      t.bit FIO_STAGE 0 j = (if s.get FIO_OUT_CFG_SAFE j = 1 then true else if s.get FIO_OUT_CFG_SAFE j = 2 then s.bit FIO_STAGE 0 j else false) ∧
      t.bit EVT_SEEN_SEEN (3107 / 32) (3107 % 32) = true ∧ t.bit EVT_SEEN_SEEN (3108 / 32) (3108 % 32) = true ∧ QuietE s t ∧
      CellsBut s t [(FIO_CPL_OUT, 0), (FIO_OUT_FLT_SAFE, 0), (FIO_CNT_CPL_CNT, 0), (FIO_STAGE, 0), (FIO_LAST, 0),
        (FIO_OUT_ST_DRIVEN, 0)] evtCells)) ∧
  (∀ (c : Fin 48) (s : State), (s.get FIO_STAT_ISL_UP 0 = 0 ∨ (c.val < 32 ∧ s.bit FIO_CPL_IN 0 c = true) ∨
    (32 ≤ c.val ∧ s.bit FIO_CPL_OUT 0 (c - 32) = true)) → exec (.couplerFailure c) s = .next s) ∧
  (∀ (c : Fin 48) (s : State), (if c.val < 32 then s.bit FIO_CPL_IN 0 c else s.bit FIO_CPL_OUT 0 (c - 32)) = true →
    Gives (.couplerRecovery c) s (fun t => (if c.val < 32 then t.bit FIO_CPL_IN 0 c else t.bit FIO_CPL_OUT 0 (c - 32)) = false ∧
      t.get FIO_OUT_FLT_SAFE 0 = s.get FIO_OUT_FLT_SAFE 0 ∧ Quiet s t ∧
      CellsBut s t [(FIO_CPL_IN, 0), (FIO_CPL_OUT, 0), (FIO_STAGE, 0), (FIO_OUT_ST_DRIVEN, 0)] [])) ∧
  (∀ (c : Fin 48) (s : State), (if c.val < 32 then s.bit FIO_CPL_IN 0 c else s.bit FIO_CPL_OUT 0 (c - 32)) = false →
    exec (.couplerRecovery c) s = .next s) ∧
  (∀ (s : State), s.get FIO_STAT_ISL_UP 0 = 1 → Gives .fioIslandDown s (fun t => t.get FIO_STAT_ISL_UP 0 = 0 ∧ t.get FIO_IN_IN 0 = 0 ∧
    t.bit EVT_SEEN_SEEN (3109 / 32) (3109 % 32) = true ∧ (s.get FIO_GATE 0 = 0 → t.get FIO_OUT_FLT_SAFE 0 % 2 ^ 16 = 2 ^ 16 - 1) ∧
    t.get FIO_CNT_CPL_CNT 0 = s.get FIO_CNT_CPL_CNT 0 ∧ QuietE s t)) ∧
  (∀ (s : State), s.get FIO_STAT_ISL_UP 0 = 0 → exec .fioIslandDown s = .next s ∧ Gives .fioIslandUp s (fun t =>
    t.get FIO_STAT_ISL_UP 0 = 1 ∧ t.get FIO_OUT_FLT_SAFE 0 % 2 ^ 16 = 2 ^ 16 - 1 ∧ t.get FIO_STAGE 0 = 0 ∧
    t.bit EVT_SEEN_SEEN (3110 / 32) (3110 % 32) = true ∧ QuietE s t)) ∧
  (∀ (s : State), s.get FIO_STAT_ISL_UP 0 = 1 → exec .fioIslandUp s = .next s) ∧
  (∀ (mv ua : List (BitVec 16)) (i : Fin 32) (hi lo : Nat) (r f : Bool) (s : State), s.get FIO_CTRL_EN 0 = 1 →
    s.reached (s.get FIO_CTRL_DOM 0) ((s.get FIO_WINDOW 0 + 5120000) % 2 ^ 40) = true → s.get FIO_STAT_ISL_UP 0 = 1 →
    s.bit FIO_CPL_IN 0 i = false → (hi, lo) = (if s.get FIO_IN_CFG_TYPE i = 0 then (11000, 9000) else (8500, 7000)) →
    r = (if hi < (mv.getD i 0).toNat then true else if (mv.getD i 0).toNat < lo then false else s.bit FIO_RAW 0 i) →
    f = (if max 1 (s.get FIO_IN_CFG_FILT_N i) ≤ s.get FIO_AGREE i + 1 then r else s.bit FIO_FILT 0 i) → s.get FIO_IN_CFG_WB_EN i = 0 →
    Gives (.fioSampleWindow mv ua) s (fun t => t.bit FIO_RAW 0 i = r ∧ t.bit FIO_FILT 0 i = f ∧
      t.get FIO_AGREE i = (if r = s.bit FIO_FILT 0 i ∨ r = f then 0 else min (s.get FIO_AGREE i + 1) 15) ∧
      t.bit FIO_IN_IN 0 i = (!s.bit FIO_IN_WB_IN 0 i && (f != (s.get FIO_IN_CFG_INVERT i != 0))) ∧
      (t.bit FIO_IN_IN 0 i ≠ s.bit FIO_IN_IN 0 i → s.get FIO_IN_CFG_EVT_EN i = 1 → t.bit EVT_SEEN_SEEN 96 i = true) ∧
      t.get FIO_WINDOW 0 = (s.get FIO_WINDOW 0 + min 1000 (max 50 (s.get FIO_CTRL_SAMPLE_PER 0)) * 256000) % 2 ^ 40 ∧
      t.mem = s.mem ∧ t.out = s.out)) ∧
  (∀ (mv ua : List (BitVec 16)) (i : Fin 32) (n : Nat) (b g : Nat) (s : State), s.get FIO_CTRL_EN 0 = 1 →
    s.reached (s.get FIO_CTRL_DOM 0) ((s.get FIO_WINDOW 0 + 5120000) % 2 ^ 40) = true → s.get FIO_STAT_ISL_UP 0 = 1 →
    s.bit FIO_CPL_IN 0 i = false → s.get FIO_IN_CFG_WB_EN i = 1 → n = max 1 (s.get FIO_IN_CFG_WB_N i) →
    b = (if (ua.getD i 0).toNat < 800 then min 15 (s.get FIO_BREAKS i + 1) else 0) →
    g = (if (ua.getD i 0).toNat < 800 then 0 else min 15 (s.get FIO_GOODS i + 1)) →
    Gives (.fioSampleWindow mv ua) s (fun t => t.get FIO_BREAKS i = b ∧ t.get FIO_GOODS i = g ∧
      t.bit FIO_IN_WB_IN 0 i = (if n ≤ b then true else if n ≤ g then false else s.bit FIO_IN_WB_IN 0 i) ∧
      (n ≤ b → t.bit FIO_IN_IN 0 i = false ∧ (s.bit FIO_IN_WB_IN 0 i = false → t.bit FIO_IN_WBL_WBL 0 i = true ∧
        (s.get FIO_IN_WBL_WBL 0 = 0 → t.bit EVT_SEEN_SEEN 97 0 = true))))) ∧
  (∀ (mv ua : List (BitVec 16)) (i : Fin 32) (s : State), s.get FIO_CTRL_EN 0 = 1 →
    s.reached (s.get FIO_CTRL_DOM 0) ((s.get FIO_WINDOW 0 + 5120000) % 2 ^ 40) = true →
    (s.get FIO_STAT_ISL_UP 0 = 0 ∨ s.bit FIO_CPL_IN 0 i = true) →
    Gives (.fioSampleWindow mv ua) s (fun t => t.bit FIO_IN_IN 0 i = s.bit FIO_IN_IN 0 i ∧ t.bit FIO_FILT 0 i = s.bit FIO_FILT 0 i)) ∧
  (∀ (mv ua : List (BitVec 16)) (s : State), (s.get FIO_CTRL_EN 0 = 0 ∨
    s.reached (s.get FIO_CTRL_DOM 0) ((s.get FIO_WINDOW 0 + 5120000) % 2 ^ 40) = false) → exec (.fioSampleWindow mv ua) s = .next s) ∧
  (∀ (q : Requester) (v : BitVec 16) (j : Fin 16) (s : State), s.permit q .registers 0x40C00040 true = .yes → Gives (.fioOutWrite q v) s (fun t =>
    t.get FIO_OUT_VALUE 0 = v.toNat ∧ t.bit FIO_SENT 0 j = (if s.get FIO_OUT_CFG_UPDATE j = 0 then v.getLsbD j else s.bit FIO_SENT 0 j) ∧
    (s.get FIO_GATE 0 = 0 → s.bit FIO_OUT_FLT_SHORT 0 j = false → s.bit FIO_OUT_FLT_SAFE 0 j = false →
      t.bit FIO_STAGE 0 j = t.bit FIO_SENT 0 j ∧ (s.get FIO_STAT_ISL_UP 0 = 1 → s.bit FIO_CPL_OUT 0 j = false →
        t.bit FIO_OUT_ST_DRIVEN 0 j = t.bit FIO_SENT 0 j)) ∧
    (s.bit FIO_OUT_FLT_SHORT 0 j = true ∨ s.get FIO_GATE 0 = 2 → t.bit FIO_STAGE 0 j = false) ∧ Quiet s t ∧
    CellsBut s t [(FIO_OUT_VALUE, 0), (FIO_SENT, 0), (FIO_STAGE, 0), (FIO_OUT_ST_DRIVEN, 0)] [])) ∧
  (∀ (n : Nat) (j : Fin 16) (i : Fin 600) (s : State), n = s.get FIO_BND_N 0 → 0 < n → n ≤ 512 → s.reached (s.get LIM_CYC_CTRL_DOM 0)
      ((s.get FIO_BND 0 + s.get FIO_OUT_OFFS_OFFSET 0 * 320) % 2 ^ 40) = true →
    Gives .outputUpdateInstant s (fun t => t.bit FIO_SENT 0 j = (if s.get FIO_OUT_CFG_UPDATE j = 1 then s.bit FIO_OUT_VALUE 0 j else
        s.bit FIO_SENT 0 j) ∧ t.get FIO_BND_N 0 = n - 1 ∧ (i.val < n - 1 → t.get FIO_BND i = s.get FIO_BND (i + 1) % 2 ^ 40) ∧ Quiet s t ∧
      CellsBut s t [(FIO_BND_N, 0), (FIO_SENT, 0), (FIO_STAGE, 0), (FIO_OUT_ST_DRIVEN, 0)] [FIO_BND])) ∧
  (∀ (s : State), (s.get FIO_BND_N 0 = 0 ∨ s.reached (s.get LIM_CYC_CTRL_DOM 0)
      ((s.get FIO_BND 0 + s.get FIO_OUT_OFFS_OFFSET 0 * 320) % 2 ^ 40) = false) → exec .outputUpdateInstant s = .next s) ∧
  (∀ (j : Fin 16) (us : BitVec 16) (hot : Bool) (s : State), s.bit FIO_STAGE 0 j = true →
    (hot = true ∨ min 1000 (max 10 (s.get FIO_OUT_CFG_SC_US j)) ≤ us.toNat) → Gives (.shortLatchOff ⟨j, us, hot⟩) s (fun t => t.bit FIO_OUT_FLT_SHORT 0 j = true ∧
    t.bit FIO_STAGE 0 j = false ∧ t.get FIO_CNT_SHORT_CNT 0 = min (s.get FIO_CNT_SHORT_CNT 0 + 1) (2 ^ 16 - 1) ∧
    t.get FIO_SHORT_AT j = s.get CORE_COUNT 0 % 2 ^ 64 ∧ t.bit EVT_SEEN_SEEN 97 1 = true ∧ QuietE s t ∧
    CellsBut s t [(FIO_OUT_FLT_SHORT, 0), (FIO_STAGE, 0), (FIO_OUT_ST_DRIVEN, 0), (FIO_CNT_SHORT_CNT, 0), (FIO_SHORT_AT, j)] evtCells)) ∧
  (∀ (j : Fin 16) (us : BitVec 16) (hot : Bool) (s : State),
    (s.bit FIO_STAGE 0 j = false ∨ (hot = false ∧ us.toNat < min 1000 (max 10 (s.get FIO_OUT_CFG_SC_US j))) →
      exec (.shortLatchOff ⟨j, us, hot⟩) s = .next s) ∧ (s.bit FIO_STAGE 0 j = false → exec (.openLoad j) s = .next s)) ∧
  (∀ (j : Fin 16) (s : State), s.bit FIO_OUT_FLT_SHORT 0 j = true → s.get FIO_OUT_CFG_RETRY_MS j ≠ 0 →
    s.get FIO_OUT_CFG_RETRY_MS j * 800000 ≤ s.get CORE_COUNT 0 - s.get FIO_SHORT_AT j → s.bit FIO_OUT_FLT_SAFE 0 j = false →
    s.get FIO_GATE 0 = 0 → Gives (.shortRetry j) s (fun t => t.bit FIO_OUT_FLT_SHORT 0 j = false ∧ t.bit FIO_STAGE 0 j = s.bit FIO_SENT 0 j ∧
      (∀ i : Fin 16, i ≠ j → t.bit FIO_OUT_FLT_SHORT 0 i = s.bit FIO_OUT_FLT_SHORT 0 i) ∧ Quiet s t ∧
      CellsBut s t [(FIO_OUT_FLT_SHORT, 0), (FIO_STAGE, 0), (FIO_OUT_ST_DRIVEN, 0)] [])) ∧
  (∀ (j : Fin 16) (s : State), (s.bit FIO_OUT_FLT_SHORT 0 j = false ∨ s.get FIO_OUT_CFG_RETRY_MS j = 0 ∨
    s.get CORE_COUNT 0 - s.get FIO_SHORT_AT j < s.get FIO_OUT_CFG_RETRY_MS j * 800000) → exec (.shortRetry j) s = .next s) ∧
  (∀ (q : Requester) (m : BitVec 16) (j : Fin 16) (s : State), s.permit q .registers 0x40C00048 true = .yes →
    Gives (.fioShortClear q m) s (fun t => t.bit FIO_OUT_FLT_SHORT 0 j = (s.bit FIO_OUT_FLT_SHORT 0 j && !m.getLsbD j) ∧ Quiet s t ∧
      (s.get FIO_GATE 0 = 0 → m.getLsbD j = true → s.bit FIO_OUT_FLT_SAFE 0 j = false → t.bit FIO_STAGE 0 j = s.bit FIO_SENT 0 j) ∧
      CellsBut s t [(FIO_OUT_FLT_SHORT, 0), (FIO_STAGE, 0), (FIO_OUT_ST_DRIVEN, 0)] [])) ∧
  (∀ (j : Fin 16) (s : State), s.bit FIO_STAGE 0 j = true → exec (.openLoad j) s = .next (if s.get FIO_OUT_CFG_OL_EN j = 0 then s else
    (s.putBit FIO_OUT_FLT_OPEN 0 j true).raise 3106)) ∧
  (∀ (s : State), s.get FIO_WDOG_N 0 ≠ 0 → s.get FIO_WDOG_N 0 ≤ s.get FIO_WD_COUNT 0 → s.get FIO_WD_OUT 0 = 0 →
    Gives .fioWdogExpiry s (fun t => t.get FIO_OUT_FLT_SAFE 0 % 2 ^ 16 = 2 ^ 16 - 1 ∧ t.get FIO_CNT_WDOG_CNT 0 = min (s.get FIO_CNT_WDOG_CNT 0 + 1) (2 ^ 16 - 1) ∧
      t.get FIO_WD_OUT 0 = 1 ∧ t.bit EVT_SEEN_SEEN 97 7 = true ∧ QuietE s t ∧
      CellsBut s t [(FIO_OUT_FLT_SAFE, 0), (FIO_CNT_WDOG_CNT, 0), (FIO_WD_OUT, 0), (FIO_STAGE, 0), (FIO_LAST, 0), (FIO_OUT_ST_DRIVEN, 0)] evtCells)) ∧
  (∀ (s : State), (s.get FIO_WDOG_N 0 = 0 ∨ s.get FIO_WD_COUNT 0 < s.get FIO_WDOG_N 0) → exec .fioWdogExpiry s = .next s) ∧
  (∀ (q : Requester) (s : State), s.permit q .registers 0x40C0000C true = .yes →
    exec (.fioWdogKick q) s = .next ((s.put FIO_WD_COUNT 0 0).put FIO_WD_OUT 0 0)) ∧
  (∀ (q : Requester) (v : Word) (s : State), s.permit q .registers 0x40C00000 true = .yes → s.get FIO_CTRL_LOCK 0 = 0 →
    s.get FIO_CTRL_EN 0 < 2 → Gives (.fioEnWrite q v) s (fun t => t.get FIO_CTRL_EN 0 = v.toNat % 2 ∧ t.get FIO_CTRL_DOM 0 = v.toNat / 2 ^ 4 % 2 ^ 4 ∧
      t.get FIO_CTRL_LOCK 0 = v.toNat / 2 ^ 31 ∧
      t.get FIO_CTRL_SAMPLE_PER 0 = (if s.get FIO_CTRL_EN 0 = 1 then s.get FIO_CTRL_SAMPLE_PER 0 else v.toNat / 2 ^ 8 % 2 ^ 10) ∧
      (v.toNat % 2 = 0 → t.get FIO_OUT_FLT_SAFE 0 % 2 ^ 16 = 2 ^ 16 - 1) ∧
      (v.toNat % 2 = 1 → s.get FIO_CTRL_EN 0 = 0 → t.get FIO_WINDOW 0 = s.get FIO_SBASE_SBASE 0 * 256 % 2 ^ 40) ∧ QuietE s t)) ∧
  (∀ (q : Requester) (m : BitVec 16) (j : Fin 16) (s : State), s.permit q .registers 0x40C00048 true = .yes →
    Gives (.fioSafeClear q m) s (fun t => t.bit FIO_OUT_FLT_SAFE 0 j = (s.bit FIO_OUT_FLT_SAFE 0 j && !(m.getLsbD j && s.get FIO_STAT_ISL_UP 0 != 0 &&
        !s.bit FIO_CPL_OUT 0 j && s.get FIO_WD_OUT 0 == 0 && s.get FIO_CTRL_EN 0 != 0 && s.get FIO_HELD_OUT 0 == 0 && s.get FATAL_PATH 0 == 0)) ∧
      (t.bit FIO_OUT_FLT_SAFE 0 j = false → s.get FIO_GATE 0 = 0 → s.bit FIO_OUT_FLT_SHORT 0 j = false →
        t.bit FIO_STAGE 0 j = s.bit FIO_SENT 0 j) ∧ Quiet s t ∧
      CellsBut s t [(FIO_OUT_FLT_SAFE, 0), (FIO_NEWUP, 0), (FIO_STAGE, 0), (FIO_OUT_ST_DRIVEN, 0)] []))

/-- Mark inputs, the contrast ADC, and sequences: triggers, entries, headers, logs, acknowledgement, enable and stop (R291, R292, R293, R294, R295, R296, R297, R298, R299, R300). -/
def Obligations.MarkCapture : Prop :=
  (∀ (i : Fin 16) (ts : BitVec 40) (rise : Bool) (held : BitVec 16) (s : State), s.get MKC_IN_CFG_EDGE i / (if rise then 1 else 2) % 2 = 1 → s.get MKC_IN_CFG_GLITCH i ≤ held.toNat →
    (∀ k : Nat, k < 12 → s.get MKC_SEQ_STAT_STATE k = 0 ∧ s.get MKC_SEQ_CFG_EN k = 0) →
    Gives (.markEdge i ts ⟨rise, held⟩) s (fun t => t.get MKC_IN_TS_NS i = ts.toNat / 2 ^ 8 ∧ t.get MKC_IN_TS_FRAC i = ts.toNat % 2 ^ 8 ∧
      t.get MKC_IN_TS_RISE i = rise.toNat ∧ (s.get MKC_IN_CFG_EVT_EN i = 1 → t.bit EVT_SEEN_SEEN 98 i = true) ∧
      (s.get MKC_IN_CFG_EVT_EN i = 0 → t.events = s.events) ∧ QuietE s t ∧
      CellsBut s t [(MKC_IN_TS_NS, i), (MKC_IN_TS_FRAC, i), (MKC_IN_TS_RISE, i)] evtCells)) ∧
  (∀ (i : Fin 16) (ts : BitVec 40) (rise : Bool) (held : BitVec 16) (s : State), (s.get MKC_IN_CFG_EDGE i / (if rise then 1 else 2) % 2 = 0 ∨
    held.toNat < s.get MKC_IN_CFG_GLITCH i) →
    exec (.markEdge i ts ⟨rise, held⟩) s = .next s) ∧
  (∀ (i : Fin 16) (k : Fin 8) (ts : BitVec 40) (rise : Bool) (held : BitVec 16) (g slot : Nat) (s : State), s.get MKC_IN_CFG_EDGE i / (if rise then 1 else 2) % 2 = 1 → s.get MKC_IN_CFG_GLITCH i ≤ held.toNat →
    (∀ j : Nat, j < 12 → j ≠ k → s.get MKC_SEQ_STAT_STATE j = 0 ∧ s.get MKC_SEQ_CFG_EN j = 0) → s.get MKC_SEQ_STAT_STATE k ≠ 0 →
    s.get MKC_SEQ_CFG_TRIG k ≠ 2 → s.bit MKC_SEQ_CFG_MASK k i = true → s.get SEQ_ENTRIES k = 0 → SlotOf k slot s →
    SbPlain s (slot + 32) 8 → g = (ts.toNat + 2 ^ 40 - s.get SEQ_START k % 2 ^ 40) % 2 ^ 40 → g < 2 ^ 39 →
    (s.get MKC_SEQ_LEN_VALUE k = 0 ∨ g < s.get MKC_SEQ_LEN_VALUE k * 320) →
    Gives (.markEdge i ts ⟨rise, held⟩) s (fun t => t.get SEQ_ENTRIES k = 1 ∧ t.get SEQ_END k = ts.toNat ∧
      t.mem = (s.putBytes (sbBase + slot + 32) (toBytes 4 (ts.toNat / 2 ^ 8) ++
        toBytes 4 (ts.toNat % 2 ^ 8 + i * 2 ^ 8 + rise.toNat * 2 ^ 12))).mem ∧
      CellsBut s t [(MKC_IN_TS_NS, i), (MKC_IN_TS_FRAC, i), (MKC_IN_TS_RISE, i), (SEQ_ENTRIES, k), (SEQ_END, k)] evtCells)) ∧
  (∀ (i : Fin 16) (k : Fin 12) (ts : BitVec 40) (rise : Bool) (held : BitVec 16) (s : State), s.get MKC_IN_CFG_EDGE i / (if rise then 1 else 2) % 2 = 1 → s.get MKC_IN_CFG_GLITCH i ≤ held.toNat →
    (∀ j : Nat, j < 12 → s.get MKC_SEQ_STAT_STATE j = 0 ∧ (j ≠ k → s.get MKC_SEQ_CFG_EN j = 0)) → s.get MKC_SEQ_CFG_EN k = 1 →
    s.get MKC_SEQ_CFG_TRIG k = 2 → s.get MKC_SEQ_CFG_TSEL k = i → s.bit MKC_SEQ_CFG_MASK k i = false →
    s.get MKC_SEQ_PTR_COUNT k < 2 ^ min 8 (max 2 (s.get MKC_SEQ_RING_LOG2 k)) →
    Gives (.markEdge i ts ⟨rise, held⟩) s (fun t => t.get MKC_SEQ_STAT_STATE k = 1 ∧ t.get SEQ_TRIG k = ts.toNat ∧
      t.get SEQ_START k = (ts.toNat + s.get MKC_SEQ_DELAY_VALUE k * 320) % 2 ^ 40 ∧ t.get SEQ_NUM k = (s.get SEQ_NUM k + 1) % 2 ^ 32 ∧
      t.get MKC_SEQ_CNT_TRIGGERS k = min (s.get MKC_SEQ_CNT_TRIGGERS k + 1) (2 ^ 16 - 1) ∧ t.get SEQ_ENTRIES k = 0 ∧ t.get SEQ_LATE k = 0 ∧
      t.mem = s.mem)) ∧
  (∀ (q : Requester) (k : Fin 12) (ts : Nat) (s : State), s.permit q .registers (0x40C09000 + 0x100 * k) true = .yes →
    s.get MKC_SEQ_CFG_EN k = 1 → s.get MKC_SEQ_CFG_TRIG k = 1 → ts = s.now (s.get MKC_CTRL_DOM 0) → ts < 2 ^ 40 → s.get MKC_SEQ_STAT_STATE k = 0 →
    s.get MKC_LOG_PTR_COUNT k ≤ 16 → Gives (.seqSwTrig q k) s (fun t =>
      (s.get MKC_SEQ_PTR_COUNT k < 2 ^ min 8 (max 2 (s.get MKC_SEQ_RING_LOG2 k)) → t.get MKC_SEQ_STAT_STATE k = 1 ∧ t.get SEQ_TRIG k = ts ∧
        t.get SEQ_START k = (ts + s.get MKC_SEQ_DELAY_VALUE k * 320) % 2 ^ 40 ∧
        t.get MKC_SEQ_CNT_TRIGGERS k = min (s.get MKC_SEQ_CNT_TRIGGERS k + 1) (2 ^ 16 - 1)) ∧
      (2 ^ min 8 (max 2 (s.get MKC_SEQ_RING_LOG2 k)) ≤ s.get MKC_SEQ_PTR_COUNT k → t.get MKC_SEQ_STAT_STATE k = 0 ∧ SeqLogged k ts 3 s t ∧
        t.get MKC_SEQ_CNT_NO_SLOT k = min (s.get MKC_SEQ_CNT_NO_SLOT k + 1) (2 ^ 16 - 1) ∧
        t.bit EVT_SEEN_SEEN ((3155 + 4 * k) / 32) ((3155 + 4 * k) % 32) = true) ∧ t.mem = s.mem ∧ t.out = s.out)) ∧
  (∀ (q : Requester) (k : Fin 12) (ts : Nat) (s : State), s.permit q .registers (0x40C09000 + 0x100 * k) true = .yes →
    s.get MKC_SEQ_CFG_EN k = 1 → s.get MKC_SEQ_CFG_TRIG k = 1 → ts = s.now (s.get MKC_CTRL_DOM 0) → ts < 2 ^ 40 → s.get MKC_SEQ_STAT_STATE k ≠ 0 →
    s.get MKC_LOG_PTR_COUNT k ≤ 16 → s.get MKC_SEQ_CFG_POLICY k ≠ 2 → s.get MKC_SEQ_STAT_PEND k < 2 → Gives (.seqSwTrig q k) s (fun t =>
      (s.get MKC_SEQ_CFG_POLICY k ≠ 1 ∧ s.get MKC_SEQ_STAT_PEND k = 0 → t.get MKC_SEQ_STAT_PEND k = 1 ∧ t.get SEQ_PEND_TS k = ts ∧
        SeqLogged k ts 0 s t) ∧
      (s.get MKC_SEQ_CFG_POLICY k = 1 ∨ s.get MKC_SEQ_STAT_PEND k = 1 → SeqLogged k ts 1 s t ∧
        t.get MKC_SEQ_CNT_DISCARDED k = min (s.get MKC_SEQ_CNT_DISCARDED k + 1) (2 ^ 16 - 1)) ∧ t.get SEQ_OVR k = 1 ∧
      t.get MKC_SEQ_STAT_STATE k = s.get MKC_SEQ_STAT_STATE k ∧ t.mem = s.mem ∧ t.out = s.out)) ∧
  (∀ (q : Requester) (k : Fin 12) (ts slot : Nat) (s : State), s.permit q .registers (0x40C09000 + 0x100 * k) true = .yes →
    s.get MKC_SEQ_CFG_EN k = 1 → s.get MKC_SEQ_CFG_TRIG k = 1 → ts = s.now (s.get MKC_CTRL_DOM 0) → ts < 2 ^ 40 → s.get MKC_SEQ_STAT_STATE k ≠ 0 →
    s.get MKC_LOG_PTR_COUNT k ≤ 16 → s.get MKC_SEQ_CFG_POLICY k = 2 → s.get MKC_SEQ_PTR_COUNT k + 1 < 2 ^ min 8 (max 2 (s.get MKC_SEQ_RING_LOG2 k)) →
    SlotOf k slot s → SbPlain s slot 32 → s.get SEQ_ENTRIES k < 2 ^ 16 → s.get SEQ_LATE k < 2 →
    Gives (.seqSwTrig q k) s (fun t => SeqLogged k ts 2 s t ∧
      t.get MKC_SEQ_CNT_RESTARTS k = min (s.get MKC_SEQ_CNT_RESTARTS k + 1) (2 ^ 16 - 1) ∧ t.get MKC_SEQ_STAT_STATE k = 1 ∧ t.get SEQ_TRIG k = ts ∧
      t.get MKC_SEQ_PTR_COUNT k = s.get MKC_SEQ_PTR_COUNT k + 1 ∧
      t.word (sbBase + slot) % 2 ^ 3 = 1 + 4 * s.get SEQ_LATE k ∧ t.word (sbBase + slot) / 2 ^ 16 = s.get SEQ_ENTRIES k ∧
      t.bit EVT_SEEN_SEEN ((3154 + 4 * k) / 32) ((3154 + 4 * k) % 32) = true)) ∧
  (∀ (k : Fin 12) (s : State), exec (.seqStart k) s = .next (if s.get MKC_SEQ_STAT_STATE k = 1 ∧
      s.reached (s.get MKC_CTRL_DOM 0) (s.get SEQ_START k) = true then s.put MKC_SEQ_STAT_STATE k 2 else s)) ∧
  (∀ (k : Fin 12) (n slot stop' : Nat) (s : State), k.val < 8 → s.get MKC_SEQ_STAT_STATE k = 2 → n = s.get SEQ_ENTRIES k → n < 2 ^ 12 →
    (max 1 (s.get MKC_SEQ_N_MAXN k) ≤ n ∨ (0 < s.get MKC_SEQ_LEN_VALUE k ∧ s.reached (s.get MKC_CTRL_DOM 0)
      ((s.get SEQ_START k + s.get MKC_SEQ_LEN_VALUE k * 320) % 2 ^ 40) = true)) →
    stop' = (if max 1 (s.get MKC_SEQ_N_MAXN k) ≤ n then s.get SEQ_END k else (s.get SEQ_START k + s.get MKC_SEQ_LEN_VALUE k * 320) % 2 ^ 40) →
    s.get SEQ_LATE k < 2 → s.get SEQ_OVR k < 2 → SlotOf k slot s → SbPlain s slot 32 → s.get MKC_SEQ_PTR_COUNT k < 2 ^ 9 - 1 →
    Gives (.seqCompletion k) s (fun t => t.mem = (s.putBytes (sbBase + slot) (toBytes 4 (4 * s.get SEQ_LATE k +
        (if max 1 (s.get MKC_SEQ_N_MAXN k) ≤ n then 8 else 0) + 16 * s.get SEQ_OVR k + n * 2 ^ 16) ++ toBytes 4 (s.get SEQ_NUM k) ++
        toBytes 4 (s.get SEQ_TRIG k / 2 ^ 8) ++ toBytes 4 (s.get SEQ_TRIG k % 2 ^ 8) ++ toBytes 4 (s.get SEQ_START k / 2 ^ 8) ++
        toBytes 4 (s.get SEQ_START k % 2 ^ 8) ++ toBytes 4 (stop' / 2 ^ 8) ++ toBytes 4 (stop' % 2 ^ 8))).mem ∧
      t.get MKC_SEQ_PTR_COUNT k = s.get MKC_SEQ_PTR_COUNT k + 1 ∧ t.bit EVT_SEEN_SEEN ((3152 + 4 * k) / 32) ((3152 + 4 * k) % 32) = true ∧
      (s.get MKC_SEQ_STAT_PEND k = 0 → t.get MKC_SEQ_STAT_STATE k = 0) ∧
      (s.get MKC_SEQ_STAT_PEND k = 1 → t.get MKC_SEQ_STAT_PEND k = 0 ∧
        (s.get MKC_SEQ_PTR_COUNT k + 1 < 2 ^ min 8 (max 2 (s.get MKC_SEQ_RING_LOG2 k)) → t.get MKC_SEQ_STAT_STATE k = 1 ∧
          t.get SEQ_TRIG k = s.get SEQ_PEND_TS k % 2 ^ 40)))) ∧
  (∀ (k : Fin 12) (s : State), s.get MKC_SEQ_STAT_STATE k ≠ 1 → (s.get MKC_SEQ_STAT_STATE k ≠ 2 ∨ (k.val < 8 ∧
      s.get SEQ_ENTRIES k < max 1 (s.get MKC_SEQ_N_MAXN k) ∧ s.get MKC_SEQ_LEN_VALUE k = 0)) → exec (.seqCompletion k) s = .next s) ∧
  (∀ (q : Requester) (k : Fin 12) (n : BitVec 9) (s : State), s.permit q .registers (0x40C09018 + 0x100 * k) true = .yes →
    exec (.mkcSeqAck q k n) s = .next (if n.toNat = 0 ∨ s.get MKC_SEQ_PTR_COUNT k < n.toNat then s.put MKC_SEQ_PTR_ACK_ERR k 1 else
      (s.put MKC_SEQ_PTR_HEAD k ((s.get MKC_SEQ_PTR_HEAD k + n.toNat) % 2 ^ min 8 (max 2 (s.get MKC_SEQ_RING_LOG2 k)))).put
        MKC_SEQ_PTR_COUNT k (s.get MKC_SEQ_PTR_COUNT k - n.toNat))) ∧
  (∀ (q : Requester) (k : Fin 12) (n : BitVec 9) (s : State), s.permit q .registers (0x40C0902C + 0x100 * k) true = .yes →
    exec (.mkcLogAck q k n) s = .next (if n.toNat = 0 ∨ s.get MKC_LOG_PTR_COUNT k < n.toNat then s else
      (s.put MKC_LOG_PTR_HEAD k (s.get MKC_LOG_PTR_HEAD k + n.toNat)).put MKC_LOG_PTR_COUNT k (s.get MKC_LOG_PTR_COUNT k - n.toNat))) ∧
  (∀ (q : Requester) (k : Fin 12) (v : Word) (s : State), s.permit q .registers (0x40C09000 + 0x100 * k) true = .yes →
    s.get MKC_SEQ_CFG_EN k = 0 → v.toNat / 2 ^ 9 % 2 ^ 3 = 1 → Gives (.mkcSeqEnWrite q k v) s (fun t =>
      t.get MKC_SEQ_CFG_TRIG k = v.toNat % 2 ^ 3 ∧ t.get MKC_SEQ_CFG_TSEL k = v.toNat / 2 ^ 3 % 2 ^ 4 ∧
      t.get MKC_SEQ_CFG_POLICY k = v.toNat / 2 ^ 7 % 2 ^ 2 ∧ t.get MKC_SEQ_CFG_MASK k = v.toNat / 2 ^ 16 ∧
      (SeqUnfit k (v.toNat % 2 ^ 3) (v.toNat / 2 ^ 16) s → t.get MKC_SEQ_CFG_EN k = 0 ∧ t.get MKC_SEQ_STAT_CFG_ERR k = 1) ∧
      (¬ SeqUnfit k (v.toNat % 2 ^ 3) (v.toNat / 2 ^ 16) s → t.get MKC_SEQ_CFG_EN k = 1 ∧
        t.get MKC_SEQ_STAT_CFG_ERR k = s.get MKC_SEQ_STAT_CFG_ERR k) ∧ Quiet s t ∧
      CellsBut s t [(MKC_SEQ_CFG_TRIG, k), (MKC_SEQ_CFG_TSEL, k), (MKC_SEQ_CFG_POLICY, k), (MKC_SEQ_CFG_MASK, k), (MKC_SEQ_CFG_EN, k),
        (MKC_SEQ_STAT_CFG_ERR, k)] [])) ∧
  (∀ (q : Requester) (k : Fin 12) (v : Word) (s : State), s.permit q .registers (0x40C09000 + 0x100 * k) true = .yes →
    s.get MKC_SEQ_CFG_EN k = 1 → v.toNat / 2 ^ 9 % 2 ^ 3 = 0 → s.get MKC_SEQ_STAT_STATE k = 0 → s.get MKC_SEQ_STAT_PEND k = 1 →
    Gives (.mkcSeqEnWrite q k v) s (fun t => t.get MKC_SEQ_CFG_EN k = 0 ∧ t.get MKC_SEQ_STAT_PEND k = 0 ∧
      t.get MKC_SEQ_CNT_DISCARDED k = min (s.get MKC_SEQ_CNT_DISCARDED k + 1) (2 ^ 16 - 1) ∧ Quiet s t)) ∧
  (∀ (q : Requester) (k : Fin 12) (slot : Nat) (s : State), s.permit q .registers (0x40C09000 + 0x100 * k) true = .yes →
    s.get MKC_SEQ_CFG_EN k = 1 → s.get MKC_SEQ_STAT_STATE k ≠ 0 → SlotOf k slot s → SbPlain s slot 32 → s.get SEQ_ENTRIES k < 2 ^ 16 →
    s.get MKC_SEQ_PTR_COUNT k < 2 ^ 9 - 1 → Gives (.mkcSeqStop q k) s (fun t => t.word (sbBase + slot) % 2 ^ 2 = 2 ∧ t.get MKC_SEQ_STAT_STATE k = 0 ∧
      t.get MKC_SEQ_CFG_EN k = 1 ∧
      t.word (sbBase + slot) / 2 ^ 16 = s.get SEQ_ENTRIES k ∧ t.word (sbBase + slot + 8) = s.get SEQ_TRIG k / 2 ^ 8 % 2 ^ 32 ∧
      t.get MKC_SEQ_PTR_COUNT k = s.get MKC_SEQ_PTR_COUNT k + 1 ∧ t.bit EVT_SEEN_SEEN ((3152 + 4 * k) / 32) ((3152 + 4 * k) % 32) = true ∧
      (s.get MKC_SEQ_STAT_PEND k = 1 → t.get MKC_SEQ_STAT_PEND k = 0 ∧ t.get MKC_SEQ_CNT_DISCARDED k = min (s.get MKC_SEQ_CNT_DISCARDED k + 1) (2 ^ 16 - 1)))) ∧
  (∀ (ts : BitVec 40) (codes : List (BitVec 14)) (s : State), s.get MKC_CTRL_ADC_EN 0 = 1 → (∀ k : Nat, k < 12 → s.get MKC_SEQ_STAT_STATE k = 0) →
    Gives (.adcSample ts codes) s (fun t => t.adc = s.adc ++ [⟨ts.toNat, s.get CORE_COUNT 0, codes.map BitVec.toNat, []⟩] ∧ t.mem = s.mem ∧
      t.events = s.events ∧ CellsBut s t [] [SEQ_EDGES])) ∧
  (∀ (ts : BitVec 40) (codes : List (BitVec 14)) (k : Fin 12) (s : State), s.get MKC_CTRL_ADC_EN 0 = 1 → 8 ≤ k.val →
    (∀ j : Nat, j < 12 → j ≠ k → s.get MKC_SEQ_STAT_STATE j = 0) → s.get MKC_SEQ_STAT_STATE k = 2 →
    (ts.toNat + 2 ^ 40 - s.get SEQ_START k % 2 ^ 40) % 2 ^ 40 < 2 ^ 39 → s.get SEQ_TAKEN k < max 1 (s.get MKC_SEQ_N_MAXN k) →
    (s.get SEQ_TAKEN k = 0 ∨ max 1 (s.get MKC_SEQ_N_DIV k) ≤ s.get SEQ_EDGES k + 1) → s.get SEQ_TAKEN k < 2 ^ 12 →
    Gives (.adcSample ts codes) s (fun t => t.adc = s.adc ++ [⟨ts.toNat, s.get CORE_COUNT 0, codes.map BitVec.toNat, [k.val]⟩] ∧
      t.get SEQ_TAKEN k = s.get SEQ_TAKEN k + 1 ∧ t.get SEQ_EDGES k = 0 ∧
      (s.get SEQ_TAKEN k = 0 → t.get SEQ_START k = ts.toNat) ∧ CellsBut s t [(SEQ_TAKEN, k), (SEQ_START, k)] [SEQ_EDGES])) ∧
  (∀ (ts : BitVec 40) (codes : List (BitVec 14)) (s : State), s.get MKC_CTRL_ADC_EN 0 = 0 → exec (.adcSample ts codes) s = .next s) ∧
  (∀ (x : AdcSample) (rest : List AdcSample) (c : Fin 8) (v : Nat) (s : State), s.adc = x :: rest → x.seqs = [] →
    400 ≤ s.get CORE_COUNT 0 - x.cycle → v = x.codes.getD c 0 % 2 ^ 14 → (∀ k : Nat, k < 12 → s.get MKC_SEQ_CFG_TRIG k ≠ 3) →
    Gives .adcResult s (fun t => t.adc = rest ∧ t.get MKC_ADC_LAST_VALUE c = v ∧
      ((s.get ADC_LOW c = 1 ∧ s.get MKC_ADC_THR_THR c ≤ v ∧ s.get MKC_ADC_THR_CROSS_EN c % 2 = 1) ∨
       (s.get ADC_HIGH c = 1 ∧ v + s.get MKC_ADC_THR_HYST c ≤ s.get MKC_ADC_THR_THR c ∧ s.get MKC_ADC_THR_CROSS_EN c / 2 % 2 = 1) →
        t.bit EVT_SEEN_SEEN 100 c = true) ∧
      ((∀ d : Nat, d < 8 → s.get MKC_ADC_THR_CROSS_EN d = 0) → t.events = s.events) ∧
      t.get ADC_LOW c = (if v + s.get MKC_ADC_THR_HYST c < s.get MKC_ADC_THR_THR c then 1 else if s.get MKC_ADC_THR_THR c ≤ v then 0 else
        s.get ADC_LOW c) ∧ t.mem = s.mem)) ∧
  (∀ (x : AdcSample) (k : Fin 12) (slot n : Nat) (s : State), s.adc = [x] → x.seqs = [k.val] → 400 ≤ s.get CORE_COUNT 0 - x.cycle →
    (∀ d : Nat, d < 8 → s.get MKC_ADC_THR_CROSS_EN d = 0) → n = s.get SEQ_ENTRIES k → n < 2 ^ 15 → s.get MKC_SEQ_CFG_MASK k % 2 ^ 8 = 0x81 →
    SlotOf k slot s → SbPlain s (slot + 32 + 2 * n) 4 → s.get SEQ_WRITTEN k < 2 ^ 12 →
    Gives .adcResult s (fun t => t.mem = (s.putBytes (sbBase + slot + 32 + 2 * n) (toBytes 2 (x.codes.getD 0 0 % 2 ^ 14) ++
        toBytes 2 (x.codes.getD 7 0 % 2 ^ 14))).mem ∧ t.get SEQ_ENTRIES k = n + 2 ∧ t.get SEQ_WRITTEN k = s.get SEQ_WRITTEN k + 1 ∧
      t.get SEQ_END k = x.ts % 2 ^ 40 ∧ t.adc = [])) ∧
  (∀ (s : State), (∀ x ∈ s.adc.head?, s.get CORE_COUNT 0 - x.cycle < 400) → exec .adcResult s = .next s)

/-- Events: routes, delivery to core inputs and logs, MSI-X messages and masks, log records, acknowledgement (R301, R302, R303, R304, R305, R306, R307, R324). -/
def Obligations.EventMatrix : Prop :=
  (∀ (q : Requester) (src : Fin 4096) (v : BitVec 64) (s : State), (q = .cc ∨ (q = .pf ∧ 256 ≤ src.val)) → Gives (.evtRouteWrite q src v) s (fun t =>
    t.get EVT_ROUTE_KIND_A src = v.toNat % 2 ^ 2 ∧ t.get EVT_ROUTE_INPUT_A src = v.toNat / 2 ^ 2 % 2 ^ 6 ∧
    t.get EVT_ROUTE_COURSE_A src = v.toNat / 2 ^ 8 % 2 ^ 5 ∧ t.get EVT_ROUTE_VECTOR_A src = v.toNat / 2 ^ 13 % 2 ^ 11 ∧
    t.get EVT_ROUTE_LOG_A src = v.toNat / 2 ^ 24 % 2 ^ 5 ∧ t.get EVT_ROUTE_KIND_B src = v.toNat / 2 ^ 32 % 2 ^ 2 ∧
    t.get EVT_ROUTE_INPUT_B src = v.toNat / 2 ^ 34 % 2 ^ 6 ∧ t.get EVT_ROUTE_COURSE_B src = v.toNat / 2 ^ 40 % 2 ^ 5 ∧
    t.get EVT_ROUTE_VECTOR_B src = v.toNat / 2 ^ 45 % 2 ^ 11 ∧ t.get EVT_ROUTE_LOG_B src = v.toNat / 2 ^ 56 % 2 ^ 5 ∧ Quiet s t ∧
    CellsBut s t [(EVT_ROUTE_KIND_A, src), (EVT_ROUTE_INPUT_A, src), (EVT_ROUTE_COURSE_A, src), (EVT_ROUTE_VECTOR_A, src), (EVT_ROUTE_LOG_A, src),
      (EVT_ROUTE_KIND_B, src), (EVT_ROUTE_INPUT_B, src), (EVT_ROUTE_COURSE_B, src), (EVT_ROUTE_VECTOR_B, src), (EVT_ROUTE_LOG_B, src)] [])) ∧
  (∀ (q : Requester) (src : Fin 4096) (v : BitVec 64) (s : State), q ≠ .cc → (q = .pf → src.val < 256) →
    exec (.evtRouteWrite q src v) s = .next (s.refuse q (0x40D00000 + 8 * src) 1)) ∧
  (∀ (e : Raised) (rest : List Raised) (n : Fin 32) (s : State), s.get FATAL_PATH 0 = 0 → s.events = e :: rest → e.cycle + 2 ≤ s.get CORE_COUNT 0 →
    e.routeA.kind = 1 → e.routeA.course = n.val → e.routeA.input < 56 → e.routeA.log = 31 → e.routeB.kind = 0 → e.routeB.log = 31 →
    (s.get CRS_ON n = 1 → s.get INPUT_AT (64 * n + e.routeA.input) ≠ e.cycle + 1 → Gives .eventDelivery s (fun t => t.events = rest ∧
      t.bit CRS_EVT_PEND_PEND n e.routeA.input = true ∧ (t.bit CRS_EVT_DUP_DUP n e.routeA.input = true ↔
        (s.bit CRS_EVT_PEND_PEND n e.routeA.input = true ∨ s.bit CRS_EVT_DUP_DUP n e.routeA.input = true)) ∧
      t.get INPUT_AT (64 * n + e.routeA.input) = (e.cycle + 1) % 2 ^ 64 ∧ t.out = s.out ∧ t.mem = s.mem ∧ t.logRecs = s.logRecs ∧
      CellsBut s t [(CRS_EVT_PEND_PEND, n), (CRS_EVT_DUP_DUP, n), (INPUT_AT, 64 * n + e.routeA.input)] [])) ∧
    (s.get CRS_ON n = 1 → s.get INPUT_AT (64 * n + e.routeA.input) = e.cycle + 1 → exec .eventDelivery s = .next { s with events := rest }) ∧
    (s.get CRS_ON n = 0 → exec .eventDelivery s = .next ({ s with events := rest }.put EVT_CNT_ROUTE_OFF 0
      (min (s.get EVT_CNT_ROUTE_OFF 0 + 1) (2 ^ 32 - 1))))) ∧
  (∀ (e : Raised) (rest : List Raised) (i : Fin 64) (s : State), s.get FATAL_PATH 0 = 0 → s.events = e :: rest → e.cycle + 2 ≤ s.get CORE_COUNT 0 →
    e.routeA.kind = 3 → e.routeA.log < 16 → e.routeB.kind = 2 → e.routeB.input = i.val → e.routeB.log = e.routeA.log → s.logRecs = [] →
    s.get INPUT_AT (2048 + i) ≠ e.cycle + 1 → s.bit CC_PEND 0 i = false →
    Gives .eventDelivery s (fun t => t.events = rest ∧ t.bit CC_PEND 0 i = true ∧ t.bit CC_DUP 0 i = s.bit CC_DUP 0 i ∧
      t.logRecs = [⟨e.routeA.log, e.src, e.detail, e.stampA.1, e.stampA.2, e.cycle⟩] ∧ t.out = s.out ∧ t.mem = s.mem ∧
      CellsBut s t [(CC_PEND, 0), (INPUT_AT, 2048 + i)] [])) ∧
  (∀ (s : State), (s.get FATAL_PATH 0 ≠ 0 ∨ ∀ e ∈ s.events.head?, s.get CORE_COUNT 0 < e.cycle + 2) → exec .eventDelivery s = .next s) ∧
  (∀ (v : Fin 2048) (f : Fin 16) (s : State), VecOf v f s → s.get VEC_DUE v ≠ 0 →
    (s.get MSIX_EN f = 0 → exec (.msixMessageSend v) s = .next ((s.put VEC_DUE v 0).put VEC_K v 0)) ∧
    (s.get MSIX_EN f = 1 → (s.get MSIX_MASK v = 1 ∨ s.get MSIX_FMASK f = 1) →
      exec (.msixMessageSend v) s = .next ((s.put VEC_DUE v 0).put VEC_PEND v 1)) ∧
    (s.get MSIX_EN f = 1 → s.get MSIX_MASK v = 0 → s.get MSIX_FMASK f = 0 → exec (.msixMessageSend v) s = .next { s.put VEC_DUE v
      (s.get VEC_DUE v - 1) with out := s.out ++ [.msix f (s.get MSIX_ADDR v) (s.get MSIX_DATA v)] })) ∧
  (∀ (v : Fin 2048) (s : State), (s.get VEC_DUE v = 0 → exec (.msixMessageSend v) s = .next s) ∧ exec (.msixTimeLimit v) s =
    .next (if s.get EVT_VEC_MOD_TIME_US v ≠ 0 ∧ s.get VEC_K v ≠ 0 ∧ s.get EVT_VEC_MOD_TIME_US v * 800 ≤ s.get CORE_COUNT 0 - s.get VEC_FIRST v then
      (s.put VEC_DUE v (min (s.get VEC_DUE v + 1) (2 ^ 16 - 1))).put VEC_K v 0 else s)) ∧
  (∀ (v : Fin 2048) (f : Fin 16) (s : State), VecOf v f s → s.get VEC_PEND v = 1 → s.get MSIX_FMASK f = 0 → s.get MSIX_EN f = 1 →
    exec (.msixUnmask f (some v)) s = .next { (s.put MSIX_MASK v 0).put VEC_PEND v 0 with
      out := s.out ++ [.msix f (s.get MSIX_ADDR v) (s.get MSIX_DATA v)] }) ∧
  (∀ (v : Fin 2048) (f : Fin 16) (s : State), VecOf v f s → (s.get VEC_PEND v = 0 ∨ s.get MSIX_FMASK f = 1) →
    exec (.msixUnmask f (some v)) s = .next (s.put MSIX_MASK v 0)) ∧
  (∀ (v : Fin 2048) (f : Fin 16) (s : State), VecOf v f s → s.listed VEC_PEND = [(v.val, 1)] → s.get VEC_PEND v = 1 → s.get MSIX_MASK v = 0 →
    s.get MSIX_EN f = 1 → Gives (.msixUnmask f none) s (fun t => t.get MSIX_FMASK f = 0 ∧ t.get VEC_PEND v = 0 ∧
      t.out = s.out ++ [.msix f (s.get MSIX_ADDR v) (s.get MSIX_DATA v)] ∧ CellsBut s t [(MSIX_FMASK, f), (VEC_PEND, v)] [])) ∧
  (∀ (l : Fin 16) (x : LogRec) (off : Nat) (s : State), s.logRecs = [x] → x.log = l.val → s.get EVT_LOG_CFG_EN l = 1 → s.get EVT_LOG_PTR_FAULT l = 0 →
    s.get EVT_LOG_PTR_COUNT l < 2 ^ min 14 (max 4 (s.get EVT_LOG_CFG_LOG2 l)) → s.get EVT_LOG_CFG_LOC l = 0 →
    off = 64 * s.get EVT_LOG_ADDR_ADDR l + 16 * ((s.get EVT_LOG_PTR_HEAD l + s.get EVT_LOG_PTR_COUNT l) %
      2 ^ min 14 (max 4 (s.get EVT_LOG_CFG_LOG2 l))) → SbPlain s off 16 →
    (off + 16 ≤ 2 ^ 26 → s.areaReserved off 16 = true → Gives (.logRecordWrite l) s (fun t => t.logRecs = [] ∧
      t.get EVT_LOG_PTR_COUNT l = s.get EVT_LOG_PTR_COUNT l + 1 ∧ t.get LOG_DROPPED l = 0 ∧
      t.mem = (s.putBytes (sbBase + off) (toBytes 4 (x.src + s.get LOG_DROPPED l * 2 ^ 16) ++ toBytes 4 (x.ts / 2 ^ 8) ++
        toBytes 4 (x.ts % 2 ^ 8 + x.dom * 2 ^ 8) ++ toBytes 4 x.detail)).mem ∧ t.out = s.out ∧ t.events = s.events ∧
      CellsBut s t [(EVT_LOG_PTR_COUNT, l), (LOG_DROPPED, l)] [])) ∧
    ((2 ^ 26 < off + 16 ∨ s.areaReserved off 16 = false) → exec (.logRecordWrite l) s = .next (({ s with logRecs := [] }.put LOG_DROPPED l
      (min (s.get LOG_DROPPED l + 1) (2 ^ 16 - 1))).put EVT_CNT_LOG_LOST 0 (min (s.get EVT_CNT_LOG_LOST 0 + 1) (2 ^ 32 - 1))))) ∧
  (∀ (l : Fin 16) (x : LogRec) (s : State), s.logRecs = [x] → x.log = l.val →
    (s.get EVT_LOG_CFG_EN l = 0 → exec (.logRecordWrite l) s = .next { s with logRecs := [] }) ∧
    (s.get EVT_LOG_CFG_EN l = 1 → (s.get EVT_LOG_PTR_FAULT l = 1 ∨ 2 ^ min 14 (max 4 (s.get EVT_LOG_CFG_LOG2 l)) ≤ s.get EVT_LOG_PTR_COUNT l) →
      exec (.logRecordWrite l) s = .next (({ s with logRecs := [] }.put LOG_DROPPED l
        (min (s.get LOG_DROPPED l + 1) (2 ^ 16 - 1))).put EVT_CNT_LOG_LOST 0 (min (s.get EVT_CNT_LOG_LOST 0 + 1) (2 ^ 32 - 1))))) ∧
  (∀ (l : Fin 16) (x : LogRec) (c va pa : Nat) (s : State), s.logRecs = [x] → x.log = l.val → s.get EVT_LOG_CFG_EN l = 1 →
    s.get EVT_LOG_PTR_FAULT l = 0 → s.get EVT_LOG_PTR_COUNT l < 2 ^ min 14 (max 4 (s.get EVT_LOG_CFG_LOG2 l)) → s.get EVT_LOG_CFG_LOC l = 1 →
    c = s.get EVT_LOG_CFG_CTX l → va = 64 * s.get EVT_LOG_ADDR_ADDR l + 16 * ((s.get EVT_LOG_PTR_HEAD l + s.get EVT_LOG_PTR_COUNT l) %
      2 ^ min 14 (max 4 (s.get EVT_LOG_CFG_LOG2 l))) → va < 2 ^ 48 → s.tlb = [⟨c, 0, va / 4096, pa, true, true⟩] → s.xltFaults = [] →
    s.get XLT_CTX_CFG_PASID_EN c = 0 → Gives (.logRecordWrite l) s (fun t => t.logRecs = [] ∧
      t.get EVT_LOG_PTR_COUNT l = s.get EVT_LOG_PTR_COUNT l + 1 ∧ t.mem = s.mem ∧
      t.out = s.out ++ [.pcieWrite (s.get XLT_CTX_CFG_FUNC c) none (pa + va % 4096) (toBytes 4 (x.src + s.get LOG_DROPPED l * 2 ^ 16) ++
        toBytes 4 (x.ts / 2 ^ 8) ++ toBytes 4 (x.ts % 2 ^ 8 + x.dom * 2 ^ 8) ++ toBytes 4 x.detail)])) ∧
  (∀ (l : Fin 16) (s : State), (∀ x ∈ s.logRecs, x.log ≠ l.val) → exec (.logRecordWrite l) s = .next s) ∧
  (∀ (q : Requester) (l : Fin 16) (n : BitVec 15) (s : State), s.permit q .registers (0x40D30014 + 0x20 * l) true = .yes →
    exec (.evtLogAck q l n) s = .next (if n.toNat = 0 ∨ s.get EVT_LOG_PTR_COUNT l < n.toNat then s.put EVT_LOG_PTR_ACK_ERR l 1 else
      (s.put EVT_LOG_PTR_HEAD l ((s.get EVT_LOG_PTR_HEAD l + n.toNat) % 2 ^ min 14 (max 4 (s.get EVT_LOG_CFG_LOG2 l)))).put
        EVT_LOG_PTR_COUNT l (s.get EVT_LOG_PTR_COUNT l - n.toNat))) ∧
  (∀ (q : Requester) (l : Fin 16) (v : BitVec 16) (s : State), s.permit q .registers (0x40D30000 + 0x20 * l) true = .yes →
    Gives (.evtLogEnable q l v) s (fun t => t.get EVT_LOG_CFG_EN l = v.toNat % 2 ∧ t.get EVT_LOG_CFG_LOC l = v.toNat / 2 % 2 ∧
      t.get EVT_LOG_CFG_LOG2 l = v.toNat / 2 ^ 2 % 2 ^ 4 ∧ t.get EVT_LOG_CFG_CTX l = v.toNat / 2 ^ 6 % 2 ^ 6 ∧
      t.get EVT_LOG_CFG_DOM l = v.toNat / 2 ^ 12 ∧ (v.toNat % 2 = 1 → t.get EVT_LOG_PTR_HEAD l = 0 ∧ t.get EVT_LOG_PTR_COUNT l = 0) ∧
      (v.toNat % 2 = 0 → t.get EVT_LOG_PTR_COUNT l = s.get EVT_LOG_PTR_COUNT l) ∧ Quiet s t ∧
      CellsBut s t [(EVT_LOG_CFG_EN, l), (EVT_LOG_CFG_LOC, l), (EVT_LOG_CFG_LOG2, l), (EVT_LOG_CFG_CTX, l), (EVT_LOG_CFG_DOM, l),
        (EVT_LOG_PTR_HEAD, l), (EVT_LOG_PTR_COUNT, l)] []))

/-- DMA streams: descriptors, chunks, completion, faults, resume and abort; walks, invalidation and fault queues (R308, R309, R310, R311, R312, R313, R314, R315, R316, R317, R318, R319). -/
def Obligations.StreamsAndTranslation : Prop :=
  (∀ (q : Requester) (k : Fin 128) (e : Ecc) (tail : BitVec 12) (a : Nat) (s : State), OwnsStream q k s → e ≠ .uncorr →
    s.get XLT_STR_STAT_STATE k = 0 → s.get XLT_STR_PTR_HEAD k ≠ tail.toNat → a = sbBase + 64 * s.get XLT_STR_RING_BASE k + 32 * (s.get XLT_STR_PTR_HEAD k %
      2 ^ min 12 (max 4 (s.get XLT_STR_RING_LOG2 k))) → s.word (a + 28) / 2 ^ 31 = 1 →
    Gives (.xltStrTail q ⟨k, e⟩ tail) s (fun t => t.get XLT_STR_PTR_TAIL k = tail.toNat ∧ t.get XLT_STR_STAT_DONE_BYTES k = 0 ∧
      t.get SBD_ECC_CORR 0 = (if e = .corr then min (s.get SBD_ECC_CORR 0 + 1) (2 ^ 16 - 1) else s.get SBD_ECC_CORR 0) ∧
      (∀ i : Fin 8, t.get STR_W (8 * k + i) = s.word (a + 4 * i)) ∧
      (s.word (a + 28) / 2 ^ 16 % 2 ^ 15 ≠ 0 ∨ s.word a / 2 ^ 28 ≠ 0 ∨ 2 ^ 16 ≤ s.word (a + 8) ∨ 2 ^ 16 ≤ s.word (a + 16) →
        t.get XLT_STR_STAT_STATE k = 2 ∧ t.get STR_END k = 9) ∧
      (s.word (a + 28) / 2 ^ 16 % 2 ^ 15 = 0 → s.word a / 2 ^ 27 = 1 → s.word (a + 8) = 0 → s.word (a + 16) = 0 → 0 < s.word a % 2 ^ 24 →
        t.get XLT_STR_STAT_STATE k = 1))) ∧
  (∀ (q : Requester) (k : Fin 128) (tail : BitVec 12) (s : State), OwnsStream q k s → s.get XLT_STR_STAT_STATE k = 0 →
    s.get XLT_STR_PTR_HEAD k ≠ tail.toNat → Gives (.xltStrTail q ⟨k, .uncorr⟩ tail) s (fun t =>
      t.get XLT_STR_PTR_TAIL k = tail.toNat ∧ t.get XLT_STR_PTR_HEAD k = s.get XLT_STR_PTR_HEAD k ∧ t.get XLT_STR_STAT_STATE k = 3 ∧
      t.get XLT_STR_STAT_CAUSE k = 6 ∧ t.get XLT_STR_STAT_DONE_BYTES k = 0 ∧
      t.get SBD_ECC_UNCORR 0 = min (s.get SBD_ECC_UNCORR 0 + 1) (2 ^ 16 - 1))) ∧
  (∀ (q : Requester) (k : Fin 128) (e : Ecc) (tail : BitVec 12) (a : Nat) (s : State), OwnsStream q k s →
    a = sbBase + 64 * s.get XLT_STR_RING_BASE k + 32 * (s.get XLT_STR_PTR_HEAD k % 2 ^ min 12 (max 4 (s.get XLT_STR_RING_LOG2 k))) →
    (s.get XLT_STR_STAT_STATE k ≠ 0 ∨ s.get XLT_STR_PTR_HEAD k = tail.toNat →
      exec (.xltStrTail q ⟨k, e⟩ tail) s = .next ((s.put XLT_STR_PTR_TAIL k tail.toNat).put STR_STUCK k 0)) ∧
    (s.get XLT_STR_STAT_STATE k = 0 → s.get XLT_STR_PTR_HEAD k ≠ tail.toNat → s.word (a + 28) / 2 ^ 31 = 0 →
      exec (.xltStrTail q ⟨k, .none⟩ tail) s = .next (((s.put XLT_STR_PTR_TAIL k tail.toNat).put STR_STUCK k 0).put STR_STUCK k 1))) ∧
  (∀ (q : Requester) (k : Fin 128) (e : Ecc) (tail : BitVec 12) (s : State), ¬ OwnsStream q k s →
    exec (.xltStrTail q ⟨k, e⟩ tail) s = .next (s.refuse q (0x40E20008 + 0x20 * k) 1) ∧
    (q ≠ .cc → exec (.xltStrResume q ⟨k, e⟩) s = .next (s.refuse q (0x40E2000C + 0x20 * k) 1) ∧
      exec (.xltStrAbort q ⟨k, e⟩) s = .next (s.refuse q (0x40E2000C + 0x20 * k) 1))) ∧
  (∀ (k : Fin 128) (s : State), s.get STR_END k = 9 → exec (.streamAtMatch k) s = .next (if s.get XLT_STR_STAT_STATE k = 1 ∧
      s.reachedNs (s.get XLT_STR_CFG_DOM k) (s.get STR_W (8 * k + 5)) = true then s.put XLT_STR_STAT_STATE k 2 else s)) ∧
  (∀ (k : Fin 128) (len src dst : Nat) (s : State), s.get XLT_STR_STAT_STATE k = 1 → StreamAt k len 0 0 src dst 0 (s.put XLT_STR_STAT_STATE k 2) →
    InSoundboard src len → InSoundboard dst len → 0 < len →
    exec (.streamAtMatch k) s = .next (if s.reachedNs (s.get XLT_STR_CFG_DOM k) (s.get STR_W (8 * k + 5)) = true then
      s.put XLT_STR_STAT_STATE k 2 else s)) ∧
  (∀ (host : Option (List Byte)) (k : Fin 128) (len src dst done n : Nat) (s : State), s.listed XLT_STR_STAT_STATE = [(k.val, 2)] →
    StreamAt k len 0 0 src dst done s → InSoundboard src len → InSoundboard dst len → done < len →
    n = min (min 512 (len - done)) (min (4096 - (src + done) % 4096) (4096 - (dst + done) % 4096)) → SbPlain s (dst + done - sbBase) n →
    Gives (.chunkIssue host .none) s (fun t => t.get XLT_STR_STAT_DONE_BYTES k = done + n ∧
      t.mem = (s.putBytes (dst + done) (s.bytes (src + done) n)).mem ∧ t.out = s.out ∧ Quiet { s with mem := t.mem } t ∧
      CellsBut s t [(XLT_STR_STAT_DONE_BYTES, k)] [STR_ROT])) ∧
  (∀ (bs : List Byte) (k : Fin 128) (c len src dst done n pa : Nat) (s : State), s.listed XLT_STR_STAT_STATE = [(k.val, 2)] →
    StreamAt k len 1 0 src dst done s → s.get XLT_STR_CFG_OWNER k = 33 → c = s.get XLT_STR_CFG_CTX k → src + len ≤ 2 ^ 48 → InSoundboard dst len →
    done + n = len → 0 < n → n ≤ 512 → (src + done) % 4096 + n ≤ 4096 → (dst + done) % 4096 + n ≤ 4096 →
    s.tlb = [⟨c, 0, (src + done) / 4096, pa, true, false⟩] → s.get XLT_CTX_CFG_PASID_EN c = 0 → SbPlain s (dst + done - sbBase) n →
    (bs.length = n → Gives (.chunkIssue (some bs) .none) s (fun t => t.get XLT_STR_STAT_DONE_BYTES k = len ∧ t.mem = (s.putBytes (dst + done) bs).mem ∧
      t.out = s.out ++ [.pcieRead (s.get XLT_CTX_CFG_FUNC c) none (pa + (src + done) % 4096) n])) ∧
    Gives (.chunkIssue none .none) s (fun t => t.get XLT_STR_STAT_DONE_BYTES k = done ∧ t.mem = s.mem ∧ t.get STR_FK k = 5 ∧ t.get STR_FW k = 0)) ∧
  (∀ (host : Option (List Byte)) (k : Fin 128) (len src dst done : Nat) (s : State), s.listed XLT_STR_STAT_STATE = [(k.val, 2)] →
    StreamAt k len 0 0 src dst done s → InSoundboard src len → InSoundboard dst len → done < len →
    Gives (.chunkIssue host .uncorr) s (fun t => t.get XLT_STR_STAT_DONE_BYTES k = done ∧ t.mem = s.mem ∧ t.get STR_FK k = 6 ∧ t.get STR_FW k = 0)) ∧
  (∀ (host : Option (List Byte)) (e : Ecc) (s : State), s.listed XLT_STR_STAT_STATE = [] → exec (.chunkIssue host e) s = .next s) ∧
  (∀ (w : Walk) (x : Waiter) (e : Nat) (s : State), s.walks = [w] → w.waiters = [x] → w.again = false →
    s.listed XLT_STR_STAT_STATE = [] → s.replies = [] → w.level < 4 → e = w.table + 8 * (w.page / 512 ^ w.level % 512) →
    exec (.walkEntryRead 0 none) s = .next { s with walks := [], xltFaults := s.xltFaults ++ [⟨x, w.ctx, 2, w.level, e⟩] }) ∧
  (∀ (w : Walk) (x : Waiter) (v : BitVec 64) (e : Nat) (s : State), s.walks = [w] → w.waiters = [x] → w.again = false →
    s.listed XLT_STR_STAT_STATE = [] → s.replies = [] → w.level < 4 → e = w.table + 8 * (w.page / 512 ^ w.level % 512) →
    (v.toNat % 2 = 0 →
      exec (.walkEntryRead 0 (some v)) s = .next { s with walks := [], xltFaults := s.xltFaults ++ [⟨x, w.ctx, 1, w.level, e⟩] }) ∧
    (v.toNat % 2 = 1 → (v.toNat / 2 ^ 4 % 2 ^ 8 ≠ 0 ∨ 2 ^ 52 ≤ v.toNat ∨ (w.level = 3 ∧ v.toNat / 2 ^ 3 % 2 = 1) ∨
        (w.level = 2 ∧ v.toNat / 2 ^ 3 % 2 = 1 ∧ v.toNat / 2 ^ 12 % 2 ^ 18 ≠ 0) ∨
        (w.level = 1 ∧ v.toNat / 2 ^ 3 % 2 = 1 ∧ v.toNat / 2 ^ 12 % 2 ^ 9 ≠ 0)) →
      exec (.walkEntryRead 0 (some v)) s = .next { s with walks := [], xltFaults := s.xltFaults ++ [⟨x, w.ctx, 2, w.level, e⟩] })) ∧
  (∀ (w : Walk) (x : Waiter) (v : BitVec 64) (pa : Nat) (s : State), s.walks = [w] → w.waiters = [x] → w.again = false →
    s.listed XLT_STR_STAT_STATE = [] → s.replies = [] → w.level = 0 → v.toNat % 2 = 1 → v.toNat / 2 ^ 4 % 2 ^ 8 = 0 → v.toNat < 2 ^ 52 →
    pa = v.toNat / 2 ^ 12 * 2 ^ 12 → s.tlb = [] →
    (NoDevice s pa 4096 → v.toNat / (if x.write then 4 else 2) % 2 = 1 → exec (.walkEntryRead 0 (some v)) s =
      .next { s with walks := [], tlb := [⟨w.ctx, 0, w.page, pa, v.toNat / 2 % 2 == 1, v.toNat / 4 % 2 == 1⟩] }) ∧
    (NoDevice s pa 4096 → v.toNat / (if x.write then 4 else 2) % 2 = 0 → exec (.walkEntryRead 0 (some v)) s = .next 
      { s with walks := [], xltFaults := s.xltFaults ++ [⟨x, w.ctx, 4, 0, w.table + 8 * (w.page % 512)⟩] }) ∧
    (¬ NoDevice s pa 4096 → exec (.walkEntryRead 0 (some v)) s = .next 
      { s with walks := [], xltFaults := s.xltFaults ++ [⟨x, w.ctx, 3, 0, pa⟩] })) ∧
  (∀ (w : Walk) (v : BitVec 64) (pa : Nat) (s : State), s.walks = [w] → w.again = false → s.listed XLT_STR_STAT_STATE = [] → s.replies = [] →
    w.level = 3 → v.toNat % 2 ^ 12 = 1 → v.toNat < 2 ^ 52 → pa = v.toNat / 2 ^ 12 * 2 ^ 12 → s.walkCache = [] → NoDevice s pa 4096 →
    s.get XLT_CTX_CFG_PASID_EN w.ctx = 0 → Gives (.walkEntryRead 0 (some v)) s (fun t => t.walks = [{ w with level := 2, table := pa }] ∧
      t.out = s.out ++ [.pcieRead (s.get XLT_CTX_CFG_FUNC w.ctx) none (pa + 8 * (w.page / 2 ^ 18 % 512)) 8] ∧
      t.walkCache = [⟨w.ctx, 2, w.page / 2 ^ 27 * 2 ^ 27, pa⟩] ∧
      t.get XLT_TLB_CNT_WALK_READS 0 = min (s.get XLT_TLB_CNT_WALK_READS 0 + 1) (2 ^ 32 - 1) ∧ t.xltFaults = s.xltFaults)) ∧
  (∀ (k : Fin 128) (e : Ecc) (st done a h : Nat) (s : State), s.get XLT_STR_STAT_STATE k = 2 → s.get STR_TRB k = 0 → done = s.get XLT_STR_STAT_DONE_BYTES k →
    done < 2 ^ 24 → (s.get STR_END k = st + 1 ∨ (s.get STR_END k = 0 ∧ st = 0 ∧ s.get STR_W (8 * k) % 2 ^ 24 ≤ done)) → st < 10 →
    h = s.get XLT_STR_PTR_HEAD k → a = 64 * s.get XLT_STR_RING_BASE k + 32 * (h % 2 ^ min 12 (max 4 (s.get XLT_STR_RING_LOG2 k))) →
    SbPlain s (a + 24) 8 → s.get XLT_STR_PTR_TAIL k = (h + 1) % 2 ^ min 12 (max 4 (s.get XLT_STR_RING_LOG2 k)) →
    Gives (.descriptorComplete ⟨k, e⟩) s (fun t => t.mem = (s.putBytes (sbBase + a + 24) (toBytes 4 (st + done * 2 ^ 8) ++
        toBytes 4 (s.get STR_W (8 * k + 7) % 2 ^ 31))).mem ∧
      t.get XLT_STR_PTR_HEAD k = (h + 1) % 2 ^ min 12 (max 4 (s.get XLT_STR_RING_LOG2 k)) ∧ t.get XLT_STR_STAT_STATE k = 0 ∧
      (st ≠ 0 ∨ s.get STR_W (8 * k) / 2 ^ 26 % 2 = 1 → t.bit EVT_SEEN_SEEN (106 + k / 32) (k % 32) = true) ∧
      (st = 0 ∧ s.get STR_W (8 * k) / 2 ^ 26 % 2 = 0 → t.events = s.events) ∧ t.out = s.out ∧
      CellsBut s t [(XLT_STR_PTR_HEAD, k), (XLT_STR_STAT_STATE, k), (STR_END, k), (STR_FK, k), (STR_UNREAD, k)] evtCells)) ∧
  (∀ (k : Fin 128) (e : Ecc) (s : State), (s.get XLT_STR_STAT_STATE k ≠ 2 ∨ s.get STR_TRB k = 1 ∨ (s.get STR_END k = 0 ∧
    s.get XLT_STR_STAT_DONE_BYTES k < s.get STR_W (8 * k) % 2 ^ 24)) → exec (.descriptorComplete ⟨k, e⟩) s = .next s) ∧
  (∀ (k : Fin 128) (f : XltFault) (c n at' : Nat) (s : State), s.get XLT_STR_STAT_STATE k = 2 → s.get STR_END k = 0 → s.xltFaults = [f] → s.walks = [] →
    f.who.req = 64 + k → f.who.va < 2 ^ 48 → f.pa < 2 ^ 52 → f.kind < 8 → f.level < 8 → c = f.ctx → c < 64 → s.get XLT_FQ_CFG_EN c = 1 →
    n = s.get XLT_FQ_PTR_COUNT c → n < 2 ^ min 10 (max 4 (s.get XLT_FQ_CFG_LOG2 c)) →
    at' = 64 * s.get XLT_FQ_CFG_BASE c + 32 * ((s.get XLT_FQ_PTR_HEAD c + n) % 2 ^ min 10 (max 4 (s.get XLT_FQ_CFG_LOG2 c))) → SbPlain s at' 32 →
    Gives (.streamFaulted k) s (fun t => t.get XLT_STR_STAT_STATE k = 3 ∧ t.get XLT_STR_STAT_CAUSE k = f.kind ∧ t.get XLT_FQ_PTR_COUNT c = n + 1 ∧
      t.mem = (s.putBytes (sbBase + at') (toBytes 4 (f.kind + f.level * 2 ^ 4 + f.who.write.toNat * 2 ^ 7 + (64 + k) * 2 ^ 8 + c * 2 ^ 16) ++
        toBytes 8 f.who.va ++ toBytes 8 f.pa ++ toBytes 4 (s.now (s.get XLT_CFG_DOM 0) / 2 ^ 8) ++ toBytes 4 (s.now (s.get XLT_CFG_DOM 0) % 2 ^ 8) ++
        toBytes 4 (s.get XLT_STR_STAT_DONE_BYTES k % 2 ^ 24))).mem ∧ t.bit EVT_SEEN_SEEN (104 + c / 32) (c % 32) = true ∧ t.xltFaults = [] ∧
      CellsBut s t [(XLT_STR_STAT_STATE, k), (XLT_STR_STAT_CAUSE, k), (XLT_FQ_PTR_COUNT, c)] evtCells)) ∧
  (∀ (k : Fin 128) (c : Nat) (s : State), s.get XLT_STR_STAT_STATE k = 2 → s.get STR_END k = 0 → s.xltFaults = [] → s.get STR_FK k ≠ 0 →
    s.get XLT_STR_CFG_OWNER k = 63 → c = s.get XLT_STR_CFG_CTX k → s.get XLT_FQ_CFG_EN c = 0 →
    Gives (.streamFaulted k) s (fun t => t.get XLT_STR_STAT_STATE k = 3 ∧ t.get XLT_STR_STAT_CAUSE k = s.get STR_FK k % 2 ^ 4 ∧
      t.get XLT_FQ_LOST_LOST c = min (s.get XLT_FQ_LOST_LOST c + 1) (2 ^ 16 - 1) ∧ t.get XLT_FQ_PTR_OVR c ≠ 0 ∧
      (s.get XLT_FQ_PTR_OVR c = 0 → t.bit EVT_SEEN_SEEN (110 + c / 32) (c % 32) = true) ∧ t.mem = s.mem)) ∧
  (∀ (q : Requester) (k : Fin 128) (e : Ecc) (s : State), (OwnsStream q k s ∨ q = .cc) →
    (s.get XLT_STR_STAT_STATE k ≠ 3 → exec (.xltStrResume q ⟨k, e⟩) s = .next s) ∧
    (s.get XLT_STR_STAT_STATE k = 0 → exec (.xltStrAbort q ⟨k, e⟩) s = .next s)) ∧
  (∀ (q : Requester) (k : Fin 128) (e : Ecc) (len src dst done : Nat) (s : State), (OwnsStream q k s ∨ q = .cc) →
    s.get XLT_STR_STAT_STATE k = 3 → s.get STR_UNREAD k = 0 →
    StreamAt k len 0 0 src dst done ((s.put XLT_STR_STAT_STATE k 2).put STR_FK k 0) → InSoundboard src len → InSoundboard dst len →
    exec (.xltStrResume q ⟨k, e⟩) s = .next (((s.put XLT_STR_STAT_STATE k 2).put STR_FK k 0).put XLT_STR_STAT_CAUSE k 0)) ∧
  (∀ (q : Requester) (k : Fin 128) (e : Ecc) (st done a h : Nat) (s : State), (OwnsStream q k s ∨ q = .cc) → s.get STR_TRB k = 0 →
    s.get XLT_STR_STAT_STATE k ≠ 0 → s.get XLT_STR_STAT_STATE k < 4 → done = s.get XLT_STR_STAT_DONE_BYTES k → done < 2 ^ 24 →
    st = (if s.get XLT_STR_STAT_STATE k = 3 then s.get XLT_STR_STAT_CAUSE k else 9) → 0 < st → st < 10 →
    h = s.get XLT_STR_PTR_HEAD k → a = 64 * s.get XLT_STR_RING_BASE k + 32 * (h % 2 ^ min 12 (max 4 (s.get XLT_STR_RING_LOG2 k))) →
    SbPlain s (a + 24) 8 → s.get XLT_STR_PTR_TAIL k = (h + 1) % 2 ^ min 12 (max 4 (s.get XLT_STR_RING_LOG2 k)) →
    Gives (.xltStrAbort q ⟨k, e⟩) s (fun t => t.mem = (s.putBytes (sbBase + a + 24) (toBytes 4 (st + done * 2 ^ 8) ++
        toBytes 4 (s.get STR_W (8 * k + 7) % 2 ^ 31))).mem ∧ t.get XLT_STR_STAT_STATE k = 0 ∧
      t.get XLT_STR_PTR_HEAD k = (h + 1) % 2 ^ min 12 (max 4 (s.get XLT_STR_RING_LOG2 k)) ∧
      t.bit EVT_SEEN_SEEN (106 + k / 32) (k % 32) = true)) ∧
  (∀ (q : Requester) (kind : Fin 4) (ctx : Fin 64) (s : State), s.permit q .registers 0x40E00020 true = .yes → s.walks = [] →
    exec (.xltInvGo q kind ctx) s = .next (if s.get XLT_INV_BUSY 0 ≠ 0 then (s.put XLT_INV_KIND 0 kind).put XLT_INV_CTX 0 ctx else
      ((((((s.put XLT_INV_KIND 0 kind).put XLT_INV_CTX 0 ctx).put INV_KIND 0 kind).put INV_CTX 0 ctx).put INV_PAGE 0 (s.get XLT_INV_RANGE_VA 0)).put
        INV_N 0 (if s.get XLT_INV_RANGE_PAGES 0 = 0 then 65536 else s.get XLT_INV_RANGE_PAGES 0)).put XLT_INV_BUSY 0 1)) ∧
  (∀ (e : TlbEntry) (s : State), s.get XLT_INV_BUSY 0 = 1 → s.walks = [] → s.cmds = [] → s.listed XLT_STR_STAT_STATE = [] → s.tlb = [e] →
    Gives .invalidationComplete s (fun t => t.get XLT_INV_BUSY 0 = 0 ∧
      (t.tlb = [] ↔ (s.get INV_KIND 0 ≠ 1 ∧ s.get INV_KIND 0 ≠ 2) ∨ (e.ctx = s.get INV_CTX 0 ∧ (s.get INV_KIND 0 = 1 ∨
        (e.page < s.get INV_PAGE 0 + s.get INV_N 0 ∧ s.get INV_PAGE 0 < e.page + 512 ^ e.level)))) ∧ (t.tlb = [] ∨ t.tlb = [e]) ∧
      t.mem = s.mem ∧ t.out = s.out ∧ CellsBut s t [(XLT_INV_BUSY, 0)] [])) ∧
  (∀ (s : State), s.get XLT_INV_BUSY 0 = 0 → exec .invalidationComplete s = .next s) ∧
  (∀ (q : Requester) (c : Fin 64) (n : BitVec 11) (s : State), (q = .cc ∨ q = .pf) →
    exec (.xltFqAck q c n) s = .next (if n.toNat = 0 ∨ s.get XLT_FQ_PTR_COUNT c < n.toNat then s.put XLT_FQ_PTR_ACK_ERR c 1 else
      (s.put XLT_FQ_PTR_HEAD c ((s.get XLT_FQ_PTR_HEAD c + n.toNat) % 2 ^ min 10 (max 4 (s.get XLT_FQ_CFG_LOG2 c)))).put
        XLT_FQ_PTR_COUNT c (s.get XLT_FQ_PTR_COUNT c - n.toNat))) ∧
  (∀ (m : Fin 32) (c : Fin 64) (n : BitVec 11) (s : State), s.get CRS_XLT_CTX m ≠ c.val →
    exec (.xltFqAck (.course m) c n) s = .next (s.refuse (.course m) (0x40E10018 + 0x40 * c) 1)) ∧
  (∀ (c : Fin 64) (v : BitVec 25) (s : State), s.permit .cc .registers (0x40E10010 + 0x40 * c) true = .yes → Gives (.xltFqEnable .cc c v) s (fun t =>
    t.get XLT_FQ_CFG_BASE c = v.toNat % 2 ^ 20 ∧ t.get XLT_FQ_CFG_LOG2 c = v.toNat / 2 ^ 20 % 2 ^ 4 ∧ t.get XLT_FQ_CFG_EN c = v.toNat / 2 ^ 24 ∧
    (v.toNat / 2 ^ 24 = 1 → t.get XLT_FQ_PTR_HEAD c = 0 ∧ t.get XLT_FQ_PTR_COUNT c = 0) ∧ Quiet s t ∧
    CellsBut s t [(XLT_FQ_CFG_BASE, c), (XLT_FQ_CFG_LOG2, c), (XLT_FQ_CFG_EN, c), (XLT_FQ_PTR_HEAD, c), (XLT_FQ_PTR_COUNT, c)] []))

/-- Command rings: doorbells, fetching a descriptor, enabling, FAULT, the checks that refuse a command before its own, final replies (R325, R326, R327, R328, R329, R330, R331, R339, R462, R463). -/
def Obligations.HostRings : Prop :=
  (∀ (q : Requester) (r : Fin 32) (v : BitVec 12) (s : State), hostFunc q = some (s.get HIF_RING_OWN_FUNC r) → s.get RST_BOOT_STAGE 0 ≠ 6 →
    (s.get HIF_RING_CTRL_EN r = 1 → exec (.hifDbCmd q r v) s = .next (s.put RING_TAIL r v.toNat)) ∧
    (s.get HIF_RING_CTRL_EN r = 1 → s.replies = [] → s.fetched = [] → exec (.hifDbSts q r v) s = .next (s.put RING_STS_HEAD r v.toNat)) ∧
    (s.get HIF_RING_CTRL_EN r = 0 → exec (.hifDbCmd q r v) s = .next (s.sat HIF_RING_STAT_DB_OFF r)) ∧
    (s.get HIF_RING_CTRL_EN r = 0 → s.replies = [] → s.fetched = [] → exec (.hifDbSts q r v) s = .next (s.sat HIF_RING_STAT_DB_OFF r))) ∧
  (∀ (q : Requester) (r : Fin 32) (f : Nat) (v : BitVec 12) (w : Byte) (s : State), hostFunc q = some f → f ≠ s.get HIF_RING_OWN_FUNC r →
    s.get RST_BOOT_STAGE 0 ≠ 6 → exec (.hifDbCmd q r v) s = .next (s.sat HIF_CNT_DB_FOREIGN 0) ∧
    exec (.hifDbSts q r v) s = .next (s.sat HIF_CNT_DB_FOREIGN 0) ∧ exec (.hifRingEnable q r w) s = .next (s.sat HIF_CNT_DB_FOREIGN 0)) ∧
  (∀ (r : Fin 32) (bs : List Byte) (pa head w0 w1 : Nat) (s : State), RingOpen r pa s → s.get RST_BOOT_STAGE 0 = 5 → s.get FATAL_PATH 0 = 0 →
    s.fetched = [] → head = s.get HIF_RING_STAT_CMD_HEAD r → head ≠ s.get RING_TAIL r →
    (s.get RING_STS_TAIL r + stsSize s r - s.get RING_STS_HEAD r % stsSize s r) % stsSize s r + 3 ≤ stsSize s r →
    64 * s.get HIF_RING_CMD_VA r + 64 * head < 2 ^ 30 → bs.length = 64 → w0 = ofBytes (bs.take 4) → w1 = ofBytes ((bs.drop 4).take 4) →
    Gives (.descriptorFetch r (some bs)) s (fun t => t.get HIF_RING_STAT_CMD_HEAD r = (head + 1) % stsSize s r ∧ t.out.take (s.out.length + 1) = s.out ++
      [.pcieRead (s.get XLT_CTX_CFG_FUNC (s.get HIF_RING_OWN_CTX r)) (ctxPasid s (s.get HIF_RING_OWN_CTX r))
        (pa + 64 * s.get HIF_RING_CMD_VA r + 64 * head) 64] ∧
      (w0 % 2 ^ 16 ∈ hostOps →
        t.fetched = [⟨r, w1, w0 % 2 ^ 16, w0 / 2 ^ 16, bs.drop 8, false⟩] ∧ t.out.length = s.out.length + 1 ∧
        CellsBut s t [(HIF_RING_STAT_CMD_HEAD, r)] []) ∧
      (w0 % 2 ^ 16 ∉ hostOps → t.fetched = [] ∧ (t.out.drop (s.out.length + 1)).map (fun o => match o with
        | .pcieWrite _ _ _ b => b.take 8 | _ => []) = [toBytes 4 w1 ++ toBytes 2 0x0101 ++ toBytes 2 0,
          toBytes 4 ((head + 1) % stsSize s r) ++ toBytes 4 ((s.get RING_STS_TAIL r + 1) % stsSize s r)]))) ∧
  (∀ (r : Fin 32) (pa : Nat) (s : State), RingOpen r pa s → s.get RST_BOOT_STAGE 0 = 5 → s.get FATAL_PATH 0 = 0 →
    s.get HIF_RING_STAT_CMD_HEAD r ≠ s.get RING_TAIL r → s.walks = [] → s.fetched = [] → s.cmds = [] →
    (s.get RING_STS_TAIL r + stsSize s r - s.get RING_STS_HEAD r % stsSize s r) % stsSize s r + 3 ≤ stsSize s r →
    64 * s.get HIF_RING_CMD_VA r + 64 * s.get HIF_RING_STAT_CMD_HEAD r < 2 ^ 30 →
    Gives (.descriptorFetch r none) s (fun t => t.get HIF_RING_STAT_STATE r = 2 ∧ t.get HIF_RING_STAT_CAUSE r = 5 ∧
      t.bit EVT_SEEN_SEEN (112 + r / 16) (2 * (r % 16) + 1) = true ∧ QuietO s t ∧
      CellsBut s t [(HIF_RING_STAT_STATE, r), (HIF_RING_STAT_CAUSE, r)] evtCells)) ∧
  (∀ (r : Fin 32) (host : Option (List Byte)) (s : State), (s.get HIF_RING_STAT_STATE r ≠ 1 ∨ s.get HIF_RING_STAT_CMD_HEAD r = s.get RING_TAIL r ∨
    stsSize s r < (s.get RING_STS_TAIL r + stsSize s r - s.get RING_STS_HEAD r % stsSize s r) % stsSize s r + 3) →
    exec (.descriptorFetch r host) s = .next s) ∧
  (∀ (q : Requester) (r : Fin 32) (v : Byte) (pa : Nat) (s : State), hostFunc q = some (s.get HIF_RING_OWN_FUNC r) → s.get RST_BOOT_STAGE 0 = 5 →
    RingOpen r pa ((s.put HIF_RING_STAT_STATE r 1).put RING_STS_TAIL r 0) → s.get HIF_RING_CTRL_EN r = 0 → v.toNat % 2 = 1 →
    Gives (.hifRingEnable q r v) s (fun t => t.get HIF_RING_CTRL_EN r = 1 ∧ t.get HIF_RING_CTRL_LOG2 r = v.toNat / 16 ∧
      t.get HIF_RING_STAT_STATE r = 1 ∧ t.get HIF_RING_STAT_CMD_HEAD r = 0 ∧ t.get RING_STS_TAIL r = 0 ∧ QuietO s t ∧
      t.out = s.out ++ [.pcieWrite (s.get XLT_CTX_CFG_FUNC (s.get HIF_RING_OWN_CTX r)) (ctxPasid s (s.get HIF_RING_OWN_CTX r))
        (pa + 64 * s.get HIF_RING_WB_VA r) (List.replicate 16 0)] ∧ CellsBut s t [(HIF_RING_CTRL_EN, r), (HIF_RING_CTRL_LOG2, r),
          (HIF_RING_STAT_STATE, r), (HIF_RING_STAT_CMD_HEAD, r), (RING_STS_TAIL, r)] [])) ∧
  (∀ (q : Requester) (r : Fin 32) (v : Byte) (s : State), hostFunc q = some (s.get HIF_RING_OWN_FUNC r) → s.get RST_BOOT_STAGE 0 = 5 →
    s.get HIF_RING_CTRL_EN r = 1 → v.toNat % 2 = 0 → Gives (.hifRingEnable q r v) s (fun t => t.get HIF_RING_CTRL_EN r = 0 ∧
      t.get HIF_RING_STAT_STATE r = 0 ∧ (∀ x ∈ t.replies, x.ring ≠ r) ∧ (∀ x ∈ t.cmds, x.ring = r.val → x.mute = true) ∧ t.out = s.out ∧
      CellsBut s t [(HIF_RING_CTRL_EN, r), (HIF_RING_STAT_STATE, r)] [])) ∧
  (∀ (r : Fin 32) (c : Instr) (pa op flags tag : Nat) (ps : List Byte) (s : State), HostRow r op c → Asks r pa op flags tag ps s → ps.length = 56 →
    (4 ≤ flags → Gives c s (fun t => JustAnswers r pa flags tag 0x0102 0 s t)) ∧
    (flags < 4 → op ∉ anyOps → s.get HIF_RING_OWN_FUNC r ≠ 0 →
      Gives c s (fun t => JustAnswers r pa flags tag 0x0401 0 s t)) ∧
    (flags < 4 → op ∈ secOps → s.get HIF_RING_OWN_FUNC r = 0 → s.get HIF_PF_SEC_SEC_EN 0 = 0 →
      Gives c s (fun t => JustAnswers r pa flags tag 0x0402 0 s t))) ∧
  (∀ (r : Fin 32) (c : Instr) (pa op flags tag n : Nat) (b : Byte) (bs : List Byte) (s : State), HostRow r op c → op ∈ bareOps → flags < 4 →
    b ≠ 0 → n + 1 + bs.length = 56 → s.get HIF_RING_OWN_FUNC r = 0 → Asks r pa op flags tag (List.replicate n 0 ++ b :: bs) s →
    Gives c s (fun t => JustAnswers r pa flags tag 0x0103 (8 + n) s t)) ∧
  (∀ (r : Fin 32) (c : Instr) (op : Nat) (s : State), HostRow r op c → s.get RST_CMD 0 = 0 → ((∀ x ∈ s.fetched, x.ring ≠ r.val) ∨
    s.get RST_BOOT_STAGE 0 < 5 ∨ s.get FATAL_PATH 0 ≠ 0 ∨ ((∃ x ∈ s.cmds, x.ring = r.val) ∧ ∀ x ∈ s.fetched, x.flags / 2 % 2 = 1)) →
    exec c s = .next s) ∧
  (∀ (r : Fin 32) (k pa : Nat) (h : HostMem) (x : AsyncCmd) (status detail : Nat) (s : State), RingOpen r pa s → s.get RST_BOOT_STAGE 0 ≠ 6 →
    s.get FATAL_PATH 0 = 0 → s.fetched = [] → s.cmds[k]? = some x → (∀ y ∈ s.cmds, y.ring = r.val) → x.mute = false → x.done = some (status, detail, []) →
    Gives (.finalReply r k h) s (fun t => Replies r pa x.tag status detail [] s.out s t ∧ t.cmds = s.cmds.erase x ∧
      t.bit EVT_SEEN_SEEN (112 + r / 16) (2 * (r % 16)) = true ∧ CellsBut s t [(RING_STS_TAIL, r)] evtCells)) ∧
  (∀ (r : Fin 32) (k : Nat) (h : HostMem) (s : State), (∀ x ∈ s.cmds, x.ring ≠ r.val ∨
      (x.done = none ∧ x.wait ≠ .firmware ∧ ∀ n : Nat, x.wait ≠ .step n)) →
    exec (.finalReply r k h) s = .next s) ∧
  (∀ (r : Fin 32) (c : Instr) (op : Nat) (x y : HostCmd) (s : State), HostRow r op c → s.fetched = [x, y] ∨ s.fetched = [y, x] →
    x.ring < 32 → y.ring = r.val → x.ring ≠ y.ring → x.flags = 0 → y.flags = 0 → s.get RST_BOOT_STAGE 0 = 5 → s.get FATAL_PATH 0 = 0 →
    s.get RST_CMD 0 = 0 → s.replies = [] → s.get RING_TURN 0 < 32 →
    (x.ring + 32 - s.get RING_TURN 0) % 32 < (r.val + 32 - s.get RING_TURN 0) % 32 → exec c s = .next s)

/-- Wickets: data, GO, ACK, COLLISION, rejection, wake, crossing; what D3hot, function-level reset and link down do to a function (R332, R333, R334, R335, R336, R338, R339, R321, R322, R324). -/
def Obligations.Wickets : Prop :=
  (∀ (q : Requester) (w : Fin 64) (d : Fin 2) (i : Fin 16) (v : Word) (s : State), (32 ≤ w.val ∨ s.permit q .registers (wktAddr (0x80 * d + 4 * i) w) true = .yes) →
    sideOf q = some (wktSender s w d) → (sideDown s (wktReceiver s w d) = false ∨ wktWakes s w d = true) →
    (s.get (wGo d) w = 0 → exec (.wktDataWrite q w d i v) s = .next (s.put WKT_DATA (32 * w + 16 * d + i) v.toNat)) ∧
    (s.get (wGo d) w = 1 → s.get WKT_MODE_COMPAT w = 0 → exec (.wktDataWrite q w d i v) s =
      .next ((s.sat (if d.val = 0 then WKT_STAT_REJ_AB else WKT_STAT_REJ_BA) w).refuse q (0x40F10000 + 0x100 * w + 0x80 * d + 4 * i) 2)) ∧
    (s.get (wGo d) w = 1 → s.get WKT_MODE_COMPAT w = 1 → exec (.wktDataWrite q w d i v) s =
      .next ((s.put (wColl d) w 1).put WKT_DATA (32 * w + 16 * d + i) v.toNat))) ∧
  (∀ (q : Requester) (w : Fin 64) (d : Fin 2) (i : Fin 16) (v : Word) (len : BitVec 5) (s : State), 32 ≤ w.val →
    (sideOf q = some (wktSender s w d) → sideOf q ≠ some (wktReceiver s w d) → sideDown s (wktReceiver s w d) = true → wktWakes s w d = false →
      exec (.wktDataWrite q w d i v) s = .next ((s.sat WKT_STAT_DOWN_REJ w).refuse q (0x40F10000 + 0x100 * w + 0x80 * d + 4 * i) 2) ∧
      exec (.wktGo q w d len) s = .next ((s.sat WKT_STAT_DOWN_REJ w).refuse q (0x40F10040 + 0x100 * w + 0x80 * d) 2)) ∧
    (sideOf q ≠ some (wktSender s w d) → exec (.wktDataWrite q w d i v) s = .next (s.refuse q (0x40F10000 + 0x100 * w + 0x80 * d + 4 * i) 1)) ∧
    (sideOf q ≠ some (wktSender s w d) → sideOf q ≠ some (wktReceiver s w d) →
      exec (.wktGo q w d len) s = .next (s.refuse q (0x40F10040 + 0x100 * w + 0x80 * d) 1) ∧
      exec (.wktAck q w d) s = .next (s.refuse q (0x40F10040 + 0x100 * w + 0x80 * d) 1))) ∧
  (∀ (q : Requester) (w : Fin 64) (d : Fin 2) (len : BitVec 5) (s : State), (32 ≤ w.val ∨ s.permit q .registers (wktAddr (0x40 + 0x80 * d) w) true = .yes) →
    sideOf q = some (wktSender s w d) → sideOf q ≠ some (wktReceiver s w d) → sideDown s (wktReceiver s w d) = false →
    (s.get (wGo d) w = 0 ∨ s.get WKT_MODE_COMPAT w = 1 → Gives (.wktGo q w d len) s (fun t => t.get (wGo d) w = 1 ∧ t.get (wLen d) w = len.toNat ∧
      t.get (wColl d) w = (if s.get (wGo d) w = 0 then s.get (wColl d) w else 1) ∧
      t.bit EVT_SEEN_SEEN ((3648 + 3 * w + (1 - d.val)) / 32) ((3648 + 3 * w + (1 - d.val)) % 32) = true ∧
      (s.get (wGo (1 - d.val)) w = 1 → s.get WKT_CROSS_AT w = 0 → s.get CORE_COUNT 0 < 2 ^ 64 - 1 → t.get WKT_CROSS_AT w = s.get CORE_COUNT 0 + 1) ∧
      (s.get (wGo (1 - d.val)) w = 0 → t.get WKT_CROSS_AT w = 0) ∧ QuietE s t ∧
      CellsBut s t [(wGo d, w), (wLen d, w), (wColl d, w), (WKT_CROSS_AT, w), (WKT_CROSS_DONE, w)] evtCells)) ∧
    (s.get (wGo d) w = 1 → s.get WKT_MODE_COMPAT w = 0 → exec (.wktGo q w d len) s =
      .next ((s.sat (if d.val = 0 then WKT_STAT_REJ_AB else WKT_STAT_REJ_BA) w).refuse q (0x40F10040 + 0x100 * w + 0x80 * d) 2))) ∧
  (∀ (q : Requester) (w : Fin 64) (d : Fin 2) (len : BitVec 5) (side : Nat) (s : State), 32 ≤ w.val → sideOf q = some (wktSender s w d) →
    side = wktReceiver s w d → sideOf q ≠ some side → sideDown s side = true → wktWakes s w d = true → s.get (wGo d) w = 0 →
    Gives (.wktGo q w d len) s (fun t => t.get (wGo d) w = 1 ∧ t.get (wLen d) w = len.toNat ∧ t.get WKT_HELD (2 * w + d) = 1 ∧ t.events = s.events ∧
      (side = 33 → t.get PCS_WAKE 0 = 1 ∧ t.out = s.out) ∧ (side ≠ 33 → t.out = s.out ++ [.pme (side - 34)] ∧ t.get PCS_WAKE 0 = s.get PCS_WAKE 0) ∧
      CellsBut s t [(wGo d, w), (wLen d, w), (WKT_HELD, 2 * w + d), (PCS_WAKE, 0), (WKT_CROSS_AT, w), (WKT_CROSS_DONE, w)] [])) ∧
  (∀ (q : Requester) (w : Fin 64) (d : Fin 2) (s : State), (32 ≤ w.val ∨ s.permit q .registers (wktAddr (0x40 + 0x80 * d) w) true = .yes) →
    sideOf q = some (wktReceiver s w d) → sideOf q ≠ some (wktSender s w d) →
    (s.get (wGo d) w = 1 → Gives (.wktAck q w d) s (fun t => t.get (wGo d) w = 0 ∧
      t.bit EVT_SEEN_SEEN ((3648 + 3 * w + d) / 32) ((3648 + 3 * w + d) % 32) = true ∧ t.get WKT_CROSS_AT w = 0 ∧ QuietE s t ∧
      CellsBut s t [(wGo d, w), (WKT_CROSS_AT, w)] evtCells)) ∧
    (s.get (wGo d) w = 0 → exec (.wktAck q w d) s = .next s)) ∧
  (∀ (w : Fin 64) (s : State),
    (s.get WKT_CROSS_AT w ≠ 0 → s.get WKT_CROSS_DONE w = 0 → s.get WKT_CROSS_AT w + max 1 (s.get WKT_MODE_CROSS_TIMEOUT w) * 800 ≤ s.get CORE_COUNT 0 + 1 →
      Gives (.wicketCrossed w) s (fun t => t.get WKT_STAT_CROSSED w = 1 ∧ t.get WKT_CROSS_DONE w = 1 ∧
        t.bit EVT_SEEN_SEEN ((3650 + 3 * w) / 32) ((3650 + 3 * w) % 32) = true ∧ QuietE s t ∧
        CellsBut s t [(WKT_STAT_CROSSED, w), (WKT_CROSS_DONE, w)] evtCells)) ∧
    (s.get WKT_CROSS_AT w = 0 ∨ s.get WKT_CROSS_DONE w = 1 ∨ s.get CORE_COUNT 0 + 1 < s.get WKT_CROSS_AT w + max 1 (s.get WKT_MODE_CROSS_TIMEOUT w) * 800 →
      exec (.wicketCrossed w) s = .next s)) ∧
  (∀ (w : Fin 64) (v : BitVec 20) (s : State), s.permit .cc .registers (0x40F100E0 + 0x100 * w) true = .yes →
    (32 ≤ w.val ∨ (v.toNat % 2 ^ 6 ∈ [32, 33, 34, 63] ∧ v.toNat / 2 ^ 6 % 2 ^ 6 ∈ [32, 33, 34, 63]) → exec (.wktCfgWrite .cc w v) s =
      .next ((((s.put WKT_CFG_SIDE_A w (v.toNat % 2 ^ 6)).put WKT_CFG_SIDE_B w (v.toNat / 2 ^ 6 % 2 ^ 6)).put WKT_CFG_PRIO_A w
        (v.toNat / 2 ^ 12 % 2 ^ 4)).put WKT_CFG_PRIO_B w (v.toNat / 2 ^ 16))) ∧
    (w.val < 32 → v.toNat % 2 ^ 6 ∉ [32, 33, 34, 63] ∨ v.toNat / 2 ^ 6 % 2 ^ 6 ∉ [32, 33, 34, 63] → exec (.wktCfgWrite .cc w v) s = .next s)) ∧
  (∀ (f : Fin 16) (s : State), (∀ k : Fin 128, s.get XLT_STR_CFG_OWNER k ≠ 33 + f ∨ s.get XLT_STR_STAT_STATE k = 0) → s.get RST_BOOT_STAGE 0 ≠ 6 →
    Gives (.functionLevelReset f) s (fun t => (∀ (w : Fin 64) (d : Fin 2),
      (wktSender s w d = 34 + f → t.get (wGo d) w = 0 ∧ t.get (wColl d) w = 0) ∧
      (wktReceiver s w d = 34 + f → t.get (wGo d) w = 0 ∧ (s.get (wGo d) w = 1 → wktSender s w d ≠ 34 + f → t.get WKT_STAT_FLR_DROP w = 1 ∧
        t.bit EVT_SEEN_SEEN ((3648 + 3 * w + d) / 32) ((3648 + 3 * w + d) % 32) = true))) ∧
      (∀ r : Fin 32, s.get HIF_RING_OWN_FUNC r = f.val → t.get HIF_RING_CTRL_EN r = 0 ∧ t.get HIF_RING_STAT_STATE r = 0) ∧
      (∀ v : Nat, v < 2048 → vecOwner s v = f.val → t.get MSIX_MASK v = 1) ∧ (f.val = 0 → t.get HIF_PF_SEC_SEC_EN 0 = 0) ∧
      t.get FN_D3 f = 0 ∧ t.mem = s.mem)) ∧
  (∀ (f : Fin 16) (s : State), (∀ k : Fin 128, s.get XLT_STR_CFG_OWNER k ≠ 33 + f ∨ s.get XLT_STR_STAT_STATE k = 0) → s.get RST_BOOT_STAGE 0 ≠ 6 →
    s.get FN_D3 f = 0 → Gives (.d3hotEntry f) s (fun t => t.get FN_D3 f = 1 ∧ (∀ (w : Fin 64) (d : Fin 2),
      (wktReceiver s w d = 34 + f → wktSender s w d ≠ 34 + f → s.get (wGo d) w = 1 →
        (s.get (if d.val = 0 then WKT_MODE_WAKE_B else WKT_MODE_WAKE_A) w = 1 → t.get (wGo d) w = 1) ∧
        (s.get WKT_MODE_WAKE_A w = 0 → s.get WKT_MODE_WAKE_B w = 0 → t.get (wGo d) w = 0 ∧ t.get WKT_STAT_FLR_DROP w = 1))) ∧
      (∀ r : Fin 32, s.get HIF_RING_OWN_FUNC r = f.val → t.get HIF_RING_CTRL_EN r = 0) ∧
      (∀ v : Nat, v < 2048 → vecOwner s v = f.val → t.get MSIX_MASK v = 1) ∧ (f.val = 0 → t.get HIF_PF_SEC_SEC_EN 0 = 0) ∧
      t.get LIM_STAT_RUNNING 0 = s.get LIM_STAT_RUNNING 0 ∧ t.get LIM_PHASE 0 = s.get LIM_PHASE 0)) ∧
  (∀ (f : Fin 16) (s : State), s.get FN_D3 f = 1 → exec (.d3hotEntry f) s = .next s) ∧
  (∀ (s : State), (∀ k : Fin 128, s.get XLT_STR_STAT_STATE k = 0) → s.get RST_BOOT_STAGE 0 ≠ 6 → s.get PCIE_UP 0 = 1 →
    Gives .pcieLinkDown s (fun t => t.get PCIE_UP 0 = 0 ∧ (∀ (w : Fin 64) (d : Fin 2), 34 ≤ wktSender s w d → wktSender s w d < 50 →
        t.get (wGo d) w = 0 ∧ t.get (wColl d) w = 0) ∧ (∀ (w : Fin 64) (d : Fin 2), 34 ≤ wktReceiver s w d → wktReceiver s w d < 50 → t.get (wGo d) w = 0) ∧
      (∀ r : Fin 32, s.get HIF_RING_OWN_FUNC r < 16 → t.get HIF_RING_CTRL_EN r = 0) ∧ t.get HIF_PF_SEC_SEC_EN 0 = 0 ∧ t.get LIM_STAT_RUNNING 0 = s.get LIM_STAT_RUNNING 0)) ∧
  (∀ (s : State), s.get PCIE_UP 0 = 0 → exec .pcieLinkDown s = .next s) ∧
  (∀ (f : Fin 16) (w : Fin 64) (d : Fin 2) (s : State), s.get PCIE_UP 0 = 1 → s.listed WKT_HELD = [(2 * w.val + d, 1)] →
    wktReceiver s w d = 34 + f → Gives (.d0Entry f) s (fun t => t.get FN_D3 f = 0 ∧ t.get WKT_HELD (2 * w + d) = 0 ∧
      t.bit EVT_SEEN_SEEN ((3648 + 3 * w + (1 - d.val)) / 32) ((3648 + 3 * w + (1 - d.val)) % 32) = true ∧ QuietE s t ∧
      CellsBut s t [(FN_D3, f), (WKT_HELD, 2 * w + d)] evtCells)) ∧
  (∀ (f : Fin 16) (s : State), s.get PCIE_UP 0 = 0 → exec (.d0Entry f) s = .next (s.put FN_D3 f 0)) ∧
  (∀ (f : Fin 16) (w : Fin 64) (d : Fin 2) (s : State), s.get PCIE_UP 0 = 0 → s.get CLK_STAT_PCIE_REF_OK 0 = 1 → s.get RAIL_BAD 4 = 0 →
    s.get PERST_LOW 0 = 0 → s.listed WKT_HELD = [(2 * w.val + d, 1)] → wktReceiver s w d = 34 + f →
    Gives .pcieLinkUp s (fun t => t.get PCIE_UP 0 = 1 ∧ t.get WKT_HELD (2 * w + d) = (if s.get FN_D3 f = 0 then 0 else 1) ∧
      (s.get FN_D3 f = 0 → t.bit EVT_SEEN_SEEN ((3648 + 3 * w + (1 - d.val)) / 32) ((3648 + 3 * w + (1 - d.val)) % 32) = true) ∧
      1 ≤ t.get PCI_LINK_SPEED 0 ∧ t.get PCI_LINK_SPEED 0 ≤ 5 ∧
      t.get PCI_LINK_WIDTH 0 ∈ [1, 2, 4, 8] ∧
      CellsBut s t [(PCIE_UP, 0), (PCI_LINK_SPEED, 0), (PCI_LINK_WIDTH, 0), (WKT_HELD, 2 * w + d)] evtCells)) ∧
  (∀ (s : State), (s.get PCIE_UP 0 = 1 ∨ s.get CLK_STAT_PCIE_REF_OK 0 = 0 ∨ s.get RAIL_BAD 4 = 1 ∨ s.get PERST_LOW 0 = 1) →
    exec .pcieLinkUp s = .next s)

/-- NOP, DEV_INFO, DOMAIN_POWER, ROUTE_SET, XLT_INVALIDATE, STREAM_CTRL: what each does and what it answers (R331, R326, R327, R304, R315, R318, R445, R463). -/
def Obligations.SystemCommands : Prop :=
  (∀ (r : Fin 32) (pa flags tag : Nat) (s : State), Asks r pa 0x0100 flags tag (parsOf []) s → flags < 4 →
    Gives (.nop r) s (fun t => JustAnswers r pa flags tag 0 0 s t)) ∧
  (∀ (r : Fin 32) (pa flags tag : Nat) (s : State), Asks r pa 0x0101 flags tag (parsOf []) s → flags < 4 →
    Gives (.devInfo r) s (fun t => Answers r pa flags tag 0 0 (toBytes 4 (s.get DEV_ID_ID 0) ++ toBytes 4 (s.get DEV_STEP_MINOR 0 + 2 ^ 8 * s.get DEV_STEP_MAJOR 0) ++ toBytes 3 (durWord s (slotOff (bootSlot s) + 256 + 12)) ++ toBytes 1 0 ++
        toBytes 1 (s.get PCS_LC_STATE 0) ++ toBytes 1 (s.get DEV_HUB_HUB_NUM 0) ++ toBytes 2 (s.get DEV_HUB_LINE_ID 0)) s t ∧
      QuietH s t ∧ CellsBut s t [(RING_STS_TAIL, r), (RING_TURN, 0)] evtCells)) ∧
  (∀ (r : Fin 32) (pa flags tag kind i on : Nat) (s : State), Asks r pa 0x0102 flags tag (parsOf (toBytes 1 kind ++ toBytes 1 i ++ toBytes 1 on)) s → flags < 4 →
    s.get HIF_RING_OWN_FUNC r = 0 → kind < 7 → i < 256 → on < 2 → [32, 6, 32, 2, 16, 4, 1].getD kind 0 ≤ i →
    Gives (.domainPower r) s (fun t => JustAnswers r pa flags tag 0x0103 9 s t)) ∧
  (∀ (r : Fin 32) (pa flags tag kind i on : Nat) (p : Fin 16) (s : State), Asks r pa 0x0102 flags tag (parsOf (toBytes 1 kind ++ toBytes 1 i ++ toBytes 1 on)) s → flags < 4 →
    s.get HIF_RING_OWN_FUNC r = 0 → kind < 7 → i < 256 → on < 2 → kind = 0 → i < 32 → s.get INST_STATE p ≠ 0 → s.bit INST_COURSES p i = true →
    Gives (.domainPower r) s (fun t => JustAnswers r pa flags tag 0x020A i s t)) ∧
  (∀ (r : Fin 32) (pa flags tag kind i on : Nat) (k : Fin 4) (s : State), Asks r pa 0x0102 flags tag (parsOf (toBytes 1 kind ++ toBytes 1 i ++ toBytes 1 on)) s → flags < 4 →
    s.get HIF_RING_OWN_FUNC r = 0 → kind < 7 → i < 256 → on < 2 → on = 0 →
    ((kind = 2 ∧ i < 32 ∧ s.get MAC_CFG_EN i = 1) ∨ (kind = 3 ∧ i < 2 ∧ s.get TRK_PORT_CFG_EN (4 * i + k) = 1)) →
    Gives (.domainPower r) s (fun t => JustAnswers r pa flags tag 0x020B 0 s t)) ∧
  (∀ (r : Fin 32) (pa flags tag kind i on : Nat) (s : State), Asks r pa 0x0102 flags tag (parsOf (toBytes 1 kind ++ toBytes 1 i ++ toBytes 1 on)) s → flags < 4 →
    s.get HIF_RING_OWN_FUNC r = 0 → kind < 7 → i < 256 → on < 2 → on = 1 → kind = 3 → i < 2 →
    s.domOn (domTrunk i) = false → s.get RAIL_BAD 2 = 1 → Gives (.domainPower r) s (fun t =>
      AcceptsEnded r pa 0x0102 tag (parsOf (toBytes 1 kind ++ toBytes 1 i ++ toBytes 1 on)) 0x0505 2 [] s.out s t ∧ QuietH s t)) ∧
  (∀ (r : Fin 32) (pa flags tag kind i on : Nat) (s : State), Asks r pa 0x0102 flags tag (parsOf (toBytes 1 kind ++ toBytes 1 i ++ toBytes 1 on)) s → flags < 4 →
    s.get HIF_RING_OWN_FUNC r = 0 → kind < 7 → i < 256 → on < 2 → on = 1 → i < [32, 6, 32, 2, 16, 4, 1].getD kind 0 →
    (∀ j : Fin 16, s.get INST_STATE j = 0) → s.get RAIL_BAD 2 = 0 → s.get RAIL_BAD 3 = 0 → s.get RAIL_BAD 5 = 0 →
    s.domOn (powerDomain kind i) = false → Gives (.domainPower r) s (fun t =>
      Accepts r pa 0x0102 tag (parsOf (toBytes 1 kind ++ toBytes 1 i ++ toBytes 1 on)) (.power (powerDomain kind i) true) s.out s t ∧ QuietH s t ∧ CellsBut s t [(RING_STS_TAIL, r), (RING_TURN, 0)] [])) ∧
  (∀ (r : Fin 32) (pa flags tag kind i on : Nat) (s : State), Asks r pa 0x0102 flags tag (parsOf (toBytes 1 kind ++ toBytes 1 i ++ toBytes 1 on)) s → flags < 4 →
    s.get HIF_RING_OWN_FUNC r = 0 → kind < 7 → i < 256 → on < 2 → on = 1 → i < [32, 6, 32, 2, 16, 4, 1].getD kind 0 →
    (∀ j : Fin 16, s.get INST_STATE j = 0) → s.domOn (powerDomain kind i) = true → Gives (.domainPower r) s (fun t =>
      AcceptsEnded r pa 0x0102 tag (parsOf (toBytes 1 kind ++ toBytes 1 i ++ toBytes 1 on)) 0 0 [] s.out s t ∧ QuietH s t ∧ CellsBut s t [(RING_STS_TAIL, r), (RING_TURN, 0)] [])) ∧
  (∀ (r : Fin 32) (pa flags tag : Nat) (src : Fin 4096) (v : BitVec 64) (s : State),
    Asks r pa 0x0104 flags tag (parsOf (toBytes 2 src ++ toBytes 6 0 ++ toBytes 8 v.toNat)) s → flags = 0 → s.get HIF_RING_OWN_FUNC r = 0 →
    Gives (.routeSet r) s (fun t => Answers r pa flags tag 0 0 [] s t ∧ QuietH s t ∧ (∀ u : Fin 2,
      t.get (if u.val = 0 then EVT_ROUTE_KIND_A else EVT_ROUTE_KIND_B) src = v.toNat / 2 ^ (32 * u.val) % 2 ^ 2 ∧
      t.get (if u.val = 0 then EVT_ROUTE_LOG_A else EVT_ROUTE_LOG_B) src =
        v.toNat / 2 ^ (32 * u.val + (if u.val = 0 then EVT_ROUTE_LOG_A else EVT_ROUTE_LOG_B).lo % 32) % 2 ^ EVT_ROUTE_LOG_A.w) ∧
      CellsBut s t [(RING_STS_TAIL, r), (RING_TURN, 0), (EVT_ROUTE_KIND_A, src), (EVT_ROUTE_INPUT_A, src), (EVT_ROUTE_COURSE_A, src), (EVT_ROUTE_VECTOR_A, src),
        (EVT_ROUTE_LOG_A, src), (EVT_ROUTE_KIND_B, src), (EVT_ROUTE_INPUT_B, src), (EVT_ROUTE_COURSE_B, src), (EVT_ROUTE_VECTOR_B, src),
        (EVT_ROUTE_LOG_B, src)] [])) ∧
  (∀ (r : Fin 32) (pa flags tag kind c n va : Nat) (ps : List Byte) (s : State),
    ps = parsOf (toBytes 1 kind ++ toBytes 1 c ++ toBytes 2 0 ++ toBytes 4 n ++ toBytes 8 va) → Asks r pa 0x0105 flags tag ps s → flags < 4 →
    kind < 3 → c < 64 → n < 2 ^ 32 → va < 2 ^ 48 → s.walks = [] →
    (s.get HIF_RING_OWN_FUNC r ≠ 0 → kind = 0 ∨ s.get XLT_CTX_CFG_FUNC c ≠ s.get HIF_RING_OWN_FUNC r →
      Gives (.xltInvalidate r) s (fun t => JustAnswers r pa flags tag 0x0401 0 s t)) ∧
    (s.get HIF_RING_OWN_FUNC r = 0 ∨ (kind ≠ 0 ∧ s.get XLT_CTX_CFG_FUNC c = s.get HIF_RING_OWN_FUNC r) → s.get XLT_INV_BUSY 0 = 1 →
      exec (.xltInvalidate r) s = .next s) ∧
    (s.get HIF_RING_OWN_FUNC r = 0 ∨ (kind ≠ 0 ∧ s.get XLT_CTX_CFG_FUNC c = s.get HIF_RING_OWN_FUNC r) → s.get XLT_INV_BUSY 0 = 0 →
      Gives (.xltInvalidate r) s (fun t => Accepts r pa 0x0105 tag ps .invalidate s.out s t ∧ t.get XLT_INV_BUSY 0 = 1 ∧ t.get INV_KIND 0 = kind ∧
        t.get INV_CTX 0 = c ∧ t.get INV_PAGE 0 = va / 2 ^ 12 ∧ (0 < n → n ≤ 65536 → t.get INV_N 0 = n) ∧
        CellsBut s t [(RING_STS_TAIL, r), (RING_TURN, 0), (XLT_INV_BUSY, 0), (INV_KIND, 0), (INV_CTX, 0), (INV_PAGE, 0), (INV_N, 0)] []))) ∧
  (∀ (r : Fin 32) (pa flags tag : Nat) (k : Fin 128) (act : Nat) (s : State), Asks r pa 0x0106 flags tag (parsOf (toBytes 1 k ++ toBytes 1 act)) s →
    flags < 4 → act = 1 ∨ act = 2 →
    (s.get HIF_RING_OWN_FUNC r ≠ 0 → s.get XLT_STR_CFG_OWNER k ≠ 33 + s.get HIF_RING_OWN_FUNC r →
      Gives (.streamCtrl r) s (fun t => JustAnswers r pa flags tag 0x0401 0 s t)) ∧
    (s.get HIF_RING_OWN_FUNC r = 0 ∨ s.get XLT_STR_CFG_OWNER k = 33 + s.get HIF_RING_OWN_FUNC r → act = 1 → s.get XLT_STR_STAT_STATE k ≠ 3 →
      Gives (.streamCtrl r) s (fun t => JustAnswers r pa flags tag 0x020C 0 s t)) ∧
    (s.get HIF_RING_OWN_FUNC r = 0 ∨ s.get XLT_STR_CFG_OWNER k = 33 + s.get HIF_RING_OWN_FUNC r → act = 2 → s.get XLT_STR_STAT_STATE k = 0 →
      Gives (.streamCtrl r) s (fun t => JustAnswers r pa flags tag 0 0 s t))) ∧
  (∀ (r : Fin 32) (pa flags tag : Nat) (k : Fin 128) (len src dst done : Nat) (s : State), Asks r pa 0x0106 flags tag (parsOf (toBytes 1 k ++ toBytes 1 1)) s →
    flags < 4 → s.get HIF_RING_OWN_FUNC r = 0 → s.get XLT_STR_STAT_STATE k = 3 → s.get STR_UNREAD k = 0 → StreamAt k len 0 0 src dst done ((s.put XLT_STR_STAT_STATE k 2).put STR_FK k 0) →
    InSoundboard src len → InSoundboard dst len → Gives (.streamCtrl r) s (fun t => Answers r pa flags tag 0 0 [] s t ∧
      t.get XLT_STR_STAT_STATE k = 2 ∧ t.get STR_FK k = 0 ∧ t.get XLT_STR_STAT_CAUSE k = 0 ∧ t.mem = s.mem ∧
      CellsBut s t [(RING_STS_TAIL, r), (RING_TURN, 0), (XLT_STR_STAT_STATE, k), (STR_FK, k), (XLT_STR_STAT_CAUSE, k)] evtCells))

/-- CYCLE_START to LVR_COMMIT: what the commands on the cycle, its tables, scans, addresses, flows and Louvres do and answer (R331, R327, R52, R53, R54, R57, R73, R88, R90, R103, R133, R165). -/
def Obligations.CycleCommands : Prop :=
  (∀ (r : Fin 32) (pa flags tag dom period start num0 n0 : Nat) (s : State), Asks r pa 0x0200 flags tag
      (parsOf (toBytes 1 dom ++ toBytes 3 0 ++ toBytes 4 period ++ toBytes 4 start ++ toBytes 4 num0)) s → flags < 4 → s.get HIF_RING_OWN_FUNC r = 0 →
    dom < 16 → start < 2 ^ 32 → num0 < 2 ^ 32 → s.get LIM_STAT_RUNNING 0 = 0 → s.get LIM_CYC_CTRL_LOCK 0 = 0 → (∀ j : Fin 16, s.get INST_STATE j = 0) →
    1000 * 256 ≤ (start * 256 + 2 ^ 40 - s.now dom) % 2 ^ 40 → (start * 256 + 2 ^ 40 - s.now dom) % 2 ^ 40 ≤ 2000000000 * 256 →
    25000 ≤ period → period ≤ 6400000 → s.get LIM_BASE_SLOTS_K 0 = 0 → s.get DEV_LOCK_LOCK 0 = 1 → n0 = (num0 + 2 ^ 32 - 1) % 2 ^ 32 →
    Gives (.cycleStart r) s (fun t => Answers r pa flags tag 0 0 [] s t ∧ t.get LIM_CYC_CTRL_RUN 0 = 1 ∧ t.get LIM_STAT_RUNNING 0 = 1 ∧
      t.get LIM_CYC_CTRL_DOM 0 = dom ∧ t.get LIM_CYC_PERIOD_PERIOD 0 = period ∧ t.get LIM_CYC_START_START 0 = start ∧ t.get LIM_CYC_NUM0_NUM0 0 = num0 ∧
      t.get LIM_CYC_NUM_NUM 0 = n0 ∧ t.get LIM_STAT_FILL_HALF 0 = n0 % 2 ∧ QuietH s t ∧
      CellsBut s t [(RING_STS_TAIL, r), (RING_TURN, 0), (LIM_CYC_CTRL_RUN, 0), (LIM_STAT_RUNNING, 0), (LIM_CYC_CTRL_DOM, 0), (LIM_CYC_PERIOD_PERIOD, 0),
        (LIM_CYC_START_START, 0), (LIM_CYC_NUM0_NUM0, 0), (LIM_CYC_NUM_NUM, 0), (LIM_STAT_FILL_HALF, 0), (LIM_PHASE, 0), (LIM_STOP, 0), (LIM_NEXT, 0)]
        evtCells)) ∧
  (∀ (r : Fin 32) (pa flags tag dom period start num0 ahead : Nat) (s : State), Asks r pa 0x0200 flags tag
      (parsOf (toBytes 1 dom ++ toBytes 3 0 ++ toBytes 4 period ++ toBytes 4 start ++ toBytes 4 num0)) s → flags < 4 → s.get HIF_RING_OWN_FUNC r = 0 →
    dom < 16 → period < 2 ^ 32 → start < 2 ^ 32 → s.get LIM_CYC_CTRL_LOCK 0 = 0 → ahead = (start * 256 + 2 ^ 40 - s.now dom) % 2 ^ 40 →
    Gives (.cycleStart r) s (fun t => (s.get LIM_STAT_RUNNING 0 = 1 → ∃ d : Nat, d < 5 ∧ JustAnswers r pa flags tag 0x0203 d s t) ∧
      (s.get LIM_STAT_RUNNING 0 = 0 → (ahead < 1000 * 256 ∨ 2000000000 * 256 < ahead) → JustAnswers r pa flags tag 0x0203 1 s t) ∧
      (s.get LIM_STAT_RUNNING 0 = 0 → 1000 * 256 ≤ ahead → ahead ≤ 2000000000 * 256 → (period < 25000 ∨ 6400000 < period) →
        JustAnswers r pa flags tag 0x0203 2 s t) ∧
      (s.get LIM_STAT_RUNNING 0 = 0 → 1000 * 256 ≤ ahead → ahead ≤ 2000000000 * 256 → 25000 ≤ period → period ≤ 6400000 →
        s.get LIM_BASE_SLOTS_K 0 = 0 → s.get DEV_LOCK_LOCK 0 = 0 →
        JustAnswers r pa flags tag 0x0203 4 s t))) ∧
  (∀ (r : Fin 32) (pa flags tag : Nat) (s : State), Asks r pa 0x0201 flags tag (parsOf []) s → flags < 4 → s.get HIF_RING_OWN_FUNC r = 0 →
    (s.get LIM_STAT_RUNNING 0 = 1 → Gives (.cycleStop r) s (fun t => Accepts r pa 0x0201 tag (parsOf []) .stop s.out s t ∧
      t.get LIM_CYC_CTRL_RUN 0 = 0 ∧ t.get LIM_STOP 0 = 1 ∧ QuietH s t ∧ CellsBut s t [(RING_STS_TAIL, r), (RING_TURN, 0), (LIM_CYC_CTRL_RUN, 0), (LIM_STOP, 0)] [])) ∧
    (s.get LIM_STAT_RUNNING 0 = 0 → Gives (.cycleStop r) s (fun t => JustAnswers r pa flags tag 0x0202 0 s t))) ∧
  (∀ (r : Fin 32) (pa flags tag at' period ahead : Nat) (i : Fin 16) (s : State), Asks r pa 0x0202 flags tag (parsOf (toBytes 4 at' ++ toBytes 4 period)) s →
    flags < 4 → s.get HIF_RING_OWN_FUNC r = 0 → at' < 2 ^ 32 → period < 2 ^ 32 → ahead = (at' + 2 ^ 32 - s.get LIM_CYC_NUM_NUM 0) % 2 ^ 32 →
    (∀ j : Fin 16, j < i → s.get INST_STATE j = 0) →
    (s.get INST_STATE i ≠ 0 → period < s.get INST_MINP i ∨ period < s.get INST_WCET i → Gives (.periodChange r) s (fun t =>
      JustAnswers r pa flags tag 0x0205 i s t)) ∧
    ((∀ j : Fin 16, s.get INST_STATE j = 0) → ahead = 0 ∨ 2 ^ 31 ≤ ahead ∨ period < 25000 ∨ 6400000 < period → Gives (.periodChange r) s (fun t =>
      JustAnswers r pa flags tag 0x0204 0 s t)) ∧
    ((∀ j : Fin 16, s.get INST_STATE j = 0) → 0 < ahead → ahead < 2 ^ 31 → 25000 ≤ period → period ≤ 6400000 → Gives (.periodChange r) s (fun t =>
      Answers r pa flags tag 0 0 [] s t ∧ t.get LIM_CYC_CHG_NEW_PERIOD 0 = period ∧ t.get LIM_CYC_CHG_AT 0 = at' ∧ t.get LIM_STAT_CHG_PEND 0 = 1 ∧
      QuietH s t ∧ CellsBut s t [(RING_STS_TAIL, r), (RING_TURN, 0), (LIM_CYC_CHG_NEW_PERIOD, 0), (LIM_CYC_CHG_AT, 0), (LIM_STAT_CHG_PEND, 0)] evtCells))) ∧
  (∀ (r : Fin 32) (pa flags tag ports slices : Nat) (s : State), Asks r pa 0x0203 flags tag (parsOf (toBytes 4 ports ++ toBytes 1 slices)) s →
    flags < 4 → s.get HIF_RING_OWN_FUNC r = 0 → ports < 2 ^ 32 → slices < 2 → s.started = true →
    (ports = 0 → slices = 0 → Gives (.tabCommit r) s (fun t => JustAnswers r pa flags tag 0x0103 8 s t)) ∧
    (ports + slices ≠ 0 → s.get LIM_STAT_COMMIT_PEND 0 = 1 → Gives (.tabCommit r) s (fun t => JustAnswers r pa flags tag 0x0206 0 s t)) ∧
    (ports + slices ≠ 0 → s.get LIM_STAT_COMMIT_PEND 0 = 0 → Gives (.tabCommit r) s (fun t =>
      Accepts r pa 0x0203 tag (parsOf (toBytes 4 ports ++ toBytes 1 slices)) .tabCommit s.out s t ∧ t.get LIM_STAT_COMMIT_PEND 0 = 1 ∧
      t.get TAB_GROUP 0 = ports + 2 ^ 32 * slices ∧ QuietH s t ∧
      CellsBut s t [(RING_STS_TAIL, r), (RING_TURN, 0), (LIM_STAT_COMMIT_PEND, 0), (TAB_GROUP, 0), (LIM_TAB_COMMIT_PORTS, 0), (LIM_TAB_COMMIT_SLICES, 0)] []))) ∧
  (∀ (r : Fin 32) (pa flags tag base k : Nat) (s : State), Asks r pa 0x0204 flags tag (parsOf (toBytes 2 base ++ toBytes 1 k)) s →
    flags < 4 → s.get HIF_RING_OWN_FUNC r = 0 → base < 2 ^ 10 → k < 2 ^ 8 →
    (s.get LIM_STAT_RUNNING 0 = 1 → Gives (.imageSet r) s (fun t => JustAnswers r pa flags tag 0x0201 0 s t)) ∧
    (s.get LIM_STAT_RUNNING 0 = 0 → s.get LIM_CYC_CTRL_LOCK 0 = 1 ∨ s.get SBD_CTRL_EN 0 = 1 → Gives (.imageSet r) s (fun t =>
      JustAnswers r pa flags tag 0x0208 0 s t)) ∧
    (s.get LIM_STAT_RUNNING 0 = 0 → s.get LIM_CYC_CTRL_LOCK 0 = 0 → s.get SBD_CTRL_EN 0 = 0 → Gives (.imageSet r) s (fun t =>
      Answers r pa flags tag 0 0 [] s t ∧ t.get LIM_BASE_BASE 0 = base ∧ t.get LIM_BASE_SLOTS_K 0 = k ∧
      CellsBut s t [(RING_STS_TAIL, r), (RING_TURN, 0), (LIM_BASE_BASE, 0), (LIM_BASE_SLOTS_K, 0)] (evtCells ++ [LIM_TAB_STAT_STATE, LIM_TAB_CTRL_DONE])))) ∧
  (∀ (r : Fin 32) (pa flags tag : Nat) (p : Fin 32) (s : State), Asks r pa 0x0300 flags tag (parsOf (toBytes 1 p)) s → flags < 4 →
    s.get HIF_RING_OWN_FUNC r = 0 → s.get RDN_CFG_EN 0 = 0 →
    (s.get MAC_SCAN_STAT_STATE p = 1 ∨ s.get MAC_SCAN_STAT_STATE p = 2 ∨ s.get MAC_CFG_RING_ROLE p ≠ 1 ∨ s.get MAC_STAT_LINK p = 0 →
      Gives (.topoScan r) s (fun t => JustAnswers r pa flags tag 0x020D 0 s t)) ∧
    (s.get MAC_SCAN_STAT_STATE p ≠ 1 → s.get MAC_SCAN_STAT_STATE p ≠ 2 → s.get MAC_CFG_RING_ROLE p = 1 → s.get MAC_STAT_LINK p = 1 →
      Gives (.topoScan r) s (fun t => t.cmds = s.cmds ++ [⟨r.val, tag, 0x0300, false, .scan p, none, parsOf (toBytes 1 p), []⟩] ∧
        t.fetched = [] ∧ t.get MAC_SCAN_STAT_STATE p = 1 ∧ t.get MAC_SCAN_STAT_RESTARTED p = 0 ∧ t.get SCAN_HOP p = 1))) ∧
  (∀ (r : Fin 32) (pa flags tag mac vid ports : Nat) (s : State), Asks r pa 0x0301 flags tag
      (parsOf (toBytes 8 mac ++ toBytes 2 vid ++ toBytes 6 0 ++ toBytes 8 ports)) s → flags < 4 → s.get HIF_RING_OWN_FUNC r = 0 → mac < 2 ^ 48 →
    vid < 4096 → ports < 2 ^ 40 → s.fdb.length < 8 → Gives (.fdbAdd r) s (fun t => Answers r pa flags tag 0 0 [] s t ∧
      t.fdb = s.fdb.filter (fun e => !(e.mac = mac && e.vid = vid)) ++ [⟨mac, vid, ports, true, s.get CORE_COUNT 0⟩] ∧ QuietH { s with fdb := t.fdb } t ∧
      t.get SBD_FDB_STAT_USED 0 = t.fdb.length ∧ CellsBut s t [(RING_STS_TAIL, r), (RING_TURN, 0), (SBD_FDB_STAT_USED, 0)] evtCells)) ∧
  (∀ (r : Fin 32) (pa flags tag mac vid : Nat) (s : State), Asks r pa 0x0302 flags tag (parsOf (toBytes 8 mac ++ toBytes 2 vid)) s → flags < 4 →
    s.get HIF_RING_OWN_FUNC r = 0 → mac < 2 ^ 48 → vid < 4096 → s.fdb.length < 2 ^ 14 →
    ((∃ e ∈ s.fdb, e.mac = mac ∧ e.vid = vid ∧ e.static = true) → Gives (.fdbDel r) s (fun t => Answers r pa flags tag 0 0 [] s t ∧
      t.fdb = s.fdb.filter (fun e => !(e.mac = mac && e.vid = vid)) ∧ t.get SBD_FDB_STAT_USED 0 = t.fdb.length ∧ QuietH { s with fdb := t.fdb } t ∧
      CellsBut s t [(RING_STS_TAIL, r), (RING_TURN, 0), (SBD_FDB_STAT_USED, 0)] evtCells)) ∧
    ((∀ e ∈ s.fdb, e.mac ≠ mac ∨ e.vid ≠ vid ∨ e.static = false) → Gives (.fdbDel r) s (fun t => JustAnswers r pa flags tag 0x0209 0 s t))) ∧
  (∀ (r : Fin 32) (pa flags tag : Nat) (s : State), Asks r pa 0x0303 flags tag (parsOf []) s → flags < 4 → s.get HIF_RING_OWN_FUNC r = 0 →
    (s.get SBD_FLOW_STAT_PEND 0 = 1 → Gives (.flowCommit r) s (fun t => JustAnswers r pa flags tag 0x0206 0 s t)) ∧
    (s.get SBD_FLOW_STAT_PEND 0 = 0 → s.started = true → Gives (.flowCommit r) s (fun t => Accepts r pa 0x0303 tag (parsOf []) .flowCommit s.out s t ∧
      t.get SBD_FLOW_STAT_PEND 0 = 1 ∧ QuietH s t ∧ CellsBut s t [(RING_STS_TAIL, r), (RING_TURN, 0), (SBD_FLOW_STAT_PEND, 0)] []))) ∧
  (∀ (r : Fin 32) (pa flags tag : Nat) (q : Fin 40) (s : State), Asks r pa 0x0304 flags tag (parsOf (toBytes 1 q)) s → flags < 4 →
    s.get HIF_RING_OWN_FUNC r = 0 →
    (s.get SBD_LVR_STAT_PEND q = 1 → Gives (.lvrCommit r) s (fun t => JustAnswers r pa flags tag 0x0206 0 s t)) ∧
    (s.get SBD_LVR_STAT_PEND q = 0 → s.get SBD_LVR_STAT_STATE q < 2 → Gives (.lvrCommit r) s (fun t =>
      t.cmds = s.cmds ++ [⟨r.val, tag, 0x0304, false, .louvre q, none, parsOf (toBytes 1 q), []⟩] ∧ t.fetched = [] ∧ t.get SBD_LVR_STAT_PEND q = 1)))

/-- PROFILE_LOAD to COURSE_STOP: the checks of a load, loading, unloading, starting and stopping a profile's Courses (R331, R163, R164, R165, R166, R167, R161, R174, R327). -/
def Obligations.ProfileCommands : Prop :=
  (∀ (r : Fin 32) (pa flags tag inst slot courses sb kib : Nat) (owners img : List Byte) (s : State), Asks r pa 0x0400 flags tag
      (parsOf (toBytes 1 inst ++ toBytes 1 slot ++ toBytes 2 0 ++ toBytes 4 courses ++ toBytes 4 sb ++ toBytes 4 kib ++ owners)) s → flags < 4 →
    s.get HIF_RING_OWN_FUNC r = 0 → inst < 16 → slot < 8 → owners = List.replicate 32 255 → img = slotImage s slot →
    Gives (.profileLoad r) s (fun t => (s.get PCS_STAT_STATE 0 = 3 → JustAnswers r pa flags tag 0x0504 2 s t) ∧
      (s.get PCS_STAT_STATE 0 = 2 → slotWord s slot 0 % 4 ≠ 2 → JustAnswers r pa flags tag 0x0105 1 s.used t) ∧
      (s.get PCS_STAT_STATE 0 = 2 → slotWord s slot 0 % 4 = 2 → profileFormat img ≠ 0 → JustAnswers r pa flags tag 0x0105 (profileFormat img) s.used t) ∧
      (s.get PCS_STAT_STATE 0 = 2 → slotWord s slot 0 % 4 = 2 → profileFormat img = 0 → (∀ kb ∈ profileSigners s, keyIdOf kb ≠ slice img 64 8) →
        JustAnswers r pa flags tag 0x0403 4 s.used t) ∧
      (s.get PCS_STAT_STATE 0 = 2 → slotWord s slot 0 % 4 = 2 → profileFormat img = 0 → (∀ kb ∈ profileSigners s, keyIdOf kb = slice img 64 8) → profileSigners s ≠ [] →
        (∀ kb ∈ profileSigners s, signedBy kb (img.take (imgWord img 0 2)) (slice img (imgWord img 0 2) 4724) = true) →
        imgWord img 0 6 < svnMin s (256 * (imgWord img 0 3 % 2 ^ 8) + imgWord img 0 3 / 2 ^ 8 % 2 ^ 8) →
        JustAnswers r pa flags tag 0x0404 (svnMin s (256 * (imgWord img 0 3 % 2 ^ 8) + imgWord img 0 3 / 2 ^ 8 % 2 ^ 8) % 2 ^ 16) s.used t))) ∧
  (∀ (r : Fin 32) (pa flags tag inst slot courses sb kib : Nat) (owners img : List Byte) (s : State), Asks r pa 0x0400 flags tag
      (parsOf (toBytes 1 inst ++ toBytes 1 slot ++ toBytes 2 0 ++ toBytes 4 courses ++ toBytes 4 sb ++ toBytes 4 kib ++ owners)) s → flags < 4 →
    s.get HIF_RING_OWN_FUNC r = 0 → inst < 16 → slot < 8 → courses < 2 ^ 32 → sb < 2 ^ 32 → kib < 2 ^ 32 → img = slotImage s slot →
    slotWord s slot 0 % 4 = 2 → owners.length = 32 → imgWord img 0 7 % 2 ^ 6 ≤ (members courses).length →
    (members courses).length ≤ imgWord img 0 7 / 2 ^ 8 % 2 ^ 6 →
    (∀ n ∈ members courses, s.get CRS_STAT_STATE n < 2 ∧ (∀ i : Fin 16, s.get INST_STATE i = 0 ∨ s.bit INST_COURSES i n = false)) →
    s.get INST_STATE inst = 0 → (∀ p : Fin 32, (owners.getD p 255).toNat = 255 ∨
      ((owners.getD p 255).toNat ∈ members courses ∧ portOwner s p = none ∧ bitOf (imgWord img 0 8 % 2 ^ 7) (s.get MAC_CFG_MODE p) = true ∧
        (s.get MAC_CFG_RING_ROLE p = 1 → bitOf (imgWord img 0 8) 8 = true) ∧ (s.get MAC_CFG_RING_ROLE p = 2 → bitOf (imgWord img 0 8) 9 = true) ∧
        ((List.range 32).filter (fun k => owners.getD k 255 == owners.getD p 255)).length ≤ imgWord img 0 7 / 2 ^ 16 % 2 ^ 6)) →
    imgWord img 0 11 / 2 ^ 16 + (members courses).length * (imgWord img 0 11 % 2 ^ 16) ≤ kib → sb + 1024 * kib ≤ 2 ^ 26 →
    s.areaReserved sb (1024 * kib) = true →
    s.get LIM_STAT_RUNNING 0 = 0 ∨ (imgWord img 0 13 % 2 ^ 23 ≤ s.get LIM_CYC_PERIOD_PERIOD 0 ∧ imgWord img 0 12 ≤ s.get LIM_CYC_PERIOD_PERIOD 0) →
    Gives (.profileLoad r) s (fun t => profileCheck s img = 0 →
      Accepts r pa 0x0400 tag (parsOf (toBytes 1 inst ++ toBytes 1 slot ++ toBytes 2 0 ++ toBytes 4 courses ++ toBytes 4 sb ++ toBytes 4 kib ++ owners))
        (.load inst) s.out s t ∧ t.get INST_STATE inst = 1 ∧ t.get INST_SLOT inst = slot ∧ t.get INST_COURSES inst = courses ∧ t.get INST_SB inst = sb ∧
      t.get INST_CLASS inst = imgWord img 0 4 ∧ t.get INST_WCET inst = imgWord img 0 12 % 2 ^ 32 ∧ t.get INST_MINP inst = imgWord img 0 13 % 2 ^ 23 ∧
      QuietH s t ∧ CellsBut s t [(RING_STS_TAIL, r), (RING_TURN, 0), (INST_STATE, inst), (INST_SLOT, inst), (INST_COURSES, inst), (INST_SB, inst), (INST_SB_KIB, inst),
        (INST_OWNERS, inst), (INST_CPFCP, inst), (INST_CLASS, inst), (INST_VERSION, inst), (INST_WCET, inst), (INST_MINP, inst), (INST_SVN, inst),
        (INST_DIGEST, inst)] [])) ∧
  (∀ (i : Fin 16) (n m : Fin 32) (img : List Byte) (kind dest size src : Nat) (s : State), s.get INST_STATE i = 1 → s.get INST_COURSES i = 2 ^ n.val →
    img = slotImage s (s.get INST_SLOT i) → sectionsOf img = [⟨kind, dest, size, src⟩] → kind = 1 ∨ kind = 2 → dest + size ≤ 0x7F800 →
    src + size ≤ img.length → imgWord img 0 9 < 2 ^ 19 → imgWord img 0 9 % 4 = 0 → s.get CRS_ON n = 1 → s.get CRS_STAT_STATE n = 1 → m ≠ n →
    Gives (.profileLoaded i) s (fun t => t.get INST_STATE i = 2 ∧ (∀ c ∈ s.cmds, c.wait = .load i → c.done = none →
        { c with done := some (0, 0, []) } ∈ t.cmds) ∧
      t.get CRS_STAT_STATE n = 1 ∧ t.get CORE_CP n = imgWord img 0 9 / 2 ^ 18 ∧ t.get CORE_PC n = imgWord img 0 9 % 2 ^ 18 / 4 ∧
      t.get CORE_VBASE n = imgWord img 0 10 ∧ t.get CRS_IDENT_INST n = i ∧ t.get CRS_IDENT_RANK n = 0 ∧ t.get CRS_IDENT_SIZE n = 1 ∧
      (∀ p : Fin 32, t.bit CRS_OWN_PORTS n p = decide (s.get INST_OWNERS i / 2 ^ (8 * p.val) % 2 ^ 8 = n)) ∧
      t.get CRS_RIGHTS_TRANSOM n = imgWord img 0 15 / 2 ^ 5 % 2 ∧ t.get CRS_RIGHTS_HOSTMEM n = imgWord img 0 15 / 2 ^ 6 % 2 ∧
      t.get CRS_EVT_EN_EN n = 0 ∧ t.get CRS_TXR_PTR_TAIL n = 0 ∧ t.get CRS_TXR_PTR_HEAD n = 0 ∧ t.get CRS_RXR_PTR_TAIL n = 0 ∧
      t.get CRS_RXR_PTR_HEAD n = 0 ∧
      (∀ k : Nat, k / 0x8_0000 = 0 → t.sramByte (n * 0x8_0000 + k) = if dest ≤ k ∧ k < dest + size then img.getD (src + (k - dest)) 0 else 0) ∧
      (∀ k : Nat, k / 0x8_0000 = 0 → t.sramByte (m * 0x8_0000 + k) = s.sramByte (m * 0x8_0000 + k)) ∧ t.mem = s.mem ∧
      t.get CRS_STAT_STATE m = s.get CRS_STAT_STATE m ∧ t.get CRS_OWN_PORTS m = s.get CRS_OWN_PORTS m ∧ t.get CORE_PC m = s.get CORE_PC m)) ∧
  (∀ (i : Fin 16) (s : State), s.get INST_STATE i ≠ 1 → Gives (.profileLoaded i) s (fun t => t = s)) ∧
  (∀ (r : Fin 32) (pa flags tag : Nat) (i : Fin 16) (s : State), Asks r pa 0x0401 flags tag (parsOf (toBytes 1 i)) s → flags < 4 →
    s.get HIF_RING_OWN_FUNC r = 0 → (∀ c ∈ s.cmds, c.wait ≠ .unload i) → s.wtb = [] → s.dir = [] → s.get TRB_STAT_LOCKED 0 = 0 →
    (s.get INST_STATE i ≠ 1 → s.get INST_STATE i ≠ 2 → Gives (.profileUnload r) s (fun t => JustAnswers r pa flags tag 0x0209 0 s t)) ∧
    (s.get INST_STATE i = 2 → s.started = true → Gives (.profileUnload r) s (fun t =>
      Accepts r pa 0x0401 tag (parsOf (toBytes 1 i)) (.unload i) s.out s t ∧ t.get INST_STATE i = 3 ∧
      (∀ n : Fin 32, s.bit INST_COURSES i n = true → t.get CRS_STAT_STATE n = (if s.get CRS_STAT_STATE n = 2 ∨ s.get CRS_STAT_STATE n = 3 then 1
        else s.get CRS_STAT_STATE n)) ∧ CellsBut s t [(RING_STS_TAIL, r), (RING_TURN, 0), (INST_STATE, i)] [CRS_STAT_STATE, CORE_BLOCK])) ∧
    (s.get INST_STATE i = 2 → s.started = false → Gives (.profileUnload r) s (fun t =>
      t.cmds = s.cmds ++ [⟨r.val, tag, 0x0401, false, .unload i, some (0, 0, []), parsOf (toBytes 1 i), []⟩] ∧ t.fetched = [] ∧
      t.get INST_STATE i = 0 ∧ (∀ n : Fin 32, s.bit INST_COURSES i n = true → t.get CRS_STAT_STATE n = 0 ∧ t.get CRS_OWN_PORTS n = 0 ∧
        (∀ p : Fin 32, s.bit CRS_OWN_PORTS n p = true → t.get MAC_CYC_CTRL_EN p = 0)) ∧
      (∀ n : Fin 32, s.bit INST_COURSES i n = false → t.get CRS_STAT_STATE n = s.get CRS_STAT_STATE n ∧
        t.get CRS_OWN_PORTS n = s.get CRS_OWN_PORTS n)))) ∧
  (∀ (r : Fin 32) (pa flags tag at' ahead : Nat) (i : Fin 16) (s : State), Asks r pa 0x0402 flags tag (parsOf (toBytes 1 i ++ toBytes 3 0 ++ toBytes 4 at')) s →
    flags < 4 → s.get HIF_RING_OWN_FUNC r = 0 → at' < 2 ^ 32 → ahead = (at' + 2 ^ 32 - s.get LIM_CYC_NUM_NUM 0) % 2 ^ 32 →
    (s.get INST_STATE i ≠ 2 → Gives (.profileStart r) s (fun t => JustAnswers r pa flags tag 0x0209 0 s t)) ∧
    (s.get INST_STATE i = 2 → s.get LIM_STAT_RUNNING 0 = 1 → 0 < ahead → ahead < 2 ^ 31 → Gives (.profileStart r) s (fun t =>
      Answers r pa flags tag 0 0 [] s t ∧ t.get CRS_GSTART_MASK 0 = s.get INST_COURSES i % 2 ^ 32 ∧ t.get CRS_GSTART_AT 0 = at' ∧
      t.get GST_ARMED 0 = 1 ∧ QuietH s t ∧ CellsBut s t [(RING_STS_TAIL, r), (RING_TURN, 0), (CRS_GSTART_MASK, 0), (CRS_GSTART_AT, 0), (GST_ARMED, 0)] evtCells)) ∧
    (s.get INST_STATE i = 2 → s.get LIM_STAT_RUNNING 0 = 0 ∨ ahead = 0 ∨ 2 ^ 31 ≤ ahead → Gives (.profileStart r) s (fun t =>
      Answers r pa flags tag 0 0 [] s t ∧ (∀ n : Fin 32, t.get CRS_STAT_STATE n =
        (if s.bit INST_COURSES i n = true ∧ s.get CRS_STAT_STATE n = 1 then 2 else s.get CRS_STAT_STATE n)) ∧ t.get GST_ARMED 0 = 0 ∧ QuietH s t ∧
      CellsBut s t [(RING_STS_TAIL, r), (RING_TURN, 0), (CRS_GSTART_MASK, 0), (CRS_GSTART_AT, 0), (GST_ARMED, 0)] (evtCells ++ [CRS_STAT_STATE])))) ∧
  (∀ (r : Fin 32) (pa flags tag : Nat) (i : Fin 16) (s : State), Asks r pa 0x0403 flags tag (parsOf (toBytes 1 i)) s → flags < 4 →
    (s.get INST_STATE i ≠ 2 → Gives (.profileInfo r) s (fun t => JustAnswers r pa flags tag 0x0209 0 s t)) ∧
    (s.get INST_STATE i = 2 → Gives (.profileInfo r) s (fun t => Answers r pa flags tag 0 0 (toBytes 2 (s.get INST_CPFCP i % 2 ^ 16) ++ toBytes 2 0 ++
      toBytes 4 (s.get INST_CLASS i) ++ toBytes 4 (s.get INST_VERSION i) ++ toBytes 4 (s.get INST_WCET i) ++ toBytes 4 (s.get INST_COURSES i)) s t ∧
      QuietH s t ∧ CellsBut s t [(RING_STS_TAIL, r), (RING_TURN, 0)] evtCells))) ∧
  (∀ (r : Fin 32) (pa flags tag courses : Nat) (s : State), Asks r pa 0x0404 flags tag (parsOf (toBytes 4 courses)) s → flags < 4 →
    s.get HIF_RING_OWN_FUNC r = 0 → courses < 2 ^ 32 → s.wtb = [] → s.get TRB_STAT_LOCKED 0 = 0 →
    Gives (.courseStop r) s (fun t => Answers r pa flags tag 0 0 [] s t ∧ (∀ n : Fin 32, t.get CRS_STAT_STATE n =
      (if bitOf courses n = true ∧ (s.get CRS_STAT_STATE n = 2 ∨ s.get CRS_STAT_STATE n = 3) then 1 else s.get CRS_STAT_STATE n)) ∧ QuietH s t ∧
      CellsBut s t [(RING_STS_TAIL, r), (RING_TURN, 0)] (evtCells ++ [CRS_STAT_STATE, CORE_BLOCK])))

/-- PAIR_CONFIG to PTP_SERVICE: what the commands on the redundant pair, power, health and time do and answer (R331, R403, R405, R410, R415, R417, R37, R39, R49, R34, R327). -/
def Obligations.StatusCommands : Prop :=
  (∀ (r : Fin 32) (pa flags tag en claim hold : Nat) (s : State), Asks r pa 0x0700 flags tag
      (parsOf (toBytes 1 en ++ toBytes 1 claim ++ toBytes 2 0 ++ toBytes 4 hold)) s → flags < 4 → s.get HIF_RING_OWN_FUNC r = 0 →
    en < 2 → claim < 2 ^ 8 → hold < 2 ^ 20 →
    (s.get LIM_STAT_RUNNING 0 = 1 → en = 1 ∨ s.get RDN_CFG_EN 0 = 1 → Gives (.pairConfig r) s (fun t => JustAnswers r pa flags tag 0x0201 0 s t)) ∧
    (s.get LIM_STAT_RUNNING 0 = 0 → en = 1 → s.get RDN_CFG_EN 0 = 0 → s.get RDN_CFG_LOCK 0 = 0 → s.get MAC_STAT_LINK 30 = 0 →
      s.get MAC_STAT_LINK 31 = 0 → Gives (.pairConfig r) s (fun t => Answers r pa flags tag 0 0 [] s t ∧
        t.get RDN_CFG_EN 0 = 1 ∧ t.get MAC_CFG_EN 30 = 0 ∧ t.get MAC_CFG_EN 31 = 0 ∧ t.get RDN_STAT_ROLE 0 = 3 ∧
        t.get RDN_CLAIM_CLAIM 0 = claim ∧ t.get RDN_CLAIM_EFFECTIVE 0 = 0 ∧ t.get RDN_HOLD_HOLD 0 = hold ∧
        (∀ p : Nat, p < 30 → t.get MAC_CFG_EN p = s.get MAC_CFG_EN p))) ∧
    (en = s.get RDN_CFG_EN 0 → s.get LIM_STAT_RUNNING 0 = 0 → Gives (.pairConfig r) s (fun t => Answers r pa flags tag 0 0 [] s t ∧
        t.get RDN_CLAIM_CLAIM 0 = claim ∧ t.get RDN_HOLD_HOLD 0 = hold ∧ QuietH s t ∧
        CellsBut s t [(RING_STS_TAIL, r), (RING_TURN, 0), (RDN_CLAIM_CLAIM, 0), (RDN_CLAIM_EFFECTIVE, 0), (RDN_HOLD_HOLD, 0)] evtCells))) ∧
  (∀ (r : Fin 32) (pa flags tag claim : Nat) (s : State), Asks r pa 0x0701 flags tag (parsOf (toBytes 1 claim)) s → flags < 4 →
    s.get HIF_RING_OWN_FUNC r = 0 → claim < 2 ^ 8 → Gives (.claimSet r) s (fun t => Answers r pa flags tag 0 0 [] s t ∧
      t.get RDN_CLAIM_CLAIM 0 = claim ∧ t.get RDN_CLAIM_EFFECTIVE 0 = (if s.get PWR_STAT_PF 0 ≠ 0 ∨ s.get LIM_STAT_RUNNING 0 = 0 ∨
        (s.get RDN_CFG_AUTO_YIELD 0 ≠ 0 ∧ s.get RDN_STAT_OWN_FIT 0 = 0) then 0 else claim) ∧ QuietH s t ∧
      CellsBut s t [(RING_STS_TAIL, r), (RING_TURN, 0), (RDN_CLAIM_CLAIM, 0), (RDN_CLAIM_EFFECTIVE, 0)] evtCells)) ∧
  (∀ (r : Fin 32) (pa flags tag : Nat) (s : State), Asks r pa 0x0702 flags tag (parsOf []) s → flags < 4 →
    Gives (.pairStatus r) s (fun t => Answers r pa flags tag 0 0 (toBytes 1 (if s.get PWR_STAT_PF 0 ≠ 0 ∨ s.get LIM_STAT_RUNNING 0 = 0 ∨
        (s.get RDN_CFG_AUTO_YIELD 0 ≠ 0 ∧ s.get RDN_STAT_OWN_FIT 0 = 0) then 0 else s.get RDN_CLAIM_CLAIM 0) ++
      toBytes 1 (s.get RDN_STAT_PEER_CLAIM 0) ++ toBytes 1 (s.get RDN_STAT_ROLE 0) ++ toBytes 1 (s.get RDN_STAT_LINK 0) ++
      toBytes 4 (s.get RDN_CNT_SWITCHOVERS 0)) s t ∧ QuietH s t ∧ CellsBut s t [(RING_STS_TAIL, r), (RING_TURN, 0)] evtCells)) ∧
  (∀ (r : Fin 32) (pa flags tag va : Nat) (host : HostMem) (s : State), Asks r pa 0x0800 flags tag (parsOf (toBytes 8 va)) s → flags < 4 →
    va < 2 ^ 48 → Gives (.healthReport r host) s (fun t => AcceptsEnded r pa 0x0800 tag (parsOf (toBytes 8 va))
        (match host with
          | .done _ => 0
          | .fault _ => 0x0501)
        (match host with
          | .done _ => 0
          | .fault why => why.val + 1)
        (match host with
          | .done _ => [256]
          | .fault _ => [])
        (s.out ++ [.hostWrite (s.get HIF_RING_OWN_CTX r) va (healthReport s)]) s t ∧ (healthReport s).length = 256 ∧ QuietH s t ∧
      CellsBut s t [(RING_STS_TAIL, r), (RING_TURN, 0)] [])) ∧
  (∀ (s : State), imgWord (healthReport s) 0 0 = 0x48544C48 ∧ imgWord (healthReport s) 0 1 = 0x01000001 ∧
    imgWord (healthReport s) 0 2 = s.get TMB_CTR (s.get LIM_CYC_CTRL_DOM 0) / 2 ^ 40 % 2 ^ 32 ∧
    imgWord (healthReport s) 0 3 = s.get TMB_CTR (s.get LIM_CYC_CTRL_DOM 0) / 2 ^ 32 % 2 ^ 8) ∧
  (∀ (f : Fin 4) (s : State), s.get PWR_FEED_MV f < 2 ^ 16 → s.get PWR_FEED_MA f < 2 ^ 16 → s.get PWR_FEED_PATH f < 4 →
    s.get PWR_FEED_PRESENT f < 2 → s.get PWR_FEED_TEST f < 4 → imgWord (healthReport s) 0 (5 + 2 * f) = s.get PWR_FEED_MV f + 2 ^ 16 * s.get PWR_FEED_MA f ∧
    imgWord (healthReport s) 0 (6 + 2 * f) % 2 ^ 5 = s.get PWR_FEED_PATH f + 4 * s.get PWR_FEED_PRESENT f + 8 * s.get PWR_FEED_TEST f) ∧
  (∀ (s : State), s.get PWR_TOTAL_POWER_MW 0 < 2 ^ 32 → s.get PWR_TOTAL_CYCLE_UJ 0 < 2 ^ 32 → s.get PWR_PF_STAT_EST_UJ 0 < 2 ^ 16 →
    s.get PWR_CAP_CAP_MW 0 < 2 ^ 32 → s.get RDN_CNT_SWITCHOVERS 0 < 2 ^ 32 → s.get PWR_TJ_TJ 0 < 2 ^ 32 → s.get LDG_CAP_USABLE_PAGES 0 < 2 ^ 32 →
    imgWord (healthReport s) 0 13 = 2 ^ 32 - 1 - s.get FIO_CPL_IN 0 ∧
      imgWord (healthReport s) 0 14 = 2 ^ 16 - 1 - s.get FIO_CPL_OUT 0 + 2 ^ 16 * s.get FIO_STAT_ISL_UP 0 ∧ imgWord (healthReport s) 0 15 = s.get PWR_TOTAL_POWER_MW 0 ∧
    imgWord (healthReport s) 0 16 = s.get PWR_TOTAL_CYCLE_UJ 0 ∧ imgWord (healthReport s) 0 17 = 10 * s.get PWR_PF_STAT_EST_UJ 0 ∧
    imgWord (healthReport s) 0 18 = s.get PWR_CAP_CAP_MW 0 ∧ imgWord (healthReport s) 0 20 = s.get RDN_CNT_SWITCHOVERS 0 ∧
    imgWord (healthReport s) 0 22 = s.get LDG_CAP_USABLE_PAGES 0 ∧ imgWord (healthReport s) 0 23 = s.get PWR_TJ_TJ 0 ∧
    (∀ p : Fin 32, bitOf (imgWord (healthReport s) 0 24) p = decide (s.get MAC_STAT_LANE p = 4)) ∧
    (∀ l : Fin 8, bitOf (imgWord (healthReport s) 0 25) l = decide (s.get TRK_LANE_STAT_LANE l = 4)) ∧
    (∀ i : Fin 38, imgWord (healthReport s) 0 (26 + i) = 0)) ∧
  (∀ (r : Fin 32) (pa flags tag mw : Nat) (s : State), Asks r pa 0x0801 flags tag (parsOf (toBytes 4 mw)) s → flags < 4 →
    s.get HIF_RING_OWN_FUNC r = 0 → mw < 2 ^ 20 → Gives (.powerCap r) s (fun t => Answers r pa flags tag 0 0 [] s t ∧
      t.get PWR_CAP_CAP_MW 0 = mw ∧ QuietH s t ∧ CellsBut s t [(RING_STS_TAIL, r), (RING_TURN, 0), (PWR_CAP_CAP_MW, 0)] evtCells)) ∧
  (∀ (r : Fin 32) (pa flags tag : Nat) (s : State), Asks r pa 0x0802 flags tag (parsOf []) s → flags < 4 →
    Gives (.energyRead r) s (fun t => Answers r pa flags tag 0 0 (toBytes 4 (s.get PWR_TOTAL_POWER_MW 0) ++ toBytes 4 (s.get PWR_TOTAL_CYCLE_UJ 0) ++
      toBytes 4 (s.get PWR_PF_STAT_EST_UJ 0 / 100) ++ toBytes 4 (s.get PWR_CAP_CAP_MW 0)) s t ∧ QuietH s t ∧
      CellsBut s t [(RING_STS_TAIL, r), (RING_TURN, 0)] evtCells)) ∧
  (∀ (r : Fin 32) (pa flags tag v : Nat) (s : State), Asks r pa 0x0803 flags tag (parsOf (toBytes 2 v)) s → flags < 4 →
    s.get HIF_RING_OWN_FUNC r = 0 → v < 2 ^ 16 → Gives (.feedTest r) s (fun t => Answers r pa flags tag 0 0 [] s t ∧
      t.get PWR_FEED_CFG_TEST_S 0 = v ∧ QuietH s t ∧ CellsBut s t [(RING_STS_TAIL, r), (RING_TURN, 0), (PWR_FEED_CFG_TEST_S, 0)] evtCells)) ∧
  (∀ (r : Fin 32) (pa flags tag : Nat) (d : Fin 16) (s : State), Asks r pa 0x0900 flags tag (parsOf (toBytes 1 d)) s → flags < 4 →
    Gives (.timeRead r) s (fun t => Answers r pa flags tag 0 0 (toBytes 4 (s.get TMB_CTR d / 2 ^ 40) ++ toBytes 1 (s.get TMB_CTR d / 2 ^ 32) ++
      toBytes 1 (s.get TMB_DOM_STAT_STATE d) ++ toBytes 2 0 ++ toBytes 8 (s.get TMB_DOM_EPOCH_SECONDS d +
        (s.get TMB_CTR d / 2 ^ 40 + 2 ^ 32 - s.get TMB_DOM_EPOCH_REF_REF_NS d) % 2 ^ 32 / 1000000000)) s t ∧ QuietH s t ∧
      CellsBut s t [(RING_STS_TAIL, r), (RING_TURN, 0)] evtCells)) ∧
  (∀ (r : Fin 32) (pa flags tag mode en port : Nat) (d : Fin 16) (s : State), Asks r pa 0x0901 flags tag
      (parsOf (toBytes 1 d ++ toBytes 1 mode ++ toBytes 1 en ++ toBytes 1 port)) s → flags < 4 → s.get HIF_RING_OWN_FUNC r = 0 → mode < 4 → en < 2 → port < 64 →
    Gives (.domainSet r) s (fun t => Answers r pa flags tag 0 0 [] s t ∧ t.get TMB_DOM_CFG_MODE d = mode ∧ t.get TMB_DOM_CFG_STEP_EN d = en ∧
      t.get TMB_DOM_CFG_SRC_PORT d = port ∧ (mode ≠ 2 → t.get TMB_DOM_STAT_STATE d = 0) ∧ (mode = 2 → s.get TMB_DOM_CFG_MODE d ≠ 2 →
        t.get TMB_DOM_STAT_STATE d = 1) ∧ (mode = 2 → s.get TMB_DOM_CFG_MODE d = 2 → t.get TMB_DOM_STAT_STATE d = s.get TMB_DOM_STAT_STATE d) ∧
      QuietH s t ∧ (mode ≠ 2 → CellsBut s t [(RING_STS_TAIL, r), (RING_TURN, 0), (TMB_DOM_CFG_MODE, d), (TMB_DOM_CFG_STEP_EN, d), (TMB_DOM_CFG_SRC_PORT, d),
        (TMB_DOM_STAT_STATE, d), (TMB_SUMMARY_LOCKED, 0), (TMB_SUMMARY_HOLDOVER, 0)] evtCells))) ∧
  (∀ (r : Fin 32) (pa flags tag step : Nat) (d : Fin 16) (s : State), Asks r pa 0x0902 flags tag (parsOf (toBytes 1 d ++ toBytes 7 0 ++ toBytes 8 step)) s →
    flags < 4 → s.get HIF_RING_OWN_FUNC r = 0 → step < 2 ^ 39 ∨ (2 ^ 64 - 2 ^ 39 ≤ step ∧ step < 2 ^ 64) →
    (s.get LIM_STAT_RUNNING 0 = 0 ∨ s.get LIM_CYC_CTRL_DOM 0 ≠ d → Gives (.timeStep r) s (fun t => Answers r pa flags tag 0 0 [] s t ∧
      t.get TMB_STEP_ON d = 1 ∧ t.get TMB_STEP_VAL d = step % 2 ^ 40 ∧ QuietH s t ∧
      CellsBut s t [(RING_STS_TAIL, r), (RING_TURN, 0), (TMB_STEP_ON, d), (TMB_STEP_VAL, d)] evtCells)) ∧
    (s.get LIM_STAT_RUNNING 0 = 1 → s.get LIM_CYC_CTRL_DOM 0 = d → Gives (.timeStep r) s (fun t => Answers r pa flags tag 0x020F 0 [] s t ∧
      t.get TMB_DOM_CNT1_STEP_BLOCKED d = min (s.get TMB_DOM_CNT1_STEP_BLOCKED d + 1) 255 ∧
      t.bit EVT_SEEN_SEEN ((1923 + 4 * d) / 32) ((1923 + 4 * d) % 32) = true ∧ QuietH s t ∧
      CellsBut s t [(RING_STS_TAIL, r), (RING_TURN, 0), (TMB_DOM_CNT1_STEP_BLOCKED, d)] evtCells))) ∧
  (∀ (r : Fin 32) (pa flags tag role ports : Nat) (d : Fin 16) (s : State), Asks r pa 0x0903 flags tag
      (parsOf (toBytes 1 d ++ toBytes 1 role ++ toBytes 6 0 ++ toBytes 8 ports)) s → flags < 4 → s.get HIF_RING_OWN_FUNC r = 0 →
    role < 2 ^ 8 → ports < 2 ^ 40 → Gives (.ptpService r) s (fun t => Accepts r pa 0x0903 tag
        (parsOf (toBytes 1 d ++ toBytes 1 role ++ toBytes 6 0 ++ toBytes 8 ports)) .firmware s.out s t ∧ t.get PTP_ON d = 0 ∧
      t.get PTP_ROLE d = role ∧ t.get PTP_PORTS d = ports ∧ QuietH s t ∧
      CellsBut s t [(RING_STS_TAIL, r), (RING_TURN, 0), (PTP_ON, d), (PTP_ROLE, d), (PTP_PORTS, d)] []))

/-- LEDGER_READ to CAK_INSTALL: what the commands on the Ledger, images, sessions, lifecycle and keys do when they start, and how an installation ends (R331, R377, R371, R372, R373, R374, R375, R358, R360, R390, R392, R399). -/
def Obligations.KeepingCommands : Prop :=
  (∀ (r : Fin 32) (pa flags tag off n va : Nat) (ecc : List LdgEcc) (host : HostMem) (s : State), Asks r pa 0x0500 flags tag
      (parsOf (toBytes 4 off ++ toBytes 4 n ++ toBytes 8 va)) s → flags < 4 → s.get HIF_RING_OWN_FUNC r = 0 → off < 2 ^ 32 → 1 ≤ n → n ≤ 1048576 →
    va < 2 ^ 48 →
    (12544 * 4096 < off + n → Gives (.ledgerRead r ecc host) s (fun t => JustAnswers r pa flags tag 0x0104 0 s t)) ∧
    (off + n ≤ 12544 * 4096 → 2 ≤ s.get LDG_STAT_STATE 0 → Gives (.ledgerRead r ecc host) s (fun t => JustAnswers r pa flags tag 0x0503 0 s t)) ∧
    (off + n ≤ 12544 * 4096 → s.get LDG_STAT_STATE 0 < 2 → (∀ e ∈ ecc, e = .good) →
      (∀ i : Nat, i < (off % 256 + n + 255) / 256 → s.get LDG_SECTOR_BAD (off / 256 + i) = 0) → Gives (.ledgerRead r ecc host) s (fun t =>
        AcceptsEnded r pa 0x0500 tag (parsOf (toBytes 4 off ++ toBytes 4 n ++ toBytes 8 va))
          (match host with
            | .done _ => 0
            | .fault _ => 0x0501)
          (match host with
            | .done _ => 0
            | .fault why => why.val + 1) [] (s.out ++ [.hostWrite (s.get HIF_RING_OWN_CTX r) va (ldgBytes s off n)]) s t ∧ QuietH s t ∧
        CellsBut s t [(RING_STS_TAIL, r), (RING_TURN, 0)] [])) ∧
    (off + n ≤ 12544 * 4096 → s.get LDG_STAT_STATE 0 < 2 → off % 256 + n ≤ 256 → stagedOf s (off / 256) = none →
      pageState s (off / 4096) = 2 → s.get LDG_SECTOR_BAD (off / 256) = 1 → Gives (.ledgerRead r ecc host) s (fun t =>
        AcceptsEnded r pa 0x0500 tag (parsOf (toBytes 4 off ++ toBytes 4 n ++ toBytes 8 va)) 0x0502 1 [] s.out s t ∧
        t.bit EVT_SEEN_SEEN 2 4 = true))) ∧
  (∀ (r : Fin 32) (pa flags tag cls off n va : Nat) (host : HostMem) (s : State), Asks r pa 0x0501 flags tag
      (parsOf (toBytes 1 cls ++ toBytes 3 0 ++ toBytes 4 off ++ toBytes 4 n ++ toBytes 4 0 ++ toBytes 8 va)) s → flags < 4 →
    s.get HIF_RING_OWN_FUNC r = 0 → cls < 3 → off < 2 ^ 32 → 1 ≤ n → n ≤ 1048576 → va < 2 ^ 48 →
    (12544 * 4096 < off + n → Gives (.ledgerWrite r host) s (fun t => JustAnswers r pa flags tag 0x0104 0 s t)) ∧
    (off + n ≤ 12544 * 4096 → pageState s (off / 4096) = 4 → Gives (.ledgerWrite r host) s (fun t =>
      JustAnswers r pa flags tag 0x0303 (off / 4096) s t)) ∧
    (off + n ≤ 12544 * 4096 → off % 4096 + n ≤ 4096 → pageState s (off / 4096) ≠ 4 → 2 ≤ s.get LDG_STAT_STATE 0 →
      Gives (.ledgerWrite r host) s (fun t => JustAnswers r pa flags tag 0x0503 0 s t))) ∧
  (∀ (r : Fin 32) (pa flags tag cls off n va : Nat) (why : Fin 5) (s : State), Asks r pa 0x0501 flags tag
      (parsOf (toBytes 1 cls ++ toBytes 3 0 ++ toBytes 4 off ++ toBytes 4 n ++ toBytes 4 0 ++ toBytes 8 va)) s → flags < 4 →
    s.get HIF_RING_OWN_FUNC r = 0 → cls < 3 → 1 ≤ n → n ≤ 1048576 → va < 2 ^ 48 → off + n ≤ 12544 * 4096 → off % 4096 + n ≤ 4096 →
    pageState s (off / 4096) ≠ 4 → s.get LDG_STAT_STATE 0 < 2 → Gives (.ledgerWrite r (.fault why)) s (fun t =>
      AcceptsEnded r pa 0x0501 tag (parsOf (toBytes 1 cls ++ toBytes 3 0 ++ toBytes 4 off ++ toBytes 4 n ++ toBytes 4 0 ++ toBytes 8 va))
        0x0501 (why.val + 1) [] (s.out ++ [.hostRead (s.get HIF_RING_OWN_CTX r) va n]) s t ∧ QuietH s t ∧ CellsBut s t [(RING_STS_TAIL, r), (RING_TURN, 0)] [])) ∧
  (∀ (r : Fin 32) (pa flags tag cls off n va : Nat) (bs : List Byte) (s : State), Asks r pa 0x0501 flags tag
      (parsOf (toBytes 1 cls ++ toBytes 3 0 ++ toBytes 4 off ++ toBytes 4 n ++ toBytes 4 0 ++ toBytes 8 va)) s → flags < 4 →
    s.get HIF_RING_OWN_FUNC r = 0 → cls < 3 → 1 ≤ n → off % 256 + n ≤ 256 → va < 2 ^ 48 → off + n ≤ 12544 * 4096 → pageState s (off / 4096) ≠ 4 →
    s.get LDG_STAT_STATE 0 < 2 → bs.length = n → s.cmds = [] → s.ldgWait = [] → s.get RST_REQ 0 = 0 → stagedOf s (off / 256) = none →
    stagedCount s cls < ldgQuota s cls → s.get LDG_SEQ 0 + 1 < 2 ^ 64 → s.get LDG_CMD 0 + 1 < 2 ^ 64 → Gives (.ledgerWrite r (.done bs)) s (fun t =>
      t.cmds = [⟨r.val, tag, 0x0501, false, .flush (s.get LDG_SEQ 0 + 1) 0, none,
        parsOf (toBytes 1 cls ++ toBytes 3 0 ++ toBytes 4 off ++ toBytes 4 n ++ toBytes 4 0 ++ toBytes 8 va), []⟩] ∧ t.fetched = [] ∧
      t.staged.length = s.staged.length + 1 ∧ t.staged.take s.staged.length = s.staged ∧ stagedCount t cls = stagedCount s cls + 1 ∧
      (∀ a : Nat, a < 2 ^ 26 → ldgNewest t a = if off ≤ a ∧ a < off + n then bs.getD (a - off) 0 else ldgNewest s a) ∧ t.mem = s.mem ∧
      t.get LDG_FLUSH_BUSY 0 = 1 ∧ t.get LDG_TARGET 0 = s.get LDG_SEQ 0 + 1)) ∧
  (∀ (r : Fin 32) (pa flags tag : Nat) (s : State), Asks r pa 0x0503 flags tag (parsOf []) s → flags < 4 → s.get LDG_STAT_SPARES_EXHAUSTED 0 < 2 →
    s.get LDG_STAT_JOURNAL_SHORT 0 < 2 → s.get LDG_STAT_ROTATING 0 < 2 →
    Gives (.ledgerInfo r) s (fun t => Answers r pa flags tag 0 0 (toBytes 4 (4 * s.get LDG_CAP_USABLE_PAGES 0) ++ toBytes 2 (s.get LDG_SPARES_GEN_FREE 0) ++
      toBytes 2 (s.get LDG_SPARES_SEC_FREE 0) ++ toBytes 4 (s.get LDG_STAT_SPARES_EXHAUSTED 0 + 2 * s.get LDG_STAT_JOURNAL_SHORT 0 +
        4 * (if s.get LDG_PF_VALID 0 ≠ 0 ∧ (s.get LDG_PF_SEALED 0 = 0 ∨ s.get LDG_PF_CRIT_LOST 0 ≠ 0 ∨ s.get LDG_PF_IMP_LOST 0 ≠ 0 ∨
          s.get LDG_PF_ROUT_LOST 0 ≠ 0) then 1 else 0) + 8 * s.get LDG_STAT_ROTATING 0)) s t ∧ QuietH s t ∧ CellsBut s t [(RING_STS_TAIL, r), (RING_TURN, 0)] evtCells)) ∧
  (∀ (r : Fin 32) (pa flags tag : Nat) (s : State), Asks r pa 0x0504 flags tag (parsOf []) s → flags < 4 → s.get HIF_RING_OWN_FUNC r = 0 → s.cmds = [] →
    (2 ≤ s.get LDG_STAT_STATE 0 → Gives (.ledgerCompact r) s (fun t => JustAnswers r pa flags tag 0x0503 0 s t)) ∧
    (s.get LDG_STAT_STATE 0 < 2 → Gives (.ledgerCompact r) s (fun t => Accepts r pa 0x0504 tag (parsOf []) .compact s.out s t ∧
      t.get LDG_STAT_COMPACTING 0 = 1 ∧ (s.get LDG_STAT_COMPACTING 0 = 0 → ∃ q ∈ t.bgReqs, q.job = .compaction)))) ∧
  (∀ (r : Fin 32) (pa flags tag n va : Nat) (slot : Fin 8) (host : HostMem) (s : State), Asks r pa 0x0502 flags tag
      (parsOf (toBytes 1 slot ++ toBytes 3 0 ++ toBytes 4 n ++ toBytes 8 va)) s → flags < 4 → s.get HIF_RING_OWN_FUNC r = 0 → n ≤ 1048320 → va < 2 ^ 48 →
    (s.get PCS_STAT_STATE 0 = 3 → Gives (.imageInstall r host) s (fun t => JustAnswers r pa flags tag 0x0504 2 s t)) ∧
    (s.get PCS_STAT_STATE 0 < 2 → s.get DOM_OFF 32 = 1 → exec (.imageInstall r host) s = .next (s.put PCS_WAKE 0 1)) ∧
    (s.get PCS_STAT_STATE 0 = 2 → (slot.val < 2 ∧ s.get RST_BOOT_SLOT 0 = slot) ∨ (∃ i : Fin 16, s.get INST_STATE i ≠ 0 ∧ s.get INST_SLOT i = slot) →
      Gives (.imageInstall r host) s (fun t => JustAnswers r pa flags tag 0x0210 slot s t))) ∧
  (∀ (r : Fin 32) (pa flags tag va : Nat) (slot : Fin 8) (img : List Byte) (s : State), Asks r pa 0x0502 flags tag
      (parsOf (toBytes 1 slot ++ toBytes 3 0 ++ toBytes 4 img.length ++ toBytes 8 va)) s → flags < 4 → s.get HIF_RING_OWN_FUNC r = 0 →
    img.length ≤ 1048320 → va < 2 ^ 48 → s.get PCS_STAT_STATE 0 = 2 → (slot.val < 2 → s.get RST_BOOT_SLOT 0 ≠ slot) →
    (∀ i : Fin 16, s.get INST_STATE i = 0 ∨ s.get INST_SLOT i ≠ slot) → (∀ c ∈ s.cmds, c.opcode ≠ 0x0502) →
    (∀ j : Fin 256, 4096 * j.val < 256 + img.length → pageState s (slotOff slot / 4096 + j) ≠ 4) →
    (2 ≤ s.get LDG_STAT_STATE 0 → Gives (.imageInstall r (.done img)) s (fun t => JustAnswers r pa flags tag 0x0503 0 s t)) ∧
    (s.get LDG_STAT_STATE 0 < 2 → Gives (.imageInstall r (.done img)) s (fun t => (2 ≤ slot.val → profileFormat img ≠ 0 → AcceptsEnded r pa 0x0502 tag
        (parsOf (toBytes 1 slot ++ toBytes 3 0 ++ toBytes 4 img.length ++ toBytes 8 va)) 0x0105 (profileFormat img) []
        (s.out ++ [.hostRead (s.get HIF_RING_OWN_CTX r) va img.length]) s t ∧ QuietH s t ∧ CellsBut s t [(RING_STS_TAIL, r), (RING_TURN, 0)] []) ∧
      (slot.val < 2 → firmwareFormat img ≠ 0 → AcceptsEnded r pa 0x0502 tag
        (parsOf (toBytes 1 slot ++ toBytes 3 0 ++ toBytes 4 img.length ++ toBytes 8 va)) 0x0105 (firmwareFormat img) []
        (s.out ++ [.hostRead (s.get HIF_RING_OWN_CTX r) va img.length]) s t ∧ QuietH s t ∧ CellsBut s t [(RING_STS_TAIL, r), (RING_TURN, 0)] [])))) ∧
  (∀ (r : Fin 32) (pa flags tag va : Nat) (slot : Fin 8) (ws : List (Nat × List Byte)) (img : List Byte) (s : State), Asks r pa 0x0502 flags tag
      (parsOf (toBytes 1 slot ++ toBytes 3 0 ++ toBytes 4 img.length ++ toBytes 8 va)) s → flags < 4 → s.get HIF_RING_OWN_FUNC r = 0 →
    img.length ≤ 1048320 → va < 2 ^ 48 → s.get PCS_STAT_STATE 0 = 2 → (slot.val < 2 → s.get RST_BOOT_SLOT 0 ≠ slot) →
    (∀ i : Fin 16, s.get INST_STATE i = 0 ∨ s.get INST_SLOT i ≠ slot) → s.cmds = [] →
    (∀ j : Fin 256, 4096 * j.val < 256 + img.length → pageState s (slotOff slot / 4096 + j) ≠ 4) →
    s.get LDG_STAT_STATE 0 < 2 → ws = [(slotOff slot, toBytes 4 (slotWord s slot 0 / 2 ^ 8 * 2 ^ 8 + 1))] →
    Takes slot ws (min 2 (s.get LDG_WCLS_CC_CLASS 0)) s →
    Gives (.imageInstall r (.done img)) s (fun t => (if slot.val < 2 then firmwareCheck s img else profileCheck s img) = 0 →
      WritesThen ws 1 r tag (parsOf (toBytes 1 slot ++ toBytes 3 0 ++ toBytes 4 img.length ++ toBytes 8 va)) img s t ∧ t.fetched = [])) ∧
  (∀ (r : Fin 32) (pa flags tag n va l : Nat) (slot : Fin 8) (j : Fin 256) (host : HostMem) (s : State), Asks r pa 0x0502 flags tag
      (parsOf (toBytes 1 slot ++ toBytes 3 0 ++ toBytes 4 n ++ toBytes 8 va)) s → flags < 4 → s.get HIF_RING_OWN_FUNC r = 0 →
    n ≤ 1048320 → va < 2 ^ 48 → s.get PCS_STAT_STATE 0 = 2 → (slot.val < 2 → s.get RST_BOOT_SLOT 0 ≠ slot) →
    (∀ i : Fin 16, s.get INST_STATE i = 0 ∨ s.get INST_SLOT i ≠ slot) → (∀ c ∈ s.cmds, c.opcode ≠ 0x0502) →
    l = slotOff slot / 4096 + j → 4096 * j.val < 256 + n → pageState s l = 4 →
    (∀ m : Fin 256, m.val < j.val → pageState s (slotOff slot / 4096 + m) ≠ 4) →
    Gives (.imageInstall r host) s (fun t => JustAnswers r pa flags tag 0x0303 l s t)) ∧
  (∀ (r : Fin 32) (pa tag va n c : Nat) (slot : Fin 8) (ws : List (Nat × List Byte)) (img : List Byte) (h : HostMem) (s : State), RingOpen r pa s →
    s.get RST_BOOT_STAGE 0 = 5 → s.get FATAL_PATH 0 = 0 → s.fetched = [] → img.length ≤ 1048320 →
    ws = [(slotOff slot + 256, img), (slotOff slot + 4, toBytes 4 img.length ++ toBytes 4 (slotWord s slot 2 + 1) ++
        toBytes 4 (if slot.val < 2 then 0 else imgWord img 0 3 % 2 ^ 16) ++ toBytes 4 (imgWord img 0 (if slot.val < 2 then 4 else 6)) ++ sha384 img)] →
    c = min 2 (s.get LDG_WCLS_PC_CLASS 0) → Takes slot ws c s →
    s.cmds = [⟨r.val, tag, 0x0502, false, .step 1, none, parsOf (toBytes 1 slot ++ toBytes 3 0 ++ toBytes 4 n ++ toBytes 8 va), img⟩] →
    Gives (.finalReply r 0 h) s (fun t =>
      WritesThen ws 2 r tag (parsOf (toBytes 1 slot ++ toBytes 3 0 ++ toBytes 4 n ++ toBytes 8 va)) img s t ∧ t.out = s.out)) ∧
  (∀ (r : Fin 32) (pa tag va n c : Nat) (slot : Fin 8) (ws : List (Nat × List Byte)) (img : List Byte) (h : HostMem) (s : State), RingOpen r pa s →
    s.get RST_BOOT_STAGE 0 = 5 → s.get FATAL_PATH 0 = 0 → s.fetched = [] → img.length ≤ 1048320 →
    ws = [(slotOff slot, toBytes 4 (2 + 2 ^ 8 * ((topGen s slot + 1) % 2 ^ 24)))] → c = min 2 (s.get LDG_WCLS_CC_CLASS 0) → Takes slot ws c s →
    s.cmds = [⟨r.val, tag, 0x0502, false, .step 2, none, parsOf (toBytes 1 slot ++ toBytes 3 0 ++ toBytes 4 n ++ toBytes 8 va), img⟩] →
    Gives (.finalReply r 0 h) s (fun t =>
      WritesThen ws 3 r tag (parsOf (toBytes 1 slot ++ toBytes 3 0 ++ toBytes 4 n ++ toBytes 8 va)) img s t ∧ t.out = s.out)) ∧
  (∀ (r : Fin 32) (pa tag va n c : Nat) (slot : Fin 8) (ws : List (Nat × List Byte)) (img : List Byte) (h : HostMem) (s : State), RingOpen r pa s →
    s.get RST_BOOT_STAGE 0 = 5 → s.get FATAL_PATH 0 = 0 → s.fetched = [] → img.length ≤ 1048320 →
    ws = [(svnOff (256 * (imgWord img 0 3 % 2 ^ 8) + imgWord img 0 3 / 2 ^ 8 % 2 ^ 8), toBytes 4 (imgWord img 0 6))] →
    c = min 2 (s.get LDG_WCLS_PC_CLASS 0) → Takes slot ws c s → 2 ≤ slot.val →
    svnMin s (256 * (imgWord img 0 3 % 2 ^ 8) + imgWord img 0 3 / 2 ^ 8 % 2 ^ 8) < imgWord img 0 6 →
    s.cmds = [⟨r.val, tag, 0x0502, false, .step 3, none, parsOf (toBytes 1 slot ++ toBytes 3 0 ++ toBytes 4 n ++ toBytes 8 va), img⟩] →
    Gives (.finalReply r 0 h) s (fun t =>
      WritesThen ws 0 r tag (parsOf (toBytes 1 slot ++ toBytes 3 0 ++ toBytes 4 n ++ toBytes 8 va)) img s t ∧ t.out = s.out)) ∧
  (∀ (r : Fin 32) (pa tag va n : Nat) (slot : Fin 8) (img : List Byte) (h : HostMem) (s : State), RingOpen r pa s →
    s.get RST_BOOT_STAGE 0 = 5 → s.get FATAL_PATH 0 = 0 → s.fetched = [] → img.length ≤ 1048320 →
    (slot.val < 2 ∨ imgWord img 0 6 ≤ svnMin s (256 * (imgWord img 0 3 % 2 ^ 8) + imgWord img 0 3 / 2 ^ 8 % 2 ^ 8)) →
    s.cmds = [⟨r.val, tag, 0x0502, false, .step 3, none, parsOf (toBytes 1 slot ++ toBytes 3 0 ++ toBytes 4 n ++ toBytes 8 va), img⟩] →
    Gives (.finalReply r 0 h) s (fun t => Replies r pa tag 0 0 [] s.out s t ∧ t.cmds = [] ∧ t.staged = s.staged ∧ t.mem = s.mem)) ∧
  (∀ (r : Fin 32) (pa flags tag n nva rva : Nat) (host : HostMem) (s : State), Asks r pa 0x0600 flags tag
      (parsOf (toBytes 2 n ++ toBytes 6 0 ++ toBytes 8 nva ++ toBytes 8 rva)) s → flags < 4 → 1 ≤ n → n ≤ 64 → nva < 2 ^ 48 → rva < 2 ^ 48 →
    (s.get PCS_LC_STATE 0 = 4 → Gives (.attest r host) s (fun t => JustAnswers r pa flags tag 0x0504 0 s t)) ∧
    (s.get PCS_STAT_STATE 0 = 2 → s.get PCS_LC_STATE 0 ≠ 4 → Gives (.attest r host) s (fun t => t.cmds = s.cmds ++
        [match host with
          | .done bs => ⟨r.val, tag, 0x0600, false, .firmware, none, parsOf (toBytes 2 n ++ toBytes 6 0 ++ toBytes 8 nva ++ toBytes 8 rva),
              bs.take n ++ List.replicate (n - bs.length) 0⟩
          | .fault why => ⟨r.val, tag, 0x0600, false, .firmware, some (0x0501, why.val + 1, []),
              parsOf (toBytes 2 n ++ toBytes 6 0 ++ toBytes 8 nva ++ toBytes 8 rva), []⟩] ∧
      Replies r pa tag 1 0 [] (s.out ++ [.hostRead (s.get HIF_RING_OWN_CTX r) nva n]) s t ∧ t.fetched = [] ∧ QuietH s t ∧
      CellsBut s t [(RING_STS_TAIL, r), (RING_TURN, 0)] []))) ∧
  (∀ (r : Fin 32) (pa flags tag va : Nat) (host : HostMem) (s : State), Asks r pa 0x0601 flags tag (parsOf (toBytes 1 0 ++ toBytes 7 0 ++ toBytes 8 va)) s →
    flags < 4 → s.get HIF_RING_OWN_FUNC r = 0 → va < 2 ^ 48 → Gives (.secSession r host) s (fun t =>
      Accepts r pa 0x0601 tag (parsOf (toBytes 1 0 ++ toBytes 7 0 ++ toBytes 8 va)) .firmware s.out s t ∧ QuietH s t ∧
      CellsBut s t [(RING_STS_TAIL, r), (RING_TURN, 0)] [])) ∧
  (∀ (r : Fin 32) (pa tag va : Nat) (h : HostMem) (s : State), RingOpen r pa s → s.get FATAL_PATH 0 = 0 → s.fetched = [] →
    s.cmds = [⟨r.val, tag, 0x0601, false, .firmware, none, parsOf (toBytes 1 0 ++ toBytes 7 0 ++ toBytes 8 va), []⟩] →
    Gives (.finalReply r 0 h) s (fun t => Replies r pa tag 0 0 [] s.out s t ∧ t.cmds = [] ∧ t.get HIF_PF_SEC_SEC_EN 0 = 0 ∧
      (s.get HIF_PF_SEC_SEC_EN 0 = 1 → t.bit EVT_SEEN_SEEN 3 2 = true) ∧ QuietH s t ∧
      CellsBut s t [(RING_STS_TAIL, r), (HIF_PF_SEC_SEC_EN, 0), (DEV_CAP_DEBUG_OPEN, 0)] evtCells)) ∧
  (∀ (r : Fin 32) (pa flags tag va : Nat) (bs : List Byte) (s : State), Asks r pa 0x0601 flags tag (parsOf (toBytes 1 1 ++ toBytes 7 0 ++ toBytes 8 va)) s →
    flags < 4 → s.get HIF_RING_OWN_FUNC r = 0 → va < 2 ^ 48 → s.get PCS_STAT_STATE 0 = 2 → bs.length = requestMax → Gives (.secSession r (.done bs)) s (fun t =>
      t.cmds = s.cmds ++ [⟨r.val, tag, 0x0601, false, .firmware, none, parsOf (toBytes 1 1 ++ toBytes 7 0 ++ toBytes 8 va), bs⟩] ∧
      Replies r pa tag 1 0 [] (s.out ++ [.hostRead (s.get HIF_RING_OWN_CTX r) va requestMax]) s t ∧ t.fetched = [] ∧ QuietH s t ∧
      CellsBut s t [(RING_STS_TAIL, r), (RING_TURN, 0)] [])) ∧
  (∀ (r : Fin 32) (pa flags tag dest va : Nat) (host : HostMem) (s : State), Asks r pa 0x0602 flags tag (parsOf (toBytes 1 dest ++ toBytes 7 0 ++ toBytes 8 va)) s →
    flags < 4 → s.get HIF_RING_OWN_FUNC r = 0 → s.get HIF_PF_SEC_SEC_EN 0 = 1 → dest < 2 ^ 8 → va < 2 ^ 48 → s.get PCS_STAT_STATE 0 = 2 →
    (lcAllowed (s.get PCS_LC_STATE 0) dest = false → Gives (.lifecycleSet r host) s (fun t => JustAnswers r pa flags tag 0x0212 0 s t)) ∧
    (lcAllowed (s.get PCS_LC_STATE 0) dest = true → dest = 8 → Gives (.lifecycleSet r host) s (fun t =>
      Accepts r pa 0x0602 tag (parsOf (toBytes 1 dest ++ toBytes 7 0 ++ toBytes 8 va)) (.step 1) s.out s t ∧ t.get KEY_LC_OPEN 0 = 1 ∧ QuietH s t ∧
      CellsBut s t [(RING_STS_TAIL, r), (RING_TURN, 0), (KEY_LC_OPEN, 0)] [])) ∧
    (lcAllowed (s.get PCS_LC_STATE 0) dest = true → dest = 1 → (∀ k : Fin 4, s.bit PCS_FUSE_SEEDS 0 k = true) →
      Gives (.lifecycleSet r host) s (fun t => JustAnswers r pa flags tag 0x0304 0 s t)) ∧
    (lcAllowed (s.get PCS_LC_STATE 0) dest = true → dest = 1 → s.bit PCS_FUSE_SEEDS 0 3 = false → s.get PCS_STAT_DRBG_OK 0 = 0 →
      Gives (.lifecycleSet r host) s (fun t => JustAnswers r pa flags tag 0x0504 1 s t)) ∧
    (lcAllowed (s.get PCS_LC_STATE 0) dest = true → dest = 4 ∨ dest = 3 ∨ (dest = 1 ∧ s.bit PCS_FUSE_SEEDS 0 3 = false ∧ s.get PCS_STAT_DRBG_OK 0 = 1) →
      Gives (.lifecycleSet r host) s (fun t => t.get KEY_LC_OPEN 0 = 1 ∧ t.get PCS_STAT_WIPING 0 = 1 ∧ t.get HIF_PF_SEC_SEC_EN 0 = 0 ∧ t.caks = [] ∧
        t.get KEY_EPOCH 0 = (s.get KEY_EPOCH 0 + 1) % 2 ^ 32 ∧ (∃ c ∈ t.cmds, c.ring = r.val ∧ c.tag = tag ∧ c.opcode = 0x0602 ∧ c.done = none) ∧
        t.fetched = []))) ∧
  (∀ (r : Fin 32) (pa flags tag : Nat) (c : Fin 2) (s : State), Asks r pa 0x0603 flags tag (parsOf (toBytes 1 c)) s → flags < 4 →
    s.get HIF_RING_OWN_FUNC r = 0 → s.get HIF_PF_SEC_SEC_EN 0 = 1 →
    (2 ≤ s.get LDG_STAT_STATE 0 → Gives (.keyRotate r) s (fun t => JustAnswers r pa flags tag 0x0503 0 s t)) ∧
    (s.get LDG_STAT_STATE 0 < 2 → s.get LDG_ROT 0 ≠ 0 → exec (.keyRotate r) s = .next s) ∧
    (s.get LDG_STAT_STATE 0 < 2 → s.get LDG_ROT 0 = 0 → s.get PCS_STAT_STATE 0 = 2 → Gives (.keyRotate r) s (fun t =>
      Accepts r pa 0x0603 tag (parsOf (toBytes 1 c)) .rotate s.out s t ∧ t.get LDG_ROT 0 = c + 1 ∧ t.get LDG_STAT_ROTATING 0 = 1 ∧ QuietH s t ∧
      CellsBut s t [(RING_STS_TAIL, r), (RING_TURN, 0), (LDG_ROT, 0), (LDG_STAT_ROTATING, 0)] []))) ∧
  (∀ (r : Fin 32) (pa flags tag va : Nat) (p : Fin 8) (bs : List Byte) (s : State), Asks r pa 0x0604 flags tag (parsOf (toBytes 1 p ++ toBytes 7 0 ++ toBytes 8 va)) s →
    flags < 4 → s.get HIF_RING_OWN_FUNC r = 0 → s.get HIF_PF_SEC_SEC_EN 0 = 1 → va < 2 ^ 48 → s.get PCS_STAT_STATE 0 = 2 → bs.length = 1664 →
    Gives (.cakInstall r (.done bs)) s (fun t => t.cmds = s.cmds ++
        [⟨r.val, tag, 0x0604, false, .firmware, none, parsOf (toBytes 1 p ++ toBytes 7 0 ++ toBytes 8 va), bs⟩] ∧
      Replies r pa tag 1 0 [] (s.out ++ [.hostRead (s.get HIF_RING_OWN_CTX r) va 1664]) s t ∧ t.fetched = [] ∧ QuietH s t ∧
      CellsBut s t [(RING_STS_TAIL, r), (RING_TURN, 0)] []))

/-- The Transom: reads, posted writes, beats, retries, time-outs, the lock and the side-band lines (R340, R341, R342, R344, R345, R346, R348, R349). -/
def Obligations.TransomAccesses : Prop :=
  (∀ (q : Requester) (a : Word) (n : Fin 64) (w : Nat) (s : State), s.permit q .transom (0x1_0000_0000 + a.toNat) false = .yes →
    InWindow w a.toNat s → FarIdle s →
    Gives (.transomRead q a n) s (fun t =>
      t.trbNow = some ⟨trbNum q, some q, a.toNat, n.val + 1, false, [], false, false, 0, 0, 0, false, s.get CORE_COUNT 0, 0⟩ ∧
      t.trbQueue = [] ∧ t.out = s.out ++ [.farPhase w a.toNat false false] ∧ CellsBut s t [(TRB_STAT_WQ_COUNT, 0)] [] ∧
      { t with cells := s.cells, trbNow := s.trbNow, out := s.out } = s)) ∧
  (∀ (q : Requester) (a : Word) (n : Fin 64) (x : TrbAccess) (s : State), s.permit q .transom (0x1_0000_0000 + a.toNat) false = .yes →
    (∃ w : Nat, w < 8 ∧ InWindow w a.toNat s) → s.trbNow = some x → s.trbWait = [] →
    Gives (.transomRead q a n) s (fun t => t.trbNow = some x ∧ t.trbWait = [] ∧ t.out = s.out ∧ ∃ m : Nat, (∀ y ∈ x :: s.trbQueue, y.seq < m) ∧
      t.trbQueue = s.trbQueue ++ [⟨trbNum q, some q, a.toNat, n.val + 1, false, [], false, false, 0, 0, 0, false, 0, m⟩])) ∧
  (∀ (q : Requester) (a : Word) (n : Fin 64) (bs : List Byte) (s : State), s.permit q .transom (0x1_0000_0000 + a.toNat) false = .yes →
    s.permit q .transom (0x1_0000_0000 + a.toNat) true = .yes → q = .cc →
    (s.get TRB_CFG_EN 0 = 0 ∨ (∀ v : Nat, v < 8 → a.toNat < s.get TRB_WIN_BASE v * 0x1_0000 ∨
      (s.get TRB_WIN_BASE v + s.get TRB_WIN_SIZE v) * 0x1_0000 ≤ a.toNat)) → s.get TRB_ERR_VALID 0 = 0 →
    Gives (.transomRead q a n) s (fun t => t.out = s.out ++ [.errorResponse q (0x1_0000_0000 + a.toNat) 2] ∧ t.get TRB_ERR_VALID 0 = 1 ∧
      t.get TRB_ERR_ADDR 0 = a.toNat ∧ t.get TRB_ERR_KIND 0 = 1 ∧ t.get TRB_ERR_WRITE 0 = 0 ∧ t.get TRB_ERR_REQ 0 = 32 ∧
      QuietO s t) ∧
    Gives (.transomWrite q a bs) s (fun t => t.out = s.out ++ [.errorResponse q (0x1_0000_0000 + a.toNat) 2] ∧ t.get TRB_ERR_KIND 0 = 1 ∧
      t.get TRB_ERR_WRITE 0 = 1 ∧ QuietO s t)) ∧
  (∀ (q : Requester) (a : Word) (bs : List Byte) (w : Nat) (s : State), s.permit q .transom (0x1_0000_0000 + a.toNat) true = .yes →
    InWindow w a.toNat s → s.trbQueue = [] → s.trbWait = [] → 0 < bs.length → bs.length ≤ 64 →
    Gives (.transomWrite q a bs) s (fun t => t.trbNow = s.trbNow ∧ t.out = s.out ∧ (∃ m : Nat, (∀ y ∈ s.trbNow, y.seq < m) ∧
      t.trbQueue = [⟨trbNum q, none, a.toNat, bs.length, true, bs, false, false, 0, 0, 0, false, 0, m⟩]) ∧
      (s.trbNow = none → t.get TRB_STAT_WQ_COUNT 0 = 1) ∧ CellsBut s t [(TRB_STAT_WQ_COUNT, 0)] [] ∧
      { t with cells := s.cells, trbQueue := s.trbQueue } = s)) ∧
  (∀ (q : Requester) (a : Word) (bs : List Byte) (w : Nat) (x : TrbAccess) (s : State),
    s.permit q .transom (0x1_0000_0000 + a.toNat) true = .yes → InWindow w a.toNat s → 0 < bs.length → bs.length ≤ 64 → s.trbNow = some x →
    s.trbWait = [] → (x :: s.trbQueue).countP (fun y => y.write && !y.lock) = 32 → Gives (.transomWrite q a bs) s (fun t =>
      t.trbWait = [⟨trbNum q, none, a.toNat, bs.length, true, bs, false, false, 0, 0, 0, false, 0, 0⟩] ∧ t.get TRB_STAT_WQ_COUNT 0 = 32 ∧
      CellsBut s t [(TRB_STAT_WQ_COUNT, 0)] [] ∧ { t with cells := s.cells, trbWait := [] } = s)) ∧
  (∀ (x : TrbAccess) (w : Nat) (s : State), s.trbNow = none → s.trbQueue = [x] → s.trbWait = [] → x.write = true → x.lock = false → x.aside = false →
    (s.get TRB_STAT_LOCKED 0 = 0 ∨ s.get TRB_STAT_LOCK_OWNER 0 = x.req) → InWindow w ((x.addr + x.done) % 2 ^ 32) s →
    Gives .queuedWritePerform s (fun t => t.trbNow = some { x with since := s.get CORE_COUNT 0, beats := 0 } ∧ t.trbQueue = [] ∧
      t.out = s.out ++ [.farPhase w ((x.addr + x.done) % 2 ^ 32) true (s.flag TRB_STAT_LOCKED 0)] ∧
      t.get TRB_STAT_WQ_COUNT 0 = 1 ∧ CellsBut s t [(TRB_STAT_WQ_COUNT, 0)] [])) ∧
  (∀ (x : TrbAccess) (s : State), s.trbNow = some x ∨ (s.trbNow = none ∧ s.trbQueue = [x] ∧ s.get TRB_STAT_LOCKED 0 = 1 ∧
    s.get TRB_STAT_LOCK_OWNER 0 ≠ x.req) → exec .queuedWritePerform s = .next s) ∧
  (∀ (x : TrbAccess) (data : Word) (q : Requester) (w : Nat) (s : State), s.trbNow = some x → s.trbQueue = [] → s.trbWait = [] → x.write = false →
    x.lock = false → x.answer = some q → x.done = 0 → x.bytes = [] → x.len = 4 → x.addr < 2 ^ 32 → x.addr % 4 = 0 → InWindow w x.addr s →
    2 ≤ s.get TRB_WIN_CFG_WIDTH w →
    Gives (.beatComplete data false) s (fun t => t.trbNow = none ∧ t.trbQueue = [] ∧ t.out = s.out ++ [.farBeat w x.addr 15 data.toNat false,
        .readData q (0x1_0000_0000 + x.addr) (if s.get TRB_WIN_CFG_BIG w = 0 then data.toNat else
          data.toNat / 2 ^ 24 + data.toNat / 2 ^ 16 % 2 ^ 8 * 2 ^ 8 + data.toNat / 2 ^ 8 % 2 ^ 8 * 2 ^ 16 + data.toNat % 2 ^ 8 * 2 ^ 24)] ∧
      CellsBut s t [(TRB_STAT_WQ_COUNT, 0)] [])) ∧
  (∀ (x : TrbAccess) (data : Word) (b0 b1 : Byte) (w : Nat) (s : State), s.trbNow = some x → s.trbQueue = [] → s.trbWait = [] → x.write = true →
    x.lock = false → x.done = 0 → x.bytes = [b0, b1] → x.len = 2 → x.addr < 2 ^ 32 → x.addr % 2 = 0 → InWindow w x.addr s →
    s.get TRB_WIN_CFG_WIDTH w = 1 → s.get TRB_WIN_CFG_BIG w = 0 →
    Gives (.beatComplete data false) s (fun t => t.trbNow = none ∧
      t.out = s.out ++ [.farBeat w x.addr 3 (b0.toNat + 256 * b1.toNat) true] ∧ t.get TRB_STAT_WQ_COUNT 0 = 0 ∧
      CellsBut s t [(TRB_STAT_WQ_COUNT, 0)] [] ∧ t.trbDone = s.trbDone)) ∧
  (∀ (x : TrbAccess) (data : Word) (q : Requester) (w : Nat) (s : State), s.trbNow = some x → s.trbQueue = [] → s.trbWait = [] → x.lock = false →
    x.answer = some q → q = .cc → x.write = false → InWindow w ((x.addr + x.done) % 2 ^ 32) s →
    Gives (.beatComplete data true) s (fun t => t.trbNow = none ∧ t.out = s.out ++ [.errorResponse q (0x1_0000_0000 + x.addr) 2] ∧
      t.get TRB_CNT_RD_ERR 0 = min (s.get TRB_CNT_RD_ERR 0 + 1) (2 ^ 16 - 1) ∧ t.bit EVT_SEEN_SEEN (3849 / 32) (3849 % 32) = true ∧
      (s.get TRB_ERR_VALID 0 = 0 → t.get TRB_ERR_VALID 0 = 1 ∧ t.get TRB_ERR_ADDR 0 = (x.addr + x.done) % 2 ^ 32 ∧ t.get TRB_ERR_KIND 0 = 2) ∧
      (s.get TRB_ERR_VALID 0 = 1 → t.get TRB_ERR_ADDR 0 = s.get TRB_ERR_ADDR 0 ∧ t.get TRB_ERR_KIND 0 = s.get TRB_ERR_KIND 0))) ∧
  (∀ (data : Word) (err : Bool) (s : State), s.trbNow = none → exec (.beatComplete data err) s = .next s ∧ exec .rdyTimeout s = .next s ∧
    exec .tryAgain s = .next s) ∧
  (∀ (x : TrbAccess) (w : Nat) (s : State), s.trbNow = some x → s.trbQueue = [] → s.trbWait = [] → x.write = true → x.lock = false → x.answer = none →
    InWindow w ((x.addr + x.done) % 2 ^ 32) s → 0 < s.get TRB_WIN_CFG_RDY_TMO w →
    x.since + 800 * s.get TRB_WIN_CFG_RDY_TMO w ≤ s.get CORE_COUNT 0 →
    Gives .rdyTimeout s (fun t => t.trbNow = none ∧ t.out = s.out ∧ t.get TRB_STAT_LOCKED 0 = 0 ∧
      t.get TRB_CNT_WR_ERR 0 = min (s.get TRB_CNT_WR_ERR 0 + 1) (2 ^ 16 - 1) ∧ t.bit EVT_SEEN_SEEN (3848 / 32) (3848 % 32) = true ∧
      (s.get TRB_ERR_VALID 0 = 0 → t.get TRB_ERR_KIND 0 = 3 ∧ t.get TRB_ERR_WRITE 0 = 1) ∧
      (s.get TRB_STAT_LOCKED 0 = 1 → ∀ r ∈ t.resvs, r.core ≠ s.get TRB_STAT_LOCK_OWNER 0))) ∧
  (∀ (x : TrbAccess) (w : Nat) (s : State), s.trbNow = some x → InWindow w ((x.addr + x.done) % 2 ^ 32) s →
    (s.get TRB_WIN_CFG_RDY_TMO w = 0 ∨ s.get CORE_COUNT 0 < x.since + 800 * s.get TRB_WIN_CFG_RDY_TMO w) →
    exec .rdyTimeout s = .next s) ∧
  (∀ (x : TrbAccess) (w : Nat) (s : State), s.trbNow = some x → s.trbQueue = [] → s.trbWait = [] → x.write = false →
    InWindow w ((x.addr + x.done) % 2 ^ 32) s → x.retries < s.get TRB_RETRY_RETRY_MAX 0 →
    Gives .tryAgain s (fun t => t.trbNow = none ∧ t.trbQueue =
        [{ x with bytes := [], done := 0, beats := 0, retries := x.retries + 1, aside := true, since := s.get CORE_COUNT 0 }] ∧ t.get TRB_CNT_RETRIES 0 = min (s.get TRB_CNT_RETRIES 0 + 1) (2 ^ 16 - 1) ∧
      t.out = s.out ∧ CellsBut s t [(TRB_CNT_RETRIES, 0), (TRB_STAT_WQ_COUNT, 0)] [])) ∧
  (∀ (x : TrbAccess) (q : Requester) (w : Nat) (s : State), s.trbNow = some x → s.trbQueue = [] → s.trbWait = [] → x.write = false → x.lock = false →
    x.answer = some q → q = .cc → InWindow w ((x.addr + x.done) % 2 ^ 32) s → s.get TRB_RETRY_RETRY_MAX 0 ≤ x.retries →
    Gives .tryAgain s (fun t => t.trbNow = none ∧ t.trbQueue = [] ∧ t.out = s.out ++ [.errorResponse q (0x1_0000_0000 + x.addr) 2] ∧
      t.bit EVT_SEEN_SEEN (3849 / 32) (3849 % 32) = true ∧ (s.get TRB_ERR_VALID 0 = 0 → t.get TRB_ERR_KIND 0 = 4))) ∧
  (∀ (x : TrbAccess) (w : Nat) (s : State), s.trbNow = none → s.trbQueue = [x] → s.trbWait = [] → x.aside = true → x.write = false → x.lock = false →
    x.done = 0 → x.addr < 2 ^ 32 → s.get TRB_STAT_LOCKED 0 = 0 → InWindow w x.addr s →
    x.since + 800 * max 1 (s.get TRB_RETRY_RETRY_GAP 0) ≤ s.get CORE_COUNT 0 →
    Gives .retryGapExpiry s (fun t => t.trbNow = some { x with aside := false, beats := 0, since := s.get CORE_COUNT 0 } ∧ t.trbQueue = [] ∧
      t.out = s.out ++ [.farPhase w x.addr false false] ∧ CellsBut s t [(TRB_STAT_WQ_COUNT, 0)] [])) ∧
  (∀ (s : State), (∀ x ∈ s.trbQueue, x.aside = false ∨ s.get CORE_COUNT 0 < x.since + 800 * max 1 (s.get TRB_RETRY_RETRY_GAP 0)) →
    exec .retryGapExpiry s = .next s) ∧
  (∀ (s : State), s.trbNow = none → s.trbQueue = [] → s.trbWait = [] → s.get TRB_STAT_LOCKED 0 = 1 →
    s.get TRB_LOCK_AT 0 + 800 * max 1 (s.get TRB_CFG_LOCK_TMO 0) ≤ s.get CORE_COUNT 0 →
    Gives .lockTimeout s (fun t => t.get TRB_STAT_LOCKED 0 = 0 ∧ t.get TRB_CNT_LOCK_TO 0 = min (s.get TRB_CNT_LOCK_TO 0 + 1) (2 ^ 16 - 1) ∧
      t.bit EVT_SEEN_SEEN (3850 / 32) (3850 % 32) = true ∧ t.resvs = s.resvs.filter (fun r => r.core ≠ s.get TRB_STAT_LOCK_OWNER 0) ∧
      { t with cells := s.cells, events := s.events, resvs := s.resvs } = s ∧
      CellsBut s t [(TRB_STAT_LOCKED, 0), (TRB_CNT_LOCK_TO, 0), (TRB_STAT_WQ_COUNT, 0)] evtCells)) ∧
  (∀ (s : State), s.get TRB_STAT_LOCKED 0 = 0 ∨ s.get CORE_COUNT 0 < s.get TRB_LOCK_AT 0 + 800 * max 1 (s.get TRB_CFG_LOCK_TMO 0) →
    exec .lockTimeout s = .next s) ∧
  (∀ (raw : Byte) (s : State), (s.get TRB_POLL_AT 0 = 0 ∨ s.get TRB_POLL_AT 0 - 1 + 80 * max 1 (s.get TRB_CFG_POLL 0) ≤ s.get CORE_COUNT 0) →
    Gives (.sidebandPoll raw) s (fun t =>
      (∀ k : Fin 8, t.bit TRB_SB_STAT_LEVEL 0 k = (if s.bit TRB_SB_CFG_FILT 0 k = false ∨ raw.getLsbD k = s.bit TRB_SB_RAW 0 k
        then raw.getLsbD k else s.bit TRB_SB_STAT_LEVEL 0 k)) ∧
      (∀ k : Fin 8, t.bit TRB_SB_STAT_PEND 0 k = (s.bit TRB_SB_STAT_PEND 0 k || (match s.get TRB_SB_CFG_COND 0 / 2 ^ (3 * k.val) % 8 with
        | 1 => t.bit TRB_SB_STAT_LEVEL 0 k
        | 2 => !t.bit TRB_SB_STAT_LEVEL 0 k
        | 3 => t.bit TRB_SB_STAT_LEVEL 0 k && !s.bit TRB_SB_STAT_LEVEL 0 k
        | 4 => !t.bit TRB_SB_STAT_LEVEL 0 k && s.bit TRB_SB_STAT_LEVEL 0 k
        | 5 => t.bit TRB_SB_STAT_LEVEL 0 k != s.bit TRB_SB_STAT_LEVEL 0 k
        | _ => false))) ∧
      (∀ k : Fin 8, s.bit TRB_SB_STAT_PEND 0 k = false → t.bit TRB_SB_STAT_PEND 0 k = true →
        t.bit EVT_SEEN_SEEN (3840 / 32) k = true ∧ t.get TRB_SB_TS_NS k * 256 + t.get TRB_SB_TS_FRAC k = s.now (s.get TRB_CFG_DOM 0)) ∧
      t.get TRB_SB_RAW 0 = raw.toNat ∧ QuietE s t ∧
      CellsBut s t [(TRB_SB_STAT_LEVEL, 0), (TRB_SB_STAT_PEND, 0), (TRB_SB_STAT_MISSED, 0), (TRB_SB_RAW, 0), (TRB_POLL_AT, 0)]
        (TRB_SB_TS_NS :: TRB_SB_TS_FRAC :: evtCells))) ∧
  (∀ (raw : Byte) (s : State), 0 < s.get TRB_POLL_AT 0 → s.get CORE_COUNT 0 < s.get TRB_POLL_AT 0 - 1 + 80 * max 1 (s.get TRB_CFG_POLL 0) →
    exec (.sidebandPoll raw) s = .next s)

/-- Writes to the Ledger window: acceptance, quotas, refusals, the drain to the journal, and flushes (R353, R356, R357, R358, R359, R360, R365, R367). -/
def Obligations.LedgerWrites : Prop :=
  (∀ (q : Requester) (off : BitVec 26) (size : Fin 3) (v : Word) (n o c : Nat) (s : State), n = 2 ^ size.val → o = off.toNat / n * n →
    LedgerTakes q o s → c = classOf q s → (∀ e ∈ s.staged, e.sector ≠ o / 256) → ClassRoom c s →
    Gives (.ledgerWindowWrite q off size v) s (fun t => t.staged.take s.staged.length = s.staged ∧ t.staged.length = s.staged.length + 1 ∧
      (∀ e ∈ t.staged.drop s.staged.length, e.sector = o / 256 ∧ e.cls = c ∧ e.bytes.length = n ∧ e.first = s.get LDG_SEQ 0 + 1) ∧
      NewestAre o (toBytes n v.toNat) s t ∧ { t with cells := s.cells, staged := s.staged } = s ∧
      CellsBut s t [(LDG_SEQ, 0), (LDG_STAGED_ROUT, 0), (LDG_STAGED_IMP, 0), (LDG_STAGED_CRIT, 0)] [])) ∧
  (∀ (q : Requester) (off : BitVec 26) (size : Fin 3) (v : Word) (n o c : Nat) (es fs : List LdgEntry) (e : LdgEntry) (s : State),
    n = 2 ^ size.val → o = off.toNat / n * n → LedgerTakes q o s → c = classOf q s → s.staged = es ++ [e] ++ fs → e.sector = o / 256 →
    (∀ x ∈ es ++ fs, x.sector ≠ o / 256) → s.get RST_REQ 0 = 0 → s.get FATAL_PATH 0 = 0 → (c ≤ e.cls ∨ ClassRoom c s) →
    Gives (.ledgerWindowWrite q off size v) s (fun t => t.staged.take es.length = es ∧ t.staged.drop (es.length + 1) = fs ∧
      (∀ x ∈ (t.staged.drop es.length).take 1, x.sector = e.sector ∧ x.cls = max e.cls c ∧ x.first = e.first) ∧
      NewestAre o (toBytes n v.toNat) s t ∧ { t with cells := s.cells, staged := s.staged } = s ∧
      CellsBut s t [(LDG_SEQ, 0), (LDG_STAGED_ROUT, 0), (LDG_STAGED_IMP, 0), (LDG_STAGED_CRIT, 0)] [])) ∧
  (∀ (q : Requester) (off : BitVec 26) (size : Fin 3) (v : Word) (n o c : Nat) (s : State), n = 2 ^ size.val → o = off.toNat / n * n →
    LedgerTakes q o s → c = classOf q s → (∀ e ∈ s.staged, e.sector ≠ o / 256) → ¬ ClassRoom c s →
    exec (.ledgerWindowWrite q off size v) s =
      .next { s with ldgWait := s.ldgWait ++ [⟨some q, none, o, toBytes n v.toNat, 0⟩] }) ∧
  (∀ (off : BitVec 26) (size : Fin 3) (v : Word) (n o k : Nat) (s : State), n = 2 ^ size.val → o = off.toNat / n * n → o < 0x3B0_0000 →
    k = (if 2 ≤ s.get LDG_STAT_STATE 0 then 5 else if pageState s (o / 4096) = pageSystem then 4 else if
      pageState s (o / 4096) = pageRetired then 3 else 0) → k ≠ 0 →
    Gives (.ledgerWindowWrite .cc off size v) s (fun t => t.out = s.out ++ [.errorResponse .cc (0x2000_0000 + o) 1] ∧
      (s.get LDG_ERR_VALID 0 = 0 → t.get LDG_ERR_VALID 0 = 1 ∧ t.get LDG_ERR_ADDR 0 = o % 2 ^ 26 ∧ t.get LDG_ERR_KIND 0 = k) ∧
      (s.get LDG_ERR_VALID 0 ≠ 0 → t.get LDG_ERR_KIND 0 = s.get LDG_ERR_KIND 0) ∧
      t.bit EVT_SEEN_SEEN (70 / 32) (70 % 32) = true ∧ QuietO s t ∧
      CellsBut s t [(LDG_ERR_VALID, 0), (LDG_ERR_ADDR, 0), (LDG_ERR_KIND, 0)] evtCells)) ∧
  (∀ (w : LdgWrite) (c : Nat) (s : State), s.ldgWait = [w] → w.cmd = none → w.who ≠ none → pageState s (w.off / 4096) ≠ pageRetired →
    c = (match w.who with
      | some .cc => classOf .cc s
      | some .pcs => classOf .pcs s
      | _ => w.cls) → (∀ e ∈ s.staged, e.sector ≠ w.off / 256) → w.off % 256 + w.bytes.length ≤ 256 → ClassRoom c s →
    Gives .ledgerWriteAccept s (fun t => t.ldgWait = [] ∧ t.staged.take s.staged.length = s.staged ∧
      t.staged.length = s.staged.length + 1 ∧
      (∀ e ∈ t.staged.drop s.staged.length, e.sector = w.off / 256 ∧ e.cls = c ∧ e.first = s.get LDG_SEQ 0 + 1) ∧
      NewestAre w.off w.bytes s t ∧ { t with cells := s.cells, staged := s.staged, ldgWait := s.ldgWait } = s ∧
      CellsBut s t [(LDG_SEQ, 0), (LDG_STAGED_ROUT, 0), (LDG_STAGED_IMP, 0), (LDG_STAGED_CRIT, 0)] [])) ∧
  (∀ (w : LdgWrite) (s : State), s.ldgWait = [w] → w.cmd = none → w.who = none → w.off % 256 = 0 → w.cls < 3 →
    pageState s (w.off / 4096) ≠ pageRetired → s.get RST_REQ 0 = 0 → s.get FATAL_PATH 0 = 0 →
    (∀ e ∈ s.staged, e.sector ≠ w.off / 256) → ClassRoom w.cls s → Gives .ledgerWriteAccept s (fun t => t.ldgWait = [] ∧
      t.staged.take s.staged.length = s.staged ∧ (t.staged.drop s.staged.length).map (fun e => (e.sector, e.cls, e.bytes.length)) =
        [(w.off / 256, w.cls, 256)] ∧ (∀ a : Nat, ldgNewest t a = ldgNewest s a) ∧ t.mem = s.mem)) ∧
  (∀ (w : LdgWrite) (s : State), s.ldgWait = [w] → w.cmd = none → w.who = none → w.off % 256 = 0 → w.cls < 3 →
    pageState s (w.off / 4096) ≠ pageRetired → s.get RST_REQ 0 = 0 → s.get FATAL_PATH 0 = 0 →
    (∃ e ∈ s.staged, e.sector = w.off / 256) → (∀ e ∈ s.staged, e.sector = w.off / 256 → w.cls ≤ e.cls) →
    exec .ledgerWriteAccept s = .next { s with ldgWait := [] }) ∧
  (∀ (w : LdgWrite) (s : State), s.ldgWait = [w] → pageState s (w.off / 4096) = pageRetired → s.get RST_REQ 0 = 0 → s.get FATAL_PATH 0 = 0 →
    (∀ e ∈ s.staged, e.sector ≠ w.off / 256) →
    w.cmd = none → w.who = some .cc → ClassRoom (classOf .cc s) s → Gives .ledgerWriteAccept s (fun t => t.ldgWait = [] ∧ t.staged = s.staged ∧
      t.out = s.out ++ [.errorResponse .cc (0x2000_0000 + w.off) 1] ∧ t.bit EVT_SEEN_SEEN (70 / 32) (70 % 32) = true ∧
      (s.get LDG_ERR_VALID 0 = 0 → t.get LDG_ERR_ADDR 0 = w.off % 2 ^ 26 ∧ t.get LDG_ERR_KIND 0 = 3))) ∧
  (∀ (w : LdgWrite) (id n : Nat) (x : AsyncCmd) (s : State), s.ldgWait = [w] → pageState s (w.off / 4096) = pageRetired → s.get RST_REQ 0 = 0 → s.get FATAL_PATH 0 = 0 →
    (∀ e ∈ s.staged, e.sector ≠ w.off / 256) →
    w.cmd = some id → w.who = none → w.cls < 3 → ClassRoom w.cls s → s.cmds = [x] → x.wait = .ledger id n → x.done = none →
    exec .ledgerWriteAccept s = .next { s with ldgWait := [], cmds := [{ x with done := some (0x0303, w.off / 4096, []) }] }) ∧
  (∀ (s : State), (∀ w ∈ s.ldgWait, w.who = none ∧ ¬ ClassRoom w.cls s ∧ w.cls < 3 ∧ ∀ e ∈ s.staged, e.sector ≠ w.off / 256) →
    exec .ledgerWriteAccept s = .next s) ∧
  (∀ (e : LdgEntry) (es : List LdgEntry) (s : State), s.staged = e :: es → s.get LDG_STAT_STATE 0 < 2 →
    s.journal.length < 16 * s.get LDG_CAP_JOURNAL_PAGES 0 → s.get LDG_REC_SEQ 0 + 1 < 2 ^ 64 → tblSorted e.bytes = true → (∀ x ∈ e.bytes, x.1 < 256) →
    Gives .journalRecordWrite s (fun t => t.staged = es ∧ Journalled e s t ∧
      t.get LDG_SECTOR_CTR e.sector = (s.get LDG_SECTOR_CTR e.sector + 1) % 2 ^ 48 ∧
      (e.bytes.length = 256 → t.get LDG_SECTOR_BAD e.sector = 0) ∧
      (s.get LDG_FLUSH_BUSY 0 = 1 → (∀ x ∈ es, s.get LDG_TARGET 0 < x.first) → t.get LDG_FLUSH_BUSY 0 = 0 ∧
        t.bit EVT_SEEN_SEEN (64 / 32) (64 % 32) = true) ∧
      (s.get LDG_FLUSH_BUSY 0 = 1 → (∃ x ∈ es, x.first ≤ s.get LDG_TARGET 0) → t.get LDG_FLUSH_BUSY 0 = 1) ∧ t.out = s.out ∧
      (∀ (k tg n : Nat) (c : AsyncCmd), s.cmds[k]? = some c → c.wait = .flush tg n → c.done = none →
        ((∃ x ∈ es, x.first ≤ tg) → t.cmds[k]? = some c) ∧ ((∀ x ∈ es, tg < x.first) → t.cmds[k]? =
          some (if n = 0 then { c with done := some (0, 0, []) } else { c with wait := .step n }))) ∧
      CellsBut s t [(LDG_SECTOR_CTR, e.sector), (LDG_SECTOR_GEN, e.sector), (LDG_SECTOR_TAG, e.sector), (LDG_SECTOR_BAD, e.sector),
        (LDG_PAGE, e.sector / 16), (LDG_REC_SEQ, 0), (LDG_STAT_COMPACTING, 0), (LDG_COMP_AT, 0),
        (LDG_FLUSH_BUSY, 0), (LDG_STAGED_ROUT, 0), (LDG_STAGED_IMP, 0), (LDG_STAGED_CRIT, 0)] evtCells)) ∧
  (∀ (s : State), s.staged = [] ∨ 2 ≤ s.get LDG_STAT_STATE 0 ∨
    16 * s.get LDG_CAP_JOURNAL_PAGES 0 ≤ s.journal.length → exec .journalRecordWrite s = .next s) ∧
  (∀ (q : Requester) (v : Word) (s : State), s.permit q .registers 0x4110_0020 true = .yes → v.toNat % 2 = 1 →
    (∃ e ∈ s.staged, e.first ≤ s.get LDG_SEQ 0 % 2 ^ 64) →
    Gives (.ldgFlushGo q v) s (fun t => t.get LDG_FLUSH_BUSY 0 = 1 ∧ t.get LDG_TARGET 0 = s.get LDG_SEQ 0 % 2 ^ 64 ∧ t.staged = s.staged ∧
      t.events = s.events ∧ CellsBut s t [(LDG_FLUSH_BUSY, 0), (LDG_TARGET, 0)] [] ∧ { t with cells := s.cells, cmds := s.cmds } = s)) ∧
  (∀ (q : Requester) (v : Word) (s : State), s.permit q .registers 0x4110_0020 true = .yes → v.toNat % 2 = 1 →
    (∀ e ∈ s.staged, s.get LDG_SEQ 0 < e.first) →
    Gives (.ldgFlushGo q v) s (fun t => t.get LDG_FLUSH_BUSY 0 = 0 ∧ t.bit EVT_SEEN_SEEN (64 / 32) (64 % 32) = true ∧
      { t with cells := s.cells, cmds := s.cmds, events := s.events } = s ∧ CellsBut s t [(LDG_FLUSH_BUSY, 0), (LDG_TARGET, 0)] evtCells)) ∧
  (∀ (q : Requester) (v : Word) (s : State), s.permit q .registers 0x4110_0020 true = .yes → v.toNat % 2 = 0 →
    exec (.ldgFlushGo q v) s = .next s) ∧
  (∀ (v : Word) (c i r : Nat) (s : State), s.permit .cc .registers 0x4110_0014 true = .yes → c = v.toNat % 2 ^ 5 → i = v.toNat / 2 ^ 8 % 2 ^ 5 →
    r = v.toNat / 2 ^ 16 % 2 ^ 5 → 0 < c → c ≤ 16 → c + i + r ≤ 32 →
    exec (.ldgQuotaWrite .cc v) s = .next (((s.put LDG_QUOTA_CRIT 0 c).put LDG_QUOTA_IMP 0 i).put LDG_QUOTA_ROUT 0 r)) ∧
  (∀ (v : Word) (s : State), s.permit .cc .registers 0x4110_0014 true = .yes →
    (16 < v.toNat % 2 ^ 5 ∨ 32 < v.toNat % 2 ^ 5 + v.toNat / 2 ^ 8 % 2 ^ 5 + v.toNat / 2 ^ 16 % 2 ^ 5) →
    exec (.ldgQuotaWrite .cc v) s = .next s)

/-- The Ledger's upkeep and power failure: applier, compaction, scrubbing, remapping, key rotation, and the power-fail commit (R361, R363, R364, R365, R366, R367, R374, R375). -/
def Obligations.LedgerUpkeep : Prop :=
  (∀ (bad : List (Fin 15360)) (s : State), LedgerMay .applier s →
    Gives (.applierQuantum bad) s (fun t => t.bgGrants = s.bgGrants.erase .applier ∧
      t.journal.filter (fun r => r.bytes ≠ []) = (s.journal.filter (fun r => r.bytes ≠ [])).drop 16 ∧
      (t.journal.filter (fun r => r.dir.isSome)).map (fun r => (r.seq, r.sector, r.dir)) =
        (s.journal.filter (fun r => r.dir.isSome)).map (fun r => (r.seq, r.sector, r.dir)) ∧
      t.mem = (((s.journal.filter (fun r => r.bytes ≠ [])).take 16).foldl (fun (u : State) r =>
        u.putBytes (0x2000_0000 + 256 * r.sector) r.bytes) s).mem ∧
      (∀ l ∈ bad, l.val ∈ ((s.journal.filter (fun r => r.bytes ≠ [])).take 16).map (fun r => r.sector / 16) → t.get LDG_REMAP_DUE l = 1) ∧
      (16 < (s.journal.filter (fun r => r.bytes ≠ [])).length → ∃ r ∈ t.bgReqs, r.job = .applier) ∧ t.staged = s.staged ∧ t.out = s.out ∧
      CellsBut s t [] [LDG_REMAP_DUE])) ∧
  (∀ (bad : List (Fin 15360)) (s : State), ¬ LedgerMay .applier s → exec (.applierQuantum bad) s = .next s) ∧
  (∀ (s : State), LedgerMay .compaction s → s.get LDG_STAT_COMPACTING 0 = 1 → s.get LDG_COMP_AT 0 + 1 < 32 →
    Gives .compactionComplete s (fun t => t.get LDG_COMP_AT 0 = s.get LDG_COMP_AT 0 + 1 ∧ t.bgGrants = s.bgGrants.erase .compaction ∧
      (∃ r ∈ t.bgReqs, r.job = .compaction) ∧ { t with cells := s.cells, bgGrants := s.bgGrants, bgReqs := s.bgReqs } = s ∧
      CellsBut s t [(LDG_COMP_AT, 0)] [])) ∧
  (∀ (d : Nat) (s : State), LedgerMay .compaction s → s.get LDG_STAT_COMPACTING 0 = 1 → s.get LDG_COMP_AT 0 + 1 = 32 →
    d = (match anchorNow s with
      | some x => 1 - x.dir
      | none => 1) →
    Gives .compactionComplete s (fun t => t.get LDG_COMP_AT 0 = 32 ∧ t.bgGrants = s.bgGrants.erase .compaction ∧
      t.get LDG_COMP_POS 0 = s.get LDG_REC_SEQ 0 ∧ ⟨d, s.listed LDG_PAGE, s.listed LDG_PHYS⟩ ∈ t.dirCopies ∧
      (∀ x ∈ t.dirCopies, x.copy = d → x = ⟨d, s.listed LDG_PAGE, s.listed LDG_PHYS⟩) ∧ t.dirCopies.filter (fun x => x.copy ≠ d) = s.dirCopies.filter (fun x => x.copy ≠ d) ∧
      t.anchors = s.anchors ∧ t.journal = s.journal ∧ t.mem = s.mem ∧ t.get LDG_TARGET 0 = s.get LDG_SEQ 0 ∧
      ((∃ e ∈ s.staged, e.first ≤ s.get LDG_SEQ 0) → t.get LDG_FLUSH_BUSY 0 = 1))) ∧
  (∀ (s : State), s.get LDG_STAT_COMPACTING 0 = 1 → s.get LDG_STAT_STATE 0 < 2 → 32 ≤ s.get LDG_COMP_AT 0 → s.get LDG_FLUSH_BUSY 0 = 0 →
    Gives .compactionComplete s (fun t => t.get LDG_STAT_COMPACTING 0 = 0 ∧ (∃ x, anchorNow t = some x ∧ x.pos = s.get LDG_COMP_POS 0 ∧
        (∀ y, anchorNow s = some y → x.dir = 1 - y.dir ∧ x.copy = 1 - y.copy ∧ x.seq = y.seq + 1) ∧
        (anchorNow s = none → x.dir = 1 ∧ x.copy = 0 ∧ x.seq = 1) ∧ t.get LDG_ANCHOR 0 = x.seq % 2 ^ 64) ∧
      (∀ r ∈ t.journal, r.bytes ≠ [] ∨ s.get LDG_COMP_POS 0 < r.seq) ∧
      (∀ r ∈ s.journal, s.get LDG_COMP_POS 0 < r.seq → r ∈ t.journal) ∧
      t.journal.filter (fun r => r.bytes ≠ []) = (s.journal.filter (fun r => r.bytes ≠ [])).map (fun r =>
        if s.get LDG_COMP_POS 0 < r.seq then r else { r with dir := none }) ∧
      (∀ c ∈ t.cmds, c.wait = .compact → c.done ≠ none) ∧
      { t with cells := s.cells, cmds := s.cmds, anchors := s.anchors, journal := s.journal } = s ∧
      CellsBut s t [(LDG_STAT_COMPACTING, 0), (LDG_ANCHOR, 0)] [])) ∧
  (∀ (s : State), s.get LDG_STAT_COMPACTING 0 = 0 ∨ 2 ≤ s.get LDG_STAT_STATE 0 ∨ (s.get LDG_COMP_AT 0 < 32 ∧ ¬ LedgerMay .compaction s) ∨
      (32 ≤ s.get LDG_COMP_AT 0 ∧ s.get LDG_FLUSH_BUSY 0 = 1) → exec .compactionComplete s = .next s) ∧
  (∀ (p : Nat) (s : State), LedgerMay .ledgerScrub s → (∀ l : Nat, l < 16 → pageState s (p + l) ≠ pageFree) → (∀ k : Nat, k < 256 → s.get LDG_SECTOR_BAD (16 * p + k) = 0) →
    s.listed LDG_REREAD = [] → p = s.get LDG_SCRUB_PAGE 0 → p + 16 < 15360 →
    Gives (.ledgerScrubQuantum [] []) s (fun t => t.get LDG_SCRUB_PAGE 0 = p + 16 ∧ t.bgGrants = s.bgGrants.erase .ledgerScrub ∧
      (s.get LDG_STAT_STATE 0 = 1 → ∃ r ∈ t.bgReqs, r.job = .ledgerScrub) ∧
      { t with cells := s.cells, bgGrants := s.bgGrants, bgReqs := s.bgReqs } = s ∧ CellsBut s t [(LDG_SCRUB_PAGE, 0)] [])) ∧
  (∀ (p : Nat) (s : State), LedgerMay .ledgerScrub s → (∀ l : Nat, l < 16 → pageState s (p + l) ≠ pageFree) → (∀ k : Nat, k < 256 → s.get LDG_SECTOR_BAD (16 * p + k) = 0) →
    s.listed LDG_REREAD = [] → p = s.get LDG_SCRUB_PAGE 0 → p + 16 < 15360 →
    Gives (.ledgerScrubQuantum [.uncorr] []) s (fun t => t.get LDG_SCRUB_PAGE 0 = p + 16 ∧ t.get LDG_SECTOR_BAD (16 * p) = 1 ∧
      t.get LDG_REMAP_DUE p = 1 ∧ t.get LDG_ECC_UNCORR 0 = min (s.get LDG_ECC_UNCORR 0 + 1) (2 ^ 16 - 1) ∧
      t.bit EVT_SEEN_SEEN (68 / 32) (68 % 32) = true ∧ t.staged = s.staged ∧
      (s.get LDG_ERR_VALID 0 = 0 → t.get LDG_ERR_ADDR 0 = 4096 * p ∧ t.get LDG_ERR_KIND 0 = 1))) ∧
  (∀ (p : Nat) (b : Fin 4) (s : State), LedgerMay .ledgerScrub s → (∀ l : Nat, l < 16 → pageState s (p + l) ≠ pageFree) → (∀ k : Nat, k < 256 → s.get LDG_SECTOR_BAD (16 * p + k) = 0) →
    s.listed LDG_REREAD = [] → p = s.get LDG_SCRUB_PAGE 0 → p + 16 < 15360 →
    Gives (.ledgerScrubQuantum [.corr [b]] []) s (fun t => t.get LDG_SCRUB_PAGE 0 = p + 16 ∧
      t.get LDG_ECC_CORR 0 = min (s.get LDG_ECC_CORR 0 + b) (2 ^ 32 - 1) ∧
      (b.val < max 1 (s.get LDG_CTRL_REFRESH_THR 0) → t.staged = s.staged ∧ t.ldgWait = s.ldgWait) ∧
      (max 1 (s.get LDG_CTRL_REFRESH_THR 0) ≤ b.val → (∀ e ∈ s.staged, e.sector ≠ 16 * p) → pageState s p ≠ pageRetired →
        (∀ w ∈ s.ldgWait, w.off ≠ 4096 * p) → ClassRoom 0 s →
        t.staged.take s.staged.length = s.staged ∧
        (t.staged.drop s.staged.length).map (fun e => (e.sector, e.cls, e.bytes.length)) = [(16 * p, 0, 256)]))) ∧
  (∀ (finds again : List LdgEcc) (s : State), ¬ LedgerMay .ledgerScrub s → exec (.ledgerScrubQuantum finds again) s = .next s) ∧
  (∀ (s : State), s.get LDG_STAT_STATE 0 = 1 → s.get LDG_SCRUB_PAGE 0 < 15360 → s.get LDG_SCRUB_TOLD 0 = 0 →
    s.get LDG_SCRUB_AT 0 + 3600 * 800000000 * max 1 (s.get LDG_CTRL_SCRUB_H 0) ≤ s.get CORE_COUNT 0 →
    Gives .ledgerScrubLate s (fun t => t.get LDG_STAT_SCRUB_LATE 0 = 1 ∧ t.get LDG_SCRUB_TOLD 0 = 1 ∧
      t.bit EVT_SEEN_SEEN (73 / 32) (73 % 32) = true ∧ QuietE s t ∧
      CellsBut s t [(LDG_STAT_SCRUB_LATE, 0), (LDG_SCRUB_TOLD, 0)] evtCells)) ∧
  (∀ (s : State), s.get LDG_STAT_STATE 0 ≠ 1 ∨ 15360 ≤ s.get LDG_SCRUB_PAGE 0 ∨ s.get LDG_SCRUB_TOLD 0 = 1 ∨
    s.get CORE_COUNT 0 < s.get LDG_SCRUB_AT 0 + 3600 * 800000000 * max 1 (s.get LDG_CTRL_SCRUB_H 0) → exec .ledgerScrubLate s = .next s) ∧
  (∀ (l : Fin 15360) (p : Fin 1024) (old g : Nat) (s : State), s.get LDG_REMAP_DUE l = 1 → s.get LDG_STAT_STATE 0 < 2 → l.val < 15104 → g = s.get LDG_SPARES_GEN_FREE 0 → 0 < g →
    64 ≤ p.val → s.journal.length < 16 * s.get LDG_CAP_JOURNAL_PAGES 0 →
    s.get LDG_PHYS_BAD (15360 + p) = 0 → (∀ e ∈ s.listed LDG_PHYS, e.2 ≠ 15360 + p.val + 1) →
    old = (if s.get LDG_PHYS l = 0 then l.val else s.get LDG_PHYS l - 1) →
    Gives (.pageRemap l p) s (fun t => t.get LDG_PHYS l = 15360 + p + 1 ∧ t.get LDG_PHYS_BAD old = 1 ∧ t.get LDG_REMAP_DUE l = 0 ∧
      t.get LDG_ECC_REMAPS 0 = min (s.get LDG_ECC_REMAPS 0 + 1) (2 ^ 8 - 1) ∧ t.get LDG_SPARES_GEN_FREE 0 = (g - 1) % 2 ^ 10 ∧
      t.bit EVT_SEEN_SEEN (65 / 32) (65 % 32) = true ∧ (g - 1 = s.get LDG_CTRL_SPARES_LOW 0 → t.bit EVT_SEEN_SEEN (66 / 32) (66 % 32) = true) ∧
      DirRecorded [(l.val, s.get LDG_PAGE l, 15360 + p + 1)] s t ∧
      CellsBut s t [(LDG_PHYS, l), (LDG_PHYS_BAD, old), (LDG_REMAP_DUE, l), (LDG_ECC_REMAPS, 0), (LDG_SPARES_GEN_FREE, 0),
        (LDG_REC_SEQ, 0), (LDG_STAT_COMPACTING, 0), (LDG_COMP_AT, 0)] evtCells)) ∧
  (∀ (l : Fin 15360) (p : Fin 1024) (s : State), s.get LDG_REMAP_DUE l = 1 → s.get LDG_STAT_STATE 0 < 2 → 15104 ≤ l.val → 0 < s.get LDG_SPARES_SEC_FREE 0 →
    p.val < 64 → s.journal.length < 16 * s.get LDG_CAP_JOURNAL_PAGES 0 →
    s.get LDG_PHYS_BAD (15360 + p) = 0 → (∀ e ∈ s.listed LDG_PHYS, e.2 ≠ 15360 + p.val + 1) →
    Gives (.pageRemap l p) s (fun t => t.get LDG_PHYS l = 15360 + p + 1 ∧ t.get LDG_REMAP_DUE l = 0 ∧
      t.get LDG_SPARES_SEC_FREE 0 = (s.get LDG_SPARES_SEC_FREE 0 - 1) % 2 ^ 7 ∧
      t.get LDG_SPARES_GEN_FREE 0 = s.get LDG_SPARES_GEN_FREE 0 ∧ t.bit EVT_SEEN_SEEN (65 / 32) (65 % 32) = true ∧
      DirRecorded [(l.val, s.get LDG_PAGE l, 15360 + p + 1)] s t)) ∧
  (∀ (l : Fin 15360) (p : Fin 1024) (s : State), s.get LDG_REMAP_DUE l = 1 → s.get LDG_STAT_STATE 0 < 2 → s.get LDG_SPARES_GEN_FREE 0 = 0 →
    (l.val < 15104 ∨ s.get LDG_SPARES_SEC_FREE 0 = 0) → pageState s l ≠ pageSystem → pageState s l ≠ pageRetired →
    s.journal.length < 16 * s.get LDG_CAP_JOURNAL_PAGES 0 →
    Gives (.pageRemap l p) s (fun t => pageState t l = pageRetired ∧ t.get LDG_STAT_SPARES_EXHAUSTED 0 = 1 ∧ t.get LDG_REMAP_DUE l = 0 ∧
      t.get LDG_SPARES_RETIRED 0 = (s.get LDG_SPARES_RETIRED 0 + 1) % 2 ^ 14 ∧
      t.get LDG_CAP_USABLE_PAGES 0 = (s.get LDG_CAP_USABLE_PAGES 0 - 1) % 2 ^ 14 ∧ t.bit EVT_SEEN_SEEN (67 / 32) (67 % 32) = true ∧
      DirRecorded [(l.val, pageRetired, s.get LDG_PHYS l)] s t ∧
      CellsBut s t [(LDG_PAGE, l), (LDG_REMAP_DUE, l), (LDG_STAT_SPARES_EXHAUSTED, 0), (LDG_SPARES_RETIRED, 0),
        (LDG_CAP_USABLE_PAGES, 0), (LDG_REC_SEQ, 0)] evtCells)) ∧
  (∀ (l : Fin 15360) (p : Fin 1024) (s : State), s.get LDG_REMAP_DUE l = 1 → s.get LDG_STAT_STATE 0 < 2 → s.get LDG_SPARES_GEN_FREE 0 = 0 → pageState s l = pageSystem → l.val < 15104 →
    pageState s 12543 = pageFree → (∀ e ∈ s.staged, e.sector / 16 ≠ 12543) → (∀ w ∈ s.ldgWait, w.off / 4096 ≠ 12543) →
    s.journal.length < 16 * s.get LDG_CAP_JOURNAL_PAGES 0 →
    Gives (.pageRemap l p) s (fun t => pageState t 12543 = pageSystem ∧
      t.get LDG_PHYS l = (if s.get LDG_PHYS 12543 = 0 then 12543 else s.get LDG_PHYS 12543 - 1) + 1 ∧ t.get LDG_REMAP_DUE l = 0 ∧
      t.get LDG_CAP_USABLE_PAGES 0 = (s.get LDG_CAP_USABLE_PAGES 0 - 1) % 2 ^ 14 ∧ t.get LDG_CAP_JOURNAL_PAGES 0 = s.get LDG_CAP_JOURNAL_PAGES 0 ∧
      t.bit EVT_SEEN_SEEN (71 / 32) (71 % 32) = true ∧ DirRecorded [(l.val, t.get LDG_PAGE l, t.get LDG_PHYS l),
        (12543, pageSystem, s.get LDG_PHYS 12543)] s t)) ∧
  (∀ (l : Fin 15360) (p : Fin 1024) (s : State), s.get LDG_REMAP_DUE l = 0 ∨ 2 ≤ s.get LDG_STAT_STATE 0 ∨
      16 * s.get LDG_CAP_JOURNAL_PAGES 0 ≤ s.journal.length ∨
      (l.val < 15104 ∧ s.get LDG_SPARES_GEN_FREE 0 ≠ 0 ∧ p.val < 64) ∨ (15104 ≤ l.val ∧ s.get LDG_SPARES_SEC_FREE 0 ≠ 0 ∧ 64 ≤ p.val) →
    exec (.pageRemap l p) s = .next s) ∧
  (∀ (c k : Nat) (s : State), s.get LDG_STAT_STATE 0 < 2 → s.get LDG_FLUSH_BUSY 0 = 0 → s.get LDG_ROT 0 = c + 1 → s.ldgWait = [] →
    k ∈ (s.listed LDG_SECTOR_CTR).map Prod.fst → sectorClass k = c → s.get LDG_SECTOR_GEN k ≠ s.get LDG_KEY_GEN c + 1 → s.get LDG_SECTOR_BAD k = 0 →
    pageState s (k / 16) ≠ pageRetired → s.staged = [] → ClassRoom 0 s → (∀ x ∈ s.listed LDG_SECTOR_CTR, x.1 = k ∨ sectorClass x.1 ≠ c) →
    s.get LDG_SEQ 0 + 1 < 2 ^ 64 → Gives .keyRotationComplete s (fun t => t.staged.map (fun e => (e.sector, e.bytes.length)) = [(k, 256)] ∧
      (∀ a : Nat, ldgNewest t a = ldgNewest s a) ∧ t.get LDG_FLUSH_BUSY 0 = 1 ∧ t.get LDG_ROT 0 = c + 1 ∧ t.get LDG_KEY_GEN c = s.get LDG_KEY_GEN c)) ∧
  (∀ (c : Nat) (s : State), s.get LDG_STAT_STATE 0 < 2 → s.get LDG_FLUSH_BUSY 0 = 0 → s.get LDG_ROT 0 = c + 1 → c < 2 → s.ldgWait = [] →
    (∀ x ∈ s.listed LDG_SECTOR_CTR, sectorClass x.1 = c → s.get LDG_SECTOR_GEN x.1 = s.get LDG_KEY_GEN c + 1 ∨ s.get LDG_SECTOR_BAD x.1 ≠ 0 ∨
      pageState s (x.1 / 16) = pageRetired) → s.staged = [] → ClassRoom (min 2 (s.get LDG_WCLS_PC_CLASS 0)) s → s.get LDG_SEQ 0 + 1 < 2 ^ 64 →
    durBytes s (0x3B0_0000 + 4 * c) 4 ≠ toBytes 4 (s.get LDG_KEY_GEN c + 1) → Gives .keyRotationComplete s (fun t =>
      ldgBytes t (0x3B0_0000 + 4 * c) 4 = toBytes 4 (s.get LDG_KEY_GEN c + 1) ∧ t.get LDG_FLUSH_BUSY 0 = 1 ∧ t.get LDG_ROT 0 = c + 1 ∧
      t.get LDG_KEY_GEN c = s.get LDG_KEY_GEN c ∧ t.mem = s.mem ∧ t.journal = s.journal)) ∧
  (∀ (c : Nat) (s : State), s.get LDG_STAT_STATE 0 < 2 → s.get LDG_FLUSH_BUSY 0 = 0 → s.get LDG_ROT 0 = c + 1 →
    (∀ x ∈ s.listed LDG_SECTOR_CTR, sectorClass x.1 = c → s.get LDG_SECTOR_GEN x.1 = s.get LDG_KEY_GEN c + 1 ∨ s.get LDG_SECTOR_BAD x.1 ≠ 0 ∨
      pageState s (x.1 / 16) = pageRetired) → durBytes s (0x3B0_0000 + 4 * c) 4 = toBytes 4 (s.get LDG_KEY_GEN c + 1) →
    Gives .keyRotationComplete s (fun t => t.get LDG_KEY_GEN c = (s.get LDG_KEY_GEN c + 1) % 2 ^ 32 ∧ t.get LDG_ROT 0 = 0 ∧
      t.get LDG_STAT_ROTATING 0 = 0 ∧ (∀ k ∈ t.cmds, k.wait = .rotate → k.done ≠ none) ∧ { t with cells := s.cells, cmds := s.cmds } = s ∧
      CellsBut s t [(LDG_KEY_GEN, c), (LDG_ROT, 0), (LDG_STAT_ROTATING, 0)] [])) ∧
  (∀ (s : State), 2 ≤ s.get LDG_STAT_STATE 0 ∨ s.get LDG_FLUSH_BUSY 0 = 1 ∨ s.get LDG_ROT 0 = 0 → exec .keyRotationComplete s = .next s) ∧
  (∀ (e : LdgEntry) (s : State), s.get LDG_STAT_STATE 0 = 2 → s.get LDG_PF_WRITTEN 0 + 1 < s.get LDG_PF_G 0 →
    (s.staged.find? (fun x => x.cls = 2) = some e ∨ ((∀ x ∈ s.staged, x.cls ≠ 2) ∧ s.staged.find? (fun x => x.cls = 1) = some e) ∨
      ((∀ x ∈ s.staged, x.cls ≠ 2 ∧ x.cls ≠ 1) ∧ s.staged.head? = some e)) → tblSorted e.bytes = true →
    (∀ x ∈ e.bytes, x.1 < 256) → s.get LDG_REC_SEQ 0 + 1 < 2 ^ 64 →
    Gives .powerFailCommit s (fun t => t.staged = s.staged.erase e ∧ Journalled e s t ∧ t.get LDG_PF_WRITTEN 0 = s.get LDG_PF_WRITTEN 0 + 1 ∧
      t.get LDG_PF_CLS e.cls = (s.get LDG_PF_CLS e.cls + 1) % 2 ^ 13 ∧ t.out = s.out ∧
      (s.get LDG_FLUSH_BUSY 0 = 1 → (∀ x ∈ s.staged.erase e, s.get LDG_TARGET 0 < x.first) → t.get LDG_FLUSH_BUSY 0 = 0 ∧
        t.bit EVT_SEEN_SEEN (64 / 32) (64 % 32) = true))) ∧
  (∀ (s : State), s.get LDG_STAT_STATE 0 ≠ 2 ∨ s.get LDG_PF_G 0 ≤ s.get LDG_PF_WRITTEN 0 + 1 ∨ s.staged = [] →
    exec .powerFailCommit s = .next s) ∧
  (∀ (s : State), s.get LDG_STAT_STATE 0 = 2 → 0 < s.get LDG_PF_G 0 → (s.get LDG_PF_G 0 ≤ s.get LDG_PF_WRITTEN 0 + 1 ∨ s.staged = []) →
    Gives .pfSeal s (fun t => t.get LDG_STAT_STATE 0 = 3 ∧ t.staged = [] ∧ t.get LDG_NV_PF 0 = 2 ∧
      (∀ c : Fin 3, t.get LDG_NV_LOST c = (s.staged.filter (fun e => e.cls = c.val)).length % 2 ^ 13 ∧ t.get LDG_NV_WRITTEN c = s.get LDG_PF_CLS c) ∧
      t.get LDG_NV_GRANT 0 = min 8191 (s.get LDG_PF_G 0 - 1) ∧ t.mem = s.mem ∧ { t with cells := s.cells, staged := s.staged } = s)) ∧
  (∀ (s : State), s.get LDG_STAT_STATE 0 ≠ 2 ∨ s.get LDG_PF_G 0 = 0 ∨ (s.get LDG_PF_WRITTEN 0 + 1 < s.get LDG_PF_G 0 ∧ s.staged ≠ []) →
    exec .pfSeal s = .next s)

/-- The Portcullis: tamper and wipe, the scratchpad's clear, the DRBG, the end of a session, standby and wake (R380, R385, R390, R393, R395, R396, R400). -/
def Obligations.PortcullisUnits : Prop :=
  (∀ (x : TamperReads) (pins : BitVec 2) (h0 h1 : Byte) (v : Nat) (s : State), v = (readTampers x + pinSensors pins h0.toNat h1.toNat s) &&& sensorsArmed s &&& (63 - s.get PCS_TMP_STAT_SEEN 0) → v ≠ 0 → s.domOn domPortcullis = true →
    Gives (.tamper x ⟨pins, h0, h1⟩) s (fun t => Wiped s t ∧ t.get PCS_TMP_STAT_SEEN 0 = (s.get PCS_TMP_STAT_SEEN 0 ||| v) % 2 ^ 6 ∧
      t.get PCS_TMP_STAT_LIVE 0 = readLive x + pinSensors pins (max 1 (s.get PCS_TMP_CFG_FILT0 0)) (max 1 (s.get PCS_TMP_CFG_FILT1 0)) s ∧ t.get KEY_LC_OPEN 0 = 0 ∧
      t.bit EVT_SEEN_SEEN (96 / 32) (96 % 32) = true ∧
      (s.get HIF_PF_SEC_SEC_EN 0 = 1 → t.bit EVT_SEEN_SEEN (98 / 32) (98 % 32) = true) ∧
      (∀ c ∈ t.cmds, (c.opcode = 0x0601 ∨ c.opcode = 0x0602 ∨ c.opcode = 0x0604) → c.done ≠ none) ∧
      (s.get PCS_TMP_CFG_KILL_SAK 0 = 1 → t.saKeys = [] ∧ ∀ l : Fin 8, t.get TRK_MSEC_SA_TX_SA l = 0 ∧ t.get TRK_MSEC_SA_RX_SA l = 0) ∧
      (s.get PCS_TMP_CFG_KILL_SAK 0 = 0 → t.saKeys = s.saKeys ∧ ∀ l : Fin 8, t.get TRK_MSEC_SA_TX_SA l = s.get TRK_MSEC_SA_TX_SA l) ∧
      t.out = s.out)) ∧
  (∀ (x : TamperReads) (pins : BitVec 2) (h0 h1 : Byte) (v : Nat) (k : Fin 6) (i : Nat) (s : State), v = (readTampers x + pinSensors pins h0.toNat h1.toNat s) &&& sensorsArmed s &&& (63 - s.get PCS_TMP_STAT_SEEN 0) → v = 2 ^ k.val → s.domOn domPortcullis = true → i = s.get KEY_LOG_NEXT 0 →
    Gives (.tamper x ⟨pins, h0, h1⟩) s (fun t => t.get PCS_CNT_TAMPER_CNT 0 = min (s.get PCS_CNT_TAMPER_CNT 0 + 1) (2 ^ 16 - 1) ∧
      t.get PCS_TMP_LOG_SENSOR i = k ∧ t.get PCS_TMP_LOG_VALID i = 1 ∧ t.get PCS_TMP_LOG_STATE i = s.get PCS_LC_STATE 0 ∧
      t.get PCS_TMP_LOG_NS i * 256 + t.get PCS_TMP_LOG_FRAC i =
        (if s.get TMB_DOM_CFG_MODE (s.get LIM_CYC_CTRL_DOM 0) = 0 then 0 else s.now (s.get LIM_CYC_CTRL_DOM 0)) ∧ t.get KEY_LOG_NEXT 0 = (i + 1) % 2 ^ 4)) ∧
  (∀ (x : TamperReads) (pins : BitVec 2) (h0 h1 : Byte) (v : Nat) (s : State), v = (readTampers x + pinSensors pins h0.toNat h1.toNat s) &&& sensorsArmed s &&& (63 - s.get PCS_TMP_STAT_SEEN 0) → v = 0 →
    exec (.tamper x ⟨pins, h0, h1⟩) s = .next (s.put PCS_TMP_STAT_LIVE 0 (readLive x + pinSensors pins (max 1 (s.get PCS_TMP_CFG_FILT0 0)) (max 1 (s.get PCS_TMP_CFG_FILT1 0)) s))) ∧
  (∀ (x : TamperReads) (pins : BitVec 2) (h0 h1 : Byte) (v : Nat) (s : State), v = (readTampers x + pinSensors pins h0.toNat h1.toNat s) &&& sensorsArmed s &&& (63 - s.get PCS_TMP_STAT_SEEN 0) → v ≠ 0 → s.domOn domPortcullis = false →
    exec (.tamper x ⟨pins, h0, h1⟩) s = .next ((((s.put PCS_TMP_STAT_LIVE 0 (readLive x + pinSensors pins (max 1 (s.get PCS_TMP_CFG_FILT0 0)) (max 1 (s.get PCS_TMP_CFG_FILT1 0)) s)).put PCS_TMP_STAT_SEEN 0
      (s.get PCS_TMP_STAT_SEEN 0 ||| v)).put TMP_LATCH 0 (s.get TMP_LATCH 0 ||| v)).put PCS_WAKE 0 1)) ∧
  (∀ (s : State), s.get PCS_STAT_WIPING 0 = 1 →
    Gives .wipeDone s (fun t => t.get PCS_STAT_WIPING 0 = 0 ∧ t.bit EVT_SEEN_SEEN (103 / 32) (103 % 32) = true ∧ QuietE s t ∧
      CellsBut s t [(PCS_STAT_WIPING, 0), (LDG_CTR_BASE, 1)] evtCells)) ∧
  (∀ (s : State), s.get SPAD_CLR 0 = 1 → s.get SPAD_AT 0 + 4096 ≤ s.get CORE_COUNT 0 →
    exec .scratchpadClearDone s = .next (s.put SPAD_CLR 0 0)) ∧
  (∀ (s : State), s.get PCS_STAT_WIPING 0 = 0 → s.get CORE_COUNT 0 < s.get SPAD_AT 0 + 4096 →
    exec .wipeDone s = .next s ∧ exec .scratchpadClearDone s = .next s) ∧
  (∀ (rep prop : Bool) (s : State), s.get PCS_STAT_DRBG_OK 0 = 1 → (rep = true ∨ prop = true) →
    Gives (.drbgHealthFail rep prop) s (fun t => t.get PCS_STAT_DRBG_OK 0 = 0 ∧
      t.get DRBG_NEXT 0 = (s.get CORE_COUNT 0 + 800000000) % 2 ^ 64 ∧ t.bit EVT_SEEN_SEEN (101 / 32) (101 % 32) = true ∧ QuietE s t ∧
      CellsBut s t [(PCS_STAT_DRBG_OK, 0), (DRBG_NEXT, 0)] evtCells)) ∧
  (∀ (rep prop : Bool) (s : State), s.get PCS_STAT_DRBG_OK 0 = 0 ∨ (rep = false ∧ prop = false) →
    exec (.drbgHealthFail rep prop) s = .next s) ∧
  (∀ (pass : Bool) (s : State), s.domOn domPortcullis = true → s.get PCS_STAT_DRBG_OK 0 = 0 → s.get DRBG_NEXT 0 ≤ s.get CORE_COUNT 0 →
    exec (.drbgStartRetry pass) s = .next (if pass then ((s.put PCS_STAT_DRBG_OK 0 1).put DRBG_REQS 0 0).put DRBG_SEEDED 0 (s.get CORE_COUNT 0)
      else s.put DRBG_NEXT 0 (s.get CORE_COUNT 0 + 800000000))) ∧
  (∀ (pass : Bool) (s : State), s.domOn domPortcullis = false ∨ s.get PCS_STAT_DRBG_OK 0 = 1 ∨ s.get CORE_COUNT 0 < s.get DRBG_NEXT 0 →
    exec (.drbgStartRetry pass) s = .next s) ∧
  (∀ (s : State), s.get PCS_STAT_DRBG_OK 0 = 1 →
    (2 ^ 20 ≤ s.get DRBG_REQS 0 ∨ s.get DRBG_SEEDED 0 + 8000000000 ≤ s.get CORE_COUNT 0) →
    exec .drbgReseed s = .next ((s.put DRBG_REQS 0 0).put DRBG_SEEDED 0 (s.get CORE_COUNT 0))) ∧
  (∀ (s : State), s.get PCS_STAT_DRBG_OK 0 = 0 ∨ (s.get DRBG_REQS 0 < 2 ^ 20 ∧ s.get CORE_COUNT 0 < s.get DRBG_SEEDED 0 + 8000000000) →
    exec .drbgReseed s = .next s) ∧
  (∀ (s : State), s.get HIF_PF_SEC_SEC_EN 0 = 1 → s.get SESS_END 0 ≤ s.get CORE_COUNT 0 →
    Gives .sessionExpiry s (fun t => t.get HIF_PF_SEC_SEC_EN 0 = 0 ∧ t.bit EVT_SEEN_SEEN (98 / 32) (98 % 32) = true ∧
      t.get DEV_CAP_DEBUG_OPEN 0 = (if s.get PCS_FUSE_DEBUG_KILL 0 = 0 ∧ s.get PCS_LC_STATE 0 = 0 then 1 else 0) ∧ QuietE s t ∧
      CellsBut s t [(HIF_PF_SEC_SEC_EN, 0), (DEV_CAP_DEBUG_OPEN, 0)] evtCells)) ∧
  (∀ (s : State), s.get HIF_PF_SEC_SEC_EN 0 = 0 ∨ s.get CORE_COUNT 0 < s.get SESS_END 0 → exec .sessionExpiry s = .next s) ∧
  (∀ (q : Requester) (v : Word) (s : State), s.permit q .registers 0x4120_0004 true = .yes →
    Gives (.pcsStby q v) s (fun t => t.get PCS_STBY_ASK 0 = (if q = .cc ∧ v.toNat % 2 = 1 then 1 else s.get PCS_STBY_ASK 0) ∧
      t.get PCS_CTRL_LOCK 0 = (if 2 ^ 31 ≤ v.toNat then 1 else s.get PCS_CTRL_LOCK 0) ∧ Quiet s t ∧
      CellsBut s t [(PCS_STBY_ASK, 0), (PCS_CTRL_LOCK, 0)] [])) ∧
  (∀ (s : State), s.domOn domPortcullis = false → (s.get PCS_WAKE 0 = 1 ∨ s.get TMP_LATCH 0 ≠ 0) →
    Gives .portcullisWake s (fun t => t.domOn domPortcullis = true ∧ t.get PCS_STAT_STATE 0 = pcsBooting ∧ t.get SPAD_CLR 0 = 1 ∧
      (∀ a : Nat, 0x3000_0000 ≤ a → a < 0x3004_0000 → t.byte a = 0) ∧
      (s.get TMP_LATCH 0 ≠ 0 → t.get TMP_LATCH 0 = 0 ∧ t.get PCS_STAT_WIPING 0 = 1 ∧ t.get KEY_EPOCH 0 = (s.get KEY_EPOCH 0 + 1) % 2 ^ 32) ∧
      (s.get TMP_LATCH 0 = 0 → t.get KEY_EPOCH 0 = s.get KEY_EPOCH 0 ∧ t.caks = s.caks))) ∧
  (∀ (s : State), s.domOn domPortcullis = true ∨ (s.get PCS_WAKE 0 = 0 ∧ s.get TMP_LATCH 0 = 0) → exec .portcullisWake s = .next s) ∧
  (∀ (r : Region) (a : Nat) (wr : Bool) (s : State), s.permit .debug r a wr = .yes → s.get DEV_CAP_DEBUG_OPEN 0 ≠ 0 ∧
    ((∃ n : Nat, r = .course n) ∨ (r = .ccSram ∧ s.get CORE_CP 32 ≠ 3) ∨ (r = .registers ∧ secureOnly a = false))) ∧
  (∀ (a : BitVec 43) (s : State), a.toNat < 2 ^ 40 → regionOf a.toNat = .registers → secureOnly a.toNat = false → a.toNat % 4 = 0 →
    s.get DEV_CAP_DEBUG_OPEN 0 = 0 → exec (.readClear .debug a 2) s = .next (s.refuse .debug a.toNat 1))

/-- Feeds and their self-test, measurement and the cap, the planner's rounds, power failure and its energy, the junction temperature (R402, R403, R404, R406, R408, R410, R411, R412, R413, R457). -/
def Obligations.PowerAndPlanner : Prop :=
  (∀ (f : Fin 4) (mv : BitVec 16) (s : State), s.get PWR_FEED_PRESENT f = 1 → mv.toNat < (if f.val < 2 then 18000 else 4300) →
    (f.val < 2 → s.get PWR_FEED_PRESENT (1 - f) = 1) → Gives (.feedLost f mv) s (fun t => t.get PWR_FEED_PRESENT f = 0 ∧ t.get PWR_FEED_MV f = mv.toNat ∧
      t.bit EVT_SEEN_SEEN 0 16 = true ∧ QuietE s t ∧ CellsBut s t [(PWR_FEED_PRESENT, f), (PWR_FEED_MV, f)] evtCells)) ∧
  (∀ (f : Fin 4) (mv : BitVec 16) (s : State), f.val < 2 → s.get PWR_FEED_PRESENT f = 1 → mv.toNat < 18000 →
    s.get PWR_FEED_PRESENT (1 - f) = 0 → s.get FIO_STAT_ISL_UP 0 = 1 → Gives (.feedLost f mv) s (fun t => t.get PWR_FEED_PRESENT f = 0 ∧
      t.bit EVT_SEEN_SEEN 0 16 = true ∧ t.get FIO_STAT_ISL_UP 0 = 0 ∧ t.get FIO_IN_IN 0 = 0 ∧ t.bit EVT_SEEN_SEEN (3109 / 32) (3109 % 32) = true ∧
      (s.get FIO_GATE 0 = 0 → t.get FIO_OUT_FLT_SAFE 0 % 2 ^ 16 = 2 ^ 16 - 1) ∧ t.get PWR_STAT_PF 0 = s.get PWR_STAT_PF 0 ∧ t.mem = s.mem)) ∧
  (∀ (f : Fin 4) (mv : BitVec 16) (s : State), s.get PWR_FEED_PRESENT f = 0 ∨ (if f.val < 2 then 18000 else 4300) ≤ mv.toNat →
    exec (.feedLost f mv) s = .next s) ∧
  (∀ (f : Fin 4) (mv : BitVec 16) (s : State), s.get PWR_FEED_PRESENT f = 0 → (if f.val < 2 then 18300 else 4400) ≤ mv.toNat →
    Gives (.feedRestored f mv) s (fun t => t.get PWR_FEED_PRESENT f = 1 ∧ t.get PWR_FEED_MV f = mv.toNat ∧
      t.bit EVT_SEEN_SEEN 0 17 = true ∧ QuietE s t ∧ CellsBut s t [(PWR_FEED_PRESENT, f), (PWR_FEED_MV, f)] evtCells)) ∧
  (∀ (f : Fin 4) (mv : BitVec 16) (s : State), s.get PWR_FEED_PRESENT f = 1 ∨ mv.toNat < (if f.val < 2 then 18300 else 4400) →
    exec (.feedRestored f mv) s = .next s) ∧
  (∀ (s : State), s.get PWR_FEED_CFG_TEST_S 0 ≠ 0 → s.get PWR_STAT_TESTING 0 = 0 → s.get FT_AT 0 + s.get PWR_FEED_CFG_TEST_S 0 * second ≤ s.get CORE_COUNT 0 + 1 → s.get PWR_STAT_PF 0 = 0 → s.get PWR_FEED_PRESENT 0 = 1 →
    Gives .feedTestRound s (fun t => t.get PWR_STAT_TESTING 0 = 1 ∧ FeedStep 1 s t ∧ t.get FT_AT 0 = (s.get CORE_COUNT 0 + 1) % 2 ^ 64 ∧ Quiet s t ∧
      CellsBut s t [(PWR_STAT_TESTING, 0), (FT_STEP, 0), (FT_AT, 0), (FT_FELL, 0), (PWR_FEED_PATH, 1)] [])) ∧
  (∀ (s : State), s.get PWR_FEED_CFG_TEST_S 0 ≠ 0 → s.get PWR_STAT_TESTING 0 = 0 → s.get FT_AT 0 + s.get PWR_FEED_CFG_TEST_S 0 * second ≤ s.get CORE_COUNT 0 + 1 → s.get PWR_STAT_PF 0 = 0 → (∀ f : Fin 4, s.get PWR_FEED_PRESENT f = 0) →
    Gives .feedTestRound s (fun t => t.get PWR_STAT_TESTING 0 = 0 ∧ t.get FT_STEP 0 = 0 ∧ (∀ f : Fin 4, t.get PWR_FEED_TEST f = 0) ∧
      (∀ f : Fin 4, t.get PWR_FEED_PATH f = s.get PWR_FEED_PATH f) ∧ QuietE s t)) ∧
  (∀ (s : State), s.get PWR_FEED_CFG_TEST_S 0 ≠ 0 → s.get PWR_STAT_TESTING 0 = 0 → s.get FT_AT 0 + s.get PWR_FEED_CFG_TEST_S 0 * second ≤ s.get CORE_COUNT 0 + 1 → s.get PWR_STAT_PF 0 = 1 → exec .feedTestRound s = .next (s.put FT_AT 0 (s.get CORE_COUNT 0 + 1))) ∧
  (∀ (s : State), s.get PWR_FEED_CFG_TEST_S 0 = 0 ∨ s.get PWR_STAT_TESTING 0 = 1 ∨
      s.get CORE_COUNT 0 + 1 < s.get FT_AT 0 + s.get PWR_FEED_CFG_TEST_S 0 * second → exec .feedTestRound s = .next s) ∧
  (∀ (k : Nat) (mv : BitVec 16) (carries : Bool) (uf : BitVec 16) (s : State), s.get FT_STEP 0 = k → 1 ≤ k → k ≤ 4 → FeedsThere s →
    Gives (.feedTestStep mv carries uf) s (fun t => t.get FT_STEP 0 = k + 1 ∧
      t.get PWR_FEED_TEST (k - 1) = (if ((k < 3 ∧ 18000 ≤ mv.toNat ∧ carries = true) ∨ (3 ≤ k ∧ 10 * s.get PWR_PF_PF_WARN 0 + 100 ≤ mv.toNat)) then 1 else 2) ∧ t.get FT_DONE_AT (k - 1) = s.get CORE_COUNT 0 % 2 ^ 64 ∧
      (¬ ((k < 3 ∧ 18000 ≤ mv.toNat ∧ carries = true) ∨ (3 ≤ k ∧ 10 * s.get PWR_PF_PF_WARN 0 + 100 ≤ mv.toNat)) → t.bit EVT_SEEN_SEEN 0 18 = true) ∧
      (∀ f : Nat, f < 4 → t.get PWR_FEED_PATH f = if f ∈ stepOff (k + 1) then 2 else if (k < 3 ↔ f < 2) then 1 else s.get PWR_FEED_PATH f) ∧
      (3 ≤ k → t.get FT_FELL 0 = (if mv.toNat ≤ 10 * s.get PWR_PF_PF_WARN 0 then 1 else 0) ∧
        t.get FT_WHOLE_AT 0 = if mv.toNat ≤ 10 * s.get PWR_PF_PF_WARN 0 ∧ s.get FT_FELL 0 = 1 then s.get FT_WHOLE_AT 0 else s.get CORE_COUNT 0 % 2 ^ 64) ∧
      t.get PWR_PF_STAT_C_EST_UF 0 = s.get PWR_PF_STAT_C_EST_UF 0 ∧ QuietE s t ∧
      CellsBut s t [(FT_STEP, 0), (FT_FELL, 0), (FT_WHOLE_AT, 0), (PWR_FEED_TEST, k - 1), (FT_DONE_AT, k - 1)] (PWR_FEED_PATH :: evtCells))) ∧
  (∀ (mv : BitVec 16) (carries : Bool) (uf : BitVec 16) (s : State), s.get FT_STEP 0 = 5 → 10 * s.get PWR_PF_PF_WARN 0 < mv.toNat →
    Gives (.feedTestStep mv carries uf) s (fun t => t.get FT_STEP 0 = 0 ∧ t.get PWR_STAT_TESTING 0 = 0 ∧ t.get PWR_PF_STAT_C_EST_UF 0 = uf.toNat ∧
      EstimateShown (holdup s uf.toNat (s.get PWR_RAIL_MV 14)) s t ∧ t.get PWR_FEED_PATH 2 = 1 ∧ t.get PWR_FEED_PATH 3 = 1 ∧
      (∀ f : Fin 4, t.get PWR_FEED_TEST f = s.get PWR_FEED_TEST f) ∧ t.get FT_FELL 0 = 0 ∧ QuietE s t ∧
      CellsBut s t [(FT_STEP, 0), (PWR_STAT_TESTING, 0), (PWR_PF_STAT_C_EST_UF, 0), (PWR_PF_STAT_EST_UJ, 0), (PWR_STAT_HOLDUP_LOW, 0), (CEST_RUN, 0),
        (PWR_FEED_PATH, 2), (PWR_FEED_PATH, 3), (FT_FELL, 0), (FT_WHOLE_AT, 0)] evtCells)) ∧
  (∀ (mv : BitVec 16) (carries : Bool) (uf : BitVec 16) (s : State), s.get FT_STEP 0 = 5 → mv.toNat ≤ 10 * s.get PWR_PF_PF_WARN 0 →
    Gives (.feedTestStep mv carries uf) s (fun t => t.get FT_STEP 0 = 0 ∧ t.get PWR_STAT_TESTING 0 = 0 ∧
      t.get PWR_PF_STAT_C_EST_UF 0 = s.get PWR_PF_STAT_C_EST_UF 0 ∧ t.get PWR_FEED_PATH 2 = 1 ∧ t.get PWR_FEED_PATH 3 = 1 ∧
      t.bit EVT_SEEN_SEEN 0 18 = true ∧ t.get FT_FELL 0 = 1 ∧
      t.get FT_WHOLE_AT 0 = if s.get FT_FELL 0 = 1 then s.get FT_WHOLE_AT 0 else s.get CORE_COUNT 0 % 2 ^ 64)) ∧
  (∀ (mv : BitVec 16) (carries : Bool) (uf : BitVec 16) (s : State), s.get FT_STEP 0 = 0 → exec (.feedTestStep mv carries uf) s = .next s) ∧
  (∀ (rails : List (BitVec 16 × BitVec 16)) (feeds : List (BitVec 16 × BitVec 16 × Bool)) (tj : BitVec 16) (s : State), s.get CEST_RUN 0 < 2 → Gives (.railMeasure rails feeds tj) s (fun t =>
      (∀ r : Fin 16, r.val < rails.length → t.get PWR_RAIL_MV r = (rails.getD r (0, 0)).1.toNat ∧ t.get PWR_RAIL_MA r = (rails.getD r (0, 0)).2.toNat ∧
        t.get RAIL_ACC r = (s.get RAIL_ACC r + (rails.getD r (0, 0)).1.toNat * (rails.getD r (0, 0)).2.toNat * 10) % 2 ^ 64) ∧
      (∀ r : Fin 16, rails.length ≤ r.val → t.get PWR_RAIL_MV r = s.get PWR_RAIL_MV r ∧ t.get RAIL_ACC r = s.get RAIL_ACC r) ∧
      (∀ f : Fin 4, f.val < feeds.length → t.get PWR_FEED_MV f = (feeds.getD f (0, 0, false)).1.toNat ∧ t.get PWR_FEED_MA f = (feeds.getD f (0, 0, false)).2.1.toNat ∧
        t.get PWR_FEED_PATH f = if s.get PWR_FEED_PATH f = 2 then 2 else if (feeds.getD f (0, 0, false)).2.2 then 1 else 0) ∧
      t.get PWR_TJ_TJ 0 = tj.toNat ∧
      (s.get CEST_RUN 0 = 1 → EstimateShown (holdup s (s.get PWR_PF_STAT_C_EST_UF 0) (t.get PWR_RAIL_MV 14)) s t) ∧
      (s.get CEST_RUN 0 = 0 → t.get PWR_PF_STAT_EST_UJ 0 = s.get PWR_PF_STAT_EST_UJ 0 ∧ t.get PWR_STAT_HOLDUP_LOW 0 = s.get PWR_STAT_HOLDUP_LOW 0) ∧
      t.get FT_FELL 0 = (if 10 * s.get PWR_PF_PF_WARN 0 < t.get PWR_RAIL_MV 14 then 0 else s.get FT_FELL 0) ∧
      t.get PWR_STAT_PF 0 = s.get PWR_STAT_PF 0 ∧ { t with cells := s.cells, events := s.events, powers := s.powers } = s ∧
      CellsBut s t [(FT_FELL, 0), (WIN_US, 0), (PWR_TOTAL_POWER_MW, 0), (PWR_STAT_CAP_EXCEEDED, 0), (PWR_PF_STAT_EST_UJ, 0),
        (PWR_STAT_HOLDUP_LOW, 0), (PWR_TJ_TJ, 0), (TJ_HOT, 0), (TJ_OVER, 0)]
        ([PWR_RAIL_MV, PWR_RAIL_MA, RAIL_ACC, PWR_FEED_MV, PWR_FEED_MA, PWR_FEED_PATH] ++ evtCells))) ∧
  (∀ (n : Nat) (rails : List (BitVec 16 × BitVec 16)) (feeds : List (BitVec 16 × BitVec 16 × Bool)) (tj : BitVec 16) (s : State),
    n = min (1000 * max 1 (s.get PWR_CAP_WIN 0)) (s.powers.length + 1) → Gives (.railMeasure rails feeds tj) s (fun t =>
      t.powers = (railsPj t :: s.powers).take 255000 ∧
      t.get PWR_TOTAL_POWER_MW 0 = min (2 ^ 20 - 1) (((railsPj t :: s.powers).take n).sum / n / 1000))) ∧
  (∀ (w : Nat) (rails : List (BitVec 16 × BitVec 16)) (feeds : List (BitVec 16 × BitVec 16 × Bool)) (tj : BitVec 16) (s : State),
    w = 1000 * max 1 (s.get PWR_CAP_WIN 0) → s.get PWR_STAT_CAP_EXCEEDED 0 < 2 → Gives (.railMeasure rails feeds tj) s (fun t =>
      (s.get PWR_CAP_CAP_MW 0 ≠ 0 → s.get PWR_CAP_CAP_MW 0 < t.get PWR_TOTAL_POWER_MW 0 → s.get WIN_BUDGET 0 = 0 →
        t.get WIN_US 0 = min w (s.get WIN_US 0 + 1) ∧
        (w ≤ s.get WIN_US 0 + 1 → t.get PWR_STAT_CAP_EXCEEDED 0 = 1 ∧ (s.get PWR_STAT_CAP_EXCEEDED 0 = 0 → t.bit EVT_SEEN_SEEN 0 21 = true)) ∧
        (s.get WIN_US 0 + 1 < w → t.get PWR_STAT_CAP_EXCEEDED 0 = s.get PWR_STAT_CAP_EXCEEDED 0)) ∧
      (s.get PWR_CAP_CAP_MW 0 = 0 ∨ t.get PWR_TOTAL_POWER_MW 0 ≤ s.get PWR_CAP_CAP_MW 0 ∨ s.get WIN_BUDGET 0 = 1 → t.get WIN_US 0 = 0 ∧
        t.get PWR_STAT_CAP_EXCEEDED 0 = if 100 * t.get PWR_TOTAL_POWER_MW 0 < 95 * s.get PWR_CAP_CAP_MW 0 then 0 else s.get PWR_STAT_CAP_EXCEEDED 0))) ∧
  (∀ (words : List Ecc) (s : State), s.get PLAN_DUE 0 = 0 → (s.started = true ∨ s.get CORE_COUNT 0 / 80000 ≤ s.get PLAN_GRID 0) →
    exec (.plannerRound words) s = .next s) ∧
  (∀ (words : List Ecc) (s : State), (s.get PLAN_DUE 0 = 1 ∨ (s.get PLAN_DUE 0 = 0 ∧ s.started = false ∧ s.get PLAN_GRID 0 < s.get CORE_COUNT 0 / 80000)) → s.get PWR_STAT_PF 0 = 1 → Gives (.plannerRound words) s (fun t =>
      t.get PLAN_DUE 0 = 0 ∧ (∀ r : Fin 16, t.get PWR_RAIL_E_CYC r = min (2 ^ 24 - 1) (s.get RAIL_ACC r / 1000000) ∧ t.get RAIL_ACC r = 0) ∧
      t.get PWR_TOTAL_CYCLE_UJ 0 = min (2 ^ 24 - 1) (((List.range 14).map (fun r => s.get RAIL_ACC r)).sum / 1000000) ∧ Quiet s t ∧
      CellsBut s t [(PLAN_DUE, 0), (PLAN_GRID, 0), (PWR_TOTAL_CYCLE_UJ, 0)] [PWR_RAIL_E_CYC, RAIL_ACC])) ∧
  (∀ (words : List Ecc) (q : BgReq) (s : State), (s.get PLAN_DUE 0 = 1 ∨ (s.get PLAN_DUE 0 = 0 ∧ s.started = false ∧ s.get PLAN_GRID 0 < s.get CORE_COUNT 0 / 80000)) → s.get PWR_STAT_PF 0 = 0 → q ∈ s.bgReqs → bgClass q.job ≠ 0 → q.job ≠ .scrub →
    (s.bgReqs.filter (fun r => r.job = q.job)) = [q] → q.job ∉ s.bgGrants → Gives (.plannerRound words) s (fun t =>
      (64 ≤ q.rounds → q.job ∈ t.bgGrants ∧ (∀ r ∈ t.bgReqs, r.job ≠ q.job)) ∧
      (q.rounds < 64 → s.get PWR_BUDGET_BG_MW 0 = 0 → { q with rounds := q.rounds + 1 } ∈ t.bgReqs ∧ q.job ∉ t.bgGrants) ∧
      (64 ≤ q.rounds → s.get PWR_BUDGET_BG_MW 0 = 0 → t.bit EVT_SEEN_SEEN 0 22 = true ∧ 0 < t.get PWR_BG_OVERDRAFT (bgClass q.job)) ∧
      (64 ≤ q.rounds → 0 < t.get PWR_BG_GRANTS (bgClass q.job) ∧ min 65535 q.rounds ≤ t.get PWR_BG_WAIT_MAX (bgClass q.job)) ∧
      (∀ r : Fin 16, t.get PWR_RAIL_E_CYC r = min (2 ^ 24 - 1) (s.get RAIL_ACC r / 1000000)) ∧ t.get PLAN_DUE 0 = 0)) ∧
  (∀ (words : List Ecc) (p b : Nat) (s : State), (s.get PLAN_DUE 0 = 1 ∨ (s.get PLAN_DUE 0 = 0 ∧ s.started = false ∧ s.get PLAN_GRID 0 < s.get CORE_COUNT 0 / 80000)) → s.get PWR_STAT_PF 0 = 0 → p = (if s.get PLAN_DUE 0 = 1 then s.get LIM_CYC_PERIOD_PERIOD 0 else 80000) →
    b = (if s.get PWR_CAP_CAP_MW 0 = 0 then s.get PWR_BUDGET_BG_MW 0 * p * 5
      else min (s.get PWR_BUDGET_BG_MW 0 * p * 5) ((s.get PWR_CAP_CAP_MW 0 - s.get PWR_TOTAL_POWER_MW 0) * p * 5)) →
    ((bgAskAll s).bgReqs.map (fun r => bgCost r.job)).sum ≤ b → Gives (.plannerRound words) s (fun t => t.get WIN_BUDGET 0 = (if b = 0 then 0 else 1) ∧ t.bgReqs.all (fun r => r.job = .scrub) = true ∧
      (∀ q ∈ s.bgReqs, bgClass q.job ≠ 0 → q.job ≠ .scrub → q.job ∈ t.bgGrants) ∧
      (∀ c : Fin 6, t.get PWR_BG_OVERDRAFT c = s.get PWR_BG_OVERDRAFT c) ∧ t.out = s.out)) ∧
  (∀ (mv : BitVec 16) (s : State), s.get PWR_STAT_PF 0 = 0 → mv.toNat < 10 * s.get PWR_PF_PF_WARN 0 →
    (s.get FT_STEP 0 < 3 ∨ s.get FT_FELL 0 = 1) → (s.get FT_FELL 0 = 0 ∨ s.get FT_WHOLE_AT 0 + 16000 ≤ s.get CORE_COUNT 0) →
    Gives (.powerFailureDeclare mv) s (fun t => t.get PWR_STAT_PF 0 = 1 ∧ t.bit EVT_SEEN_SEEN 0 20 = true ∧ t.bgGrants = [] ∧
      t.get LDG_STAT_STATE 0 = 2 ∧ effClaim t = 0 ∧ t.ldgWait = [] ∧ t.staged = s.staged ∧ t.journal = s.journal ∧
      t.get PF_AT 0 = s.get CORE_COUNT 0 % 2 ^ 64 ∧ t.get PF_HANDED 0 = 0 ∧
      (∀ k ∈ t.cmds, (k.opcode = 0x0500 ∨ k.opcode = 0x0501 ∨ k.opcode = 0x0502 ∨ k.opcode = 0x0504 ∨ k.opcode = 0x0603) → k.done ≠ none) ∧
      t.mem = s.mem ∧ t.sram = s.sram ∧ (s.ldgWait = [] → t.out = s.out))) ∧
  (∀ (mv : BitVec 16) (s : State), s.get PWR_STAT_PF 0 = 1 ∨ 10 * s.get PWR_PF_PF_WARN 0 ≤ mv.toNat ∨ (3 ≤ s.get FT_STEP 0 ∧ s.get FT_FELL 0 = 0) ∨
      (s.get FT_FELL 0 = 1 ∧ s.get CORE_COUNT 0 < s.get FT_WHOLE_AT 0 + 16000) → exec (.powerFailureDeclare mv) s = .next s) ∧
  (∀ (ma mv dv : BitVec 16) (uf e : Nat) (s : State), s.get PWR_STAT_PF 0 = 1 → s.get PF_HANDED 0 = 0 → s.get PF_AT 0 + 40000 ≤ s.get CORE_COUNT 0 →
    uf = (if dv.toNat < 5 then s.get PWR_PF_STAT_C_EST_UF 0 else ma.toNat * 40 / dv.toNat) →
    e = uf * (mv.toNat * mv.toNat - 10 * s.get PWR_PF_VHOLD_MIN 0 * (10 * s.get PWR_PF_VHOLD_MIN 0)) / 2000000 →
    Gives (.pfEnergyHandover ma mv dv) s (fun t => t.get PWR_PF_STAT_C_UF 0 = min 65535 uf ∧ t.get PWR_PF_STAT_E_UJ 0 = min 65535 (e / 10) ∧
      (s.get LDG_STAT_STATE 0 = 2 → s.get LDG_PF_G 0 = 0 → t.get LDG_PF_G 0 = ((e - 4000) / 3 + 1) % 2 ^ 32) ∧ t.get PF_HANDED 0 = 1 ∧ Quiet s t ∧
      CellsBut s t [(PWR_PF_STAT_C_UF, 0), (PWR_PF_STAT_E_UJ, 0), (LDG_PF_G, 0), (PF_HANDED, 0)] [])) ∧
  (∀ (ma mv dv : BitVec 16) (s : State), s.get PWR_STAT_PF 0 = 0 ∨ s.get PF_HANDED 0 = 1 ∨ s.get CORE_COUNT 0 < s.get PF_AT 0 + 40000 →
    exec (.pfEnergyHandover ma mv dv) s = .next s) ∧
  (∀ (tj : BitVec 16) (s : State), 10 * (s.get PWR_TJ_WARN 0 : Int) ≤ tj.toInt → s.get TJ_HOT 0 = 0 → Gives (.pwrTjHigh tj) s (fun t =>
      t.get PWR_TJ_TJ 0 = tj.toNat ∧ t.get TJ_HOT 0 = 1 ∧ t.bit EVT_SEEN_SEEN 0 23 = true ∧ QuietE s t ∧
      CellsBut s t [(PWR_TJ_TJ, 0), (TJ_HOT, 0), (TJ_OVER, 0)] evtCells)) ∧
  (∀ (tj : BitVec 16) (s : State), tj.toInt < 10 * (s.get PWR_TJ_WARN 0 : Int) ∨ s.get TJ_HOT 0 = 1 → Gives (.pwrTjHigh tj) s (fun t =>
      t.get PWR_TJ_TJ 0 = tj.toNat ∧ t.get TJ_HOT 0 = (if tj.toInt < 10 * (s.get PWR_TJ_WARN 0 : Int) - 50 then 0 else s.get TJ_HOT 0) ∧ Quiet s t ∧
      CellsBut s t [(PWR_TJ_TJ, 0), (TJ_HOT, 0), (TJ_OVER, 0)] [])) ∧
  (∀ (tj : BitVec 16) (s : State), 1120 < tj.toInt → s.get TJ_OVER 0 = 0 → Gives (.pwrTjOver tj) s (fun t =>
      t.get PWR_TJ_TJ 0 = tj.toNat ∧ t.get TJ_OVER 0 = 1 ∧ t.bit EVT_SEEN_SEEN 0 24 = true ∧ QuietE s t ∧
      CellsBut s t [(PWR_TJ_TJ, 0), (TJ_HOT, 0), (TJ_OVER, 0)] evtCells)) ∧
  (∀ (tj : BitVec 16) (s : State), tj.toInt ≤ 1120 ∨ s.get TJ_OVER 0 = 1 → Gives (.pwrTjOver tj) s (fun t =>
      t.get PWR_TJ_TJ 0 = tj.toNat ∧ t.get TJ_OVER 0 = (if tj.toInt < 1100 then 0 else s.get TJ_OVER 0) ∧ Quiet s t ∧
      CellsBut s t [(PWR_TJ_TJ, 0), (TJ_HOT, 0), (TJ_OVER, 0)] []))

/-- The redundant pair: claim words, the Latch, the island's comparison and hold limit, mirroring, the standby self-test and the pair link (R416, R417, R418, R419, R421, R423, R424, R426). -/
def Obligations.RedundantPair : Prop :=
  (∀ (v l : Nat) (s : State), s.get RDN_CFG_EN 0 = 1 → s.get RST_BOOT_STAGE 0 = 5 → v = claimNow s % 2 ^ 8 + (if s.get RDN_STAT_ROLE 0 = 1 then 2 ^ 8 else 0) +
      (if s.flag RDN_STAT_OWN_FIT 0 then 2 ^ 9 else 0) + (if s.flag PWR_STAT_PF 0 then 2 ^ 10 else 0) + 2 ^ 12 * (s.get CLAIM_SEQ 0 % 2 ^ 4) →
    l = (if s.bit RDN_STAT_LINK 0 0 then 30 else 31) →
    s.get RDN_CLAIM_CLAIM 0 < 2 ^ 8 → s.get CLAIM_SEQ 0 < 2 ^ 4 → Gives .claimWordSend s (fun t =>
      t.out = s.out ++ (.claimWord (v + 2 ^ 16 * crc8 16 v 0) :: if s.get RDN_STAT_LINK 0 = 0 then [] else
        [.frame l (withFcs (trunkFrame s 0 0 (toBytes 4 (0x5F + 0x100 + s.get DEV_HUB_LINE_ID 0 * 2 ^ 16) ++ toBytes 4 (v + 2 ^ 16 * crc8 16 v 0))))
          (egressStamp s l (s.get TMB_PCFG_DEF_DOM l) s.fresh) false]) ∧
      t.get CLAIM_SEQ 0 = (s.get CLAIM_SEQ 0 + 1) % 2 ^ 4 ∧ t.get SENT_CLAIM 0 = claimNow s ∧ t.get RDN_CLAIM_EFFECTIVE 0 = claimNow s ∧
      t.get FIO_GATE 0 = islandGrant t ∧ (s.get RDN_STAT_ROLE 0 = 1 → t.get OWNER_AT 0 = s.get CORE_COUNT 0 % 2 ^ 64 ∧ t.get HOLD_OUT 0 = 0) ∧
      (s.get RDN_STAT_ROLE 0 ≠ 1 → t.get OWNER_AT 0 = s.get OWNER_AT 0 ∧ t.get HOLD_OUT 0 = s.get HOLD_OUT 0) ∧
      { t with cells := s.cells, events := s.events, out := s.out, freeCtr := s.freeCtr } = s ∧
      CellsBut s t [(CLAIM_SEQ, 0), (SENT_CLAIM, 0), (ISL_OWN, 0), (ISL_OWN_AT, 0), (MAC_CNT_TX_TX_OK, l), (RDN_CLAIM_EFFECTIVE, 0), (OWNER_AT, 0), (HOLD_OUT, 0), (FIO_HELD_OUT, 0)] (islandCells ++ evtCells))) ∧
  (∀ (s : State), s.get RDN_CFG_EN 0 = 0 ∨ s.get RST_BOOT_STAGE 0 ≠ 5 → exec .claimWordSend s = .next s) ∧
  (∀ (p : Fin 2) (w : Word) (o : Nat) (s : State), s.get RDN_CFG_EN 0 = 1 → crc8 16 (w.toNat % 2 ^ 16) 0 = w.toNat / 2 ^ 16 % 2 ^ 8 → o = s.get PEER_WORD (1 - p) → Gives (.claimWordReceive p w) s (fun t =>
      t.get PEER_WORD p = w.toNat % 2 ^ 24 ∧ t.get PEER_AT p = s.get CORE_COUNT 0 % 2 ^ 64 ∧ t.bit RDN_STAT_PATHS 0 p = true ∧
      t.bit RDN_STAT_PATHS 0 (1 - p) = s.bit RDN_STAT_PATHS 0 (1 - p) ∧ t.get RDN_STAT_PEER_SEEN 0 = 1 ∧
      (s.bit RDN_STAT_PATHS 0 (1 - p) = false → t.get RDN_STAT_PEER_CLAIM 0 = w.toNat % 2 ^ 8 ∧ t.get RDN_STAT_PEER_FIT 0 = w.toNat / 2 ^ 9 % 2) ∧
      (s.bit RDN_STAT_PATHS 0 (1 - p) = true → s.get PEER_AT (1 - p) < s.get CORE_COUNT 0 → s.get CORE_COUNT 0 < 2 ^ 64 →
        t.get RDN_STAT_PEER_CLAIM 0 = (if o % 2 ^ 12 = w.toNat % 2 ^ 12 then w.toNat % 2 ^ 8 else min (o % 2 ^ 8) (w.toNat % 2 ^ 8)) ∧
        t.get RDN_STAT_PEER_FIT 0 = w.toNat / 2 ^ 9 % 2) ∧
      (s.get RDN_STAT_ROLE 0 = 1 → s.get RDN_STAT_PEER_FIT 0 = 1 → t.get RDN_STAT_PEER_FIT 0 = 0 → t.bit EVT_SEEN_SEEN (40 / 32) (40 % 32) = true) ∧
      (p = 1 → t.get ISL_PEER 0 = s.get ISL_PEER 0 ∧ t.get FIO_GATE 0 = s.get FIO_GATE 0 ∧ t.get OWNER_AT 0 = s.get OWNER_AT 0 ∧
        t.get HOLD_OUT 0 = s.get HOLD_OUT 0) ∧
      (p = 0 → t.get ISL_PEER 0 = w.toNat % 2 ^ 24 + 1 ∧ t.get ISL_PEER_AT 0 = s.get CORE_COUNT 0 % 2 ^ 64 ∧ t.get FIO_GATE 0 = islandGrant t) ∧
      (s.get RDN_STAT_PATHS 0 = 0 → t.bit EVT_SEEN_SEEN (37 / 32) (37 % 32) = true) ∧
      (p = 0 → w.toNat / 2 ^ 8 % 2 = 1 → t.get OWNER_AT 0 = s.get CORE_COUNT 0 % 2 ^ 64 ∧ t.get HOLD_OUT 0 = 0 ∧ t.get FIO_HELD_OUT 0 =
        (if s.flag HOLD_OUT 0 then 0 else s.get FIO_HELD_OUT 0)) ∧
      (w.toNat / 2 ^ 8 % 2 = 0 → t.get OWNER_AT 0 = s.get OWNER_AT 0 ∧ t.get HOLD_OUT 0 = s.get HOLD_OUT 0) ∧ QuietE s t ∧
      CellsBut s t [(PEER_WORD, p), (PEER_AT, p), (RDN_STAT_PATHS, 0), (RDN_STAT_PEER_SEEN, 0), (RDN_STAT_PEER_CLAIM, 0), (RDN_STAT_PEER_FIT, 0),
        (ISL_PEER, 0), (ISL_PEER_AT, 0), (OWNER_AT, 0), (HOLD_OUT, 0), (FIO_HELD_OUT, 0)] (islandCells ++ evtCells))) ∧
  (∀ (p : Fin 2) (w : Word) (s : State), s.get RDN_CFG_EN 0 = 1 → ¬ crc8 16 (w.toNat % 2 ^ 16) 0 = w.toNat / 2 ^ 16 % 2 ^ 8 →
    exec (.claimWordReceive p w) s = .next (s.put RDN_CNT_CLAIM_CRC 0 (min (s.get RDN_CNT_CLAIM_CRC 0 + 1) (2 ^ RDN_CNT_CLAIM_CRC.w - 1)))) ∧
  (∀ (p : Fin 2) (w : Word) (s : State), s.get RDN_CFG_EN 0 = 0 → exec (.claimWordReceive p w) s = .next s) ∧
  (∀ (p : Fin 2) (s : State), s.bit RDN_STAT_PATHS 0 p = true → s.get PEER_AT p + 4800 < s.get CORE_COUNT 0 → Gives (.claimPathAbsent p) s (fun t =>
      t.bit RDN_STAT_PATHS 0 p = false ∧ t.bit RDN_STAT_PATHS 0 (1 - p) = s.bit RDN_STAT_PATHS 0 (1 - p) ∧
      (s.get RDN_STAT_PATHS 0 = 2 ^ p.val → t.get RDN_STAT_PEER_SEEN 0 = 0 ∧ t.get RDN_STAT_PEER_CLAIM 0 = 0 ∧ t.bit EVT_SEEN_SEEN (36 / 32) (36 % 32) = true) ∧
      (s.get RDN_STAT_PATHS 0 = 3 → t.get RDN_STAT_PEER_SEEN 0 = 1 ∧ t.get RDN_STAT_PEER_CLAIM 0 = s.get PEER_WORD (1 - p) % 2 ^ 8 ∧
        t.bit EVT_SEEN_SEEN (37 / 32) (37 % 32) = true) ∧ QuietE s t ∧
      CellsBut s t [(RDN_STAT_PATHS, 0), (RDN_STAT_PEER_SEEN, 0), (RDN_STAT_PEER_CLAIM, 0), (RDN_STAT_PEER_FIT, 0)] evtCells)) ∧
  (∀ (p : Fin 2) (s : State), s.bit RDN_STAT_PATHS 0 p = false ∨ s.get CORE_COUNT 0 ≤ s.get PEER_AT p + 4800 → exec (.claimPathAbsent p) s = .next s) ∧
  (∀ (s : State), s.get RDN_CFG_EN 0 = 1 → s.get LIM_PHASE 0 ≠ 0 → s.get LATCH_DONE 0 = 0 →
    s.reached (s.get LIM_CYC_CTRL_DOM 0) ((s.get LIM_NEXT 0 + 2 ^ 40 - 4000 * 256) % 2 ^ 40) = true → exec .latchEvaluation s = .next ((s.put LATCH_DONE 0 1).put LATCH_ROLE 0
      (if s.get RDN_STAT_PEER_CLAIM 0 < s.get SENT_CLAIM 0 then 1 else if s.get SENT_CLAIM 0 < s.get RDN_STAT_PEER_CLAIM 0 then 2 else 3))) ∧
  (∀ (s : State), s.get RDN_CFG_EN 0 = 0 ∨ s.get LIM_PHASE 0 = 0 ∨ s.get LATCH_DONE 0 = 1 ∨
      s.reached (s.get LIM_CYC_CTRL_DOM 0) ((s.get LIM_NEXT 0 + 2 ^ 40 - 4000 * 256) % 2 ^ 40) = false → exec .latchEvaluation s = .next s) ∧
  (∀ (s : State), s.get RDN_CFG_EN 0 = 1 → s.get HOLD_OUT 0 = 0 →
    s.get OWNER_AT 0 + max 1 (s.get RDN_HOLD_HOLD 0) * 800 ≤ s.get CORE_COUNT 0 → Gives .holdExpiry s (fun t => t.get HOLD_OUT 0 = 1 ∧ t.get FIO_HELD_OUT 0 = 1 ∧
      (∀ j : Fin 16, t.bit FIO_OUT_FLT_SAFE 0 j = true ∧
        t.bit FIO_STAGE 0 j = (if s.get FIO_GATE 0 = 2 ∨ s.bit FIO_OUT_FLT_SHORT 0 j = true then false else safeValue t j)) ∧
      (s.get RST_BOOT_STAGE 0 = 5 → s.get FATAL_PATH 0 = 0 → t.bit EVT_SEEN_SEEN (35 / 32) (35 % 32) = true) ∧ QuietE s t ∧ CellsBut s t [(HOLD_OUT, 0), (FIO_HELD_OUT, 0)] (islandCells ++ evtCells))) ∧
  (∀ (s : State), s.get RDN_CFG_EN 0 = 0 ∨ s.get HOLD_OUT 0 = 1 ∨
      s.get CORE_COUNT 0 < s.get OWNER_AT 0 + max 1 (s.get RDN_HOLD_HOLD 0) * 800 → exec .holdExpiry s = .next s) ∧
  (∀ (torn : List (Fin 253952)) (i : Fin 8) (s : State), s.get RDN_CFG_EN 0 = 1 → s.get RDN_CFG_MIRROR_EN 0 = 1 → s.get RDN_STAT_ROLE 0 = 1 → s.get LIM_PHASE 0 = 2 → s.get MIR_READ 0 = 0 → s.get PASS_PHASE 0 = 0 → s.get RDN_STAT_LINK 0 ≠ 0 → s.get RDN_STAT_LINK 0 < 4 →
    PastBoundary (s.get RDN_MIR_CFG_OFFSET 0) s → Gives (.mirrorRead torn) s (fun t => t.get MIR_READ 0 = 1 ∧ t.out.take s.out.length = s.out ∧
      { t with cells := s.cells, out := s.out, freeCtr := s.freeCtr } = s ∧
      CellsBut s t [(MIR_READ, 0), (MAC_CNT_TX_TX_OK, 30), (MAC_CNT_TX_TX_OK, 31)] [] ∧
      (t.out.drop s.out.length).all (fun o => match o with
        | .frame lane fr _ bad => (lane = 30 ∨ lane = 31) ∧ s.bit RDN_STAT_LINK 0 (lane - 30) = true ∧ bad = false ∧
          payloadWord fr 0 = 0x5D + 0x100 + s.get DEV_HUB_LINE_ID 0 * 2 ^ 16 ∧ payloadWord fr 2 = s.get LIM_CYC_NUM_NUM 0 ∧
          payloadWord fr 3 / 2 ^ 18 % 2 ^ 9 ≤ 480
        | _ => false) = true ∧
      ((t.out.drop s.out.length).flatMap (fun o => match o with
        | .frame _ fr _ _ => if payloadWord fr 1 / 2 ^ 24 = i.val then (mirSlotsOf fr).zipIdx.map (fun x => (payloadWord fr 3 % 2 ^ 18 + x.2, x.1)) else []
        | _ => [])) = (if s.flag RDN_MIR_VALID i then
          (List.range (min (s.get RDN_MIR_NSLOTS i) (s.slots - s.get RDN_MIR_FIRST_SLOT i))).map (fun j => (j,
          s.bytes (s.slotAddr (1 - s.fillHalf) (32 * (s.get RDN_MIR_FIRST_SLOT i + j))) 32,
          (if (torn.map Fin.val).contains (s.get RDN_MIR_FIRST_SLOT i + j) then s.byte (s.statusAddr (1 - s.fillHalf) (s.get RDN_MIR_FIRST_SLOT i + j)) ||| 16
            else s.byte (s.statusAddr (1 - s.fillHalf) (s.get RDN_MIR_FIRST_SLOT i + j))))) else []))) ∧
  (∀ (torn : List (Fin 253952)) (s : State), s.get RDN_CFG_EN 0 = 0 ∨ s.get RDN_CFG_MIRROR_EN 0 = 0 ∨ s.get RDN_STAT_ROLE 0 ≠ 1 ∨ s.get LIM_PHASE 0 ≠ 2 ∨
      s.get MIR_READ 0 = 1 ∨ s.get PASS_PHASE 0 ≠ 0 ∨ ¬ PastBoundary (s.get RDN_MIR_CFG_OFFSET 0) s ∨ s.get RDN_STAT_LINK 0 = 0 → exec (.mirrorRead torn) s = .next s) ∧
  (∀ (i : Fin 8) (first : Fin 4096) (x : List Byte × Byte) (n a st : Nat) (s : State), Mirrors s → s.get RDN_MIR_VALID i = 1 → first.val < s.get RDN_MIR_NSLOTS i →
    x.1.length = 32 → n = s.get RDN_MIR_FIRST_SLOT i + first → n < s.slots → a = s.slotAddr s.fillHalf (32 * n) → st = s.statusAddr s.fillHalf n →
    (n ∉ mappedRx s → Gives (.mirrorFrameReceive i first [x]) s (fun t => t.bytes a 32 = x.1 ∧ t.byte st = x.2 ∧ t.get MIR_GOT n = 1 ∧
      (∀ b : Nat, b < a ∨ a + 32 ≤ b → b ≠ st → t.byte b = s.byte b) ∧ { t with mem := s.mem, cells := s.cells } = s ∧ CellsBut s t [(MIR_GOT, n)] [])) ∧
    (n ∈ mappedRx s → exec (.mirrorFrameReceive i first [x]) s = .next s)) ∧
  (∀ (i : Fin 8) (first : Fin 4096) (xs : List (List Byte × Byte)) (j n : Nat) (s : State), Mirrors s → s.get RDN_MIR_VALID i = 1 →
    first.val + xs.length ≤ s.get RDN_MIR_NSLOTS i → xs.length ≤ 480 → (∀ x ∈ xs, x.1.length = 32) → j < xs.length → n = s.get RDN_MIR_FIRST_SLOT i + first + j →
    s.get RDN_MIR_FIRST_SLOT i + first + xs.length ≤ s.slots → mappedRx s = [] → Gives (.mirrorFrameReceive i first xs) s (fun t =>
      t.bytes (s.slotAddr s.fillHalf (32 * n)) 32 = (xs.getD j ([], 0)).1 ∧ t.byte (s.statusAddr s.fillHalf n) = (xs.getD j ([], 0)).2 ∧ t.get MIR_GOT n = 1)) ∧
  (∀ (i : Fin 8) (first : Fin 4096) (xs : List (List Byte × Byte)) (s : State), ¬ Mirrors s → s.get RDN_CFG_EN 0 < 2 → s.get RDN_CFG_MIRROR_EN 0 < 2 →
    s.get MIR_OVER 0 < 2 → exec (.mirrorFrameReceive i first xs) s = .next s) ∧
  (∀ (r : RxFrame) (l : Fin 2) (s : State), s.get RDN_CFG_EN 0 = 1 → r.port.val = 30 + l.val → r.fcsOk = true → octet r.bytes 19 = 1 →
    s.bit RDN_STAT_LINK 0 l = false → exec (.frameReceive r) s = .next s) ∧
  (∀ (r : RxFrame) (l : Fin 2) (s : State), s.get RDN_CFG_EN 0 = 1 → r.port.val = 30 + l.val → r.fcsOk = true → octet r.bytes 19 = 1 →
    s.bit RDN_STAT_LINK 0 l = true → octet r.bytes 18 = 0x5F →
    exec (.frameReceive r) s = exec (.claimWordReceive 1 (BitVec.ofNat 32 (payloadWord r.bytes 1))) s) ∧
  (∀ (r : RxFrame) (l : Fin 2) (i : Fin 8) (first : Fin 4096) (s : State), s.get RDN_CFG_EN 0 = 1 → r.port.val = 30 + l.val → r.fcsOk = true → octet r.bytes 19 = 1 →
    s.bit RDN_STAT_LINK 0 l = true → octet r.bytes 18 = 0x5D → payloadWord r.bytes 0 / 2 ^ 16 = s.get DEV_HUB_LINE_ID 0 →
    payloadWord r.bytes 1 / 2 ^ 24 % 8 = i.val → payloadWord r.bytes 3 % 2 ^ 18 = first.val →
    exec (.frameReceive r) s = exec (.mirrorFrameReceive i first (mirSlotsOf r.bytes)) s) ∧
  (∀ (n : Nat) (s : State), Mirrors s → PastBoundary (s.get RDN_MIR_CFG_MIRROR_END 0) s →
    n = ((((List.range 8).filter (fun i => s.flag RDN_MIR_VALID i)).flatMap (fun i => (List.range (s.get RDN_MIR_NSLOTS i)).map (fun j => s.get RDN_MIR_FIRST_SLOT i + j))).filter
      (fun k => k < s.slots ∧ s.flag MIR_GOT k = false ∧ k ∉ mappedRx s)).length → Gives .mirrorDeadline s (fun t => t.get MIR_OVER 0 = 1 ∧
      t.get RDN_CNT_MIRROR_LATE 0 = (if n = 0 then s.get RDN_CNT_MIRROR_LATE 0 else min (s.get RDN_CNT_MIRROR_LATE 0 + n) (2 ^ RDN_CNT_MIRROR_LATE.w - 1)) ∧
      (n ≠ 0 → t.bit EVT_SEEN_SEEN (42 / 32) (42 % 32) = true) ∧ (n = 0 → t.events = s.events) ∧ QuietE s t ∧
      CellsBut s t [(MIR_OVER, 0), (RDN_CNT_MIRROR_LATE, 0)] evtCells)) ∧
  (∀ (s : State), s.get RDN_CFG_EN 0 = 0 ∨ s.get RDN_CFG_MIRROR_EN 0 = 0 ∨ s.get RDN_STAT_ROLE 0 ≠ 2 ∨ s.get LIM_PHASE 0 ≠ 2 ∨ s.get MIR_OVER 0 = 1 ∨
      ¬ PastBoundary (s.get RDN_MIR_CFG_MIRROR_END 0) s → exec .mirrorDeadline s = .next s) ∧
  (∀ (rs : BitVec 6) (s : State), s.get RDN_CFG_EN 0 = 1 → s.get RDN_STAT_ROLE 0 = 2 → s.get SBT_STEP 0 = 0 → s.get RDN_TEST_PERIOD_S 0 ≠ 0 →
    s.get SBT_AT 0 + s.get RDN_TEST_PERIOD_S 0 * 800000000 ≤ s.get CORE_COUNT 0 + 1 → Gives (.standbySelfTest rs) s (fun t => t.get SBT_STEP 0 = 1 ∧
      t.get SBT_AT 0 = (s.get CORE_COUNT 0 + 1) % 2 ^ 64 ∧ (∃ r ∈ t.bgReqs, r.job = .selfTest) ∧
      { t with cells := s.cells, bgReqs := s.bgReqs } = s ∧ CellsBut s t [(SBT_STEP, 0), (SBT_AT, 0)] [])) ∧
  (∀ (rs : BitVec 6) (k : Nat) (s : State), s.get RDN_CFG_EN 0 = 1 → s.get RDN_STAT_ROLE 0 = 2 → s.get SBT_STEP 0 = k + 1 → k < 6 → .selfTest ∈ s.bgGrants → s.get RDN_TEST_RESULT 0 < 2 ^ 6 →
    s.get RDN_CLAIM_CLAIM 0 < 2 ^ 8 → Gives (.standbySelfTest rs) s (fun t => (∀ j : Fin 6, t.bit RDN_TEST_RESULT 0 j = if j.val = k then rs.getLsbD k else s.bit RDN_TEST_RESULT 0 j) ∧
      t.get RDN_STAT_OWN_FIT 0 = (if t.get RDN_TEST_RESULT 0 = 63 then 1 else 0) ∧ (rs.getLsbD k = false → t.bit EVT_SEEN_SEEN (41 / 32) (41 % 32) = true) ∧
      t.bgGrants = s.bgGrants.erase .selfTest ∧ t.get SBT_STEP 0 = (if k < 5 then k + 2 else 0) ∧ (k < 5 → ∃ r ∈ t.bgReqs, r.job = .selfTest) ∧
      t.get RDN_CLAIM_EFFECTIVE 0 = claimNow t ∧ { t with cells := s.cells, events := s.events, bgReqs := s.bgReqs, bgGrants := s.bgGrants } = s ∧
      CellsBut s t [(RDN_TEST_RESULT, 0), (RDN_STAT_OWN_FIT, 0), (SBT_STEP, 0), (RDN_CLAIM_EFFECTIVE, 0)] evtCells)) ∧
  (∀ (rs : BitVec 6) (s : State), s.get RDN_CFG_EN 0 = 0 ∨ s.get RDN_STAT_ROLE 0 ≠ 2 ∨ (s.get SBT_STEP 0 = 0 ∧ (s.get RDN_TEST_PERIOD_S 0 = 0 ∨
      s.get CORE_COUNT 0 + 1 < s.get SBT_AT 0 + s.get RDN_TEST_PERIOD_S 0 * 800000000)) ∨ (s.get SBT_STEP 0 ≠ 0 ∧ .selfTest ∉ s.bgGrants) →
    exec (.standbySelfTest rs) s = .next s) ∧
  (∀ (l : Fin 2) (s : State), s.get RDN_CFG_EN 0 = 1 → s.bit RDN_STAT_LINK 0 l = false → s.get RDN_STAT_LINK 0 < 4 →
    s.domOn (domSerdes (30 + l)) = true → s.get CLK_STAT_SERDES_REF_OK 0 = 1 → s.get RAIL_BAD 4 = 0 → Gives (.pairLinkLaneUp l) s (fun t =>
      t.bit RDN_STAT_LINK 0 l = true ∧ t.bit RDN_STAT_LINK 0 (1 - l) = s.bit RDN_STAT_LINK 0 (1 - l) ∧
      t.bit EVT_SEEN_SEEN (39 / 32) (39 % 32) = true ∧ QuietE s t ∧ CellsBut s t [(RDN_STAT_LINK, 0)] evtCells)) ∧
  (∀ (l : Fin 2) (s : State), s.get RDN_CFG_EN 0 = 0 ∨ s.bit RDN_STAT_LINK 0 l = true ∨ s.domOn (domSerdes (30 + l)) = false ∨
      s.get CLK_STAT_SERDES_REF_OK 0 = 0 ∨ s.get RAIL_BAD 4 = 1 → exec (.pairLinkLaneUp l) s = .next s) ∧
  (∀ (l : Fin 2) (s : State), s.get RDN_CFG_EN 0 = 1 → s.bit RDN_STAT_LINK 0 l = true → s.get RDN_STAT_LINK 0 < 4 → Gives (.pairLinkLaneDown l) s (fun t =>
      t.bit RDN_STAT_LINK 0 l = false ∧ t.bit RDN_STAT_LINK 0 (1 - l) = s.bit RDN_STAT_LINK 0 (1 - l) ∧
      t.bit EVT_SEEN_SEEN (38 / 32) (38 % 32) = true ∧ QuietE s t ∧ CellsBut s t [(RDN_STAT_LINK, 0)] evtCells)) ∧
  (∀ (l : Fin 2) (s : State), s.get RDN_CFG_EN 0 = 0 ∨ s.bit RDN_STAT_LINK 0 l = false →
    exec (.pairLinkLaneDown l) s = .next s)

/-- Resets: requests, what takes effect and what is kept, the power-fail restart, the fatal-fault path's end, and the control-core watchdog (R386, R411, R427, R428, R429, R430, R431, R432, R433, R434). -/
def Obligations.ResetsAndWatchdog : Prop :=
  (∀ (s : State), s.get TMP_LATCH 0 = 0 → s.get FUSE_OP 0 = 0 → Gives .resetNAssert s (fun t => ColdReset 1 1 s (t.put RESET_N_LOW 0 (s.get RESET_N_LOW 0)) ∧ t.get RESET_N_LOW 0 = 1)) ∧
  (∀ (s : State), s.get TMP_LATCH 0 = 0 → s.get FUSE_OP 0 ≠ 0 → Gives .resetNAssert s (fun t => t.get FUSE_OP 0 = 0 ∧
    (t.get PCS_FUSE_SCRAP 0 = s.get PCS_FUSE_SCRAP 0 ∨ s.get FUSE_OP 0 = 2 ∧ t.get PCS_FUSE_SCRAP 0 = 1) ∧
    (t.get PCS_FUSE_DEBUG_KILL 0 = s.get PCS_FUSE_DEBUG_KILL 0 ∨ s.get FUSE_OP 0 = 3 ∧ t.get PCS_FUSE_DEBUG_KILL 0 = 1) ∧
    (t.get PCS_FUSE_SEEDS 0 = s.get PCS_FUSE_SEEDS 0 ∨ s.get FUSE_OP 0 = 1))) ∧
  (∀ (s : State), s.get TMP_LATCH 0 < 2 ^ 6 → s.get FUSE_OP 0 = 0 → Gives .powerOnReset s (fun t => s.get TMP_LATCH 0 = 0 → ColdReset 0 0 s t) ∧
    Gives .powerOnReset s (fun t => t.get TMP_LATCH 0 = 0 ∧ t.get RST_CAUSE_CLASS 0 = 0 ∧ t.get RST_CAUSE_SRC 0 = 0 ∧ t.get KEY_EPOCH 0 = s.get KEY_EPOCH 0)) ∧
  (∀ (s : State), exec .resetNRelease s = .next (s.put RESET_N_LOW 0 0)) ∧
  (∀ (s : State), s.get RST_REQ 0 = 1 → s.get RST_CMD 0 = 0 → s.get PWR_STAT_PF 0 = 0 → s.get TMP_LATCH 0 = 0 → (s.get LDG_FLUSH_BUSY 0 = 0 ∨ s.get RST_REQ_AT 0 + 8000000 ≤ s.get CORE_COUNT 0) → s.get RST_REQ_SRC 0 < 16 → s.get FUSE_OP 0 = 0 → Gives .resetTakesEffect s (fun t => ColdReset 1 (s.get RST_REQ_SRC 0) s t)) ∧
  (∀ (s : State), s.get RST_REQ 0 = 2 → s.get RST_CMD 0 = 0 → s.get PWR_STAT_PF 0 = 0 → s.get TMP_LATCH 0 = 0 → (s.get LDG_FLUSH_BUSY 0 = 0 ∨ s.get RST_REQ_AT 0 + 8000000 ≤ s.get CORE_COUNT 0) → s.get RST_REQ_SRC 0 < 16 → Gives .resetTakesEffect s (fun t => WarmReset (s.get RST_REQ_SRC 0) s t)) ∧
  (∀ (s : State), s.get RST_CMD 0 = 0 → s.get RST_REQ 0 = 0 ∨ s.get PWR_STAT_PF 0 = 1 ∨ (s.get LDG_FLUSH_BUSY 0 = 1 ∧ s.get CORE_COUNT 0 < s.get RST_REQ_AT 0 + 8000000) →
    exec .resetTakesEffect s = .next s) ∧
  (∀ (mv : BitVec 16) (s : State), s.get PWR_STAT_PF 0 = 1 → s.get LDG_STAT_STATE 0 = 3 → 10 * s.get PWR_PF_PF_OK 0 < mv.toNat → s.get TMP_LATCH 0 = 0 →
    s.get FUSE_OP 0 = 0 → Gives (.powerFailRestart mv) s (fun t => ColdReset 1 5 s t)) ∧
  (∀ (mv : BitVec 16) (s : State), s.get PWR_STAT_PF 0 = 0 ∨ s.get LDG_STAT_STATE 0 ≠ 3 ∨ mv.toNat ≤ 10 * s.get PWR_PF_PF_OK 0 →
    exec (.powerFailRestart mv) s = .next s) ∧
  (∀ (s : State), s.get FATAL_PATH 0 = 2 → s.get CLK_STAT_REF_OK 0 = 1 → s.get PWR_STAT_PF 0 = 0 → s.get CLK_REF_AT 0 + 800000 ≤ s.get CORE_COUNT 0 →
    s.get TMP_LATCH 0 = 0 → s.get FUSE_OP 0 = 0 → Gives .referenceStable s (fun t => ColdReset 1 10 s t)) ∧
  (∀ (s : State), s.get FATAL_PATH 0 ≠ 2 ∨ s.get CLK_STAT_REF_OK 0 = 0 ∨ s.get PWR_STAT_PF 0 = 1 ∨ s.get CORE_COUNT 0 < s.get CLK_REF_AT 0 + 800000 →
    exec .referenceStable s = .next s) ∧
  (∀ (s : State), s.get PWR_STAT_PF 0 = 0 → s.get RST_REQ 0 = 0 → Gives .perstN s (fun t => EndpointReset 6 s t ∧ t.get PERST_LOW 0 = 1)) ∧
  (∀ (s : State), s.get PWR_STAT_PF 0 = 1 ∨ s.get RST_REQ 0 ≠ 0 → exec .perstN s = .next (s.put PERST_LOW 0 1)) ∧
  (∀ (s : State), exec .perstNRelease s = .next ((s.put PERST_LOW 0 0).put CFG_AT 0 (s.get CORE_COUNT 0 + 16000000))) ∧
  (∀ (s : State), s.permit .cc .registers 0x40100004 true = .yes → Gives (.rstCtrlCold .cc) s (fun t => ResetAsked 1 4 s t ∧ AskedOnly s t)) ∧
  (∀ (q : Requester) (s : State), q ≠ .cc → s.permit q .registers 0x40100004 true = .no → exec (.rstCtrlCold q) s = .next (s.refuse q 0x40100004 1)) ∧
  (∀ (s : State), s.permit .cc .registers 0x40100004 true = .yes → Gives (.rstCtrlWarm .cc) s (fun t => ResetAsked 2 4 s t ∧ AskedOnly s t)) ∧
  (∀ (q : Requester) (s : State), q ≠ .cc → s.permit q .registers 0x40100004 true = .no → exec (.rstCtrlWarm q) s = .next (s.refuse q 0x40100004 1)) ∧
  (∀ (q : Requester) (v : Word) (s : State), (q = .pf ∨ q = .cc) → s.permit q .registers 0x40100008 true = .yes → v.toNat / 2 ^ 16 ≠ 0xD0A1 →
    exec (.rstHostWrite q v) s = .next (s.put RST_HOST_BAD_KEY 0 (min (s.get RST_HOST_BAD_KEY 0 + 1) 255))) ∧
  (∀ (q : Requester) (v : Word) (s : State), (q = .pf ∨ q = .cc) → s.permit q .registers 0x40100008 true = .yes → v.toNat / 2 ^ 16 = 0xD0A1 →
    (v.toNat % 4 < 2 → Gives (.rstHostWrite q v) s (fun t => ResetAsked (v.toNat % 4 + 1) 3 s t ∧ AskedOnly s t)) ∧
    (v.toNat % 4 = 2 → s.get PWR_STAT_PF 0 = 0 → s.get RST_REQ 0 = 0 → Gives (.rstHostWrite q v) s (fun t => EndpointReset 3 s t)) ∧
    (v.toNat % 4 = 2 → s.get PWR_STAT_PF 0 = 1 ∨ s.get RST_REQ 0 ≠ 0 → exec (.rstHostWrite q v) s = .next s) ∧
    (v.toNat % 4 = 3 → exec (.rstHostWrite q v) s = .next s)) ∧
  (∀ (q : Requester) (v : Word) (s : State), q ≠ .pf → q ≠ .cc → exec (.rstHostWrite q v) s = .next (s.refuse q 0x40100008 1)) ∧
  (∀ (r : Fin 32) (pa flags tag k : Nat) (s : State), Asks r pa 0x0103 flags tag (parsOf (toBytes 1 k)) s → flags < 4 → s.get HIF_RING_OWN_FUNC r = 0 → k < 2 →
    Gives (.reset r) s (fun t => Replies r pa tag 0 0 [] s.out s t ∧ t.fetched = [] ∧ ResetAsked (k + 1) 2 s t ∧ t.get RST_CMD 0 = 0 ∧
      (flags % 2 = 1 → t.bit EVT_SEEN_SEEN (112 + r / 16) (2 * (r % 16)) = true) ∧
      CellsBut s t [(RING_STS_TAIL, r), (RING_TURN, 0), (RST_REQ, 0), (RST_REQ_SRC, 0), (RST_REQ_AT, 0), (LDG_TARGET, 0), (LDG_FLUSH_BUSY, 0), (RST_CMD, 0), (RST_CMD_RING, 0)] evtCells)) ∧
  (∀ (r : Fin 32) (pa flags tag : Nat) (s : State), Asks r pa 0x0103 flags tag (parsOf (toBytes 1 2)) s → flags < 4 → s.get HIF_RING_OWN_FUNC r = 0 →
    s.get PWR_STAT_PF 0 = 0 → s.get RST_REQ 0 = 0 → Gives (.reset r) s (fun t => EndpointReset 2 s t ∧ t.fetched = [] ∧ t.get RST_CMD 0 = 0 ∧
      (s.get XLT_CTX_CFG_FUNC (s.get HIF_RING_OWN_CTX r) < 16 → t.out.take (s.out.length + 1) = s.out ++
        [.pcieWrite (s.get XLT_CTX_CFG_FUNC (s.get HIF_RING_OWN_CTX r)) (ctxPasid s (s.get HIF_RING_OWN_CTX r))
          (pa + 64 * s.get HIF_RING_STS_VA r + 32 * s.get RING_STS_TAIL r) (toBytes 4 tag ++ List.replicate 28 0)]))) ∧
  (∀ (r : Fin 32) (pa flags tag k : Nat) (s : State), Asks r pa 0x0103 flags tag (parsOf (toBytes 1 k)) s → flags < 4 → s.get HIF_RING_OWN_FUNC r = 0 → 2 < k → k < 256 →
    Gives (.reset r) s (fun t => JustAnswers r pa flags tag 0x0103 8 s t)) ∧
  (∀ (v : Word) (s : State), s.permit .cc .registers 0x40100018 true = .yes → Gives (.rstWdogKick .cc v) s (fun t =>
      t.get RST_WDOG_TIMEOUT_MS 0 = v.toNat % 2 ^ 16 ∧
      (v.toNat / 2 ^ 16 % 2 = 1 ∨ s.get RST_WDOG_TIMEOUT_MS 0 = 0 → t.get RST_WDOG_AT 0 = s.get CORE_COUNT 0 % 2 ^ 64 ∧ t.get RST_WDOG_SAID 0 = 0) ∧
      (v.toNat / 2 ^ 16 % 2 = 0 → s.get RST_WDOG_TIMEOUT_MS 0 ≠ 0 → t.get RST_WDOG_AT 0 = s.get RST_WDOG_AT 0 ∧ t.get RST_WDOG_SAID 0 = s.get RST_WDOG_SAID 0) ∧
      Quiet s t ∧ CellsBut s t [(RST_WDOG_TIMEOUT_MS, 0), (RST_WDOG_AT, 0), (RST_WDOG_SAID, 0)] [])) ∧
  (∀ (q : Requester) (v : Word) (s : State), q ≠ .cc → s.permit q .registers 0x40100018 true = .no → exec (.rstWdogKick q v) s = .next (s.refuse q 0x40100018 1)) ∧
  (∀ (s : State), s.get RST_WDOG_TIMEOUT_MS 0 ≠ 0 → s.get RST_WDOG_SAID 0 = 0 → s.get RST_WDOG_AT 0 + s.get RST_WDOG_TIMEOUT_MS 0 * 400000 ≤ s.get CORE_COUNT 0 → Gives .rstWdogWarn s (fun t => t.get RST_WDOG_SAID 0 = 1 ∧ t.bit EVT_SEEN_SEEN 0 1 = true ∧ QuietE s t ∧
      CellsBut s t [(RST_WDOG_SAID, 0)] evtCells)) ∧
  (∀ (s : State), s.get RST_WDOG_TIMEOUT_MS 0 = 0 ∨ s.get RST_WDOG_SAID 0 = 1 ∨ s.get CORE_COUNT 0 < s.get RST_WDOG_AT 0 + s.get RST_WDOG_TIMEOUT_MS 0 * 400000 →
    exec .rstWdogWarn s = .next s) ∧
  (∀ (s : State), s.get RST_WDOG_TIMEOUT_MS 0 ≠ 0 → s.get RST_WDOG_AT 0 + s.get RST_WDOG_TIMEOUT_MS 0 * 800000 ≤ s.get CORE_COUNT 0 → s.get FATAL_PATH 0 = 0 →
    Gives .ccWatchdogExpiry s (fun t => FatalTaken 0xF1 s t)) ∧
  (∀ (s : State), s.get RST_WDOG_TIMEOUT_MS 0 = 0 ∨ s.get CORE_COUNT 0 < s.get RST_WDOG_AT 0 + s.get RST_WDOG_TIMEOUT_MS 0 * 800000 →
    exec .ccWatchdogExpiry s = .next s)

/-- Boot: its stages from RESET to READY or SAFE_HALT, the firmware slot, the Ledger's recovery, the Portcullis; and the rails (R369, R373, R376, R379, R388, R394, R399, R435, R436, R437, R445). -/
def Obligations.BootAndRails : Prop :=
  (∀ (s : State), s.get RST_BOOT_STAGE 0 = 0 → s.get RESET_N_LOW 0 = 0 → s.get CLK_STAT_ROOT_LOCK 0 = 1 → s.get RAIL_BAD 0 = 0 → s.get RAIL_BAD 1 = 0 → s.get RAIL_BAD 13 = 0 → Gives .selfTest s (fun t => t.get RST_BOOT_STAGE 0 = 1 ∧
      t.get PCS_STAT_STATE 0 = (if s.get PCS_STAT_STATE 0 = 0 ∧ s.domOn domPortcullis = true then 1 else s.get PCS_STAT_STATE 0) ∧ Quiet s t ∧
      CellsBut s t [(RST_BOOT_STAGE, 0), (PCS_STAT_STATE, 0)] [])) ∧
  (∀ (s : State), s.get RST_BOOT_STAGE 0 ≠ 0 ∨ s.get RESET_N_LOW 0 = 1 ∨ s.get CLK_STAT_ROOT_LOCK 0 = 0 ∨ s.get RAIL_BAD 0 = 1 ∨ s.get RAIL_BAD 1 = 1 ∨
      s.get RAIL_BAD 13 = 1 → exec .selfTest s = .next s) ∧
  (∀ (f : Nat) (s : State), s.get RST_BOOT_STAGE 0 = 1 → s.get PCS_LC_STATE 0 ≠ 4 → s.get RST_BOOT_FAILS 0 < 4 → s.get BOOT_TRIED 0 = 0 → f = firstSlot s →
    Gives .fwSelect s (fun t => t.get RST_BOOT_STAGE 0 = 2 ∧ t.get RSTO_N 0 = 1 ∧
      t.get BOOT_PICK 0 = (if SlotPasses f s then f + 1 else if SlotPasses (1 - f) s then 2 - f else 0) ∧
      (SlotPasses f s → t.get PCS_BOOT_FAIL_WHY 0 = s.get PCS_BOOT_FAIL_WHY 0) ∧
      (SlotHolds f s → ¬ SlotPasses f s → SlotPasses (1 - f) s ∨ ¬ SlotHolds (1 - f) s → t.get PCS_BOOT_FAIL_WHY 0 = firmwareCheck s (slotImage s f)) ∧
      (SlotHolds (1 - f) s → ¬ SlotPasses f s → ¬ SlotPasses (1 - f) s → t.get PCS_BOOT_FAIL_WHY 0 = firmwareCheck s (slotImage s (1 - f))) ∧ Quiet s t ∧
      CellsBut s t [(RST_BOOT_STAGE, 0), (RSTO_N, 0), (BOOT_PICK, 0), (PCS_BOOT_FAIL_WHY, 0)] [])) ∧
  (∀ (s : State), s.get RST_BOOT_STAGE 0 = 1 → s.get PCS_LC_STATE 0 = 4 ∨ 4 ≤ s.get RST_BOOT_FAILS 0 →
    exec .fwSelect s = .next (((s.put RST_BOOT_STAGE 0 2).put RSTO_N 0 1).put BOOT_PICK 0 0)) ∧
  (∀ (s : State), s.get RST_BOOT_STAGE 0 ≠ 1 → exec .fwSelect s = .next s) ∧
  (∀ (k : Nat) (img : List Byte) (s : State), s.get RST_BOOT_STAGE 0 = 2 → s.get BOOT_PICK 0 = k + 1 → k < 2 → img = slotImage s k → Gives .fwLoad s (fun t =>
      (sha384 img = slotDigest s k → t.get RST_BOOT_STAGE 0 = 3 ∧ t.get RST_BOOT_SLOT 0 = k ∧ t.get PCS_BOOT_SLOT 0 = k ∧
        t.get CORE_CP 32 = imgWord img 0 5 / 2 ^ 18 % 2 ^ 4 ∧ t.get CORE_PC 32 = imgWord img 0 5 % 2 ^ 18 / 4 ∧ coreRm t 32 = false ∧ SectionsLoaded img s t ∧
        (∀ e ∈ s.rootKeys, tblFind t.rootKeys e.1 = tblFind s.rootKeys e.1) ∧
        { t with cells := s.cells, mem := s.mem, sram := s.sram, rootKeys := s.rootKeys } = s ∧
        CellsBut s t [(RST_BOOT_STAGE, 0), (RST_BOOT_SLOT, 0), (PCS_BOOT_SLOT, 0), (CORE_CP, 32), (CORE_PC, 32), (CORE_RM, 32)] []) ∧
      (sha384 img ≠ slotDigest s k → t.get RST_BOOT_STAGE 0 = 2 ∧ t.get BOOT_PICK 0 ≠ k + 1 ∧ t.bit BOOT_TRIED 0 k = true ∧ Quiet s t ∧
        (t.get BOOT_PICK 0 = 0 → SlotPasses (1 - k) s → s.bit BOOT_TRIED 0 (1 - k) = true ∨ s.get PCS_LC_STATE 0 = 4 ∨ 4 ≤ s.get RST_BOOT_FAILS 0) ∧
        (t.get BOOT_PICK 0 ≠ 0 → SlotPasses (1 - k) s ∧ t.get PCS_BOOT_FAIL_WHY 0 = 5) ∧
        CellsBut s t [(BOOT_PICK, 0), (BOOT_TRIED, 0), (PCS_BOOT_FAIL_WHY, 0)] []))) ∧
  (∀ (s : State), s.get RST_BOOT_STAGE 0 ≠ 2 ∨ s.get BOOT_PICK 0 = 0 → exec .fwLoad s = .next s) ∧
  (∀ (s : State), s.get RST_BOOT_STAGE 0 = 3 → s.get LDG_STAT_STATE 0 = 0 → s.staged = [] → GoodRing s → Gives .ledgerRecovery s (fun t => t.get RST_BOOT_STAGE 0 = 4 ∧ t.get LDG_STAT_STATE 0 = 1 ∧
      t.bit EVT_SEEN_SEEN (74 / 32) (74 % 32) = true ∧ t.get LDG_NV_PF 0 = 0 ∧ t.get LDG_ROT 0 = 0 ∧
      (∀ k : Fin 8, slotWord s k 0 % 4 % 3 = 1 → slotWord t k 0 = slotWord s k 0 / 4 * 4) ∧ (∀ k : Fin 8, slotWord t k 0 % 4 % 3 ≠ 1) ∧
      (∀ a : Nat, a < 0x3100000 ∨ (0x3900000 ≤ a ∧ a < 0x3B00000) → durByte t a = durByte s a) ∧
      (∀ (k : Fin 8) (i : Nat), 0 < i → i < 64 → slotWord t k i = slotWord s k i) ∧
      (∀ (k : Fin 8) (j : Nat), j < 0xFFF00 → durByte t (0x3100100 + 0x100000 * k.val + j) =
        if slotWord s k 0 % 4 % 3 = 1 then 0 else durByte s (0x3100100 + 0x100000 * k.val + j)) ∧
      (∀ k : Fin 8, 2 ≤ k.val → slotWord t k 0 % 4 % 3 = 2 → slotWord t k 4 ≤ svnMin t (256 * (slotWord t k 3 % 2 ^ 8) + slotWord t k 3 / 2 ^ 8 % 2 ^ 8)) ∧
      (∀ i : Nat, i < 2 ^ 16 → svnMin s i ≤ svnMin t i) ∧
      (anchorNow s = none → ∀ l : Nat, t.get LDG_PAGE l = match (s.journal.filter (fun r => r.sector / 16 = l ∧ r.dir.isSome)).getLast? with
        | some r => (r.dir.getD (0, 0)).1 % 2 ^ 3
        | none => 0) ∧
      t.get KEY_FW_SVN 0 = max (s.get KEY_FW_SVN 0) (slotWord t (s.get RST_BOOT_SLOT 0) 4) ∧
      (s.get LDG_NV_PF 0 = 2 → t.get LDG_PF_VALID 0 = 1 ∧ t.get LDG_PF_SEALED 0 = 1 ∧ t.get LDG_PF_CRIT_LOST 0 = s.get LDG_NV_LOST 2 % 2 ^ 13) ∧
      (s.get LDG_NV_PF 0 = 1 → t.get LDG_PF_VALID 0 = 1 ∧ t.get LDG_PF_SEALED 0 = 0 ∧ t.bit EVT_SEEN_SEEN (75 / 32) (75 % 32) = true) ∧
      (s.get LDG_NV_PF 0 = 0 → t.get LDG_PF_VALID 0 = if s.get RST_CAUSE_CLASS 0 = 0 then 0 else s.get LDG_PF_VALID 0) ∧
      (s.get KEY_LC_OPEN 0 = 1 → t.get KEY_LC_OPEN 0 = 0 ∧ t.get PCS_LC_INCOMPLETE 0 = 1 ∧ t.bit EVT_SEEN_SEEN (100 / 32) (100 % 32) = true) ∧
      (s.get KEY_LC_OPEN 0 = 0 → t.get PCS_LC_INCOMPLETE 0 = s.get PCS_LC_INCOMPLETE 0) ∧
      t.journal = (s.journal.filter (fun r => r.dir.isSome)).map (fun r => { r with bytes := [], text := [] }) ∧ t.out = s.out ∧ t.sram = s.sram)) ∧
  (∀ (s : State), s.get RST_BOOT_STAGE 0 ≠ 3 → exec .ledgerRecovery s = .next s) ∧
  (∀ (s : State), s.get RST_BOOT_STAGE 0 = 4 → Gives .rstReady s (fun t => t.get RST_BOOT_STAGE 0 = 5 ∧ t.bit EVT_SEEN_SEEN 0 0 = true ∧ QuietE s t ∧
      CellsBut s t [(RST_BOOT_STAGE, 0), (KEY_BOOTS, 0)] evtCells)) ∧
  (∀ (s : State), s.get RST_BOOT_STAGE 0 ≠ 4 → exec .rstReady s = .next s) ∧
  (∀ (s : State), s.get RST_BOOT_STAGE 0 = 2 → s.get BOOT_PICK 0 = 0 →
    exec .safeHalt s = .next (((s.put RST_BOOT_STAGE 0 6).put HIF_RING_OWN_FUNC 0 0).put HIF_RING_OWN_CTX 0 0)) ∧
  (∀ (s : State), s.get RST_BOOT_STAGE 0 ≠ 2 ∨ s.get BOOT_PICK 0 ≠ 0 → exec .safeHalt s = .next s) ∧
  (∀ (s : State), s.permit .cc .registers 0x40100010 true = .yes → exec (.bootDone .cc) s = .next ((s.put RST_BOOT_BOOT_DONE 0 1).put RST_BOOT_FAILS 0 0)) ∧
  (∀ (q : Requester) (s : State), q ≠ .cc → s.permit q .registers 0x40100010 true = .no → exec (.bootDone q) s = .next (s.refuse q 0x40100010 1)) ∧
  (∀ (r : Fin 16) (s : State), s.get RAIL_BAD r = 0 → Gives (.railOutOfRange r) s (fun t => t.get RAIL_BAD r = 1 ∧
      (r.val < 2 ∨ 5 < r.val → t = s.put RAIL_BAD r 1) ∧
      (r.val = 2 ∨ r.val = 3 → (∀ l : Fin 8, portOfLane s l = l.val → t.get TRK_PORT_STAT_LINK l = 0) ∧
        (∀ k ∈ t.cmds, (k.wait = .power 71 true ∨ k.wait = .power 72 true) → k.done ≠ none)) ∧
      (r.val = 4 → (∀ p : Fin 32, t.get MAC_STAT_LINK p = 0) ∧ t.get PCIE_UP 0 = 0) ∧
      (r.val = 5 → (∀ p : Fin 16, t.get MAC_STAT_LINK p = 0) ∧ (∀ p : Fin 16, t.get MAC_STAT_LINK (16 + p.val) = s.get MAC_STAT_LINK (16 + p.val))) ∧
      t.mem = s.mem ∧ t.staged = s.staged ∧ t.get RST_BOOT_STAGE 0 = s.get RST_BOOT_STAGE 0)) ∧
  (∀ (r : Fin 16) (s : State), s.get RAIL_BAD r = 1 → exec (.railOutOfRange r) s = .next s) ∧
  (∀ (r : Fin 16) (s : State), s.get RAIL_BAD r = 1 → Gives (.railBackInRange r) s (fun t => t.get RAIL_BAD r = 0 ∧
      (r.val < 2 ∨ 5 < r.val → t = s.put RAIL_BAD r 0) ∧
      (r.val = 2 ∨ r.val = 3 → (∀ l : Fin 8, portOfLane s l = l.val → t.get TRK_PORT_STAT_LINK l = 0)) ∧
      (r.val = 4 → (∀ p : Fin 32, t.get MAC_STAT_LINK p = 0) ∧ t.get PCIE_UP 0 = 0) ∧
      (r.val = 5 → (∀ p : Fin 16, t.get MAC_STAT_LINK p = 0) ∧ (∀ p : Fin 16, t.get MAC_STAT_LINK (16 + p.val) = s.get MAC_STAT_LINK (16 + p.val))) ∧
      t.mem = s.mem ∧ t.staged = s.staged ∧ t.get RST_BOOT_STAGE 0 = s.get RST_BOOT_STAGE 0)) ∧
  (∀ (r : Fin 16) (s : State), s.get RAIL_BAD r = 0 → exec (.railBackInRange r) s = .next s) ∧
  (∀ (img : List Byte) (s : State), s.get PCS_STAT_STATE 0 = 1 → s.domOn domPortcullis = true → 3 ≤ s.get RST_BOOT_STAGE 0 → s.get RST_BOOT_STAGE 0 ≤ 5 →
    img = slotImage s (s.get RST_BOOT_SLOT 0) → Gives .portcullisReady s (fun t => t.get PCS_STAT_STATE 0 = 2 ∧
      t.get CORE_CP 33 = imgWord img 0 6 / 2 ^ 18 % 2 ^ 4 ∧ t.get CORE_PC 33 = imgWord img 0 6 % 2 ^ 18 / 4 ∧ coreRm t 33 = false ∧
      (sectionsApart (fun k => if k ≤ 2 then 0 else 1) (fwSectionsOf img) = true → (∀ x ∈ fwSectionsOf img, fwSectionFits x = true) →
        ∀ x ∈ fwSectionsOf img, x.kind = 4 → ∀ j : Nat, j < x.size → t.sramByte (pcsMemBase + x.dest + j) = 0) ∧
      (∀ a : Nat, (∀ x ∈ fwSectionsOf img, 2 < x.kind → a < pcsMemBase + x.dest ∨ pcsMemBase + x.dest + x.size ≤ a) → t.sramByte a = s.sramByte a) ∧
      t.mem = s.mem ∧ t.get RST_BOOT_STAGE 0 = s.get RST_BOOT_STAGE 0)) ∧
  (∀ (s : State), s.get PCS_STAT_STATE 0 ≠ 1 ∨ s.domOn domPortcullis = false ∨ s.get RST_BOOT_STAGE 0 < 3 ∨ 5 < s.get RST_BOOT_STAGE 0 →
    exec .portcullisReady s = .next s)
end

