-- ==== Sys2Proof/Laws/Table.lean ====
section
/-! SUPPORT. Laws of the sparse tables: reading after writing, and that the operations keep the canonical form. -/

namespace Sys2Proof.Machine

variable {α : Type}

/-- Reading a key that has been erased gives the default. -/
theorem tblGet_erase_same (d : α) (t : List (Nat × α)) (k : Nat) : tblGet d (tblErase t k) k = d := by
  induction t with
  | nil => rfl
  | cons e r ih =>
    obtain ⟨a, x⟩ := e
    by_cases h : a = k
    · simp [tblErase, h, ih]
    · simp [tblErase, tblGet, h, ih]

/-- Erasing a key leaves the others as they read. -/
theorem tblGet_erase_other (d : α) (t : List (Nat × α)) {k j : Nat} (h : j ≠ k) :
    tblGet d (tblErase t k) j = tblGet d t j := by
  induction t with
  | nil => rfl
  | cons e r ih =>
    obtain ⟨a, x⟩ := e
    by_cases ha : a = k
    · subst ha
      simp [tblErase, tblGet, ih, Ne.symm h]
    · by_cases hj : a = j
      · subst hj
        simp [tblErase, tblGet, h]
      · simp [tblErase, tblGet, ha, hj, ih]

/-- No entry of a key is left after it was erased. -/
theorem tblErase_no_key (t : List (Nat × α)) (k : Nat) : ∀ e ∈ tblErase t k, e.1 ≠ k := by
  induction t with
  | nil => intro e he; cases he
  | cons e r ih =>
    obtain ⟨a, x⟩ := e
    intro e he
    by_cases ha : a = k
    · simp only [tblErase, ha, if_true] at he
      exact ih e he
    · simp only [tblErase, ha, if_false, List.mem_cons] at he
      rcases he with rfl | he
      · exact ha
      · exact ih e he

/-- A key put into a table without it reads as put. -/
theorem tblGet_insert_same (d : α) (t : List (Nat × α)) (k : Nat) (v : α) (h : ∀ e ∈ t, e.1 ≠ k) :
    tblGet d (tblInsert t k v) k = v := by
  induction t with
  | nil => simp [tblInsert, tblGet]
  | cons e r ih =>
    obtain ⟨a, x⟩ := e
    have ha : a ≠ k := h (a, x) (by simp)
    have hr : ∀ e ∈ r, e.1 ≠ k := fun e he => h e (by simp [he])
    by_cases hk : k < a
    · simp [tblInsert, tblGet, hk]
    · simp [tblInsert, tblGet, hk, ha, ih hr]

/-- Putting a key leaves the others as they read. -/
theorem tblGet_insert_other (d : α) (t : List (Nat × α)) {k j : Nat} (v : α) (h : j ≠ k) :
    tblGet d (tblInsert t k v) j = tblGet d t j := by
  induction t with
  | nil => simp [tblInsert, tblGet, Ne.symm h]
  | cons e r ih =>
    obtain ⟨a, x⟩ := e
    by_cases hk : k < a
    · simp [tblInsert, tblGet, hk, Ne.symm h]
    · by_cases ha : a = j
      · subst ha
        simp [tblInsert, tblGet, hk]
      · simp [tblInsert, tblGet, hk, ha, ih]

variable [DecidableEq α]

/-- A written key reads as written. -/
@[simp] theorem tblGet_set_same (d : α) (t : List (Nat × α)) (k : Nat) (v : α) : tblGet d (tblSet d t k v) k = v := by
  unfold tblSet
  by_cases h : v = d
  · simp [h, tblGet_erase_same]
  · simp only [h, if_false]
    exact tblGet_insert_same d _ k v (tblErase_no_key t k)

/-- The other keys read as before, under any default. -/
theorem tblGet_set_other (d d' : α) (t : List (Nat × α)) {k j : Nat} (v : α) (h : j ≠ k) :
    tblGet d' (tblSet d t k v) j = tblGet d' t j := by
  unfold tblSet
  by_cases hv : v = d
  · simp [hv, tblGet_erase_other d' t h]
  · simp [hv, tblGet_insert_other d' _ v h, tblGet_erase_other d' t h]

/-! ### The canonical form -/

/-- The keys of a table are all above `k`. -/
def tblAbove (k : Nat) : List (Nat × α) → Bool
  | [] => true
  | (a, _) :: _ => decide (k < a)

omit [DecidableEq α] in
/-- A table is sorted when its tail is and lies above its head. -/
theorem tblSorted_cons (a : Nat) (x : α) (r : List (Nat × α)) :
    tblSorted ((a, x) :: r) = (tblAbove a r && tblSorted r) := by
  cases r with
  | nil => rfl
  | cons e r => rfl

omit [DecidableEq α] in
/-- In a sorted table above `k` every key is above `k`. -/
theorem tblAbove_all {t : List (Nat × α)} {k : Nat} (hs : tblSorted t = true) (ha : tblAbove k t = true) :
    ∀ e ∈ t, k < e.1 := by
  induction t generalizing k with
  | nil => intro e he; cases he
  | cons e r ih =>
    obtain ⟨a, x⟩ := e
    rw [tblSorted_cons] at hs
    simp only [Bool.and_eq_true] at hs
    have hka : k < a := by simpa [tblAbove] using ha
    intro e he
    rcases List.mem_cons.mp he with rfl | he
    · exact hka
    · exact Nat.lt_trans hka (ih hs.2 hs.1 e he)

omit [DecidableEq α] in
/-- A table all of whose keys are above `k` lies above `k`. -/
theorem tblAbove_of_all {t : List (Nat × α)} {k : Nat} (h : ∀ e ∈ t, k < e.1) : tblAbove k t = true := by
  cases t with
  | nil => rfl
  | cons e r => simpa [tblAbove] using h e (by simp)

omit [DecidableEq α] in
/-- What remains of a sorted table is sorted. -/
theorem tblSorted_sublist {t u : List (Nat × α)} (h : u.Sublist t) (hs : tblSorted t = true) : tblSorted u = true := by
  induction h with
  | slnil => rfl
  | cons e h ih =>
    obtain ⟨a, x⟩ := e
    rw [tblSorted_cons] at hs
    simp only [Bool.and_eq_true] at hs
    exact ih hs.2
  | @cons_cons l₁ l₂ e h ih =>
    obtain ⟨a, x⟩ := e
    rw [tblSorted_cons] at hs ⊢
    simp only [Bool.and_eq_true] at hs ⊢
    refine ⟨tblAbove_of_all fun e he => tblAbove_all hs.2 hs.1 e (h.subset he), ih hs.2⟩

omit [DecidableEq α] in
/-- Erasing keeps a sublist. -/
theorem tblErase_sublist (t : List (Nat × α)) (k : Nat) : (tblErase t k).Sublist t := by
  induction t with
  | nil => exact List.Sublist.slnil
  | cons e r ih =>
    obtain ⟨a, x⟩ := e
    by_cases h : a = k
    · simpa [tblErase, h] using ih.cons (a, x)
    · simpa [tblErase, h] using ih.cons_cons (a, x)

omit [DecidableEq α] in
/-- Putting a key that a sorted table lacks keeps it sorted. -/
theorem tblInsert_sorted {t : List (Nat × α)} (k : Nat) (v : α) (hs : tblSorted t = true) (h : ∀ e ∈ t, e.1 ≠ k) :
    tblSorted (tblInsert t k v) = true := by
  induction t with
  | nil => rfl
  | cons e r ih =>
    obtain ⟨a, x⟩ := e
    have hs' := hs
    rw [tblSorted_cons] at hs'
    simp only [Bool.and_eq_true] at hs'
    have hr : ∀ e ∈ r, e.1 ≠ k := fun e he => h e (by simp [he])
    by_cases hk : k < a
    · simp [tblInsert, hk, tblSorted, hs]
    · have hak : a < k := by
        have := h (a, x) (by simp)
        simp only [ne_eq] at this
        omega
      simp only [tblInsert, hk, if_false]
      rw [tblSorted_cons]
      simp only [Bool.and_eq_true]
      refine ⟨?_, ih hs'.2 hr⟩
      cases r with
      | nil => simpa [tblInsert, tblAbove] using hak
      | cons e r =>
        obtain ⟨b, y⟩ := e
        have hab : a < b := by simpa [tblAbove] using hs'.1
        by_cases hb : k < b
        · simpa [tblInsert, hb, tblAbove] using hak
        · simpa [tblInsert, hb, tblAbove] using hab

/-- A write keeps the keys rising. -/
theorem tblSet_sorted (d : α) {t : List (Nat × α)} (k : Nat) (v : α) (h : tblSorted t = true) :
    tblSorted (tblSet d t k v) = true := by
  have he := tblSorted_sublist (tblErase_sublist t k) h
  unfold tblSet
  by_cases hv : v = d
  · simpa [hv] using he
  · simpa [hv] using tblInsert_sorted k v he (tblErase_no_key t k)

omit [DecidableEq α] in
/-- A write of any value keeps the keys rising. -/
theorem tblPut_sorted {t : List (Nat × α)} (k : Nat) (v : α) (h : tblSorted t = true) : tblSorted (tblPut t k v) = true :=
  tblInsert_sorted k v (tblSorted_sublist (tblErase_sublist t k) h) (tblErase_no_key t k)

omit [DecidableEq α] in
/-- What a table holds after a key was put. -/
theorem mem_tblInsert {t : List (Nat × α)} {k : Nat} {v : α} {e : Nat × α} (h : e ∈ tblInsert t k v) :
    e = (k, v) ∨ e ∈ t := by
  induction t with
  | nil => simpa [tblInsert] using h
  | cons e' r ih =>
    obtain ⟨a, x⟩ := e'
    by_cases hk : k < a
    · simpa [tblInsert, hk] using h
    · simp only [tblInsert, hk, if_false, List.mem_cons] at h
      rcases h with rfl | h
      · exact Or.inr (by simp)
      · rcases ih h with h | h
        · exact Or.inl h
        · exact Or.inr (by simp [h])

/-- A write keeps the canonical form. -/
theorem tblSet_wf (d : α) {t : List (Nat × α)} (k : Nat) (v : α) (h : tblWf d t = true) : tblWf d (tblSet d t k v) = true := by
  simp only [tblWf, Bool.and_eq_true, List.all_eq_true, decide_eq_true_eq] at h ⊢
  refine ⟨tblSet_sorted d k v h.1, ?_⟩
  intro e he
  unfold tblSet at he
  by_cases hv : v = d
  · rw [if_pos hv] at he
    exact h.2 e ((tblErase_sublist t k).subset he)
  · rw [if_neg hv] at he
    rcases mem_tblInsert he with rfl | he
    · exact hv
    · exact h.2 e ((tblErase_sublist t k).subset he)

/-- A part of a table in canonical form is in canonical form. -/
theorem tblWf_filter (d : α) {t : List (Nat × α)} (p : Nat × α → Bool) (h : tblWf d t = true) :
    tblWf d (t.filter p) = true := by
  simp only [tblWf, Bool.and_eq_true, List.all_eq_true, decide_eq_true_eq] at h ⊢
  exact ⟨tblSorted_sublist List.filter_sublist h.1, fun e he => h.2 e (List.mem_filter.mp he).1⟩

end Sys2Proof.Machine
end

