-- ==== Sys2Proof/Laws/State.lean ====
section
/-! SUPPORT. Laws of the state: what each basic update leaves, field by field; reading a cell after it was written. -/

namespace Sys2Proof.Machine

/-! ### A cell is written -/

@[simp] theorem put_pending (s : State) (F : Fld) (i v : Nat) : (s.put F i v).pending = s.pending := rfl
@[simp] theorem put_mem (s : State) (F : Fld) (i v : Nat) : (s.put F i v).mem = s.mem := rfl
@[simp] theorem put_sram (s : State) (F : Fld) (i v : Nat) : (s.put F i v).sram = s.sram := rfl
@[simp] theorem put_bgReqs (s : State) (F : Fld) (i v : Nat) : (s.put F i v).bgReqs = s.bgReqs := rfl
@[simp] theorem put_bgGrants (s : State) (F : Fld) (i v : Nat) : (s.put F i v).bgGrants = s.bgGrants := rfl
@[simp] theorem put_drain (s : State) (F : Fld) (i v : Nat) : (s.put F i v).drain = s.drain := rfl
@[simp] theorem put_wtb (s : State) (F : Fld) (i v : Nat) : (s.put F i v).wtb = s.wtb := rfl
@[simp] theorem put_twins (s : State) (F : Fld) (i v : Nat) : (s.put F i v).twins = s.twins := rfl
@[simp] theorem put_passSlots (s : State) (F : Fld) (i v : Nat) : (s.put F i v).passSlots = s.passSlots := rfl
@[simp] theorem put_frames (s : State) (F : Fld) (i v : Nat) : (s.put F i v).frames = s.frames := rfl
@[simp] theorem put_queues (s : State) (F : Fld) (i v : Nat) : (s.put F i v).queues = s.queues := rfl
@[simp] theorem put_wires (s : State) (F : Fld) (i v : Nat) : (s.put F i v).wires = s.wires := rfl
@[simp] theorem put_fdb (s : State) (F : Fld) (i v : Nat) : (s.put F i v).fdb = s.fdb := rfl
@[simp] theorem put_directs (s : State) (F : Fld) (i v : Nat) : (s.put F i v).directs = s.directs := rfl
@[simp] theorem put_timed (s : State) (F : Fld) (i v : Nat) : (s.put F i v).timed = s.timed := rfl
@[simp] theorem put_txDone (s : State) (F : Fld) (i v : Nat) : (s.put F i v).txDone = s.txDone := rfl
@[simp] theorem put_hooked (s : State) (F : Fld) (i v : Nat) : (s.put F i v).hooked = s.hooked := rfl
@[simp] theorem put_hookIn (s : State) (F : Fld) (i v : Nat) : (s.put F i v).hookIn = s.hookIn := rfl
@[simp] theorem put_arriving (s : State) (F : Fld) (i v : Nat) : (s.put F i v).arriving = s.arriving := rfl
@[simp] theorem put_ctrRuns (s : State) (F : Fld) (i v : Nat) : (s.put F i v).ctrRuns = s.ctrRuns := rfl
@[simp] theorem put_corrRuns (s : State) (F : Fld) (i v : Nat) : (s.put F i v).corrRuns = s.corrRuns := rfl
@[simp] theorem put_passing (s : State) (F : Fld) (i v : Nat) : (s.put F i v).passing = s.passing := rfl
@[simp] theorem put_assembled (s : State) (F : Fld) (i v : Nat) : (s.put F i v).assembled = s.assembled := rfl
@[simp] theorem put_sliceReads (s : State) (F : Fld) (i v : Nat) : (s.put F i v).sliceReads = s.sliceReads := rfl
@[simp] theorem put_sliceIn (s : State) (F : Fld) (i v : Nat) : (s.put F i v).sliceIn = s.sliceIn := rfl
@[simp] theorem put_ttIn (s : State) (F : Fld) (i v : Nat) : (s.put F i v).ttIn = s.ttIn := rfl
@[simp] theorem put_flights (s : State) (F : Fld) (i v : Nat) : (s.put F i v).flights = s.flights := rfl
@[simp] theorem put_resvs (s : State) (F : Fld) (i v : Nat) : (s.put F i v).resvs = s.resvs := rfl
@[simp] theorem put_dir (s : State) (F : Fld) (i v : Nat) : (s.put F i v).dir = s.dir := rfl
@[simp] theorem put_dirReqs (s : State) (F : Fld) (i v : Nat) : (s.put F i v).dirReqs = s.dirReqs := rfl
@[simp] theorem put_dirRounds (s : State) (F : Fld) (i v : Nat) : (s.put F i v).dirRounds = s.dirRounds := rfl
@[simp] theorem put_ambTries (s : State) (F : Fld) (i v : Nat) : (s.put F i v).ambTries = s.ambTries := rfl
@[simp] theorem put_ttbReads (s : State) (F : Fld) (i v : Nat) : (s.put F i v).ttbReads = s.ttbReads := rfl
@[simp] theorem put_ttbRx (s : State) (F : Fld) (i v : Nat) : (s.put F i v).ttbRx = s.ttbRx := rfl
@[simp] theorem put_ttbSync (s : State) (F : Fld) (i v : Nat) : (s.put F i v).ttbSync = s.ttbSync := rfl
@[simp] theorem put_adc (s : State) (F : Fld) (i v : Nat) : (s.put F i v).adc = s.adc := rfl
@[simp] theorem put_logRecs (s : State) (F : Fld) (i v : Nat) : (s.put F i v).logRecs = s.logRecs := rfl
@[simp] theorem put_tlb (s : State) (F : Fld) (i v : Nat) : (s.put F i v).tlb = s.tlb := rfl
@[simp] theorem put_walkCache (s : State) (F : Fld) (i v : Nat) : (s.put F i v).walkCache = s.walkCache := rfl
@[simp] theorem put_walks (s : State) (F : Fld) (i v : Nat) : (s.put F i v).walks = s.walks := rfl
@[simp] theorem put_xltFaults (s : State) (F : Fld) (i v : Nat) : (s.put F i v).xltFaults = s.xltFaults := rfl
@[simp] theorem put_trbWait (s : State) (F : Fld) (i v : Nat) : (s.put F i v).trbWait = s.trbWait := rfl
@[simp] theorem put_trbQueue (s : State) (F : Fld) (i v : Nat) : (s.put F i v).trbQueue = s.trbQueue := rfl
@[simp] theorem put_trbNow (s : State) (F : Fld) (i v : Nat) : (s.put F i v).trbNow = s.trbNow := rfl
@[simp] theorem put_trbDone (s : State) (F : Fld) (i v : Nat) : (s.put F i v).trbDone = s.trbDone := rfl
@[simp] theorem put_fetched (s : State) (F : Fld) (i v : Nat) : (s.put F i v).fetched = s.fetched := rfl
@[simp] theorem put_cmds (s : State) (F : Fld) (i v : Nat) : (s.put F i v).cmds = s.cmds := rfl
@[simp] theorem put_replies (s : State) (F : Fld) (i v : Nat) : (s.put F i v).replies = s.replies := rfl
@[simp] theorem put_staged (s : State) (F : Fld) (i v : Nat) : (s.put F i v).staged = s.staged := rfl
@[simp] theorem put_ldgWait (s : State) (F : Fld) (i v : Nat) : (s.put F i v).ldgWait = s.ldgWait := rfl
@[simp] theorem put_journal (s : State) (F : Fld) (i v : Nat) : (s.put F i v).journal = s.journal := rfl
@[simp] theorem put_anchors (s : State) (F : Fld) (i v : Nat) : (s.put F i v).anchors = s.anchors := rfl
@[simp] theorem put_dirCopies (s : State) (F : Fld) (i v : Nat) : (s.put F i v).dirCopies = s.dirCopies := rfl
@[simp] theorem put_ownerRec (s : State) (F : Fld) (i v : Nat) : (s.put F i v).ownerRec = s.ownerRec := rfl
@[simp] theorem put_rootKeys (s : State) (F : Fld) (i v : Nat) : (s.put F i v).rootKeys = s.rootKeys := rfl
@[simp] theorem put_caks (s : State) (F : Fld) (i v : Nat) : (s.put F i v).caks = s.caks := rfl
@[simp] theorem put_saKeys (s : State) (F : Fld) (i v : Nat) : (s.put F i v).saKeys = s.saKeys := rfl
@[simp] theorem put_mkas (s : State) (F : Fld) (i v : Nat) : (s.put F i v).mkas = s.mkas := rfl
@[simp] theorem put_powers (s : State) (F : Fld) (i v : Nat) : (s.put F i v).powers = s.powers := rfl
@[simp] theorem put_events (s : State) (F : Fld) (i v : Nat) : (s.put F i v).events = s.events := rfl
@[simp] theorem put_out (s : State) (F : Fld) (i v : Nat) : (s.put F i v).out = s.out := rfl
@[simp] theorem put_freeCtr (s : State) (F : Fld) (i v : Nat) : (s.put F i v).freeCtr = s.freeCtr := rfl

/-! ### Something leaves the part -/

@[simp] theorem emit_pending (s : State) (o : Output) : (s.emit o).pending = s.pending := rfl
@[simp] theorem emit_cells (s : State) (o : Output) : (s.emit o).cells = s.cells := rfl
@[simp] theorem emit_mem (s : State) (o : Output) : (s.emit o).mem = s.mem := rfl
@[simp] theorem emit_sram (s : State) (o : Output) : (s.emit o).sram = s.sram := rfl
@[simp] theorem emit_bgReqs (s : State) (o : Output) : (s.emit o).bgReqs = s.bgReqs := rfl
@[simp] theorem emit_bgGrants (s : State) (o : Output) : (s.emit o).bgGrants = s.bgGrants := rfl
@[simp] theorem emit_drain (s : State) (o : Output) : (s.emit o).drain = s.drain := rfl
@[simp] theorem emit_wtb (s : State) (o : Output) : (s.emit o).wtb = s.wtb := rfl
@[simp] theorem emit_twins (s : State) (o : Output) : (s.emit o).twins = s.twins := rfl
@[simp] theorem emit_passSlots (s : State) (o : Output) : (s.emit o).passSlots = s.passSlots := rfl
@[simp] theorem emit_frames (s : State) (o : Output) : (s.emit o).frames = s.frames := rfl
@[simp] theorem emit_queues (s : State) (o : Output) : (s.emit o).queues = s.queues := rfl
@[simp] theorem emit_wires (s : State) (o : Output) : (s.emit o).wires = s.wires := rfl
@[simp] theorem emit_fdb (s : State) (o : Output) : (s.emit o).fdb = s.fdb := rfl
@[simp] theorem emit_directs (s : State) (o : Output) : (s.emit o).directs = s.directs := rfl
@[simp] theorem emit_timed (s : State) (o : Output) : (s.emit o).timed = s.timed := rfl
@[simp] theorem emit_txDone (s : State) (o : Output) : (s.emit o).txDone = s.txDone := rfl
@[simp] theorem emit_hooked (s : State) (o : Output) : (s.emit o).hooked = s.hooked := rfl
@[simp] theorem emit_hookIn (s : State) (o : Output) : (s.emit o).hookIn = s.hookIn := rfl
@[simp] theorem emit_arriving (s : State) (o : Output) : (s.emit o).arriving = s.arriving := rfl
@[simp] theorem emit_ctrRuns (s : State) (o : Output) : (s.emit o).ctrRuns = s.ctrRuns := rfl
@[simp] theorem emit_corrRuns (s : State) (o : Output) : (s.emit o).corrRuns = s.corrRuns := rfl
@[simp] theorem emit_passing (s : State) (o : Output) : (s.emit o).passing = s.passing := rfl
@[simp] theorem emit_assembled (s : State) (o : Output) : (s.emit o).assembled = s.assembled := rfl
@[simp] theorem emit_sliceReads (s : State) (o : Output) : (s.emit o).sliceReads = s.sliceReads := rfl
@[simp] theorem emit_sliceIn (s : State) (o : Output) : (s.emit o).sliceIn = s.sliceIn := rfl
@[simp] theorem emit_ttIn (s : State) (o : Output) : (s.emit o).ttIn = s.ttIn := rfl
@[simp] theorem emit_flights (s : State) (o : Output) : (s.emit o).flights = s.flights := rfl
@[simp] theorem emit_resvs (s : State) (o : Output) : (s.emit o).resvs = s.resvs := rfl
@[simp] theorem emit_dir (s : State) (o : Output) : (s.emit o).dir = s.dir := rfl
@[simp] theorem emit_dirReqs (s : State) (o : Output) : (s.emit o).dirReqs = s.dirReqs := rfl
@[simp] theorem emit_dirRounds (s : State) (o : Output) : (s.emit o).dirRounds = s.dirRounds := rfl
@[simp] theorem emit_ambTries (s : State) (o : Output) : (s.emit o).ambTries = s.ambTries := rfl
@[simp] theorem emit_ttbReads (s : State) (o : Output) : (s.emit o).ttbReads = s.ttbReads := rfl
@[simp] theorem emit_ttbRx (s : State) (o : Output) : (s.emit o).ttbRx = s.ttbRx := rfl
@[simp] theorem emit_ttbSync (s : State) (o : Output) : (s.emit o).ttbSync = s.ttbSync := rfl
@[simp] theorem emit_adc (s : State) (o : Output) : (s.emit o).adc = s.adc := rfl
@[simp] theorem emit_logRecs (s : State) (o : Output) : (s.emit o).logRecs = s.logRecs := rfl
@[simp] theorem emit_tlb (s : State) (o : Output) : (s.emit o).tlb = s.tlb := rfl
@[simp] theorem emit_walkCache (s : State) (o : Output) : (s.emit o).walkCache = s.walkCache := rfl
@[simp] theorem emit_walks (s : State) (o : Output) : (s.emit o).walks = s.walks := rfl
@[simp] theorem emit_xltFaults (s : State) (o : Output) : (s.emit o).xltFaults = s.xltFaults := rfl
@[simp] theorem emit_trbWait (s : State) (o : Output) : (s.emit o).trbWait = s.trbWait := rfl
@[simp] theorem emit_trbQueue (s : State) (o : Output) : (s.emit o).trbQueue = s.trbQueue := rfl
@[simp] theorem emit_trbNow (s : State) (o : Output) : (s.emit o).trbNow = s.trbNow := rfl
@[simp] theorem emit_trbDone (s : State) (o : Output) : (s.emit o).trbDone = s.trbDone := rfl
@[simp] theorem emit_fetched (s : State) (o : Output) : (s.emit o).fetched = s.fetched := rfl
@[simp] theorem emit_cmds (s : State) (o : Output) : (s.emit o).cmds = s.cmds := rfl
@[simp] theorem emit_replies (s : State) (o : Output) : (s.emit o).replies = s.replies := rfl
@[simp] theorem emit_staged (s : State) (o : Output) : (s.emit o).staged = s.staged := rfl
@[simp] theorem emit_ldgWait (s : State) (o : Output) : (s.emit o).ldgWait = s.ldgWait := rfl
@[simp] theorem emit_journal (s : State) (o : Output) : (s.emit o).journal = s.journal := rfl
@[simp] theorem emit_anchors (s : State) (o : Output) : (s.emit o).anchors = s.anchors := rfl
@[simp] theorem emit_dirCopies (s : State) (o : Output) : (s.emit o).dirCopies = s.dirCopies := rfl
@[simp] theorem emit_ownerRec (s : State) (o : Output) : (s.emit o).ownerRec = s.ownerRec := rfl
@[simp] theorem emit_rootKeys (s : State) (o : Output) : (s.emit o).rootKeys = s.rootKeys := rfl
@[simp] theorem emit_caks (s : State) (o : Output) : (s.emit o).caks = s.caks := rfl
@[simp] theorem emit_saKeys (s : State) (o : Output) : (s.emit o).saKeys = s.saKeys := rfl
@[simp] theorem emit_mkas (s : State) (o : Output) : (s.emit o).mkas = s.mkas := rfl
@[simp] theorem emit_powers (s : State) (o : Output) : (s.emit o).powers = s.powers := rfl
@[simp] theorem emit_events (s : State) (o : Output) : (s.emit o).events = s.events := rfl
@[simp] theorem emit_freeCtr (s : State) (o : Output) : (s.emit o).freeCtr = s.freeCtr := rfl

/-! ### A free value is used -/

@[simp] theorem used_pending (s : State) : (s.used).pending = s.pending := rfl
@[simp] theorem used_cells (s : State) : (s.used).cells = s.cells := rfl
@[simp] theorem used_mem (s : State) : (s.used).mem = s.mem := rfl
@[simp] theorem used_sram (s : State) : (s.used).sram = s.sram := rfl
@[simp] theorem used_bgReqs (s : State) : (s.used).bgReqs = s.bgReqs := rfl
@[simp] theorem used_bgGrants (s : State) : (s.used).bgGrants = s.bgGrants := rfl
@[simp] theorem used_drain (s : State) : (s.used).drain = s.drain := rfl
@[simp] theorem used_wtb (s : State) : (s.used).wtb = s.wtb := rfl
@[simp] theorem used_twins (s : State) : (s.used).twins = s.twins := rfl
@[simp] theorem used_passSlots (s : State) : (s.used).passSlots = s.passSlots := rfl
@[simp] theorem used_frames (s : State) : (s.used).frames = s.frames := rfl
@[simp] theorem used_queues (s : State) : (s.used).queues = s.queues := rfl
@[simp] theorem used_wires (s : State) : (s.used).wires = s.wires := rfl
@[simp] theorem used_fdb (s : State) : (s.used).fdb = s.fdb := rfl
@[simp] theorem used_directs (s : State) : (s.used).directs = s.directs := rfl
@[simp] theorem used_timed (s : State) : (s.used).timed = s.timed := rfl
@[simp] theorem used_txDone (s : State) : (s.used).txDone = s.txDone := rfl
@[simp] theorem used_hooked (s : State) : (s.used).hooked = s.hooked := rfl
@[simp] theorem used_hookIn (s : State) : (s.used).hookIn = s.hookIn := rfl
@[simp] theorem used_arriving (s : State) : (s.used).arriving = s.arriving := rfl
@[simp] theorem used_ctrRuns (s : State) : (s.used).ctrRuns = s.ctrRuns := rfl
@[simp] theorem used_corrRuns (s : State) : (s.used).corrRuns = s.corrRuns := rfl
@[simp] theorem used_passing (s : State) : (s.used).passing = s.passing := rfl
@[simp] theorem used_assembled (s : State) : (s.used).assembled = s.assembled := rfl
@[simp] theorem used_sliceReads (s : State) : (s.used).sliceReads = s.sliceReads := rfl
@[simp] theorem used_sliceIn (s : State) : (s.used).sliceIn = s.sliceIn := rfl
@[simp] theorem used_ttIn (s : State) : (s.used).ttIn = s.ttIn := rfl
@[simp] theorem used_flights (s : State) : (s.used).flights = s.flights := rfl
@[simp] theorem used_resvs (s : State) : (s.used).resvs = s.resvs := rfl
@[simp] theorem used_dir (s : State) : (s.used).dir = s.dir := rfl
@[simp] theorem used_dirReqs (s : State) : (s.used).dirReqs = s.dirReqs := rfl
@[simp] theorem used_dirRounds (s : State) : (s.used).dirRounds = s.dirRounds := rfl
@[simp] theorem used_ambTries (s : State) : (s.used).ambTries = s.ambTries := rfl
@[simp] theorem used_ttbReads (s : State) : (s.used).ttbReads = s.ttbReads := rfl
@[simp] theorem used_ttbRx (s : State) : (s.used).ttbRx = s.ttbRx := rfl
@[simp] theorem used_ttbSync (s : State) : (s.used).ttbSync = s.ttbSync := rfl
@[simp] theorem used_adc (s : State) : (s.used).adc = s.adc := rfl
@[simp] theorem used_logRecs (s : State) : (s.used).logRecs = s.logRecs := rfl
@[simp] theorem used_tlb (s : State) : (s.used).tlb = s.tlb := rfl
@[simp] theorem used_walkCache (s : State) : (s.used).walkCache = s.walkCache := rfl
@[simp] theorem used_walks (s : State) : (s.used).walks = s.walks := rfl
@[simp] theorem used_xltFaults (s : State) : (s.used).xltFaults = s.xltFaults := rfl
@[simp] theorem used_trbWait (s : State) : (s.used).trbWait = s.trbWait := rfl
@[simp] theorem used_trbQueue (s : State) : (s.used).trbQueue = s.trbQueue := rfl
@[simp] theorem used_trbNow (s : State) : (s.used).trbNow = s.trbNow := rfl
@[simp] theorem used_trbDone (s : State) : (s.used).trbDone = s.trbDone := rfl
@[simp] theorem used_fetched (s : State) : (s.used).fetched = s.fetched := rfl
@[simp] theorem used_cmds (s : State) : (s.used).cmds = s.cmds := rfl
@[simp] theorem used_replies (s : State) : (s.used).replies = s.replies := rfl
@[simp] theorem used_staged (s : State) : (s.used).staged = s.staged := rfl
@[simp] theorem used_ldgWait (s : State) : (s.used).ldgWait = s.ldgWait := rfl
@[simp] theorem used_journal (s : State) : (s.used).journal = s.journal := rfl
@[simp] theorem used_anchors (s : State) : (s.used).anchors = s.anchors := rfl
@[simp] theorem used_dirCopies (s : State) : (s.used).dirCopies = s.dirCopies := rfl
@[simp] theorem used_ownerRec (s : State) : (s.used).ownerRec = s.ownerRec := rfl
@[simp] theorem used_rootKeys (s : State) : (s.used).rootKeys = s.rootKeys := rfl
@[simp] theorem used_caks (s : State) : (s.used).caks = s.caks := rfl
@[simp] theorem used_saKeys (s : State) : (s.used).saKeys = s.saKeys := rfl
@[simp] theorem used_mkas (s : State) : (s.used).mkas = s.mkas := rfl
@[simp] theorem used_powers (s : State) : (s.used).powers = s.powers := rfl
@[simp] theorem used_events (s : State) : (s.used).events = s.events := rfl
@[simp] theorem used_out (s : State) : (s.used).out = s.out := rfl

/-! ### A byte is written -/

@[simp] theorem putByte_pending (s : State) (a : Nat) (b : Byte) : (s.putByte a b).pending = s.pending := rfl
@[simp] theorem putByte_cells (s : State) (a : Nat) (b : Byte) : (s.putByte a b).cells = s.cells := rfl
@[simp] theorem putByte_sram (s : State) (a : Nat) (b : Byte) : (s.putByte a b).sram = s.sram := rfl
@[simp] theorem putByte_bgReqs (s : State) (a : Nat) (b : Byte) : (s.putByte a b).bgReqs = s.bgReqs := rfl
@[simp] theorem putByte_bgGrants (s : State) (a : Nat) (b : Byte) : (s.putByte a b).bgGrants = s.bgGrants := rfl
@[simp] theorem putByte_drain (s : State) (a : Nat) (b : Byte) : (s.putByte a b).drain = s.drain := rfl
@[simp] theorem putByte_wtb (s : State) (a : Nat) (b : Byte) : (s.putByte a b).wtb = s.wtb := rfl
@[simp] theorem putByte_twins (s : State) (a : Nat) (b : Byte) : (s.putByte a b).twins = s.twins := rfl
@[simp] theorem putByte_passSlots (s : State) (a : Nat) (b : Byte) : (s.putByte a b).passSlots = s.passSlots := rfl
@[simp] theorem putByte_frames (s : State) (a : Nat) (b : Byte) : (s.putByte a b).frames = s.frames := rfl
@[simp] theorem putByte_queues (s : State) (a : Nat) (b : Byte) : (s.putByte a b).queues = s.queues := rfl
@[simp] theorem putByte_wires (s : State) (a : Nat) (b : Byte) : (s.putByte a b).wires = s.wires := rfl
@[simp] theorem putByte_fdb (s : State) (a : Nat) (b : Byte) : (s.putByte a b).fdb = s.fdb := rfl
@[simp] theorem putByte_directs (s : State) (a : Nat) (b : Byte) : (s.putByte a b).directs = s.directs := rfl
@[simp] theorem putByte_timed (s : State) (a : Nat) (b : Byte) : (s.putByte a b).timed = s.timed := rfl
@[simp] theorem putByte_txDone (s : State) (a : Nat) (b : Byte) : (s.putByte a b).txDone = s.txDone := rfl
@[simp] theorem putByte_hooked (s : State) (a : Nat) (b : Byte) : (s.putByte a b).hooked = s.hooked := rfl
@[simp] theorem putByte_hookIn (s : State) (a : Nat) (b : Byte) : (s.putByte a b).hookIn = s.hookIn := rfl
@[simp] theorem putByte_arriving (s : State) (a : Nat) (b : Byte) : (s.putByte a b).arriving = s.arriving := rfl
@[simp] theorem putByte_ctrRuns (s : State) (a : Nat) (b : Byte) : (s.putByte a b).ctrRuns = s.ctrRuns := rfl
@[simp] theorem putByte_corrRuns (s : State) (a : Nat) (b : Byte) : (s.putByte a b).corrRuns = s.corrRuns := rfl
@[simp] theorem putByte_passing (s : State) (a : Nat) (b : Byte) : (s.putByte a b).passing = s.passing := rfl
@[simp] theorem putByte_assembled (s : State) (a : Nat) (b : Byte) : (s.putByte a b).assembled = s.assembled := rfl
@[simp] theorem putByte_sliceReads (s : State) (a : Nat) (b : Byte) : (s.putByte a b).sliceReads = s.sliceReads := rfl
@[simp] theorem putByte_sliceIn (s : State) (a : Nat) (b : Byte) : (s.putByte a b).sliceIn = s.sliceIn := rfl
@[simp] theorem putByte_ttIn (s : State) (a : Nat) (b : Byte) : (s.putByte a b).ttIn = s.ttIn := rfl
@[simp] theorem putByte_flights (s : State) (a : Nat) (b : Byte) : (s.putByte a b).flights = s.flights := rfl
@[simp] theorem putByte_dirReqs (s : State) (a : Nat) (b : Byte) : (s.putByte a b).dirReqs = s.dirReqs := rfl
@[simp] theorem putByte_dirRounds (s : State) (a : Nat) (b : Byte) : (s.putByte a b).dirRounds = s.dirRounds := rfl
@[simp] theorem putByte_ambTries (s : State) (a : Nat) (b : Byte) : (s.putByte a b).ambTries = s.ambTries := rfl
@[simp] theorem putByte_ttbReads (s : State) (a : Nat) (b : Byte) : (s.putByte a b).ttbReads = s.ttbReads := rfl
@[simp] theorem putByte_ttbRx (s : State) (a : Nat) (b : Byte) : (s.putByte a b).ttbRx = s.ttbRx := rfl
@[simp] theorem putByte_ttbSync (s : State) (a : Nat) (b : Byte) : (s.putByte a b).ttbSync = s.ttbSync := rfl
@[simp] theorem putByte_adc (s : State) (a : Nat) (b : Byte) : (s.putByte a b).adc = s.adc := rfl
@[simp] theorem putByte_logRecs (s : State) (a : Nat) (b : Byte) : (s.putByte a b).logRecs = s.logRecs := rfl
@[simp] theorem putByte_tlb (s : State) (a : Nat) (b : Byte) : (s.putByte a b).tlb = s.tlb := rfl
@[simp] theorem putByte_walkCache (s : State) (a : Nat) (b : Byte) : (s.putByte a b).walkCache = s.walkCache := rfl
@[simp] theorem putByte_walks (s : State) (a : Nat) (b : Byte) : (s.putByte a b).walks = s.walks := rfl
@[simp] theorem putByte_xltFaults (s : State) (a : Nat) (b : Byte) : (s.putByte a b).xltFaults = s.xltFaults := rfl
@[simp] theorem putByte_trbWait (s : State) (a : Nat) (b : Byte) : (s.putByte a b).trbWait = s.trbWait := rfl
@[simp] theorem putByte_trbQueue (s : State) (a : Nat) (b : Byte) : (s.putByte a b).trbQueue = s.trbQueue := rfl
@[simp] theorem putByte_trbNow (s : State) (a : Nat) (b : Byte) : (s.putByte a b).trbNow = s.trbNow := rfl
@[simp] theorem putByte_trbDone (s : State) (a : Nat) (b : Byte) : (s.putByte a b).trbDone = s.trbDone := rfl
@[simp] theorem putByte_fetched (s : State) (a : Nat) (b : Byte) : (s.putByte a b).fetched = s.fetched := rfl
@[simp] theorem putByte_cmds (s : State) (a : Nat) (b : Byte) : (s.putByte a b).cmds = s.cmds := rfl
@[simp] theorem putByte_replies (s : State) (a : Nat) (b : Byte) : (s.putByte a b).replies = s.replies := rfl
@[simp] theorem putByte_staged (s : State) (a : Nat) (b : Byte) : (s.putByte a b).staged = s.staged := rfl
@[simp] theorem putByte_ldgWait (s : State) (a : Nat) (b : Byte) : (s.putByte a b).ldgWait = s.ldgWait := rfl
@[simp] theorem putByte_journal (s : State) (a : Nat) (b : Byte) : (s.putByte a b).journal = s.journal := rfl
@[simp] theorem putByte_anchors (s : State) (a : Nat) (b : Byte) : (s.putByte a b).anchors = s.anchors := rfl
@[simp] theorem putByte_dirCopies (s : State) (a : Nat) (b : Byte) : (s.putByte a b).dirCopies = s.dirCopies := rfl
@[simp] theorem putByte_ownerRec (s : State) (a : Nat) (b : Byte) : (s.putByte a b).ownerRec = s.ownerRec := rfl
@[simp] theorem putByte_rootKeys (s : State) (a : Nat) (b : Byte) : (s.putByte a b).rootKeys = s.rootKeys := rfl
@[simp] theorem putByte_caks (s : State) (a : Nat) (b : Byte) : (s.putByte a b).caks = s.caks := rfl
@[simp] theorem putByte_saKeys (s : State) (a : Nat) (b : Byte) : (s.putByte a b).saKeys = s.saKeys := rfl
@[simp] theorem putByte_mkas (s : State) (a : Nat) (b : Byte) : (s.putByte a b).mkas = s.mkas := rfl
@[simp] theorem putByte_powers (s : State) (a : Nat) (b : Byte) : (s.putByte a b).powers = s.powers := rfl
@[simp] theorem putByte_events (s : State) (a : Nat) (b : Byte) : (s.putByte a b).events = s.events := rfl
@[simp] theorem putByte_out (s : State) (a : Nat) (b : Byte) : (s.putByte a b).out = s.out := rfl
@[simp] theorem putByte_freeCtr (s : State) (a : Nat) (b : Byte) : (s.putByte a b).freeCtr = s.freeCtr := rfl

/-! ### Cells -/

/-- Different cells have different keys. -/
theorem cellKey_ne {F G : Fld} {i j : Nat} (h : F.id % 4096 ≠ G.id % 4096 ∨ i ≠ j) : cellKey F i ≠ cellKey G j := by
  unfold cellKey
  omega

/-- A written cell reads as written, within its width. -/
@[simp] theorem get_put_same (s : State) (F : Fld) (i v : Nat) : (s.put F i v).get F i = v % 2 ^ F.w :=
  tblGet_set_same _ _ _ _

/-- Another cell reads as before. -/
theorem get_put_other (s : State) {F G : Fld} {i j : Nat} (v : Nat) (h : cellKey G j ≠ cellKey F i) :
    (s.put F i v).get G j = s.get G j :=
  tblGet_set_other _ _ _ _ h

/-- A cell of another field reads as before. -/
theorem get_put_field (s : State) {F G : Fld} (i j v : Nat) (h : G.id % 4096 ≠ F.id % 4096) :
    (s.put F i v).get G j = s.get G j :=
  get_put_other s v (cellKey_ne (Or.inl h))

/-- Another copy of the field reads as before. -/
theorem get_put_copy (s : State) (F : Fld) {i j : Nat} (v : Nat) (h : j ≠ i) : (s.put F i v).get F j = s.get F j :=
  get_put_other s v (cellKey_ne (Or.inr h))

/-- A written flag reads as written, for a field of one bit. -/
theorem flag_putFlag_same (s : State) (F : Fld) (i : Nat) (b : Bool) (h : F.w = 1) : (s.putFlag F i b).flag F i = b := by
  cases b <;> simp [State.flag, State.putFlag, h]

@[simp] theorem get_emit (s : State) (o : Output) (F : Fld) (i : Nat) : (s.emit o).get F i = s.get F i := rfl
@[simp] theorem get_used (s : State) (F : Fld) (i : Nat) : s.used.get F i = s.get F i := rfl
@[simp] theorem get_putByte (s : State) (a : Nat) (b : Byte) (F : Fld) (i : Nat) : (s.putByte a b).get F i = s.get F i := rfl

/-- A cleared cell reads as after a cold reset. -/
theorem get_clear (s : State) (F : Fld) (i : Nat) (h : F.cold < 2 ^ F.w) : (s.clear F i).get F i = F.cold := by
  simp [State.clear, Nat.mod_eq_of_lt h]

/-! ### Bytes -/

/-- A written byte reads as written. -/
@[simp] theorem byte_putByte_same (s : State) (a : Nat) (b : Byte) : (s.putByte a b).byte a = b :=
  tblGet_set_same _ _ _ _

/-- Every other byte reads as before. -/
theorem byte_putByte_other (s : State) {a c : Nat} (b : Byte) (h : c ≠ a) : (s.putByte a b).byte c = s.byte c :=
  tblGet_set_other _ _ _ _ h

@[simp] theorem byte_put (s : State) (F : Fld) (i v a : Nat) : (s.put F i v).byte a = s.byte a := rfl

/-- Bytes outside a written run read as before. -/
theorem byte_putBytes_other (bs : List Byte) (s : State) {a c : Nat} (h : c < a ∨ a + bs.length ≤ c) :
    (s.putBytes a bs).byte c = s.byte c := by
  induction bs generalizing s a with
  | nil => rfl
  | cons b bs ih =>
    simp only [List.length_cons] at h
    rw [State.putBytes, ih _ (by omega), byte_putByte_other _ _ (by omega)]

/-- A written byte of a run reads as written. -/
theorem byte_putBytes_in (bs : List Byte) (s : State) (a k : Nat) (h : k < bs.length) :
    (s.putBytes a bs).byte (a + k) = bs[k] := by
  induction bs generalizing s a k with
  | nil => cases h
  | cons b bs ih =>
    rw [State.putBytes]
    cases k with
    | zero =>
      rw [byte_putBytes_other _ _ (by omega)]
      exact byte_putByte_same s a b
    | succ k =>
      have := ih (s.putByte a b) (a + 1) k (by simpa using h)
      simpa [Nat.add_assoc, Nat.add_comm, Nat.add_left_comm] using this

/-! ### The canonical form of the memories -/

theorem putByte_wf (s : State) (a : Nat) (b : Byte) (h : Memory.wf s.mem = true) : Memory.wf (s.putByte a b).mem = true :=
  tblSet_wf _ _ _ h

theorem putBytes_wf (bs : List Byte) (s : State) (a : Nat) (h : Memory.wf s.mem = true) :
    Memory.wf (s.putBytes a bs).mem = true := by
  induction bs generalizing s a with
  | nil => exact h
  | cons b bs ih => exact ih _ _ (putByte_wf _ _ _ h)

theorem putSram_sorted (bs : List Byte) (s : State) (a : Nat) (h : tblSorted s.sram = true) :
    tblSorted (s.putSram a bs).sram = true := by
  induction bs generalizing s a with
  | nil => exact h
  | cons b bs ih => exact ih _ _ (tblPut_sorted _ _ h)

theorem put_sorted (s : State) (F : Fld) (i v : Nat) (h : tblSorted s.cells = true) :
    tblSorted (s.put F i v).cells = true :=
  tblSet_sorted _ _ _ h

theorem reset_memory_wf : Memory.wf State.reset.mem = true := rfl

end Sys2Proof.Machine
end

