-- ==== Sys2Proof/WellFormed.lean ====
section
/-! DEFINITION. The commands that the outside can send: bounds that the operands' types do not carry. A command that is not
well-formed has a meaning all the same; no hardware sends it. -/

namespace Sys2Proof

/-- A received frame: its instants fit their counters, and no more octets had crossed than it has, with the 8 of its preamble. -/
def RxFrame.wellFormed (r : RxFrame) : Bool :=
  decide (r.age < 2 ^ 24) && decide (r.phase < 2 ^ 16) && decide (r.crossed ≤ r.bytes.length + 8)

/-- A frame of the arbitrated message bus: a remote frame carries no data, a classic one at most 8 bytes, any at most 64. -/
def AmbFrame.wellFormed (f : AmbFrame) : Bool :=
  decide (f.data.length ≤ (if f.rtr then 0 else if f.fdf then 64 else 8))

def AmbRx.wellFormed : AmbRx → Bool
  | .frame f => f.wellFormed
  | .error _ _ => true
  | .bits _ f _ _ => f.wellFormed

/-- A frame of the time-triggered bus: a payload of at most 127 16-bit words. -/
def TtbFrame.wellFormed (f : TtbFrame) : Bool := decide (f.payload.length ≤ 254) && f.payload.length % 2 == 0

/-- The list holds no element twice. -/
def distinct {α : Type} [BEq α] : List α → Bool
  | [] => true
  | x :: xs => !xs.contains x && distinct xs

/-- The bounds of the rows whose operands' types leave some open. -/
def Instr.wellFormed : Instr → Bool
  | .timeBaseTick n => decide (0 < n)
  | .soundboardWrite _ off bs => decide (0 < bs.length) && decide (off.toNat + bs.length ≤ 2 ^ 26)
  | .frameReceive r => r.wellFormed
  | .scanResponse _ r => r.wellFormed
  | .directoryRequest _ rs => decide (0 < rs.length) && distinct (rs.map (fun r => r.1))
  | .ambIntegrationDone c => c.levels.length == 11
  | .clockCorrection _ fs offs rates => offs.length == fs.length && rates.length == fs.length
  | .ambFrameReceive _ r _ => r.wellFormed
  | .ttbFrameReceive _ _ _ f => f.wellFormed
  | .fioSampleWindow mv ua => mv.length == 32 && ua.length == 32
  | .adcSample _ codes => codes.length == 8
  | .chunkIssue (some bs) _ => decide (bs.length ≤ 512)
  | .descriptorFetch _ (some bs) => bs.length == 64
  | .transomWrite _ _ bs => decide (0 < bs.length) && decide (bs.length ≤ 512)
  | .railMeasure rails feeds _ => rails.length == 16 && feeds.length == 2
  | .mirrorFrameReceive _ _ slots => slots.all (fun x => x.1.length == 32)
  | _ => true

end Sys2Proof
end

