-- ==== Sys2Proof/Tests/Slice0.lean ====
section
/-! SUPPORT. Tests: the well-formedness checks refuse ill-formed commands, and for each statement states and operands that meet
its hypotheses. -/

namespace Sys2Proof.Tests

open Sys2Proof.Machine


/-- The register that an access names in the state after reset. -/
def regAt (a n : Nat) : RegInfo × Nat :=
  match named State.reset a n with
  | .whole r i => (r, i)
  | .lower r i => (r, i)
  | .upper r i => (r, i)
  | _ => (⟨0, "", 0, 0, [], []⟩, 0)


/-- A Course in RUN with a word at its PC, in code page 0, nothing enabled to interrupt it. -/
def onCore (k pc w : Nat) (s : State) : State :=
  { ((((((((((s.put CRS_STAT_STATE k 2).put CRS_ON k 1).put CORE_CP k 0).put CORE_PC k pc).put CORE_WAIT k 0).put CORE_BLOCK k 0).put
    CRS_EVT_EN_EN k 0).put CORE_MDBUSY k 0).put CORE_SLOT k 0).putSram (k * 0x8_0000 + 4 * pc) (toBytes 4 w)) with
    flights := [], ldgWait := [] }

/-- A Course with a word at its PC, its stack at 0x1000 of its memory, its vectors from 0x200, vector `i` valid, to page 1, PC 2. -/
def onStack (k pc w i : Nat) (s : State) : State :=
  ((((((((onCore k pc w s).put CORE_B (4 * k + 3) (8 * k)).put CORE_G (32 * k + 31) 0x1000).put CORE_SLIM k 0).put CORE_FLT k 0).put
    CORE_VBASE k 0x200).putSram (k * 0x8_0000 + 0x200 + 4 * i) (toBytes 4 0x80010002)).putSram (k * 0x8_0000 + 0x1000 - 24)
    (List.replicate 40 0))

/-- A ring that runs with a command at its front, of opcode `op`, its replies written through one translation. -/
def asks (r pa op flags tag : Nat) (ps : List Byte) (s : State) : State :=
  let u := ((((((s.put RST_BOOT_STAGE 0 5).put FATAL_PATH 0 0).put RST_CMD 0 0).put HIF_RING_STAT_STATE r 1).put RING_STS_HEAD r 0).put
    RING_STS_TAIL r 14).put HIF_RING_CTRL_LOG2 r 4
  let u := (u.put HIF_RING_STS_VA r (2 ^ 24 - 2 ^ 11)).put HIF_RING_WB_VA r (2 ^ 24 - 1)
  { u with fetched := [⟨r, tag, op, flags, ps, false⟩], tlb := [⟨u.get HIF_RING_OWN_CTX r, 2, 0, pa, true, true⟩], xltFaults := [], replies := [], cmds := [] }

/-- A VALID slot `k` with an image of `n` octets of which words are given, in rising order, and the others are zero; nothing else in memory. -/
def inSlot (k n : Nat) (ws : List (Nat × Nat)) (s : State) : State :=
  let word (a v : Nat) : List (Nat × Byte) := ((List.range 4).zip (toBytes 4 v)).filterMap (fun e => if e.2 = 0 then none else some (a + e.1, e.2))
  { s with mem := word (ldgByte (slotOff k)) 2 ++ word (ldgByte (slotOff k) + 4) n ++
      ws.flatMap (fun e => word (ldgByte (slotOff k) + 256 + 4 * e.1) e.2) }
theorem wit_QueueIsRun :
    (∃ (c : Instr) (rest : List Instr) (s : State), (s.pending = c :: rest)) ∧
    (∃ (s : State), (s.pending = [])) :=
  ⟨⟨.boundary, [.referenceLost], { State.reset with pending := [.boundary, .referenceLost] }, by decide +kernel⟩,
   ⟨State.reset, by decide +kernel⟩⟩

theorem wit_InvariantKept : ∃ s t : State, s.Inv ∧ step s = .next t :=
  ⟨State.reset, State.reset, by decide +kernel, rfl⟩

theorem wit_LockBitsStay :
    (∃ (c : Instr) (F : Fld) (i : Nat) (s : State), (mayReset c = false) ∧ (F ∈ lockFields) ∧ (s.get F i = 1)) ∧
    (∃ (c : Instr) (F : Fld) (_s : State), (mayReset c = false) ∧ (F ∈ identityFields)) ∧
    (∃ (F : Fld) (i : Nat) (s : State), (s.get RST_REQ 0 = 2) ∧ (s.get RST_CMD 0 = 0) ∧ (F ∈ lockFields) ∧ (s.get F i = 1)) ∧
    (∃ (F : Fld) (_i : Nat) (_s : State), (F ∈ lockFields)) :=
  ⟨⟨.boundary, MAC_CFG_LOCK, 31, State.reset.put MAC_CFG_LOCK 31 1, by decide +kernel⟩,
   ⟨.perstN, DEV_RES1_ADC_CHANNELS, State.reset, by decide +kernel⟩,
   ⟨RDN_CFG_LOCK, 0, ((((State.reset.put RDN_CFG_LOCK 0 1).put RST_REQ 0 2).put RST_CMD 0 0).put PWR_STAT_PF 0 0).put LDG_FLUSH_BUSY 0 0, by decide +kernel⟩,
   ⟨MAC_CFG_LOCK, 31, State.reset.put MAC_CFG_LOCK 31 1, by decide +kernel⟩⟩

theorem wit_RegisterWritesByAccessCode :
    (∃ (q : Requester) (_v : BitVec 64) (s : State), (s.permit q .registers 0x4010_0804 true = .yes)) ∧
    (∃ (q : Requester) (_v : BitVec 64) (s : State), (s.permit q .registers 0x4000_0020 true = .yes) ∧ (s.get DEV_LOCK_LOCK 0 = 0)) ∧
    (∃ (q : Requester) (_v : BitVec 64) (s : State), (s.permit q .registers 0x4000_0020 true = .yes) ∧ (s.get DEV_LOCK_LOCK 0 = 1)) ∧
    (∃ (q : Requester) (_v : BitVec 64) (s : State), (s.permit q .registers 0x4000_0000 true = .yes)) ∧
    (∃ (q : Requester) (_v : BitVec 64) (s : State), (s.permit q .registers 0x4040_0020 true = .yes) ∧ (s.get LIM_STAT_CHG_REJ 0 < 2) ∧ (s.get LIM_STAT_START_ERR 0 < 2)) ∧
    (∃ (q : Requester) (_v : BitVec 64) (s : State), (s.permit q .registers 0x4000_0024 true = .yes) ∧ (s.get DEV_LOCK_LOCK 0 = 0)) ∧
    (∃ (q : Requester) (_v : BitVec 64) (s : State), (s.permit q .registers 0x4000_0100 true = .yes)) ∧
    (∃ (q : Requester) (size : Fin 4) (_v : BitVec 64) (_s : State), (q = .cc ∨ q = .pcs ∨ q = .pf) ∧ (size ≠ 2)) ∧
    (∃ (q : Requester) (s : State), (s.permit q .registers 0x4000_0024 true = .yes)) :=
  ⟨⟨.cc, 0xFFFF_FFFF, State.reset, by decide +kernel⟩,
   ⟨.cc, 0xFFFF_FFFF, State.reset.put DEV_LOCK_LOCK 0 0, by decide +kernel⟩,
   ⟨.pf, 0x3F, State.reset.put DEV_LOCK_LOCK 0 1, by decide +kernel⟩,
   ⟨.pcs, 1, State.reset, by decide +kernel⟩,
   ⟨.cc, 0x60, (State.reset.put LIM_STAT_CHG_REJ 0 1).put LIM_STAT_START_ERR 0 1, by decide +kernel⟩,
   ⟨.cc, 1, State.reset.put DEV_LOCK_LOCK 0 0, by decide +kernel⟩,
   ⟨.cc, 1, State.reset, by decide +kernel⟩,
   ⟨.pf, 3, 7, State.reset, by decide +kernel⟩,
   ⟨.cc, State.reset, by decide +kernel⟩⟩

theorem wit_RegisterReadsAndHalves :
    (∃ (q : Requester) (a : BitVec 43) (size : Fin 4) (r : RegInfo) (i : Nat) (s : State), (a.toNat < 2 ^ 40) ∧ (regionOf a.toNat = .registers) ∧ (s.permit q .registers a.toNat false = .yes) ∧ (named s a.toNat (2 ^ size.val) = .whole r i) ∧ (r.num ≠ N_FRT_RXQ) ∧ (r.num ≠ N_MKC_SEQ_CNT)) ∧
    (∃ (q : Requester) (a : BitVec 43) (r : RegInfo) (i : Nat) (s : State), (a.toNat < 2 ^ 40) ∧ (regionOf a.toNat = .registers) ∧ (s.permit q .registers a.toNat false = .yes) ∧ (named s a.toNat 4 = .lower r i) ∧ (r.num ≠ N_FRT_RXQ) ∧ (r.num ≠ N_MKC_SEQ_CNT)) ∧
    (∃ (q : Requester) (a : BitVec 43) (r : RegInfo) (i : Nat) (s : State), (a.toNat + 4 < 2 ^ 40) ∧ (regionOf (a.toNat + 4) = .registers) ∧ (s.permit q .registers (a.toNat + 4) false = .yes) ∧ (named s (a.toNat + 4) 4 = .upper r i) ∧ (r.num ≠ N_FRT_RXQ) ∧ (r.num ≠ N_MKC_SEQ_CNT)) ∧
    (∃ (q : Requester) (_v : Word) (s : State), (s.permit q .registers 0x4070_0040 true = .yes)) ∧
    (∃ (q : Requester) (_v : Word) (s : State), (s.permit q .registers 0x4070_0044 true = .yes) ∧ (s.get TRK_SLICE_TAG_LOCK 0 = 0) ∧ (s.get TRK_SLICE_DA_DA 0 < 2 ^ 48) ∧ (s.get HALF_HELD_VAL q.num < 2 ^ 32)) ∧
    (∃ (_s : State) (_i : Nat) (_lo : Nat) (_hi : Nat) (Fs : List Fld), ((∀ F ∈ Fs, F.acc = .rc → F.cold = 0))) :=
  ⟨⟨.cc, 0x4030_1F50, 2, (regAt 0x4030_1F50 4).1, (regAt 0x4030_1F50 4).2, State.reset, by decide +kernel⟩,
   ⟨.cc, 0x4070_0040, (regAt 0x4070_0040 4).1, (regAt 0x4070_0040 4).2, State.reset, by decide +kernel⟩,
   ⟨.cc, 0x4070_0040, (regAt 0x4070_0044 4).1, (regAt 0x4070_0044 4).2, (State.reset.put HALF_CAP_ON 32 1).put HALF_CAP_ADDR 32 0x4070_0040, by decide +kernel⟩,
   ⟨.cc, 0xFFFF_FFFF, State.reset, by decide +kernel⟩,
   ⟨.cc, 0xFFFF_FFFF, ((((State.reset.put TRK_SLICE_TAG_LOCK 0 0).put HALF_HELD_ON 32 1).put HALF_HELD_ADDR 32 0x4070_0040).put HALF_HELD_VAL 32 0xFFFF_FFFF).put TRK_SLICE_DA_DA 0 7, by decide +kernel⟩,
   ⟨State.reset, 15, 0, 64, [TMB_DOM_CNT0_ACCEPTED, TMB_DOM_CNT0_REJECTED], by decide +kernel⟩⟩

theorem wit_ClockReferenceEvents :
    (∃ (s : State), (s.get CLK_STAT_REF_OK 0 = 1) ∧ (s.get CLK_STAT_BACKUP_OSC 0 = 0)) ∧
    (∃ (s : State), (s.get CLK_STAT_REF_OK 0 = 0) ∧ (s.get CLK_STAT_HOLDOVER 0 = 1)) ∧
    (∃ (s : State), (s.get CLK_STAT_HOLDOVER 0 = 1) ∧ (s.get FATAL_PATH 0 = 0) ∧ (s.get CLK_LOST_AT 0 + max 1 (s.get CLK_HOLD_LIMIT_LIMIT 0) * 100 * 800 ≤ s.get CORE_COUNT 0)) ∧
    (∃ (s : State), (s.get CLK_STAT_SERDES_REF_OK 0 = 1)) ∧
    (∃ (s : State), (s.get CLK_STAT_SERDES_REF_OK 0 = 0)) ∧
    (∃ (s : State), (s.get CLK_STAT_PCIE_REF_OK 0 = 1)) ∧
    (∃ (s : State), (s.get CLK_STAT_PCIE_REF_OK 0 = 0)) :=
  ⟨⟨(State.reset.put CLK_STAT_REF_OK 0 1).put CLK_STAT_BACKUP_OSC 0 0, by decide +kernel⟩,
   ⟨(State.reset.put CLK_STAT_REF_OK 0 0).put CLK_STAT_HOLDOVER 0 1, by decide +kernel⟩,
   ⟨(((State.reset.put CLK_STAT_HOLDOVER 0 1).put FATAL_PATH 0 0).put CLK_HOLD_LIMIT_LIMIT 0 0).put CORE_COUNT 0 (State.reset.get CLK_LOST_AT 0 + 80000), by decide +kernel⟩,
   ⟨State.reset.put CLK_STAT_SERDES_REF_OK 0 1, by decide +kernel⟩,
   ⟨State.reset.put CLK_STAT_SERDES_REF_OK 0 0, by decide +kernel⟩,
   ⟨State.reset.put CLK_STAT_PCIE_REF_OK 0 1, by decide +kernel⟩,
   ⟨State.reset.put CLK_STAT_PCIE_REF_OK 0 0, by decide +kernel⟩⟩

theorem wit_DomainPowerEvents :
    (∃ (d : Fin 94) (n : Nat) (s : State), (d.val = n) ∧ (n < 32) ∧ (s.get CRS_ON n = 0)) ∧
    (∃ (d : Fin 94) (n : Nat) (s : State), (d.val = n) ∧ (n < 32) ∧ (s.get CRS_ON n = 1)) ∧
    (∃ (s : State), (s.domOn domPortcullis = false) ∧ ((domRails domPortcullis).all (fun r => !s.flag RAIL_BAD r) = true) ∧ (s.get TMP_LATCH 0 = 0)) ∧
    (∃ (s : State), (s.domOn domPortcullis = true)) ∧
    (∃ (d : Fin 94) (c : Nat) (s : State), (d.val = 73 + c) ∧ (c < 16) ∧ (s.get AMB_ON c = 0)) ∧
    (∃ (d : Fin 94) (c : Nat) (s : State), (d.val = 73 + c) ∧ (c < 16) ∧ (s.get AMB_ON c = 1)) ∧
    (∃ (d : Fin 94) (s : State), (d.val < 39) ∧ (32 < d.val) ∧ (s.get DOM_OFF d = 1)) ∧
    (∃ (d : Fin 94) (s : State), (s.domOn d = true)) ∧
    (∃ (d : Fin 94) (s : State), (s.domOn d = false)) :=
  ⟨⟨31, 31, State.reset.put CRS_ON 31 0, by decide +kernel⟩,
   ⟨0, 0, State.reset.put CRS_ON 0 1, by decide +kernel⟩,
   ⟨State.reset.put DOM_OFF domPortcullis 1, by decide +kernel⟩,
   ⟨State.reset, by decide +kernel⟩,
   ⟨88, 15, State.reset.put AMB_ON 15 0, by decide +kernel⟩,
   ⟨73, 0, State.reset.put AMB_ON 0 1, by decide +kernel⟩,
   ⟨38, State.reset.put DOM_OFF 38 1, by decide +kernel⟩,
   ⟨93, State.reset.put MKC_CTRL_ADC_EN 0 1, by decide +kernel⟩,
   ⟨93, State.reset.put MKC_CTRL_ADC_EN 0 0, by decide +kernel⟩⟩

theorem wit_LineTimeCounters :
    (∃ (_n : Nat) (s : State), ((∀ d : Fin 16, s.get TMB_STEP_ON d = 0))) ∧
    (∃ (_n : Nat) (s : State), ((∀ d : Fin 16, s.get TMB_STEP_ON d = 0)) ∧ (s.wires = []) ∧ (s.hooked = []) ∧ (s.hookIn = []) ∧ (s.trbQueue = []) ∧ (s.arriving = []) ∧ (s.get ISL_OWN 0 = 0) ∧ (s.get ISL_PEER 0 = 0) ∧ ((∀ k : Fin 4, s.get TTB_COLD k = 0))) ∧
    (∃ (q : Requester) (d : Fin 16) (_v : BitVec 64) (s : State), (s.permit q .registers (tmbAddr 0x10 d) true = .yes) ∧ (s.get TMB_DOM_CFG_MODE d ≠ 2)) ∧
    (∃ (q : Requester) (d : Fin 16) (_v : BitVec 64) (s : State), (s.permit q .registers (tmbAddr 0x10 d) true = .yes) ∧ (s.get TMB_DOM_CFG_MODE d = 2)) ∧
    (∃ (q : Requester) (s : State), (s.permit q .registers 0x4030_0004 true = .yes)) ∧
    (∃ (q : Requester) (d : Fin 16) (_v : BitVec 40) (s : State), (s.permit q .registers (tmbAddr 0x18 d) true = .yes) ∧ ((s.get LIM_STAT_RUNNING 0 = 0 ∨ s.get LIM_CYC_CTRL_DOM 0 ≠ d))) ∧
    (∃ (q : Requester) (d : Fin 16) (_v : BitVec 40) (s : State), (s.permit q .registers (tmbAddr 0x18 d) true = .yes) ∧ (s.get LIM_STAT_RUNNING 0 = 1) ∧ (s.get LIM_CYC_CTRL_DOM 0 = d)) ∧
    (∃ (d : Fin 16) (s : State), (s.get TMB_STEP_ON d = 1) ∧ (s.get TMB_STEP_VAL d < 2 ^ 40) ∧ (s.get SMP_ON d = 1) ∧ ((s.get LIM_STAT_RUNNING 0 = 0 ∨ s.get LIM_CYC_CTRL_DOM 0 ≠ d))) ∧
    (∃ (d : Fin 16) (s : State), (s.get TMB_STEP_ON d = 1) ∧ (s.get LIM_STAT_RUNNING 0 = 1) ∧ (s.get LIM_CYC_CTRL_DOM 0 = d)) :=
  ⟨⟨12345, overRange (fun d t => t.put TMB_STEP_ON d 0) 16 State.reset, by decide +kernel⟩,
   ⟨800, overRange (fun d t => t.put TMB_STEP_ON d 0) 16 State.reset, by decide +kernel⟩,
   ⟨.cc, 15, 0xFFFF_FFFF_FFFF, State.reset.put TMB_DOM_CFG_MODE 15 1, by decide +kernel⟩,
   ⟨.cc, 15, 0, State.reset.put TMB_DOM_CFG_MODE 15 2, by decide +kernel⟩,
   ⟨.cc, State.reset, by decide +kernel⟩,
   ⟨.cc, 15, 0xFF_FFFF_FFFF, State.reset.put LIM_STAT_RUNNING 0 0, by decide +kernel⟩,
   ⟨.cc, 15, 1, (State.reset.put LIM_STAT_RUNNING 0 1).put LIM_CYC_CTRL_DOM 0 15, by decide +kernel⟩,
   ⟨15, (((State.reset.put TMB_STEP_ON 15 1).put TMB_STEP_VAL 15 0xFF_FFFF_FFFF).put SMP_ON 15 1).put LIM_STAT_RUNNING 0 0, by decide +kernel⟩,
   ⟨15, (((State.reset.put TMB_STEP_ON 15 1).put TMB_STEP_VAL 15 5).put LIM_STAT_RUNNING 0 1).put LIM_CYC_CTRL_DOM 0 15, by decide +kernel⟩⟩

theorem wit_EpochPair :
    (∃ (q : Requester) (d : Fin 16) (_v : Word) (s : State), (s.permit q .registers (tmbAddr 0x60 d) true = .yes)) ∧
    (∃ (q : Requester) (d : Fin 16) (_sec : BitVec 48) (ref : Nat) (s : State), (s.permit q .registers (tmbAddr 0x58 d) true = .yes) ∧ (ref = (if s.get EPOCH_HELD_ON (q.num * 16 + d) = 0 then s.get TMB_DOM_EPOCH_REF_REF_NS d else s.get EPOCH_HELD_VAL (q.num * 16 + d))) ∧ (ref < 2 ^ 32) ∧ (s.get TMB_CTR d < 2 ^ 72)) ∧
    (∃ (d : Fin 16) (s : State), (s.get EPOCH_WAIT d = 1) ∧ (s.get EPOCH_COMMITTED d = 1) ∧ (s.get TMB_DOM_EPOCH_REF_REF_NS d < 2 ^ 32) ∧ (s.get TMB_CTR d < 2 ^ 72) ∧ ((s.get TMB_CTR d / 2 ^ 32 + 2 ^ 40 - s.get TMB_DOM_EPOCH_REF_REF_NS d * 256) % 2 ^ 40 < 2 ^ 39)) ∧
    (∃ (d : Fin 16) (s : State), (s.get TMB_DOM_EPOCH_REF_REF_NS d < 2 ^ 32) ∧ (s.get TMB_CTR d < 2 ^ 72) ∧ ((s.get EPOCH_WAIT d = 0 ∨ 2 ^ 39 ≤ (s.get TMB_CTR d / 2 ^ 32 + 2 ^ 40 - s.get TMB_DOM_EPOCH_REF_REF_NS d * 256) % 2 ^ 40))) ∧
    (∃ (d : Fin 16) (s : State), (s.get EPOCH_COMMITTED d = 1) ∧ (s.get EPOCH_WAIT d = 0)) ∧
    (∃ (d : Fin 16) (s : State), ((s.get EPOCH_COMMITTED d = 0 ∨ s.get EPOCH_WAIT d = 1))) :=
  ⟨⟨.cc, 15, 0xFFFF_FFFF, State.reset, by decide +kernel⟩,
   ⟨.cc, 15, 0xFFFF_FFFF_FFFF, 0xFFFF_FFFF, (((State.reset.put EPOCH_HELD_ON 527 1).put EPOCH_HELD_VAL 527 0xFFFF_FFFF).put TMB_CTR 15 0), by decide +kernel⟩,
   ⟨15, ((((State.reset.put EPOCH_WAIT 15 1).put EPOCH_COMMITTED 15 1).put TMB_DOM_EPOCH_REF_REF_NS 15 1000).put TMB_CTR 15 (1000 * 2 ^ 40)), by decide +kernel⟩,
   ⟨15, ((State.reset.put EPOCH_WAIT 15 1).put TMB_DOM_EPOCH_REF_REF_NS 15 1001).put TMB_CTR 15 (1000 * 2 ^ 40), by decide +kernel⟩,
   ⟨15, ((State.reset.put EPOCH_COMMITTED 15 1).put EPOCH_WAIT 15 0).put TMB_CTR 15 (4000000000 * 2 ^ 40), by decide +kernel⟩,
   ⟨15, State.reset.put EPOCH_COMMITTED 15 0, by decide +kernel⟩⟩

theorem wit_PegServo :
    (∃ (q : Requester) (d : Fin 16) (_theta : BitVec 40) (_port : BitVec 6) (s : State), (s.permit q .registers (tmbAddr 0x38 d) true = .yes) ∧ (s.get SMP_ON d = 0)) ∧
    (∃ (q : Requester) (d : Fin 16) (_theta : BitVec 40) (_port : BitVec 6) (s : State), (s.permit q .registers (tmbAddr 0x38 d) true = .yes) ∧ (s.get SMP_ON d = 1)) ∧
    (∃ (d : Fin 16) (s : State), (s.get SMP_ON d = 1) ∧ ((s.get TMB_DOM_CFG_MODE d ≠ 2 ∨ (s.get TMB_DOM_CFG_SRC_PORT d ≠ 63 ∧ s.get SMP_PORT d ≠ s.get TMB_DOM_CFG_SRC_PORT d)))) ∧
    (∃ (d : Fin 16) (s : State), (s.get SMP_ON d = 1) ∧ (s.get TMB_DOM_CFG_MODE d = 2) ∧ (s.get TMB_DOM_CFG_SRC_PORT d = 63) ∧ (s.get SRV_STEP_SEEN d = 0) ∧ (s.get SRV_INCW_SEEN d = 0) ∧ (s.get SRV_FIRST d = 1) ∧ (s.get TMB_DOM_STAT_STATE d ≠ 3) ∧ ((toSigned 40 (s.get SMP_THETA d)).natAbs ≤ max (s.get TMB_DOM_THRESH_STEP_THR d) 1 * 25600)) ∧
    (∃ (d : Fin 16) (s : State), (s.get SMP_ON d = 1) ∧ (s.get TMB_DOM_CFG_MODE d = 2) ∧ (s.get TMB_DOM_CFG_SRC_PORT d = 63) ∧ (s.get SRV_STEP_SEEN d = 0) ∧ (s.get SRV_INCW_SEEN d = 0) ∧ (s.get TMB_DOM_STAT_STATE d = 3) ∧ ((s.get SRV_FIRST d = 1 ∨ 250000 ≤ (s.get SMP_TS d + 2 ^ 32 - s.get SRV_LAST_TS d) % 2 ^ 32)) ∧ ((toSigned 40 (s.get SMP_THETA d)).natAbs ≤ max (s.get TMB_DOM_THRESH_STEP_THR d) 1 * 25600) ∧ (s.get TMB_DOM_THRESH_LOCK_THR d * 256 < (toSigned 40 (s.get SMP_THETA d)).natAbs)) ∧
    (∃ (d : Fin 16) (th : Int) (integ : Int) (r : Int) (y : Int) (lim : Int) (tau : Nat) (kp : Nat) (ki : Nat) (s : State), (s.get SMP_ON d = 1) ∧ (s.get TMB_DOM_CFG_MODE d = 2) ∧ (s.get TMB_DOM_CFG_SRC_PORT d = 63) ∧ (s.get SRV_STEP_SEEN d = 0) ∧ (s.get SRV_INCW_SEEN d = 0) ∧ (s.get SRV_FIRST d = 0) ∧ (s.get TMB_DOM_STAT_STATE d = 2) ∧ (th = toSigned 40 (s.get SMP_THETA d)) ∧ (th.natAbs ≤ s.get TMB_DOM_THRESH_GATE d * 1024) ∧ (th.natAbs ≤ max (s.get TMB_DOM_THRESH_STEP_THR d) 1 * 25600) ∧ (tau = (s.get SMP_TS d + 2 ^ 32 - s.get SRV_LAST_TS d) % 2 ^ 32) ∧ (250000 ≤ tau) ∧ (tau ≤ 2000000000) ∧ (kp = s.get TMB_DOM_SERVO_KP_LOCK d) ∧ (kp < 16) ∧ (ki = s.get TMB_DOM_SERVO_KI_LOCK d) ∧ (lim = ((min (s.get TMB_DOM_SERVO_SLEW_MAX d) 1000 : Nat) : Int)) ∧ (r = roundDiv (th * 2 ^ 40) tau) ∧ (integ = roundDiv (toSigned 64 (s.get SRV_INTEG d) * 2 ^ ki + r) (2 ^ ki)) ∧ (integ.natAbs * 1000000 ≤ lim.natAbs * 2 ^ 48) ∧ (integ ≤ roundDiv (lim * 2 ^ 48) 1000000) ∧ (-(roundDiv (lim * 2 ^ 48) 1000000) ≤ integ) ∧ (y = -(r * 2 ^ (15 - kp) + integ * 2 ^ 15)) ∧ (y.natAbs * 1000000 ≤ lim.natAbs * 2 ^ 63)) ∧
    (∃ (d : Fin 16) (s : State), (s.get SMP_ON d = 1) ∧ (s.get TMB_DOM_CFG_MODE d = 2) ∧ (s.get TMB_DOM_CFG_SRC_PORT d = 63) ∧ (s.get SRV_STEP_SEEN d = 0) ∧ (s.get SRV_INCW_SEEN d = 0) ∧ (s.get SRV_FIRST d = 0) ∧ (s.get TMB_DOM_STAT_STATE d = 2) ∧ (s.get TMB_DOM_THRESH_GATE d * 1024 < (toSigned 40 (s.get SMP_THETA d)).natAbs) ∧ (s.get SRV_GATED d = 3) ∧ (250000 ≤ (s.get SMP_TS d + 2 ^ 32 - s.get SRV_LAST_TS d) % 2 ^ 32)) ∧
    (∃ (q : Requester) (d : Fin 16) (v : Word) (s : State), (s.permit q .registers (tmbAddr 0 d) true = .yes) ∧ (s.get TMB_DOM_CFG_MODE d ≠ 2) ∧ (v.toNat % 4 = 2)) ∧
    (∃ (q : Requester) (d : Fin 16) (v : Word) (s : State), (s.permit q .registers (tmbAddr 0 d) true = .yes) ∧ (v.toNat % 4 ≠ 2)) ∧
    (∃ (d : Fin 16) (s : State), (s.get TMB_DOM_CFG_MODE d = 2) ∧ ((s.get TMB_DOM_STAT_STATE d = 1 ∨ s.get TMB_DOM_STAT_STATE d = 2)) ∧ (max (s.get TMB_DOM_LOCKCNT_HOLD_MS d) 1 * 800000 ≤ s.get CORE_COUNT 0 - s.get SRV_ACC_AT d)) ∧
    (∃ (p : Fin 40) (_tx : BitVec 16) (_rx : BitVec 16) (s : State), (s.get TMB_CTRL_VAR_TRACK_EN 0 = 1) ∧ (16 ≤ p.val) ∧ (s.get VAR_NEXT p ≤ s.get CORE_COUNT 0) ∧ (s.get TMB_PVAR_VAR_TX p < 2 ^ 16) ∧ (s.get TMB_PVAR_VAR_RX p < 2 ^ 16)) ∧
    (∃ (p : Fin 40) (_tx : BitVec 16) (_rx : BitVec 16) (s : State), ((s.get TMB_CTRL_VAR_TRACK_EN 0 = 0 ∨ s.get CORE_COUNT 0 < s.get VAR_NEXT p))) :=
  ⟨⟨.cc, 15, 0x80_0000_0000, 63, State.reset.put SMP_ON 15 0, by decide +kernel⟩,
   ⟨.cc, 15, 0x80_0000_0000, 63, State.reset.put SMP_ON 15 1, by decide +kernel⟩,
   ⟨15, (State.reset.put SMP_ON 15 1).put TMB_DOM_CFG_MODE 15 1, by decide +kernel⟩,
   ⟨15, (((((((State.reset.put SMP_ON 15 1).put TMB_DOM_CFG_MODE 15 2).put TMB_DOM_CFG_SRC_PORT 15 63).put SRV_STEP_SEEN 15 0).put SRV_INCW_SEEN 15 0).put SRV_FIRST 15 1).put SMP_THETA 15 (2 ^ 40 - 25600)).put TMB_DOM_STAT_STATE 15 1, by decide +kernel⟩,
   ⟨15, (((((((State.reset.put SMP_ON 15 1).put TMB_DOM_CFG_MODE 15 2).put TMB_DOM_CFG_SRC_PORT 15 63).put SRV_STEP_SEEN 15 0).put SRV_INCW_SEEN 15 0).put SRV_FIRST 15 1).put TMB_DOM_STAT_STATE 15 3).put SMP_THETA 15 2049, by decide +kernel⟩,
   ⟨0, 4000, -(roundDiv (4000 * 2 ^ 40) 7812500 * 1) * 0 + roundDiv (roundDiv (4000 * 2 ^ 40) 7812500) 64, roundDiv (4000 * 2 ^ 40) 7812500, -(roundDiv (4000 * 2 ^ 40) 7812500 * 2 ^ 13 + roundDiv (roundDiv (4000 * 2 ^ 40) 7812500) 64 * 2 ^ 15), 200, 7812500, 2, 6, ((((((((((((((State.reset.put SMP_ON 0 1).put TMB_DOM_CFG_MODE 0 2).put TMB_DOM_CFG_SRC_PORT 0 63).put SRV_STEP_SEEN 0 0).put SRV_INCW_SEEN 0 0).put SRV_FIRST 0 0).put TMB_DOM_STAT_STATE 0 2).put SMP_THETA 0 4000).put SMP_TS 0 7812500).put SRV_LAST_TS 0 0).put TMB_DOM_THRESH_GATE 0 50).put TMB_DOM_SERVO_KP_LOCK 0 2).put TMB_DOM_SERVO_KI_LOCK 0 6).put TMB_DOM_SERVO_SLEW_MAX 0 200).put SRV_INTEG 0 0, by decide +kernel⟩,
   ⟨15, ((((((((((State.reset.put SMP_ON 15 1).put TMB_DOM_CFG_MODE 15 2).put TMB_DOM_CFG_SRC_PORT 15 63).put SRV_STEP_SEEN 15 0).put SRV_INCW_SEEN 15 0).put SRV_FIRST 15 0).put TMB_DOM_STAT_STATE 15 2).put SMP_THETA 15 (2 ^ 39)).put SRV_GATED 15 3).put SMP_TS 15 250000).put SRV_LAST_TS 15 0, by decide +kernel⟩,
   ⟨.cc, 15, 2, State.reset.put TMB_DOM_CFG_MODE 15 1, by decide +kernel⟩,
   ⟨.cc, 15, 3, State.reset, by decide +kernel⟩,
   ⟨15, (((State.reset.put TMB_DOM_CFG_MODE 15 2).put TMB_DOM_STAT_STATE 15 2).put TMB_DOM_LOCKCNT_HOLD_MS 15 0).put CORE_COUNT 0 (State.reset.get SRV_ACC_AT 15 + 800000), by decide +kernel⟩,
   ⟨39, 0xFFFF, 0, (State.reset.put TMB_CTRL_VAR_TRACK_EN 0 1).put VAR_NEXT 39 0, by decide +kernel⟩,
   ⟨39, 0xFFFF, 0, State.reset.put TMB_CTRL_VAR_TRACK_EN 0 0, by decide +kernel⟩⟩

theorem wit_CycleTimer :
    (∃ (q : Requester) (n0 : Nat) (s : State), (s.permit q .registers 0x4040_0000 true = .yes) ∧ (s.get LIM_STAT_RUNNING 0 = 0) ∧ (1000 * 256 ≤ (s.get LIM_CYC_START_START 0 * 256 + 2 ^ 40 - s.now (s.get LIM_CYC_CTRL_DOM 0)) % 2 ^ 40) ∧ ((s.get LIM_CYC_START_START 0 * 256 + 2 ^ 40 - s.now (s.get LIM_CYC_CTRL_DOM 0)) % 2 ^ 40 ≤ 2000000000 * 256) ∧ (25000 ≤ s.get LIM_CYC_PERIOD_PERIOD 0) ∧ (s.get LIM_CYC_PERIOD_PERIOD 0 ≤ 6400000) ∧ ((s.get LIM_BASE_SLOTS_K 0 = 0 ∨ s.get LIM_BASE_BASE 0 * 0x1_0000 + 2 * s.stride ≤ 0x400_0000)) ∧ (s.get DEV_LOCK_LOCK 0 = 1) ∧ (n0 = (s.get LIM_CYC_NUM0_NUM0 0 + 2 ^ 32 - 1) % 2 ^ 32)) ∧
    (∃ (q : Requester) (s : State), (s.permit q .registers 0x4040_0000 true = .yes) ∧ (s.get LIM_STAT_RUNNING 0 = 0) ∧ (((s.get LIM_CYC_START_START 0 * 256 + 2 ^ 40 - s.now (s.get LIM_CYC_CTRL_DOM 0)) % 2 ^ 40 < 1000 * 256 ∨ 2000000000 * 256 < (s.get LIM_CYC_START_START 0 * 256 + 2 ^ 40 - s.now (s.get LIM_CYC_CTRL_DOM 0)) % 2 ^ 40 ∨ s.get LIM_CYC_PERIOD_PERIOD 0 < 25000 ∨ 6400000 < s.get LIM_CYC_PERIOD_PERIOD 0 ∨ (s.get LIM_BASE_SLOTS_K 0 ≠ 0 ∧ 0x400_0000 < s.get LIM_BASE_BASE 0 * 0x1_0000 + 2 * s.stride) ∨ s.get DEV_LOCK_LOCK 0 = 0))) ∧
    (∃ (q : Requester) (s : State), (s.permit q .registers 0x4040_0000 true = .yes) ∧ (s.get LIM_STAT_RUNNING 0 = 1)) ∧
    (∃ (q : Requester) (s : State), (s.permit q .registers 0x4040_0000 true = .yes) ∧ (s.get LIM_STAT_RUNNING 0 = 1)) ∧
    (∃ (q : Requester) (period : BitVec 23) (at' : Word) (ahead : Nat) (s : State), (s.permit q .registers 0x4040_0018 true = .yes) ∧ (ahead = (at'.toNat + 2 ^ 32 - s.get LIM_CYC_NUM_NUM 0) % 2 ^ 32) ∧ (1 ≤ ahead) ∧ (ahead ≤ 2 ^ 31 - 1) ∧ (25000 ≤ period.toNat) ∧ (period.toNat ≤ 6400000)) ∧
    (∃ (q : Requester) (period : BitVec 23) (at' : Word) (ahead : Nat) (s : State), (s.permit q .registers 0x4040_0018 true = .yes) ∧ (ahead = (at'.toNat + 2 ^ 32 - s.get LIM_CYC_NUM_NUM 0) % 2 ^ 32) ∧ ((ahead = 0 ∨ 2 ^ 31 ≤ ahead ∨ period.toNat < 25000 ∨ 6400000 < period.toNat))) ∧
    (∃ (k : Nat) (p : Nat) (s : State), (s.get LIM_PHASE 0 ≠ 0) ∧ (s.reached (s.get LIM_CYC_CTRL_DOM 0) (s.get LIM_NEXT 0) = true) ∧ (s.get LIM_STOP 0 = 0) ∧ (k = (s.get LIM_CYC_NUM_NUM 0 + 1) % 2 ^ 32) ∧ (s.get LIM_CYC_CHG_NEW_PERIOD 0 < 2 ^ 23) ∧ (p = (if s.get LIM_STAT_CHG_PEND 0 = 1 ∧ s.get LIM_CYC_CHG_AT 0 = k then s.get LIM_CYC_CHG_NEW_PERIOD 0 else s.get LIM_CYC_PERIOD_PERIOD 0)) ∧ (s.get LIM_STAT_CHG_PEND 0 < 2)) ∧
    (∃ (k : Nat) (s : State), (s.get LIM_PHASE 0 ≠ 0) ∧ (s.reached (s.get LIM_CYC_CTRL_DOM 0) (s.get LIM_NEXT 0) = true) ∧ (s.get LIM_STOP 0 = 1) ∧ (k = (s.get LIM_CYC_NUM_NUM 0 + 1) % 2 ^ 32)) ∧
    (∃ (s : State), ((s.get LIM_PHASE 0 = 0 ∨ s.reached (s.get LIM_CYC_CTRL_DOM 0) (s.get LIM_NEXT 0) = false))) :=
  ⟨⟨.cc, 2 ^ 32 - 1, ((((((State.reset.put LIM_STAT_RUNNING 0 0).put DEV_LOCK_LOCK 0 1).put LIM_BASE_SLOTS_K 0 0).put LIM_CYC_PERIOD_PERIOD 0 25000).put LIM_CYC_NUM0_NUM0 0 0).put LIM_CYC_START_START 0 1000).put TMB_CTR (State.reset.get LIM_CYC_CTRL_DOM 0) 0, by decide +kernel⟩,
   ⟨.cc, (((State.reset.put LIM_STAT_RUNNING 0 0).put DEV_LOCK_LOCK 0 1).put LIM_CYC_START_START 0 999).put TMB_CTR (State.reset.get LIM_CYC_CTRL_DOM 0) 0, by decide +kernel⟩,
   ⟨.cc, State.reset.put LIM_STAT_RUNNING 0 1, by decide +kernel⟩,
   ⟨.cc, State.reset.put LIM_STAT_RUNNING 0 1, by decide +kernel⟩,
   ⟨.cc, 6400000, 0, 1, State.reset.put LIM_CYC_NUM_NUM 0 (2 ^ 32 - 1), by decide +kernel⟩,
   ⟨.cc, 6400000, 0, 0, State.reset.put LIM_CYC_NUM_NUM 0 0, by decide +kernel⟩,
   ⟨0, 25001, ((((((((State.reset.put LIM_PHASE 0 1).put LIM_NEXT 0 0).put TMB_CTR (State.reset.get LIM_CYC_CTRL_DOM 0) 0).put LIM_STOP 0 0).put LIM_CYC_NUM_NUM 0 (2 ^ 32 - 1)).put LIM_STAT_CHG_PEND 0 1).put LIM_CYC_CHG_AT 0 0).put LIM_CYC_CHG_NEW_PERIOD 0 25001), by decide +kernel⟩,
   ⟨5, ((((State.reset.put LIM_PHASE 0 2).put LIM_NEXT 0 0).put TMB_CTR (State.reset.get LIM_CYC_CTRL_DOM 0) 0).put LIM_STOP 0 1).put LIM_CYC_NUM_NUM 0 4, by decide +kernel⟩,
   ⟨State.reset.put LIM_PHASE 0 0, by decide +kernel⟩⟩

theorem wit_LineImageWrites :
    (∃ (_q : Requester) (off : BitVec 26) (bs : List Byte) (_s : State), (regionOfAccess (sbBase + off.toNat) bs.length = .soundboard)) ∧
    (∃ (_q : Requester) (off : BitVec 26) (_b : Byte) (s : State), (s.started = true) ∧ (s.inHalf (1 - s.fillHalf) off.toNat = true) ∧ (s.get LIM_OUT_SEEN 0 = 0)) ∧
    (∃ (_q : Requester) (off : BitVec 26) (bs : List Byte) (_s : State), (regionOfAccess (sbBase + off.toNat) bs.length ≠ .soundboard)) ∧
    (∃ (n : Fin 32) (l : Landing) (ls : List Landing) (s : State), (s.wtb = l :: ls) ∧ (l.who = n) ∧ (sbBase ≤ l.addr)) ∧
    (∃ (n : Fin 32) (s : State), ((∀ l ∈ s.wtb, l.who ≠ n))) ∧
    (∃ (l : Landing) (ls : List Landing) (s : State), (s.drain = l :: ls)) ∧
    (∃ (s : State), (s.drain = [])) ∧
    (∃ (s : State), (s.get PASS_PHASE 0 = 1) ∧ (s.drain = [])) ∧
    (∃ (s : State), ((s.get PASS_PHASE 0 ≠ 1 ∨ s.drain ≠ []))) ∧
    (∃ (s : State), (s.get PASS_PHASE 0 = 2)) ∧
    (∃ (s : State), (s.get PASS_PHASE 0 ≠ 2)) :=
  ⟨⟨.pf, 0x3FF_FFFF, [0xA5], State.reset.put LIM_PHASE 0 2, by decide +kernel⟩,
   ⟨.pf, 0, 0xA5, ((((State.reset.put LIM_PHASE 0 2).put LIM_STAT_FILL_HALF 0 1).put LIM_BASE_SLOTS_K 0 1).put LIM_BASE_BASE 0 0).put LIM_OUT_SEEN 0 0, by decide +kernel⟩,
   ⟨.pf, 0x3FF_FFFF, [1, 2], State.reset, by decide +kernel⟩,
   ⟨31, ⟨31, 0x1000_0000, [1, 2, 3, 4]⟩, [⟨31, 0x1000_0040, [7]⟩], { State.reset with wtb := [⟨31, 0x1000_0000, [1, 2, 3, 4]⟩, ⟨31, 0x1000_0040, [7]⟩] }, by decide +kernel⟩,
   ⟨31, { State.reset with wtb := [⟨30, 0x1000_0040, [7]⟩] }, by decide +kernel⟩,
   ⟨⟨0, 0x1000_0020, [9, 8]⟩, [], { State.reset with drain := [⟨0, 0x1000_0020, [9, 8]⟩] }, by decide +kernel⟩,
   ⟨State.reset, by decide +kernel⟩,
   ⟨{ State.reset.put PASS_PHASE 0 1 with passSlots := [0, 1, 2] }, by decide +kernel⟩,
   ⟨State.reset.put PASS_PHASE 0 0, by decide +kernel⟩,
   ⟨{ ((State.reset.put PASS_PHASE 0 2).put LIM_BASE_SLOTS_K 0 1).put LIM_BASE_BASE 0 0 with passSlots := [0, 1023] }, by decide +kernel⟩,
   ⟨State.reset.put PASS_PHASE 0 1, by decide +kernel⟩⟩

theorem wit_TabTables :
    (∃ (q : Requester) (t : Fin 33) (s : State), (s.permit q .registers (tabAddr t) true = .yes) ∧ (s.get LIM_TAB_STAT_STATE t = 0) ∧ (s.get TAB_COPYING t = 0)) ∧
    (∃ (q : Requester) (t : Fin 33) (s : State), (s.permit q .registers (tabAddr t) true = .yes) ∧ (s.get LIM_TAB_STAT_STATE t = 0) ∧ (s.get TAB_COPYING t = 1)) ∧
    (∃ (q : Requester) (t : Fin 33) (s : State), (s.permit q .registers (tabAddr t) true = .yes) ∧ (s.get LIM_TAB_STAT_STATE t ≠ 0)) ∧
    (∃ (q : Requester) (t : Fin 33) (s : State), (s.permit q .registers (tabAddr t) true = .yes) ∧ (s.get LIM_TAB_STAT_STATE t = 0)) ∧
    (∃ (t : Fin 33) (s : State), (s.get TAB_COPYING t = 1) ∧ (s.get TAB_DONE_WAIT t = 0) ∧ (s.get TAB_BANK t < 2) ∧ (s.Inv)) ∧
    (∃ (t : Fin 33) (s : State), (s.get TAB_COPYING t = 0)) ∧
    (∃ (q : Requester) (t : Fin 33) (s : State), (s.permit q .registers (tabAddr t) true = .yes) ∧ (s.get LIM_TAB_STAT_STATE t ≠ 0) ∧ ((s.get LIM_STAT_COMMIT_PEND 0 = 0 ∨ bitOf (s.get TAB_GROUP 0) t = false))) ∧
    (∃ (q : Requester) (t : Fin 33) (s : State), (s.permit q .registers (tabAddr t) true = .yes) ∧ ((s.get LIM_TAB_STAT_STATE t = 0 ∨ (s.get LIM_STAT_COMMIT_PEND 0 = 1 ∧ bitOf (s.get TAB_GROUP 0) t = true)))) ∧
    (∃ (q : Requester) (_v : Word) (s : State), (s.permit q .registers 0x4040_0030 true = .yes) ∧ ((s.get LIM_STAT_RUNNING 0 = 1 ∨ s.get SBD_CTRL_EN 0 = 1 ∨ s.get LIM_CYC_CTRL_LOCK 0 = 1))) ∧
    (∃ (q : Requester) (v : Word) (s : State), (s.permit q .registers 0x4040_0030 true = .yes) ∧ (s.get LIM_STAT_RUNNING 0 = 0) ∧ (s.get SBD_CTRL_EN 0 = 0) ∧ (s.get LIM_CYC_CTRL_LOCK 0 = 0) ∧ (s.get LIM_BASE_BASE 0 ≠ v.toNat % 2 ^ 10)) ∧
    (∃ (t : Fin 33) (s : State), (s.bgGranted (.table t) = true) ∧ (s.get LIM_TAB_STAT_STATE t = 1) ∧ (s.get LIM_STAT_COMMIT_PEND 0 = 0)) ∧
    (∃ (q : Requester) (ports : Word) (slices : Bool) (s : State), (s.permit q .registers 0x4040_0100 true = .yes) ∧ ((s.get LIM_STAT_COMMIT_PEND 0 = 1 ∨ (ports = 0 ∧ slices = false)))) ∧
    (∃ (q : Requester) (ports : Word) (slices : Bool) (s : State), (s.permit q .registers 0x4040_0100 true = .yes) ∧ (s.get LIM_STAT_COMMIT_PEND 0 = 0) ∧ ((ports ≠ 0 ∨ slices = true)) ∧ (s.get LIM_PHASE 0 = 2)) ∧
    (∃ (q : Requester) (ports : Word) (slices : Bool) (s : State), (s.permit q .registers 0x4040_0100 true = .yes) ∧ (s.get LIM_STAT_COMMIT_PEND 0 = 0) ∧ ((ports ≠ 0 ∨ slices = true)) ∧ (s.get LIM_PHASE 0 ≠ 2) ∧ ((∀ t : Fin 33, bitOf (ports.toNat + (if slices then 2 ^ 32 else 0)) t = true → s.get LIM_TAB_STAT_STATE t = 2))) ∧
    (∃ (q : Requester) (s : State), (s.permit q .registers 0x4040_0100 true = .yes) ∧ (s.get LIM_STAT_COMMIT_PEND 0 = 1)) ∧
    (∃ (q : Requester) (s : State), (s.permit q .registers 0x4040_0100 true = .yes) ∧ (s.get LIM_STAT_COMMIT_PEND 0 = 0)) :=
  ⟨⟨.cc, 32, (State.reset.put LIM_TAB_STAT_STATE 32 0).put TAB_COPYING 32 0, by decide +kernel⟩,
   ⟨.cc, 32, (State.reset.put LIM_TAB_STAT_STATE 32 0).put TAB_COPYING 32 1, by decide +kernel⟩,
   ⟨.cc, 0, State.reset.put LIM_TAB_STAT_STATE 0 3, by decide +kernel⟩,
   ⟨.cc, 31, State.reset.put LIM_TAB_STAT_STATE 31 0, by decide +kernel⟩,
   ⟨31, ((((State.reset.put TAB_COPYING 31 1).put TAB_DONE_WAIT 31 0).put TAB_BANK 31 1).put LIM_TW (63 * 2048) 7).put LIM_TW (62 * 2048 + 2047) 9, by decide +kernel⟩,
   ⟨31, State.reset.put TAB_COPYING 31 0, by decide +kernel⟩,
   ⟨.cc, 32, (State.reset.put LIM_TAB_STAT_STATE 32 2).put LIM_STAT_COMMIT_PEND 0 0, by decide +kernel⟩,
   ⟨.cc, 32, ((State.reset.put LIM_TAB_STAT_STATE 32 2).put LIM_STAT_COMMIT_PEND 0 1).put TAB_GROUP 0 (2 ^ 32), by decide +kernel⟩,
   ⟨.cc, 0xFFFF_FFFF, State.reset.put SBD_CTRL_EN 0 1, by decide +kernel⟩,
   ⟨.cc, 0xFFFF_FFFF, (((State.reset.put LIM_STAT_RUNNING 0 0).put SBD_CTRL_EN 0 0).put LIM_CYC_CTRL_LOCK 0 0).put LIM_BASE_BASE 0 0, by decide +kernel⟩,
   ⟨32, { ((State.reset.put LIM_TAB_STAT_STATE 32 1).put LIM_STAT_COMMIT_PEND 0 0).put LIM_TAB_CRC_CRC 32 1 with bgGrants := [.table 32] }, by decide +kernel⟩,
   ⟨.cc, 0, false, State.reset, by decide +kernel⟩,
   ⟨.cc, 0, true, (State.reset.put LIM_STAT_COMMIT_PEND 0 0).put LIM_PHASE 0 2, by decide +kernel⟩,
   ⟨.cc, 1, true, (((State.reset.put LIM_STAT_COMMIT_PEND 0 0).put LIM_PHASE 0 0).put LIM_TAB_STAT_STATE 0 2).put LIM_TAB_STAT_STATE 32 2, by decide +kernel⟩,
   ⟨.cc, State.reset.put LIM_STAT_COMMIT_PEND 0 1, by decide +kernel⟩,
   ⟨.cc, State.reset.put LIM_STAT_COMMIT_PEND 0 0, by decide +kernel⟩⟩

theorem wit_SwitchAndFlowTable :
    (∃ (q : Requester) (s : State), (s.permit q .registers 0x4050_0000 true = .yes) ∧ (s.get SBD_CTRL_EN 0 = 0) ∧ ((s.get LIM_BASE_SLOTS_K 0 = 0 ∨ s.get LIM_BASE_BASE 0 * 0x1_0000 + 2 * s.stride ≤ 0x400_0000)) ∧ ((∀ i : Fin 4, s.get SBD_RSV_SIZE i = 0 ∨ ((s.get SBD_RSV_BASE i + s.get SBD_RSV_SIZE i) * 0x1_0000 ≤ 0x400_0000 ∧ (s.stride = 0 ∨ s.halfBase 0 + 2 * s.stride ≤ s.get SBD_RSV_BASE i * 0x1_0000 ∨ (s.get SBD_RSV_BASE i + s.get SBD_RSV_SIZE i) * 0x1_0000 ≤ s.halfBase 0))))) ∧
    (∃ (q : Requester) (i : Fin 4) (s : State), (s.permit q .registers 0x4050_0000 true = .yes) ∧ (s.get SBD_CTRL_EN 0 = 0) ∧ (s.get SBD_RSV_SIZE i ≠ 0) ∧ (0x400_0000 < (s.get SBD_RSV_BASE i + s.get SBD_RSV_SIZE i) * 0x1_0000)) ∧
    (∃ (q : Requester) (s : State), (s.permit q .registers 0x4050_0000 true = .yes) ∧ (s.get SBD_CTRL_EN 0 = 1)) ∧
    (∃ (q : Requester) (s : State), (s.permit q .registers 0x4050_0200 true = .yes) ∧ (s.get SBD_FLOW_STAT_STATE 0 = 0)) ∧
    (∃ (q : Requester) (s : State), (s.permit q .registers 0x4050_0200 true = .yes) ∧ (s.get SBD_FLOW_STAT_STATE 0 = 0) ∧ (s.get FT_BANK 0 < 2) ∧ (s.Inv)) ∧
    (∃ (q : Requester) (s : State), (s.permit q .registers 0x4050_0200 true = .yes) ∧ (s.get SBD_FLOW_STAT_STATE 0 ≠ 0)) ∧
    (∃ (q : Requester) (s : State), (s.permit q .registers 0x4050_0200 true = .yes) ∧ (s.get SBD_FLOW_STAT_STATE 0 ≠ 0) ∧ (s.get SBD_FLOW_STAT_PEND 0 = 0)) ∧
    (∃ (q : Requester) (s : State), (s.permit q .registers 0x4050_0200 true = .yes) ∧ ((s.get SBD_FLOW_STAT_STATE 0 = 0 ∨ s.get SBD_FLOW_STAT_PEND 0 = 1))) ∧
    (∃ (q : Requester) (s : State), (s.permit q .registers 0x4050_020C true = .yes) ∧ (s.get SBD_FLOW_STAT_PEND 0 = 0) ∧ ((s.get LIM_PHASE 0 = 2 ∨ s.get SBD_FLOW_STAT_STATE 0 < 2))) ∧
    (∃ (q : Requester) (s : State), (s.permit q .registers 0x4050_020C true = .yes) ∧ (s.get SBD_FLOW_STAT_PEND 0 = 0) ∧ (s.get LIM_PHASE 0 ≠ 2) ∧ (s.get SBD_FLOW_STAT_STATE 0 = 2)) ∧
    (∃ (q : Requester) (s : State), (s.permit q .registers 0x4050_020C true = .yes) ∧ (s.get SBD_FLOW_STAT_PEND 0 = 1)) ∧
    (∃ (s : State), (s.bgGranted .flow = true) ∧ (s.get SBD_FLOW_STAT_STATE 0 = 1) ∧ (s.get SBD_FLOW_STAT_PEND 0 = 0)) ∧
    (∃ (mac : BitVec 48) (vid : BitVec 12) (e : FdbEntry) (l : List FdbEntry) (r : List FdbEntry) (s : State), (s.fdb = l ++ e :: r) ∧ (e.mac = mac.toNat) ∧ (e.vid = vid.toNat) ∧ ((∀ x ∈ l ++ r, x.mac ≠ mac.toNat ∨ x.vid ≠ vid.toNat)) ∧ (e.static = false) ∧ (s.get SBD_FDB_CFG_AGE_S 0 ≠ 0) ∧ (s.get SBD_FDB_CFG_AGE_S 0 * 800000000 ≤ s.get CORE_COUNT 0 - e.seen)) ∧
    (∃ (mac : BitVec 48) (vid : BitVec 12) (s : State), ((∀ x ∈ s.fdb, x.mac = mac.toNat → x.vid = vid.toNat → x.static = true))) ∧
    (∃ (s : State), (sbsDue s = true) ∧ (s.get SBS_POS 0 < 1024) ∧ (s.get SBS_TOLD 0 = 0)) :=
  ⟨⟨.cc, ((((((State.reset.put SBD_CTRL_EN 0 0).put LIM_BASE_SLOTS_K 0 1).put LIM_BASE_BASE 0 1022).put SBD_RSV_SIZE 0 0).put SBD_RSV_SIZE 1 0).put SBD_RSV_SIZE 2 0).put SBD_RSV_SIZE 3 0, by decide +kernel⟩,
   ⟨.cc, 3, ((State.reset.put SBD_CTRL_EN 0 0).put SBD_RSV_SIZE 3 2).put SBD_RSV_BASE 3 1023, by decide +kernel⟩,
   ⟨.cc, State.reset.put SBD_CTRL_EN 0 1, by decide +kernel⟩,
   ⟨.cc, State.reset.put SBD_FLOW_STAT_STATE 0 0, by decide +kernel⟩,
   ⟨.cc, (((State.reset.put SBD_FLOW_STAT_STATE 0 0).put FT_BANK 0 1).put SBD_FT 65536 5).put SBD_FT 65535 6, by decide +kernel⟩,
   ⟨.cc, State.reset.put SBD_FLOW_STAT_STATE 0 1, by decide +kernel⟩,
   ⟨.cc, (State.reset.put SBD_FLOW_STAT_STATE 0 3).put SBD_FLOW_STAT_PEND 0 0, by decide +kernel⟩,
   ⟨.cc, State.reset.put SBD_FLOW_STAT_PEND 0 1, by decide +kernel⟩,
   ⟨.cc, (State.reset.put SBD_FLOW_STAT_PEND 0 0).put LIM_PHASE 0 2, by decide +kernel⟩,
   ⟨.cc, ((State.reset.put SBD_FLOW_STAT_PEND 0 0).put LIM_PHASE 0 1).put SBD_FLOW_STAT_STATE 0 2, by decide +kernel⟩,
   ⟨.cc, State.reset.put SBD_FLOW_STAT_PEND 0 1, by decide +kernel⟩,
   ⟨{ (State.reset.put SBD_FLOW_STAT_STATE 0 1).put SBD_FLOW_STAT_PEND 0 0 with bgGrants := [.scrub, .flow] }, by decide +kernel⟩,
   ⟨0xFFFF_FFFF_FFFF, 0xFFF, ⟨0xFFFF_FFFF_FFFF, 0xFFF, 1, false, 0⟩, [], [⟨1, 1, 1, false, 0⟩], { (State.reset.put SBD_FDB_CFG_AGE_S 0 1).put CORE_COUNT 0 800000000 with fdb := [⟨0xFFFF_FFFF_FFFF, 0xFFF, 1, false, 0⟩, ⟨1, 1, 1, false, 0⟩] }, by decide +kernel⟩,
   ⟨1, 1, { State.reset with fdb := [⟨1, 1, 1, true, 0⟩] }, by decide +kernel⟩,
   ⟨((State.reset.put SBS_POS 0 1023).put SBS_TOLD 0 0).put CORE_COUNT 0 (2 ^ 63), by decide +kernel⟩⟩

theorem wit_LouvreSchedules :
    (∃ (q : Requester) (p : Fin 40) (s : State), (s.permit q .registers (sbdPortAddr 0x10 p) true = .yes) ∧ (s.get SBD_LVR_STAT_STATE p = 0)) ∧
    (∃ (q : Requester) (p : Fin 40) (s : State), (s.permit q .registers (sbdPortAddr 0x10 p) true = .yes) ∧ (s.get SBD_LVR_STAT_STATE p = 0) ∧ (s.get LVR_BANK p < 2) ∧ (s.Inv)) ∧
    (∃ (q : Requester) (p : Fin 40) (s : State), (s.permit q .registers (sbdPortAddr 0x10 p) true = .yes) ∧ (s.get SBD_LVR_STAT_STATE p ≠ 0)) ∧
    (∃ (q : Requester) (p : Fin 40) (s : State), (s.permit q .registers (sbdPortAddr 0x10 p) true = .yes) ∧ (s.get SBD_LVR_STAT_STATE p ≠ 0) ∧ (s.get SBD_LVR_STAT_PEND p = 0)) ∧
    (∃ (q : Requester) (p : Fin 40) (s : State), (s.permit q .registers (sbdPortAddr 0x10 p) true = .yes) ∧ (s.get SBD_LVR_STAT_PEND p = 0)) ∧
    (∃ (q : Requester) (p : Fin 40) (s : State), (s.permit q .registers (sbdPortAddr 0x10 p) true = .yes) ∧ (s.get SBD_LVR_STAT_PEND p = 1)) ∧
    (∃ (p : Fin 40) (s : State), (s.get SBD_LVR_STAT_PEND p = 1) ∧ (s.reached (s.get SBD_LVR_CTRL_DOM p) (s.get LVR_AT p) = true) ∧ (s.get SBD_LVR_STAT_STATE p = 2)) ∧
    (∃ (p : Fin 40) (s : State), (s.get SBD_LVR_STAT_PEND p = 1) ∧ (s.reached (s.get SBD_LVR_CTRL_DOM p) (s.get LVR_AT p) = true) ∧ (s.get SBD_LVR_STAT_STATE p = 3) ∧ (s.get SBD_LVR_CTRL_EN p = 0)) ∧
    (∃ (p : Fin 40) (s : State), (s.get SBD_LVR_STAT_PEND p = 1) ∧ (s.reached (s.get SBD_LVR_CTRL_DOM p) (s.get LVR_AT p) = true) ∧ (s.get SBD_LVR_STAT_STATE p < 2) ∧ (s.get SBD_LVR_CTRL_EN p = 0)) ∧
    (∃ (p : Fin 40) (s : State), (s.get SBD_LVR_STAT_PEND p = 0) ∧ (s.get SBD_LVR_CTRL_EN p = 1) ∧ (s.get LVR_HAVE p = 1) ∧ (s.reached (s.get SBD_LVR_CTRL_DOM p) (s.get LVR_NEXT p) = true) ∧ (bitsOf (s.gateEntry p (s.get LVR_BANK p) 0).1 8 2 = 0)) ∧
    (∃ (p : Fin 40) (x : Nat × Nat × Nat) (s : State), (s.get SBD_LVR_STAT_ACTIVE p = 1) ∧ ((lvrSpans s p).find? (fun x => x.1 = s.get LVR_POS p + 1) = some x) ∧ (s.reached (s.get SBD_LVR_CTRL_DOM p) (s.get LVR_START p + x.2.1) = true)) ∧
    (∃ (p : Fin 40) (s : State), (s.get SBD_LVR_STAT_ACTIVE p = 0)) ∧
    (∃ (p : Fin 40) (why : Nat) (n : Nat) (s : State), (s.bgGranted (.louvre p) = true) ∧ (s.get SBD_LVR_STAT_STATE p = 1) ∧ (n = s.get SBD_LVR_CTRL_COUNT p) ∧ (why = (if n = 0 ∨ 1024 < n then 2 else if crc32c ((List.range (2 * n)).flatMap (fun w => toBytes 4 (s.get LVR_W ((p * 2 + (1 - s.get LVR_BANK p)) * 2048 + w)))) ≠ s.get SBD_LVR_CRC_CRC p then 1 else if s.get SBD_LVR_CT_CT p < 800 ∨ 6400000 < s.get SBD_LVR_CT_CT p then 2 else if (List.range n).any (fun i => bitsOf (s.gateEntry p (1 - s.get LVR_BANK p) i).1 8 2 == 3 || decide ((s.gateEntry p (1 - s.get LVR_BANK p) i).2 % 2 ^ 23 < 8)) then 2 else 0))) ∧
    (∃ (p : Fin 40) (s : State), (s.get SBD_PORT_PREEMPT_STATUS p = 1)) ∧
    (∃ (h : Fin 1024) (s : State), ((s.get SBD_FRER (8 * h)).testBit 1 = true) ∧ (s.get FRER_RUN h = 1) ∧ (s.get SBD_FRER (8 * h) / 2 ^ 9 % 2 ^ 12 * 800000 ≤ s.get CORE_COUNT 0 - s.get FRER_AT h)) ∧
    (∃ (p : Fin 40) (c : Nat) (d : Nat) (f : Frame) (q1 : List QCopy) (q2 : List QCopy) (s : State), (s.queues = q1 ++ ⟨p, c, f.id⟩ :: q2) ∧ (c < 8) ∧ ((∀ x ∈ q1, x.port = p → x.cls < c)) ∧ ((∀ x ∈ q2, x.port = p → x.cls ≤ c)) ∧ ((∀ x ∈ q2, x ≠ ⟨p, c, f.id⟩)) ∧ (s.frame f.id = some f) ∧ (f.inPort = 72) ∧ (f.origin = none) ∧ (f.bridge = none) ∧ (f.info.handle = none) ∧ (ptpAt f.bytes = none) ∧ (d = frameDomain s p f.bytes) ∧ ((∀ w ∈ s.wires, w.port ≠ p ∧ (w.paused = none → s.get CORE_COUNT 0 < w.until'))) ∧ (portLink s p = true) ∧ (portReady s p = true) ∧ (s.get MAC_CFG_RING_ROLE p = 0) ∧ (s.get RDN_CFG_EN 0 = 0) ∧ (s.get SBD_LVR_STAT_ACTIVE p = 0) ∧ (s.get SBD_LVR_CTRL_EN p = 0) ∧ (s.bit SBD_LVR_CTRL_ADMIN_GATES p c = true) ∧ (s.get SBD_PORT_PREEMPT_STATUS p = 0) ∧ ((∀ k : Nat, k < 8 → s.get SBD_QCLASS_RES_LIMIT (p * 8 + k) = 0)) ∧ (s.directs = []) ∧ (s.get LIM_PHASE 0 = 0) ∧ ((∀ k : Nat, k < 4 → s.get SBD_MIR_CFG_EN k = 0)) ∧ ((∀ l : Nat, l < 8 → s.get TRK_MSEC_CFG_EN l = 0))) ∧
    (∃ (p : Fin 40) (c : Nat) (f : Frame) (s : State), (s.queues = [⟨p, c, f.id⟩]) ∧ (c < 8) ∧ (s.frame f.id = some f) ∧ (f.seg = 0) ∧ (s.get SBD_QCLASS_RES_LIMIT (p * 8 + c) ≠ 0) ∧ (s.get SBD_QCLASS_RES_LIMIT (p * 8 + c) * 800 < s.get CORE_COUNT 0 - f.arrived) ∧ (s.wires = [])) ∧
    (∃ (p : Fin 40) (c : Nat) (f : Frame) (s : State), (s.queues = [⟨p, c, f.id⟩]) ∧ (c < 8) ∧ (s.frame f.id = some f) ∧ (s.get SBD_QCLASS_RES_LIMIT (p * 8 + c) = 0) ∧ (s.wires = []) ∧ (gateOpen s p c = false)) :=
  ⟨⟨.cc, 39, State.reset, by decide +kernel⟩,
   ⟨.cc, 39, (((State.reset.put LVR_BANK 39 1).put LVR_W (79 * 2048 + 2047) 7).put LVR_A_COUNT 39 1024).put LVR_A_CT 39 800, by decide +kernel⟩,
   ⟨.cc, 0, State.reset.put SBD_LVR_STAT_STATE 0 3, by decide +kernel⟩,
   ⟨.cc, 0, (State.reset.put SBD_LVR_STAT_STATE 0 2).put SBD_LVR_STAT_PEND 0 0, by decide +kernel⟩,
   ⟨.cc, 39, (State.reset.put SBD_LVR_STAT_PEND 39 0).put TMB_CTR (State.reset.get SBD_LVR_CTRL_DOM 39) (2 ^ 71), by decide +kernel⟩,
   ⟨.cc, 39, State.reset.put SBD_LVR_STAT_PEND 39 1, by decide +kernel⟩,
   ⟨39, (((((State.reset.put SBD_LVR_STAT_PEND 39 1).put LVR_AT 39 1000).put SBD_LVR_STAT_STATE 39 2).put SBD_LVR_CTRL_EN 39 1).put SBD_LVR_CTRL_COUNT 39 3).put TMB_CTR (State.reset.get SBD_LVR_CTRL_DOM 39) (1000 * 2 ^ 32), by decide +kernel⟩,
   ⟨0, ((((State.reset.put SBD_LVR_STAT_PEND 0 1).put LVR_AT 0 1000).put SBD_LVR_STAT_STATE 0 3).put SBD_LVR_CTRL_EN 0 0).put TMB_CTR (State.reset.get SBD_LVR_CTRL_DOM 0) (1000 * 2 ^ 32), by decide +kernel⟩,
   ⟨0, ((((State.reset.put SBD_LVR_STAT_PEND 0 1).put LVR_AT 0 1000).put SBD_LVR_STAT_STATE 0 0).put SBD_LVR_CTRL_EN 0 0).put TMB_CTR (State.reset.get SBD_LVR_CTRL_DOM 0) (1000 * 2 ^ 32), by decide +kernel⟩,
   ⟨1, ((((State.reset.put SBD_LVR_STAT_PEND 1 0).put LVR_NEXT 1 (2 ^ 40 - 1)).put LVR_HAVE 1 1).put SBD_LVR_CTRL_EN 1 1).put TMB_CTR (State.reset.get SBD_LVR_CTRL_DOM 1) 0, by decide +kernel⟩,
   ⟨1, (1, 8 * 320, 0x1FF), ((((((((State.reset.put LVR_BANK 1 0).put LVR_W (4096 + 1) 8).put LVR_W (4096 + 2) 0x1FF).put LVR_A_COUNT 1 2).put LVR_A_CT 1 800).put LVR_POS 1 0).put SBD_LVR_STAT_ACTIVE 1 1).put LVR_START 1 0).put TMB_CTR (State.reset.get SBD_LVR_CTRL_DOM 1) (8 * 320 * 2 ^ 32), by decide +kernel⟩,
   ⟨1, State.reset.put SBD_LVR_STAT_ACTIVE 1 0, by decide +kernel⟩,
   ⟨2, 2, 1025, { (State.reset.put SBD_LVR_STAT_STATE 2 1).put SBD_LVR_CTRL_COUNT 2 1025 with bgGrants := [.flow, .louvre 2] }, by decide +kernel⟩,
   ⟨39, State.reset.put SBD_PORT_PREEMPT_STATUS 39 1, by decide +kernel⟩,
   ⟨1023, (((State.reset.put SBD_FRER (8 * 1023) 0x202).put FRER_RUN 1023 1).put FRER_AT 1023 0).put CORE_COUNT 0 800000, by decide +kernel⟩,
   ⟨33, 5, frameDomain State.reset 33 [1, 2, 3], ⟨7, [1, 2, 3], 1, 1, 72, 0, ⟨0, 0, 0, 0, 0, none, false, false, false, false, false, false, none⟩, none, 0, none, none, false, 0⟩, [⟨33, 4, 7⟩], [⟨33, 5, 8⟩], { (((((((((State.reset.put TRK_PORT_STAT_LINK 1 1).put TRK_PORT_STAT_TX_READY 1 1).put MAC_CFG_RING_ROLE 33 0).put RDN_CFG_EN 0 0).put SBD_LVR_STAT_ACTIVE 33 0).put SBD_LVR_CTRL_EN 33 0).put SBD_LVR_CTRL_ADMIN_GATES 33 0xFF).put SBD_PORT_PREEMPT_STATUS 33 0).put LIM_PHASE 0 0).put TRK_MSEC_CFG_EN 1 0 with queues := [⟨33, 4, 7⟩, ⟨33, 5, 7⟩, ⟨33, 5, 8⟩], frames := [⟨7, [1, 2, 3], 1, 1, 72, 0, ⟨0, 0, 0, 0, 0, none, false, false, false, false, false, false, none⟩, none, 0, none, none, false, 0⟩] }, by decide +kernel⟩,
   ⟨33, 5, ⟨7, [1, 2, 3], 1, 1, 72, 0, ⟨0, 0, 0, 0, 0, none, false, false, false, false, false, false, none⟩, none, 0, none, none, false, 0⟩, { (State.reset.put SBD_QCLASS_RES_LIMIT (33 * 8 + 5) 1).put CORE_COUNT 0 801 with queues := [⟨33, 5, 7⟩], frames := [⟨7, [1, 2, 3], 1, 1, 72, 0, ⟨0, 0, 0, 0, 0, none, false, false, false, false, false, false, none⟩, none, 0, none, none, false, 0⟩], wires := [] }, by decide +kernel⟩,
   ⟨33, 5, ⟨7, [1, 2, 3], 1, 1, 72, 0, ⟨0, 0, 0, 0, 0, none, false, false, false, false, false, false, none⟩, none, 0, none, none, false, 0⟩, { ((State.reset.put SBD_QCLASS_RES_LIMIT (33 * 8 + 5) 0).put SBD_LVR_STAT_ACTIVE 33 0).put SBD_LVR_CTRL_ADMIN_GATES 33 0xDF with queues := [⟨33, 5, 7⟩], frames := [⟨7, [1, 2, 3], 1, 1, 72, 0, ⟨0, 0, 0, 0, 0, none, false, false, false, false, false, false, none⟩, none, 0, none, none, false, 0⟩], wires := [] }, by decide +kernel⟩⟩

theorem wit_FieldPortLinks :
    (∃ (q : Requester) (p : Fin 32) (v : Word) (s : State), (s.permit q .registers (macAddr 0 p) true = .yes) ∧ (v.toNat % 2 = 1) ∧ (v.toNat / 2 ^ 31 % 2 = 0) ∧ (s.get MAC_CFG_EN p = 0) ∧ (s.get MAC_CFG_LOCK p = 0) ∧ ((if p.val < 16 then v.toNat / 2 % 16 = 0 else 1 ≤ v.toNat / 2 % 16 ∧ v.toNat / 2 % 16 ≤ 6)) ∧ ((v.toNat / 2 ^ 11 % 4 = 0 ∨ v.toNat / 2 ^ 11 % 4 = 3)) ∧ ((s.get RDN_CFG_EN 0 = 0 ∨ p.val < 30))) ∧
    (∃ (q : Requester) (p : Fin 32) (v : Word) (s : State), (s.permit q .registers (macAddr 0 p) true = .yes) ∧ (v.toNat % 2 = 1) ∧ (s.get MAC_CFG_EN p = 0) ∧ (s.get MAC_CFG_LOCK p = 0) ∧ (((if p.val < 16 then v.toNat / 2 % 16 ≠ 0 else v.toNat / 2 % 16 = 0 ∨ 6 < v.toNat / 2 % 16) ∨ ((v.toNat / 2 ^ 11 % 4 = 1 ∨ v.toNat / 2 ^ 11 % 4 = 2) ∧ v.toNat / 2 ^ 13 % 32 ≠ p.val ∧ (s.get MAC_CFG_RING_PEER (v.toNat / 2 ^ 13 % 32) ≠ p.val ∨ s.get MAC_CFG_RING_ROLE (v.toNat / 2 ^ 13 % 32) ≠ v.toNat / 2 ^ 11 % 4)) ∨ (s.get RDN_CFG_EN 0 = 1 ∧ 30 ≤ p.val)))) ∧
    (∃ (q : Requester) (p : Fin 32) (v : Word) (s : State), (s.permit q .registers (macAddr 0 p) true = .yes) ∧ (v.toNat % 2 = 0) ∧ (v.toNat / 2 ^ 31 % 2 = 0) ∧ (s.get MAC_CFG_EN p = 0) ∧ (s.get MAC_CFG_LOCK p = 1)) ∧
    (∃ (p : Fin 32) (_sp : Fin 6) (_fdx : Bool) (_tx : BitVec 16) (_rx : BitVec 16) (s : State), (s.get MAC_STAT_LINK p = 0) ∧ (s.get MAC_CFG_EN p = 1) ∧ (s.domOn (if p.val < 16 then domPhy p else domSerdes p) = true) ∧ ((p.val < 16 ∨ s.get CLK_STAT_SERDES_REF_OK 0 = 1)) ∧ ((∀ k : Nat, k < 32 → s.get MAC_SCAN_STAT_STATE k = 0))) ∧
    (∃ (p : Fin 32) (_sp : Fin 6) (_fdx : Bool) (_tx : BitVec 16) (_rx : BitVec 16) (s : State), (s.get MAC_CFG_EN p = 0)) ∧
    (∃ (p : Fin 32) (s : State), (s.get MAC_STAT_LINK p = 1) ∧ ((∀ k : Nat, k < 32 → s.get MAC_SCAN_STAT_STATE k = 0))) ∧
    (∃ (p : Fin 32) (_m : Byte) (_s : State), (p.val < 16)) ∧
    (∃ (p : Fin 32) (m : Byte) (s : State), (16 ≤ p.val) ∧ (s.get MAC_STAT_LANE p = 2) ∧ (m.toNat < s.get MAC_LANE_FLOOR p) ∧ (m.toNat < s.get MAC_LANE_THRESH p) ∧ (s.get LANE_LOW p = 1)) ∧
    (∃ (p : Fin 32) (m : Byte) (s : State), (16 ≤ p.val) ∧ (s.get MAC_STAT_LANE p = 2) ∧ (s.get MAC_LANE_FLOOR p ≤ m.toNat) ∧ (m.toNat < s.get MAC_LANE_THRESH p) ∧ (s.get LANE_LOW p = 0)) ∧
    (∃ (p : Fin 32) (m : Byte) (s : State), (16 ≤ p.val) ∧ (s.get MAC_STAT_LANE p = 4) ∧ (s.get MAC_LANE_FLOOR p ≤ m.toNat) ∧ (s.get MAC_LANE_THRESH p ≤ m.toNat) ∧ (max 1 (s.get MAC_LANE_RECOVER_N p) ≤ s.get LANE_GOOD p + 1)) ∧
    (∃ (q : Requester) (p : Fin 32) (s : State), (s.permit q .registers (macAddr 0x14 p) true = .yes)) ∧
    (∃ (p : Fin 32) (s : State), (s.get LANE_REQ p = 1) ∧ (s.get MAC_STAT_LANE p = 2 ∨ s.get MAC_STAT_LANE p = 4) ∧ ((s.get SBD_LVR_CTRL_EN p = 0 ∨ protectedWithin s p (30000 * 256) = false)) ∧ ((∀ x ∈ timedWaits s p, 30000 * 256 < x))) ∧
    (∃ (p : Fin 32) (s : State), ((s.get LANE_REQ p = 0 ∨ (∃ x ∈ timedWaits s p, x ≤ 30000 * 256)))) ∧
    (∃ (p : Fin 32) (_deg : Bool) (_tx : BitVec 16) (_rx : BitVec 16) (s : State), (s.get MAC_STAT_LANE p = 3)) ∧
    (∃ (p : Fin 32) (_deg : Bool) (_tx : BitVec 16) (_rx : BitVec 16) (s : State), (s.get MAC_STAT_LANE p ≠ 3)) :=
  ⟨⟨.cc, 31, 0x7FFE_04FD &&& 0x7FFF_E7ED, ((State.reset.put RDN_CFG_EN 0 0).put MAC_CFG_EN 31 0).put MAC_CFG_LOCK 31 0, by decide +kernel⟩,
   ⟨.cc, 31, 0x1, (State.reset.put MAC_CFG_EN 31 0).put MAC_CFG_LOCK 31 0, by decide +kernel⟩,
   ⟨.cc, 0, 0x3E0, (State.reset.put MAC_CFG_EN 0 0).put MAC_CFG_LOCK 0 1, by decide +kernel⟩,
   ⟨31, 2, false, 0xFFFF, 0, (((State.reset.put MAC_CFG_EN 31 1).put MAC_CFG_MODE 31 4).put MAC_STAT_LINK 31 0).put CLK_STAT_SERDES_REF_OK 0 1, by decide +kernel⟩,
   ⟨0, 5, true, 0, 0, State.reset.put MAC_CFG_EN 0 0, by decide +kernel⟩,
   ⟨31, { State.reset.put MAC_STAT_LINK 31 1 with queues := [⟨31, 7, 3⟩, ⟨30, 7, 3⟩] }, by decide +kernel⟩,
   ⟨15, 255, State.reset, by decide +kernel⟩,
   ⟨16, 31, ((((State.reset.put MAC_STAT_LANE 16 2).put MAC_LANE_FLOOR 16 32).put MAC_LANE_THRESH 16 64).put LANE_LOW 16 1), by decide +kernel⟩,
   ⟨16, 32, ((((State.reset.put MAC_STAT_LANE 16 2).put MAC_LANE_FLOOR 16 32).put MAC_LANE_THRESH 16 64).put LANE_LOW 16 0), by decide +kernel⟩,
   ⟨16, 64, ((((State.reset.put MAC_STAT_LANE 16 4).put MAC_LANE_FLOOR 16 32).put MAC_LANE_THRESH 16 64).put LANE_GOOD 16 99).put MAC_LANE_RECOVER_N 16 100, by decide +kernel⟩,
   ⟨.cc, 16, State.reset, by decide +kernel⟩,
   ⟨31, { ((((State.reset.put LANE_REQ 31 1).put MAC_STAT_LANE 31 4).put SBD_LVR_CTRL_EN 31 0).put LIM_PHASE 0 0).put LIM_STOP 0 1 with directs := [] }, by decide +kernel⟩,
   ⟨0, State.reset.put LANE_REQ 0 0, by decide +kernel⟩,
   ⟨31, true, 1, 2, State.reset.put MAC_STAT_LANE 31 3, by decide +kernel⟩,
   ⟨31, true, 1, 2, State.reset.put MAC_STAT_LANE 31 2, by decide +kernel⟩⟩

theorem wit_FieldPortFrames :
    (∃ (r : RxFrame) (s : State), (r.port.val < 30) ∧ (s.get MAC_STAT_LINK r.port = 0)) ∧
    (∃ (r : RxFrame) (s : State), (r.port.val < 30) ∧ (s.get MAC_STAT_LINK r.port = 1) ∧ (s.get MAC_CFG_TAG_BY_COURSE r.port = 0) ∧ ((r.bytes.length < 64 ∨ max 64 (min 16000 (s.get MAC_MAXLEN_MAX_LEN r.port)) < r.bytes.length)) ∧ (s.get SBD_CTRL_EN 0 = 0) ∧ ((∀ k : Nat, k < 16 → s.get MAC_CLS (r.port * 64 + 4 * k) % 2 = 0)) ∧ (s.get MAC_CFG_RING_ROLE r.port = 0)) ∧
    (∃ (r : RxFrame) (s : State), (r.port.val < 30) ∧ (s.get MAC_STAT_LINK r.port = 1) ∧ (s.get MAC_CFG_TAG_BY_COURSE r.port = 0) ∧ (64 ≤ r.bytes.length) ∧ (r.bytes.length ≤ max 64 (min 16000 (s.get MAC_MAXLEN_MAX_LEN r.port))) ∧ (r.fcsOk = false) ∧ (s.get SBD_CTRL_EN 0 = 0) ∧ ((∀ k : Nat, k < 16 → s.get MAC_CLS (r.port * 64 + 4 * k) % 2 = 0)) ∧ (s.get MAC_CFG_RING_ROLE r.port = 0)) ∧
    (∃ (r : RxFrame) (da : List Byte) (sa : List Byte) (rest : List Byte) (s : State), (r.port.val < 30) ∧ (s.get MAC_STAT_LINK r.port = 1) ∧ (r.fcsOk = true) ∧ (r.bytes = da ++ sa ++ [0x88, 0x08, 0x00, 0x01] ++ rest) ∧ (da.length = 6) ∧ (sa.length = 6) ∧ (64 ≤ r.bytes.length) ∧ (r.bytes.length ≤ max 64 (min 16000 (s.get MAC_MAXLEN_MAX_LEN r.port)))) ∧
    (∃ (r : RxFrame) (da : List Byte) (sa : List Byte) (rest : List Byte) (e0 : Byte) (e1 : Byte) (k : Nat) (s : State) (u : State), (r.port.val < 30) ∧ (s.get MAC_STAT_LINK r.port = 1) ∧ (s.get MAC_CFG_TAG_BY_COURSE r.port = 0) ∧ (r.fcsOk = true) ∧ (r.bytes = da ++ sa ++ [e0, e1] ++ rest) ∧ (da.length = 6) ∧ (sa.length = 6) ∧ (64 ≤ r.bytes.length) ∧ (r.bytes.length ≤ max 64 (min 16000 (s.get MAC_MAXLEN_MAX_LEN r.port))) ∧ (e0.toNat * 256 + e1.toNat ∉ [0x0800, 0x86DD, 0x8100, 0x88A8, 0x8808]) ∧ (u = s.put MAC_CNT_RX_RX_OK r.port (min (s.get MAC_CNT_RX_RX_OK r.port + 1) (2 ^ 32 - 1))) ∧ (k < 16) ∧ (s.get MAC_CLS (r.port * 64 + 4 * k) % 2 = 1) ∧ (s.get MAC_CLS (r.port * 64 + 4 * k) / 2 ^ 17 % 2 = 0) ∧ (s.get MAC_CLS (r.port * 64 + 4 * k) / 2 % 4 = 0) ∧ ((s.get MAC_CLS (r.port * 64 + 4 * k) / 2 ^ 16 % 2 = 0 ∨ s.get MAC_CLS (r.port * 64 + 4 * k + 1) % 65536 = e0.toNat * 256 + e1.toNat)) ∧ ((∀ j : Nat, j < k → s.get MAC_CLS (r.port * 64 + 4 * j) % 2 = 0)) ∧ (s.get MAC_CFG_RING_ROLE r.port = 0)) ∧
    (∃ (r : RxFrame) (da : List Byte) (sa : List Byte) (rest : List Byte) (e0 : Byte) (e1 : Byte) (s : State) (u : State), (r.port.val < 30) ∧ (s.get MAC_STAT_LINK r.port = 1) ∧ (s.get MAC_CFG_TAG_BY_COURSE r.port = 0) ∧ (r.fcsOk = true) ∧ (r.bytes = da ++ sa ++ [e0, e1] ++ rest) ∧ (da.length = 6) ∧ (sa.length = 6) ∧ (64 ≤ r.bytes.length) ∧ (r.bytes.length ≤ max 64 (min 16000 (s.get MAC_MAXLEN_MAX_LEN r.port))) ∧ (e0.toNat * 256 + e1.toNat ∉ [0x0800, 0x86DD, 0x8100, 0x88A8, 0x8808]) ∧ (u = s.put MAC_CNT_RX_RX_OK r.port (min (s.get MAC_CNT_RX_RX_OK r.port + 1) (2 ^ 32 - 1))) ∧ ((∀ j : Nat, j < 16 → s.get MAC_CLS (r.port * 64 + 4 * j) % 2 = 0)) ∧ (s.hookIn = []) ∧ ((∀ n : Nat, n < 32 → s.bit CRS_OWN_PORTS n r.port = false)) ∧ ((s.get MAC_CFG_MODE r.port, s.get MAC_STAT_SPEED r.port) ∈ [(0, 1), (0, 2), (1, 2), (2, 3), (3, 2), (4, 5), (5, 5)])) ∧
    (∃ (r : RxFrame) (da : List Byte) (sa : List Byte) (rest : List Byte) (e0 : Byte) (e1 : Byte) (s : State), (r.port.val < 30) ∧ (s.get MAC_STAT_LINK r.port = 1) ∧ (s.get MAC_CFG_TAG_BY_COURSE r.port = 1) ∧ (r.fcsOk = true) ∧ (r.bytes = da ++ sa ++ [e0, e1] ++ rest) ∧ (da.length = 6) ∧ (sa.length = 6) ∧ (64 ≤ r.bytes.length) ∧ (r.bytes.length ≤ max 64 (min 16000 (s.get MAC_MAXLEN_MAX_LEN r.port))) ∧ (e0.toNat * 256 + e1.toNat ∉ [0x0800, 0x86DD, 0x8100, 0x88A8, 0x8808]) ∧ (s.hooked = [])) ∧
    (∃ (p : Fin 32) (_c : Ecc) (_e : BitVec 8) (s : State), ((∀ x ∈ s.passing, x.inPort ≠ p))) ∧
    (∃ (p : Fin 32) (_c : Ecc) (e : BitVec 8) (x : Passing) (ps : List Passing) (k : Nat) (s : State), (s.passing = x :: ps) ∧ (x ∉ ps) ∧ (x.inPort = p) ∧ (k = s.get MAC_CFG_RING_PEER p) ∧ (k < 32) ∧ (s.get MAC_STAT_TX_READY k = 1) ∧ (s.get TMB_PCFG_TC_EN p = 0) ∧ (x.tag = none) ∧ (x.bad = false) ∧ (-8 ≤ e.toInt) ∧ (e.toInt ≤ 8)) ∧
    (∃ (p : Fin 32) (_c : Ecc) (e : BitVec 8) (x : Passing) (ps : List Passing) (k : Nat) (s : State), (s.passing = x :: ps) ∧ (x ∉ ps) ∧ (x.inPort = p) ∧ (k = s.get MAC_CFG_RING_PEER p) ∧ (k < 32) ∧ (s.get MAC_STAT_TX_READY k = 1) ∧ (s.get TMB_PCFG_TC_EN p = 0) ∧ (x.tag = none) ∧ ((e.toInt < -8 ∨ 8 < e.toInt))) ∧
    (∃ (p : Fin 32) (x : Passing) (ps : List Passing) (k : Nat) (s : State), (s.passing = x :: ps) ∧ (x ∉ ps) ∧ (x.inPort = p) ∧ (k = s.get MAC_CFG_RING_PEER p) ∧ (k < 32) ∧ (s.get MAC_STAT_TX_READY k = 1) ∧ (s.get TMB_PCFG_TC_EN p = 0) ∧ (s.get RDN_CFG_EN 0 = 0) ∧ (x.bad = false) ∧ ((passOverlay x s).2.1 = 0)) :=
  ⟨⟨⟨29, [1, 2], true, 0, 0, false, 0, 0, false⟩, State.reset.put MAC_STAT_LINK 29 0, by decide +kernel⟩,
   ⟨⟨29, List.replicate 63 1, true, 0, 0, false, 0, 0, false⟩, ((State.reset.put MAC_STAT_LINK 29 1).put MAC_CNT_RX_RX_FCS 29 0).put MAC_CNT_RX_RX_LEN 29 0, by decide +kernel⟩,
   ⟨⟨29, List.replicate 64 1, false, 0, 0, false, 0, 0, false⟩, ((State.reset.put MAC_STAT_LINK 29 1).put MAC_CNT_RX_RX_FCS 29 0).put MAC_CNT_RX_RX_LEN 29 0, by decide +kernel⟩,
   ⟨⟨0, List.replicate 12 1 ++ [0x88, 0x08, 0, 1] ++ List.replicate 48 0, true, 0, 0, false, 0, 0, false⟩, List.replicate 6 1, List.replicate 6 1, List.replicate 48 0, State.reset.put MAC_STAT_LINK 0 1, by decide +kernel⟩,
   ⟨⟨0, List.replicate 12 1 ++ [0x88, 0xF7] ++ List.replicate 50 0, true, 0, 0, false, 0, 0, false⟩, List.replicate 6 1, List.replicate 6 1, List.replicate 50 0, 0x88, 0xF7, 15, ((State.reset.put MAC_STAT_LINK 0 1).put MAC_CLS 60 0x1FF01).put MAC_CLS 61 0x88F7, ((((State.reset.put MAC_STAT_LINK 0 1).put MAC_CLS 60 0x1FF01).put MAC_CLS 61 0x88F7).put MAC_CNT_RX_RX_OK 0 1), by decide +kernel⟩,
   ⟨⟨0, List.replicate 12 1 ++ [0x88, 0xF7] ++ List.replicate 50 0, true, 0, 0, false, 0, 0, false⟩, List.replicate 6 1, List.replicate 6 1, List.replicate 50 0, 0x88, 0xF7, ((State.reset.put MAC_STAT_LINK 0 1).put MAC_CFG_MODE 0 5).put MAC_STAT_SPEED 0 5, (((State.reset.put MAC_STAT_LINK 0 1).put MAC_CFG_MODE 0 5).put MAC_STAT_SPEED 0 5).put MAC_CNT_RX_RX_OK 0 1, by decide +kernel⟩,
   ⟨⟨0, List.replicate 12 1 ++ [0x88, 0xF7] ++ List.replicate 50 0, true, 0, 0, false, 0, 0, false⟩, List.replicate 6 1, List.replicate 6 1, List.replicate 50 0, 0x88, 0xF7, { (State.reset.put MAC_STAT_LINK 0 1).put MAC_CFG_TAG_BY_COURSE 0 1 with hooked := [] }, by decide +kernel⟩,
   ⟨5, .corr, 0, { State.reset with passing := [⟨6, [], none, 0, false, 0, 0, ⟨0, 0, 0⟩⟩] }, by decide +kernel⟩,
   ⟨31, .corr, 0xF8, ⟨31, List.replicate 64 1, none, 0, false, 0, 0, ⟨0, 0, 0⟩⟩, [], 16, { (State.reset.put MAC_CFG_RING_PEER 31 16).put MAC_STAT_TX_READY 16 1 with passing := [⟨31, List.replicate 64 1, none, 0, false, 0, 0, ⟨0, 0, 0⟩⟩] }, by decide +kernel⟩,
   ⟨31, .none, 9, ⟨31, List.replicate 64 1, none, 0, false, 0, 0, ⟨0, 0, 0⟩⟩, [], 16, { (State.reset.put MAC_CFG_RING_PEER 31 16).put MAC_STAT_TX_READY 16 1 with passing := [⟨31, List.replicate 64 1, none, 0, false, 0, 0, ⟨0, 0, 0⟩⟩] }, by decide +kernel⟩,
   ⟨31, ⟨31, List.replicate 64 1, some 5, 3, false, 0, 0, ⟨0, 0, 0⟩⟩, [], 16, { (State.reset.put MAC_CFG_RING_PEER 31 16).put MAC_STAT_TX_READY 16 1 with passing := [⟨31, List.replicate 64 1, some 5, 3, false, 0, 0, ⟨0, 0, 0⟩⟩] }, by decide +kernel⟩⟩

theorem wit_TimedTransmission :
    (∃ (p : Fin 32) (e : Fin 64) (b : List Byte) (s : State), (s.get LIM_PHASE 0 = 2) ∧ (s.get MAC_CYC_ON p = 1) ∧ (s.bit MAC_CYC_OK p e = true) ∧ (s.bit MAC_CYC_DONE p e = false) ∧ ((∀ a ∈ s.assembled, a.port ≠ p ∨ a.entry ≠ e)) ∧ (s.get MAC_CFG_RING_ROLE p ≠ 2) ∧ (s.get RDN_CFG_EN 0 = 0) ∧ (s.reached (s.get LIM_CYC_CTRL_DOM 0) (cycE s p e (s.get LIM_CUR 0)) = false) ∧ (b = s.bytes (sbBase + cycWord s p e 3 % 2 ^ 26) (cycWord s p e 2 % 2 ^ 14)) ∧ ((150 + ((((s.liveEntries p (s.active p)).filter (fun x => x.kind = 2 && x.frame = cycWord s p e 0 / 2 ^ 8 % 2 ^ 8)).map (fun x => (s.pairsOf x).length)).sum + 63) / 64) * 256 ≤ (cycE s p e (s.get LIM_CUR 0) + 2 ^ 40 - s.now (s.get LIM_CYC_CTRL_DOM 0)) % 2 ^ 40)) ∧
    (∃ (p : Fin 32) (e : Fin 64) (_ecc : Ecc) (s : State), ((s.get LIM_PHASE 0 ≠ 2 ∨ s.get MAC_CYC_ON p = 0 ∨ s.bit MAC_CYC_OK p e = false ∨ s.bit MAC_CYC_DONE p e = true ∨ (∃ a ∈ s.assembled, a.port = p ∧ a.entry = e) ∨ s.get MAC_CFG_RING_ROLE p = 2 ∨ s.reached (s.get LIM_CYC_CTRL_DOM 0) (cycE s p e (s.get LIM_CUR 0)) = true ∨ (cycE s p e (s.get LIM_CUR 0) + 2 ^ 40 - s.now (s.get LIM_CYC_CTRL_DOM 0)) % 2 ^ 40 < 150 * 256))) ∧
    (∃ (p : Fin 32) (e : Fin 64) (a : Assembled) (as : List Assembled) (d : Nat) (n : Nat) (s : State), (s.get LIM_PHASE 0 = 2) ∧ (s.get MAC_CYC_ON p = 1) ∧ (s.bit MAC_CYC_OK p e = true) ∧ (s.bit MAC_CYC_DONE p e = false) ∧ (s.assembled = a :: as) ∧ (a.port = p) ∧ (a.entry = e) ∧ (a.bad = false) ∧ ((∀ x ∈ as, x.port ≠ p ∨ x.entry ≠ e)) ∧ ((∀ x ∈ s.timed, x.list ≠ p ∨ x.entry ≠ e)) ∧ ((∀ w ∈ s.wires, w.port ≠ p ∧ s.get LVR_HOLD w.port = 0 ∧ (w.paused = none → s.get CORE_COUNT 0 < w.until'))) ∧ (s.get MAC_CFG_RING_ROLE p = 0) ∧ (s.get RDN_CFG_EN 0 = 0) ∧ (s.get MAC_STAT_LINK p = 1) ∧ (s.get MAC_STAT_TX_READY p = 1) ∧ (s.reached (s.get LIM_CYC_CTRL_DOM 0) (cycE s p e (s.get LIM_CUR 0)) = true) ∧ ((s.now (s.get LIM_CYC_CTRL_DOM 0) + 2 ^ 40 - cycE s p e (s.get LIM_CUR 0)) % 2 ^ 40 * 5 ≤ symbolTime s p + s.get MAC_CYC_CTRL_LATE_MAX p * 1600) ∧ (n = cycWord s p e 2 % 2 ^ 14 + 4) ∧ (gateFits s p (cycWord s p e 0 / 2 % 8) n = true) ∧ (ptpAt (withFcs a.bytes) = none) ∧ (d = frameDomain s p (withFcs a.bytes)) ∧ ((∀ k : Nat, k < 4 → s.get SBD_MIR_CFG_EN k = 0))) ∧
    (∃ (p : Fin 32) (e : Fin 64) (why : Nat) (s : State), (s.get LIM_PHASE 0 = 2) ∧ (s.get MAC_CYC_ON p = 1) ∧ (s.bit MAC_CYC_OK p e = true) ∧ (s.bit MAC_CYC_DONE p e = false) ∧ (s.wires = []) ∧ (s.get MAC_CFG_RING_ROLE p = 0) ∧ (s.get RDN_CFG_EN 0 = 0) ∧ (s.reached (s.get LIM_CYC_CTRL_DOM 0) (cycE s p e (s.get LIM_CUR 0)) = true) ∧ ((∀ x ∈ s.timed, x.list ≠ p ∨ x.entry ≠ e)) ∧ ((∀ x ∈ s.assembled, x.port = p ∧ x.entry = e)) ∧ ((s.get MAC_STAT_LINK p = 0 ∨ s.get MAC_STAT_TX_READY p = 0 ∨ symbolTime s p + s.get MAC_CYC_CTRL_LATE_MAX p * 1600 < (s.now (s.get LIM_CYC_CTRL_DOM 0) + 2 ^ 40 - cycE s p e (s.get LIM_CUR 0)) % 2 ^ 40 * 5 ∨ gateFits s p (cycWord s p e 0 / 2 % 8) (cycWord s p e 2 % 2 ^ 14 + 4) = false ∨ s.assembled = [])) ∧ (why = (if s.get MAC_STAT_LINK p = 0 then 4 else if s.get MAC_STAT_TX_READY p = 0 then 2 else if gateFits s p (cycWord s p e 0 / 2 % 8) (cycWord s p e 2 % 2 ^ 14 + 4) = false then 1 else if s.assembled = [] then 5 else 3))) ∧
    (∃ (p : Fin 32) (e : Fin 64) (s : State), (s.wires = []) ∧ ((∀ x ∈ s.timed, x.list ≠ p ∨ x.entry ≠ e)) ∧ ((s.reached (s.get LIM_CYC_CTRL_DOM 0) (cycE s p e (s.get LIM_CUR 0)) = false ∨ s.get LIM_PHASE 0 ≠ 2 ∨ s.bit MAC_CYC_DONE p e = true ∨ s.get MAC_CFG_RING_ROLE p = 2))) ∧
    (∃ (p : Fin 32) (e : Fin 64) (a : Assembled) (s : State), (s.get LIM_PHASE 0 = 2) ∧ (s.get MAC_CYC_ON p = 1) ∧ (s.bit MAC_CYC_OK p e = true) ∧ (s.bit MAC_CYC_DONE p e = false) ∧ (s.wires = []) ∧ (s.get MAC_CFG_RING_ROLE p = 0) ∧ (s.assembled = [a]) ∧ (a.port = p) ∧ (a.entry = e) ∧ ((∀ x ∈ s.timed, x.list ≠ p ∨ x.entry ≠ e)) ∧ (gateFits s p (cycWord s p e 0 / 2 % 8) (cycWord s p e 2 % 2 ^ 14 + 4) = true) ∧ (s.get RDN_CFG_EN 0 = 0) ∧ (s.reached (s.get LIM_CYC_CTRL_DOM 0) (cycE s p e (s.get LIM_CUR 0)) = true) ∧ (s.get MAC_STAT_LINK p = 1) ∧ (s.get MAC_STAT_TX_READY p = 1) ∧ (symbolTime s p + s.get MAC_CYC_CTRL_LATE_MAX p * 1600 < (s.now (s.get LIM_CYC_CTRL_DOM 0) + 2 ^ 40 - cycE s p e (s.get LIM_CUR 0)) % 2 ^ 40 * 5)) ∧
    (∃ (p : Fin 32) (x : Direct) (f : Frame) (o : TxOrigin) (d : Nat) (s : State), (s.get RDN_CFG_EN 0 = 0) ∧ (s.directs = [x]) ∧ (x.port = p) ∧ (s.reached x.dom x.launch = true) ∧ (s.frames = [f]) ∧ (f.id = x.frame) ∧ (f.origin = some o) ∧ (f.refs = 1) ∧ (f.seg = 0) ∧ (o.word2 / 2 ^ 4 % 2 = 0) ∧ (f.inPort = 72) ∧ (f.info.handle = none) ∧ (f.stamp = none) ∧ (s.wires = []) ∧ (s.queues = []) ∧ (s.get MAC_STAT_LINK p = 1) ∧ (s.get MAC_STAT_TX_READY p = 1) ∧ ((s.now x.dom + 2 ^ 40 - x.launch) % 2 ^ 40 * 5 ≤ symbolTime s p + s.get MAC_CYC_CTRL_LATE_MAX p * 1600) ∧ (gateFits s p x.cls f.bytes.length = true) ∧ (ptpAt f.bytes = none) ∧ (d = frameDomain s p f.bytes) ∧ ((∀ k : Nat, k < 4 → s.get SBD_MIR_CFG_EN k = 0))) ∧
    (∃ (l : Launch) (p : Fin 32) (x : Direct) (f : Frame) (o : TxOrigin) (s : State), (l.port = p) ∧ (s.get RDN_CFG_EN 0 = 0) ∧ (s.directs = [x]) ∧ (x.port = p) ∧ (s.reached x.dom x.launch = true) ∧ (s.frames = [f]) ∧ (f.id = x.frame) ∧ (f.origin = some o) ∧ (f.refs = 1) ∧ (f.status = 0) ∧ (s.wires = []) ∧ (x.armed = false) ∧ (s.get MAC_STAT_LINK p = 0)) ∧
    (∃ (l : Launch) (p : Fin 32) (s : State), (l.port = p) ∧ ((∀ x ∈ s.directs, x.port = p → s.reached x.dom x.launch = false)) ∧ (s.wires = [])) :=
  ⟨⟨31, 63, List.replicate 60 0, (((((((State.reset.put LIM_PHASE 0 2).put MAC_CYC_ON 31 1).put MAC_CYC_OK 31 (2 ^ 63)).put MAC_CYC_DONE 31 0).put MAC_STAT_CYC_BANK 31 1).put MAC_CYC (31 * 512 + 256 + 252) 0x501).put MAC_CYC (31 * 512 + 256 + 253) 120).put MAC_CYC (31 * 512 + 256 + 254) 60, by decide +kernel⟩,
   ⟨31, 63, .corr, State.reset.put MAC_CYC_ON 31 0, by decide +kernel⟩,
   ⟨31, 63, ⟨31, 63, [1, 2, 3], false⟩, [], frameDomain State.reset 31 (withFcs [1, 2, 3]), 64, { ((((((((((((State.reset.put LIM_PHASE 0 2).put MAC_CYC_ON 31 1).put MAC_CYC_OK 31 (2 ^ 63)).put MAC_CYC_DONE 31 0).put MAC_STAT_CYC_BANK 31 1).put MAC_CYC (31 * 512 + 256 + 252) 0x501).put MAC_CYC (31 * 512 + 256 + 253) 120).put MAC_CYC (31 * 512 + 256 + 254) 60).put MAC_STAT_LINK 31 1).put MAC_STAT_TX_READY 31 1).put TMB_CTR (State.reset.get LIM_CYC_CTRL_DOM 0) (120 * 320 * 2 ^ 32)).put SBD_LVR_CTRL_ADMIN_GATES 31 0xFF) with assembled := [⟨31, 63, [1, 2, 3], false⟩], wires := [] }, by decide +kernel⟩,
   ⟨31, 63, 4, { ((((((((State.reset.put LIM_PHASE 0 2).put MAC_CYC_ON 31 1).put MAC_CYC_OK 31 (2 ^ 63)).put MAC_CYC_DONE 31 0).put MAC_STAT_CYC_BANK 31 1).put MAC_CYC (31 * 512 + 256 + 252) 0x501).put MAC_STAT_LINK 31 0).put TMB_CTR (State.reset.get LIM_CYC_CTRL_DOM 0) (120 * 320 * 2 ^ 32)) with assembled := [], wires := [] }, by decide +kernel⟩,
   ⟨0, 0, State.reset.put MAC_CYC_DONE 0 1, by decide +kernel⟩,
   ⟨31, 63, ⟨31, 63, [1, 2, 3], false⟩, { ((((((((((((State.reset.put LIM_PHASE 0 2).put MAC_CYC_ON 31 1).put MAC_CYC_OK 31 (2 ^ 63)).put MAC_CYC_DONE 31 0).put MAC_STAT_CYC_BANK 31 1).put MAC_CYC (31 * 512 + 256 + 252) 0x501).put MAC_CYC (31 * 512 + 256 + 253) 120).put MAC_CYC (31 * 512 + 256 + 254) 60).put MAC_STAT_LINK 31 1).put MAC_STAT_TX_READY 31 1).put TMB_CTR (State.reset.get LIM_CYC_CTRL_DOM 0) (1200 * 320 * 2 ^ 32)).put SBD_LVR_CTRL_ADMIN_GATES 31 0xFF) with assembled := [⟨31, 63, [1, 2, 3], false⟩], wires := [] }, by decide +kernel⟩,
   ⟨0, ⟨0, 7, 6, 1000, 0, false⟩, ⟨7, [1, 2, 3], 1, 1, 72, 0, ⟨0, 0, 0, 0, 0, none, false, false, false, false, false, false, none⟩, some ⟨32, 0, 0, 0⟩, 0, none, none, false, 0⟩, ⟨32, 0, 0, 0⟩, frameDomain State.reset 0 [1, 2, 3], { ((((State.reset.put MAC_STAT_LINK 0 1).put MAC_STAT_TX_READY 0 1).put TMB_CTR 0 (1000 * 2 ^ 32)).put SBD_LVR_CTRL_ADMIN_GATES 0 0xFF) with directs := [⟨0, 7, 6, 1000, 0, false⟩], frames := [⟨7, [1, 2, 3], 1, 1, 72, 0, ⟨0, 0, 0, 0, 0, none, false, false, false, false, false, false, none⟩, some ⟨32, 0, 0, 0⟩, 0, none, none, false, 0⟩], wires := [], queues := [] }, by decide +kernel⟩,
   ⟨⟨0, false, .corr, .none⟩, 0, ⟨0, 7, 6, 1000, 0, false⟩, ⟨7, [1, 2, 3], 1, 1, 72, 0, ⟨0, 0, 0, 0, 0, none, false, false, false, false, false, false, none⟩, some ⟨32, 0, 0, 0⟩, 0, none, none, false, 0⟩, ⟨32, 0, 0, 0⟩, { ((State.reset.put MAC_STAT_LINK 0 0).put TMB_CTR 0 (1000 * 2 ^ 32)) with directs := [⟨0, 7, 6, 1000, 0, false⟩], frames := [⟨7, [1, 2, 3], 1, 1, 72, 0, ⟨0, 0, 0, 0, 0, none, false, false, false, false, false, false, none⟩, some ⟨32, 0, 0, 0⟩, 0, none, none, false, 0⟩], wires := [], queues := [] }, by decide +kernel⟩,
   ⟨⟨0, false, .none, .uncorr⟩, 0, { State.reset with directs := [], wires := [] }, by decide +kernel⟩⟩

theorem wit_TopologyScan :
    (∃ (q : Requester) (p : Fin 32) (b : List Byte) (s : State), (s.permit q .registers (macAddr 0x300 p) true = .yes) ∧ (s.get MAC_SCAN_STAT_STATE p ≠ 1) ∧ (s.get MAC_SCAN_STAT_STATE p ≠ 2) ∧ (s.get MAC_CFG_RING_ROLE p = 1) ∧ (s.get RDN_CFG_EN 0 = 0) ∧ (s.get MAC_STAT_LINK p = 1) ∧ (b = withFcs (putOctets (s.bytes (sbBase + s.get MAC_SCAN_TPL_OFFSET p) (s.get MAC_SCAN_TPL_LEN p)) (s.get MAC_SCAN_TPL_HOP_OFF p) [0, 1]))) ∧
    (∃ (q : Requester) (p : Fin 32) (s : State), (s.permit q .registers (macAddr 0x300 p) true = .yes) ∧ (s.get MAC_SCAN_STAT_STATE p ≠ 1) ∧ (s.get MAC_SCAN_STAT_STATE p ≠ 2) ∧ ((s.get MAC_CFG_RING_ROLE p ≠ 1 ∨ s.get MAC_STAT_LINK p = 0))) ∧
    (∃ (q : Requester) (p : Fin 32) (s : State), (s.permit q .registers (macAddr 0x300 p) true = .yes) ∧ (s.get MAC_SCAN_STAT_STATE p = 1 ∨ s.get MAC_SCAN_STAT_STATE p = 2)) ∧
    (∃ (p : Fin 32) (r : RxFrame) (h : Nat) (id : Nat) (n : Nat) (ts : Nat) (s : State), (s.get MAC_SCAN_STAT_STATE p = 1) ∧ (r.port.val = p.val) ∧ (r.fcsOk = true) ∧ (h = s.get SCAN_HOP p) ∧ (1 ≤ h) ∧ (h < 255) ∧ (h < s.get MAC_SCAN_CTRL_MAXHOP p) ∧ (be16 r.bytes (s.get MAC_SCAN_TPL_HOP_OFF p) = h) ∧ (s.get CORE_COUNT 0 ≤ s.get SCAN_END p) ∧ (id = beNum r.bytes (s.get MAC_SCAN_RSP_ID_OFF p) 6) ∧ (id ≠ 0) ∧ (s.get MAC_SCAN_CTRL_CHG_EN p = 0) ∧ (n = p * 1024 + 4 * (h - 1)) ∧ (s.get SCAN_MAP (n + 1) = 0) ∧ (ts = ingressStamp s p (frameDomain s p r.bytes) r.age r.phase)) ∧
    (∃ (p : Fin 32) (r : RxFrame) (h : Nat) (id : Nat) (n : Nat) (s : State), (s.get MAC_SCAN_STAT_STATE p = 2) ∧ (r.port.val = p.val) ∧ (r.fcsOk = true) ∧ (h = s.get SCAN_HOP p) ∧ (1 ≤ h) ∧ (h < 255) ∧ (h < s.get MAC_SCAN_CTRL_MAXHOP p) ∧ (be16 r.bytes (s.get MAC_SCAN_TPL_HOP_OFF p) = h) ∧ (s.get CORE_COUNT 0 ≤ s.get SCAN_END p) ∧ (id = beNum r.bytes (s.get MAC_SCAN_RSP_ID_OFF p) 6) ∧ (id ≠ 0) ∧ (s.get MAC_SCAN_CTRL_CHG_EN p = 0) ∧ (n = p * 1024 + 4 * (h - 1)) ∧ (s.get SCAN_MAP n = id % 2 ^ 32) ∧ (s.get SCAN_MAP (n + 1) = id / 2 ^ 32 + h * 2 ^ 16 + p * 2 ^ 24 + 2 ^ 29)) ∧
    (∃ (p : Fin 32) (r : RxFrame) (s : State), (s.get MAC_SCAN_STAT_STATE p = 2) ∧ (r.port.val = p.val) ∧ (r.fcsOk = true) ∧ (be16 r.bytes (s.get MAC_SCAN_TPL_HOP_OFF p) = s.get SCAN_HOP p) ∧ (s.get CORE_COUNT 0 ≤ s.get SCAN_END p) ∧ (beNum r.bytes (s.get MAC_SCAN_RSP_ID_OFF p) 6 = 0)) ∧
    (∃ (p : Fin 32) (r : RxFrame) (s : State), (s.get MAC_SCAN_STAT_STATE p = 1 ∨ s.get MAC_SCAN_STAT_STATE p = 2) ∧ (r.port.val = s.get MAC_CFG_RING_PEER p) ∧ (r.fcsOk = true) ∧ (be16 r.bytes (s.get MAC_SCAN_TPL_HOP_OFF p) = s.get SCAN_HOP p) ∧ (s.get CORE_COUNT 0 ≤ s.get SCAN_END p) ∧ (beNum r.bytes (s.get MAC_SCAN_RSP_ID_OFF p) 6 ≠ 0) ∧ (s.get MAC_SCAN_CTRL_CHG_EN p = 1) ∧ ((r.bytes.getD (s.get MAC_SCAN_RSP_CHG_OFF p) 0).toNat % 2 = 1)) ∧
    (∃ (p : Fin 32) (r : RxFrame) (s : State), ((be16 r.bytes (s.get MAC_SCAN_TPL_HOP_OFF p) ≠ s.get SCAN_HOP p ∨ s.get MAC_SCAN_STAT_STATE p = 0 ∨ s.get SCAN_END p < s.get CORE_COUNT 0 ∨ r.fcsOk = false ∨ (r.port.val ≠ p.val ∧ r.port.val ≠ s.get MAC_CFG_RING_PEER p)))) ∧
    (∃ (p : Fin 32) (b : List Byte) (s : State), (s.get MAC_SCAN_STAT_STATE p = 1) ∧ (s.get SCAN_END p ≤ s.get CORE_COUNT 0) ∧ (s.get MAC_SCAN_STAT_FROM_PORT p = p) ∧ (b = withFcs (putOctets (s.bytes (sbBase + s.get MAC_SCAN_TPL_OFFSET p) (s.get MAC_SCAN_TPL_LEN p)) (s.get MAC_SCAN_TPL_HOP_OFF p) [0, 1]))) ∧
    (∃ (p : Fin 32) (s : State), (s.get MAC_SCAN_STAT_STATE p = 2) ∧ (s.get SCAN_END p ≤ s.get CORE_COUNT 0)) ∧
    (∃ (p : Fin 32) (s : State), (s.get CORE_COUNT 0 < s.get SCAN_END p)) ∧
    (∃ (q : Requester) (p : Fin 32) (n : Fin 256) (_v : Word) (s : State), (s.permit q .registers (macAddr (0x1000 + 16 * n.val + 12) p) true = .yes)) :=
  ⟨⟨.cc, 31, withFcs (putOctets (State.reset.bytes (sbBase + State.reset.get MAC_SCAN_TPL_OFFSET 31) (State.reset.get MAC_SCAN_TPL_LEN 31)) (State.reset.get MAC_SCAN_TPL_HOP_OFF 31) [0, 1]), ((((((State.reset.put SBD_POOL_FREE 0 65536).put SBD_POOL_TOTAL 0 65536).put SBD_QCLASS_MIN 248 100).put MAC_SCAN_STAT_STATE 31 0).put MAC_CFG_RING_ROLE 31 1).put RDN_CFG_EN 0 0).put MAC_STAT_LINK 31 1, by decide +kernel⟩,
   ⟨.cc, 31, (State.reset.put MAC_SCAN_STAT_STATE 31 0).put MAC_CFG_RING_ROLE 31 2, by decide +kernel⟩,
   ⟨.cc, 31, State.reset.put MAC_SCAN_STAT_STATE 31 2, by decide +kernel⟩,
   ⟨31, ⟨31, [0, 254, 0, 0, 0, 0, 0, 7], true, 0, 0, false, 9, 5, false⟩, 254, 7, 31 * 1024 + 4 * 253, ingressStamp State.reset 31 (frameDomain State.reset 31 [0, 254, 0, 0, 0, 0, 0, 7]) 9 5, ((((((((State.reset.put MAC_SCAN_STAT_STATE 31 1).put SCAN_HOP 31 254).put MAC_SCAN_CTRL_MAXHOP 31 255).put MAC_SCAN_TPL_HOP_OFF 31 0).put SCAN_END 31 0).put CORE_COUNT 0 0).put MAC_SCAN_RSP_ID_OFF 31 2).put MAC_SCAN_CTRL_CHG_EN 31 0).put SCAN_MAP (31 * 1024 + 4 * 253 + 1) 0, by decide +kernel⟩,
   ⟨31, ⟨31, [0, 254, 0, 0, 0, 0, 0, 7], true, 0, 0, false, 0, 5, false⟩, 254, 7, 31 * 1024 + 4 * 253, (((((((((State.reset.put MAC_SCAN_STAT_STATE 31 2).put SCAN_HOP 31 254).put MAC_SCAN_CTRL_MAXHOP 31 255).put MAC_SCAN_TPL_HOP_OFF 31 0).put SCAN_END 31 0).put CORE_COUNT 0 0).put MAC_SCAN_RSP_ID_OFF 31 2).put MAC_SCAN_CTRL_CHG_EN 31 0).put SCAN_MAP (31 * 1024 + 4 * 253 + 1) (254 * 2 ^ 16 + 31 * 2 ^ 24 + 2 ^ 29)).put SCAN_MAP (31 * 1024 + 4 * 253) 7, by decide +kernel⟩,
   ⟨31, ⟨31, [0, 1, 0, 0, 0, 0, 0, 0], true, 0, 0, false, 0, 5, false⟩, ((((((State.reset.put MAC_SCAN_STAT_STATE 31 2).put SCAN_HOP 31 1).put MAC_SCAN_TPL_HOP_OFF 31 0).put SCAN_END 31 0).put CORE_COUNT 0 0).put MAC_SCAN_RSP_ID_OFF 31 2), by decide +kernel⟩,
   ⟨31, ⟨16, [0, 1, 0, 0, 0, 0, 0, 1], true, 0, 0, false, 0, 5, false⟩, (((((((((State.reset.put MAC_SCAN_STAT_STATE 31 2).put SCAN_HOP 31 1).put MAC_SCAN_TPL_HOP_OFF 31 0).put SCAN_END 31 0).put CORE_COUNT 0 0).put MAC_SCAN_RSP_ID_OFF 31 2).put MAC_SCAN_RSP_CHG_OFF 31 7).put MAC_SCAN_CTRL_CHG_EN 31 1).put MAC_CFG_RING_PEER 31 16).put MAC_SCAN_STAT_RESTARTED 31 0, by decide +kernel⟩,
   ⟨0, ⟨0, [0, 1], true, 0, 0, false, 0, 5, false⟩, (State.reset.put SCAN_HOP 0 1).put MAC_SCAN_STAT_STATE 0 0, by decide +kernel⟩,
   ⟨31, withFcs (putOctets (State.reset.bytes (sbBase + State.reset.get MAC_SCAN_TPL_OFFSET 31) (State.reset.get MAC_SCAN_TPL_LEN 31)) (State.reset.get MAC_SCAN_TPL_HOP_OFF 31) [0, 1]), ((((((((State.reset.put SBD_POOL_FREE 0 65536).put SBD_POOL_TOTAL 0 65536).put SBD_QCLASS_MIN 248 100).put MAC_SCAN_STAT_STATE 31 1).put SCAN_END 31 100).put CORE_COUNT 0 100).put MAC_SCAN_STAT_FROM_PORT 31 31).put MAC_STAT_LINK 31 1), by decide +kernel⟩,
   ⟨31, ((State.reset.put MAC_SCAN_STAT_STATE 31 2).put SCAN_END 31 100).put CORE_COUNT 0 100, by decide +kernel⟩,
   ⟨31, (State.reset.put SCAN_END 31 100).put CORE_COUNT 0 99, by decide +kernel⟩,
   ⟨.cc, 31, 255, 0xFFFF_FFFF, State.reset.put SCAN_MAP (31 * 1024 + 4 * 255 + 1) (2 ^ 31), by decide +kernel⟩⟩

theorem wit_TrunkPortsAndLanes :
    (∃ (q : Requester) (g : Fin 2) (v : Word) (s : State), (s.permit q .registers (0x4070_0010 + 16 * g.val) true = .yes) ∧ (s.get TRK_GRP_CFG_EN g = 1) ∧ (v.toNat % 2 = 1) ∧ (s.get TRK_SLICE_TAG_LOCK 0 = 0) ∧ (v.toNat / 2 % 2 ≠ s.get TRK_GRP_CFG_SPLIT g)) ∧
    (∃ (q : Requester) (g : Fin 2) (_v : Word) (s : State), (s.permit q .registers (0x4070_0010 + 16 * g.val) true = .yes) ∧ (s.get TRK_GRP_CFG_EN g = 0) ∧ (s.get TRK_SLICE_TAG_LOCK 0 = 0) ∧ ((∀ k : Nat, k < 8 → s.get TRK_PORT_STAT_LINK k = 0))) ∧
    (∃ (q : Requester) (l : Fin 8) (v : Word) (s : State), (s.permit q .registers (trkPortAddr 0 l) true = .yes) ∧ (v.toNat % 2 = 1) ∧ (s.get TRK_PORT_CFG_EN l = 0) ∧ (s.get TRK_GRP_CFG_SPLIT (l / 4) = 0) ∧ (s.get TRK_GRP_CFG_EN (l / 4) = 1) ∧ (s.domOn (domTrunk (l / 4)) = true) ∧ (s.get CLK_STAT_SERDES_REF_OK 0 = 1) ∧ (s.get TRK_SLICE_TAG_LOCK 0 = 0) ∧ ((s.get TRK_LANE_CFG_IF l ≠ 2 ∨ 2 ≤ s.get TRK_LANE_CFG_RATE l))) ∧
    (∃ (q : Requester) (l : Fin 8) (v : Word) (s : State), (s.permit q .registers (trkPortAddr 0 l) true = .yes) ∧ (v.toNat % 2 = 1) ∧ (s.get TRK_PORT_CFG_EN l = 0) ∧ (s.get TRK_GRP_CFG_SPLIT (l / 4) = 0) ∧ (s.get TRK_LANE_CFG_IF l = 2) ∧ (s.get TRK_LANE_CFG_RATE l < 2)) ∧
    (∃ (k : Fin 8) (s : State), (s.get TRK_LANE_STAT_LANE k = 1) ∧ (s.get TRK_LANE_STAT_SYNTH_LOCK k = 0) ∧ (s.get SYNTH_SINCE k + 800000 ≤ s.get CORE_COUNT 0)) ∧
    (∃ (k : Fin 8) (s : State), (s.get SYNTH_FAILED k = 1) ∧ (s.get SYNTH_SINCE k + 80000000 ≤ s.get CORE_COUNT 0)) ∧
    (∃ (k : Fin 8) (s : State), (s.get CORE_COUNT 0 < s.get SYNTH_SINCE k + 800000)) ∧
    (∃ (k : Fin 8) (s : State), (s.get SYNTH_FAILED k = 0) ∧ (s.get TRK_LANE_STAT_SYNTH_LOCK k = 1)) ∧
    (∃ (l : Fin 8) (_rate : Fin 3) (_tx : BitVec 16) (_rx : BitVec 16) (s : State), (s.get TRK_GRP_CFG_SPLIT (l / 4) = 0) ∧ (s.get TRK_PORT_CFG_EN l = 1) ∧ (s.get TRK_PORT_STAT_LINK l = 0) ∧ (s.get TRK_LANE_STAT_LANE l = 1)) ∧
    (∃ (l : Fin 8) (_rate : Fin 3) (_tx : BitVec 16) (_rx : BitVec 16) (s : State), (s.get TRK_PORT_CFG_EN l = 0 ∨ s.get TRK_PORT_STAT_LINK l = 1)) ∧
    (∃ (k : Fin 8) (s : State), (s.get TRK_LANE_STAT_LANE k = 1) ∧ (s.get TRK_LANE_CFG_FALLBACK k = 1) ∧ (s.get TRK_LANE_CFG_AN_EN k = 0) ∧ (s.get TRK_GRP_CFG_SPLIT (k / 4) = 0) ∧ (s.get TRK_LANE_CFG_IF k ≠ 2)) ∧
    (∃ (k : Fin 8) (s : State), ((s.get TRK_LANE_STAT_LANE k ≠ 1 ∨ s.get TRK_LANE_CFG_FALLBACK k = 0 ∨ s.get TRK_LANE_CFG_AN_EN k = 1 ∨ s.get TRK_LANE_CFG_IF k = 2))) ∧
    (∃ (l : Fin 8) (s : State), (l.val % 4 = 0) ∧ (s.get TRK_GRP_CFG_SPLIT (l / 4) = 1) ∧ (s.get TRK_PORT_STAT_ALIGNED l = 1) ∧ (s.get TRK_PORT_STAT_LINK l = 1)) ∧
    (∃ (l : Fin 8) (s : State), (s.get TRK_GRP_CFG_SPLIT (l / 4) = 0)) ∧
    (∃ (l : Fin 8) (s : State), (s.get TRK_PORT_STAT_LINK l = 1) ∧ (s.get TRK_GRP_CFG_SPLIT (l / 4) = 0)) ∧
    (∃ (k : Fin 8) (m : Byte) (s : State), (s.get TRK_GRP_CFG_SPLIT (k / 4) = 0) ∧ (s.get TRK_LANE_STAT_LANE k = 2) ∧ (m.toNat < s.get TRK_LANE_THR_FLOOR k)) ∧
    (∃ (k : Fin 8) (m : Byte) (s : State), (s.get TRK_GRP_CFG_SPLIT (k / 4) = 0) ∧ (s.get TRK_LANE_STAT_LANE k = 2) ∧ (s.get TRK_LANE_THR_FLOOR k ≤ m.toNat) ∧ (m.toNat < s.get TRK_LANE_THR_THRESH k) ∧ (s.get LANE_LOW (32 + k) = 0)) ∧
    (∃ (k : Fin 8) (m : Byte) (_corr : Word) (uncorr : Word) (s : State), (s.get TRK_GRP_CFG_SPLIT (k / 4) = 0) ∧ (s.get TRK_LANE_STAT_LANE k = 2) ∧ (s.get TRK_LANE_THR_FLOOR k ≤ m.toNat) ∧ (s.get TRK_LANE_THR_THRESH k ≤ m.toNat) ∧ (max 1 (s.get TRK_PORT_CFG_UNCORR_MAX k) ≤ uncorr.toNat)) ∧
    (∃ (k : Fin 8) (m : Byte) (s : State), (s.get TRK_GRP_CFG_SPLIT (k / 4) = 0) ∧ (s.get TRK_LANE_STAT_LANE k = 4) ∧ (s.get TRK_LANE_THR_FLOOR k ≤ m.toNat) ∧ (s.get TRK_LANE_THR_THRESH k ≤ m.toNat) ∧ (max 1 (s.get TRK_LANE_THR_RECOVER_N k) ≤ s.get LANE_GOOD (32 + k) + 1)) ∧
    (∃ (q : Requester) (k : Fin 8) (s : State), (s.permit q .registers (trkLaneAddr 8 k) true = .yes)) ∧
    (∃ (q : Requester) (k : Fin 8) (v : Word) (s : State), (s.permit q .registers (trkLaneAddr 0 k) true = .yes) ∧ (s.get TRK_SLICE_TAG_LOCK 0 = 1) ∧ (s.get TRK_GRP_CFG_SPLIT (k / 4) = 0) ∧ (v.toNat % 4 ≠ s.get TRK_LANE_CFG_RATE k) ∧ (s.get TRK_LANE_CFG_IF k ≠ 2)) ∧
    (∃ (k : Fin 8) (s : State), (s.get TRK_GRP_CFG_SPLIT (k / 4) = 0) ∧ ((s.get LANE_REQ (32 + k) = 1 ∨ s.get RATE_REQ k = 1)) ∧ (s.get TRK_LANE_STAT_LANE k = 2 ∨ s.get TRK_LANE_STAT_LANE k = 4) ∧ (s.get SBD_LVR_CTRL_EN (32 + k) = 0) ∧ ((∀ x ∈ timedWaits s (32 + k), 50000 * 256 < x))) ∧
    (∃ (k : Fin 8) (s : State), ((timedWaits s (32 + portOfLane s k)).any (fun x => decide (x ≤ 50000 * 256)) = true)) ∧
    (∃ (k : Fin 8) (_deg : Bool) (_rate : Fin 3) (_tx : BitVec 16) (_rx : BitVec 16) (s : State), (s.get TRK_GRP_CFG_SPLIT (k / 4) = 0) ∧ (s.get TRK_LANE_STAT_LANE k = 3)) ∧
    (∃ (k : Fin 8) (_deg : Bool) (_rate : Fin 3) (_tx : BitVec 16) (_rx : BitVec 16) (s : State), (s.get TRK_LANE_STAT_LANE k = 2)) :=
  ⟨⟨.cc, 1, 3, ((State.reset.put TRK_GRP_CFG_EN 1 1).put TRK_GRP_CFG_SPLIT 1 0).put TRK_SLICE_TAG_LOCK 0 0, by decide +kernel⟩,
   ⟨.cc, 1, 1, State.reset.put TRK_GRP_CFG_EN 1 0, by decide +kernel⟩,
   ⟨.cc, 7, 0xFFFFFFFF, ((((State.reset.put TRK_GRP_CFG_EN 1 1).put TRK_GRP_CFG_SPLIT 1 0).put TRK_LANE_CFG_IF 7 2).put TRK_LANE_CFG_RATE 7 2).put CLK_STAT_SERDES_REF_OK 0 1, by decide +kernel⟩,
   ⟨.cc, 7, 1, (State.reset.put TRK_LANE_CFG_IF 7 2).put TRK_LANE_CFG_RATE 7 1, by decide +kernel⟩,
   ⟨7, (State.reset.put TRK_LANE_STAT_LANE 7 1).put CORE_COUNT 0 800000, by decide +kernel⟩,
   ⟨7, (State.reset.put SYNTH_FAILED 7 1).put CORE_COUNT 0 80000000, by decide +kernel⟩,
   ⟨7, State.reset.put SYNTH_SINCE 7 1, by decide +kernel⟩,
   ⟨7, (State.reset.put SYNTH_FAILED 7 0).put TRK_LANE_STAT_SYNTH_LOCK 7 1, by decide +kernel⟩,
   ⟨7, 1, 0xFFFF, 1, ((State.reset.put TRK_PORT_CFG_EN 7 1).put TRK_LANE_STAT_LANE 7 1).put TRK_LANE_CFG_AN_EN 7 1, by decide +kernel⟩,
   ⟨7, 1, 0xFFFF, 1, State.reset.put TRK_PORT_STAT_LINK 7 1, by decide +kernel⟩,
   ⟨7, ((((State.reset.put TRK_LANE_STAT_LANE 7 1).put TRK_LANE_CFG_FALLBACK 7 1).put TRK_LANE_CFG_AN_EN 7 0).put TRAIN_FAILS 7 2).put TRAIN_RATE 7 3, by decide +kernel⟩,
   ⟨7, State.reset.put TRK_LANE_STAT_LANE 7 2, by decide +kernel⟩,
   ⟨4, { ((State.reset.put TRK_GRP_CFG_SPLIT 1 1).put TRK_PORT_STAT_ALIGNED 4 1).put TRK_PORT_STAT_LINK 4 1 with queues := [⟨36, 1, 1⟩, ⟨37, 1, 1⟩] }, by decide +kernel⟩,
   ⟨7, State.reset.put TRK_GRP_CFG_SPLIT 1 0, by decide +kernel⟩,
   ⟨7, State.reset.put TRK_PORT_STAT_LINK 7 1, by decide +kernel⟩,
   ⟨7, 23, (State.reset.put TRK_LANE_STAT_LANE 7 2).put TRK_LANE_THR_FLOOR 7 24, by decide +kernel⟩,
   ⟨7, 24, ((State.reset.put TRK_LANE_STAT_LANE 7 2).put TRK_LANE_THR_FLOOR 7 24).put TRK_LANE_THR_THRESH 7 48, by decide +kernel⟩,
   ⟨7, 48, 0xFFFFFFFF, 4, (((State.reset.put TRK_LANE_STAT_LANE 7 2).put TRK_LANE_THR_FLOOR 7 24).put TRK_LANE_THR_THRESH 7 48).put TRK_PORT_CFG_UNCORR_MAX 7 4, by decide +kernel⟩,
   ⟨7, 48, (((State.reset.put TRK_LANE_STAT_LANE 7 4).put TRK_LANE_THR_FLOOR 7 24).put TRK_LANE_THR_THRESH 7 48).put TRK_LANE_THR_RECOVER_N 7 0, by decide +kernel⟩,
   ⟨.cc, 7, State.reset, by decide +kernel⟩,
   ⟨.cc, 7, 1, (State.reset.put TRK_SLICE_TAG_LOCK 0 1).put TRK_PORT_CFG_EN 7 1, by decide +kernel⟩,
   ⟨7, { (State.reset.put RATE_REQ 7 1).put TRK_LANE_STAT_LANE 7 2 with directs := [] }, by decide +kernel⟩,
   ⟨0, { State.reset with directs := [⟨32, 0, 0, 0, 0, false⟩] }, by decide +kernel⟩,
   ⟨7, true, 1, 2, 3, State.reset.put TRK_LANE_STAT_LANE 7 3, by decide +kernel⟩,
   ⟨7, true, 1, 2, 3, State.reset.put TRK_LANE_STAT_LANE 7 2, by decide +kernel⟩⟩

theorem wit_SlicesAndMacsec :
    (∃ (e : Fin 64) (k : Nat) (n : Nat) (l : Nat) (b : Nat) (s : State), (k = s.get SLICE_GOT e) ∧ (n = sliceSlots (sliceWord s e 1 / 2 ^ 18 % 2 ^ 12) k) ∧ (l = sliceWord s e 0 / 2 ^ 4 % 2 ^ 3) ∧ (b = (sliceE s e k (s.get LIM_CUR 0) + 2 ^ 40 - (150 + (33 * n + 63) / 64) * 256) % 2 ^ 40) ∧ (s.get LIM_PHASE 0 = 2) ∧ (sliceWord s e 0 % 2 = 1) ∧ (480 * k < sliceWord s e 1 / 2 ^ 18 % 2 ^ 12) ∧ (s.get TRK_GRP_CFG_SPLIT (l / 4) = 0) ∧ (s.get TRK_PORT_CFG_EN l = 1) ∧ (s.get TRK_PORT_CFG_SLICE_EN l = 1) ∧ (s.get RDN_CFG_EN 0 = 0) ∧ (s.reached (s.get LIM_CYC_CTRL_DOM 0) b = true) ∧ ((s.now (s.get LIM_CYC_CTRL_DOM 0) + 2 ^ 40 - b) % 2 ^ 40 ≤ 320)) ∧
    (∃ (e : Fin 64) (_torn : List Nat) (_ecc : List (Nat × Ecc)) (s : State), ((s.get LIM_PHASE 0 ≠ 2 ∨ sliceWord s e 0 % 2 = 0 ∨ s.get TRK_PORT_CFG_SLICE_EN (sliceWord s e 0 / 2 ^ 4 % 2 ^ 3) = 0))) ∧
    (∃ (e : Fin 64) (k : Nat) (n : Nat) (l : Nat) (c : Nat) (E : Nat) (d : Nat) (x : SliceRead) (xs : List SliceRead) (s : State), (k = s.get SLICE_SENT e) ∧ (n = sliceSlots (sliceWord s e 1 / 2 ^ 18 % 2 ^ 12) k) ∧ (l = sliceWord s e 0 / 2 ^ 4 % 2 ^ 3) ∧ (c = sliceWord s e 0 / 2 ^ 16 % 2 ^ 3) ∧ (E = sliceE s e k (s.get LIM_CUR 0)) ∧ (s.get LIM_PHASE 0 = 2) ∧ (sliceWord s e 0 % 2 = 1) ∧ (480 * k < sliceWord s e 1 / 2 ^ 18 % 2 ^ 12) ∧ (s.get TRK_GRP_CFG_SPLIT (l / 4) = 0) ∧ (s.get TRK_PORT_CFG_EN l = 1) ∧ (s.get TRK_PORT_CFG_SLICE_EN l = 1) ∧ (s.get RDN_CFG_EN 0 = 0) ∧ (s.get TRK_MSEC_CFG_EN l = 0) ∧ (s.reached (s.get LIM_CYC_CTRL_DOM 0) E = true) ∧ ((s.now (s.get LIM_CYC_CTRL_DOM 0) + 2 ^ 40 - E) % 2 ^ 40 * 5 ≤ 10240000 / portRate s (32 + l)) ∧ (s.get TRK_PORT_STAT_LINK l = 1) ∧ (s.get TRK_PORT_STAT_TX_READY l = 1) ∧ (gateFits s (32 + l) c (sliceLen n + 4) = true) ∧ (s.wires = []) ∧ (s.sliceReads = x :: xs) ∧ (x.entry = e) ∧ (x.k = k) ∧ ((∀ y ∈ xs, y.entry ≠ e)) ∧ (ptpAt (withFcs x.bytes) = none) ∧ (d = frameDomain s (32 + l) (withFcs x.bytes)) ∧ ((∀ j : Nat, j < 4 → s.get SBD_MIR_CFG_EN j = 0))) ∧
    (∃ (e : Fin 64) (k : Nat) (n : Nat) (l : Nat) (c : Nat) (E : Nat) (why : Nat) (s : State), (k = s.get SLICE_SENT e) ∧ (n = sliceSlots (sliceWord s e 1 / 2 ^ 18 % 2 ^ 12) k) ∧ (l = sliceWord s e 0 / 2 ^ 4 % 2 ^ 3) ∧ (c = sliceWord s e 0 / 2 ^ 16 % 2 ^ 3) ∧ (E = sliceE s e k (s.get LIM_CUR 0)) ∧ (s.get LIM_PHASE 0 = 2) ∧ (sliceWord s e 0 % 2 = 1) ∧ (480 * k < sliceWord s e 1 / 2 ^ 18 % 2 ^ 12) ∧ (s.get TRK_GRP_CFG_SPLIT (l / 4) = 0) ∧ (s.get RDN_CFG_EN 0 = 0) ∧ (s.get TRK_MSEC_CFG_EN l = 0) ∧ (s.reached (s.get LIM_CYC_CTRL_DOM 0) E = true) ∧ (s.wires = []) ∧ (s.sliceReads = []) ∧ (why = (if s.get TRK_PORT_CFG_EN l = 0 ∨ s.get TRK_PORT_CFG_SLICE_EN l = 0 then 6 else if s.get TRK_PORT_STAT_LINK l = 0 then 4 else if s.get TRK_PORT_STAT_TX_READY l = 0 then 2 else if gateFits s (32 + l) c (sliceLen n + 4) = false then 1 else if 10240000 / portRate s (32 + l) < (s.now (s.get LIM_CYC_CTRL_DOM 0) + 2 ^ 40 - E) % 2 ^ 40 * 5 then 3 else 5))) ∧
    (∃ (e : Fin 64) (s : State), (s.wires = []) ∧ ((s.get LIM_PHASE 0 ≠ 2 ∨ sliceWord s e 0 % 2 = 0 ∨ s.reached (s.get LIM_CYC_CTRL_DOM 0) (sliceE s e (s.get SLICE_SENT e) (s.get LIM_CUR 0)) = false))) ∧
    (∃ (r : RxFrame) (l : Nat) (s : State), (32 ≤ r.port.val) ∧ (l = r.port.val - 32) ∧ (s.get TRK_PORT_STAT_LINK l = 1) ∧ (r.fcsOk = true) ∧ (64 ≤ r.bytes.length) ∧ (r.bytes.length ≤ max 64 (min 16000 (s.get TRK_PORT_CFG_MAX_LEN l))) ∧ (s.get TRK_MSEC_CFG_EN l = 0) ∧ (trunkSubtype s r.bytes = 0x5C) ∧ (s.get TRK_PORT_CFG_SLICE_EN l = 1) ∧ (2 ≤ s.get TRK_PORT_CFG_FACING l) ∧ (r.crossed = 0) ∧ (etype r.bytes ≠ 0x8808)) ∧
    (∃ (r : RxFrame) (l : Nat) (s : State) (u : State), (32 ≤ r.port.val) ∧ (l = r.port.val - 32) ∧ (s.get TRK_PORT_STAT_LINK l = 1) ∧ (r.fcsOk = true) ∧ (64 ≤ r.bytes.length) ∧ (r.bytes.length ≤ max 64 (min 16000 (s.get TRK_PORT_CFG_MAX_LEN l))) ∧ (s.get TRK_MSEC_CFG_EN l = 1) ∧ (etype r.bytes ≠ 0x888E) ∧ (2 ≤ s.get TRK_MSEC_CFG_VALIDATE l) ∧ ((be16 r.bytes 12 ≠ 0x88E5 ∨ (∀ i : Nat, i < 16 → s.bit TRK_MSEC_SA_RX_SA l i = false))) ∧ (u = s.put TRK_CNT_RX_RX_OK l (min (s.get TRK_CNT_RX_RX_OK l + 1) (2 ^ 32 - 1)))) ∧
    (∃ (s : State), (s.sliceIn = [])) ∧
    (∃ (x : SliceIn) (xs : List SliceIn) (s : State), (s.sliceIn = x :: xs) ∧ (payloadWord x.frame.bytes 0 / 2 ^ 16 ≠ s.get DEV_HUB_LINE_ID 0)) ∧
    (∃ (x : SliceIn) (xs : List SliceIn) (s : State), (s.sliceIn = x :: xs) ∧ (payloadWord x.frame.bytes 0 / 2 ^ 16 = s.get DEV_HUB_LINE_ID 0) ∧ ((payloadWord x.frame.bytes 2 ≠ x.cycle ∨ s.slots = 0 ∨ (∀ k : Nat, k < 64 → sliceWordIn s x.bank (64 + k) 0 % 2 = 0)))) ∧
    (∃ (x : SliceIn) (xs : List SliceIn) (e : Nat) (n : Nat) (s : State), (s.sliceIn = x :: xs) ∧ (payloadWord x.frame.bytes 0 / 2 ^ 16 = s.get DEV_HUB_LINE_ID 0) ∧ (sliceRxEntry s x.bank (payloadWord x.frame.bytes 1 % 2 ^ 6) (payloadWord x.frame.bytes 1 / 2 ^ 24 % 2 ^ 8) = some e) ∧ (payloadWord x.frame.bytes 2 = x.cycle) ∧ (x.cycle = s.get LIM_CYC_NUM_NUM 0) ∧ (x.frame.crossed = 0) ∧ (x.frame.late = false) ∧ (x.good = true) ∧ (payloadWord x.frame.bytes 3 % 2 ^ 18 = 0) ∧ (n = payloadWord x.frame.bytes 3 / 2 ^ 18 % 2 ^ 9) ∧ (payloadWord x.frame.bytes 3 / 2 ^ 31 % 2 = 0) ∧ (n ≤ sliceWordIn s x.bank e 1 / 2 ^ 18 % 2 ^ 12) ∧ (sliceWordIn s x.bank e 1 % 2 ^ 18 + n ≤ s.slots) ∧ (sliceLen n + 4 ≤ x.frame.bytes.length)) ∧
    (∃ (l : Fin 8) (_tx : Bool) (_chan : Fin 4) (_an : Fin 4) (s : State), ((∀ m ∈ s.mkas, m.port ≠ l))) ∧
    (∃ (l : Fin 8) (_tx : Bool) (_chan : Fin 4) (_an : Fin 4) (m : Mka) (s : State), (s.mkas.find? (fun x => x.port = l.val) = some m) ∧ (s.get PCS_STAT_STATE 0 ≠ pcsReady)) ∧
    (∃ (l : Fin 8) (_tx : Bool) (_chan : Fin 4) (_an : Fin 4) (m : Mka) (s : State), (s.mkas.find? (fun x => x.port = l.val) = some m) ∧ (s.get PCS_STAT_DRBG_OK 0 = 0)) ∧
    (∃ (l : Fin 8) (tx : Bool) (chan : Fin 4) (an : Fin 4) (m : Mka) (sa : Nat) (k : SaKey) (s : State), (s.get TRK_GRP_CFG_SPLIT (l / 4) = 0) ∧ (s.mkas.find? (fun x => x.port = l.val) = some m) ∧ (m.port = l) ∧ (s.get PCS_STAT_STATE 0 = pcsReady) ∧ (s.get PCS_STAT_DRBG_OK 0 = 1) ∧ (sa = (if tx then 16 + an.val else 4 * chan.val + an.val)) ∧ (k = newSaKey l sa m.kek (s.fresh.testBit 0) s.used.fresh)) ∧
    (∃ (l : Fin 8) (_chan : Fin 4) (_an : Fin 4) (s : State), (s.get TRK_MSEC_SA_RX_SA l < 2 ^ 16)) ∧
    (∃ (l : Fin 8) (an : Fin 4) (s : State), (s.bit TRK_MSEC_SA_TX_SA l an = true) ∧ (an.val ≠ s.get TRK_MSEC_CFG_TX_AN l) ∧ (s.get TRK_MSEC_CFG_TX_AN l < 4) ∧ (s.get TRK_GRP_CFG_SPLIT (l / 4) = 0)) ∧
    (∃ (l : Fin 8) (an : Fin 4) (s : State), (s.bit TRK_MSEC_SA_TX_SA l an = false)) :=
  ⟨⟨63, 0, 1, 7, (1000000 * 320 + 2 ^ 40 - 151 * 256) % 2 ^ 40, ((((((((State.reset.put LIM_PHASE 0 2).put LIM_CUR 0 0).put SLICE_GOT 63 0).put LIM_TW ((32 * 2 + State.reset.active 32) * 2048 + 252) 0x71).put LIM_TW ((32 * 2 + State.reset.active 32) * 2048 + 253) 0x40000).put LIM_TW ((32 * 2 + State.reset.active 32) * 2048 + 254) 1000000).put TRK_PORT_CFG_EN 7 1).put TRK_PORT_CFG_SLICE_EN 7 1).put TMB_CTR (State.reset.get LIM_CYC_CTRL_DOM 0) ((1000000 * 320 - 151 * 256 + 320) * 2 ^ 32), by decide +kernel⟩,
   ⟨0, [1], [(2, .corr)], State.reset, by decide +kernel⟩,
   ⟨63, 0, 1, 7, 0, 1000000 * 320, frameDomain State.reset 39 (withFcs [1, 2]), ⟨63, 0, [1, 2], false⟩, [], { (((((((((((State.reset.put LIM_PHASE 0 2).put LIM_CUR 0 0).put SLICE_SENT 63 0).put LIM_TW ((32 * 2 + State.reset.active 32) * 2048 + 252) 0x71).put LIM_TW ((32 * 2 + State.reset.active 32) * 2048 + 253) 0x40000).put LIM_TW ((32 * 2 + State.reset.active 32) * 2048 + 254) 1000000).put TRK_PORT_CFG_EN 7 1).put TRK_PORT_CFG_SLICE_EN 7 1).put TMB_CTR (State.reset.get LIM_CYC_CTRL_DOM 0) (1000000 * 320 * 2 ^ 32)).put TRK_PORT_STAT_LINK 7 1).put TRK_PORT_STAT_TX_READY 7 1).put SBD_LVR_CTRL_ADMIN_GATES 39 0xFF with sliceReads := [⟨63, 0, [1, 2], false⟩], wires := [] }, by decide +kernel⟩,
   ⟨63, 0, 1, 7, 0, 1000000 * 320, 6, { (((((((State.reset.put LIM_PHASE 0 2).put LIM_CUR 0 0).put SLICE_SENT 63 0).put LIM_TW ((32 * 2 + State.reset.active 32) * 2048 + 252) 0x71).put LIM_TW ((32 * 2 + State.reset.active 32) * 2048 + 253) 0x40000).put LIM_TW ((32 * 2 + State.reset.active 32) * 2048 + 254) 1000000).put TRK_PORT_CFG_SLICE_EN 7 0).put TMB_CTR (State.reset.get LIM_CYC_CTRL_DOM 0) (1000000 * 320 * 2 ^ 32) with sliceReads := [], wires := [] }, by decide +kernel⟩,
   ⟨0, State.reset, by decide +kernel⟩,
   ⟨⟨39, toBytes 6 (State.reset.get TRK_SLICE_DA_DA 0) ++ toBytes 6 0 ++ [0x81, 0, 0, 0] ++ beBytes 2 (State.reset.get TRK_SLICE_TAG_ETYPE 0) ++ [0x5C, 1, 0, 0] ++ List.replicate 60 0, true, 0, 0, false, 0, 0, false⟩, 7, ((State.reset.put TRK_PORT_STAT_LINK 7 1).put TRK_PORT_CFG_FACING 7 2).put TRK_PORT_CFG_SLICE_EN 7 1, by decide +kernel⟩,
   ⟨⟨39, List.replicate 64 1, true, 0, 0, false, 0, 0, false⟩, 7, ((State.reset.put TRK_PORT_STAT_LINK 7 1).put TRK_MSEC_CFG_EN 7 1).put TRK_MSEC_CNT_NOT_VALID 7 0, (((State.reset.put TRK_PORT_STAT_LINK 7 1).put TRK_MSEC_CFG_EN 7 1).put TRK_MSEC_CNT_NOT_VALID 7 0).put TRK_CNT_RX_RX_OK 7 1, by decide +kernel⟩,
   ⟨{ State.reset with sliceIn := [] }, by decide +kernel⟩,
   ⟨⟨⟨39, List.replicate 18 0 ++ [0x5C, 1, 1, 0] ++ List.replicate 46 0, true, 0, 0, false, 0, 0, false⟩, true, 0, State.reset.active 32⟩, [], { State.reset with sliceIn := [⟨⟨39, List.replicate 18 0 ++ [0x5C, 1, 1, 0] ++ List.replicate 46 0, true, 0, 0, false, 0, 0, false⟩, true, 0, State.reset.active 32⟩] }, by decide +kernel⟩,
   ⟨⟨⟨39, List.replicate 18 0 ++ [0x5C, 1, 0, 0] ++ List.replicate 46 0, true, 0, 0, false, 0, 0, false⟩, true, 1, State.reset.active 32⟩, [], { State.reset.put DEV_HUB_LINE_ID 0 0 with sliceIn := [⟨⟨39, List.replicate 18 0 ++ [0x5C, 1, 0, 0] ++ List.replicate 46 0, true, 0, 0, false, 0, 0, false⟩, true, 1, State.reset.active 32⟩] }, by decide +kernel⟩,
   ⟨⟨⟨39, List.replicate 18 0 ++ [0x5C, 1, 0, 0] ++ [5, 0, 0, 9] ++ [3, 0, 0, 0] ++ [0, 0, 4, 0] ++ List.replicate 56 7, true, 0, 0, false, 0, 0, false⟩, true, 3, State.reset.active 32⟩, [], 127, 1, { (((((State.reset.put DEV_HUB_LINE_ID 0 0).put LIM_PHASE 0 2).put LIM_CYC_NUM_NUM 0 3).put LIM_BASE_SLOTS_K 0 1).put LIM_TW ((32 * 2 + State.reset.active 32) * 2048 + 508) 0x90501).put LIM_TW ((32 * 2 + State.reset.active 32) * 2048 + 509) 0x403FF with sliceIn := [⟨⟨39, List.replicate 18 0 ++ [0x5C, 1, 0, 0] ++ [5, 0, 0, 9] ++ [3, 0, 0, 0] ++ [0, 0, 4, 0] ++ List.replicate 56 7, true, 0, 0, false, 0, 0, false⟩, true, 3, State.reset.active 32⟩] }, by decide +kernel⟩,
   ⟨7, false, 3, 3, State.reset, by decide +kernel⟩,
   ⟨7, true, 3, 3, ⟨7, List.replicate 32 1, List.replicate 32 2, none, []⟩, { State.reset.put PCS_STAT_STATE 0 0 with mkas := [⟨7, List.replicate 32 1, List.replicate 32 2, none, []⟩] }, by decide +kernel⟩,
   ⟨7, true, 3, 3, ⟨7, List.replicate 32 1, List.replicate 32 2, none, []⟩, { State.reset.put PCS_STAT_DRBG_OK 0 0 with mkas := [⟨7, List.replicate 32 1, List.replicate 32 2, none, []⟩] }, by decide +kernel⟩,
   ⟨7, true, 3, 3, ⟨7, List.replicate 32 1, List.replicate 32 2, none, []⟩, 19, newSaKey 7 19 (List.replicate 32 1) ((((State.reset.put PCS_STAT_STATE 0 pcsReady).put PCS_STAT_DRBG_OK 0 1).put TRK_GRP_CFG_SPLIT 1 0).fresh.testBit 0) (((State.reset.put PCS_STAT_STATE 0 pcsReady).put PCS_STAT_DRBG_OK 0 1).put TRK_GRP_CFG_SPLIT 1 0).used.fresh, { (((State.reset.put PCS_STAT_STATE 0 pcsReady).put PCS_STAT_DRBG_OK 0 1).put TRK_GRP_CFG_SPLIT 1 0) with mkas := [⟨7, List.replicate 32 1, List.replicate 32 2, none, []⟩] }, by refine ⟨by decide +kernel, by decide +kernel, by decide +kernel, by decide +kernel, by decide +kernel, by decide +kernel, rfl⟩⟩,
   ⟨7, 3, 3, State.reset, by decide +kernel⟩,
   ⟨7, 3, (State.reset.put TRK_MSEC_SA_TX_SA 7 8).put TRK_MSEC_CFG_TX_AN 7 0, by decide +kernel⟩,
   ⟨7, 3, State.reset.put TRK_MSEC_SA_TX_SA 7 7, by decide +kernel⟩⟩

theorem wit_TimeTransfer :
    (∃ (ch : Fin 9) (n : Nat) (c : Nat) (b : List Byte) (s : State), (ch.val < 8) ∧ (s.get TRK_TT_CFG_EN ch = 1) ∧ (s.get TRK_PORT_STAT_LINK ch = 1) ∧ (s.get TRK_TT_DOM_SLAVE ch ≠ 0) ∧ (s.get TT_DUE ch ≤ s.get CORE_COUNT 0) ∧ (n = (s.get TT_SEQ ch + 1) % 2 ^ 16) ∧ (s.get TRK_TT_DOM_SLAVE ch < 2 ^ 16) ∧ (c = s.get TRK_TT_CFG_TC ch) ∧ (b = withFcs (trunkFrame s (s.get TRK_PORT_MAC_MAC ch) c (([0x5E + 0x100 + s.get DEV_HUB_LINE_ID 0 * 2 ^ 16, s.get DEV_HUB_HUB_NUM 0 + n * 2 ^ 16, s.get TRK_TT_DOM_SLAVE ch] : List Nat).flatMap (toBytes 4)))) ∧ ((∀ d : Nat, d < 16 → s.get TT_MISS (ch * 16 + d) ≠ 4)) ∧ (portClosed s false (32 + ch) = false) ∧ (admits s (s.get SBD_POOL_FREE 0) 1 (32 + ch) c = true)) ∧
    (∃ (ch : Fin 9) (d : Fin 16) (s : State), (ch.val < 8) ∧ (s.get TRK_TT_CFG_EN ch = 1) ∧ (s.get TRK_PORT_STAT_LINK ch = 1) ∧ (s.get TRK_TT_DOM_SLAVE ch = 2 ^ d.val) ∧ (s.get TT_DUE ch ≤ s.get CORE_COUNT 0) ∧ (s.get TT_MISS (ch * 16 + d) = 4) ∧ (s.get TT_LOST_SAID (ch * 16 + d) = 0)) ∧
    (∃ (ch : Fin 9) (s : State), (ch.val < 8) ∧ ((s.get TRK_TT_CFG_EN ch = 0 ∨ s.get TRK_TT_DOM_SLAVE ch = 0 ∨ s.get TRK_PORT_STAT_LINK ch = 0 ∨ s.get CORE_COUNT 0 < s.get TT_DUE ch))) ∧
    (∃ (ch : Fin 9) (x : TtIn) (n : Nat) (c : Nat) (d : Fin 16) (b : List Byte) (s : State), (ch.val < 8) ∧ (s.ttIn = [x]) ∧ (x.chan = ch) ∧ (octet x.payload 5 % 2 = 0) ∧ (s.get TRK_TT_CFG_EN ch = 1) ∧ (s.get TRK_PORT_STAT_LINK ch = 1) ∧ (n = ttWord x 1 / 2 ^ 16) ∧ (n < 2 ^ 16) ∧ (ttWord x 2 % 2 ^ 16 = 2 ^ d.val) ∧ ((s.get TRK_TT_DOM_MASTER ch).testBit d = true) ∧ (c = s.get TRK_TT_CFG_TC ch) ∧ (b = withFcs (trunkFrame s (s.get TRK_PORT_MAC_MAC ch) c (([0x5E + 0x100 + s.get DEV_HUB_LINE_ID 0 * 2 ^ 16, s.get DEV_HUB_HUB_NUM 0 + 2 ^ 8 + n * 2 ^ 16, 2 ^ d.val, x.stamps.getD d 0 / 256, s.get TT_T3 (ch * 16 + d) / 256, x.stamps.getD d 0 % 256 + s.get TT_T3 (ch * 16 + d) % 256 * 2 ^ 8 + (if s.get TT_T3_ON ch ≠ 0 ∧ s.get TT_T3_SEQ ch = (n + 65535) % 65536 then 2 ^ 16 else 0)] : List Nat).flatMap (toBytes 4)))) ∧ (admits s (s.get SBD_POOL_FREE 0) 1 (32 + ch) c = true)) ∧
    (∃ (ch : Fin 9) (x : TtIn) (d : Fin 16) (s : State), (ch.val < 8) ∧ (s.ttIn = [x]) ∧ (x.chan = ch) ∧ (octet x.payload 5 % 2 = 0) ∧ (s.get TRK_TT_CFG_EN ch = 1) ∧ (s.get TRK_PORT_STAT_LINK ch = 1) ∧ (ttWord x 2 % 2 ^ 16 = 2 ^ d.val) ∧ ((s.get TRK_TT_DOM_MASTER ch).testBit d = false)) ∧
    (∃ (ch : Fin 9) (s : State), ((∀ x ∈ s.ttIn, x.chan ≠ ch))) ∧
    (∃ (ch : Fin 9) (x : TtIn) (s : State), (s.ttIn = [x]) ∧ (x.chan = ch) ∧ (octet x.payload 5 % 2 = 1) ∧ (ttWord x 1 / 2 ^ 16 ≠ s.get TT_SEQ ch)) ∧
    (∃ (ch : Fin 9) (x : TtIn) (d : Fin 16) (n : Nat) (t1 : Nat) (t2 : Nat) (t3 : Nat) (t4 : Nat) (s : State), (ch.val < 8) ∧ (s.ttIn = [x]) ∧ (x.chan = ch) ∧ (octet x.payload 5 % 2 = 1) ∧ (s.get TRK_TT_CFG_EN ch = 1) ∧ (s.get TRK_PORT_STAT_LINK ch = 1) ∧ (n = s.get TT_SEQ ch) ∧ (n < 2 ^ 16) ∧ (ttWord x 1 / 2 ^ 16 = n) ∧ (s.get TRK_TT_DOM_SLAVE ch = 2 ^ d.val) ∧ (ttWord x 2 = 2 ^ d.val) ∧ (s.get TT_HAVE ch = 1) ∧ (s.get TT_HAVE_SEQ ch = (n + 65535) % 65536) ∧ (s.get TT_CARRIED (ch * 16 + d) = 1) ∧ (ttWord x 5 / 2 ^ 16 % 2 = 1) ∧ (t1 = s.get TT_T1_OLD (ch * 16 + d)) ∧ (t2 = s.get TT_T2 (ch * 16 + d)) ∧ (t3 = ttWord x 4 * 256 + ttWord x 5 / 2 ^ 8 % 2 ^ 8) ∧ (t4 = s.get TT_T4 (ch * 16 + d)) ∧ (t1 < 2 ^ 40) ∧ (t2 < 2 ^ 40) ∧ (t3 < 2 ^ 40) ∧ (t4 < 2 ^ 40) ∧ (s.get SMP_ON d = 0)) ∧
    (∃ (ch : Fin 9) (x : TtIn) (d : Fin 16) (n : Nat) (s : State), (ch.val < 8) ∧ (s.ttIn = [x]) ∧ (x.chan = ch) ∧ (octet x.payload 5 % 2 = 1) ∧ (s.get TRK_TT_CFG_EN ch = 1) ∧ (s.get TRK_PORT_STAT_LINK ch = 1) ∧ (n = s.get TT_SEQ ch) ∧ (n < 2 ^ 16) ∧ (ttWord x 1 / 2 ^ 16 = n) ∧ (s.get TRK_TT_DOM_SLAVE ch = 2 ^ d.val) ∧ (ttWord x 2 = 2 ^ d.val) ∧ ((s.get TT_HAVE ch = 0 ∨ s.get TT_HAVE_SEQ ch ≠ (n + 65535) % 65536 ∨ ttWord x 5 / 2 ^ 16 % 2 = 0))) :=
  ⟨⟨7, 1, State.reset.get TRK_TT_CFG_TC 7, withFcs (trunkFrame State.reset (State.reset.get TRK_PORT_MAC_MAC 7) (State.reset.get TRK_TT_CFG_TC 7) (([0x5E + 0x100 + State.reset.get DEV_HUB_LINE_ID 0 * 2 ^ 16, State.reset.get DEV_HUB_HUB_NUM 0 + 1 * 2 ^ 16, 0x8000] : List Nat).flatMap (toBytes 4))), { (((((State.reset.put TRK_TT_CFG_EN 7 1).put TRK_PORT_STAT_LINK 7 1).put TRK_TT_DOM_SLAVE 7 0x8000).put TT_SEQ 7 0).put SBD_POOL_FREE 0 0x3FFFF).put CORE_COUNT 0 (2 ^ 64 - 1) with queues := [] }, by decide +kernel⟩,
   ⟨7, 15, ((((State.reset.put TRK_TT_CFG_EN 7 1).put TRK_PORT_STAT_LINK 7 1).put TRK_TT_DOM_SLAVE 7 0x8000).put TT_MISS 127 4).put CORE_COUNT 0 (2 ^ 64 - 1), by decide +kernel⟩,
   ⟨7, State.reset.put TRK_TT_CFG_EN 7 0, by decide +kernel⟩,
   ⟨7, ⟨7, [0x5E, 1, 0, 0, 0, 0, 9, 0, 0, 0x80, 0, 0], List.replicate 16 1000⟩, 9, State.reset.get TRK_TT_CFG_TC 7, 15, withFcs (trunkFrame State.reset (State.reset.get TRK_PORT_MAC_MAC 7) (State.reset.get TRK_TT_CFG_TC 7) (([0x5E + 0x100 + State.reset.get DEV_HUB_LINE_ID 0 * 2 ^ 16, State.reset.get DEV_HUB_HUB_NUM 0 + 2 ^ 8 + 9 * 2 ^ 16, 0x8000, 3, 4, 232 + 0 * 2 ^ 8 + 2 ^ 16] : List Nat).flatMap (toBytes 4))), { (((((((State.reset.put TRK_TT_CFG_EN 7 1).put TRK_PORT_STAT_LINK 7 1).put TRK_TT_DOM_MASTER 7 0x8000).put SBD_POOL_FREE 0 0x3FFFF).put TT_T3 127 1024).put TT_T3_ON 7 1).put TT_T3_SEQ 7 8) with ttIn := [⟨7, [0x5E, 1, 0, 0, 0, 0, 9, 0, 0, 0x80, 0, 0], List.replicate 16 1000⟩], queues := [] }, by decide +kernel⟩,
   ⟨7, ⟨7, [0x5E, 1, 0, 0, 0, 0, 9, 0, 0, 0x80, 0, 0], List.replicate 16 1000⟩, 15, { (((State.reset.put TRK_TT_CFG_EN 7 1).put TRK_PORT_STAT_LINK 7 1).put TRK_TT_DOM_MASTER 7 0x7FFF) with ttIn := [⟨7, [0x5E, 1, 0, 0, 0, 0, 9, 0, 0, 0x80, 0, 0], List.replicate 16 1000⟩] }, by decide +kernel⟩,
   ⟨8, { State.reset with ttIn := [⟨7, [], []⟩] }, by decide +kernel⟩,
   ⟨8, ⟨8, [0x5E, 1, 0, 0, 0, 1, 9, 0], []⟩, { State.reset.put TT_SEQ 8 8 with ttIn := [⟨8, [0x5E, 1, 0, 0, 0, 1, 9, 0], []⟩] }, by decide +kernel⟩,
   ⟨0, ⟨0, [0x5E, 1, 0, 0, 0, 1, 18, 0, 1, 0, 0, 0, 0, 0, 0, 0, 0xE7, 0x03, 0, 0, 0, 0xF6, 1, 0], List.replicate 16 (1007814550 * 256 % 2 ^ 40)⟩, 0, 18, 1000000 * 256, 999985 * 256, 999 * 256 + 0xF6, 1002050 * 256, { ((((((((((((State.reset.put TRK_TT_CFG_EN 0 1).put TRK_PORT_STAT_LINK 0 1).put TT_SEQ 0 18).put TRK_TT_DOM_SLAVE 0 1).put TT_HAVE 0 1).put TT_HAVE_SEQ 0 17).put TT_CARRIED 0 1).put TT_T1_OLD 0 (1000000 * 256)).put TT_T2 0 (999985 * 256)).put TT_T4 0 (1002050 * 256)).put SMP_ON 0 0).put TRK_TT_CFG_ASYM 0 0xFFFF) with ttIn := [⟨0, [0x5E, 1, 0, 0, 0, 1, 18, 0, 1, 0, 0, 0, 0, 0, 0, 0, 0xE7, 0x03, 0, 0, 0, 0xF6, 1, 0], List.replicate 16 (1007814550 * 256 % 2 ^ 40)⟩] }, by decide +kernel⟩,
   ⟨0, ⟨0, [0x5E, 1, 0, 0, 0, 1, 18, 0, 1, 0, 0, 0, 0, 0, 0, 0, 0xE7, 0x03, 0, 0, 0, 0xF6, 1, 0], List.replicate 16 5⟩, 0, 18, { (((((State.reset.put TRK_TT_CFG_EN 0 1).put TRK_PORT_STAT_LINK 0 1).put TT_SEQ 0 18).put TRK_TT_DOM_SLAVE 0 1).put TT_HAVE 0 0) with ttIn := [⟨0, [0x5E, 1, 0, 0, 0, 1, 18, 0, 1, 0, 0, 0, 0, 0, 0, 0, 0xE7, 0x03, 0, 0, 0, 0xF6, 1, 0], List.replicate 16 5⟩] }, by decide +kernel⟩⟩

/-- The worked example of 06: one exchange between K7-A and K7-B, times modulo 2^32 ns. Its result is θ = +40 ns, delay = 25 ns,
ts = 1,000,002,050 ns, PORT = 32. -/
def exchangeK7 : State :=
  let t3 := 1000001985
  let w := toBytes 4 t3
  { (((((((((State.reset.put TRK_TT_CFG_EN 0 1).put TRK_PORT_STAT_LINK 0 1).put TRK_TT_DOM_SLAVE 0 1).put TT_SEQ 0 18).put
    TT_HAVE 0 1).put TT_HAVE_SEQ 0 17).put TT_CARRIED 0 1).put TT_T1_OLD 0 (1000000000 * 256)).put TT_T2 0 (999999985 * 256)).put
    TT_T4 0 (1000002050 * 256) with
    ttIn := [⟨0, [0x5E, 1, 0, 0, 0, 1, 18, 0, 1, 0, 0, 0, 0, 0, 0, 0] ++ w ++ [0, 0, 1, 0], List.replicate 16 (1007814550 * 256)⟩] }

theorem test_exchange_k7 : ∃ t, exec (.ttResponseReceive 0) exchangeK7 = .next t ∧ t.get SMP_THETA 0 = 40 * 256 ∧
    t.get TRK_TT_DELAY_DELAY 0 = 25 * 256 ∧ t.get SMP_TS 0 = 1000002050 ∧ t.get SMP_PORT 0 = 32 := ⟨_, rfl, by decide +kernel⟩

theorem wit_CourseStates :
    (∃ (n : Fin 32) (s : State), (s.permit .cc .registers (crsAddr 0 n) true = .yes)) ∧
    (∃ (n : Fin 32) (s : State), (s.permit .cc .registers (crsAddr 0 n) true = .yes) ∧ ((s.get CRS_STAT_STATE n = 2 ∨ s.get CRS_STAT_STATE n = 3))) ∧
    (∃ (n : Fin 32) (s : State), (s.permit .cc .registers (crsAddr 0 n) true = .yes) ∧ ((s.get CRS_STAT_STATE n = 2 ∨ s.get CRS_STAT_STATE n = 3)) ∧ (s.wtb = []) ∧ (s.get TRB_STAT_LOCKED 0 = 0)) ∧
    (∃ (n : Fin 32) (s : State), (s.permit .cc .registers (crsAddr 0 n) true = .yes) ∧ ((s.get CRS_STAT_STATE n = 0 ∨ s.get CRS_STAT_STATE n = 1))) ∧
    (∃ (_mask : Word) (at' : Word) (s : State), (s.permit .cc .registers 0x4088_1000 true = .yes) ∧ (s.get LIM_STAT_RUNNING 0 = 1) ∧ (s.get LIM_CYC_NUM_NUM 0 < 2 ^ 32) ∧ (1 ≤ (at'.toNat + 2 ^ 32 - s.get LIM_CYC_NUM_NUM 0) % 2 ^ 32) ∧ ((at'.toNat + 2 ^ 32 - s.get LIM_CYC_NUM_NUM 0) % 2 ^ 32 < 2 ^ 31)) ∧
    (∃ (_mask : Word) (at' : Word) (s : State), (s.permit .cc .registers 0x4088_1000 true = .yes) ∧ ((s.get LIM_STAT_RUNNING 0 = 0 ∨ (at'.toNat + 2 ^ 32 - s.get LIM_CYC_NUM_NUM 0) % 2 ^ 32 = 0 ∨ 2 ^ 31 ≤ (at'.toNat + 2 ^ 32 - s.get LIM_CYC_NUM_NUM 0) % 2 ^ 32))) ∧
    (∃ (q : Requester) (n : Fin 32) (s : State), (s.permit q .registers (crsAddr 0 n) true = .yes)) ∧
    (∃ (n : Fin 32) (s : State), (0 < s.get CRS_CTRL_WDOG_N n) ∧ (s.get CRS_CTRL_WDOG_N n ≤ s.get WDOG_CNT n) ∧ (s.get WDOG_SAID n = 0)) ∧
    (∃ (n : Fin 32) (s : State), ((s.get CRS_CTRL_WDOG_N n = 0 ∨ s.get WDOG_CNT n < s.get CRS_CTRL_WDOG_N n))) ∧
    (∃ (n : Fin 32) (s : State), (0 < s.get CRS_CTRL_WDOG_N n) ∧ (2 * s.get CRS_CTRL_WDOG_N n ≤ s.get WDOG_CNT n) ∧ (s.get CRS_STAT_STATE n = 2) ∧ (s.get TRB_STAT_LOCKED 0 = 0)) ∧
    (∃ (q : Requester) (n : Fin 32) (i : Fin 4) (_ns : Word) (_frac : Byte) (_dom : Fin 16) (s : State), (s.permit q .registers (crsAddr (0x200 + 0x10 * i) n) true = .yes)) ∧
    (∃ (n : Fin 32) (i : Fin 4) (d : Nat) (s : State), (s.get CRS_TCMP_ARM (4 * n + i) = 1) ∧ (d = s.get CRS_TCMP_DOM (4 * n + i)) ∧ (s.get TMB_CTR d < 2 ^ 72) ∧ (s.get CRS_TCMP_NS (4 * n + i) < 2 ^ 32) ∧ (s.get CRS_TCMP_FRAC (4 * n + i) < 2 ^ 8) ∧ (s.bit CRS_EVT_PEND_PEND n (56 + i) = false)) ∧
    (∃ (n : Fin 32) (i : Fin 4) (s : State), (s.get CRS_TCMP_ARM (4 * n + i) = 0)) ∧
    (∃ (q : Requester) (n : Fin 32) (_v : BitVec 3) (s : State), (s.permit q .registers (crsAddr 0x300 n) true = .yes)) :=
  ⟨⟨31, (State.reset.put CRS_STAT_STATE 31 1), by decide +kernel⟩,
   ⟨31, (State.reset.put CRS_STAT_STATE 31 3), by decide +kernel⟩,
   ⟨31, { (State.reset.put CRS_STAT_STATE 31 2) with wtb := [] }, by decide +kernel⟩,
   ⟨31, State.reset.put CRS_STAT_STATE 31 0, by decide +kernel⟩,
   ⟨0x80000000, 0, (State.reset.put LIM_STAT_RUNNING 0 1).put LIM_CYC_NUM_NUM 0 0x80000001, by decide +kernel⟩,
   ⟨0xFFFFFFFF, 7, ((State.reset.put LIM_STAT_RUNNING 0 1).put LIM_CYC_NUM_NUM 0 7).put CRS_STAT_STATE 31 1, by decide +kernel⟩,
   ⟨.cc, 31, State.reset.put WDOG_CNT 31 9, by decide +kernel⟩,
   ⟨31, ((State.reset.put CRS_CTRL_WDOG_N 31 255).put WDOG_CNT 31 255).put WDOG_SAID 31 0, by decide +kernel⟩,
   ⟨31, ((State.reset.put CRS_CTRL_WDOG_N 31 255).put WDOG_CNT 31 254).put WDOG_SAID 31 0, by decide +kernel⟩,
   ⟨31, (((State.reset.put CRS_CTRL_WDOG_N 31 255).put WDOG_CNT 31 510).put WDOG_SAID 31 1).put CRS_STAT_STATE 31 2, by decide +kernel⟩,
   ⟨.cc, 31, 3, 0xFFFFFFFF, 0xFF, 15, State.reset, by decide +kernel⟩,
   ⟨31, 3, 15, (((((State.reset.put CRS_TCMP_ARM 127 1).put CRS_TCMP_DOM 127 15).put CRS_TCMP_NS 127 5).put CRS_TCMP_FRAC 127 255).put TMB_CTR 15 (6 * 2 ^ 40)).put CRS_EVT_PEND_PEND 31 0, by decide +kernel⟩,
   ⟨31, 3, State.reset.put CRS_TCMP_ARM 127 0, by decide +kernel⟩,
   ⟨.cc, 31, 5, State.reset, by decide +kernel⟩⟩

theorem wit_HooksRingsAndQueues :
    (∃ (q : Requester) (n : Fin 32) (p : Fin 32) (tag : Byte) (h : HookHeld) (s : State) (u : State), (s.permit q .registers (crsAddr (0x800 + 8 * p) n) true = .yes) ∧ (s.bit CRS_OWN_PORTS n p = true) ∧ (s.hooked = [h]) ∧ (h.frame.port.val = p.val) ∧ (h.frame.fcsOk = true) ∧ (64 ≤ h.frame.bytes.length) ∧ (h.frame.bytes.length ≤ max 64 (min 16000 (s.get MAC_MAXLEN_MAX_LEN p))) ∧ (s.get MAC_CFG_RING_ROLE p = 0) ∧ (u = (({ s with hooked := [] } : State).put CRS_HOOK_TAG (n * 32 + p) tag.toNat))) ∧
    (∃ (q : Requester) (n : Fin 32) (p : Fin 32) (_tag : Byte) (s : State), (s.permit q .registers (crsAddr (0x800 + 8 * p) n) true = .yes) ∧ (s.bit CRS_OWN_PORTS n p = false)) ∧
    (∃ (q : Requester) (n : Fin 32) (p : Fin 32) (off : BitVec 14) (en : BitVec 4) (data : Word) (v : BitVec 64) (x : Passing) (s : State), (s.permit q .registers (crsAddr 0xA00 n) true = .yes) ∧ (v.toNat % 2 ^ 57 = data.toNat + off.toNat * 2 ^ 32 + p * 2 ^ 48 + en.toNat * 2 ^ 53) ∧ (v.toNat / 2 ^ 46 % 4 = 0) ∧ (s.bit CRS_OWN_PORTS n p = true) ∧ (s.passing = [x]) ∧ (x.inPort = p) ∧ (s.bit RDN_PORT_GATE_MASK 0 p = false) ∧ ((∀ k : Nat, k < x.bytes.length → off.toNat ≤ k ∧ k < off.toNat + 4 ∧ en.getLsbD (k - off.toNat) = true → octetLeft s p x.first k = false))) ∧
    (∃ (q : Requester) (n : Fin 32) (p : Fin 32) (off : BitVec 14) (en : BitVec 4) (data : Word) (v : BitVec 64) (x : Passing) (s : State), (s.permit q .registers (crsAddr 0xA00 n) true = .yes) ∧ (v.toNat % 2 ^ 57 = data.toNat + off.toNat * 2 ^ 32 + p * 2 ^ 48 + en.toNat * 2 ^ 53) ∧ (v.toNat / 2 ^ 46 % 4 = 0) ∧ (s.bit CRS_OWN_PORTS n p = true) ∧ (s.passing = [x]) ∧ (x.inPort = p) ∧ (s.bit RDN_PORT_GATE_MASK 0 p = false) ∧ (en ≠ 0) ∧ (off.toNat + 4 ≤ x.bytes.length) ∧ ((∀ k : Nat, k < 4 → octetLeft s p x.first (off.toNat + k) = true))) ∧
    (∃ (q : Requester) (n : Fin 32) (p : Fin 32) (v : BitVec 64) (s : State), (s.permit q .registers (crsAddr 0xA00 n) true = .yes) ∧ (v.toNat / 2 ^ 48 % 32 = p) ∧ ((∀ x ∈ s.passing, x.inPort ≠ p)) ∧ ((∀ h ∈ s.hooked, h.frame.port.val ≠ p)) ∧ (s.bit RDN_PORT_GATE_MASK 0 p = false)) ∧
    (∃ (q : Requester) (n : Fin 32) (_v : BitVec 12) (s : State), (s.permit q .registers (crsAddr 0x408 n) true = .yes)) ∧
    (∃ (q : Requester) (n : Fin 32) (_v : BitVec 12) (s : State), (s.permit q .registers (crsAddr 0x418 n) true = .yes)) ∧
    (∃ (n : Fin 33) (_e : Ecc) (s : State), (n.val < 32) ∧ ((s.get CRS_TXR_PTR_HEAD n = s.get CRS_TXR_PTR_TAIL n ∨ s.get TXR_STUCK n = 1))) ∧
    (∃ (n : Fin 33) (_e : Ecc) (s : State), (n.val < 32) ∧ (s.get CRS_TXR_PTR_HEAD n ≠ s.get CRS_TXR_PTR_TAIL n) ∧ (s.get TXR_STUCK n = 0) ∧ (s.word (txDesc s n + 28) < 2 ^ 31)) ∧
    (∃ (n : Fin 33) (a : Nat) (s : State), (n.val < 32) ∧ (s.get CRS_TXR_PTR_HEAD n ≠ s.get CRS_TXR_PTR_TAIL n) ∧ (s.get TXR_STUCK n = 0) ∧ (a = txDesc s n) ∧ (2 ^ 31 ≤ s.word (a + 28)) ∧ (s.word (a + 28) < 2 ^ 32) ∧ (72 < s.word a / 2 ^ 22 % 2 ^ 7)) ∧
    (∃ (n : Fin 33) (a : Nat) (dest : Nat) (tc : Nat) (buf : List Byte) (s : State), (n.val < 32) ∧ (s.get CRS_TXR_PTR_HEAD n ≠ s.get CRS_TXR_PTR_TAIL n) ∧ (s.get TXR_STUCK n = 0) ∧ (a = txDesc s n) ∧ (s.word (a + 28) / 2 ^ 31 % 2 = 1) ∧ (dest = s.word a / 2 ^ 22 % 2 ^ 7) ∧ (dest < 40) ∧ (tc = s.word a / 2 ^ 19 % 2 ^ 3) ∧ (s.word (a + 8) % 2 ^ 7 < 2) ∧ (portClosed s false dest = false) ∧ (portClosed s true dest = false) ∧ (buf = (List.range (s.word a % 2 ^ 19)).map (fun k => s.byte (sbBase + s.word (a + 4) % 2 ^ 26 + k))) ∧ (admits s (s.get SBD_POOL_FREE 0) (cellsOf (buf.length + 4 * (s.word (a + 8) % 2))) dest tc = true) ∧ (admits s (s.get SBD_POOL_FREE 0) (cellsOf buf.length) dest tc = true) ∧ (8 ≤ buf.length)) ∧
    (∃ (a : Nat) (s : State), (a = ccDesc s.fresh)) ∧
    (∃ (n : Fin 33) (s : State), ((∀ d ∈ s.txDone, d.origin.ring ≠ n))) ∧
    (∃ (n : Fin 33) (off : Nat) (st : Nat) (o : TxOrigin) (s : State), (s.txDone = [⟨o, st, none⟩]) ∧ (o.ring = n) ∧ (o.desc = sbBase + off) ∧ (st < 256) ∧ (SbPlain s (off + 28) 4)) ∧
    (∃ (_n : Fin 33) (_e : Ecc) (s : State), (s.queues = [])) ∧
    (∃ (n : Fin 33) (c : Nat) (id : Nat) (a : Nat) (buf : Nat) (f : Frame) (s : State), (n.val < 32) ∧ ((∀ k : Nat, k < 4 → s.get SBD_MIR_CFG_EN k = 0)) ∧ (s.queues = [⟨40 + n, c, id⟩]) ∧ (c < 8) ∧ (s.frames = [f]) ∧ (f.id = id) ∧ (f.refs = 1) ∧ (f.origin = none) ∧ (f.info.mirror = false) ∧ (40 ≤ f.inPort) ∧ (agedCopy s ⟨40 + n, c, id⟩ = false) ∧ (a = rxDesc s n) ∧ (s.get CRS_RXR_PTR_HEAD n ≠ s.get CRS_RXR_PTR_TAIL n) ∧ (s.word (a + 28) / 2 ^ 31 % 2 = 1) ∧ (f.bytes.length ≤ 64 * s.get CRS_RXR_CFG_RXBUF n) ∧ (0 < s.get CRS_RXR_CFG_RXBUF n) ∧ (f.bytes.length < 2 ^ 14) ∧ (buf = s.word (a + 4) % 2 ^ 26) ∧ (buf + f.bytes.length ≤ a - sbBase ∨ a - sbBase + 32 ≤ buf) ∧ (SbPlain s buf f.bytes.length) ∧ (SbPlain s (a - sbBase) 32) ∧ (s.bit CRS_EVT_PEND_PEND n 60 = false)) ∧
    (∃ (n : Fin 33) (c : Nat) (id : Nat) (a : Nat) (f : Frame) (s : State), (n.val < 32) ∧ (s.queues = [⟨40 + n, c, id⟩]) ∧ (c < 8) ∧ (s.frames = [f]) ∧ (f.id = id) ∧ (f.refs = 1) ∧ (f.origin = none) ∧ (f.info.mirror = false) ∧ (40 ≤ f.inPort) ∧ (agedCopy s ⟨40 + n, c, id⟩ = false) ∧ (a = rxDesc s n) ∧ (s.get CRS_RXR_PTR_HEAD n ≠ s.get CRS_RXR_PTR_TAIL n) ∧ (s.word (a + 28) / 2 ^ 31 % 2 = 1) ∧ (64 * s.get CRS_RXR_CFG_RXBUF n < f.bytes.length) ∧ (0 < s.get CRS_RXR_CFG_RXBUF n)) ∧
    (∃ (q : Requester) (n : Fin 32) (k : Fin 64) (b : Nat) (s : State), (s.permit q .registers (crsAddr 0x510 n) true = .yes) ∧ (s.get CRS_Q_CFG_EN k = 1) ∧ (s.get Q_FULL k = 0) ∧ (b = 64 * s.get CRS_Q_CFG_BASE k + 16 * s.get CRS_Q_PTR_TAIL k) ∧ (SbPlain s b 16)) ∧
    (∃ (q : Requester) (n : Fin 32) (k : Fin 64) (s : State), (s.permit q .registers (crsAddr 0x510 n) true = .yes) ∧ ((s.get CRS_Q_CFG_EN k = 0 ∨ s.get Q_FULL k = 1))) ∧
    (∃ (n : Fin 32) (_k : Fin 64) (s : State), (s.permit (.course n) .registers (crsAddr 0x518 n) true = .yes)) ∧
    (∃ (k : Fin 64) (_v : BitVec 30) (s : State), (s.permit .cc .registers (crsGlobal (0x10 * k)) true = .yes)) :=
  ⟨⟨.cc, 31, 31, 0xFF, ⟨1, 0, ⟨31, List.replicate 64 7, true, 0, 0, false, 0, 0, false⟩, ⟨0, 0, 0⟩⟩, { State.reset.put CRS_OWN_PORTS 31 0x80000000 with hooked := [⟨1, 0, ⟨31, List.replicate 64 7, true, 0, 0, false, 0, 0, false⟩, ⟨0, 0, 0⟩⟩] }, (({ State.reset.put CRS_OWN_PORTS 31 0x80000000 with hooked := [] } : State).put CRS_HOOK_TAG (31 * 32 + 31) 255), by decide +kernel⟩,
   ⟨.cc, 31, 31, 0xFF, State.reset, by decide +kernel⟩,
   ⟨.cc, 31, 31, 1, 0xA, 0x44332211, 0x015F_0001_4433_2211, ⟨31, [1, 2, 3, 4], none, 0, false, 0, 100000, ⟨0, 0, 0⟩⟩, { State.reset.put CRS_OWN_PORTS 31 0x80000000 with passing := [⟨31, [1, 2, 3, 4], none, 0, false, 0, 100000, ⟨0, 0, 0⟩⟩] }, by decide +kernel⟩,
   ⟨.cc, 31, 31, 0, 0xF, 0x44332211, 0x01FF_0000_4433_2211, ⟨31, [1, 2, 3, 4], none, 0, false, 0, 0, ⟨0, 0, 0⟩⟩, { (State.reset.put CRS_OWN_PORTS 31 0x80000000).put CORE_COUNT 0 100000 with passing := [⟨31, [1, 2, 3, 4], none, 0, false, 0, 0, ⟨0, 0, 0⟩⟩] }, by decide +kernel⟩,
   ⟨.cc, 31, 31, 0x001F_0000_0000_0000, State.reset.put CRS_OWN_PORTS 31 0x80000000, by decide +kernel⟩,
   ⟨.cc, 31, 0xFFF, State.reset.put CRS_TXR_CFG_LOG2 31 0, by decide +kernel⟩,
   ⟨.cc, 31, 0xFFF, State.reset.put CRS_RXR_CFG_LOG2 31 15, by decide +kernel⟩,
   ⟨31, .corr, State.reset, by decide +kernel⟩,
   ⟨31, .none, (State.reset.put CRS_TXR_PTR_TAIL 31 1), by decide +kernel⟩,
   ⟨31, sbBase, (((State.reset.put CRS_TXR_PTR_TAIL 31 1).putWord (sbBase + 28) 0x80000000)).putWord sbBase (73 * 2 ^ 22), by decide +kernel⟩,
   ⟨31, sbBase, 31, 7, List.replicate 64 0, ((((((State.reset.put CRS_TXR_PTR_TAIL 31 1).putWord (sbBase + 28) 0x80000000).putWord sbBase (31 * 2 ^ 22 + 7 * 2 ^ 19 + 64)).putWord (sbBase + 4) 64).putWord (sbBase + 8) 1).put MAC_STAT_LINK 31 1).put SBD_POOL_FREE 0 0x3FFFF, by decide +kernel⟩,
   ⟨ccDesc State.reset.fresh, State.reset, rfl⟩,
   ⟨32, State.reset, by decide +kernel⟩,
   ⟨31, 64, 9, ⟨31, sbBase + 64, 0, 0⟩, { (State.reset.putWord (sbBase + 92) 0xC0000000) with txDone := [⟨⟨31, sbBase + 64, 0, 0⟩, 9, none⟩] }, by decide +kernel⟩,
   ⟨32, .none, { State.reset with queues := [] }, by decide +kernel⟩,
   ⟨31, 7, 5, sbBase, 64, ⟨5, [1, 2, 3], 1, 1, 71, 0, ⟨0, 0, 0, 0, 0, none, false, false, false, false, false, false, none⟩, none, 0, none, none, false, 0⟩, { (((State.reset.put CRS_RXR_PTR_TAIL 31 1).put CRS_RXR_CFG_RXBUF 31 1).putWord (sbBase + 4) 64).putWord (sbBase + 28) 0x80000000 with queues := [⟨71, 7, 5⟩], frames := [⟨5, [1, 2, 3], 1, 1, 71, 0, ⟨0, 0, 0, 0, 0, none, false, false, false, false, false, false, none⟩, none, 0, none, none, false, 0⟩] }, by decide +kernel⟩,
   ⟨31, 7, 5, sbBase, ⟨5, List.replicate 65 1, 1, 1, 71, 0, ⟨0, 0, 0, 0, 0, none, false, false, false, false, false, false, none⟩, none, 0, none, none, false, 0⟩, { ((State.reset.put CRS_RXR_PTR_TAIL 31 1).put CRS_RXR_CFG_RXBUF 31 1).putWord (sbBase + 28) 0x80000000 with queues := [⟨71, 7, 5⟩], frames := [⟨5, List.replicate 65 1, 1, 1, 71, 0, ⟨0, 0, 0, 0, 0, none, false, false, false, false, false, false, none⟩, none, 0, none, none, false, 0⟩] }, by decide +kernel⟩,
   ⟨.cc, 31, 63, 240, (((State.reset.put CRS_Q_CFG_EN 63 1).put CRS_Q_CFG_CONSUMER 63 31).put CRS_Q_PTR_TAIL 63 15).put CRS_Q_PTR_HEAD 63 0 |>.put Q_FULL 63 0, by decide +kernel⟩,
   ⟨.cc, 31, 63, (((State.reset.put CRS_Q_CFG_EN 63 1).put CRS_Q_CFG_CONSUMER 63 31).put CRS_Q_PTR_TAIL 63 15).put CRS_Q_PTR_HEAD 63 15 |>.put Q_FULL 63 1, by decide +kernel⟩,
   ⟨31, 63, ((State.reset.put CRS_Q_CFG_CONSUMER 63 31).put CRS_Q_PTR_HEAD 63 15).put CRS_Q_PTR_TAIL 63 3, by decide +kernel⟩,
   ⟨63, 0x3FFFFFFF, State.reset, by decide +kernel⟩⟩

theorem wit_Directory :
    (∃ (line : BitVec 20) (k : Fin 33) (_kd : DirKind) (L : Nat) (s : State), (L = sbBase / 64 + line.toNat) ∧ (l1On s k = true) ∧ (s.dir = []) ∧ (s.dirReqs = []) ∧ (s.dirRounds = [])) ∧
    (∃ (line : BitVec 20) (k : Fin 33) (j : Fin 33) (dirty : Bool) (L : Nat) (s : State), (L = sbBase / 64 + line.toNat) ∧ (l1On s k = true) ∧ (j ≠ k) ∧ (s.dir = [⟨L, some j.val, dirty, []⟩]) ∧ (s.dirReqs = []) ∧ (s.dirRounds = []) ∧ (s.resvs = [⟨j, 64 * L, 64⟩])) ∧
    (∃ (line : BitVec 20) (j : Fin 33) (k : Fin 33) (L : Nat) (s : State), (L = sbBase / 64 + line.toNat) ∧ (l1On s k = true) ∧ (l1On s j = true) ∧ (j ≠ k) ∧ (s.dir = []) ∧ (s.dirReqs = []) ∧ (s.dirRounds = [])) ∧
    (∃ (line : BitVec 20) (j : Fin 33) (k : Fin 33) (L : Nat) (s : State), (k.val < 32) ∧ (L = sbBase / 64 + line.toNat) ∧ (l1On s k = true) ∧ (l1On s j = true) ∧ (j ≠ k) ∧ (s.dir = []) ∧ (s.dirReqs = []) ∧ (s.dirRounds = []) ∧ (s.get DIR_ROT 0 < 33) ∧ ((j + 33 - s.get DIR_ROT 0) % 33 < (k + 33 - s.get DIR_ROT 0) % 33)) ∧
    (∃ (line : BitVec 20) (k : Fin 33) (_kd : DirKind) (L : Nat) (s : State), (L = sbBase / 64 + line.toNat) ∧ (l1On s k = true) ∧ (s.dirReqs = []) ∧ (s.dirRounds = [L])) ∧
    (∃ (line : BitVec 20) (L : Nat) (s : State), (L = sbBase / 64 + line.toNat) ∧ (s.dirReqs = [])) ∧
    (∃ (line : BitVec 20) (k : Fin 33) (j : Fin 33) (tk : Option Nat) (L : Nat) (s : State), (L = sbBase / 64 + line.toNat) ∧ (s.dirReqs = [⟨L, k, .own, tk, true⟩]) ∧ (s.dirRounds = [L]) ∧ (s.dir = [⟨L, some j.val, true, []⟩]) ∧ (j ≠ k) ∧ (s.resvs = [])) ∧
    (∃ (line : BitVec 20) (L : Nat) (s : State), (L = sbBase / 64 + line.toNat) ∧ (L ∉ s.dirRounds)) ∧
    (∃ (line : BitVec 20) (k : Fin 33) (kd : DirKind) (tk : Option Nat) (L : Nat) (s : State), (L = sbBase / 64 + line.toNat) ∧ (s.dirReqs = [⟨L, k, kd, tk, false⟩]) ∧ (s.dirRounds = [L]) ∧ ((kd = .upg → k.val ∉ s.holdersOf L))) ∧
    (∃ (line : BitVec 20) (k : Fin 33) (tk : Option Nat) (L : Nat) (s : State), (L = sbBase / 64 + line.toNat) ∧ (s.dirReqs = [⟨L, k, .upg, tk, false⟩]) ∧ (s.dirRounds = [L]) ∧ (k.val ∈ s.holdersOf L)) ∧
    (∃ (line : BitVec 20) (k : Fin 33) (dirty : Bool) (L : Nat) (s : State), (L = sbBase / 64 + line.toNat) ∧ (s.dir = [⟨L, some k.val, dirty, []⟩]) ∧ (s.resvs = [⟨k, 64 * L, 64⟩])) ∧
    (∃ (line : BitVec 20) (j : Fin 33) (k : Fin 33) (L : Nat) (s : State), (L = sbBase / 64 + line.toNat) ∧ (j ≠ k) ∧ (s.dir = [⟨L, none, false, [j.val, k.val]⟩]) ∧ (s.resvs = [])) ∧
    (∃ (line : BitVec 20) (_k : Fin 33) (L : Nat) (s : State), (L = sbBase / 64 + line.toNat) ∧ ((∀ e ∈ s.dir, e.line ≠ L))) :=
  ⟨⟨0xFFFFF, 32, .rd, sbBase / 64 + 0xFFFFF, State.reset, by decide +kernel⟩,
   ⟨0xFFFFF, 32, 31, true, sbBase / 64 + 0xFFFFF, { State.reset with dir := [⟨sbBase / 64 + 0xFFFFF, some 31, true, []⟩], resvs := [⟨31, 64 * (sbBase / 64 + 0xFFFFF), 64⟩] }, by decide +kernel⟩,
   ⟨0, 31, 32, sbBase / 64, State.reset.put CRS_ON 31 1, by decide +kernel⟩,
   ⟨5, 9, 3, sbBase / 64 + 5, ((State.reset.put DIR_ROT 0 5).put CRS_ON 3 1).put CRS_ON 9 1, by decide +kernel⟩,
   ⟨0, 32, .own, sbBase / 64, { State.reset with dirRounds := [sbBase / 64] }, by decide +kernel⟩,
   ⟨0, sbBase / 64, { State.reset with dirRounds := [sbBase / 64] }, by decide +kernel⟩,
   ⟨0, 32, 0, some 8, sbBase / 64, { State.reset with dirRounds := [sbBase / 64], dirReqs := [⟨sbBase / 64, 32, .own, some 8, true⟩], dir := [⟨sbBase / 64, some 0, true, []⟩] }, by decide +kernel⟩,
   ⟨0, sbBase / 64, State.reset, by decide +kernel⟩,
   ⟨0, 32, .upg, some 1, sbBase / 64, { State.reset with dirRounds := [sbBase / 64], dirReqs := [⟨sbBase / 64, 32, .upg, some 1, false⟩] }, by decide +kernel⟩,
   ⟨0, 32, none, sbBase / 64, { State.reset with dirRounds := [sbBase / 64], dirReqs := [⟨sbBase / 64, 32, .upg, none, false⟩], dir := [⟨sbBase / 64, none, false, [3, 32]⟩] }, by decide +kernel⟩,
   ⟨0, 32, true, sbBase / 64, { State.reset with dir := [⟨sbBase / 64, some 32, true, []⟩], resvs := [⟨32, 64 * (sbBase / 64), 64⟩] }, by decide +kernel⟩,
   ⟨0, 3, 32, sbBase / 64, { State.reset with dir := [⟨sbBase / 64, none, false, [3, 32]⟩] }, by decide +kernel⟩,
   ⟨0, 32, sbBase / 64, State.reset, by decide +kernel⟩⟩

/-- The worked example of 07: Course 20 writes the line back, then Courses 3 and 9 ask for it, with the rotation from 5. Course 9
wins, and Course 3 holds ticket 1. -/
def twoOwners : State :=
  { ((State.reset.put DIR_ROT 0 5).put CRS_ON 3 1).put CRS_ON 9 1 with dir := [⟨sbBase / 64, some 20, true, []⟩] }

theorem test_writeback_first : ∃ t, exec (.l1Writeback 20 0) twoOwners = .next t ∧ t.dir = [] := ⟨_, rfl, by decide +kernel⟩

theorem test_two_owners : ∃ t, exec (.directoryRequest 0 [(3, .own), (9, .own)]) { twoOwners with dir := [] } = .next t ∧
    t.holdersOf (sbBase / 64) = [9] ∧ (t.dirReqs.map (fun r => (r.who, r.ticket))) = [(3, some 1)] ∧ t.get CRS_STALL_RETRY 3 = 1 :=
  ⟨_, rfl, by decide +kernel⟩

theorem wit_AluInstructions :
    (∃ (x : Issue) (cond : Fin 16) (rd : Fin 32) (ra : Fin 32) (rb : Fin 32) (S : Fin 2) (a : Nat) (b : Nat) (s : State), (AluIn x 0 cond rd ra rb S a b s)) ∧
    (∃ (x : Issue) (cond : Fin 16) (rd : Fin 32) (ra : Fin 32) (rb : Fin 32) (S : Fin 2) (a : Nat) (b : Nat) (s : State), (AluIn x 1 cond rd ra rb S a b s) ∧ (s.get CORE_C x.core < 2)) ∧
    (∃ (x : Issue) (cond : Fin 16) (rd : Fin 32) (ra : Fin 32) (rb : Fin 32) (S : Fin 2) (a : Nat) (b : Nat) (s : State), (AluIn x 2 cond rd ra rb S a b s)) ∧
    (∃ (x : Issue) (cond : Fin 16) (rd : Fin 32) (ra : Fin 32) (rb : Fin 32) (S : Fin 2) (a : Nat) (b : Nat) (s : State), (AluIn x 3 cond rd ra rb S a b s) ∧ (s.get CORE_C x.core < 2)) ∧
    (∃ (x : Issue) (cond : Fin 16) (rd : Fin 32) (ra : Fin 32) (rb : Fin 32) (S : Fin 2) (a : Nat) (b : Nat) (s : State), (AluIn x 4 cond rd ra rb S a b s)) ∧
    (∃ (x : Issue) (cond : Fin 16) (rd : Fin 32) (ra : Fin 32) (rb : Fin 32) (S : Fin 2) (a : Nat) (b : Nat) (s : State), (AluIn x 5 cond rd ra rb S a b s)) ∧
    (∃ (x : Issue) (cond : Fin 16) (rd : Fin 32) (ra : Fin 32) (rb : Fin 32) (S : Fin 2) (a : Nat) (b : Nat) (s : State), (AluIn x 6 cond rd ra rb S a b s)) ∧
    (∃ (x : Issue) (cond : Fin 16) (rd : Fin 32) (ra : Fin 32) (rb : Fin 32) (S : Fin 2) (a : Nat) (b : Nat) (s : State), (AluIn x 7 cond rd ra rb S a b s)) ∧
    (∃ (x : Issue) (cond : Fin 16) (rd : Fin 32) (ra : Fin 32) (rb : Fin 32) (S : Fin 2) (a : Nat) (b : Nat) (s : State), (AluIn x 8 cond rd ra rb S a b s)) ∧
    (∃ (x : Issue) (cond : Fin 16) (rd : Fin 32) (ra : Fin 32) (rb : Fin 32) (S : Fin 2) (a : Nat) (b : Nat) (s : State), (AluIn x 9 cond rd ra rb S a b s)) ∧
    (∃ (x : Issue) (cond : Fin 16) (rd : Fin 32) (ra : Fin 32) (rb : Fin 32) (S : Fin 2) (a : Nat) (b : Nat) (s : State), (AluIn x 10 cond rd ra rb S a b s)) ∧
    (∃ (x : Issue) (cond : Fin 16) (rd : Fin 32) (ra : Fin 32) (rb : Fin 32) (S : Fin 2) (a : Nat) (b : Nat) (s : State), (AluIn x 11 cond rd ra rb S a b s)) ∧
    (∃ (x : Issue) (cond : Fin 16) (rd : Fin 32) (ra : Fin 32) (rb : Fin 32) (S : Fin 2) (a : Nat) (b : Nat) (s : State), (AluIn x 12 cond rd ra rb S a b s)) ∧
    (∃ (x : Issue) (cond : Fin 16) (rd : Fin 32) (ra : Fin 32) (rb : Fin 32) (S : Fin 2) (a : Nat) (b : Nat) (s : State), (AluIn x 13 cond rd ra rb S a b s)) ∧
    (∃ (x : Issue) (cond : Fin 16) (rd : Fin 32) (ra : Fin 32) (rb : Fin 32) (S : Fin 2) (a : Nat) (b : Nat) (s : State), (AluIn x 14 cond rd ra rb S a b s)) ∧
    (∃ (x : Issue) (cond : Fin 16) (rd : Fin 32) (ra : Fin 32) (rb : Fin 32) (S : Fin 2) (a : Nat) (b : Nat) (s : State), (AluIn x 15 cond rd ra rb S a b s)) ∧
    (∃ (x : Issue) (cond : Fin 16) (rd : Fin 32) (ra : Fin 32) (S : Fin 2) (imm : BitVec 13) (a : Nat) (b : Nat) (s : State), (x.word.toNat = cond * 2 ^ 28 + 1 * 2 ^ 24 + rd * 2 ^ 19 + ra * 2 ^ 14 + S * 2 ^ 13 + imm.toNat) ∧ (Stands x s) ∧ (s.gReg x.core ra = a) ∧ (a < 2 ^ 32) ∧ (b = (imm.signExtend 32).toNat)) ∧
    (∃ (x : Issue) (cond : Fin 16) (rd : Fin 32) (ra : Fin 32) (S : Fin 2) (imm : BitVec 11) (a : Nat) (s : State), (x.word.toNat = cond * 2 ^ 28 + 2 * 2 ^ 24 + rd * 2 ^ 19 + ra * 2 ^ 14 + S * 2 ^ 13 + 0 * 2 ^ 11 + imm.toNat) ∧ (Stands x s) ∧ (s.gReg x.core ra = a) ∧ (a < 2 ^ 32)) ∧
    (∃ (x : Issue) (cond : Fin 16) (rd : Fin 32) (ra : Fin 32) (S : Fin 2) (imm : BitVec 11) (a : Nat) (s : State), (x.word.toNat = cond * 2 ^ 28 + 2 * 2 ^ 24 + rd * 2 ^ 19 + ra * 2 ^ 14 + S * 2 ^ 13 + 1 * 2 ^ 11 + imm.toNat) ∧ (Stands x s) ∧ (s.gReg x.core ra = a) ∧ (a < 2 ^ 32)) ∧
    (∃ (x : Issue) (cond : Fin 16) (rd : Fin 32) (ra : Fin 32) (S : Fin 2) (imm : BitVec 11) (a : Nat) (s : State), (x.word.toNat = cond * 2 ^ 28 + 2 * 2 ^ 24 + rd * 2 ^ 19 + ra * 2 ^ 14 + S * 2 ^ 13 + 2 * 2 ^ 11 + imm.toNat) ∧ (Stands x s) ∧ (s.gReg x.core ra = a) ∧ (a < 2 ^ 32)) ∧
    (∃ (x : Issue) (cond : Fin 16) (rd : Fin 32) (ra : Fin 32) (n : Fin 32) (S : Fin 2) (f : Fin 4) (a : Nat) (s : State), (x.word.toNat = cond * 2 ^ 28 + 2 * 2 ^ 24 + rd * 2 ^ 19 + ra * 2 ^ 14 + S * 2 ^ 13 + 3 * 2 ^ 11 + f * 2 ^ 9 + n) ∧ (Stands x s) ∧ (s.gReg x.core ra = a) ∧ (a < 2 ^ 32)) ∧
    (∃ (x : Issue) (cond : Fin 16) (rd : Fin 32) (imm : BitVec 16) (a : Nat) (s : State), (s.gReg x.core rd = a) ∧ (a < 2 ^ 32) ∧ ((x.word.toNat = cond * 2 ^ 28 + 3 * 2 ^ 24 + rd * 2 ^ 19 + imm.toNat ∨ x.word.toNat = cond * 2 ^ 28 + 3 * 2 ^ 24 + rd * 2 ^ 19 + 2 ^ 18 + imm.toNat)) ∧ (Stands x s)) :=
  ⟨⟨⟨1, 3702528, .corr, .none⟩, 0, 7, 1, 31, 1, 4294967295, 1, ((onCore 1 0xFFFF 3702528 State.reset).put CORE_G 33 4294967295).put CORE_G 63 1, by decide +kernel⟩,
   ⟨⟨1, 3702544, .corr, .none⟩, 0, 7, 1, 31, 1, 2147483647, 0, ((onCore 1 0xFFFF 3702544 State.reset).put CORE_G 33 2147483647).put CORE_G 63 0, by decide +kernel⟩,
   ⟨⟨1, 3702560, .corr, .none⟩, 0, 7, 1, 31, 1, 2147483648, 1, ((onCore 1 0xFFFF 3702560 State.reset).put CORE_G 33 2147483648).put CORE_G 63 1, by decide +kernel⟩,
   ⟨⟨1, 3702576, .corr, .none⟩, 0, 7, 1, 31, 1, 0, 4294967295, ((onCore 1 0xFFFF 3702576 State.reset).put CORE_G 33 0).put CORE_G 63 4294967295, by decide +kernel⟩,
   ⟨⟨1, 3702592, .corr, .none⟩, 0, 7, 1, 31, 1, 2147483653, 2147483635, ((onCore 1 0xFFFF 3702592 State.reset).put CORE_G 33 2147483653).put CORE_G 63 2147483635, by decide +kernel⟩,
   ⟨⟨1, 3702608, .corr, .none⟩, 0, 7, 1, 31, 1, 2147483653, 2147483635, ((onCore 1 0xFFFF 3702608 State.reset).put CORE_G 33 2147483653).put CORE_G 63 2147483635, by decide +kernel⟩,
   ⟨⟨1, 3702624, .corr, .none⟩, 0, 7, 1, 31, 1, 2147483653, 2147483635, ((onCore 1 0xFFFF 3702624 State.reset).put CORE_G 33 2147483653).put CORE_G 63 2147483635, by decide +kernel⟩,
   ⟨⟨1, 3702640, .corr, .none⟩, 0, 7, 1, 31, 1, 2147483653, 2147483635, ((onCore 1 0xFFFF 3702640 State.reset).put CORE_G 33 2147483653).put CORE_G 63 2147483635, by decide +kernel⟩,
   ⟨⟨1, 3702656, .corr, .none⟩, 0, 7, 1, 31, 1, 3, 33, ((onCore 1 0xFFFF 3702656 State.reset).put CORE_G 33 3).put CORE_G 63 33, by decide +kernel⟩,
   ⟨⟨1, 3702672, .corr, .none⟩, 0, 7, 1, 31, 1, 3, 63, ((onCore 1 0xFFFF 3702672 State.reset).put CORE_G 33 3).put CORE_G 63 63, by decide +kernel⟩,
   ⟨⟨1, 3702688, .corr, .none⟩, 0, 7, 1, 31, 1, 2147483649, 31, ((onCore 1 0xFFFF 3702688 State.reset).put CORE_G 33 2147483649).put CORE_G 63 31, by decide +kernel⟩,
   ⟨⟨1, 3702704, .corr, .none⟩, 0, 7, 1, 31, 1, 1, 33, ((onCore 1 0xFFFF 3702704 State.reset).put CORE_G 33 1).put CORE_G 63 33, by decide +kernel⟩,
   ⟨⟨1, 3702720, .corr, .none⟩, 0, 7, 1, 31, 1, 2147483653, 2147483635, ((onCore 1 0xFFFF 3702720 State.reset).put CORE_G 33 2147483653).put CORE_G 63 2147483635, by decide +kernel⟩,
   ⟨⟨1, 3702736, .corr, .none⟩, 0, 7, 1, 31, 1, 2147483653, 2147483635, ((onCore 1 0xFFFF 3702736 State.reset).put CORE_G 33 2147483653).put CORE_G 63 2147483635, by decide +kernel⟩,
   ⟨⟨1, 3702752, .corr, .none⟩, 0, 7, 1, 31, 1, 2147483653, 2147483635, ((onCore 1 0xFFFF 3702752 State.reset).put CORE_G 33 2147483653).put CORE_G 63 2147483635, by decide +kernel⟩,
   ⟨⟨1, 3702768, .corr, .none⟩, 0, 7, 1, 31, 1, 2147483653, 2147483635, ((onCore 1 0xFFFF 3702768 State.reset).put CORE_G 33 2147483653).put CORE_G 63 2147483635, by decide +kernel⟩,
   ⟨⟨1, 20479999, .none, .none⟩, 0, 7, 1, 1, 0x1FFF, 0, 0xFFFFFFFF, (onCore 1 0 20479999 State.reset).put CORE_G 33 0, by decide +kernel⟩,
   ⟨⟨1, 37251071, .none, .none⟩, 0, 7, 1, 1, 0x7FF, 0x80000400, (onCore 1 0 37251071 State.reset).put CORE_G 33 0x80000400, by decide +kernel⟩,
   ⟨⟨1, 37253119, .none, .none⟩, 0, 7, 1, 1, 0x7FF, 0x80000400, (onCore 1 0 37253119 State.reset).put CORE_G 33 0x80000400, by decide +kernel⟩,
   ⟨⟨1, 37255167, .none, .none⟩, 0, 7, 1, 1, 0x7FF, 0x80000400, (onCore 1 0 37255167 State.reset).put CORE_G 33 0x80000400, by decide +kernel⟩,
   ⟨⟨1, 37256735, .none, .none⟩, 0, 7, 1, 31, 1, 3, 0x80000001, (onCore 1 0 37256735 State.reset).put CORE_G 33 0x80000001, by decide +kernel⟩,
   ⟨⟨1, 54329343, .none, .none⟩, 0, 7, 0xFFFF, 0x12345678, (onCore 1 0 54329343 State.reset).put CORE_G 39 0x12345678, by decide +kernel⟩⟩

theorem wit_MultiplyAndSystem :
    (∃ (x : Issue) (cond : Fin 16) (rd : Fin 32) (ra : Fin 32) (rb : Fin 32) (a : Nat) (b : Nat) (p : Nat) (s : State), (x.word.toNat = cond * 2 ^ 28 + 4 * 2 ^ 24 + rd * 2 ^ 19 + ra * 2 ^ 14 + rb * 2 ^ 9 + 0 * 2 ^ 4) ∧ (Stands x s) ∧ (s.gReg x.core ra = a) ∧ (s.gReg x.core rb = b) ∧ (a < 2 ^ 32) ∧ (b < 2 ^ 32) ∧ (p = (BitVec.ofInt 64 (toSigned 32 a * toSigned 32 b)).toNat) ∧ (coreRm s x.core = false)) ∧
    (∃ (x : Issue) (cond : Fin 16) (rd : Fin 32) (ra : Fin 32) (rb : Fin 32) (a : Nat) (b : Nat) (p : Nat) (s : State), (x.word.toNat = cond * 2 ^ 28 + 4 * 2 ^ 24 + rd * 2 ^ 19 + ra * 2 ^ 14 + rb * 2 ^ 9 + 0 * 2 ^ 4) ∧ (Stands x s) ∧ (s.gReg x.core ra = a) ∧ (s.gReg x.core rb = b) ∧ (a < 2 ^ 32) ∧ (b < 2 ^ 32) ∧ (p = (BitVec.ofInt 64 (toSigned 32 a * toSigned 32 b)).toNat) ∧ (coreRm s x.core = true)) ∧
    (∃ (x : Issue) (cond : Fin 16) (rd : Fin 32) (ra : Fin 32) (rb : Fin 32) (a : Nat) (b : Nat) (p : Nat) (s : State), (x.word.toNat = cond * 2 ^ 28 + 4 * 2 ^ 24 + rd * 2 ^ 19 + ra * 2 ^ 14 + rb * 2 ^ 9 + 1 * 2 ^ 4) ∧ (Stands x s) ∧ (s.gReg x.core ra = a) ∧ (s.gReg x.core rb = b) ∧ (a < 2 ^ 32) ∧ (b < 2 ^ 32) ∧ (p = (BitVec.ofInt 64 (toSigned 32 a * toSigned 32 b)).toNat) ∧ (coreRm s x.core = false)) ∧
    (∃ (x : Issue) (cond : Fin 16) (rd : Fin 32) (ra : Fin 32) (rb : Fin 32) (a : Nat) (b : Nat) (p : Nat) (s : State), (x.word.toNat = cond * 2 ^ 28 + 4 * 2 ^ 24 + rd * 2 ^ 19 + ra * 2 ^ 14 + rb * 2 ^ 9 + 1 * 2 ^ 4) ∧ (Stands x s) ∧ (s.gReg x.core ra = a) ∧ (s.gReg x.core rb = b) ∧ (a < 2 ^ 32) ∧ (b < 2 ^ 32) ∧ (p = (BitVec.ofInt 64 (toSigned 32 a * toSigned 32 b)).toNat) ∧ (coreRm s x.core = true)) ∧
    (∃ (x : Issue) (cond : Fin 16) (rd : Fin 32) (ra : Fin 32) (rb : Fin 32) (a : Nat) (b : Nat) (p : Nat) (s : State), (x.word.toNat = cond * 2 ^ 28 + 4 * 2 ^ 24 + rd * 2 ^ 19 + ra * 2 ^ 14 + rb * 2 ^ 9 + 2 * 2 ^ 4) ∧ (Stands x s) ∧ (s.gReg x.core ra = a) ∧ (s.gReg x.core rb = b) ∧ (a < 2 ^ 32) ∧ (b < 2 ^ 32) ∧ (p = a * b) ∧ (coreRm s x.core = false)) ∧
    (∃ (x : Issue) (cond : Fin 16) (rd : Fin 32) (ra : Fin 32) (rb : Fin 32) (a : Nat) (b : Nat) (p : Nat) (s : State), (x.word.toNat = cond * 2 ^ 28 + 4 * 2 ^ 24 + rd * 2 ^ 19 + ra * 2 ^ 14 + rb * 2 ^ 9 + 2 * 2 ^ 4) ∧ (Stands x s) ∧ (s.gReg x.core ra = a) ∧ (s.gReg x.core rb = b) ∧ (a < 2 ^ 32) ∧ (b < 2 ^ 32) ∧ (p = a * b) ∧ (coreRm s x.core = true)) ∧
    (∃ (x : Issue) (cond : Fin 16) (rd : Fin 32) (k : Nat) (s : State), (k = x.core) ∧ (x.word.toNat = cond * 2 ^ 28 + 9 * 2 ^ 24 + rd * 2 ^ 15) ∧ (Stands x s) ∧ ((s.get CORE_MDBUSY k = 0 ∨ s.get CORE_COUNT 0 < s.get CORE_MD_AT k)) ∧ (s.srWord k < 2 ^ 17)) ∧
    (∃ (x : Issue) (cond : Fin 16) (rd : Fin 32) (i : Nat) (k : Nat) (v : Nat) (s : State), (k = x.core) ∧ (1 ≤ i) ∧ (i ≤ 10) ∧ (x.word.toNat = cond * 2 ^ 28 + 9 * 2 ^ 24 + rd * 2 ^ 15 + i) ∧ (Stands x s) ∧ ((s.get CORE_MDBUSY k = 0 ∨ s.get CORE_COUNT 0 < s.get CORE_MD_AT k)) ∧ (v = (match i with | 1 => s.get CORE_VBASE k | 2 => s.get CORE_FCAUSE k | 3 => s.get CORE_FADDR k % 2 ^ 32 | 4 => s.get CORE_FADDR k / 2 ^ 32 | 5 => s.get CORE_MD k % 2 ^ 32 | 6 => s.get CORE_MD k / 2 ^ 32 | 7 => (s.get CORE_COUNT 0 - s.get CORE_CYC0 k) % 2 ^ 32 | 8 => s.get CORE_SLIM k | 9 => s.get CORE_CRCP k | _ => s.get CORE_SMASK k)) ∧ (v < 2 ^ 32)) ∧
    (∃ (x : Issue) (cond : Fin 16) (ra : Fin 32) (i : Nat) (v : Nat) (s : State), (i ∈ [0, 1, 8, 9, 10]) ∧ (x.word.toNat = cond * 2 ^ 28 + 9 * 2 ^ 24 + 1 * 2 ^ 20 + ra * 2 ^ 15 + i) ∧ (Stands x s) ∧ (s.gReg x.core ra = v)) ∧
    (∃ (x : Issue) (i : Nat) (v : Nat) (s : State), (x.word.toNat = 0x10000000) ∧ (StandsOn x s) ∧ (s.get CORE_MDBUSY x.core = 0) ∧ (s.flights = [⟨x.core, 1, .special i, v⟩]) ∧ (i ∈ [0, 1, 8, 9, 10]) ∧ (v < 2 ^ 32)) ∧
    (∃ (x : Issue) (cond : Fin 16) (rd : Fin 32) (n : Fin 4) (rm : Nat) (l1 : Nat) (s : State), (x.word.toNat = cond * 2 ^ 28 + 9 * 2 ^ 24 + 2 * 2 ^ 20 + rd * 2 ^ 15 + n) ∧ (Stands x s) ∧ (rm = (if coreRm s x.core then 1 else 0)) ∧ (l1 = (if x.core.val ≤ 32 then 1 else 0))) ∧
    (∃ (x : Issue) (cond : Fin 16) (bk : Fin 4) (r : Fin 32) (v : Nat) (s : State), (x.word.toNat = cond * 2 ^ 28 + 10 * 2 ^ 24 + bk * 2 ^ 22 + r * 2 ^ 16) ∧ (Stands x s) ∧ (s.gReg x.core r = v)) ∧
    (∃ (x : Issue) (cond : Fin 16) (bk : Fin 4) (r : Fin 32) (s : State), (x.word.toNat = cond * 2 ^ 28 + 10 * 2 ^ 24 + bk * 2 ^ 22 + 1 * 2 ^ 21 + r * 2 ^ 16) ∧ (Stands x s) ∧ (s.get CORE_B (4 * x.core + bk) < 2 ^ 24)) ∧
    (∃ (x : Issue) (cond : Fin 16) (k : Nat) (s : State), (k = x.core) ∧ (x.word.toNat = cond * 2 ^ 28 + 9 * 2 ^ 24 + 3 * 2 ^ 20) ∧ (Stands x s) ∧ (s.get CORE_SLOT k = 0) ∧ ((k ≠ 33 ∨ s.get PCS_STBY_ASK 0 = 0))) ∧
    (∃ (x : Issue) (cond : Fin 16) (k : Nat) (s : State), (k = x.core) ∧ (x.word.toNat = cond * 2 ^ 28 + 9 * 2 ^ 24 + 4 * 2 ^ 20) ∧ (Stands x s) ∧ ((∀ l ∈ s.wtb, l.who ≠ k)) ∧ (trbBusy s k = false)) ∧
    (∃ (x : Issue) (cond : Fin 16) (k : Nat) (s : State), (k = x.core) ∧ (x.word.toNat = cond * 2 ^ 28 + 9 * 2 ^ 24 + 4 * 2 ^ 20) ∧ (Stands x s) ∧ ((s.wtb.any (fun l => l.who == k) = true ∨ trbBusy s k = true))) :=
  ⟨⟨⟨1, 70811136, .none, .none⟩, 0, 7, 1, 31, 4294967295, 2147483648, 2147483648, (((onCore 1 0 70811136 State.reset).put CORE_G 33 4294967295).put CORE_G 63 2147483648).put CORE_RM 1 0, by decide +kernel⟩,
   ⟨⟨1, 70811136, .none, .none⟩, 0, 7, 1, 31, 4294967295, 2147483648, 2147483648, (((onCore 1 0 70811136 State.reset).put CORE_G 33 4294967295).put CORE_G 63 2147483648).put CORE_RM 1 1, by decide +kernel⟩,
   ⟨⟨1, 70811152, .none, .none⟩, 0, 7, 1, 31, 4294967295, 2147483648, 2147483648, (((onCore 1 0 70811152 State.reset).put CORE_G 33 4294967295).put CORE_G 63 2147483648).put CORE_RM 1 0, by decide +kernel⟩,
   ⟨⟨1, 70811152, .none, .none⟩, 0, 7, 1, 31, 4294967295, 2147483648, 2147483648, (((onCore 1 0 70811152 State.reset).put CORE_G 33 4294967295).put CORE_G 63 2147483648).put CORE_RM 1 1, by decide +kernel⟩,
   ⟨⟨1, 70811168, .none, .none⟩, 0, 7, 1, 31, 4294967295, 2147483648, 9223372034707292160, (((onCore 1 0 70811168 State.reset).put CORE_G 33 4294967295).put CORE_G 63 2147483648).put CORE_RM 1 0, by decide +kernel⟩,
   ⟨⟨1, 70811168, .none, .none⟩, 0, 7, 1, 31, 4294967295, 2147483648, 9223372034707292160, (((onCore 1 0 70811168 State.reset).put CORE_G 33 4294967295).put CORE_G 63 2147483648).put CORE_RM 1 1, by decide +kernel⟩,
   ⟨⟨1, 151224320, .none, .none⟩, 0, 7, 1, ((((((onCore 1 0 151224320 State.reset).put CORE_V 1 1).put CORE_N 1 1).put CORE_LVL 1 2).put CORE_FLT 1 1).put CORE_IEU 1 1).put CORE_RM 1 1, by decide +kernel⟩,
   ⟨⟨1, 151224330, .none, .none⟩, 0, 7, 10, 1, 0x80000001, (onCore 1 0 151224330 State.reset).put CORE_SMASK 1 0x80000001, by decide +kernel⟩,
   ⟨⟨1, 152272906, .none, .none⟩, 0, 7, 10, 0x80000001, (onCore 1 0 152272906 State.reset).put CORE_G 39 0x80000001, by decide +kernel⟩,
   ⟨⟨1, 0x10000000, .none, .none⟩, 0, 0xFFFFFFFF, { onCore 1 0 0x10000000 State.reset with flights := [⟨1, 1, .special 0, 0xFFFFFFFF⟩] }, by decide +kernel⟩,
   ⟨⟨1, 153321475, .none, .none⟩, 0, 7, 3, 0, 1, (onCore 1 0 153321475 State.reset).put CORE_RM 1 0, by decide +kernel⟩,
   ⟨⟨1, 180813824, .none, .none⟩, 0, 3, 7, 0xFF123456, (onCore 1 0 180813824 State.reset).put CORE_G 39 0xFF123456, by decide +kernel⟩,
   ⟨⟨1, 182910976, .none, .none⟩, 0, 3, 7, (onCore 1 0 182910976 State.reset).put CORE_B 7 0x123456, by decide +kernel⟩,
   ⟨⟨1, 154140672, .none, .none⟩, 0, 1, onCore 1 0 154140672 State.reset, by decide +kernel⟩,
   ⟨⟨1, 155189248, .none, .none⟩, 0, 1, { onCore 1 0 155189248 State.reset with wtb := [⟨2, sbBase, [1]⟩] }, by decide +kernel⟩,
   ⟨⟨1, 155189248, .none, .none⟩, 0, 1, { onCore 1 0 155189248 State.reset with wtb := [⟨1, sbBase, [1]⟩] }, by decide +kernel⟩⟩

theorem wit_LoadsAndStores :
    (∃ (x : Issue) (m : Meets) (cond : Fin 16) (rd : Fin 32) (ra : Fin 32) (bk : Fin 4) (sz : Fin 3) (u : Fin 2) (d : BitVec 9) (k : Nat) (n : Nat) (a : Nat) (bs : List Byte) (v : State) (w : State) (s : State), (k = x.core) ∧ (n = 2 ^ sz.val) ∧ (x.word.toNat = cond * 2 ^ 28 + 5 * 2 ^ 24 + rd * 2 ^ 19 + ra * 2 ^ 14 + bk * 2 ^ 12 + sz * 2 ^ 10 + u * 2 ^ 9 + d.toNat) ∧ (Stands x s) ∧ (x.ecc = .none) ∧ (s.get CORE_MDBUSY k = 0) ∧ (DataAt k bk ra (d.toInt * n) a s) ∧ (a % n = 0) ∧ (v = ((s.put CORE_WAIT k 0).put CORE_STALL k 0).put CORE_FREEZE k 0) ∧ (w = (coreLoad k m [(a, n)] v).2) ∧ ((coreLoad k m [(a, n)] v).1 = .ok bs)) ∧
    (∃ (x : Issue) (cond : Fin 16) (rd : Fin 32) (ra : Fin 32) (bk : Fin 4) (sz : Fin 3) (d : BitVec 9) (k : Nat) (n : Nat) (a : Nat) (v : State) (s : State), (k = x.core) ∧ (n = 2 ^ sz.val) ∧ (x.word.toNat = cond * 2 ^ 28 + 6 * 2 ^ 24 + rd * 2 ^ 19 + ra * 2 ^ 14 + bk * 2 ^ 12 + sz * 2 ^ 10 + d.toNat) ∧ (Stands x s) ∧ (x.ecc = .none) ∧ (s.get CORE_MDBUSY k = 0) ∧ (DataAt k bk ra (d.toInt * n) a s) ∧ (a % n = 0) ∧ (v = ((s.put CORE_WAIT k 0).put CORE_STALL k 0).put CORE_FREEZE k 0) ∧ ((coreSave k [(a, n)] (toBytes n (s.gReg k rd)) v).1 = .ok [])) ∧
    (∃ (x : Issue) (m : Meets) (cond : Fin 16) (rd : Fin 32) (ra : Fin 32) (bk : Fin 4) (sz : Fin 3) (u : Fin 2) (d : BitVec 9) (k : Nat) (n : Nat) (a : Nat) (s : State), (k = x.core) ∧ (n = 2 ^ sz.val) ∧ (x.word.toNat = cond * 2 ^ 28 + 5 * 2 ^ 24 + rd * 2 ^ 19 + ra * 2 ^ 14 + bk * 2 ^ 12 + sz * 2 ^ 10 + u * 2 ^ 9 + d.toNat) ∧ (Stands x s) ∧ (DataAt k bk ra (d.toInt * n) a s) ∧ (a % n = 0) ∧ (m.ecc = .none) ∧ (Still k s) ∧ ((∀ l ∈ s.wtb, l.who ≠ k)) ∧ (((regionOf a = .soundboard ∧ (k ≤ 32 → k ∈ s.holdersOf (a / 64))) ∨ (regionOf a = .course k ∧ k < 32 ∧ s.get CRS_ON k = 1)))) ∧
    (∃ (x : Issue) (m : Meets) (cond : Fin 16) (rd : Fin 32) (ra : Fin 32) (bk : Fin 4) (sz : Fin 3) (u : Fin 2) (d : BitVec 9) (k : Nat) (n : Nat) (a : Nat) (s : State), (k = x.core) ∧ (n = 2 ^ sz.val) ∧ (x.word.toNat = cond * 2 ^ 28 + 5 * 2 ^ 24 + rd * 2 ^ 19 + ra * 2 ^ 14 + bk * 2 ^ 12 + sz * 2 ^ 10 + u * 2 ^ 9 + d.toNat) ∧ (Stands x s) ∧ (DataAt k bk ra (d.toInt * n) a s) ∧ (a % n = 0) ∧ (m.ecc = .none) ∧ (Still k s) ∧ (regionOf a = .soundboard) ∧ (k ≤ 32) ∧ (l1On s k = true) ∧ (s.dir = []) ∧ (s.dirReqs = [])) ∧
    (∃ (x : Issue) (cond : Fin 16) (rd : Fin 32) (ra : Fin 32) (bk : Fin 4) (sz : Fin 3) (d : BitVec 9) (k : Nat) (n : Nat) (a : Nat) (s : State), (k = x.core) ∧ (n = 2 ^ sz.val) ∧ (x.word.toNat = cond * 2 ^ 28 + 6 * 2 ^ 24 + rd * 2 ^ 19 + ra * 2 ^ 14 + bk * 2 ^ 12 + sz * 2 ^ 10 + d.toNat) ∧ (Stands x s) ∧ (DataAt k bk ra (d.toInt * n) a s) ∧ (a % n = 0) ∧ (Still k s) ∧ (regionOf a = .course k) ∧ (k < 32) ∧ (s.get CRS_ON k = 1)) ∧
    (∃ (x : Issue) (cond : Fin 16) (rd : Fin 32) (ra : Fin 32) (bk : Fin 4) (sz : Fin 3) (d : BitVec 9) (k : Nat) (n : Nat) (a : Nat) (s : State), (k = x.core) ∧ (n = 2 ^ sz.val) ∧ (x.word.toNat = cond * 2 ^ 28 + 6 * 2 ^ 24 + rd * 2 ^ 19 + ra * 2 ^ 14 + bk * 2 ^ 12 + sz * 2 ^ 10 + d.toNat) ∧ (Stands x s) ∧ (DataAt k bk ra (d.toInt * n) a s) ∧ (a % n = 0) ∧ (Still k s) ∧ (regionOf a = .soundboard) ∧ (SbPlain s (a - sbBase) n) ∧ ((k < 32 → s.inHalf 0 (a - sbBase) = false ∧ s.inHalf 1 (a - sbBase) = false)) ∧ ((∀ l ∈ s.wtb, l.who ≠ k)) ∧ (((32 < k ∧ s.dirEntry (a / 64) = none) ∨ ∃ dirty : Bool, s.dirEntry (a / 64) = some ⟨a / 64, some k, dirty, []⟩))) ∧
    (∃ (x : Issue) (cond : Fin 16) (rd : Fin 32) (ra : Fin 32) (bk : Fin 4) (sz : Fin 3) (d : BitVec 9) (k : Nat) (n : Nat) (a : Nat) (s : State), (k = x.core) ∧ (n = 2 ^ sz.val) ∧ (x.word.toNat = cond * 2 ^ 28 + 6 * 2 ^ 24 + rd * 2 ^ 19 + ra * 2 ^ 14 + bk * 2 ^ 12 + sz * 2 ^ 10 + d.toNat) ∧ (Stands x s) ∧ (DataAt k bk ra (d.toInt * n) a s) ∧ (a % n = 0) ∧ (Still k s) ∧ (k < 32) ∧ (regionOf a = .soundboard) ∧ ((s.inHalf 0 (a - sbBase) = true ∨ s.inHalf 1 (a - sbBase) = true)) ∧ (s.imageLine (a / 64) = true) ∧ ((s.wtb.filter (fun l => l.who = k)).length < 8)) ∧
    (∃ (x : Issue) (m : Meets) (cond : Fin 16) (rt : Fin 32) (ra : Fin 32) (bk : Fin 4) (d : BitVec 9) (k : Nat) (a : Nat) (s : State), (k = x.core) ∧ (x.word.toNat = cond * 2 ^ 28 + 12 * 2 ^ 24 + rt * 2 ^ 19 + ra * 2 ^ 14 + bk * 2 ^ 12 + d.toNat) ∧ (Stands x s) ∧ (DataAt k bk ra (d.toInt * 4) a s) ∧ (a % 4 = 0) ∧ (Still k s) ∧ (m.ecc = .none) ∧ ((∀ l ∈ s.wtb, l.who ≠ k)) ∧ (((regionOf a = .soundboard ∧ (k ≤ 32 → k ∈ s.holdersOf (a / 64))) ∨ (regionOf a = .course k ∧ k < 32 ∧ s.get CRS_ON k = 1)))) ∧
    (∃ (x : Issue) (cond : Fin 16) (rt : Fin 32) (ra : Fin 32) (bk : Fin 4) (d : BitVec 9) (k : Nat) (a : Nat) (s : State), (k = x.core) ∧ (x.word.toNat = cond * 2 ^ 28 + 12 * 2 ^ 24 + rt * 2 ^ 19 + ra * 2 ^ 14 + bk * 2 ^ 12 + 2 ^ 11 + d.toNat) ∧ (Stands x s) ∧ (DataAt k bk ra (d.toInt * 4) a s) ∧ (a % 4 = 0) ∧ (Still k s) ∧ (regionOf a = .course k) ∧ (k < 32) ∧ (s.get CRS_ON k = 1) ∧ (s.resvs = [⟨k, a / 8 * 8, 8⟩])) ∧
    (∃ (x : Issue) (cond : Fin 16) (rt : Fin 32) (ra : Fin 32) (bk : Fin 4) (d : BitVec 9) (k : Nat) (a : Nat) (s : State), (k = x.core) ∧ (x.word.toNat = cond * 2 ^ 28 + 12 * 2 ^ 24 + rt * 2 ^ 19 + ra * 2 ^ 14 + bk * 2 ^ 12 + 2 ^ 11 + d.toNat) ∧ (Stands x s) ∧ (DataAt k bk ra (d.toInt * 4) a s) ∧ (a % 4 = 0) ∧ (Still k s) ∧ ((regionOf a = .soundboard ∨ regionOf a = .course k)) ∧ ((∀ r ∈ s.resvs, r.core ≠ k))) :=
  ⟨⟨⟨1, 87586303, .none, .none⟩, ⟨.none, .good, none⟩, 0, 7, 1, 3, 1, 0, 0x1FF, 1, 2, 0x1000FFFE, [0x34, 0x82], ((({ ((((onCore 1 0 87586303 State.reset).put CORE_B 7 0x1000).put CORE_G 33 0).putBytes 0x1000FFFE [0x34, 0x82]) with dir := [⟨0x1000FFFE / 64, none, false, [1]⟩] } : State).put CORE_WAIT 1 0).put CORE_STALL 1 0).put CORE_FREEZE 1 0, ((({ ((((onCore 1 0 87586303 State.reset).put CORE_B 7 0x1000).put CORE_G 33 0).putBytes 0x1000FFFE [0x34, 0x82]) with dir := [⟨0x1000FFFE / 64, none, false, [1]⟩] } : State).put CORE_WAIT 1 0).put CORE_STALL 1 0).put CORE_FREEZE 1 0, { ((((onCore 1 0 87586303 State.reset).put CORE_B 7 0x1000).put CORE_G 33 0).putBytes 0x1000FFFE [0x34, 0x82]) with dir := [⟨0x1000FFFE / 64, none, false, [1]⟩] }, by decide +kernel⟩,
   ⟨⟨1, 104364032, .none, .none⟩, 0, 7, 1, 3, 2, 0, 1, 4, 0x10000000, ((({ ((onCore 1 0 104364032 State.reset).put CORE_B 7 0x1000).put CORE_G 33 0 with dir := [⟨0x10000000 / 64, some 1, true, []⟩] } : State).put CORE_WAIT 1 0).put CORE_STALL 1 0).put CORE_FREEZE 1 0, { ((onCore 1 0 104364032 State.reset).put CORE_B 7 0x1000).put CORE_G 33 0 with dir := [⟨0x10000000 / 64, some 1, true, []⟩] }, by decide +kernel⟩,
   ⟨⟨1, 87585279, .corr, .none⟩, ⟨.none, .good, none⟩, 0, 7, 1, 3, 0, 0, 0x1FF, 1, 1, 0x8FFFF, (((onCore 1 0 87585279 State.reset).put CORE_B 7 8).put CORE_G 33 0).putSram 0x8FFFF [0x80], by decide +kernel⟩,
   ⟨⟨1, 87586303, .none, .none⟩, ⟨.none, .good, none⟩, 0, 7, 1, 3, 1, 0, 0x1FF, 1, 2, 0x1000FFFE, ((onCore 1 0 87586303 State.reset).put CORE_B 7 0x1000).put CORE_G 33 0, by decide +kernel⟩,
   ⟨⟨1, 104363263, .none, .none⟩, 0, 7, 1, 3, 1, 0xFF, 1, 2, 0x801FE, ((((onCore 1 0 104363263 State.reset).put CORE_B 7 8).put CORE_G 33 0).put CORE_G 39 0x12345678).putSram 0x801FE [1, 2], by decide +kernel⟩,
   ⟨⟨1, 104364288, .none, .none⟩, 0, 7, 1, 3, 2, 0x100, 1, 4, 0x1000FC00, { (((onCore 1 0 104364288 State.reset).put CORE_B 7 0x1000).put CORE_G 33 0).put CORE_G 39 0x12345678 with dir := [⟨0x1000FC00 / 64, some 1, true, []⟩] }, by decide +kernel⟩,
   ⟨⟨1, 104364032, .none, .none⟩, 0, 7, 1, 3, 2, 0, 1, 4, 0x10000000, (((((onCore 1 0 104364032 State.reset).put CORE_B 7 0x1000).put CORE_G 33 0).put CORE_G 39 7).put LIM_BASE_SLOTS_K 0 1).put LIM_BASE_BASE 0 0, by decide +kernel⟩,
   ⟨⟨1, 205025791, .none, .none⟩, ⟨.none, .good, none⟩, 0, 7, 1, 3, 0x1FF, 1, 0x8FFFC, (((onCore 1 0 205025791 State.reset).put CORE_B 7 8).put CORE_G 33 0).putSram 0x8FFFC [1, 2, 3, 0x84], by decide +kernel⟩,
   ⟨⟨1, 205027839, .none, .none⟩, 0, 7, 1, 3, 0x1FF, 1, 0x8FFFC, { (((onCore 1 0 205027839 State.reset).put CORE_B 7 8).put CORE_G 33 0).putSram 0x8FFFC [1, 2, 3, 0x84] with resvs := [⟨1, 0x8FFF8, 8⟩] }, by decide +kernel⟩,
   ⟨⟨1, 205027328, .none, .none⟩, 0, 7, 1, 3, 0, 1, 0x13FFFFFC, { ((onCore 1 0 205027328 State.reset).put CORE_B 7 0x13FF).put CORE_G 33 0xFFFC with resvs := [⟨2, 0x13FFFFC0, 64⟩] }, by decide +kernel⟩⟩

theorem wit_ControlTransfer :
    (∃ (x : Issue) (cond : Fin 16) (off : BitVec 16) (k : Nat) (s : State), (k = x.core) ∧ (x.word.toNat = cond * 2 ^ 28 + 7 * 2 ^ 24 + off.toNat) ∧ (Stands x s) ∧ (s.get CORE_SLOT k = 0) ∧ (s.get CORE_PC k < 2 ^ 16) ∧ (s.get CORE_CP k < 16)) ∧
    (∃ (x : Issue) (cond : Fin 16) (off : BitVec 16) (k : Nat) (s : State), (k = x.core) ∧ (x.word.toNat = cond * 2 ^ 28 + 7 * 2 ^ 24 + 2 ^ 23 + off.toNat) ∧ (Stands x s) ∧ (s.get CORE_SLOT k = 0) ∧ (s.get CORE_PC k < 2 ^ 16) ∧ (s.get CORE_CP k < 16)) ∧
    (∃ (x : Issue) (cond : Fin 16) (off : BitVec 16) (L : Fin 2) (k : Nat) (s : State), (k = x.core) ∧ (x.word.toNat = cond * 2 ^ 28 + 7 * 2 ^ 24 + L * 2 ^ 23 + off.toNat) ∧ (StandsOn x s) ∧ (condOk s k x.word.toNat = false) ∧ (s.get CORE_SLOT k = 0) ∧ (s.get CORE_PC k < 2 ^ 16) ∧ (s.get CORE_CP k < 16)) ∧
    (∃ (x : Issue) (cond : Fin 16) (ra : Fin 32) (k : Nat) (s : State), (k = x.core) ∧ (x.word.toNat = cond * 2 ^ 28 + 8 * 2 ^ 24 + ra * 2 ^ 14) ∧ (Stands x s) ∧ (s.get CORE_SLOT k = 0) ∧ ((k = 32 → s.gReg k ra / 2 ^ 16 % 16 ≠ 3))) ∧
    (∃ (x : Issue) (cond : Fin 16) (dest : BitVec 20) (k : Nat) (s : State), (k = x.core) ∧ (x.word.toNat = cond * 2 ^ 28 + 8 * 2 ^ 24 + 5 * 2 ^ 20 + dest.toNat) ∧ (Stands x s) ∧ (s.get CORE_SLOT k = 0) ∧ ((k = 32 → dest.toNat / 2 ^ 16 ≠ 3))) ∧
    (∃ (x : Issue) (cond : Fin 16) (dest : BitVec 20) (k : Nat) (base : Nat) (s : State), (k = x.core) ∧ (x.word.toNat = cond * 2 ^ 28 + 8 * 2 ^ 24 + 2 ^ 20 + dest.toNat) ∧ (Stands x s) ∧ (s.get CORE_SLOT k = 0) ∧ (StackAt k 2 base s) ∧ (Still k s) ∧ (s.get CORE_PC k < 2 ^ 16) ∧ (s.get CORE_CP k < 16)) ∧
    (∃ (x : Issue) (cond : Fin 16) (ra : Fin 32) (k : Nat) (base : Nat) (s : State), (k = x.core) ∧ (x.word.toNat = cond * 2 ^ 28 + 8 * 2 ^ 24 + 2 * 2 ^ 20 + ra * 2 ^ 14) ∧ (Stands x s) ∧ (s.get CORE_SLOT k = 0) ∧ (StackAt k 2 base s) ∧ (Still k s) ∧ (s.get CORE_PC k < 2 ^ 16) ∧ (s.get CORE_CP k < 16)) ∧
    (∃ (x : Issue) (m : Meets) (cond : Fin 16) (k : Nat) (base : Nat) (w0 : Nat) (w1 : Nat) (s : State), (k = x.core) ∧ (k < 32) ∧ (x.word.toNat = cond * 2 ^ 28 + 8 * 2 ^ 24 + 3 * 2 ^ 20) ∧ (Stands x s) ∧ (s.get CORE_SLOT k = 0) ∧ (Still k s) ∧ (m.ecc = .none) ∧ (s.get CRS_ON k = 1) ∧ (s.gReg k 31 % 4 = 0) ∧ (s.gReg k 31 < 2 ^ 32) ∧ (s.gReg k 31 % 2 ^ 16 ≤ 2 ^ 16 - 8) ∧ (base = s.get CORE_B (4 * k + 3) * 2 ^ 16 + s.gReg k 31 % 2 ^ 16) ∧ (regionOf base = .course k) ∧ (w0 = ofBytes ((List.range 4).map (fun i => s.sramByte (base + i)))) ∧ (w1 = ofBytes ((List.range 4).map (fun i => s.sramByte (base + 4 + i))))) ∧
    (∃ (x : Issue) (m : Meets) (cond : Fin 16) (k : Nat) (base : Nat) (w0 : Nat) (s : State), (k = x.core) ∧ (k < 32) ∧ (x.word.toNat = cond * 2 ^ 28 + 8 * 2 ^ 24 + 4 * 2 ^ 20) ∧ (Stands x s) ∧ (s.get CORE_SLOT k = 0) ∧ (Still k s) ∧ (m.ecc = .none) ∧ (s.get CRS_ON k = 1) ∧ (s.gReg k 31 % 4 = 0) ∧ (s.gReg k 31 < 2 ^ 32) ∧ (s.gReg k 31 % 2 ^ 16 ≤ 2 ^ 16 - 24) ∧ (base = s.get CORE_B (4 * k + 3) * 2 ^ 16 + s.gReg k 31 % 2 ^ 16) ∧ (regionOf base = .course k) ∧ (w0 = ofBytes ((List.range 4).map (fun i => s.sramByte (base + i))))) ∧
    (∃ (x : Issue) (cond : Fin 16) (code : BitVec 16) (k : Nat) (base : Nat) (v : Nat) (s : State), (k = x.core) ∧ (x.word.toNat = cond * 2 ^ 28 + 8 * 2 ^ 24 + 6 * 2 ^ 20 + code.toNat) ∧ (Stands x s) ∧ (x.vec ≠ .uncorr) ∧ (CanFault k 8 base v s) ∧ (s.get CORE_SLOT k = 0) ∧ (s.get CORE_PC k < 2 ^ 16)) ∧
    (∃ (e : EntryIn) (i : Fin 64) (lvl : Nat) (k : Nat) (base : Nat) (v : Nat) (s : State), (k = e.core) ∧ (e.vec ≠ .uncorr) ∧ (s.get CORE_FP k = 0) ∧ (s.get CRS_STAT_STATE k = 2) ∧ (StackAt k 6 base s) ∧ (Still k s) ∧ (VectorAt k i base 24 v s) ∧ (s.get CORE_SLOT k = 0) ∧ (s.get CORE_STALL k = 0) ∧ (s.ldgWait = []) ∧ (s.get CRS_EVT_EN_EN k = 2 ^ i.val) ∧ (s.bit CRS_EVT_PEND_PEND k i = true) ∧ (lvl = (if s.bit CRS_EVT_LVL_URGENT k i = true then 2 else 1)) ∧ ((lvl = 2 → s.get CORE_IEU k = 1 ∧ s.get CORE_LVL k < 2)) ∧ ((lvl = 1 → s.get CORE_IEN k = 1 ∧ s.get CORE_LVL k < 2))) ∧
    (∃ (e : EntryIn) (k : Nat) (s : State), (k = e.core) ∧ ((coreInputs s k = 0 ∨ (s.get CORE_IEN k = 0 ∧ s.get CORE_IEU k = 0) ∨ (s.get CORE_SLOT k = 1 ∧ s.get CORE_BLOCK k = 0) ∨ s.get CORE_FP k ≠ 0))) :=
  ⟨⟨⟨1, 117506047, .none, .none⟩, 0, 0xFFFF, 1, onCore 1 0 117506047 State.reset, by decide +kernel⟩,
   ⟨⟨1, 125861888, .none, .none⟩, 0, 0x8000, 1, onCore 1 0xFFFF 125861888 State.reset, by decide +kernel⟩,
   ⟨⟨1, 394264581, .none, .none⟩, 1, 5, 1, 1, onCore 1 0 394264581 State.reset, by decide +kernel⟩,
   ⟨⟨1, 134332416, .none, .none⟩, 0, 7, 1, (onCore 1 0 134332416 State.reset).put CORE_G 39 0xFFF1FFFF, by decide +kernel⟩,
   ⟨⟨1, 139591679, .none, .none⟩, 0, 0x1FFFF, 1, onCore 1 0 139591679 State.reset, by decide +kernel⟩,
   ⟨⟨1, 135397375, .none, .none⟩, 0, 0x1FFFF, 1, 0x80FF8, onStack 1 0 135397375 0 State.reset, by decide +kernel⟩,
   ⟨⟨1, 136429568, .none, .none⟩, 0, 7, 1, 0x80FF8, (onStack 1 0 136429568 0 State.reset).put CORE_G 39 0xFFF1FFFF, by decide +kernel⟩,
   ⟨⟨1, 137363456, .none, .none⟩, ⟨.none, .good, none⟩, 0, 1, 0x81000, 0xFFF1FFFF, 0x12345678, (onStack 1 0 137363456 0 State.reset).putSram 0x81000 [0xFF, 0xFF, 0xF1, 0xFF, 0x78, 0x56, 0x34, 0x12], by decide +kernel⟩,
   ⟨⟨1, 138412032, .none, .none⟩, ⟨.none, .good, none⟩, 0, 1, 0x81000, 0xFFFFFFFE, { (onStack 1 0 138412032 0 State.reset).putSram 0x81000 ([0xFE, 0xFF, 0xFF, 0xFF] ++ List.replicate 20 0xA5) with resvs := [⟨1, 64, 8⟩] }, by decide +kernel⟩,
   ⟨⟨1, 140574719, .none, .none⟩, 0, 0xFFFF, 1, 0x80FE8, 0x80010002, onStack 1 0 140574719 72 State.reset, by decide +kernel⟩,
   ⟨⟨1, .none⟩, 63, 2, 1, 0x80FE8, 0x80010002, ((((((onStack 1 0 0 63 State.reset).put CRS_EVT_EN_EN 1 (2 ^ 63)).put CRS_EVT_PEND_PEND 1 (2 ^ 63)).put CRS_EVT_LVL_URGENT 1 (2 ^ 63)).put CORE_IEU 1 1).put CORE_LVL 1 1).put CORE_STALL 1 0, by decide +kernel⟩,
   ⟨⟨1, .uncorr⟩, 1, State.reset.put CRS_EVT_EN_EN 1 0, by decide +kernel⟩⟩

theorem wit_BlockInstructions :
    (∃ (x : Issue) (cond : Fin 16) (rd : Fin 32) (rs : Fin 32) (rn : Fin 32) (bkd : Fin 4) (bks : Fin 4) (k : Nat) (s : State), (k = x.core) ∧ (x.word.toNat = cond * 2 ^ 28 + 11 * 2 ^ 24 + rd * 2 ^ 19 + rs * 2 ^ 14 + rn * 2 ^ 9 + bkd * 2 ^ 7 + bks * 2 ^ 5) ∧ (Stands x s) ∧ (rd ≠ 0) ∧ (rs ≠ 0) ∧ (rn ≠ 0) ∧ (rd ≠ rs) ∧ (rd ≠ rn) ∧ (rs ≠ rn)) ∧
    (∃ (x : Issue) (cond : Fin 16) (rd : Fin 32) (rs : Fin 32) (rn : Fin 32) (bks : Fin 4) (k : Nat) (s : State), (k = x.core) ∧ (x.word.toNat = cond * 2 ^ 28 + 11 * 2 ^ 24 + rd * 2 ^ 19 + rs * 2 ^ 14 + rn * 2 ^ 9 + bks * 2 ^ 5 + 1 * 2 ^ 3) ∧ (Stands x s) ∧ (rd ≠ 0) ∧ (rs ≠ 0) ∧ (rn ≠ 0) ∧ (rd ≠ rs) ∧ (rd ≠ rn) ∧ (rs ≠ rn)) ∧
    (∃ (x : Issue) (cond : Fin 16) (rd : Fin 32) (rs : Fin 32) (rn : Fin 32) (bkd : Fin 4) (bks : Fin 4) (k : Nat) (s : State), (k = x.core) ∧ (x.word.toNat = cond * 2 ^ 28 + 11 * 2 ^ 24 + rd * 2 ^ 19 + rs * 2 ^ 14 + rn * 2 ^ 9 + bkd * 2 ^ 7 + bks * 2 ^ 5 + 2 * 2 ^ 3) ∧ (Stands x s) ∧ (rd ≠ 0) ∧ (rs ≠ 0) ∧ (rn ≠ 0) ∧ (rd ≠ rs) ∧ (rd ≠ rn) ∧ (rs ≠ rn) ∧ (bkd.val < 3) ∧ (s.gReg k rs % 2 ^ bkd.val = 0)) ∧
    (∃ (e : EntryIn) (m : Meets) (cond : Fin 16) (rd : Fin 32) (rs : Fin 32) (rn : Fin 32) (bkd : Fin 4) (bks : Fin 4) (k : Nat) (n : Nat) (S : Nat) (T : Nat) (s : State), (k = e.core) ∧ (k < 32) ∧ (mayIssue s k true = true) ∧ (s.get CORE_FP k = 0) ∧ (execWord s k (fetchOff s k) = cond * 2 ^ 28 + 11 * 2 ^ 24 + rd * 2 ^ 19 + rs * 2 ^ 14 + rn * 2 ^ 9 + bkd * 2 ^ 7 + bks * 2 ^ 5) ∧ (rd ≠ 0) ∧ (rs ≠ 0) ∧ (rn ≠ 0) ∧ (rd ≠ rs) ∧ (rd ≠ rn) ∧ (rs ≠ rn) ∧ (Still k s) ∧ (m.ecc = .none) ∧ (s.get CRS_ON k = 1) ∧ ((∀ r : Fin 32, s.gReg k r < 2 ^ 32)) ∧ (0 < s.gReg k rn) ∧ (n = min (s.gReg k rn) (64 - s.gReg k rd % 64)) ∧ (S = s.get CORE_B (4 * k + bks) * 2 ^ 16 + s.gReg k rs % 2 ^ 16) ∧ (T = s.get CORE_B (4 * k + bkd) * 2 ^ 16 + s.gReg k rd % 2 ^ 16) ∧ (s.gReg k rs % 2 ^ 16 + n ≤ 2 ^ 16) ∧ (regionOf S = .course k) ∧ (regionOf T = .course k)) ∧
    (∃ (e : EntryIn) (m : Meets) (cond : Fin 16) (rd : Fin 32) (rs : Fin 32) (rn : Fin 32) (bks : Fin 4) (k : Nat) (n : Nat) (S : Nat) (s : State), (k = e.core) ∧ (k < 32) ∧ (mayIssue s k true = true) ∧ (s.get CORE_FP k = 0) ∧ (execWord s k (fetchOff s k) = cond * 2 ^ 28 + 11 * 2 ^ 24 + rd * 2 ^ 19 + rs * 2 ^ 14 + rn * 2 ^ 9 + bks * 2 ^ 5 + 1 * 2 ^ 3) ∧ (rd ≠ 0) ∧ (rs ≠ 0) ∧ (rn ≠ 0) ∧ (rd ≠ rs) ∧ (rd ≠ rn) ∧ (rs ≠ rn) ∧ (Still k s) ∧ (m.ecc = .none) ∧ (s.get CRS_ON k = 1) ∧ ((∀ r : Fin 32, s.gReg k r < 2 ^ 32)) ∧ (0 < s.gReg k rn) ∧ (n = min (s.gReg k rn) (64 - s.gReg k rs % 64)) ∧ (S = s.get CORE_B (4 * k + bks) * 2 ^ 16 + s.gReg k rs % 2 ^ 16) ∧ (regionOf S = .course k) ∧ (s.get CORE_CRCP k < 4)) ∧
    (∃ (e : EntryIn) (m : Meets) (cond : Fin 16) (rd : Fin 32) (rs : Fin 32) (rn : Fin 32) (sz : Fin 4) (bks : Fin 4) (k : Nat) (n : Nat) (w : Nat) (key : Nat) (S : Nat) (s : State), (k = e.core) ∧ (k < 32) ∧ (mayIssue s k true = true) ∧ (s.get CORE_FP k = 0) ∧ (execWord s k (fetchOff s k) = cond * 2 ^ 28 + 11 * 2 ^ 24 + rd * 2 ^ 19 + rs * 2 ^ 14 + rn * 2 ^ 9 + sz * 2 ^ 7 + bks * 2 ^ 5 + 2 * 2 ^ 3) ∧ (rd ≠ 0) ∧ (rs ≠ 0) ∧ (rn ≠ 0) ∧ (rd ≠ rs) ∧ (rd ≠ rn) ∧ (rs ≠ rn) ∧ (Still k s) ∧ (m.ecc = .none) ∧ (s.get CRS_ON k = 1) ∧ ((∀ r : Fin 32, s.gReg k r < 2 ^ 32)) ∧ (0 < s.gReg k rn) ∧ (key = s.gReg k rd) ∧ (sz.val < 3) ∧ (w = 2 ^ sz.val) ∧ (n = min (s.gReg k rn) ((64 - s.gReg k rs % 64) / w)) ∧ (s.gReg k rs % w = 0) ∧ (S = s.get CORE_B (4 * k + bks) * 2 ^ 16 + s.gReg k rs % 2 ^ 16) ∧ (regionOf S = .course k) ∧ ((∀ j : Nat, j < n → (Nat.xor (ofBytes ((List.range w).map (fun i => s.sramByte (S + w * j + i)))) key &&& s.get CORE_SMASK k) % 2 ^ (8 * w) ≠ 0))) ∧
    (∃ (e : EntryIn) (m : Meets) (cond : Fin 16) (rd : Fin 32) (rs : Fin 32) (rn : Fin 32) (sz : Fin 4) (bks : Fin 4) (k : Nat) (n : Nat) (w : Nat) (key : Nat) (S : Nat) (p : Nat) (s : State), (k = e.core) ∧ (k < 32) ∧ (mayIssue s k true = true) ∧ (s.get CORE_FP k = 0) ∧ (execWord s k (fetchOff s k) = cond * 2 ^ 28 + 11 * 2 ^ 24 + rd * 2 ^ 19 + rs * 2 ^ 14 + rn * 2 ^ 9 + sz * 2 ^ 7 + bks * 2 ^ 5 + 2 * 2 ^ 3) ∧ (rd ≠ 0) ∧ (rs ≠ 0) ∧ (rn ≠ 0) ∧ (rd ≠ rs) ∧ (rd ≠ rn) ∧ (rs ≠ rn) ∧ (Still k s) ∧ (m.ecc = .none) ∧ (s.get CRS_ON k = 1) ∧ ((∀ r : Fin 32, s.gReg k r < 2 ^ 32)) ∧ (0 < s.gReg k rn) ∧ (key = s.gReg k rd) ∧ (sz.val < 3) ∧ (w = 2 ^ sz.val) ∧ (n = min (s.gReg k rn) ((64 - s.gReg k rs % 64) / w)) ∧ (s.gReg k rs % w = 0) ∧ (S = s.get CORE_B (4 * k + bks) * 2 ^ 16 + s.gReg k rs % 2 ^ 16) ∧ (regionOf S = .course k) ∧ (p < n) ∧ ((Nat.xor (ofBytes ((List.range w).map (fun i => s.sramByte (S + w * p + i)))) key &&& s.get CORE_SMASK k) % 2 ^ (8 * w) = 0) ∧ ((∀ j : Nat, j < p → (Nat.xor (ofBytes ((List.range w).map (fun i => s.sramByte (S + w * j + i)))) key &&& s.get CORE_SMASK k) % 2 ^ (8 * w) ≠ 0))) ∧
    (∃ (e : EntryIn) (_m : Meets) (s : State), ((s.get CORE_BLOCK e.core = 0 ∨ (e.core.val < 32 ∧ s.get CRS_STAT_STATE e.core ≠ 2)))) :=
  ⟨⟨⟨1, 188252128, .none, .none⟩, 0, 7, 1, 31, 3, 3, 1, ((onCore 1 0 188252128 State.reset).put CORE_G 63 1).put CORE_G 33 4, by decide +kernel⟩,
   ⟨⟨1, 188251752, .none, .none⟩, 0, 7, 1, 31, 3, 1, ((onCore 1 0 188251752 State.reset).put CORE_G 63 1).put CORE_G 33 4, by decide +kernel⟩,
   ⟨⟨1, 188252016, .none, .none⟩, 0, 7, 1, 31, 2, 3, 1, ((onCore 1 0 188252016 State.reset).put CORE_G 63 1).put CORE_G 33 4, by decide +kernel⟩,
   ⟨⟨1, .none⟩, ⟨.none, .good, none⟩, 0, 7, 1, 31, 3, 3, 1, 2, 0x8FFFE, 0x8003E, ((((((onCore 1 0x100 188252128 State.reset).put CORE_BLOCK 1 1).put CORE_B 7 8).put CORE_G 33 0xFFFE).put CORE_G 39 0x2003E).put CORE_G 63 40).putSram 0x8FFFE [5, 6], by decide +kernel⟩,
   ⟨⟨1, .none⟩, ⟨.none, .good, none⟩, 0, 7, 1, 31, 3, 1, 2, 0x8FFFE, (((((((onCore 1 0x100 188251752 State.reset).put CORE_BLOCK 1 1).put CORE_B 7 8).put CORE_G 33 0xFFFE).put CORE_G 39 0x2003E).put CORE_G 63 2).put CORE_CRCP 1 2).putSram 0x8FFFE [5, 6], by decide +kernel⟩,
   ⟨⟨1, .none⟩, ⟨.none, .good, none⟩, 0, 7, 1, 31, 1, 3, 1, 1, 2, 0x12345678, 0x8FFFE, (((((((onCore 1 0x100 188251888 State.reset).put CORE_BLOCK 1 1).put CORE_B 7 8).put CORE_G 33 0xFFFE).put CORE_G 39 0x12345678).put CORE_G 63 1).put CORE_SMASK 1 0xFFFFFFFF).putSram 0x8FFFE [5, 6], by decide +kernel⟩,
   ⟨⟨1, .none⟩, ⟨.none, .good, none⟩, 0, 7, 1, 31, 1, 3, 1, 1, 2, 0x12340605, 0x8FFFE, 0, (((((((onCore 1 0x100 188251888 State.reset).put CORE_BLOCK 1 1).put CORE_B 7 8).put CORE_G 33 0xFFFE).put CORE_G 39 0x12340605).put CORE_G 63 1).put CORE_SMASK 1 0xFFFFFFFF).putSram 0x8FFFE [5, 6], by decide +kernel⟩,
   ⟨⟨1, .none⟩, ⟨.none, .good, none⟩, State.reset.put CORE_BLOCK 1 0, by decide +kernel⟩⟩

/-- The check values of the four CRCs over "123456789": CRC-32C and CRC-32 with their usual start and final complement, CRC-16 and
CRC-8 from zero. -/
theorem test_crc : [crcFolds 0 0xFFFFFFFF ([49, 50, 51, 52, 53, 54, 55, 56, 57] : List Byte) ^^^ 0xFFFFFFFF,
    crcFolds 1 0xFFFFFFFF ([49, 50, 51, 52, 53, 54, 55, 56, 57] : List Byte) ^^^ 0xFFFFFFFF,
    crcFolds 2 0 ([49, 50, 51, 52, 53, 54, 55, 56, 57] : List Byte), crcFolds 3 0 ([49, 50, 51, 52, 53, 54, 55, 56, 57] : List Byte)] =
    [0xE3069283, 0xCBF43926, 0x31C3, 0xF4] := by decide +kernel

theorem wit_FaultsAndEntry :
    (∃ (x : Issue) (s : State), ((coreRuns s x.core = false ∨ (s.get CORE_WAIT x.core = 1 ∧ coreInputs s x.core = 0) ∨ (s.get CORE_FP x.core = 0 ∧ fetchOff s x.core < execSize x.core ∧ execWord s x.core (fetchOff s x.core) ≠ x.word.toNat)))) ∧
    (∃ (x : Issue) (cond : Fin 16) (a : Fin 32) (b : Fin 32) (c : Fin 32) (S : Fin 2) (k : Nat) (s : State), (k = x.core) ∧ (x.word.toNat = cond * 2 ^ 28 + a * 2 ^ 19 + b * 2 ^ 14 + c * 2 ^ 9 + S * 2 ^ 8) ∧ (StandsOn x s) ∧ (condOk s k x.word.toNat = false)) ∧
    (∃ (x : Issue) (r : Fin 32) (v : Nat) (s : State), (x.word.toNat = 0x10000000) ∧ (StandsOn x s) ∧ (s.get CORE_MDBUSY x.core = 0) ∧ (v < 2 ^ 32) ∧ (s.flights = [⟨x.core, 1, .g r, v⟩])) ∧
    (∃ (x : Issue) (n : Nat) (v : Nat) (d : FlightDst) (s : State), (x.word.toNat = 0x10000000) ∧ (StandsOn x s) ∧ (s.get CORE_MDBUSY x.core = 0) ∧ (s.flights = [⟨x.core, n + 2, d, v⟩])) ∧
    (∃ (x : Issue) (k : Nat) (base : Nat) (v : Nat) (s : State), (k = x.core) ∧ (StandsOn x s) ∧ (x.vec ≠ .uncorr) ∧ (CanFault k 6 base v s) ∧ (s.get CORE_PC k < 2 ^ 16) ∧ ((13 ≤ x.word.toNat / 2 ^ 24 % 16 ∨ (x.word.toNat / 2 ^ 24 % 16 = 0 ∧ x.word.toNat % 16 ≠ 0)))) ∧
    (∃ (x : Issue) (cond : Fin 16) (r : Fin 32) (i : Nat) (k : Nat) (base : Nat) (v : Nat) (s : State), (k = x.core) ∧ (11 ≤ i) ∧ (i < 2 ^ 8) ∧ (x.word.toNat = cond * 2 ^ 28 + 9 * 2 ^ 24 + r * 2 ^ 15 + i) ∧ (Stands x s) ∧ (x.vec ≠ .uncorr) ∧ (CanFault k 6 base v s) ∧ (s.get CORE_PC k < 2 ^ 16)) ∧
    (∃ (x : Issue) (cond : Fin 16) (r : Fin 32) (i : Nat) (k : Nat) (base : Nat) (v : Nat) (s : State), (k = x.core) ∧ (i ∉ [0, 1, 8, 9, 10]) ∧ (i < 2 ^ 8) ∧ (x.word.toNat = cond * 2 ^ 28 + 9 * 2 ^ 24 + 2 ^ 20 + r * 2 ^ 15 + i) ∧ (Stands x s) ∧ (x.vec ≠ .uncorr) ∧ (CanFault k 6 base v s) ∧ (s.get CORE_PC k < 2 ^ 16)) ∧
    (∃ (x : Issue) (off : BitVec 16) (k : Nat) (base : Nat) (v : Nat) (s : State), (k = x.core) ∧ (x.word.toNat = 7 * 2 ^ 24 + off.toNat) ∧ (StandsOn x s) ∧ (s.get CORE_SLOT k = 1) ∧ (x.vec ≠ .uncorr) ∧ (CanFault k 6 base v s) ∧ (s.get CORE_PC k < 2 ^ 16)) ∧
    (∃ (x : Issue) (_m : Meets) (cond : Fin 16) (rd : Fin 32) (ra : Fin 32) (bk : Fin 4) (d : BitVec 9) (k : Nat) (a : Nat) (base : Nat) (v : Nat) (s : State), (k = x.core) ∧ (x.word.toNat = cond * 2 ^ 28 + 5 * 2 ^ 24 + rd * 2 ^ 19 + ra * 2 ^ 14 + bk * 2 ^ 12 + 2 * 2 ^ 10 + d.toNat) ∧ (Stands x s) ∧ (DataAt k bk ra (d.toInt * 4) a s) ∧ (a % 4 ≠ 0) ∧ (x.vec ≠ .uncorr) ∧ (CanFault k 5 base v s) ∧ (s.get CORE_PC k < 2 ^ 16)) ∧
    (∃ (x : Issue) (_m : Meets) (cond : Fin 16) (rd : Fin 32) (ra : Fin 32) (bk : Fin 4) (d : BitVec 9) (k : Nat) (a : Nat) (base : Nat) (v : Nat) (s : State), (k = x.core) ∧ (x.word.toNat = cond * 2 ^ 28 + 5 * 2 ^ 24 + rd * 2 ^ 19 + ra * 2 ^ 14 + bk * 2 ^ 12 + 2 * 2 ^ 10 + d.toNat) ∧ (Stands x s) ∧ (DataAt k bk ra (d.toInt * 4) a s) ∧ (a % 4 = 0) ∧ (regionOf a = .unmapped) ∧ (x.vec ≠ .uncorr) ∧ (CanFault k 2 base v s) ∧ (s.get CORE_PC k < 2 ^ 16) ∧ (a < 2 ^ 40)) ∧
    (∃ (x : Issue) (_m : Meets) (cond : Fin 16) (rd : Fin 32) (ra : Fin 32) (bk : Fin 4) (d : BitVec 9) (k : Nat) (a : Nat) (base : Nat) (v : Nat) (s : State), (k = x.core) ∧ (x.word.toNat = cond * 2 ^ 28 + 12 * 2 ^ 24 + rd * 2 ^ 19 + ra * 2 ^ 14 + bk * 2 ^ 12 + d.toNat) ∧ (Stands x s) ∧ (DataAt k bk ra (d.toInt * 4) a s) ∧ (a % 4 = 0) ∧ (regionOf a = .registers) ∧ (x.vec ≠ .uncorr) ∧ (CanFault k 1 base v s) ∧ (s.get CORE_PC k < 2 ^ 16)) ∧
    (∃ (x : Issue) (k : Nat) (cause : Nat) (code : Nat) (base : Nat) (v : Nat) (s : State), (k = x.core) ∧ (mayIssue s k false = true) ∧ (0 < cause) ∧ (cause < 10) ∧ (s.get CORE_FP k = cause) ∧ (s.get CORE_FP_CODE k = code) ∧ (s.get CORE_FP_AT k = 0) ∧ (s.get CORE_PC k < 2 ^ 16) ∧ (x.vec ≠ .uncorr) ∧ (CanFault k cause base v s)) ∧
    (∃ (x : Issue) (k : Nat) (s : State), (k = x.core) ∧ (k < 32) ∧ (mayIssue s k false = true) ∧ (s.get CORE_FP k = 0) ∧ (execSize k ≤ fetchOff s k) ∧ (Still k s) ∧ (s.get CORE_FLT k = 0) ∧ (s.get TRB_STAT_LOCKED 0 = 0) ∧ (x.vec = .uncorr) ∧ (s.get CORE_VBASE k / 512 * 512 + 296 ≤ execSize k)) ∧
    (∃ (x : Issue) (k : Nat) (base : Nat) (v : Nat) (s : State), (k = x.core) ∧ (mayIssue s k false = true) ∧ (s.get CORE_FP k = 0) ∧ (execSize k ≤ fetchOff s k) ∧ (x.vec ≠ .uncorr) ∧ (CanFault k 9 base v s) ∧ (s.get CORE_PC k < 2 ^ 16)) ∧
    (∃ (x : Issue) (k : Nat) (a : Nat) (base : Nat) (v : Nat) (s : State), (k = x.core) ∧ (mayIssue s k false = true) ∧ (s.get CORE_FP k = 0) ∧ (fetchOff s k < execSize k) ∧ (execWord s k (fetchOff s k) = x.word.toNat) ∧ (x.ecc = .uncorr) ∧ (a = k * 0x8_0000 + s.get CORE_CP k * 0x4_0000 + s.get CORE_PC k * 4) ∧ (x.vec ≠ .uncorr) ∧ (CanFault k 3 base v s) ∧ (s.get CORE_PC k < 2 ^ 16)) ∧
    (∃ (x : Issue) (code : BitVec 16) (k : Nat) (s : State), (k = x.core) ∧ (k < 32) ∧ (x.word.toNat = 8 * 2 ^ 24 + 6 * 2 ^ 20 + code.toNat) ∧ (StandsOn x s) ∧ (s.get CORE_SLOT k = 0) ∧ (s.get TRB_STAT_LOCKED 0 = 0) ∧ (x.vec ≠ .uncorr) ∧ ((s.get CORE_FLT k = 1 ∨ execWord s k (s.get CORE_VBASE k / 512 * 512 + 288) < 2 ^ 31))) :=
  ⟨⟨⟨1, 5, .none, .none⟩, onCore 1 0 6 State.reset, by decide +kernel⟩,
   ⟨⟨1, 272137984, .none, .none⟩, 1, 7, 1, 31, 1, 1, onCore 1 0xFFFF 272137984 State.reset, by decide +kernel⟩,
   ⟨⟨1, 0x10000000, .none, .none⟩, 7, 0xFFFFFFFF, { onCore 1 0 0x10000000 State.reset with flights := [⟨1, 1, .g 7, 0xFFFFFFFF⟩] }, by decide +kernel⟩,
   ⟨⟨1, 0x10000000, .none, .none⟩, 1, 5, .b 3, { onCore 1 0 0x10000000 State.reset with flights := [⟨1, 3, .b 3, 5⟩] }, by decide +kernel⟩,
   ⟨⟨1, 0x1D000000, .none, .none⟩, 1, 0x80FE8, 0x80010002, onStack 1 0 0x1D000000 70 State.reset, by decide +kernel⟩,
   ⟨⟨1, 151224575, .none, .none⟩, 0, 7, 255, 1, 0x80FE8, 0x80010002, onStack 1 0 151224575 70 State.reset, by decide +kernel⟩,
   ⟨⟨1, 152272898, .none, .none⟩, 0, 7, 2, 1, 0x80FE8, 0x80010002, onStack 1 0 152272898 70 State.reset, by decide +kernel⟩,
   ⟨⟨1, 117440517, .none, .none⟩, 5, 1, 0x80FE8, 0x80010002, (onStack 1 0 117440517 70 State.reset).put CORE_SLOT 1 1, by decide +kernel⟩,
   ⟨⟨1, 87586816, .none, .none⟩, ⟨.none, .good, none⟩, 0, 7, 1, 3, 0, 1, 0x80002, 0x80FE8, 0x80010002, (onStack 1 0 87586816 69 State.reset).put CORE_G 33 2, by decide +kernel⟩,
   ⟨⟨1, 87582720, .none, .none⟩, ⟨.none, .good, none⟩, 0, 7, 1, 2, 0, 1, 0x1000000, 0x80FE8, 0x80010002, ((onStack 1 0 87582720 66 State.reset).put CORE_B 6 0x100).put CORE_G 33 0, by decide +kernel⟩,
   ⟨⟨1, 205021184, .none, .none⟩, ⟨.none, .good, none⟩, 0, 7, 1, 2, 0, 1, 0x40000000, 0x80FE8, 0x80010002, ((onStack 1 0 205021184 65 State.reset).put CORE_B 6 0x4000).put CORE_G 33 0, by decide +kernel⟩,
   ⟨⟨1, 0, .none, .none⟩, 1, 8, 0x77, 0x80FE8, 0x80010002, ((onStack 1 0xFFFF 0 72 State.reset).put CORE_FP 1 8).put CORE_FP_CODE 1 0x77, by decide +kernel⟩,
   ⟨⟨1, 0, .none, .uncorr⟩, 1, (onStack 1 0 0 73 State.reset).put CORE_CP 1 2, by decide +kernel⟩,
   ⟨⟨1, 0, .none, .none⟩, 1, 0x80FE8, 0x80010002, (onStack 1 0 0 73 State.reset).put CORE_CP 1 2, by decide +kernel⟩,
   ⟨⟨1, 7, .uncorr, .none⟩, 1, 0x80000, 0x80FE8, 0x80010002, onStack 1 0 7 67 State.reset, by decide +kernel⟩,
   ⟨⟨1, 140574719, .none, .none⟩, 0xFFFF, 1, (onStack 1 0 140574719 72 State.reset).put CORE_FLT 1 1, by decide +kernel⟩⟩

theorem wit_FretCycle :
    (∃ (f : Fin 64) (_ins : BitVec 8) (s : State), ((s.get FRT_STAT_RUN f = 0 ∨ fretsOn s = false))) ∧
    (∃ (f : Fin 64) (_ins : BitVec 8) (j : Nat) (code : Nat) (k : Nat) (F : Fld) (s : State), (k = f * 64 + s.get FRT_STAT_STATE f) ∧ (j < 4) ∧ (F = (match j with | 0 => FRT_SSEL_SEL0 | 1 => FRT_SSEL_SEL1 | 2 => FRT_SSEL_SEL2 | _ => FRT_SSEL_SEL3)) ∧ (s.get FRT_SSEL_USE k = 2 ^ j) ∧ (s.get F k = code) ∧ (8 ≤ code) ∧ (code < 15)) ∧
    (∃ (f : Fin 64) (_ins : BitVec 8) (k : Nat) (n : Nat) (s : State), (k = f * 64 + s.get FRT_STAT_STATE f) ∧ (s.get FRT_SSEL_USE k = 1) ∧ (s.get FRT_SSEL_SEL0 k = 7) ∧ (n = s.get FRT_INSEL_IN7 f)) ∧
    (∃ (f : Fin 64) (_ins : BitVec 8) (j : Nat) (k : Nat) (n : Nat) (s : State), (j < 8) ∧ (k < 8) ∧ (n < 192) ∧ ((∀ F ∈ inSel[j]?, s.get F f = n)) ∧ ((∀ F ∈ inSel[k]?, s.get F f = n))) ∧
    (∃ (f : Fin 64) (ins : BitVec 8) (e : Nat) (s : State), (FretAt f ins.toNat e 0 s)) ∧
    (∃ (f : Fin 64) (ins : BitVec 8) (e : Nat) (s : State), (FretAt f ins.toNat e 15 s)) ∧
    (∃ (f : Fin 64) (ins : BitVec 8) (e : Nat) (n : Nat) (s : State), (FretAt f ins.toNat e 1 s) ∧ (n = (if s.get FRT_CFG_SHIFT_LEN f = 0 then 32 else s.get FRT_CFG_SHIFT_LEN f)) ∧ (n ≤ 32) ∧ (s.get FRT_DBG_SR f < 2 ^ 32) ∧ (s.get FRT_CFG_SFILL f < 2)) ∧
    (∃ (f : Fin 64) (ins : BitVec 8) (e : Nat) (n : Nat) (b : Nat) (s : State), (FretAt f ins.toNat e 2 s) ∧ (n = (if s.get FRT_CFG_SHIFT_LEN f = 0 then 32 else s.get FRT_CFG_SHIFT_LEN f)) ∧ (n ≤ 32) ∧ (s.get FRT_DBG_SR f < 2 ^ 32) ∧ (b = (if slotIn s f (s.get FRT_CFG_SIN_SLOT f) ((slotSamples f ins.toNat (List.range 8) s).1.testBit (s.get FRT_CFG_SIN_SLOT f)) then 1 else 0))) ∧
    (∃ (f : Fin 64) (ins : BitVec 8) (e : Nat) (n : Nat) (w : Nat) (s : State), (FretAt f ins.toNat e 3 s) ∧ (n = (if s.get FRT_CFG_SHIFT_LEN f = 0 then 32 else s.get FRT_CFG_SHIFT_LEN f)) ∧ (n ≤ 32) ∧ (0 < s.get FRT_QSTAT_TX_CNT f) ∧ (s.get FRT_QSTAT_TX_CNT f ≤ 8) ∧ (w = s.get FRT_TQ (8 * f)) ∧ (w < 2 ^ 32)) ∧
    (∃ (f : Fin 64) (ins : BitVec 8) (e : Nat) (n : Nat) (m : Nat) (s : State), (FretAt f ins.toNat e 4 s) ∧ (n = (if s.get FRT_CFG_SHIFT_LEN f = 0 then 32 else s.get FRT_CFG_SHIFT_LEN f)) ∧ (n ≤ 32) ∧ (s.get FRT_QSTAT_RX_CNT f = m) ∧ (m < (match s.get FRT_CFG_QJOIN f with | 1 => 0 | 2 => 8 | _ => 4))) ∧
    (∃ (f : Fin 64) (ins : BitVec 8) (e : Nat) (s : State), (FretAt f ins.toNat e 5 s)) ∧
    (∃ (f : Fin 64) (ins : BitVec 8) (e : Nat) (s : State), (FretAt f ins.toNat e 6 s)) ∧
    (∃ (f : Fin 64) (ins : BitVec 8) (e : Nat) (s : State), (FretAt f ins.toNat e 7 s) ∧ (s.get FRT_STAT_TM f = 1)) ∧
    (∃ (f : Fin 64) (ins : BitVec 8) (e : Nat) (s : State), (FretAt f ins.toNat e 7 s) ∧ (s.get FRT_STAT_TM f = 0)) ∧
    (∃ (f : Fin 64) (ins : BitVec 8) (e : Nat) (s : State), (FretAt f ins.toNat e 8 s)) ∧
    (∃ (f : Fin 64) (ins : BitVec 8) (e : Nat) (w : Nat) (s : State), (FretAt f ins.toNat e 9 s) ∧ (0 < s.get FRT_QSTAT_TX_CNT f) ∧ (s.get FRT_QSTAT_TX_CNT f ≤ 8) ∧ (w = s.get FRT_TQ (8 * f)) ∧ (w < 2 ^ 32)) ∧
    (∃ (f : Fin 64) (ins : BitVec 8) (e : Nat) (m : Nat) (d : Nat) (s : State), (FretAt f ins.toNat e 10 s) ∧ (s.get FRT_QSTAT_RX_CNT f = m) ∧ (m < (match s.get FRT_CFG_QJOIN f with | 1 => 0 | 2 => 8 | _ => 4)) ∧ (d = s.get FRT_TCMP_DOM f) ∧ (s.get TMB_EDGES d < 2 ^ 216)) ∧
    (∃ (f : Fin 64) (ins : BitVec 8) (e : Nat) (m : Nat) (s : State), (FretAt f ins.toNat e 11 s) ∧ (s.get FRT_QSTAT_RX_CNT f = m) ∧ (m < (match s.get FRT_CFG_QJOIN f with | 1 => 0 | 2 => 8 | _ => 4)) ∧ (s.get FRT_DBG_CNT f < 2 ^ 16)) ∧
    (∃ (f : Fin 64) (ins : BitVec 8) (e : Nat) (s : State), (FretAt f ins.toNat e 12 s)) ∧
    (∃ (f : Fin 64) (ins : BitVec 8) (e : Nat) (n : Nat) (s : State), (FretAt f ins.toNat e 13 s) ∧ (n = (if s.get FRT_CFG_SHIFT_LEN f = 0 then 32 else s.get FRT_CFG_SHIFT_LEN f)) ∧ (n ≤ 32)) ∧
    (∃ (f : Fin 64) (ins : BitVec 8) (e : Nat) (s : State), (FretAt f ins.toNat e 14 s)) ∧
    (∃ (f : Fin 64) (ins : BitVec 8) (e : Nat) (act : Nat) (s : State), (FretAt f ins.toNat e act s) ∧ ((((act = 3 ∨ act = 9) ∧ s.get FRT_QSTAT_TX_CNT f = 0) ∨ ((act = 4 ∨ act = 10 ∨ act = 11) ∧ 8 ≤ s.get FRT_QSTAT_RX_CNT f)))) ∧
    (∃ (f : Fin 64) (_ins : BitVec 8) (e : Nat) (s : State), (s.get FRT_STAT_RUN f = 1) ∧ (fretsOn s = true) ∧ (s.get FRT_STAT_STALLED f = 1) ∧ (e = s.get FRT_TBL (f * 1024 + 16 * s.get FRT_STAT_STATE f + s.get FRT_INDEX f)) ∧ (e / 2 ^ 14 % 16 = 3) ∧ (s.get FRT_QSTAT_TX_CNT f = 0)) :=
  ⟨⟨63, 0, State.reset.put FRT_STAT_RUN 63 0, by decide +kernel⟩,
   ⟨63, 0, 3, 14, 63 * 64 + 3, FRT_SSEL_SEL3, ((State.reset.put FRT_STAT_STATE 63 3).put FRT_SSEL_USE (63 * 64 + 3) 8).put FRT_SSEL_SEL3 (63 * 64 + 3) 14, by decide +kernel⟩,
   ⟨63, 0x80, 63 * 64 + 3, 191, (((State.reset.put FRT_STAT_STATE 63 3).put FRT_SSEL_USE (63 * 64 + 3) 1).put FRT_SSEL_SEL0 (63 * 64 + 3) 7).put FRT_INSEL_IN7 63 191, by decide +kernel⟩,
   ⟨63, 0xFF, 1, 2, 191, ((State.reset.put FRT_INSEL_IN1 63 191).put FRT_INSEL_IN2 63 191).put PIN_HIST 191 192, by decide +kernel⟩,
   ⟨63, 0xFF, 1845575, ((((((((State.reset.put FRT_STAT_RUN 63 1).put FRT_STAT_STALLED 63 0).put FRT_STAT_STATE 63 3).put FRT_SSEL_USE (63 * 64 + 3) 0).put FRT_TBL (63 * 1024 + 48) 1845575).put DOM_OFF 34 0).put FRT_STAT_F0 63 1).put FRT_DBG_CNT 63 0), by decide +kernel⟩,
   ⟨63, 0xFF, 2091335, ((((((((State.reset.put FRT_STAT_RUN 63 1).put FRT_STAT_STALLED 63 0).put FRT_STAT_STATE 63 3).put FRT_SSEL_USE (63 * 64 + 3) 0).put FRT_TBL (63 * 1024 + 48) 2091335).put DOM_OFF 34 0).put FRT_STAT_F0 63 1).put FRT_DBG_CNT 63 5), by decide +kernel⟩,
   ⟨63, 0xFF, 1861959, 10, ((((((((((State.reset.put FRT_STAT_RUN 63 1).put FRT_STAT_STALLED 63 0).put FRT_STAT_STATE 63 3).put FRT_SSEL_USE (63 * 64 + 3) 0).put FRT_TBL (63 * 1024 + 48) 1861959).put DOM_OFF 34 0).put FRT_STAT_F0 63 1).put FRT_CFG_SHIFT_LEN 63 10).put FRT_CFG_SHIFT_DIR 63 1).put FRT_DBG_SR 63 0x3FF), by decide +kernel⟩,
   ⟨63, 0xFF, 1878343, 32, 1, (((((((((((State.reset.put FRT_STAT_RUN 63 1).put FRT_STAT_STALLED 63 0).put FRT_STAT_STATE 63 3).put FRT_SSEL_USE (63 * 64 + 3) 0).put FRT_TBL (63 * 1024 + 48) 1878343).put DOM_OFF 34 0).put FRT_STAT_F0 63 1).put FRT_CFG_SHIFT_LEN 63 0).put FRT_CFG_SIN_SLOT 63 7).put FRT_INSEL_IN7 63 191).put DOM_OFF 38 0), by decide +kernel⟩,
   ⟨63, 0xFF, 1894727, 10, 0x2B4, ((((((((((((State.reset.put FRT_STAT_RUN 63 1).put FRT_STAT_STALLED 63 0).put FRT_STAT_STATE 63 3).put FRT_SSEL_USE (63 * 64 + 3) 0).put FRT_TBL (63 * 1024 + 48) 1894727).put DOM_OFF 34 0).put FRT_STAT_F0 63 1).put FRT_CFG_SHIFT_LEN 63 10).put FRT_QSTAT_TX_CNT 63 8).put FRT_CFG_SFILL 63 1).put FRT_TQ 504 0x2B4).put FRT_QCFG_TX_LOW 63 7), by decide +kernel⟩,
   ⟨63, 0xFF, 1911111, 25, 3, (((((((((((State.reset.put FRT_STAT_RUN 63 1).put FRT_STAT_STALLED 63 0).put FRT_STAT_STATE 63 3).put FRT_SSEL_USE (63 * 64 + 3) 0).put FRT_TBL (63 * 1024 + 48) 1911111).put DOM_OFF 34 0).put FRT_STAT_F0 63 1).put FRT_CFG_SHIFT_LEN 63 25).put FRT_QSTAT_RX_CNT 63 3).put FRT_QCFG_RX_HIGH 63 4).put FRT_CFG_QJOIN 63 3), by decide +kernel⟩,
   ⟨63, 0xFF, 1927495, ((((((((State.reset.put FRT_STAT_RUN 63 1).put FRT_STAT_STALLED 63 0).put FRT_STAT_STATE 63 3).put FRT_SSEL_USE (63 * 64 + 3) 0).put FRT_TBL (63 * 1024 + 48) 1927495).put DOM_OFF 34 0).put FRT_STAT_F0 63 1).put FRT_RELOAD_RELOAD0 63 198), by decide +kernel⟩,
   ⟨63, 0xFF, 1943879, ((((((((State.reset.put FRT_STAT_RUN 63 1).put FRT_STAT_STALLED 63 0).put FRT_STAT_STATE 63 3).put FRT_SSEL_USE (63 * 64 + 3) 0).put FRT_TBL (63 * 1024 + 48) 1943879).put DOM_OFF 34 0).put FRT_STAT_F0 63 1).put FRT_RELOAD_RELOAD1 63 0xFFFF), by decide +kernel⟩,
   ⟨63, 0xFF, 1960263, ((((((((State.reset.put FRT_STAT_RUN 63 1).put FRT_STAT_STALLED 63 0).put FRT_STAT_STATE 63 3).put FRT_SSEL_USE (63 * 64 + 3) 0).put FRT_TBL (63 * 1024 + 48) 1960263).put DOM_OFF 34 0).put FRT_STAT_F0 63 1).put FRT_STAT_TM 63 1), by decide +kernel⟩,
   ⟨63, 0, 1960263, (((((((State.reset.put FRT_STAT_RUN 63 1).put FRT_STAT_STALLED 63 0).put FRT_STAT_STATE 63 3).put FRT_SSEL_USE (63 * 64 + 3) 0).put FRT_TBL (63 * 1024 + 48) 1960263).put DOM_OFF 34 0).put FRT_STAT_F0 63 1), by decide +kernel⟩,
   ⟨63, 0xFF, 1976647, ((((((((((State.reset.put FRT_STAT_RUN 63 1).put FRT_STAT_STALLED 63 0).put FRT_STAT_STATE 63 3).put FRT_SSEL_USE (63 * 64 + 3) 0).put FRT_TBL (63 * 1024 + 48) 1976647).put DOM_OFF 34 0).put FRT_STAT_F0 63 1).put FRT_TCMP_NS 63 0xFFFFFFFF).put FRT_TCMP_FRAC 63 255).put FRT_TSTEP_STEP 63 1), by decide +kernel⟩,
   ⟨63, 0xFF, 1993031, 0xFFFFFFFF, (((((((((State.reset.put FRT_STAT_RUN 63 1).put FRT_STAT_STALLED 63 0).put FRT_STAT_STATE 63 3).put FRT_SSEL_USE (63 * 64 + 3) 0).put FRT_TBL (63 * 1024 + 48) 1993031).put DOM_OFF 34 0).put FRT_STAT_F0 63 1).put FRT_QSTAT_TX_CNT 63 1).put FRT_TQ 504 0xFFFFFFFF), by decide +kernel⟩,
   ⟨63, 0xFF, 2009415, 7, 15, ((((((((((State.reset.put FRT_STAT_RUN 63 1).put FRT_STAT_STALLED 63 0).put FRT_STAT_STATE 63 3).put FRT_SSEL_USE (63 * 64 + 3) 0).put FRT_TBL (63 * 1024 + 48) 2009415).put DOM_OFF 34 0).put FRT_STAT_F0 63 1).put FRT_CFG_QJOIN 63 2).put FRT_QSTAT_RX_CNT 63 7).put FRT_TCMP_DOM 63 15), by decide +kernel⟩,
   ⟨63, 0xFF, 2025799, 0, (((((((((State.reset.put FRT_STAT_RUN 63 1).put FRT_STAT_STALLED 63 0).put FRT_STAT_STATE 63 3).put FRT_SSEL_USE (63 * 64 + 3) 0).put FRT_TBL (63 * 1024 + 48) 2025799).put DOM_OFF 34 0).put FRT_STAT_F0 63 1).put FRT_QSTAT_RX_CNT 63 0).put FRT_DBG_CNT 63 0xFFFF), by decide +kernel⟩,
   ⟨63, 0xFF, 2042183, (((((((State.reset.put FRT_STAT_RUN 63 1).put FRT_STAT_STALLED 63 0).put FRT_STAT_STATE 63 3).put FRT_SSEL_USE (63 * 64 + 3) 0).put FRT_TBL (63 * 1024 + 48) 2042183).put DOM_OFF 34 0).put FRT_STAT_F0 63 1), by decide +kernel⟩,
   ⟨63, 0xFF, 2058567, 32, (((((((State.reset.put FRT_STAT_RUN 63 1).put FRT_STAT_STALLED 63 0).put FRT_STAT_STATE 63 3).put FRT_SSEL_USE (63 * 64 + 3) 0).put FRT_TBL (63 * 1024 + 48) 2058567).put DOM_OFF 34 0).put FRT_STAT_F0 63 1), by decide +kernel⟩,
   ⟨63, 0, 2074951, (((((((State.reset.put FRT_STAT_RUN 63 1).put FRT_STAT_STALLED 63 0).put FRT_STAT_STATE 63 3).put FRT_SSEL_USE (63 * 64 + 3) 0).put FRT_TBL (63 * 1024 + 48) 2074951).put DOM_OFF 34 0).put FRT_STAT_F0 63 1), by decide +kernel⟩,
   ⟨63, 0, 1993031, 9, (((((((State.reset.put FRT_STAT_RUN 63 1).put FRT_STAT_STALLED 63 0).put FRT_STAT_STATE 63 3).put FRT_SSEL_USE (63 * 64 + 3) 0).put FRT_TBL (63 * 1024 + 48) 1993031).put DOM_OFF 34 0).put FRT_STAT_F0 63 1).put FRT_QSTAT_TX_CNT 63 0, by decide +kernel⟩,
   ⟨63, 0, 49152, (((((State.reset.put FRT_STAT_RUN 63 1).put FRT_STAT_STALLED 63 1).put FRT_STAT_STATE 63 3).put FRT_INDEX 63 15).put FRT_TBL (63 * 1024 + 63) 49152).put FRT_QSTAT_TX_CNT 63 0, by decide +kernel⟩⟩

theorem wit_FretControl :
    (∃ (q : Requester) (f : Fin 64) (s : State), (s.permit q .registers (frtAddr 0 f) true = .yes) ∧ (s.get FRT_STAT_RUN f = 0)) ∧
    (∃ (q : Requester) (f : Fin 64) (s : State), (s.permit q .registers (frtAddr 0 f) true = .yes) ∧ (s.get FRT_STAT_RUN f = 1)) ∧
    (∃ (q : Requester) (f : Fin 64) (s : State), (s.permit q .registers (frtAddr 0 f) true = .yes) ∧ (s.get FRT_STAT_RUN f = 1)) ∧
    (∃ (q : Requester) (f : Fin 64) (s : State), (s.permit q .registers (frtAddr 0 f) true = .yes) ∧ (s.get FRT_STAT_RUN f = 0)) ∧
    (∃ (q : Requester) (f : Fin 64) (s : State), (s.permit q .registers (frtAddr 0 f) true = .yes) ∧ (s.get FRT_STAT_RUN f = 0)) ∧
    (∃ (q : Requester) (f : Fin 64) (s : State), (s.permit q .registers (frtAddr 0 f) true = .yes) ∧ (s.get FRT_STAT_RUN f = 1)) ∧
    (∃ (q : Requester) (f : Fin 64) (_v : Word) (n : Nat) (s : State), (s.permit q .registers (frtAddr 0x30 f) true = .yes) ∧ (n = s.get FRT_QSTAT_TX_CNT f) ∧ (n < (if s.get FRT_CFG_QJOIN f = 1 then 8 else if s.get FRT_CFG_QJOIN f = 2 then 0 else 4))) ∧
    (∃ (q : Requester) (f : Fin 64) (_v : Word) (s : State), (s.permit q .registers (frtAddr 0x30 f) true = .yes) ∧ ((if s.get FRT_CFG_QJOIN f = 1 then 8 else if s.get FRT_CFG_QJOIN f = 2 then 0 else 4) ≤ s.get FRT_QSTAT_TX_CNT f)) ∧
    (∃ (q : Requester) (f : Fin 64) (n : Nat) (s : State), (s.permit q .registers (frtAddr 0x34 f) false = .yes) ∧ (n = s.get FRT_QSTAT_RX_CNT f) ∧ (0 < n) ∧ (n ≤ 8)) ∧
    (∃ (q : Requester) (f : Fin 64) (s : State), (s.permit q .registers (frtAddr 0x34 f) false = .yes) ∧ (s.get FRT_QSTAT_RX_CNT f = 0)) ∧
    (∃ (q : Requester) (f : Fin 64) (i : Fin 1024) (a : Word) (_v : Word) (s : State), (a.toNat = frtAddr (0x1000 + 4 * i) f) ∧ (s.permit q .registers a.toNat true = .yes) ∧ (s.get FRT_STAT_RUN f = 0)) ∧
    (∃ (q : Requester) (f : Fin 64) (j : Fin 64) (a : Word) (_v : BitVec 64) (s : State), (a.toNat = frtAddr (0x800 + 4 * j) f) ∧ (s.permit q .registers a.toNat true = .yes) ∧ (s.get FRT_STAT_RUN f = 0)) ∧
    (∃ (q : Requester) (f : Fin 64) (a : Word) (v : BitVec 64) (s : State), (a.toNat = frtAddr 8 f) ∧ (s.permit q .registers a.toNat true = .yes) ∧ (s.get FRT_STAT_RUN f = 0) ∧ (v.toNat / 2 ^ 6 % 4 ≠ s.get FRT_CFG_QJOIN f)) ∧
    (∃ (q : Requester) (n : Fin 192) (a : Word) (v : BitVec 64) (s : State), (a.toNat = 0x4090_0100 + 4 * n) ∧ (s.permit q .registers a.toNat true = .yes) ∧ (s.get FRT_STAT_RUN (s.get FRT_PIN_FRET n) = 0) ∧ (s.get FRT_STAT_RUN (v.toNat / 4 % 2 ^ 6) = 0)) ∧
    (∃ (q : Requester) (f : Fin 64) (o : Nat) (a : Word) (_v : BitVec 64) (s : State), (o ∈ [8, 0xC, 0x10, 0x18, 0x8FC, 0x1FFC]) ∧ (a.toNat = frtAddr o f) ∧ (s.permit q .registers a.toNat true = .yes) ∧ (s.get FRT_STAT_RUN f = 1) ∧ (s.get FRT_STAT_WR_IGN f = 0)) ∧
    (∃ (q : Requester) (at' : Word) (s : State), (s.permit q .registers 0x4090_0008 true = .yes) ∧ (s.get LIM_STAT_RUNNING 0 = 1) ∧ (s.get LIM_CYC_NUM_NUM 0 < 2 ^ 32) ∧ (1 ≤ (at'.toNat + 2 ^ 32 - s.get LIM_CYC_NUM_NUM 0) % 2 ^ 32) ∧ ((at'.toNat + 2 ^ 32 - s.get LIM_CYC_NUM_NUM 0) % 2 ^ 32 < 2 ^ 31)) ∧
    (∃ (q : Requester) (at' : Word) (s : State), (s.permit q .registers 0x4090_0008 true = .yes) ∧ ((s.get LIM_STAT_RUNNING 0 = 0 ∨ (at'.toNat + 2 ^ 32 - s.get LIM_CYC_NUM_NUM 0) % 2 ^ 32 = 0))) ∧
    (∃ (q : Requester) (f : Fin 64) (_ns : Word) (_frac : Byte) (_dom : Fin 16) (s : State), (s.permit q .registers (frtAddr 0x20 f) true = .yes)) ∧
    (∃ (f : Fin 64) (d : Nat) (s : State), (fretsOn s = true) ∧ (s.get FRT_TCMP_ARM f = 1) ∧ (d = s.get FRT_TCMP_DOM f) ∧ (s.get TMB_CTR d < 2 ^ 72) ∧ (s.get FRT_TCMP_NS f < 2 ^ 32) ∧ (s.get FRT_TCMP_FRAC f < 2 ^ 8)) :=
  ⟨⟨.cc, 63, ((State.reset.put FRT_STAT_RUN 63 0).put DOM_OFF 33 0).put FRT_CFG_SFILL 63 1, by decide +kernel⟩,
   ⟨.cc, 63, (State.reset.put FRT_STAT_RUN 63 1).put DOM_OFF 33 0, by decide +kernel⟩,
   ⟨.cc, 63, (State.reset.put FRT_STAT_RUN 63 1).put DOM_OFF 33 0, by decide +kernel⟩,
   ⟨.cc, 63, (State.reset.put FRT_STAT_RUN 63 0).put DOM_OFF 33 0, by decide +kernel⟩,
   ⟨.cc, 63, (((State.reset.put FRT_STAT_RUN 63 0).put DOM_OFF 33 0).put FRT_QSTAT_RX_CNT 63 4).put FRT_QSTAT_TX_CNT 63 4, by decide +kernel⟩,
   ⟨.cc, 63, (State.reset.put FRT_STAT_RUN 63 1).put DOM_OFF 33 0, by decide +kernel⟩,
   ⟨.cc, 63, 0xFFFFFFFF, 7, ((State.reset.put FRT_CFG_QJOIN 63 1).put DOM_OFF 33 0).put FRT_QSTAT_TX_CNT 63 7, by decide +kernel⟩,
   ⟨.cc, 63, 5, ((State.reset.put FRT_CFG_QJOIN 63 0).put DOM_OFF 33 0).put FRT_QSTAT_TX_CNT 63 4, by decide +kernel⟩,
   ⟨.cc, 63, 8, ((State.reset.put FRT_CFG_QJOIN 63 2).put DOM_OFF 33 0).put FRT_QSTAT_RX_CNT 63 8, by decide +kernel⟩,
   ⟨.cc, 63, (State.reset.put FRT_QSTAT_RX_CNT 63 0).put DOM_OFF 33 0, by decide +kernel⟩,
   ⟨.cc, 63, 1023, 0x4098_FFFC, 0xFFFFFFFF, (State.reset.put FRT_STAT_RUN 63 0).put DOM_OFF 33 0, by decide +kernel⟩,
   ⟨.cc, 63, 63, 0x4098_E8FC, 0xFFFFFFFF, (State.reset.put FRT_STAT_RUN 63 0).put DOM_OFF 33 0, by decide +kernel⟩,
   ⟨.cc, 63, 0x4098_E008, 0x40, ((State.reset.put FRT_STAT_RUN 63 0).put DOM_OFF 33 0).put FRT_CFG_QJOIN 63 0, by decide +kernel⟩,
   ⟨.cc, 191, 0x4090_03FC, 0x3FFFF, (((State.reset.put FRT_STAT_RUN 63 0).put FRT_STAT_RUN 5 0).put DOM_OFF 33 0).put FRT_PIN_FRET 191 5, by decide +kernel⟩,
   ⟨.cc, 63, 0x1FFC, 0x4098_FFFC, 5, ((State.reset.put FRT_STAT_RUN 63 1).put DOM_OFF 33 0).put FRT_STAT_WR_IGN 63 0, by decide +kernel⟩,
   ⟨.cc, 0, ((State.reset.put LIM_STAT_RUNNING 0 1).put LIM_CYC_NUM_NUM 0 0xFFFFFFFF).put DOM_OFF 33 0, by decide +kernel⟩,
   ⟨.cc, 7, (((State.reset.put LIM_STAT_RUNNING 0 1).put LIM_CYC_NUM_NUM 0 7).put DOM_OFF 33 0).put FRT_GMASK_MASK 0 (2 ^ 63), by decide +kernel⟩,
   ⟨.cc, 63, 0xFFFFFFFF, 0xFF, 15, State.reset.put DOM_OFF 33 0, by decide +kernel⟩,
   ⟨63, 15, (((((State.reset.put DOM_OFF 33 0).put FRT_TCMP_ARM 63 1).put FRT_TCMP_DOM 63 15).put FRT_TCMP_NS 63 5).put FRT_TCMP_FRAC 63 255).put TMB_CTR 15 (6 * 2 ^ 40), by decide +kernel⟩⟩

theorem wit_AmbModes :
    (∃ (q : Requester) (c : Fin 16) (s : State), (s.permit q .registers (ambAddr 0 c) true = .yes) ∧ ((c.val < 12 ∨ ∀ n : Fin 32, q ≠ .course n)) ∧ (s.get AMB_CH_STAT_STATE c ≠ 0) ∧ (s.get AMB_CUR c = 0)) ∧
    (∃ (_n : Fin 32) (c : Fin 16) (_m : Fin 8) (_s : State), (12 ≤ c.val)) ∧
    (∃ (q : Requester) (c : Fin 16) (m : Fin 8) (s : State), (s.permit q .registers (ambAddr 0 c) true = .yes) ∧ ((c.val < 12 ∨ ∀ n : Fin 32, q ≠ .course n)) ∧ (s.get AMB_CH_STAT_STATE c = 1) ∧ (s.get AMB_CUR c = 0) ∧ (m = 1 ∨ m = 2 ∨ m = 4) ∧ (((s.get AMB_NBT_NTSEG1_M1 c + s.get AMB_NBT_NTSEG2_M1 c + 3) * (s.get AMB_NBT_NBRP_M1 c + 1) * 125 < 10000 ∨ s.get AMB_NBT_NTSEG1_M1 c + s.get AMB_NBT_NTSEG2_M1 c + 3 < 8 ∨ s.get AMB_NBT_NTSEG2_M1 c < s.get AMB_NBT_NSJW_M1 c ∨ (s.get AMB_CH_CFG_TRIPLE c = 1 ∧ c.val < 12) ∨ (s.get AMB_REF_CFG_ROLE c ≠ 0 ∧ s.get AMB_REF_PERIOD_PERIOD c < 800) ∨ s.areaReserved (64 * s.get AMB_TXB_CFG_BASE c) 3072 = false))) ∧
    (∃ (q : Requester) (c : Fin 16) (m : Fin 8) (s : State), (s.permit q .registers (ambAddr 0 c) true = .yes) ∧ ((c.val < 12 ∨ ∀ n : Fin 32, q ≠ .course n)) ∧ (s.get AMB_CH_STAT_STATE c = 1) ∧ (s.get AMB_CUR c = 0) ∧ (m = 1 ∨ m = 2 ∨ m = 4) ∧ (ambCfgBad s c = false) ∧ (s.get AMB_CH_STAT_FAULT c ≠ 2)) ∧
    (∃ (q : Requester) (c : Fin 16) (m : Fin 8) (s : State), (s.permit q .registers (ambAddr 0 c) true = .yes) ∧ ((c.val < 12 ∨ ∀ n : Fin 32, q ≠ .course n)) ∧ (s.get AMB_CH_STAT_STATE c ≠ 0) ∧ ((m = 3 ∨ (s.get AMB_CUR c ≠ 0 ∧ m.val < 5)))) ∧
    (∃ (c : Fin 16) (ws : List Nat) (s : State), (s.get AMB_CH_STAT_STATE c = 2) ∧ (ws.length = 11) ∧ ((∀ w ∈ ws, Taken c w true s))) ∧
    (∃ (c : Fin 16) (ws : List Nat) (s : State), ((s.get AMB_CH_STAT_STATE c ≠ 2 ∨ ws.length ≠ 11 ∨ (∃ w ∈ ws, Taken c w false s)))) ∧
    (∃ (c : Fin 16) (s : State), (s.get AMB_CH_STAT_STATE c ≠ 1)) ∧
    (∃ (c : Fin 16) (s : State), (s.get AMB_CH_STAT_STATE c = 1) ∧ (s.get AMB_WANT c = 4) ∧ (s.get AMB_CUR c = 0)) ∧
    (∃ (c : Fin 16) (ws : List Nat) (s : State), (s.get AMB_CH_STAT_FAULT c = 2) ∧ ((s.get AMB_CH_CFG_AUTO_RECOVER c = 1 ∨ s.get AMB_RECOVERING c = 1)) ∧ (ws.length = 128 * 11) ∧ ((∀ w ∈ ws, Taken c w true s))) ∧
    (∃ (c : Fin 16) (ws : List Nat) (s : State), ((s.get AMB_CH_STAT_FAULT c ≠ 2 ∨ (s.get AMB_CH_CFG_AUTO_RECOVER c = 0 ∧ s.get AMB_RECOVERING c = 0) ∨ ws.length < 128 * 11))) ∧
    (∃ (c : Fin 16) (n : BitVec 16) (s : State), (s.bit AMB_AO_CFG_EDGE_EN 0 c = true) ∧ (10 * max 1 (s.get AMB_AO_CFG_WUP_MIN 0) ≤ n.toNat) ∧ ((s.get AMB_AO_CFG_AUTO_ON 0 = 0 ∨ s.get AMB_ON c = 1))) ∧
    (∃ (c : Fin 16) (n : BitVec 16) (s : State), ((s.bit AMB_AO_CFG_EDGE_EN 0 c = false ∨ n.toNat < 10 * max 1 (s.get AMB_AO_CFG_WUP_MIN 0)))) ∧
    (∃ (c : Fin 16) (n : BitVec 16) (s : State), (s.bit AMB_AO_CFG_EDGE_EN 0 c = true) ∧ (10 * max 1 (s.get AMB_AO_CFG_WUP_MIN 0) ≤ n.toNat) ∧ (s.get AMB_AO_CFG_AUTO_ON 0 = 1) ∧ (s.get AMB_ON c = 0) ∧ (ambCfgBad s c = false) ∧ (s.get AMB_CUR c = 0) ∧ (s.get AMB_CH_STAT_FAULT c = 0)) ∧
    (∃ (c : Fin 16) (_lec : Fin 7) (sof : BitVec 40) (_dl : Option (BitVec 7)) (s : State), (s.get AMB_CUR c = 33) ∧ (s.get AMB_CUT c = 0) ∧ (isAfter sof.toNat (s.get REF_SENT_AT c + s.get AMB_REF_CFG_LATE_MAX c * 256000) = false) ∧ (s.get AMB_CH_STAT_FAULT c < 2) ∧ (s.get AMB_WANT c = 0) ∧ (s.get REF_AT c = s.get REF_SENT_AT c) ∧ (s.get AMB_TECX c + 8 < 256) ∧ (s.get AMB_ERRC_REC c < 128)) ∧
    (∃ (c : Fin 16) (_lec : Fin 7) (sof : BitVec 40) (_dl : Option (BitVec 7)) (s : State), (s.get AMB_CUR c = 33) ∧ (s.get AMB_CUT c = 0) ∧ (isAfter sof.toNat (s.get REF_SENT_AT c + s.get AMB_REF_CFG_LATE_MAX c * 256000) = false) ∧ (s.get AMB_CH_STAT_FAULT c = 1) ∧ (s.get AMB_WANT c = 0) ∧ (s.get REF_AT c = s.get REF_SENT_AT c) ∧ (248 ≤ s.get AMB_TECX c) ∧ (s.get AMB_TECX c < 256) ∧ (s.get AMB_CH_CFG_ABORT_BUSOFF c = 0)) ∧
    (∃ (c : Fin 16) (_lec : Fin 7) (_big : Bool) (_sof : BitVec 40) (s : State), (s.get AMB_CH_STAT_STATE c = 4) ∧ (s.get AMB_CH_STAT_FAULT c ≠ 2)) :=
  ⟨⟨.cc, 15, (State.reset.put AMB_CH_STAT_STATE 15 3).put AMB_CUR 15 0, by decide +kernel⟩,
   ⟨31, 12, 7, State.reset, by decide +kernel⟩,
   ⟨.cc, 15, 4, (((State.reset.put AMB_CH_STAT_STATE 15 1).put AMB_CUR 15 0).put AMB_NBT_NSJW_M1 15 32).put AMB_NBT_NTSEG2_M1 15 31, by decide +kernel⟩,
   ⟨.cc, 15, 1, ((((((((State.reset.put AMB_CH_STAT_STATE 15 1).put AMB_CUR 15 0).put SBD_RSV_SIZE 0 1).put SBD_RSV_BASE 0 0).put AMB_TXB_CFG_BASE 15 0).put AMB_CH_STAT_FAULT 15 0).put AMB_REF_CFG_ROLE 15 0).put AMB_CH_CFG_TRIPLE 15 0).put AMB_CH_CFG_FD_EN 15 0, by decide +kernel⟩,
   ⟨.cc, 15, 3, State.reset.put AMB_CH_STAT_STATE 15 3, by decide +kernel⟩,
   ⟨15, List.replicate 11 4, (((State.reset.put AMB_CH_STAT_STATE 15 2).put AMB_WANT 15 3).put AMB_NBT_NTSEG1_M1 15 0).put AMB_CH_CFG_TRIPLE 15 0, by decide +kernel⟩,
   ⟨15, List.replicate 11 2, ((State.reset.put AMB_CH_STAT_STATE 15 2).put AMB_NBT_NTSEG1_M1 15 0).put AMB_CH_CFG_TRIPLE 15 0, by decide +kernel⟩,
   ⟨15, State.reset, by decide +kernel⟩,
   ⟨15, ((State.reset.put AMB_CH_STAT_STATE 15 1).put AMB_WANT 15 4).put AMB_CUR 15 0, by decide +kernel⟩,
   ⟨15, List.replicate 1408 4, ((State.reset.put AMB_CH_STAT_FAULT 15 2).put AMB_NBT_NTSEG1_M1 15 0).put AMB_RECOVERING 15 1, by decide +kernel⟩,
   ⟨15, [], State.reset.put AMB_CH_STAT_FAULT 15 1, by decide +kernel⟩,
   ⟨15, 20, ((State.reset.put AMB_AO_CFG_EDGE_EN 0 0x8000).put AMB_AO_STAT_WOKE 0 0x7FFF).put AMB_AO_CFG_AUTO_ON 0 0 |>.put AMB_AO_CFG_WUP_MIN 0 2, by decide +kernel⟩,
   ⟨15, 19, (State.reset.put AMB_AO_CFG_EDGE_EN 0 0x8000).put AMB_AO_CFG_WUP_MIN 0 2, by decide +kernel⟩,
   ⟨15, 0xFFFF, (((((((((((State.reset.put AMB_AO_CFG_EDGE_EN 0 0x8000).put AMB_AO_STAT_WOKE 0 0).put AMB_AO_CFG_AUTO_ON 0 1).put AMB_ON 15 0).put AMB_CUR 15 0).put SBD_RSV_SIZE 0 1).put SBD_RSV_BASE 0 0).put AMB_TXB_CFG_BASE 15 0).put AMB_CH_STAT_FAULT 15 0).put AMB_REF_CFG_ROLE 15 0).put AMB_CH_CFG_TRIPLE 15 0), by decide +kernel⟩,
   ⟨15, 6, 0, some 7, (((((State.reset.put AMB_CUR 15 33).put AMB_TECX 15 120).put AMB_WANT 15 0).put AMB_CH_STAT_FAULT 15 0).put REF_AT 15 0).put REF_SENT_AT 15 0 |>.put AMB_CUT 15 0, by decide +kernel⟩,
   ⟨15, 6, 0, some 7, ((((((State.reset.put AMB_CUR 15 33).put AMB_TECX 15 255).put AMB_WANT 15 0).put AMB_CH_STAT_FAULT 15 1).put REF_AT 15 0).put REF_SENT_AT 15 0 |>.put AMB_CUT 15 0).put AMB_CH_CFG_ABORT_BUSOFF 15 0, by decide +kernel⟩,
   ⟨15, 6, true, 5, (State.reset.put AMB_CH_STAT_STATE 15 4).put AMB_CH_STAT_FAULT 15 0, by decide +kernel⟩⟩

theorem wit_AmbTransmit :
    (∃ (q : Requester) (c : Fin 16) (mask : Word) (s : State), (s.permit q .registers (ambAddr 0x24 c) true = .yes) ∧ (s.get AMB_TX_PEND_PEND c < 2 ^ 32) ∧ ((s.get AMB_CH_STAT_FAULT c ≠ 2 ∨ s.get AMB_CH_CFG_ABORT_BUSOFF c = 0)) ∧ ((∀ b : Fin 32, mask.getLsbD b = true → txBufWord s c b 1 / 2 ^ 13 % 2 = 0))) ∧
    (∃ (q : Requester) (c : Fin 16) (b : Fin 32) (mask : Word) (s : State), (s.permit q .registers (ambAddr 0x24 c) true = .yes) ∧ (mask.toNat = 2 ^ b.val) ∧ (s.bit AMB_TX_PEND_PEND c b = false) ∧ (s.get AMB_ON c = 1) ∧ (txBufWord s c b 1 / 2 ^ 13 % 2 = 1) ∧ (s.reached (s.get AMB_CH_CFG_DOM c) ((txBufWord s c b 2 * 256 + txBufWord s c b 3 % 2 ^ 8 + txBufWord s c b 3 / 2 ^ 8 % 2 ^ 16 * 25600 + 1) % 2 ^ 40) = true) ∧ (SbPlain s (txBuf s c b + 16) 12)) ∧
    (∃ (q : Requester) (c : Fin 16) (b : Fin 32) (mask : Word) (s : State), (s.permit q .registers (ambAddr 0x28 c) true = .yes) ∧ (mask.toNat = 2 ^ b.val) ∧ (s.bit AMB_TX_PEND_PEND c b = true) ∧ (s.get AMB_CUR c ≠ b + 1) ∧ (SbPlain s (txBuf s c b + 16) 12)) ∧
    (∃ (q : Requester) (c : Fin 16) (b : Fin 32) (mask : Word) (s : State), (s.permit q .registers (ambAddr 0x28 c) true = .yes) ∧ (mask.toNat = 2 ^ b.val) ∧ (s.bit AMB_TX_PEND_PEND c b = true) ∧ (s.get AMB_CUR c = b + 1)) ∧
    (∃ (q : Requester) (c : Fin 16) (mask : Word) (s : State), (s.permit q .registers (ambAddr 0x28 c) true = .yes) ∧ ((∀ b : Fin 32, mask.getLsbD b = true → s.bit AMB_TX_PEND_PEND c b = false))) ∧
    (∃ (c : Fin 16) (b : Fin 32) (s : State), (s.get AMB_ON c = 1) ∧ (s.bit AMB_TX_PEND_PEND c b = true) ∧ (txBufWord s c b 1 / 2 ^ 13 % 2 = 1)) ∧
    (∃ (c : Fin 16) (b : Fin 32) (s : State), ((s.bit AMB_TX_PEND_PEND c b = false ∨ txBufWord s c b 1 / 2 ^ 13 % 2 = 0 ∨ s.get AMB_ON c = 0))) ∧
    (∃ (c : Fin 16) (b : Fin 32) (s : State), (s.get AMB_ON c = 1) ∧ (s.bit AMB_TX_PEND_PEND c b = true) ∧ (txBufWord s c b 1 / 2 ^ 13 % 2 = 1) ∧ (s.get AMB_CUR c ≠ b + 1) ∧ (SbPlain s (txBuf s c b + 16) 12) ∧ (s.reached (s.get AMB_CH_CFG_DOM c) ((txBufWord s c b 2 * 256 + txBufWord s c b 3 % 2 ^ 8 + txBufWord s c b 3 / 2 ^ 8 % 2 ^ 16 * 25600 + 1) % 2 ^ 40) = true)) ∧
    (∃ (c : Fin 16) (s : State), ((s.get AMB_CUR c ≠ 0 ∨ (s.get AMB_CH_STAT_STATE c ≠ 3 ∧ s.get AMB_CH_STAT_STATE c ≠ 6) ∨ s.get AMB_CH_STAT_FAULT c = 2 ∨ owning s = false))) ∧
    (∃ (c : Fin 16) (s : State), (ambMayStart s c = true) ∧ (s.get REF_DUE c = 1) ∧ (s.reached (s.get AMB_CH_CFG_DOM c) ((s.get REF_AT c + s.get AMB_REF_CFG_LATE_MAX c * 256000 + 1) % 2 ^ 40) = false)) ∧
    (∃ (c : Fin 16) (b : Fin 32) (d : Fin 32) (s : State), (ambMayStart s c = true) ∧ (s.get REF_DUE c = 0) ∧ (b ≠ d) ∧ (s.get AMB_TX_PEND_PEND c = 2 ^ b.val + 2 ^ d.val) ∧ (s.bit AMB_ELIG c b = true) ∧ (txBufWord s c b 1 / 2 ^ 13 % 2 = 1) ∧ (txBufWord s c d 1 / 2 ^ 13 % 2 = 0) ∧ (pastDeadline s c b = false) ∧ (badFormat s c b = false)) ∧
    (∃ (c : Fin 16) (b : Fin 32) (d : Fin 32) (s : State), (ambMayStart s c = true) ∧ (s.get REF_DUE c = 0) ∧ (b ≠ d) ∧ (s.get AMB_TX_PEND_PEND c = 2 ^ b.val + 2 ^ d.val) ∧ (txBufWord s c b 1 % 2 ^ 14 = 8) ∧ (txBufWord s c d 1 % 2 ^ 14 = 8) ∧ (txBufWord s c b 0 / 2 ^ 29 = 0) ∧ (txBufWord s c d 0 / 2 ^ 29 = 0) ∧ (txBufWord s c b 0 % 2 ^ 11 < txBufWord s c d 0 % 2 ^ 11)) ∧
    (∃ (c : Fin 16) (b : Fin 32) (s : State), (ambMayStart s c = true) ∧ (s.get REF_DUE c = 0) ∧ (s.get AMB_TX_PEND_PEND c = 2 ^ b.val) ∧ (txBufWord s c b 1 / 2 ^ 13 % 2 = 0) ∧ (txBufWord s c b 1 / 2 ^ 4 % 2 = 1) ∧ (s.get AMB_CH_CFG_FD_EN c = 0) ∧ (SbPlain s (txBuf s c b + 16) 12)) ∧
    (∃ (c : Fin 16) (b : Fin 32) (sof : BitVec 40) (_dl : Option (BitVec 7)) (e : AmbTry) (s : State), (s.get AMB_CUR c = b + 1) ∧ (s.get AMB_WANT c = 0) ∧ (s.get AMB_CUT c = 0) ∧ (s.ambTries = [e]) ∧ (e.chan = c) ∧ ((e.timed = false ∨ isAfter sof.toNat e.deadline = false)) ∧ (SbPlain s (txBuf s c b + 16) 12) ∧ (s.get AMB_CH_STAT_STATE c = 3) ∧ (s.get AMB_CH_CFG_SELF_RX c = 0) ∧ (s.get AMB_REF_CFG_ROLE c = 0) ∧ (s.get AMB_TECX c ≤ 127) ∧ (s.get AMB_ERRC_REC c ≤ 127) ∧ (s.get AMB_CH_STAT_FAULT c = 0)) ∧
    (∃ (c : Fin 16) (b : Fin 32) (_sof : BitVec 40) (_dl : Option (BitVec 7)) (e : AmbTry) (s : State), (s.get AMB_CUR c = b + 1) ∧ (s.get AMB_WANT c = 0) ∧ (s.get AMB_CUT c = 0) ∧ (s.ambTries = [e]) ∧ (e.chan = c) ∧ (e.timed = false) ∧ (s.bit AMB_TX_PEND_PEND c b = true) ∧ (s.bit AMB_TX_CANCEL_CANCEL c b = false) ∧ (s.get AMB_CH_CFG_TDC_EN c = 0) ∧ ((16 ≤ e.lim ∨ s.get AMB_FAILS (32 * c + b) < e.lim))) ∧
    (∃ (c : Fin 16) (b : Fin 32) (sof : BitVec 40) (_dl : Option (BitVec 7)) (e : AmbTry) (s : State), (s.get AMB_CUR c = b + 1) ∧ (s.get AMB_WANT c = 0) ∧ (s.get AMB_CUT c = 0) ∧ (s.ambTries = [e]) ∧ (e.chan = c) ∧ ((e.timed = false ∨ isAfter sof.toNat e.deadline = false)) ∧ (s.bit AMB_TX_PEND_PEND c b = true) ∧ (SbPlain s (txBuf s c b + 16) 12) ∧ ((s.bit AMB_TX_CANCEL_CANCEL c b = true ∨ e.lim ≤ min 15 (s.get AMB_FAILS (32 * c + b))))) ∧
    (∃ (c : Fin 16) (b : Fin 32) (_lec : Fin 7) (sof : BitVec 40) (_dl : Option (BitVec 7)) (e : AmbTry) (s : State), (s.get AMB_CUR c = b + 1) ∧ (s.get AMB_WANT c = 0) ∧ (s.get AMB_CUT c = 0) ∧ (s.ambTries = [e]) ∧ (e.chan = c) ∧ ((e.timed = false ∨ isAfter sof.toNat e.deadline = false)) ∧ (s.bit AMB_TX_PEND_PEND c b = true) ∧ (SbPlain s (txBuf s c b + 16) 12) ∧ (s.bit AMB_TX_CANCEL_CANCEL c b = false) ∧ (e.lim ≤ min 15 (s.get AMB_FAILS (32 * c + b)))) ∧
    (∃ (c : Fin 16) (b : Fin 32) (_r : AmbEnd) (sof : BitVec 40) (_dl : Option (BitVec 7)) (e : AmbTry) (s : State), (s.get AMB_CUR c = b + 1) ∧ (s.get AMB_WANT c = 0) ∧ (s.ambTries = [e]) ∧ (e.chan = c) ∧ (e.timed = true) ∧ (isAfter sof.toNat e.deadline = true) ∧ (s.bit AMB_TX_PEND_PEND c b = true) ∧ (s.bit AMB_TX_CANCEL_CANCEL c b = false) ∧ (SbPlain s (txBuf s c b + 16) 12)) ∧
    (∃ (c : Fin 16) (b : Fin 32) (_r : AmbEnd) (_sof : BitVec 40) (_dl : Option (BitVec 7)) (e : AmbTry) (s : State), (s.get AMB_CUR c = b + 1) ∧ (s.get AMB_WANT c = 0) ∧ (s.get AMB_CUT c = 1) ∧ (s.ambTries = [e]) ∧ (e.chan = c) ∧ (e.timed = false) ∧ (s.bit AMB_TX_PEND_PEND c b = true) ∧ (s.bit AMB_TX_CANCEL_CANCEL c b = false)) ∧
    (∃ (c : Fin 16) (_r : AmbEnd) (_sof : BitVec 40) (_dl : Option (BitVec 7)) (s : State), (s.get AMB_CUR c = 0)) ∧
    (∃ (c : Fin 16) (ws : List (Nat × Bool)) (_arb : Nat) (_lec : Fin 7) (_counted : Bool) (_sof : BitVec 40) (_dl : Option (BitVec 7)) (s : State), ((∀ w ∈ ws, if w.2 = true then Taken c w.1 true s else sampledAt c 0 w.1 s = false))) ∧
    (∃ (c : Fin 16) (us : List (Nat × Bool)) (_vs : List (Nat × Bool)) (x : Nat × Bool) (_arb : Nat) (_lec : Fin 7) (_counted : Bool) (_sof : BitVec 40) (_dl : Option (BitVec 7)) (s : State), ((∀ w ∈ us, if w.2 = true then Taken c w.1 true s else sampledAt c 0 w.1 s = false)) ∧ ((if x.2 = true then Taken c x.1 false s else sampledAt c 0 x.1 s = true))) ∧
    (∃ (c : Fin 16) (b : Fin 32) (_sof : BitVec 40) (_dl : Option (BitVec 7)) (e : AmbTry) (s : State), (s.get AMB_CUR c = b + 1) ∧ (s.get AMB_WANT c = 1) ∧ (s.get AMB_CUT c = 0) ∧ (s.ambTries = [e]) ∧ (e.chan = c) ∧ (e.timed = false) ∧ (s.bit AMB_TX_PEND_PEND c b = true) ∧ (s.bit AMB_TX_CANCEL_CANCEL c b = false)) :=
  ⟨⟨.cc, 15, 0x80000001, State.reset.put AMB_TX_PEND_PEND 15 2, by decide +kernel⟩,
   ⟨.cc, 15, 31, 0x80000000, (((State.reset.put AMB_TX_PEND_PEND 15 0).put AMB_ON 15 1).putBytes (sbBase + 96 * 31 + 5) [0x20]).put TMB_CTR 0 (1000 * 2 ^ 40), by decide +kernel⟩,
   ⟨.cc, 15, 31, 0x80000000, (State.reset.put AMB_TX_PEND_PEND 15 0x80000000).put AMB_CUR 15 0, by decide +kernel⟩,
   ⟨.cc, 15, 31, 0x80000000, (State.reset.put AMB_TX_PEND_PEND 15 0x80000000).put AMB_CUR 15 32, by decide +kernel⟩,
   ⟨.cc, 15, 0x80000000, State.reset.put AMB_TX_PEND_PEND 15 0, by decide +kernel⟩,
   ⟨15, 31, (((State.reset.put AMB_TX_PEND_PEND 15 0x80000000).put AMB_ON 15 1).putBytes (sbBase + 64 * State.reset.get AMB_TXB_CFG_BASE 15 + 96 * 31 + 5) [0x20]), by decide +kernel⟩,
   ⟨15, 31, State.reset.put AMB_TX_PEND_PEND 15 0, by decide +kernel⟩,
   ⟨15, 31, (((((State.reset.put AMB_TX_PEND_PEND 15 0x80000000).put AMB_ON 15 1).putBytes (sbBase + 96 * 31 + 5) [0x20]).put TMB_CTR 0 (1000 * 2 ^ 40)).put AMB_CH_CFG_DOM 15 0).put AMB_TXB_CFG_BASE 15 0, by decide +kernel⟩,
   ⟨15, State.reset.put AMB_CUR 15 33, by decide +kernel⟩,
   ⟨15, ((((((State.reset.put AMB_CH_STAT_STATE 15 3).put AMB_CUR 15 0).put AMB_WANT 15 0).put RDN_CFG_EN 0 0).put AMB_CH_STAT_FAULT 15 0).put REF_DUE 15 1).put REF_AT 15 (State.reset.get TMB_CTR 0 / 2 ^ 32), by decide +kernel⟩,
   ⟨15, 31, 0, ((((((((State.reset.put AMB_CH_STAT_STATE 15 3).put AMB_CUR 15 0).put AMB_WANT 15 0).put RDN_CFG_EN 0 0).put AMB_CH_STAT_FAULT 15 0).put REF_DUE 15 0).put AMB_TX_PEND_PEND 15 0x80000001).put AMB_ELIG 15 0x80000000).putBytes (sbBase + 64 * State.reset.get AMB_TXB_CFG_BASE 15 + 96 * 31 + 5) [0x20, 0, 0, 0xFF, 0xFF, 0xFF, 0x7F], by decide +kernel⟩,
   ⟨15, 31, 0, (((((((State.reset.put AMB_CH_STAT_STATE 15 3).put AMB_CUR 15 0).put AMB_WANT 15 0).put RDN_CFG_EN 0 0).put AMB_CH_STAT_FAULT 15 0).put REF_DUE 15 0).put AMB_TX_PEND_PEND 15 0x80000001).putBytes (sbBase + 64 * State.reset.get AMB_TXB_CFG_BASE 15 + 96 * 31 + 4) [8] |>.putBytes (sbBase + 64 * State.reset.get AMB_TXB_CFG_BASE 15) [1, 0, 0, 0, 8], by decide +kernel⟩,
   ⟨15, 31, (((((((((State.reset.put AMB_CH_STAT_STATE 15 3).put AMB_CUR 15 0).put AMB_WANT 15 0).put RDN_CFG_EN 0 0).put AMB_CH_STAT_FAULT 15 0).put REF_DUE 15 0).put AMB_TX_PEND_PEND 15 0x80000000).put AMB_CH_CFG_FD_EN 15 0).put AMB_TXB_CFG_BASE 15 0).putBytes (sbBase + 96 * 31 + 4) [0x18], by decide +kernel⟩,
   ⟨15, 31, 0xFFFFFFFFFF, some 5, ⟨15, 3, true, false, 0, ⟨5, false, false, false, false, true, 2, [1, 2]⟩⟩, { ((((((((((State.reset.put AMB_CH_STAT_STATE 15 3).put AMB_CUR 15 32).put AMB_WANT 15 0).put AMB_CH_CFG_SELF_RX 15 0).put AMB_CH_STAT_FAULT 15 0).put AMB_REF_CFG_ROLE 15 0).put AMB_TX_PEND_PEND 15 0x80000000).put AMB_TECX 15 127).put AMB_ERRC_REC 15 127).put AMB_TXB_CFG_BASE 15 0).putBytes (sbBase + 96 * 31 + 4) [8, 0x10] with ambTries := [⟨15, 3, true, false, 0, ⟨5, false, false, false, false, true, 2, [1, 2]⟩⟩] }, by decide +kernel⟩,
   ⟨15, 31, 0xFFFFFFFFFF, some 5, ⟨15, 3, true, false, 0, ⟨5, false, false, false, false, true, 2, [1, 2]⟩⟩, { (((((((State.reset.put AMB_CUR 15 32).put AMB_WANT 15 0).put AMB_TX_PEND_PEND 15 0x80000000).put AMB_TX_CANCEL_CANCEL 15 0).put AMB_FAILS 511 2).put AMB_CH_CFG_TDC_EN 15 0).put AMB_TXB_CFG_BASE 15 0).putBytes (sbBase + 96 * 31 + 4) [0x88, 1] with ambTries := [⟨15, 3, true, false, 0, ⟨5, false, false, false, false, true, 2, [1, 2]⟩⟩] }, by decide +kernel⟩,
   ⟨15, 31, 0xFFFFFFFFFF, some 5, ⟨15, 3, true, false, 0, ⟨5, false, false, false, false, true, 2, [1, 2]⟩⟩, { ((((((State.reset.put AMB_CUR 15 32).put AMB_WANT 15 0).put AMB_TX_PEND_PEND 15 0x80000000).put AMB_TX_CANCEL_CANCEL 15 0).put AMB_FAILS 511 3).put AMB_TXB_CFG_BASE 15 0).putBytes (sbBase + 96 * 31 + 4) [0x88, 1] with ambTries := [⟨15, 3, true, false, 0, ⟨5, false, false, false, false, true, 2, [1, 2]⟩⟩] }, by decide +kernel⟩,
   ⟨15, 31, 3, 0xFFFFFFFFFF, some 5, ⟨15, 0, true, false, 0, ⟨5, false, false, false, false, true, 2, [1, 2]⟩⟩, { ((((((State.reset.put AMB_CUR 15 32).put AMB_WANT 15 0).put AMB_TX_PEND_PEND 15 0x80000000).put AMB_TX_CANCEL_CANCEL 15 0).put AMB_FAILS 511 0).put AMB_TXB_CFG_BASE 15 0).putBytes (sbBase + 96 * 31 + 4) [8] with ambTries := [⟨15, 0, true, false, 0, ⟨5, false, false, false, false, true, 2, [1, 2]⟩⟩] }, by decide +kernel⟩,
   ⟨15, 31, .ok, 101, none, ⟨15, 3, true, true, 100, ⟨5, false, false, false, false, true, 2, [1, 2]⟩⟩, { ((((State.reset.put AMB_CUR 15 32).put AMB_WANT 15 0).put AMB_TX_PEND_PEND 15 0x80000000).put AMB_TX_CANCEL_CANCEL 15 0).put AMB_TXB_CFG_BASE 15 0 with ambTries := [⟨15, 3, true, true, 100, ⟨5, false, false, false, false, true, 2, [1, 2]⟩⟩] }, by decide +kernel⟩,
   ⟨15, 31, .ok, 101, none, ⟨15, 3, true, false, 100, ⟨5, false, false, false, false, true, 2, [1, 2]⟩⟩, { ((((State.reset.put AMB_CUR 15 32).put AMB_WANT 15 0).put AMB_TX_PEND_PEND 15 0x80000000).put AMB_TX_CANCEL_CANCEL 15 0).put AMB_CUT 15 1 with ambTries := [⟨15, 3, true, false, 100, ⟨5, false, false, false, false, true, 2, [1, 2]⟩⟩] }, by decide +kernel⟩,
   ⟨15, .ok, 0, none, State.reset.put AMB_CUR 15 0, by decide +kernel⟩,
   ⟨15, [(4, true), (0, false)], 1, 3, false, 101, none, ((((State.reset.put AMB_NBT_NTSEG1_M1 15 0).put AMB_NBT_NBRP_M1 15 0).put AMB_CH_CFG_TRIPLE 15 0)), by decide +kernel⟩,
   ⟨15, [(4, true)], [], (0, true), 5, 3, true, 101, none, ((((State.reset.put AMB_NBT_NTSEG1_M1 15 0).put AMB_NBT_NBRP_M1 15 0).put AMB_CH_CFG_TRIPLE 15 0)), by decide +kernel⟩,
   ⟨15, 31, 0xFFFFFFFFFF, some 5, ⟨15, 3, true, false, 0, ⟨5, false, false, false, false, true, 2, [1, 2]⟩⟩, { (((((((State.reset.put AMB_CUR 15 32).put AMB_WANT 15 1).put AMB_TX_PEND_PEND 15 0x80000000).put AMB_TX_CANCEL_CANCEL 15 0).put AMB_FAILS 511 2).put AMB_CH_CFG_TDC_EN 15 0).put AMB_TXB_CFG_BASE 15 0).putBytes (sbBase + 96 * 31 + 4) [0x88, 1] with ambTries := [⟨15, 3, true, false, 0, ⟨5, false, false, false, false, true, 2, [1, 2]⟩⟩] }, by decide +kernel⟩⟩

theorem wit_AmbReceiveAndReference :
    (∃ (c : Fin 16) (f : AmbFrame) (_sof : BitVec 40) (j : Nat) (k : Nat) (n : Nat) (at' : Nat) (s : State), (s.get AMB_CH_STAT_STATE c = 3) ∧ (s.get AMB_CH_STAT_FAULT c = 0) ∧ (owning s = true) ∧ (f.fdf = false) ∧ (f.brs = false) ∧ (f.ide = false) ∧ (s.get AMB_REF_CFG_ROLE c = 0) ∧ (j < 32) ∧ ((∀ i : Nat, i < j → s.get AMB_FLT_VALID (32 * c + i) = 0)) ∧ (s.get AMB_FLT_VALID (32 * c + j) = 1) ∧ (s.get AMB_FLT_IDE (32 * c + j) = 0) ∧ (s.get AMB_FLT_MASK (32 * c + j) = 0x7FF) ∧ (s.get AMB_FLT_ID (32 * c + j) = f.id.toNat % 2 ^ 11) ∧ (s.get AMB_FLT_REJECT (32 * c + j) = 0) ∧ (k = s.get AMB_FLT_QUEUE (32 * c + j)) ∧ (k < 4) ∧ (s.get AMB_RXQ_CFG_EN (4 * c + k) = 1) ∧ (n = s.get AMB_RXQ_PTR_COUNT (4 * c + k)) ∧ (n < 2 ^ min 10 (max 4 (s.get AMB_RXQ_CFG_LOG2 (4 * c + k)))) ∧ (at' = 64 * s.get AMB_RXQ_CFG_BASE (4 * c + k) + 96 * ((s.get AMB_RXQ_PTR_HEAD (4 * c + k) + n) % 2 ^ min 10 (max 4 (s.get AMB_RXQ_CFG_LOG2 (4 * c + k))))) ∧ (SbPlain s at' 96) ∧ (s.get AMB_ERRC_REC c ≤ 127) ∧ (s.get AMB_TECX c ≤ 127) ∧ (f.data.length = (if f.rtr then 0 else min 8 f.dlc.toNat))) ∧
    (∃ (c : Fin 16) (f : AmbFrame) (_sof : BitVec 40) (k : Nat) (s : State), (s.get AMB_CH_STAT_STATE c = 4) ∧ (s.get AMB_CH_STAT_FAULT c ≠ 2) ∧ (f.fdf = false) ∧ (f.brs = false) ∧ (s.get AMB_REF_CFG_ROLE c = 0) ∧ ((∀ i : Nat, i < 32 → s.get AMB_FLT_VALID (32 * c + i) = 0)) ∧ (s.get AMB_CH_CFG_NOMATCH_EN c = 1) ∧ (k = s.get AMB_CH_CFG_NOMATCH_Q c) ∧ ((s.get AMB_RXQ_CFG_EN (4 * c + k) = 0 ∨ 1024 ≤ s.get AMB_RXQ_PTR_COUNT (4 * c + k))) ∧ (s.get AMB_RXQ_PTR_OVR (4 * c + k) = 0)) ∧
    (∃ (c : Fin 16) (f : AmbFrame) (_sof : BitVec 40) (s : State), (s.get AMB_CH_STAT_STATE c = 3) ∧ (s.get AMB_CH_STAT_FAULT c ≠ 2) ∧ (f.fdf = true) ∧ (s.get AMB_CH_CFG_FD_EN c = 0) ∧ (s.get AMB_CH_CFG_PXHD c = 0)) ∧
    (∃ (c : Fin 16) (f : AmbFrame) (_sof : BitVec 40) (s : State), (s.get AMB_CH_STAT_STATE c = 5) ∧ (s.get AMB_CH_STAT_FAULT c = 0) ∧ (f.fdf = false) ∧ (f.brs = false) ∧ (s.get AMB_REF_CFG_ROLE c = 0) ∧ (owning s = true) ∧ (s.get AMB_ERRC_REC c ≤ 127) ∧ (s.get AMB_TECX c ≤ 127) ∧ (s.get AMB_WAKE_DMASK_DATA c = 0) ∧ ((s.get AMB_WAKE_ID_IDE c = 1 ↔ f.ide = true)) ∧ (s.get AMB_WAKE_ID_IDE c < 2) ∧ (s.get AMB_WAKE_ID_MASK c = 0x1FFFFFFF) ∧ (s.get AMB_WAKE_ID_ID c < 2 ^ 29) ∧ ((∀ i : Nat, i < 32 → s.get AMB_FLT_VALID (32 * c + i) = 0)) ∧ (s.get AMB_CH_CFG_NOMATCH_EN c = 0)) ∧
    (∃ (c : Fin 16) (_r : AmbRx) (_sof : BitVec 40) (s : State), ((s.get AMB_CH_STAT_FAULT c = 2 ∨ s.get AMB_CH_STAT_STATE c ∈ [0, 1, 2] ∨ (s.get AMB_CH_STAT_STATE c = 6 ∧ owning s = true)))) ∧
    (∃ (q : Requester) (c : Fin 16) (k : Fin 4) (_n : BitVec 11) (s : State), (s.permit q .registers (ambAddr (0x64 + 8 * k) c) true = .yes)) ∧
    (∃ (q : Requester) (c : Fin 16) (k : Fin 4) (_v : BitVec 24) (s : State), (s.permit q .registers (ambAddr (0x40 + 8 * k) c) true = .yes) ∧ ((c.val < 12 ∨ ∀ n : Fin 32, q ≠ .course n))) ∧
    (∃ (c : Fin 16) (_started : Bool) (role : Nat) (s : State), (role = s.get AMB_REF_CFG_ROLE c) ∧ (role = 1 ∨ role = 2) ∧ (s.get AMB_CH_STAT_STATE c = 3) ∧ (s.reached (s.get AMB_CH_CFG_DOM c) (s.get REF_NEXT c) = true) ∧ (s.get REF_DUE c = 0) ∧ (s.get AMB_REF_CFG_CYC_MAX c < 2 ^ 6)) ∧
    (∃ (c : Fin 16) (_started : Bool) (s : State), ((s.get AMB_REF_CFG_ROLE c = 0 ∨ s.get AMB_REF_CFG_ROLE c = 3 ∨ s.get AMB_CH_STAT_STATE c = 1 ∨ s.reached (s.get AMB_CH_CFG_DOM c) (s.get REF_NEXT c) = false))) ∧
    (∃ (c : Fin 16) (s : State), (s.get AMB_CH_STAT_STATE c = 3)) ∧
    (∃ (c : Fin 16) (f : AmbFrame) (_sof : BitVec 40) (s : State), (s.get AMB_CH_STAT_STATE c = 3) ∧ (s.get AMB_CH_STAT_FAULT c = 0) ∧ (owning s = true) ∧ (f.fdf = false) ∧ (f.brs = false) ∧ (f.ide = false) ∧ (s.get AMB_REF_CFG_ROLE c = 3) ∧ (f.id.toNat / 8 = s.get AMB_REF_CFG_REF_ID c / 8) ∧ (s.get AMB_ERRC_REC c ≤ 127) ∧ (s.get AMB_TECX c ≤ 127) ∧ ((∀ i : Nat, i < 32 → s.get AMB_FLT_VALID (32 * c + i) = 0)) ∧ (s.get AMB_CH_CFG_NOMATCH_EN c = 0)) :=
  ⟨⟨15, ⟨0x7FF, false, false, false, false, true, 2, [1, 2]⟩, 0xFFFFFFFFFF, 31, 3, 15, 96 * 15, (((((((((((((((State.reset.put AMB_CH_STAT_STATE 15 3).put AMB_CH_STAT_FAULT 15 0).put RDN_CFG_EN 0 0).put AMB_REF_CFG_ROLE 15 0).put AMB_FLT_VALID 511 1).put AMB_FLT_IDE 511 0).put AMB_FLT_MASK 511 0x7FF).put AMB_FLT_ID 511 0x7FF).put AMB_FLT_REJECT 511 0).put AMB_FLT_QUEUE 511 3).put AMB_RXQ_CFG_EN 63 1).put AMB_RXQ_PTR_COUNT 63 15).put AMB_RXQ_CFG_LOG2 63 0).put AMB_RXQ_CFG_BASE 63 0).put AMB_RXQ_PTR_HEAD 63 0), by decide +kernel⟩,
   ⟨15, ⟨5, true, false, false, false, true, 2, [1, 2]⟩, 5, 3, (((((((State.reset.put AMB_CH_STAT_STATE 15 4).put AMB_CH_STAT_FAULT 15 0).put AMB_REF_CFG_ROLE 15 0).put AMB_CH_CFG_NOMATCH_EN 15 1).put AMB_CH_CFG_NOMATCH_Q 15 3).put AMB_RXQ_CFG_EN 63 0).put AMB_RXQ_PTR_OVR 63 0), by decide +kernel⟩,
   ⟨15, ⟨5, true, false, true, false, true, 2, [1, 2]⟩, 5, (((State.reset.put AMB_CH_STAT_STATE 15 3).put AMB_CH_STAT_FAULT 15 0).put AMB_CH_CFG_FD_EN 15 0).put AMB_CH_CFG_PXHD 15 0, by decide +kernel⟩,
   ⟨15, ⟨0x1FFFFFFF, true, false, false, false, true, 2, [1, 2]⟩, 5, ((((((((((State.reset.put AMB_CH_STAT_STATE 15 5).put AMB_CH_STAT_FAULT 15 0).put RDN_CFG_EN 0 0).put AMB_REF_CFG_ROLE 15 0).put AMB_WAKE_DMASK_DATA 15 0).put AMB_WAKE_ID_IDE 15 1).put AMB_WAKE_ID_MASK 15 0x1FFFFFFF).put AMB_WAKE_ID_ID 15 0x1FFFFFFF).put AMB_CH_CFG_NOMATCH_EN 15 0).put AMB_ERRC_REC 15 127).put AMB_TECX 15 127, by decide +kernel⟩,
   ⟨15, .error 3 true, 5, State.reset.put AMB_CH_STAT_STATE 15 6, by decide +kernel⟩,
   ⟨.cc, 15, 3, 0x400, State.reset.put AMB_RXQ_PTR_COUNT 63 0x400, by decide +kernel⟩,
   ⟨.cc, 15, 3, 0xFFFFFF, State.reset.put AMB_CH_STAT_STATE 15 1, by decide +kernel⟩,
   ⟨15, false, 2, ((((((State.reset.put AMB_REF_CFG_ROLE 15 2).put AMB_CH_STAT_STATE 15 3).put REF_DUE 15 0).put REF_COUNT 15 63).put AMB_REF_CFG_CYC_MAX 15 63).put REF_NEXT 15 0).put TMB_CTR (State.reset.get AMB_CH_CFG_DOM 15) 0, by decide +kernel⟩,
   ⟨15, true, State.reset.put AMB_REF_CFG_ROLE 15 3, by decide +kernel⟩,
   ⟨15, (((State.reset.put AMB_CH_STAT_STATE 15 3).put AMB_REF_CFG_ROLE 15 3).put REF_SAID 15 0), by decide +kernel⟩,
   ⟨15, ⟨0x7FF, false, false, false, false, false, 1, [0x3F]⟩, 0xFFFFFFFFFF, ((((((((State.reset.put AMB_CH_STAT_STATE 15 3).put AMB_CH_STAT_FAULT 15 0).put RDN_CFG_EN 0 0).put AMB_REF_CFG_ROLE 15 3).put AMB_REF_CFG_REF_ID 15 0x7F8).put AMB_CH_CFG_NOMATCH_EN 15 0).put AMB_ERRC_REC 15 0).put AMB_TECX 15 0), by decide +kernel⟩⟩

theorem wit_TtbControl :
    (∃ (q : Requester) (k : Fin 4) (s : State), (s.permit q .registers (0x40B00040 + 0x4000 * k) true = .yes) ∧ (s.get DOM_OFF (89 + k) = 0) ∧ (s.get TTB_POC_STAT_STATE k ∈ [0, 2, 7])) ∧
    (∃ (q : Requester) (k : Fin 4) (s : State), (s.permit q .registers (0x40B00040 + 0x4000 * k) true = .yes) ∧ (s.get DOM_OFF (89 + k) = 0) ∧ (s.get TTB_POC_STAT_STATE k = 1) ∧ (TtbUnfit k s)) ∧
    (∃ (q : Requester) (k : Fin 4) (s : State), (s.permit q .registers (0x40B00040 + 0x4000 * k) true = .yes) ∧ (s.get DOM_OFF (89 + k) = 0) ∧ (s.get TTB_POC_STAT_STATE k ∈ [1, 3, 4]) ∧ ((s.get TTB_POC_STAT_STATE k = 1 → ¬ TtbUnfit k s))) ∧
    (∃ (q : Requester) (k : Fin 4) (s : State), (s.permit q .registers (0x40B00040 + 0x4000 * k) true = .yes) ∧ (s.get DOM_OFF (89 + k) = 0) ∧ (s.get TTB_POC_STAT_STATE k = 2)) ∧
    (∃ (q : Requester) (k : Fin 4) (s : State), (s.permit q .registers (0x40B00040 + 0x4000 * k) true = .yes) ∧ (s.get DOM_OFF (89 + k) = 0) ∧ (s.get TTB_POC_STAT_STATE k ∈ [2, 4, 5, 6])) ∧
    (∃ (q : Requester) (k : Fin 4) (s : State), (s.permit q .registers (0x40B00040 + 0x4000 * k) true = .yes) ∧ (s.get DOM_OFF (89 + k) = 0) ∧ (s.get TTB_POC_STAT_STATE k ∈ [5, 6])) ∧
    (∃ (q : Requester) (k : Fin 4) (s : State), (s.permit q .registers (0x40B00040 + 0x4000 * k) true = .yes) ∧ (s.get DOM_OFF (89 + k) = 0) ∧ (s.get TTB_POC_STAT_STATE k ∈ [1, 2, 3, 4, 5, 6])) ∧
    (∃ (q : Requester) (k : Fin 4) (s : State), (s.permit q .registers (0x40B00040 + 0x4000 * k) true = .yes)) ∧
    (∃ (k : Fin 4) (_c : BitVec 6) (s : State), (s.get TTB_POC_STAT_STATE k = 4)) ∧
    (∃ (k : Fin 4) (s : State), (s.get TTB_POC_STAT_STATE k = 4) ∧ (s.get TTB_KEY_STARTUP k = 1) ∧ (s.get TTB_COLD k = 1) ∧ (s.get TTB_ATT k = 0) ∧ (s.get TTB_LEAD k ≠ 1)) ∧
    (∃ (k : Fin 4) (r : Fin 8) (n : Fin 64) (m : Nat) (s : State), (s.get TTB_POC_STAT_STATE k = 3) ∧ (m = (if r.val = 1 then s.get TTB_CL_T4_WU_PAT k else if 4 ≤ r.val then min n.val (s.get TTB_CL_T4_WU_PAT k) else 0))) ∧
    (∃ (k : Fin 4) (ch : Fin 2) (n : BitVec 16) (s : State), (s.bit TTB_AO_CFG_EDGE_EN 0 (2 * k + ch) = true) ∧ (10 * max 1 (s.get TTB_AO_CFG_WUP_MIN 0) ≤ n.toNat) ∧ (s.bit TTB_AO_STAT_WOKE 0 (2 * k + ch) = false) ∧ ((s.get TTB_AO_CFG_AUTO_ON 0 = 0 ∨ s.get DOM_OFF (89 + k) = 0))) ∧
    (∃ (k : Fin 4) (ch : Fin 2) (n : BitVec 16) (s : State), (s.bit TTB_AO_CFG_EDGE_EN 0 (2 * k + ch) = true) ∧ (10 * max 1 (s.get TTB_AO_CFG_WUP_MIN 0) ≤ n.toNat) ∧ (s.get TTB_AO_CFG_AUTO_ON 0 = 1) ∧ (s.get DOM_OFF (89 + k) = 1) ∧ (s.get TTB_POC_STAT_STATE k = 0)) ∧
    (∃ (k : Fin 4) (ch : Fin 2) (n : BitVec 16) (s : State), ((s.bit TTB_AO_CFG_EDGE_EN 0 (2 * k + ch) = false ∨ n.toNat < 10 * max 1 (s.get TTB_AO_CFG_WUP_MIN 0) ∨ (s.bit TTB_AO_STAT_WOKE 0 (2 * k + ch) = true ∧ (s.get TTB_AO_CFG_AUTO_ON 0 = 0 ∨ s.get DOM_OFF (89 + k) = 0))))) :=
  ⟨⟨.cc, 3, (State.reset.put DOM_OFF 92 0).put TTB_POC_STAT_STATE 3 7, by decide +kernel⟩,
   ⟨.cc, 3, (State.reset.put DOM_OFF 92 0).put TTB_POC_STAT_STATE 3 1, by decide +kernel⟩,
   ⟨.cc, 3, (((((((((((((((State.reset.put DOM_OFF 92 0).put TTB_POC_STAT_STATE 3 1).put TTB_CL_T0_MPC 3 10).put TTB_CL_T0_MT_UT 3 40).put TTB_CL_T1_STATIC_SLOTS 3 2).put TTB_CL_T1_SLOT_MT 3 4).put TTB_CL_T2_MINISLOTS 3 0).put TTB_CL_T3_SYMWIN_MT 3 0).put TTB_CL_T3_NIT_MT 3 2).put TTB_CL_T3_OFFCORR_START 3 8).put TTB_CL_T4_LATEST_TX 3 0).put TTB_KEY_SYNC 3 1).put TTB_KEY_KEY_ID 3 2).put TTB_BUF_CFG_BASE 3 0).put SBD_RSV_SIZE 2 1 |>.put SBD_RSV_BASE 2 0 |>.put TTB_MODE_VALID_VALID 3 1 |>.put TTB_MODE_CTRL_START_MODE 3 0).put TTB_MODE_CTRL_AGREE_EN 3 0, by decide +kernel⟩,
   ⟨.cc, 3, (State.reset.put DOM_OFF 92 0).put TTB_POC_STAT_STATE 3 2, by decide +kernel⟩,
   ⟨.cc, 3, (State.reset.put DOM_OFF 92 0).put TTB_POC_STAT_STATE 3 4, by decide +kernel⟩,
   ⟨.cc, 3, (State.reset.put DOM_OFF 92 0).put TTB_POC_STAT_STATE 3 6, by decide +kernel⟩,
   ⟨.cc, 3, (State.reset.put DOM_OFF 92 0).put TTB_POC_STAT_STATE 3 3, by decide +kernel⟩,
   ⟨.cc, 3, State.reset.put DOM_OFF 92 1, by decide +kernel⟩,
   ⟨3, 63, State.reset.put TTB_POC_STAT_STATE 3 4, by decide +kernel⟩,
   ⟨3, ((State.reset.put TTB_POC_STAT_STATE 3 4).put TTB_KEY_STARTUP 3 1).put TTB_COLD 3 1 |>.put TTB_ATT 3 0 |>.put TTB_LEAD 3 2, by decide +kernel⟩,
   ⟨3, 7, 63, 5, (State.reset.put TTB_POC_STAT_STATE 3 3).put TTB_CL_T4_WU_PAT 3 5, by decide +kernel⟩,
   ⟨3, 1, 20, ((((State.reset.put TTB_AO_CFG_EDGE_EN 0 0x80).put TTB_AO_STAT_WOKE 0 0x7F).put DOM_OFF 92 0).put TTB_AO_CFG_WUP_MIN 0 2), by decide +kernel⟩,
   ⟨3, 1, 10, (((((State.reset.put TTB_AO_CFG_EDGE_EN 0 0x80).put TTB_AO_STAT_WOKE 0 0xFF).put DOM_OFF 92 1).put TTB_AO_CFG_AUTO_ON 0 1).put TTB_POC_STAT_STATE 3 0).put TTB_AO_CFG_WUP_MIN 0 0, by decide +kernel⟩,
   ⟨3, 1, 19, (State.reset.put TTB_AO_CFG_EDGE_EN 0 0x80).put TTB_AO_CFG_WUP_MIN 0 2, by decide +kernel⟩⟩

theorem wit_TtbCyclesAndModes :
    (∃ (k : Fin 4) (s : State), (s.get TTB_POC_STAT_STATE k = 5) ∧ (s.get TTB_HALT k = 0) ∧ (s.get TTB_ALIGN_EN k = 0) ∧ (s.get TTB_AGREED k = 0)) ∧
    (∃ (k : Fin 4) (s : State), (s.get TTB_POC_STAT_STATE k ∈ [5, 6]) ∧ (s.get TTB_HALT k = 0) ∧ (s.get TTB_AGREED k = 1) ∧ (s.get TTB_MODE_STAT_TARGET k < 8)) ∧
    (∃ (k : Fin 4) (d : Int) (fr : Nat) (s : State), (s.get TTB_POC_STAT_STATE k = 5) ∧ (s.get TTB_HALT k = 0) ∧ (s.get TTB_ALIGN_EN k = 1) ∧ (s.get TTB_AL_ON k = 1) ∧ (s.get TTB_POC_STAT_CYCLE k % 2 = 0) ∧ (-(2 ^ 23) ≤ d) ∧ (d < 2 ^ 23) ∧ (fr < 2 ^ 8) ∧ ((s.now (s.get TTB_ALIGN_DOM k) : Int) = ((s.get TTB_AL_E k : Int) + 256 * d + fr).emod (2 ^ 40))) ∧
    (∃ (k : Fin 4) (m : Nat) (d : Nat) (s : State), (s.get TTB_POC_STAT_STATE k = 5) ∧ (s.get TTB_HALT k = 0) ∧ (s.get TTB_ALIGN_EN k = 1) ∧ (s.get TTB_AL_ON k = 0) ∧ (s.get TTB_POC_STAT_CYCLE k % 2 = 1) ∧ (s.get TTB_ALIGN_BASE k < 2 ^ 31) ∧ (2 * d < s.get TTB_CL_T0_MPC k * s.get TTB_CL_T0_MT_UT k * 3200) ∧ (d < 2 ^ 31) ∧ (s.now (s.get TTB_ALIGN_DOM k) = s.get TTB_ALIGN_BASE k * 2 ^ 8 + m * (s.get TTB_CL_T0_MPC k * s.get TTB_CL_T0_MT_UT k * 3200) + d) ∧ (s.now (s.get TTB_ALIGN_DOM k) < s.get TTB_ALIGN_BASE k * 2 ^ 8 + 2 ^ 39)) ∧
    (∃ (k : Fin 4) (s : State), (s.get TTB_POC_STAT_STATE k ∈ [5, 6]) ∧ (s.get TTB_HALT k = 1)) ∧
    (∃ (k : Fin 4) (s : State), (s.get TTB_POC_STAT_STATE k ∈ [0, 1, 2, 3, 7])) ∧
    (∃ (k : Fin 4) (s : State), (s.get TTB_POC_STAT_STATE k = 4) ∧ (s.get TTB_HALT k = 0) ∧ (s.get TTB_LEAD k = 1) ∧ (s.get TTB_POC_STAT_CYCLE k = 5)) ∧
    (∃ (k : Fin 4) (d : SyncDev) (r : Int) (s : State), (s.get TTB_POC_STAT_STATE k ∈ [5, 6]) ∧ (0 < s.get TTB_CL_SYNC2_SYNC_MAX k) ∧ (syncNoted s k (s.get TTB_POC_STAT_CYCLE k) d.id.toNat = true) ∧ (syncNoted s k ((s.get TTB_POC_STAT_CYCLE k + 63) % 64) d.id.toNat = true) ∧ (d.off.toInt.natAbs ≤ s.get TTB_CL_SYNC_OFFSET_OUT k) ∧ (r = s.getS TTB_RATE k + d.rate.toInt) ∧ (r.natAbs ≤ s.get TTB_CL_SYNC_RATE_OUT k) ∧ (s.get TTB_ALIGN_STAT_OFF_CTL k = 3) ∧ (s.get TTB_ALIGN_STAT_RATE_CTL k = 1) ∧ (s.get TTB_ALIGN_EXT_EXT_OFF k < 2 ^ 5) ∧ (s.get TTB_ALIGN_EXT_EXT_RATE k < 2 ^ 5) ∧ (d.off.toInt.natAbs < 2 ^ 14) ∧ (r.natAbs < 2 ^ 10)) ∧
    (∃ (k : Fin 4) (a : SyncDev) (b : SyncDev) (r : Int) (s : State), (s.get TTB_POC_STAT_STATE k ∈ [5, 6]) ∧ (1 < s.get TTB_CL_SYNC2_SYNC_MAX k) ∧ (a.chan = b.chan) ∧ (a.id ≠ b.id) ∧ ((∀ c ∈ [s.get TTB_POC_STAT_CYCLE k, (s.get TTB_POC_STAT_CYCLE k + 63) % 64], syncNoted s k c a.id.toNat = true ∧ syncNoted s k c b.id.toNat = true)) ∧ (((a.off.toInt + b.off.toInt).tdiv 2).natAbs ≤ min (2 ^ 14) (s.get TTB_CL_SYNC_OFFSET_OUT k)) ∧ (r = s.getS TTB_RATE k + (a.rate.toInt + b.rate.toInt).tdiv 2) ∧ (r.natAbs ≤ min (2 ^ 10) (s.get TTB_CL_SYNC_RATE_OUT k)) ∧ (s.get TTB_ALIGN_STAT_OFF_CTL k = 0) ∧ (s.get TTB_ALIGN_STAT_RATE_CTL k = 0)) ∧
    (∃ (k : Fin 4) (fs : List SyncFrame) (offs : List (BitVec 16)) (rates : List (BitVec 12)) (ds : List SyncDev) (m : Nat) (s : State), (ds = syncDevs fs offs rates) ∧ (s.get TTB_POC_STAT_STATE k = 5) ∧ (((∀ d ∈ ds, syncNoted s k ((s.get TTB_POC_STAT_CYCLE k + 63) % 64) d.id.toNat = false ∨ syncNoted s k (s.get TTB_POC_STAT_CYCLE k) d.id.toNat = false) ∨ (∀ d ∈ ds, (s.get TTB_CL_SYNC_OFFSET_OUT k : Int) < d.off.toInt) ∨ (∀ d ∈ ds, (s.get TTB_CL_SYNC_RATE_OUT k : Int) < s.getS TTB_RATE k + d.rate.toInt))) ∧ (m = min (s.get TTB_NOCORR k + 1) 15)) ∧
    (∃ (k : Fin 4) (_fs : List SyncFrame) (_offs : List (BitVec 16)) (_rates : List (BitVec 12)) (s : State), (s.get TTB_POC_STAT_STATE k ∉ [5, 6])) ∧
    (∃ (q : Requester) (k : Fin 4) (m : Fin 8) (a : Fin 128) (b : Fin 128) (w0 : Nat) (w1 : Nat) (v0 : Nat) (v1 : Nat) (s : State), (s.permit q .registers (0x40B00074 + 0x4000 * k) true = .yes) ∧ (a ≠ b) ∧ (SchAt k m a w0 w1 s) ∧ (SchAt k m b v0 v1 s) ∧ (SchElse k m [a, b] s) ∧ (w0 % 2 ^ 11 ≠ 0) ∧ (v0 % 2 ^ 11 ≠ 0) ∧ (w0 / 2 ^ 12 % 4 ≠ 0) ∧ (v0 / 2 ^ 12 % 4 ≠ 0) ∧ ((∀ j : Fin 8, s.bit TTB_MODE_VALID_VALID k j = false)) ∧ (s.get TTB_MODE_VALID_FAIL k = 0) ∧ ((s.get TTB_POC_STAT_STATE k ∉ [5, 6] ∨ s.get TTB_MODE_STAT_ACTIVE k = m)) ∧ ((s.get TTB_MODE_STAT_PEND k = 0 ∨ s.get TTB_MODE_STAT_TARGET k = m))) ∧
    (∃ (q : Requester) (k : Fin 4) (m : Fin 8) (s : State), (s.permit q .registers (0x40B00074 + 0x4000 * k) true = .yes) ∧ (s.get TTB_MODE_VALID_VALID k = 2 ^ m.val) ∧ (s.get TTB_MODE_VALID_FAIL k < 2 ^ 8)) ∧
    (∃ (q : Requester) (k : Fin 4) (_m : Fin 8) (s : State), (s.permit q .registers (0x40B00070 + 0x4000 * k) true = .yes)) ∧
    (∃ (k : Fin 4) (s : State), (s.get TTB_POC_STAT_STATE k ∈ [5, 6]) ∧ (s.get TTB_MODE_STAT_PEND k = 1) ∧ (s.get TTB_AGREED k = 0) ∧ (s.get TTB_POC_STAT_CYCLE k = (s.get TTB_MODE_STAT_REQ_CYC k + 1) % 64) ∧ ((∀ x ∈ s.ttbSync, x.cluster = k.val → x.cyc = s.get TTB_MODE_STAT_REQ_CYC k → ∃ y ∈ s.ttbSync, y.cluster = k.val ∧ y.cyc = s.get TTB_POC_STAT_CYCLE k ∧ y.id = x.id)) ∧ ((∀ x ∈ s.ttbSync, x.cluster = k.val → x.cyc = s.get TTB_POC_STAT_CYCLE k → ∃ b ∈ x.mode, b / 8 % 2 = 1 ∧ b % 8 = s.get TTB_MODE_STAT_TARGET k))) ∧
    (∃ (k : Fin 4) (s : State), (s.get TTB_POC_STAT_STATE k ∈ [5, 6]) ∧ (s.get TTB_MODE_STAT_PEND k = 1) ∧ (s.get TTB_AGREED k = 0) ∧ (s.get TTB_POC_STAT_CYCLE k = (s.get TTB_MODE_STAT_REQ_CYC k + 1) % 64) ∧ (((∃ x ∈ s.ttbSync, x.cluster = k.val ∧ x.cyc = s.get TTB_MODE_STAT_REQ_CYC k ∧ ∀ y ∈ s.ttbSync, y.cluster = k.val → y.cyc = s.get TTB_POC_STAT_CYCLE k → y.id ≠ x.id) ∨ (∃ x ∈ s.ttbSync, x.cluster = k.val ∧ x.cyc = s.get TTB_POC_STAT_CYCLE k ∧ ∀ b ∈ x.mode, ¬ (b / 8 % 2 = 1 ∧ b % 8 = s.get TTB_MODE_STAT_TARGET k))))) ∧
    (∃ (k : Fin 4) (s : State), ((s.get TTB_POC_STAT_STATE k ∉ [5, 6] ∨ s.get TTB_MODE_STAT_PEND k = 0 ∨ s.get TTB_AGREED k = 1 ∨ s.get TTB_POC_STAT_CYCLE k ≠ (s.get TTB_MODE_STAT_REQ_CYC k + 1) % 64))) :=
  ⟨⟨3, (((State.reset.put TTB_POC_STAT_STATE 3 5).put TTB_HALT 3 0).put TTB_ALIGN_EN 3 0).put TTB_AGREED 3 0 |>.put TTB_POC_STAT_CYCLE 3 63, by decide +kernel⟩,
   ⟨3, (((State.reset.put TTB_POC_STAT_STATE 3 6).put TTB_HALT 3 0).put TTB_AGREED 3 1).put TTB_MODE_STAT_TARGET 3 7, by decide +kernel⟩,
   ⟨3, -1001, 255, (((((((State.reset.put TTB_POC_STAT_STATE 3 5).put TTB_HALT 3 0).put TTB_ALIGN_EN 3 1).put TTB_AL_ON 3 1).put TTB_POC_STAT_CYCLE 3 62).put TTB_AL_E 3 0).put TTB_ALIGN_DOM 3 0).put TMB_CTR 0 ((2 ^ 40 - 256 * 1001 + 255) * 2 ^ 32), by decide +kernel⟩,
   ⟨3, 2, 99, ((((((((State.reset.put TTB_POC_STAT_STATE 3 5).put TTB_HALT 3 0).put TTB_ALIGN_EN 3 1).put TTB_AL_ON 3 0).put TTB_POC_STAT_CYCLE 3 63).put TTB_ALIGN_BASE 3 1000).put TTB_ALIGN_DOM 3 0).put TTB_CL_T0_MPC 3 10 |>.put TTB_CL_T0_MT_UT 3 40).put TMB_CTR 0 ((256000 + 2 * 1280000 + 99) * 2 ^ 32), by decide +kernel⟩,
   ⟨3, (State.reset.put TTB_POC_STAT_STATE 3 6).put TTB_HALT 3 1, by decide +kernel⟩,
   ⟨3, State.reset.put TTB_POC_STAT_STATE 3 7, by decide +kernel⟩,
   ⟨3, ((((State.reset.put TTB_POC_STAT_STATE 3 4).put TTB_HALT 3 0).put TTB_LEAD 3 1).put TTB_POC_STAT_CYCLE 3 5).put TTB_ATT 3 31, by decide +kernel⟩,
   ⟨3, ⟨1, 0x7FF, 0xFFF1, 2⟩, -1, { ((((((((State.reset.put TTB_POC_STAT_STATE 3 6).put TTB_CL_SYNC_OFFSET_OUT 3 15).put TTB_CL_SYNC_RATE_OUT 3 2).putS TTB_RATE 3 (-3)).put TTB_ALIGN_STAT_OFF_CTL 3 3).put TTB_ALIGN_STAT_RATE_CTL 3 1).put TTB_ALIGN_EXT_EXT_OFF 3 28).put TTB_ALIGN_EXT_EXT_RATE 3 28).put TTB_CL_SYNC2_SYNC_MAX 3 1 |>.put TTB_POC_STAT_CYCLE 3 0 with ttbSync := [⟨3, 63, 0x7FF, none⟩, ⟨3, 0, 0x7FF, none⟩] }, by decide +kernel⟩,
   ⟨3, ⟨1, 0x7FF, 0xFFF1, 2⟩, ⟨1, 1, 0xFFF0, 0xFFF⟩, -2, { (((((((State.reset.put TTB_POC_STAT_STATE 3 6).put TTB_CL_SYNC_OFFSET_OUT 3 15).put TTB_CL_SYNC_RATE_OUT 3 2).putS TTB_RATE 3 (-2)).put TTB_ALIGN_STAT_OFF_CTL 3 0).put TTB_ALIGN_STAT_RATE_CTL 3 0).put TTB_CL_SYNC2_SYNC_MAX 3 2).put TTB_POC_STAT_CYCLE 3 0 with ttbSync := [⟨3, 63, 0x7FF, none⟩, ⟨3, 0, 0x7FF, none⟩, ⟨3, 63, 1, none⟩, ⟨3, 0, 1, none⟩] }, by decide +kernel⟩,
   ⟨3, [⟨0, 5⟩], [16], [2], [⟨0, 5, 16, 2⟩], 1, { ((State.reset.put TTB_POC_STAT_STATE 3 5).put TTB_CL_SYNC_OFFSET_OUT 3 15).put TTB_NOCORR 3 0 with ttbSync := [⟨3, 63, 5, none⟩, ⟨3, 0, 5, none⟩] }, by decide +kernel⟩,
   ⟨3, [⟨0, 5⟩], [16], [2], State.reset.put TTB_POC_STAT_STATE 3 4, by decide +kernel⟩,
   ⟨.cc, 3, 7, 127, 126, 0x307807, 0, 0x20F807, 0, (((((State.reset.put TTB_MODE_VALID_VALID 3 0).put TTB_MODE_VALID_FAIL 3 0).put TTB_SCH 8190 0x307807).put TTB_SCH 8188 0x20F807).put TTB_SCH 8191 0).put TTB_SCH 8189 0, by decide +kernel⟩,
   ⟨.cc, 3, 7, (State.reset.put TTB_MODE_VALID_VALID 3 0x80).put TTB_POC_STAT_STATE 3 5 |>.put TTB_MODE_STAT_ACTIVE 3 7, by decide +kernel⟩,
   ⟨.cc, 3, 7, State.reset, by decide +kernel⟩,
   ⟨3, { ((((State.reset.put TTB_POC_STAT_STATE 3 5).put TTB_MODE_STAT_PEND 3 1).put TTB_AGREED 3 0).put TTB_POC_STAT_CYCLE 3 0).put TTB_MODE_STAT_REQ_CYC 3 63 |>.put TTB_MODE_STAT_TARGET 3 7 with ttbSync := [⟨3, 63, 1, some 0x0F⟩, ⟨3, 0, 1, some 0x0F⟩, ⟨3, 0, 2, some 0x0F⟩, ⟨2, 0, 2, none⟩] }, by decide +kernel⟩,
   ⟨3, { ((((State.reset.put TTB_POC_STAT_STATE 3 6).put TTB_MODE_STAT_PEND 3 1).put TTB_AGREED 3 0).put TTB_POC_STAT_CYCLE 3 0).put TTB_MODE_STAT_REQ_CYC 3 63 |>.put TTB_MODE_STAT_TARGET 3 7 with ttbSync := [⟨3, 63, 1, some 0x0F⟩, ⟨3, 0, 2, some 0x0F⟩] }, by decide +kernel⟩,
   ⟨3, State.reset.put TTB_AGREED 3 1, by decide +kernel⟩⟩

theorem wit_TtbFrames :
    (∃ (k : Fin 4) (slot : BitVec 11) (b : Nat) (B : Nat) (s : State), (s.get TTB_POC_STAT_STATE k = 5) ∧ (slot.toNat = s.get TTB_KEY_KEY_ID k) ∧ (0 < slot.toNat) ∧ (slot.toNat ≤ s.get TTB_CL_T1_STATIC_SLOTS k) ∧ (s.get TTB_MODE_CTRL_AGREE_EN k = 0) ∧ (b = s.get TTB_KEY_KEY_BUF k) ∧ (B = sbBase + 64 * s.get TTB_BUF_CFG_BASE k + 320 * b) ∧ (s.word B % 2 = 1)) ∧
    (∃ (k : Fin 4) (slot : BitVec 11) (b : Nat) (B : Nat) (m : Nat) (s : State), (s.get TTB_POC_STAT_STATE k = 5) ∧ (slot.toNat = s.get TTB_KEY_KEY_ID k) ∧ (0 < slot.toNat) ∧ (slot.toNat ≤ s.get TTB_CL_T1_STATIC_SLOTS k) ∧ (s.get TTB_MODE_CTRL_AGREE_EN k = 1) ∧ (b = s.get TTB_KEY_KEY_BUF k) ∧ (B = sbBase + 64 * s.get TTB_BUF_CFG_BASE k + 320 * b) ∧ (s.word B % 2 = 1) ∧ (s.get TTB_HELD k = 1) ∧ (s.get TTB_MODE_STAT_PEND k = 0) ∧ (s.get TTB_LAPSE k = 0) ∧ (m = s.get TTB_HELD_MODE k) ∧ (m < 8) ∧ (s.get TTB_MODE_STAT_ACTIVE k < 8) ∧ (m ≠ s.get TTB_MODE_STAT_ACTIVE k) ∧ (s.get TTB_MODE_CTRL_MODE_OFF k < 2 * s.get TTB_CL_T1_STATIC_PLEN k) ∧ (s.get TTB_POC_STAT_CYCLE k < 64)) ∧
    (∃ (k : Fin 4) (slot : BitVec 11) (b : Nat) (B : Nat) (m : Nat) (s : State), (s.get TTB_POC_STAT_STATE k = 5) ∧ (slot.toNat = s.get TTB_KEY_KEY_ID k) ∧ (0 < slot.toNat) ∧ (slot.toNat ≤ s.get TTB_CL_T1_STATIC_SLOTS k) ∧ (s.get TTB_MODE_CTRL_AGREE_EN k = 1) ∧ (b = s.get TTB_KEY_KEY_BUF k) ∧ (B = sbBase + 64 * s.get TTB_BUF_CFG_BASE k + 320 * b) ∧ (s.word B % 2 = 1) ∧ (s.get TTB_HELD k = 1) ∧ (s.get TTB_HELD_WAIT k = 0) ∧ (s.get TTB_MODE_STAT_PEND k = 1) ∧ (s.get TTB_MODE_STAT_REQ_CYC k = s.get TTB_POC_STAT_CYCLE k) ∧ (m = s.get TTB_HELD_MODE k) ∧ (m < 8) ∧ (s.get TTB_MODE_STAT_TARGET k < 8) ∧ (s.get TTB_MODE_STAT_ACTIVE k < 8) ∧ (m ≠ s.get TTB_MODE_STAT_ACTIVE k) ∧ (s.get TTB_MODE_CTRL_MODE_OFF k < 2 * s.get TTB_CL_T1_STATIC_PLEN k) ∧ (s.get TTB_POC_STAT_CYCLE k < 64)) ∧
    (∃ (k : Fin 4) (slot : BitVec 11) (e : Fin 128) (w0 : Nat) (w1 : Nat) (ch : Nat) (B : Nat) (s : State), (s.get TTB_POC_STAT_STATE k = 5) ∧ (0 < slot.toNat) ∧ (slot.toNat ≤ s.get TTB_CL_T1_STATIC_SLOTS k) ∧ (slot.toNat ≠ s.get TTB_KEY_KEY_ID k) ∧ (s.get TTB_SINGLE k = 0) ∧ (SchAt k (s.get TTB_MODE_STAT_ACTIVE k) e w0 w1 s) ∧ (SchElse k (s.get TTB_MODE_STAT_ACTIVE k) [e] s) ∧ (w0 % 2 ^ 11 = slot.toNat) ∧ (w0 / 2 ^ 11 % 2 = 1) ∧ (ch = (w0 / 2 ^ 12 % 4) &&& (if s.get TTB_KEY_CH k = 0 then 3 else s.get TTB_KEY_CH k)) ∧ (ch ≠ 0) ∧ (B = sbBase + 64 * s.get TTB_BUF_CFG_BASE k + 320 * (w1 % 2 ^ 7)) ∧ (s.word B % 2 = 1)) ∧
    (∃ (k : Fin 4) (slot : BitVec 11) (b : Nat) (pay : List Byte) (s : State), (s.get TTB_POC_STAT_STATE k = 5) ∧ (slot.toNat = s.get TTB_KEY_KEY_ID k) ∧ (0 < slot.toNat) ∧ (slot.toNat ≤ s.get TTB_CL_T1_STATIC_SLOTS k) ∧ (b = s.get TTB_KEY_KEY_BUF k) ∧ (s.ttbReads = [⟨k, slot.toNat, b, pay⟩]) ∧ (s.get TTB_KEY_SYNC k = 1) ∧ (s.get TTB_MODE_CTRL_AGREE_EN k = 0) ∧ (s.ttbSync = []) ∧ (s.get TTB_TXEN k = 1) ∧ (s.get TTB_POC_STAT_CYCLE k < 64) ∧ (SbPlain s (64 * s.get TTB_BUF_CFG_BASE k + 320 * b) 32)) ∧
    (∃ (k : Fin 4) (slot : BitVec 11) (s : State), (s.get TTB_POC_STAT_STATE k = 5) ∧ (slot.toNat = s.get TTB_KEY_KEY_ID k) ∧ (0 < slot.toNat) ∧ (slot.toNat ≤ s.get TTB_CL_T1_STATIC_SLOTS k) ∧ ((∀ x ∈ s.ttbReads, x.cluster ≠ k.val)) ∧ (s.get TTB_KEY_SYNC k = 0) ∧ (s.get TTB_POC_STAT_CYCLE k < 64) ∧ (SbPlain s (64 * s.get TTB_BUF_CFG_BASE k + 320 * s.get TTB_KEY_KEY_BUF k) 32)) ∧
    (∃ (k : Fin 4) (slot : BitVec 11) (e : Fin 128) (w0 : Nat) (w1 : Nat) (ch : Nat) (off : Nat) (pay : List Byte) (s : State), (s.get TTB_POC_STAT_STATE k = 5) ∧ (0 < slot.toNat) ∧ (slot.toNat ≤ s.get TTB_CL_T1_STATIC_SLOTS k) ∧ (slot.toNat ≠ s.get TTB_KEY_KEY_ID k) ∧ (s.get TTB_SINGLE k = 0) ∧ (SchAt k (s.get TTB_MODE_STAT_ACTIVE k) e w0 w1 s) ∧ (SchElse k (s.get TTB_MODE_STAT_ACTIVE k) [e] s) ∧ (w0 % 2 ^ 12 = slot.toNat + 2 ^ 11) ∧ (ch = (w0 / 2 ^ 12 % 4) &&& (if s.get TTB_KEY_CH k = 0 then 3 else s.get TTB_KEY_CH k)) ∧ (ch ≠ 0) ∧ (w0 / 2 ^ 20 % 2 ^ 5 = 24) ∧ (s.ttbReads = [⟨k, slot.toNat, w1 % 2 ^ 7, pay⟩]) ∧ (s.get TTB_TXEN k = 1) ∧ (s.get TTB_POC_STAT_CYCLE k < 64) ∧ (off = 64 * s.get TTB_BUF_CFG_BASE k + 320 * (w1 % 2 ^ 7)) ∧ (SbPlain s off 32)) ∧
    (∃ (k : Fin 4) (_slot : BitVec 11) (_ch : Fin 2) (_id : BitVec 11) (_ms : BitVec 13) (s : State), (s.get TTB_POC_STAT_STATE k ≠ 5)) ∧
    (∃ (k : Fin 4) (slot : BitVec 11) (s : State), (s.get TTB_POC_STAT_STATE k = 4) ∧ (s.get TTB_KEY_STARTUP k = 1) ∧ (s.get TTB_COLD k = 1) ∧ (slot.toNat = s.get TTB_KEY_KEY_ID k) ∧ ((s.get TTB_LEAD k = 1 ∨ (s.get TTB_LEAD k = 2 ∧ 4 ≤ s.get TTB_SINCE k)))) ∧
    (∃ (k : Fin 4) (ch : Fin 2) (id : BitVec 11) (_ms : BitVec 13) (e : Fin 128) (w0 : Nat) (w1 : Nat) (m : Nat) (off : Nat) (s : State), (s.get TTB_POC_STAT_STATE k = 5) ∧ (s.get TTB_CL_T1_STATIC_SLOTS k < id.toNat) ∧ (s.get TTB_SINGLE k = 0) ∧ (SchAt k (s.get TTB_MODE_STAT_ACTIVE k) e w0 w1 s) ∧ (SchElse k (s.get TTB_MODE_STAT_ACTIVE k) [e] s) ∧ (w0 % 2 ^ 12 = id.toNat + 2 ^ 11) ∧ (m = (w0 / 2 ^ 12 % 4) &&& (if s.get TTB_KEY_CH k = 0 then 3 else s.get TTB_KEY_CH k)) ∧ (m / 2 ^ ch.val % 2 = 1) ∧ (s.get TTB_DYN (128 * k + e) < 8) ∧ (s.get TTB_DYN (128 * k + e) / 2 ^ ch.val % 2 = 0) ∧ (w0 / 2 ^ 20 % 2 ^ 3 = 0) ∧ (s.get TTB_TXEN k = 1) ∧ (s.get TTB_POC_STAT_CYCLE k < 64) ∧ (off = 64 * s.get TTB_BUF_CFG_BASE k + 320 * (w1 % 2 ^ 7)) ∧ (SbPlain s off 32) ∧ (s.word (sbBase + off) % 2 = 1)) ∧
    (∃ (k : Fin 4) (ch : Fin 2) (_ts : BitVec 40) (f : TtbFrame) (e : Fin 128) (w0 : Nat) (w1 : Nat) (off : Nat) (n : Nat) (s : State), (s.get TTB_POC_STAT_STATE k ∈ [5, 6]) ∧ (f.cycle.toNat = s.get TTB_POC_STAT_CYCLE k) ∧ (f.sync = false) ∧ (SchAt k (s.get TTB_MODE_STAT_ACTIVE k) e w0 w1 s) ∧ (SchElse k (s.get TTB_MODE_STAT_ACTIVE k) [e] s) ∧ (w0 % 2 ^ 12 = f.id.toNat) ∧ (f.id.toNat ≠ 0) ∧ (w0 / 2 ^ 12 % 4 / 2 ^ ch.val % 2 = 1) ∧ ((s.get TTB_KEY_CH k = 0 ∨ s.get TTB_KEY_CH k / 2 ^ ch.val % 2 = 1)) ∧ (w0 / 2 ^ 20 % 2 ^ 3 = 0) ∧ ((∀ x ∈ s.ttbRx, x.cluster ≠ k.val ∨ x.frame.id ≠ f.id)) ∧ (f.null = false) ∧ (n < 128) ∧ (f.payload.length = 2 * n) ∧ (off = 64 * s.get TTB_BUF_CFG_BASE k + 320 * (w1 % 2 ^ 7)) ∧ (SbPlain s off 320)) ∧
    (∃ (k : Fin 4) (_ch : Fin 2) (_ts : BitVec 40) (f : TtbFrame) (e : Fin 128) (w0 : Nat) (w1 : Nat) (off : Nat) (s : State), (s.get TTB_POC_STAT_STATE k ∈ [5, 6]) ∧ (f.cycle.toNat = s.get TTB_POC_STAT_CYCLE k) ∧ (f.sync = false) ∧ (SchAt k (s.get TTB_MODE_STAT_ACTIVE k) e w0 w1 s) ∧ (SchElse k (s.get TTB_MODE_STAT_ACTIVE k) [e] s) ∧ (w0 % 2 ^ 12 = f.id.toNat) ∧ (f.id.toNat ≠ 0) ∧ (w0 / 2 ^ 12 % 4 = 3) ∧ ((s.get TTB_KEY_CH k = 0 ∨ s.get TTB_KEY_CH k = 3)) ∧ (w0 / 2 ^ 20 % 2 ^ 3 = 0) ∧ (f.null = true) ∧ (off = 64 * s.get TTB_BUF_CFG_BASE k + 320 * (w1 % 2 ^ 7)) ∧ (SbPlain s off 32)) ∧
    (∃ (k : Fin 4) (ch : Fin 2) (_ts : BitVec 40) (f : TtbFrame) (b : Byte) (s : State), (s.get TTB_POC_STAT_STATE k ∈ [5, 6]) ∧ ((s.get TTB_KEY_CH k = 0 ∨ s.get TTB_KEY_CH k / 2 ^ ch.val % 2 = 1)) ∧ (f.cycle.toNat = s.get TTB_POC_STAT_CYCLE k) ∧ (f.sync = true) ∧ (f.null = false) ∧ (SchElse k (s.get TTB_MODE_STAT_ACTIVE k) [] s) ∧ (s.get TTB_MODE_CTRL_AGREE_EN k = 1) ∧ (f.payload[s.get TTB_MODE_CTRL_MODE_OFF k]? = some b) ∧ (s.ttbSync = []) ∧ (s.get TTB_MODE_STAT_PEND k = 0) ∧ (s.get TTB_MODE_STAT_ACTIVE k < 8)) ∧
    (∃ (k : Fin 4) (id : BitVec 11) (_se : Bool) (_ce : Bool) (_bo : Bool) (e : Fin 128) (w0 : Nat) (w1 : Nat) (off : Nat) (fa : TtbFrame) (fb : TtbFrame) (s : State), (s.get TTB_POC_STAT_STATE k ∈ [5, 6]) ∧ (SchAt k (s.get TTB_MODE_STAT_ACTIVE k) e w0 w1 s) ∧ (SchElse k (s.get TTB_MODE_STAT_ACTIVE k) [e] s) ∧ (w0 % 2 ^ 12 = id.toNat) ∧ (id.toNat ≠ 0) ∧ (w0 / 2 ^ 12 % 4 = 3) ∧ ((s.get TTB_KEY_CH k = 0 ∨ s.get TTB_KEY_CH k = 3)) ∧ (w0 / 2 ^ 20 % 2 ^ 3 = 0) ∧ (w0 / 2 ^ 24 % 2 = 1) ∧ (s.ttbRx = [⟨k, 0, fa⟩, ⟨k, 1, fb⟩]) ∧ (fa.id = id) ∧ (fb.id = id) ∧ (fa.null = false) ∧ (fb.null = false) ∧ (off = 64 * s.get TTB_BUF_CFG_BASE k + 320 * (w1 % 2 ^ 7)) ∧ (SbPlain s off 32)) ∧
    (∃ (k : Fin 4) (ch : Fin 2) (_ts : BitVec 40) (_f : TtbFrame) (s : State), (s.get TTB_POC_STAT_STATE k = 4) ∧ ((s.get TTB_KEY_CH k = 0 ∨ s.get TTB_KEY_CH k / 2 ^ ch.val % 2 = 1))) :=
  ⟨⟨3, 0x3FF, 127, sbBase + 64 * State.reset.get TTB_BUF_CFG_BASE 3 + 320 * 127, (((((State.reset.put TTB_POC_STAT_STATE 3 5).put TTB_KEY_KEY_ID 3 0x3FF).put TTB_CL_T1_STATIC_SLOTS 3 0x3FF |>.put TTB_MODE_CTRL_AGREE_EN 3 0).put TTB_KEY_KEY_BUF 3 127).putBytes (sbBase + 64 * State.reset.get TTB_BUF_CFG_BASE 3 + 320 * 127) [1]), by decide +kernel⟩,
   ⟨3, 1, 127, sbBase + 64 * State.reset.get TTB_BUF_CFG_BASE 3 + 320 * 127, 7, (((((((((((State.reset.put TTB_POC_STAT_STATE 3 5).put TTB_KEY_KEY_ID 3 1).put TTB_CL_T1_STATIC_SLOTS 3 2).put TTB_MODE_CTRL_AGREE_EN 3 1).put TTB_KEY_KEY_BUF 3 127).put TTB_HELD 3 1).put TTB_MODE_STAT_PEND 3 0).put TTB_LAPSE 3 0).put TTB_HELD_MODE 3 7).put TTB_MODE_STAT_ACTIVE 3 6).put TTB_MODE_CTRL_MODE_OFF 3 3 |>.put TTB_CL_T1_STATIC_PLEN 3 2).putBytes (sbBase + 64 * State.reset.get TTB_BUF_CFG_BASE 3 + 320 * 127) [1], by decide +kernel⟩,
   ⟨3, 1, 127, sbBase + 64 * State.reset.get TTB_BUF_CFG_BASE 3 + 320 * 127, 7, (((((((((((State.reset.put TTB_POC_STAT_STATE 3 5).put TTB_KEY_KEY_ID 3 1).put TTB_CL_T1_STATIC_SLOTS 3 2).put TTB_MODE_CTRL_AGREE_EN 3 1).put TTB_KEY_KEY_BUF 3 127).put TTB_HELD 3 1).put TTB_MODE_STAT_PEND 3 1 |>.put TTB_MODE_STAT_TARGET 3 3 |>.put TTB_MODE_STAT_REQ_CYC 3 63 |>.put TTB_POC_STAT_CYCLE 3 63).put TTB_LAPSE 3 0).put TTB_HELD_MODE 3 7).put TTB_MODE_STAT_ACTIVE 3 6).put TTB_MODE_CTRL_MODE_OFF 3 3 |>.put TTB_CL_T1_STATIC_PLEN 3 2).putBytes (sbBase + 64 * State.reset.get TTB_BUF_CFG_BASE 3 + 320 * 127) [1], by decide +kernel⟩,
   ⟨3, 2, 127, 0x303802, 0x7F, 3, sbBase + 64 * State.reset.get TTB_BUF_CFG_BASE 3 + 320 * 127, (((((((State.reset.put TTB_POC_STAT_STATE 3 5).put TTB_KEY_KEY_ID 3 1).put TTB_CL_T1_STATIC_SLOTS 3 2).put TTB_SINGLE 3 0).put TTB_MODE_STAT_ACTIVE 3 7).put TTB_SCH 8190 0x303802).put TTB_SCH 8191 0x7F).putBytes (sbBase + 64 * State.reset.get TTB_BUF_CFG_BASE 3 + 320 * 127) [1], by decide +kernel⟩,
   ⟨3, 1, 127, [1, 2], { ((((((((State.reset.put TTB_POC_STAT_STATE 3 5).put TTB_KEY_KEY_ID 3 1).put TTB_CL_T1_STATIC_SLOTS 3 2).put TTB_KEY_KEY_BUF 3 127).put TTB_KEY_SYNC 3 1).put TTB_MODE_CTRL_AGREE_EN 3 0).put TTB_TXEN 3 1).put TTB_POC_STAT_CYCLE 3 63).put TTB_BUF_CFG_BASE 3 0 with ttbReads := [⟨3, 1, 127, [1, 2]⟩], ttbSync := [] }, by decide +kernel⟩,
   ⟨3, 2, ((((((State.reset.put TTB_POC_STAT_STATE 3 5).put TTB_KEY_KEY_ID 3 2).put TTB_CL_T1_STATIC_SLOTS 3 2).put TTB_KEY_SYNC 3 0).put TTB_POC_STAT_CYCLE 3 63).put TTB_BUF_CFG_BASE 3 0).put TTB_KEY_KEY_BUF 3 127, by decide +kernel⟩,
   ⟨3, 2, 127, 0x1803802, 0x807F, 3, 320 * 127, [3, 4], { ((((((((State.reset.put TTB_POC_STAT_STATE 3 5).put TTB_KEY_KEY_ID 3 1).put TTB_CL_T1_STATIC_SLOTS 3 2).put TTB_SINGLE 3 0).put TTB_MODE_STAT_ACTIVE 3 7).put TTB_SCH 8190 0x1803802).put TTB_SCH 8191 0x807F).put TTB_TXEN 3 1).put TTB_BUF_CFG_BASE 3 0 with ttbReads := [⟨3, 2, 127, [3, 4]⟩] }, by decide +kernel⟩,
   ⟨3, 1, 1, 2, 3, State.reset.put TTB_POC_STAT_STATE 3 6, by decide +kernel⟩,
   ⟨3, 1, ((((State.reset.put TTB_POC_STAT_STATE 3 4).put TTB_KEY_STARTUP 3 1).put TTB_COLD 3 1).put TTB_KEY_KEY_ID 3 1).put TTB_LEAD 3 2 |>.put TTB_SINCE 3 4, by decide +kernel⟩,
   ⟨3, 1, 0x7FF, 5, 127, 0x3FFF, 0x827F, 3, 320 * 127, ((((((((State.reset.put TTB_POC_STAT_STATE 3 5).put TTB_CL_T1_STATIC_SLOTS 3 2).put TTB_SINGLE 3 0).put TTB_MODE_STAT_ACTIVE 3 7).put TTB_SCH 8190 0x3FFF).put TTB_SCH 8191 0x827F).put TTB_TXEN 3 1).put TTB_BUF_CFG_BASE 3 0).put TTB_CL_T4_LATEST_TX 3 5 |>.putBytes (sbBase + 320 * 127) [1], by decide +kernel⟩,
   ⟨3, 1, 0xFFFFFFFFFF, ⟨2, 63, false, false, true, true, [1, 2]⟩, 127, 0x2002, 0x7F, 320 * 127, 1, ((((((State.reset.put TTB_POC_STAT_STATE 3 6).put TTB_POC_STAT_CYCLE 3 63).put TTB_MODE_STAT_ACTIVE 3 7).put TTB_SCH 8190 0x2002).put TTB_SCH 8191 0x7F).put TTB_BUF_CFG_BASE 3 0), by decide +kernel⟩,
   ⟨3, 1, 0xFFFFFFFFFF, ⟨2, 63, true, false, true, true, []⟩, 127, 0x3002, 0x7F, 320 * 127, ((((((State.reset.put TTB_POC_STAT_STATE 3 6).put TTB_POC_STAT_CYCLE 3 63).put TTB_MODE_STAT_ACTIVE 3 7).put TTB_SCH 8190 0x3002).put TTB_SCH 8191 0x7F).put TTB_BUF_CFG_BASE 3 0), by decide +kernel⟩,
   ⟨3, 1, 5, ⟨2, 63, false, true, true, true, [0x0F, 2]⟩, 0x0F, { (((((State.reset.put TTB_POC_STAT_STATE 3 6).put TTB_POC_STAT_CYCLE 3 63).put TTB_MODE_STAT_ACTIVE 3 6).put TTB_MODE_CTRL_AGREE_EN 3 1).put TTB_MODE_CTRL_MODE_OFF 3 0).put TTB_MODE_STAT_PEND 3 0 with ttbSync := [] }, by decide +kernel⟩,
   ⟨3, 2, true, false, true, 127, 0x1003002, 0x7F, 320 * 127, ⟨2, 63, false, false, true, true, [1, 2]⟩, ⟨2, 63, false, false, true, true, [1, 3]⟩, { (((((State.reset.put TTB_POC_STAT_STATE 3 6).put TTB_POC_STAT_CYCLE 3 63).put TTB_MODE_STAT_ACTIVE 3 7).put TTB_SCH 8190 0x1003002).put TTB_SCH 8191 0x7F).put TTB_BUF_CFG_BASE 3 0 with ttbRx := [⟨3, 0, ⟨2, 63, false, false, true, true, [1, 2]⟩⟩, ⟨3, 1, ⟨2, 63, false, false, true, true, [1, 3]⟩⟩] }, by decide +kernel⟩,
   ⟨3, 1, 5, ⟨2, 63, false, true, true, true, [0x0F, 2]⟩, State.reset.put TTB_POC_STAT_STATE 3 4, by decide +kernel⟩⟩

theorem wit_FieldIo :
    (∃ (c : Fin 48) (s : State), (s.get FIO_STAT_ISL_UP 0 = 1) ∧ (c.val < 32) ∧ (s.bit FIO_CPL_IN 0 c = false)) ∧
    (∃ (j : Fin 16) (s : State), (s.get FIO_STAT_ISL_UP 0 = 1) ∧ (s.bit FIO_CPL_OUT 0 j = false) ∧ (s.get FIO_GATE 0 = 0) ∧ (s.bit FIO_OUT_FLT_SAFE 0 j = false) ∧ (s.bit FIO_NEWUP 0 j = false) ∧ (s.bit FIO_OUT_FLT_SHORT 0 j = false)) ∧
    (∃ (c : Fin 48) (s : State), ((s.get FIO_STAT_ISL_UP 0 = 0 ∨ (c.val < 32 ∧ s.bit FIO_CPL_IN 0 c = true) ∨ (32 ≤ c.val ∧ s.bit FIO_CPL_OUT 0 (c - 32) = true)))) ∧
    (∃ (c : Fin 48) (s : State), ((if c.val < 32 then s.bit FIO_CPL_IN 0 c else s.bit FIO_CPL_OUT 0 (c - 32)) = true)) ∧
    (∃ (c : Fin 48) (s : State), ((if c.val < 32 then s.bit FIO_CPL_IN 0 c else s.bit FIO_CPL_OUT 0 (c - 32)) = false)) ∧
    (∃ (s : State), (s.get FIO_STAT_ISL_UP 0 = 1)) ∧
    (∃ (s : State), (s.get FIO_STAT_ISL_UP 0 = 0)) ∧
    (∃ (s : State), (s.get FIO_STAT_ISL_UP 0 = 1)) ∧
    (∃ (mv : List (BitVec 16)) (_ua : List (BitVec 16)) (i : Fin 32) (hi : Nat) (lo : Nat) (r : Bool) (f : Bool) (s : State), (s.get FIO_CTRL_EN 0 = 1) ∧ (s.reached (s.get FIO_CTRL_DOM 0) ((s.get FIO_WINDOW 0 + 5120000) % 2 ^ 40) = true) ∧ (s.get FIO_STAT_ISL_UP 0 = 1) ∧ (s.bit FIO_CPL_IN 0 i = false) ∧ ((hi, lo) = (if s.get FIO_IN_CFG_TYPE i = 0 then (11000, 9000) else (8500, 7000))) ∧ (r = (if hi < (mv.getD i 0).toNat then true else if (mv.getD i 0).toNat < lo then false else s.bit FIO_RAW 0 i)) ∧ (f = (if max 1 (s.get FIO_IN_CFG_FILT_N i) ≤ s.get FIO_AGREE i + 1 then r else s.bit FIO_FILT 0 i)) ∧ (s.get FIO_IN_CFG_WB_EN i = 0)) ∧
    (∃ (_mv : List (BitVec 16)) (ua : List (BitVec 16)) (i : Fin 32) (n : Nat) (b : Nat) (g : Nat) (s : State), (s.get FIO_CTRL_EN 0 = 1) ∧ (s.reached (s.get FIO_CTRL_DOM 0) ((s.get FIO_WINDOW 0 + 5120000) % 2 ^ 40) = true) ∧ (s.get FIO_STAT_ISL_UP 0 = 1) ∧ (s.bit FIO_CPL_IN 0 i = false) ∧ (s.get FIO_IN_CFG_WB_EN i = 1) ∧ (n = max 1 (s.get FIO_IN_CFG_WB_N i)) ∧ (b = (if (ua.getD i 0).toNat < 800 then min 15 (s.get FIO_BREAKS i + 1) else 0)) ∧ (g = (if (ua.getD i 0).toNat < 800 then 0 else min 15 (s.get FIO_GOODS i + 1)))) ∧
    (∃ (_mv : List (BitVec 16)) (_ua : List (BitVec 16)) (i : Fin 32) (s : State), (s.get FIO_CTRL_EN 0 = 1) ∧ (s.reached (s.get FIO_CTRL_DOM 0) ((s.get FIO_WINDOW 0 + 5120000) % 2 ^ 40) = true) ∧ ((s.get FIO_STAT_ISL_UP 0 = 0 ∨ s.bit FIO_CPL_IN 0 i = true))) ∧
    (∃ (_mv : List (BitVec 16)) (_ua : List (BitVec 16)) (s : State), ((s.get FIO_CTRL_EN 0 = 0 ∨ s.reached (s.get FIO_CTRL_DOM 0) ((s.get FIO_WINDOW 0 + 5120000) % 2 ^ 40) = false))) ∧
    (∃ (q : Requester) (_v : BitVec 16) (_j : Fin 16) (s : State), (s.permit q .registers 0x40C00040 true = .yes)) ∧
    (∃ (n : Nat) (_j : Fin 16) (_i : Fin 600) (s : State), (n = s.get FIO_BND_N 0) ∧ (0 < n) ∧ (n ≤ 512) ∧ (s.reached (s.get LIM_CYC_CTRL_DOM 0) ((s.get FIO_BND 0 + s.get FIO_OUT_OFFS_OFFSET 0 * 320) % 2 ^ 40) = true)) ∧
    (∃ (s : State), ((s.get FIO_BND_N 0 = 0 ∨ s.reached (s.get LIM_CYC_CTRL_DOM 0) ((s.get FIO_BND 0 + s.get FIO_OUT_OFFS_OFFSET 0 * 320) % 2 ^ 40) = false))) ∧
    (∃ (j : Fin 16) (us : BitVec 16) (hot : Bool) (s : State), (s.bit FIO_STAGE 0 j = true) ∧ ((hot = true ∨ min 1000 (max 10 (s.get FIO_OUT_CFG_SC_US j)) ≤ us.toNat))) ∧
    (∃ (j : Fin 16) (s : State), (s.bit FIO_OUT_FLT_SHORT 0 j = true) ∧ (s.get FIO_OUT_CFG_RETRY_MS j ≠ 0) ∧ (s.get FIO_OUT_CFG_RETRY_MS j * 800000 ≤ s.get CORE_COUNT 0 - s.get FIO_SHORT_AT j) ∧ (s.bit FIO_OUT_FLT_SAFE 0 j = false) ∧ (s.get FIO_GATE 0 = 0)) ∧
    (∃ (j : Fin 16) (s : State), ((s.bit FIO_OUT_FLT_SHORT 0 j = false ∨ s.get FIO_OUT_CFG_RETRY_MS j = 0 ∨ s.get CORE_COUNT 0 - s.get FIO_SHORT_AT j < s.get FIO_OUT_CFG_RETRY_MS j * 800000))) ∧
    (∃ (q : Requester) (_m : BitVec 16) (_j : Fin 16) (s : State), (s.permit q .registers 0x40C00048 true = .yes)) ∧
    (∃ (j : Fin 16) (s : State), (s.bit FIO_STAGE 0 j = true)) ∧
    (∃ (s : State), (s.get FIO_WDOG_N 0 ≠ 0) ∧ (s.get FIO_WDOG_N 0 ≤ s.get FIO_WD_COUNT 0) ∧ (s.get FIO_WD_OUT 0 = 0)) ∧
    (∃ (s : State), ((s.get FIO_WDOG_N 0 = 0 ∨ s.get FIO_WD_COUNT 0 < s.get FIO_WDOG_N 0))) ∧
    (∃ (q : Requester) (s : State), (s.permit q .registers 0x40C0000C true = .yes)) ∧
    (∃ (q : Requester) (_v : Word) (s : State), (s.permit q .registers 0x40C00000 true = .yes) ∧ (s.get FIO_CTRL_LOCK 0 = 0) ∧ (s.get FIO_CTRL_EN 0 < 2)) ∧
    (∃ (q : Requester) (_m : BitVec 16) (_j : Fin 16) (s : State), (s.permit q .registers 0x40C00048 true = .yes)) :=
  ⟨⟨31, (State.reset.put FIO_STAT_ISL_UP 0 1).put FIO_CPL_IN 0 0x7FFFFFFF, by decide +kernel⟩,
   ⟨15, ((((((State.reset.put FIO_STAT_ISL_UP 0 1).put FIO_CPL_OUT 0 0x7FFF).put FIO_GATE 0 0).put FIO_OUT_FLT_SAFE 0 0x7FFF).put FIO_NEWUP 0 0x7FFF).put FIO_OUT_FLT_SHORT 0 0x7FFF).put FIO_STAGE 0 0x8000 |>.put FIO_OUT_CFG_SAFE 15 2, by decide +kernel⟩,
   ⟨47, State.reset.put FIO_STAT_ISL_UP 0 0, by decide +kernel⟩,
   ⟨47, State.reset.put FIO_CPL_OUT 0 0x8000, by decide +kernel⟩,
   ⟨47, State.reset.put FIO_CPL_OUT 0 0x7FFF, by decide +kernel⟩,
   ⟨State.reset.put FIO_STAT_ISL_UP 0 1, by decide +kernel⟩,
   ⟨State.reset.put FIO_STAT_ISL_UP 0 0, by decide +kernel⟩,
   ⟨State.reset.put FIO_STAT_ISL_UP 0 1, by decide +kernel⟩,
   ⟨[8501], [], 0, 8500, 7000, true, true, (((((((State.reset.put FIO_CTRL_EN 0 1).put FIO_CTRL_DOM 0 0).put FIO_WINDOW 0 0).put TMB_CTR 0 (5120000 * 2 ^ 32)).put FIO_STAT_ISL_UP 0 1).put FIO_CPL_IN 0 0).put FIO_IN_CFG_FILT_N 0 2).put FIO_AGREE 0 1 |>.put FIO_IN_CFG_WB_EN 0 0 |>.put FIO_IN_CFG_TYPE 0 1, by decide +kernel⟩,
   ⟨[], [799], 0, 3, 3, 0, (((((((State.reset.put FIO_CTRL_EN 0 1).put FIO_CTRL_DOM 0 0).put FIO_WINDOW 0 0).put TMB_CTR 0 (5120000 * 2 ^ 32)).put FIO_STAT_ISL_UP 0 1).put FIO_CPL_IN 0 0).put FIO_IN_CFG_WB_N 0 3).put FIO_BREAKS 0 2 |>.put FIO_IN_CFG_WB_EN 0 1, by decide +kernel⟩,
   ⟨[24000], [], 31, ((((State.reset.put FIO_CTRL_EN 0 1).put FIO_CTRL_DOM 0 0).put FIO_WINDOW 0 0).put TMB_CTR 0 (5120000 * 2 ^ 32)).put FIO_CPL_IN 0 0xFFFFFFFF, by decide +kernel⟩,
   ⟨[], [], State.reset.put FIO_CTRL_EN 0 0, by decide +kernel⟩,
   ⟨.cc, 0x8000, 15, State.reset, by decide +kernel⟩,
   ⟨2, 15, 0, ((((State.reset.put FIO_BND_N 0 2).put FIO_OUT_OFFS_OFFSET 0 0).put FIO_BND 0 0).put LIM_CYC_CTRL_DOM 0 0).put TMB_CTR 0 0, by decide +kernel⟩,
   ⟨State.reset.put FIO_BND_N 0 0, by decide +kernel⟩,
   ⟨15, 1000, false, State.reset.put FIO_STAGE 0 0x8000, by decide +kernel⟩,
   ⟨15, ((((((State.reset.put FIO_OUT_FLT_SHORT 0 0xFFFF).put FIO_OUT_CFG_RETRY_MS 15 1).put FIO_SHORT_AT 15 7).put CORE_COUNT 0 800007).put FIO_OUT_FLT_SAFE 0 0).put FIO_GATE 0 0).put FIO_SENT 0 0x8000, by decide +kernel⟩,
   ⟨15, State.reset.put FIO_OUT_CFG_RETRY_MS 15 0, by decide +kernel⟩,
   ⟨.cc, 0x8000, 15, State.reset, by decide +kernel⟩,
   ⟨15, State.reset.put FIO_STAGE 0 0x8000, by decide +kernel⟩,
   ⟨((State.reset.put FIO_WDOG_N 0 255).put FIO_WD_COUNT 0 255).put FIO_WD_OUT 0 0, by decide +kernel⟩,
   ⟨(State.reset.put FIO_WDOG_N 0 2).put FIO_WD_COUNT 0 1, by decide +kernel⟩,
   ⟨.cc, State.reset, by decide +kernel⟩,
   ⟨.cc, 0x80003F01, (State.reset.put FIO_CTRL_LOCK 0 0).put FIO_CTRL_EN 0 0, by decide +kernel⟩,
   ⟨.cc, 0xFFFF, 15, (((((State.reset.put FIO_STAT_ISL_UP 0 1).put FIO_CPL_OUT 0 0).put FIO_WD_OUT 0 0).put FIO_CTRL_EN 0 1).put FIO_HELD_OUT 0 0).put FIO_OUT_FLT_SAFE 0 0xFFFF, by decide +kernel⟩⟩

theorem wit_MarkCapture :
    (∃ (i : Fin 16) (_ts : BitVec 40) (rise : Bool) (held : BitVec 16) (s : State), (s.get MKC_IN_CFG_EDGE i / (if rise then 1 else 2) % 2 = 1) ∧ (s.get MKC_IN_CFG_GLITCH i ≤ held.toNat) ∧ ((∀ k : Nat, k < 12 → s.get MKC_SEQ_STAT_STATE k = 0 ∧ s.get MKC_SEQ_CFG_EN k = 0))) ∧
    (∃ (i : Fin 16) (_ts : BitVec 40) (rise : Bool) (held : BitVec 16) (s : State), ((s.get MKC_IN_CFG_EDGE i / (if rise then 1 else 2) % 2 = 0 ∨ held.toNat < s.get MKC_IN_CFG_GLITCH i))) ∧
    (∃ (i : Fin 16) (k : Fin 8) (ts : BitVec 40) (rise : Bool) (held : BitVec 16) (g : Nat) (slot : Nat) (s : State), (s.get MKC_IN_CFG_EDGE i / (if rise then 1 else 2) % 2 = 1) ∧ (s.get MKC_IN_CFG_GLITCH i ≤ held.toNat) ∧ ((∀ j : Nat, j < 12 → j ≠ k → s.get MKC_SEQ_STAT_STATE j = 0 ∧ s.get MKC_SEQ_CFG_EN j = 0)) ∧ (s.get MKC_SEQ_STAT_STATE k ≠ 0) ∧ (s.get MKC_SEQ_CFG_TRIG k ≠ 2) ∧ (s.bit MKC_SEQ_CFG_MASK k i = true) ∧ (s.get SEQ_ENTRIES k = 0) ∧ (SlotOf k slot s) ∧ (SbPlain s (slot + 32) 8) ∧ (g = (ts.toNat + 2 ^ 40 - s.get SEQ_START k % 2 ^ 40) % 2 ^ 40) ∧ (g < 2 ^ 39) ∧ ((s.get MKC_SEQ_LEN_VALUE k = 0 ∨ g < s.get MKC_SEQ_LEN_VALUE k * 320))) ∧
    (∃ (i : Fin 16) (k : Fin 12) (_ts : BitVec 40) (rise : Bool) (held : BitVec 16) (s : State), (s.get MKC_IN_CFG_EDGE i / (if rise then 1 else 2) % 2 = 1) ∧ (s.get MKC_IN_CFG_GLITCH i ≤ held.toNat) ∧ ((∀ j : Nat, j < 12 → s.get MKC_SEQ_STAT_STATE j = 0 ∧ (j ≠ k → s.get MKC_SEQ_CFG_EN j = 0))) ∧ (s.get MKC_SEQ_CFG_EN k = 1) ∧ (s.get MKC_SEQ_CFG_TRIG k = 2) ∧ (s.get MKC_SEQ_CFG_TSEL k = i) ∧ (s.bit MKC_SEQ_CFG_MASK k i = false) ∧ (s.get MKC_SEQ_PTR_COUNT k < 2 ^ min 8 (max 2 (s.get MKC_SEQ_RING_LOG2 k)))) ∧
    (∃ (q : Requester) (k : Fin 12) (ts : Nat) (s : State), (s.permit q .registers (0x40C09000 + 0x100 * k) true = .yes) ∧ (s.get MKC_SEQ_CFG_EN k = 1) ∧ (s.get MKC_SEQ_CFG_TRIG k = 1) ∧ (ts = s.now (s.get MKC_CTRL_DOM 0)) ∧ (ts < 2 ^ 40) ∧ (s.get MKC_SEQ_STAT_STATE k = 0) ∧ (s.get MKC_LOG_PTR_COUNT k ≤ 16)) ∧
    (∃ (q : Requester) (k : Fin 12) (ts : Nat) (s : State), (s.permit q .registers (0x40C09000 + 0x100 * k) true = .yes) ∧ (s.get MKC_SEQ_CFG_EN k = 1) ∧ (s.get MKC_SEQ_CFG_TRIG k = 1) ∧ (ts = s.now (s.get MKC_CTRL_DOM 0)) ∧ (ts < 2 ^ 40) ∧ (s.get MKC_SEQ_STAT_STATE k ≠ 0) ∧ (s.get MKC_LOG_PTR_COUNT k ≤ 16) ∧ (s.get MKC_SEQ_CFG_POLICY k ≠ 2) ∧ (s.get MKC_SEQ_STAT_PEND k < 2)) ∧
    (∃ (q : Requester) (k : Fin 12) (ts : Nat) (slot : Nat) (s : State), (s.permit q .registers (0x40C09000 + 0x100 * k) true = .yes) ∧ (s.get MKC_SEQ_CFG_EN k = 1) ∧ (s.get MKC_SEQ_CFG_TRIG k = 1) ∧ (ts = s.now (s.get MKC_CTRL_DOM 0)) ∧ (ts < 2 ^ 40) ∧ (s.get MKC_SEQ_STAT_STATE k ≠ 0) ∧ (s.get MKC_LOG_PTR_COUNT k ≤ 16) ∧ (s.get MKC_SEQ_CFG_POLICY k = 2) ∧ (s.get MKC_SEQ_PTR_COUNT k + 1 < 2 ^ min 8 (max 2 (s.get MKC_SEQ_RING_LOG2 k))) ∧ (SlotOf k slot s) ∧ (SbPlain s slot 32) ∧ (s.get SEQ_ENTRIES k < 2 ^ 16) ∧ (s.get SEQ_LATE k < 2)) ∧
    (∃ (k : Fin 12) (n : Nat) (slot : Nat) (stop' : Nat) (s : State), (k.val < 8) ∧ (s.get MKC_SEQ_STAT_STATE k = 2) ∧ (n = s.get SEQ_ENTRIES k) ∧ (n < 2 ^ 12) ∧ ((max 1 (s.get MKC_SEQ_N_MAXN k) ≤ n ∨ (0 < s.get MKC_SEQ_LEN_VALUE k ∧ s.reached (s.get MKC_CTRL_DOM 0) ((s.get SEQ_START k + s.get MKC_SEQ_LEN_VALUE k * 320) % 2 ^ 40) = true))) ∧ (stop' = (if max 1 (s.get MKC_SEQ_N_MAXN k) ≤ n then s.get SEQ_END k else (s.get SEQ_START k + s.get MKC_SEQ_LEN_VALUE k * 320) % 2 ^ 40)) ∧ (s.get SEQ_LATE k < 2) ∧ (s.get SEQ_OVR k < 2) ∧ (SlotOf k slot s) ∧ (SbPlain s slot 32) ∧ (s.get MKC_SEQ_PTR_COUNT k < 2 ^ 9 - 1)) ∧
    (∃ (k : Fin 12) (s : State), (s.get MKC_SEQ_STAT_STATE k ≠ 1) ∧ ((s.get MKC_SEQ_STAT_STATE k ≠ 2 ∨ (k.val < 8 ∧ s.get SEQ_ENTRIES k < max 1 (s.get MKC_SEQ_N_MAXN k) ∧ s.get MKC_SEQ_LEN_VALUE k = 0)))) ∧
    (∃ (q : Requester) (k : Fin 12) (_n : BitVec 9) (s : State), (s.permit q .registers (0x40C09018 + 0x100 * k) true = .yes)) ∧
    (∃ (q : Requester) (k : Fin 12) (_n : BitVec 9) (s : State), (s.permit q .registers (0x40C0902C + 0x100 * k) true = .yes)) ∧
    (∃ (q : Requester) (k : Fin 12) (v : Word) (s : State), (s.permit q .registers (0x40C09000 + 0x100 * k) true = .yes) ∧ (s.get MKC_SEQ_CFG_EN k = 0) ∧ (v.toNat / 2 ^ 9 % 2 ^ 3 = 1)) ∧
    (∃ (q : Requester) (k : Fin 12) (v : Word) (s : State), (s.permit q .registers (0x40C09000 + 0x100 * k) true = .yes) ∧ (s.get MKC_SEQ_CFG_EN k = 1) ∧ (v.toNat / 2 ^ 9 % 2 ^ 3 = 0) ∧ (s.get MKC_SEQ_STAT_STATE k = 0) ∧ (s.get MKC_SEQ_STAT_PEND k = 1)) ∧
    (∃ (q : Requester) (k : Fin 12) (slot : Nat) (s : State), (s.permit q .registers (0x40C09000 + 0x100 * k) true = .yes) ∧ (s.get MKC_SEQ_CFG_EN k = 1) ∧ (s.get MKC_SEQ_STAT_STATE k ≠ 0) ∧ (SlotOf k slot s) ∧ (SbPlain s slot 32) ∧ (s.get SEQ_ENTRIES k < 2 ^ 16) ∧ (s.get MKC_SEQ_PTR_COUNT k < 2 ^ 9 - 1)) ∧
    (∃ (_ts : BitVec 40) (_codes : List (BitVec 14)) (s : State), (s.get MKC_CTRL_ADC_EN 0 = 1) ∧ ((∀ k : Nat, k < 12 → s.get MKC_SEQ_STAT_STATE k = 0))) ∧
    (∃ (ts : BitVec 40) (_codes : List (BitVec 14)) (k : Fin 12) (s : State), (s.get MKC_CTRL_ADC_EN 0 = 1) ∧ (8 ≤ k.val) ∧ ((∀ j : Nat, j < 12 → j ≠ k → s.get MKC_SEQ_STAT_STATE j = 0)) ∧ (s.get MKC_SEQ_STAT_STATE k = 2) ∧ ((ts.toNat + 2 ^ 40 - s.get SEQ_START k % 2 ^ 40) % 2 ^ 40 < 2 ^ 39) ∧ (s.get SEQ_TAKEN k < max 1 (s.get MKC_SEQ_N_MAXN k)) ∧ ((s.get SEQ_TAKEN k = 0 ∨ max 1 (s.get MKC_SEQ_N_DIV k) ≤ s.get SEQ_EDGES k + 1)) ∧ (s.get SEQ_TAKEN k < 2 ^ 12)) ∧
    (∃ (_ts : BitVec 40) (_codes : List (BitVec 14)) (s : State), (s.get MKC_CTRL_ADC_EN 0 = 0)) ∧
    (∃ (x : AdcSample) (rest : List AdcSample) (c : Fin 8) (v : Nat) (s : State), (s.adc = x :: rest) ∧ (x.seqs = []) ∧ (400 ≤ s.get CORE_COUNT 0 - x.cycle) ∧ (v = x.codes.getD c 0 % 2 ^ 14) ∧ ((∀ k : Nat, k < 12 → s.get MKC_SEQ_CFG_TRIG k ≠ 3))) ∧
    (∃ (x : AdcSample) (k : Fin 12) (slot : Nat) (n : Nat) (s : State), (s.adc = [x]) ∧ (x.seqs = [k.val]) ∧ (400 ≤ s.get CORE_COUNT 0 - x.cycle) ∧ ((∀ d : Nat, d < 8 → s.get MKC_ADC_THR_CROSS_EN d = 0)) ∧ (n = s.get SEQ_ENTRIES k) ∧ (n < 2 ^ 15) ∧ (s.get MKC_SEQ_CFG_MASK k % 2 ^ 8 = 0x81) ∧ (SlotOf k slot s) ∧ (SbPlain s (slot + 32 + 2 * n) 4) ∧ (s.get SEQ_WRITTEN k < 2 ^ 12)) ∧
    (∃ (s : State), ((∀ x ∈ s.adc.head?, s.get CORE_COUNT 0 - x.cycle < 400))) :=
  ⟨⟨15, 0xFFFFFFFFFF, false, 0xFFFF, State.reset.put MKC_IN_CFG_EDGE 15 2, by decide +kernel⟩,
   ⟨15, 0xFFFFFFFFFF, false, 0xFFFF, State.reset.put MKC_IN_CFG_EDGE 15 1, by decide +kernel⟩,
   ⟨15, 7, 1000, true, 0xFFFF, 1000, 0, (((((((State.reset.put MKC_IN_CFG_EDGE 15 1).put MKC_SEQ_STAT_STATE 7 2).put MKC_SEQ_CFG_TRIG 7 1).put MKC_SEQ_CFG_MASK 7 0x8000).put SEQ_ENTRIES 7 0).put SEQ_START 7 0).put MKC_SEQ_LEN_VALUE 7 4).put MKC_SEQ_RING_BASE 7 0, by decide +kernel⟩,
   ⟨15, 11, 0xFFFFFFFFFF, true, 0xFFFF, (((((((State.reset.put MKC_IN_CFG_EDGE 15 3).put MKC_SEQ_CFG_EN 11 1).put MKC_SEQ_CFG_TRIG 11 2).put MKC_SEQ_CFG_TSEL 11 15).put MKC_SEQ_CFG_MASK 11 0xFF).put MKC_SEQ_PTR_COUNT 11 3).put MKC_SEQ_RING_LOG2 11 0).put MKC_SEQ_STAT_STATE 11 0, by decide +kernel⟩,
   ⟨.cc, 11, 5, ((((((State.reset.put MKC_SEQ_CFG_EN 11 1).put MKC_SEQ_CFG_TRIG 11 1).put TMB_CTR 0 (5 * 2 ^ 32)).put MKC_CTRL_DOM 0 0).put MKC_SEQ_STAT_STATE 11 0).put MKC_SEQ_PTR_COUNT 11 4).put MKC_LOG_PTR_COUNT 11 16 |>.put MKC_SEQ_RING_LOG2 11 0, by decide +kernel⟩,
   ⟨.cc, 11, 5, ((((((State.reset.put MKC_SEQ_CFG_EN 11 1).put MKC_SEQ_CFG_TRIG 11 1).put TMB_CTR 0 (5 * 2 ^ 32)).put MKC_CTRL_DOM 0 0).put MKC_SEQ_STAT_STATE 11 2).put MKC_SEQ_CFG_POLICY 11 0).put MKC_LOG_PTR_COUNT 11 3, by decide +kernel⟩,
   ⟨.cc, 11, 5, 0, ((((((State.reset.put MKC_SEQ_CFG_EN 11 1).put MKC_SEQ_CFG_TRIG 11 1).put TMB_CTR 0 (5 * 2 ^ 32)).put MKC_CTRL_DOM 0 0).put MKC_SEQ_STAT_STATE 11 2).put MKC_SEQ_CFG_POLICY 11 2).put MKC_LOG_PTR_COUNT 11 3 |>.put MKC_SEQ_PTR_COUNT 11 0 |>.put MKC_SEQ_PTR_HEAD 11 0 |>.put MKC_SEQ_RING_BASE 11 0, by decide +kernel⟩,
   ⟨7, 1, 0, 99, ((((((State.reset.put MKC_SEQ_STAT_STATE 7 2).put SEQ_ENTRIES 7 1).put MKC_SEQ_N_MAXN 7 0).put SEQ_END 7 99).put MKC_SEQ_RING_BASE 7 0).put MKC_SEQ_PTR_COUNT 7 0).put MKC_SEQ_PTR_HEAD 7 0 |>.put MKC_SEQ_STAT_PEND 7 1, by decide +kernel⟩,
   ⟨11, State.reset, by decide +kernel⟩,
   ⟨.cc, 11, 256, State.reset.put MKC_SEQ_PTR_COUNT 11 256, by decide +kernel⟩,
   ⟨.cc, 11, 16, State.reset.put MKC_LOG_PTR_COUNT 11 16, by decide +kernel⟩,
   ⟨.cc, 11, 0x81020B, (((((((State.reset.put MKC_SEQ_CFG_EN 11 0).put MKC_CTRL_ADC_EN 0 1).put MKC_SEQ_RING_BASE 11 0).put MKC_SEQ_RING_SLOT_K 11 1).put MKC_SEQ_N_MAXN 11 56).put SBD_RSV_SIZE 3 1).put SBD_RSV_BASE 3 0).put MKC_SEQ_RING_LOG2 11 8, by decide +kernel⟩,
   ⟨.cc, 11, 0, ((State.reset.put MKC_SEQ_CFG_EN 11 1).put MKC_SEQ_STAT_STATE 11 0).put MKC_SEQ_STAT_PEND 11 1, by decide +kernel⟩,
   ⟨.cc, 11, 0, ((((State.reset.put MKC_SEQ_CFG_EN 11 1).put MKC_SEQ_STAT_STATE 11 1).put MKC_SEQ_RING_BASE 11 0).put MKC_SEQ_PTR_HEAD 11 0).put MKC_SEQ_PTR_COUNT 11 0, by decide +kernel⟩,
   ⟨5, [1, 2], State.reset.put MKC_CTRL_ADC_EN 0 1, by decide +kernel⟩,
   ⟨5, [1, 2], 11, ((((State.reset.put MKC_CTRL_ADC_EN 0 1).put MKC_SEQ_STAT_STATE 11 2).put SEQ_START 11 5).put SEQ_TAKEN 11 0).put MKC_SEQ_N_MAXN 11 0, by decide +kernel⟩,
   ⟨5, [1, 2], State.reset.put MKC_CTRL_ADC_EN 0 0, by decide +kernel⟩,
   ⟨⟨7, 0, [0x3FFF], []⟩, [], 0, 0x3FFF, { ((((State.reset.put CORE_COUNT 0 400).put ADC_LOW 0 1).put MKC_ADC_THR_THR 0 0x3FFF).put MKC_ADC_THR_CROSS_EN 0 1) with adc := [⟨7, 0, [0x3FFF], []⟩] }, by decide +kernel⟩,
   ⟨⟨7, 0, [0x3FFF, 1, 2, 3, 4, 5, 6, 7], [11]⟩, 11, 0, 0, { (((((State.reset.put CORE_COUNT 0 400).put SEQ_ENTRIES 11 0).put MKC_SEQ_CFG_MASK 11 0xFF81).put MKC_SEQ_RING_BASE 11 0).put MKC_SEQ_PTR_COUNT 11 0).put MKC_SEQ_PTR_HEAD 11 0 with adc := [⟨7, 0, [0x3FFF, 1, 2, 3, 4, 5, 6, 7], [11]⟩] }, by decide +kernel⟩,
   ⟨{ State.reset.put CORE_COUNT 0 399 with adc := [⟨7, 0, [], []⟩] }, by decide +kernel⟩⟩

theorem wit_EventMatrix :
    (∃ (q : Requester) (src : Fin 4096) (_v : BitVec 64) (_s : State), ((q = .cc ∨ (q = .pf ∧ 256 ≤ src.val)))) ∧
    (∃ (q : Requester) (src : Fin 4096) (_v : BitVec 64) (_s : State), (q ≠ .cc) ∧ ((q = .pf → src.val < 256))) ∧
    (∃ (e : Raised) (rest : List Raised) (n : Fin 32) (s : State), (s.get FATAL_PATH 0 = 0) ∧ (s.events = e :: rest) ∧ (e.cycle + 2 ≤ s.get CORE_COUNT 0) ∧ (e.routeA.kind = 1) ∧ (e.routeA.course = n.val) ∧ (e.routeA.input < 56) ∧ (e.routeA.log = 31) ∧ (e.routeB.kind = 0) ∧ (e.routeB.log = 31)) ∧
    (∃ (e : Raised) (rest : List Raised) (i : Fin 64) (s : State), (s.get FATAL_PATH 0 = 0) ∧ (s.events = e :: rest) ∧ (e.cycle + 2 ≤ s.get CORE_COUNT 0) ∧ (e.routeA.kind = 3) ∧ (e.routeA.log < 16) ∧ (e.routeB.kind = 2) ∧ (e.routeB.input = i.val) ∧ (e.routeB.log = e.routeA.log) ∧ (s.logRecs = []) ∧ (s.get INPUT_AT (2048 + i) ≠ e.cycle + 1) ∧ (s.bit CC_PEND 0 i = false)) ∧
    (∃ (s : State), ((s.get FATAL_PATH 0 ≠ 0 ∨ ∀ e ∈ s.events.head?, s.get CORE_COUNT 0 < e.cycle + 2))) ∧
    (∃ (v : Fin 2048) (f : Fin 16) (s : State), (VecOf v f s) ∧ (s.get VEC_DUE v ≠ 0)) ∧
    (∃ (v : Fin 2048) (f : Fin 16) (s : State), (VecOf v f s) ∧ (s.get VEC_PEND v = 1) ∧ (s.get MSIX_FMASK f = 0) ∧ (s.get MSIX_EN f = 1)) ∧
    (∃ (v : Fin 2048) (f : Fin 16) (s : State), (VecOf v f s) ∧ ((s.get VEC_PEND v = 0 ∨ s.get MSIX_FMASK f = 1))) ∧
    (∃ (v : Fin 2048) (f : Fin 16) (s : State), (VecOf v f s) ∧ (s.listed VEC_PEND = [(v.val, 1)]) ∧ (s.get VEC_PEND v = 1) ∧ (s.get MSIX_MASK v = 0) ∧ (s.get MSIX_EN f = 1)) ∧
    (∃ (l : Fin 16) (x : LogRec) (off : Nat) (s : State), (s.logRecs = [x]) ∧ (x.log = l.val) ∧ (s.get EVT_LOG_CFG_EN l = 1) ∧ (s.get EVT_LOG_PTR_FAULT l = 0) ∧ (s.get EVT_LOG_PTR_COUNT l < 2 ^ min 14 (max 4 (s.get EVT_LOG_CFG_LOG2 l))) ∧ (s.get EVT_LOG_CFG_LOC l = 0) ∧ (off = 64 * s.get EVT_LOG_ADDR_ADDR l + 16 * ((s.get EVT_LOG_PTR_HEAD l + s.get EVT_LOG_PTR_COUNT l) % 2 ^ min 14 (max 4 (s.get EVT_LOG_CFG_LOG2 l)))) ∧ (SbPlain s off 16)) ∧
    (∃ (l : Fin 16) (x : LogRec) (s : State), (s.logRecs = [x]) ∧ (x.log = l.val)) ∧
    (∃ (l : Fin 16) (x : LogRec) (c : Nat) (va : Nat) (pa : Nat) (s : State), (s.logRecs = [x]) ∧ (x.log = l.val) ∧ (s.get EVT_LOG_CFG_EN l = 1) ∧ (s.get EVT_LOG_PTR_FAULT l = 0) ∧ (s.get EVT_LOG_PTR_COUNT l < 2 ^ min 14 (max 4 (s.get EVT_LOG_CFG_LOG2 l))) ∧ (s.get EVT_LOG_CFG_LOC l = 1) ∧ (c = s.get EVT_LOG_CFG_CTX l) ∧ (va = 64 * s.get EVT_LOG_ADDR_ADDR l + 16 * ((s.get EVT_LOG_PTR_HEAD l + s.get EVT_LOG_PTR_COUNT l) % 2 ^ min 14 (max 4 (s.get EVT_LOG_CFG_LOG2 l)))) ∧ (va < 2 ^ 48) ∧ (s.tlb = [⟨c, 0, va / 4096, pa, true, true⟩]) ∧ (s.xltFaults = []) ∧ (s.get XLT_CTX_CFG_PASID_EN c = 0)) ∧
    (∃ (l : Fin 16) (s : State), ((∀ x ∈ s.logRecs, x.log ≠ l.val))) ∧
    (∃ (q : Requester) (l : Fin 16) (_n : BitVec 15) (s : State), (s.permit q .registers (0x40D30014 + 0x20 * l) true = .yes)) ∧
    (∃ (q : Requester) (l : Fin 16) (_v : BitVec 16) (s : State), (s.permit q .registers (0x40D30000 + 0x20 * l) true = .yes)) :=
  ⟨⟨.pf, 4095, 0xFFFFFFFFFFFFFFFF, State.reset, by decide +kernel⟩,
   ⟨.pf, 255, 5, State.reset, by decide +kernel⟩,
   ⟨⟨5, 0, 7, ⟨1, 55, 31, 0, 31⟩, ⟨0, 0, 0, 0, 31⟩, (0, 0), (0, 0)⟩, [], 31, { ((State.reset.put FATAL_PATH 0 0).put CORE_COUNT 0 9).put CRS_ON 31 1 with events := [⟨5, 0, 7, ⟨1, 55, 31, 0, 31⟩, ⟨0, 0, 0, 0, 31⟩, (0, 0), (0, 0)⟩] }, by decide +kernel⟩,
   ⟨⟨5, 9, 7, ⟨3, 0, 0, 0, 15⟩, ⟨2, 63, 0, 0, 15⟩, (4, 5), (6, 7)⟩, [], 63, { (((State.reset.put FATAL_PATH 0 0).put CORE_COUNT 0 9).put CC_PEND 0 0).put INPUT_AT 2111 0 with logRecs := [], events := [⟨5, 9, 7, ⟨3, 0, 0, 0, 15⟩, ⟨2, 63, 0, 0, 15⟩, (4, 5), (6, 7)⟩] }, by decide +kernel⟩,
   ⟨{ State.reset.put CORE_COUNT 0 8 with events := [⟨5, 9, 7, ⟨3, 0, 0, 0, 15⟩, ⟨2, 63, 0, 0, 15⟩, (4, 5), (6, 7)⟩] }, by decide +kernel⟩,
   ⟨2047, 15, (((State.reset.put VEC_DUE 2047 1).put HIF_VF_CFG_VEC_BASE 15 2000).put HIF_VF_CFG_VEC_N 15 48).put HIF_VF_CFG_VEC_N 1 0, by decide +kernel⟩,
   ⟨2047, 0, (((State.reset.put VEC_PEND 2047 1).put MSIX_FMASK 0 0).put MSIX_EN 0 1).put HIF_VF_CFG_VEC_N 15 0, by decide +kernel⟩,
   ⟨2047, 0, State.reset.put MSIX_FMASK 0 1, by decide +kernel⟩,
   ⟨2047, 0, (((State.reset.put VEC_PEND 2047 1).put MSIX_MASK 2047 0).put MSIX_EN 0 1), by decide +kernel⟩,
   ⟨15, ⟨15, 4095, 6, 0xABCDEF, 3, 8⟩, 16 * 15, { ((((((((State.reset.put EVT_LOG_CFG_EN 15 1).put EVT_LOG_PTR_FAULT 15 0).put EVT_LOG_PTR_COUNT 15 15).put EVT_LOG_CFG_LOG2 15 4).put EVT_LOG_CFG_LOC 15 0).put EVT_LOG_ADDR_ADDR 15 0).put SBD_RSV_SIZE 0 1).put SBD_RSV_BASE 0 0).put EVT_LOG_PTR_HEAD 15 0 with logRecs := [⟨15, 4095, 6, 0xABCDEF, 3, 8⟩] }, by decide +kernel⟩,
   ⟨15, ⟨15, 4095, 6, 0xABCDEF, 3, 8⟩, { ((State.reset.put EVT_LOG_CFG_EN 15 1).put EVT_LOG_PTR_COUNT 15 16).put EVT_LOG_CFG_LOG2 15 4 with logRecs := [⟨15, 4095, 6, 0xABCDEF, 3, 8⟩] }, by decide +kernel⟩,
   ⟨15, ⟨15, 4095, 6, 0xABCDEF, 3, 8⟩, 63, 16 * 15 + 64, 0x7000, { (((((((State.reset.put EVT_LOG_CFG_EN 15 1).put EVT_LOG_PTR_FAULT 15 0).put EVT_LOG_PTR_COUNT 15 15).put EVT_LOG_CFG_LOG2 15 4).put EVT_LOG_CFG_LOC 15 1).put EVT_LOG_ADDR_ADDR 15 1).put EVT_LOG_CFG_CTX 15 63).put EVT_LOG_PTR_HEAD 15 0 |>.put XLT_CTX_CFG_PASID_EN 63 0 with logRecs := [⟨15, 4095, 6, 0xABCDEF, 3, 8⟩], tlb := [⟨63, 0, 0, 0x7000, true, true⟩], xltFaults := [] }, by decide +kernel⟩,
   ⟨15, { State.reset with logRecs := [⟨14, 4095, 6, 0xABCDEF, 3, 8⟩] }, by decide +kernel⟩,
   ⟨.cc, 15, 0x4000, State.reset.put EVT_LOG_PTR_COUNT 15 0x4000, by decide +kernel⟩,
   ⟨.cc, 15, 0xFFFF, State.reset, by decide +kernel⟩⟩

theorem wit_StreamsAndTranslation :
    (∃ (q : Requester) (k : Fin 128) (e : Ecc) (tail : BitVec 12) (a : Nat) (s : State), (OwnsStream q k s) ∧ (e ≠ .uncorr) ∧ (s.get XLT_STR_STAT_STATE k = 0) ∧ (s.get XLT_STR_PTR_HEAD k ≠ tail.toNat) ∧ (a = sbBase + 64 * s.get XLT_STR_RING_BASE k + 32 * (s.get XLT_STR_PTR_HEAD k % 2 ^ min 12 (max 4 (s.get XLT_STR_RING_LOG2 k)))) ∧ (s.word (a + 28) / 2 ^ 31 = 1)) ∧
    (∃ (q : Requester) (k : Fin 128) (tail : BitVec 12) (s : State), (OwnsStream q k s) ∧ (s.get XLT_STR_STAT_STATE k = 0) ∧ (s.get XLT_STR_PTR_HEAD k ≠ tail.toNat)) ∧
    (∃ (q : Requester) (k : Fin 128) (_e : Ecc) (_tail : BitVec 12) (a : Nat) (s : State), (OwnsStream q k s) ∧ (a = sbBase + 64 * s.get XLT_STR_RING_BASE k + 32 * (s.get XLT_STR_PTR_HEAD k % 2 ^ min 12 (max 4 (s.get XLT_STR_RING_LOG2 k))))) ∧
    (∃ (q : Requester) (k : Fin 128) (_e : Ecc) (_tail : BitVec 12) (s : State), (¬ OwnsStream q k s)) ∧
    (∃ (k : Fin 128) (s : State), (s.get STR_END k = 9)) ∧
    (∃ (k : Fin 128) (len : Nat) (src : Nat) (dst : Nat) (s : State), (s.get XLT_STR_STAT_STATE k = 1) ∧ (StreamAt k len 0 0 src dst 0 (s.put XLT_STR_STAT_STATE k 2)) ∧ (InSoundboard src len) ∧ (InSoundboard dst len) ∧ (0 < len)) ∧
    (∃ (_host : Option (List Byte)) (k : Fin 128) (len : Nat) (src : Nat) (dst : Nat) (done : Nat) (n : Nat) (s : State), (s.listed XLT_STR_STAT_STATE = [(k.val, 2)]) ∧ (StreamAt k len 0 0 src dst done s) ∧ (InSoundboard src len) ∧ (InSoundboard dst len) ∧ (done < len) ∧ (n = min (min 512 (len - done)) (min (4096 - (src + done) % 4096) (4096 - (dst + done) % 4096))) ∧ (SbPlain s (dst + done - sbBase) n)) ∧
    (∃ (_bs : List Byte) (k : Fin 128) (c : Nat) (len : Nat) (src : Nat) (dst : Nat) (done : Nat) (n : Nat) (pa : Nat) (s : State), (s.listed XLT_STR_STAT_STATE = [(k.val, 2)]) ∧ (StreamAt k len 1 0 src dst done s) ∧ (s.get XLT_STR_CFG_OWNER k = 33) ∧ (c = s.get XLT_STR_CFG_CTX k) ∧ (src + len ≤ 2 ^ 48) ∧ (InSoundboard dst len) ∧ (done + n = len) ∧ (0 < n) ∧ (n ≤ 512) ∧ ((src + done) % 4096 + n ≤ 4096) ∧ ((dst + done) % 4096 + n ≤ 4096) ∧ (s.tlb = [⟨c, 0, (src + done) / 4096, pa, true, false⟩]) ∧ (s.get XLT_CTX_CFG_PASID_EN c = 0) ∧ (SbPlain s (dst + done - sbBase) n)) ∧
    (∃ (_host : Option (List Byte)) (k : Fin 128) (len : Nat) (src : Nat) (dst : Nat) (done : Nat) (s : State), (s.listed XLT_STR_STAT_STATE = [(k.val, 2)]) ∧ (StreamAt k len 0 0 src dst done s) ∧ (InSoundboard src len) ∧ (InSoundboard dst len) ∧ (done < len)) ∧
    (∃ (_host : Option (List Byte)) (_e : Ecc) (s : State), (s.listed XLT_STR_STAT_STATE = [])) ∧
    (∃ (w : Walk) (x : Waiter) (e : Nat) (s : State), (s.walks = [w]) ∧ (w.waiters = [x]) ∧ (w.again = false) ∧ (s.listed XLT_STR_STAT_STATE = []) ∧ (s.replies = []) ∧ (w.level < 4) ∧ (e = w.table + 8 * (w.page / 512 ^ w.level % 512))) ∧
    (∃ (w : Walk) (x : Waiter) (_v : BitVec 64) (e : Nat) (s : State), (s.walks = [w]) ∧ (w.waiters = [x]) ∧ (w.again = false) ∧ (s.listed XLT_STR_STAT_STATE = []) ∧ (s.replies = []) ∧ (w.level < 4) ∧ (e = w.table + 8 * (w.page / 512 ^ w.level % 512))) ∧
    (∃ (w : Walk) (x : Waiter) (v : BitVec 64) (pa : Nat) (s : State), (s.walks = [w]) ∧ (w.waiters = [x]) ∧ (w.again = false) ∧ (s.listed XLT_STR_STAT_STATE = []) ∧ (s.replies = []) ∧ (w.level = 0) ∧ (v.toNat % 2 = 1) ∧ (v.toNat / 2 ^ 4 % 2 ^ 8 = 0) ∧ (v.toNat < 2 ^ 52) ∧ (pa = v.toNat / 2 ^ 12 * 2 ^ 12) ∧ (s.tlb = [])) ∧
    (∃ (w : Walk) (v : BitVec 64) (pa : Nat) (s : State), (s.walks = [w]) ∧ (w.again = false) ∧ (s.listed XLT_STR_STAT_STATE = []) ∧ (s.replies = []) ∧ (w.level = 3) ∧ (v.toNat % 2 ^ 12 = 1) ∧ (v.toNat < 2 ^ 52) ∧ (pa = v.toNat / 2 ^ 12 * 2 ^ 12) ∧ (s.walkCache = []) ∧ (NoDevice s pa 4096) ∧ (s.get XLT_CTX_CFG_PASID_EN w.ctx = 0)) ∧
    (∃ (k : Fin 128) (_e : Ecc) (st : Nat) (done : Nat) (a : Nat) (h : Nat) (s : State), (s.get XLT_STR_STAT_STATE k = 2) ∧ (s.get STR_TRB k = 0) ∧ (done = s.get XLT_STR_STAT_DONE_BYTES k) ∧ (done < 2 ^ 24) ∧ ((s.get STR_END k = st + 1 ∨ (s.get STR_END k = 0 ∧ st = 0 ∧ s.get STR_W (8 * k) % 2 ^ 24 ≤ done))) ∧ (st < 10) ∧ (h = s.get XLT_STR_PTR_HEAD k) ∧ (a = 64 * s.get XLT_STR_RING_BASE k + 32 * (h % 2 ^ min 12 (max 4 (s.get XLT_STR_RING_LOG2 k)))) ∧ (SbPlain s (a + 24) 8) ∧ (s.get XLT_STR_PTR_TAIL k = (h + 1) % 2 ^ min 12 (max 4 (s.get XLT_STR_RING_LOG2 k)))) ∧
    (∃ (k : Fin 128) (_e : Ecc) (s : State), ((s.get XLT_STR_STAT_STATE k ≠ 2 ∨ s.get STR_TRB k = 1 ∨ (s.get STR_END k = 0 ∧ s.get XLT_STR_STAT_DONE_BYTES k < s.get STR_W (8 * k) % 2 ^ 24)))) ∧
    (∃ (k : Fin 128) (f : XltFault) (c : Nat) (n : Nat) (at' : Nat) (s : State), (s.get XLT_STR_STAT_STATE k = 2) ∧ (s.get STR_END k = 0) ∧ (s.xltFaults = [f]) ∧ (s.walks = []) ∧ (f.who.req = 64 + k) ∧ (f.who.va < 2 ^ 48) ∧ (f.pa < 2 ^ 52) ∧ (f.kind < 8) ∧ (f.level < 8) ∧ (c = f.ctx) ∧ (c < 64) ∧ (s.get XLT_FQ_CFG_EN c = 1) ∧ (n = s.get XLT_FQ_PTR_COUNT c) ∧ (n < 2 ^ min 10 (max 4 (s.get XLT_FQ_CFG_LOG2 c))) ∧ (at' = 64 * s.get XLT_FQ_CFG_BASE c + 32 * ((s.get XLT_FQ_PTR_HEAD c + n) % 2 ^ min 10 (max 4 (s.get XLT_FQ_CFG_LOG2 c)))) ∧ (SbPlain s at' 32)) ∧
    (∃ (k : Fin 128) (c : Nat) (s : State), (s.get XLT_STR_STAT_STATE k = 2) ∧ (s.get STR_END k = 0) ∧ (s.xltFaults = []) ∧ (s.get STR_FK k ≠ 0) ∧ (s.get XLT_STR_CFG_OWNER k = 63) ∧ (c = s.get XLT_STR_CFG_CTX k) ∧ (s.get XLT_FQ_CFG_EN c = 0)) ∧
    (∃ (q : Requester) (k : Fin 128) (_e : Ecc) (s : State), ((OwnsStream q k s ∨ q = .cc))) ∧
    (∃ (q : Requester) (k : Fin 128) (_e : Ecc) (len : Nat) (src : Nat) (dst : Nat) (done : Nat) (s : State), ((OwnsStream q k s ∨ q = .cc)) ∧ (s.get XLT_STR_STAT_STATE k = 3) ∧ (s.get STR_UNREAD k = 0) ∧ (StreamAt k len 0 0 src dst done ((s.put XLT_STR_STAT_STATE k 2).put STR_FK k 0)) ∧ (InSoundboard src len) ∧ (InSoundboard dst len)) ∧
    (∃ (q : Requester) (k : Fin 128) (_e : Ecc) (st : Nat) (done : Nat) (a : Nat) (h : Nat) (s : State), ((OwnsStream q k s ∨ q = .cc)) ∧ (s.get STR_TRB k = 0) ∧ (s.get XLT_STR_STAT_STATE k ≠ 0) ∧ (s.get XLT_STR_STAT_STATE k < 4) ∧ (done = s.get XLT_STR_STAT_DONE_BYTES k) ∧ (done < 2 ^ 24) ∧ (st = (if s.get XLT_STR_STAT_STATE k = 3 then s.get XLT_STR_STAT_CAUSE k else 9)) ∧ (0 < st) ∧ (st < 10) ∧ (h = s.get XLT_STR_PTR_HEAD k) ∧ (a = 64 * s.get XLT_STR_RING_BASE k + 32 * (h % 2 ^ min 12 (max 4 (s.get XLT_STR_RING_LOG2 k)))) ∧ (SbPlain s (a + 24) 8) ∧ (s.get XLT_STR_PTR_TAIL k = (h + 1) % 2 ^ min 12 (max 4 (s.get XLT_STR_RING_LOG2 k)))) ∧
    (∃ (q : Requester) (_kind : Fin 4) (_ctx : Fin 64) (s : State), (s.permit q .registers 0x40E00020 true = .yes) ∧ (s.walks = [])) ∧
    (∃ (e : TlbEntry) (s : State), (s.get XLT_INV_BUSY 0 = 1) ∧ (s.walks = []) ∧ (s.cmds = []) ∧ (s.listed XLT_STR_STAT_STATE = []) ∧ (s.tlb = [e])) ∧
    (∃ (s : State), (s.get XLT_INV_BUSY 0 = 0)) ∧
    (∃ (q : Requester) (_c : Fin 64) (_n : BitVec 11) (_s : State), ((q = .cc ∨ q = .pf))) ∧
    (∃ (m : Fin 32) (c : Fin 64) (_n : BitVec 11) (s : State), (s.get CRS_XLT_CTX m ≠ c.val)) ∧
    (∃ (c : Fin 64) (_v : BitVec 25) (s : State), (s.permit .cc .registers (0x40E10010 + 0x40 * c) true = .yes)) :=
  ⟨⟨.pf, 127, .corr, 0xFFF, sbBase + 64 * State.reset.get XLT_STR_RING_BASE 127, ((((State.reset.put XLT_STR_CFG_OWNER 127 33).put XLT_STR_STAT_STATE 127 0).put XLT_STR_PTR_HEAD 127 0).putBytes (sbBase + 64 * State.reset.get XLT_STR_RING_BASE 127 + 28) [0, 0, 0, 0x80]).putBytes (sbBase + 64 * State.reset.get XLT_STR_RING_BASE 127) [1, 0, 0, 8], by decide +kernel⟩,
   ⟨.pf, 127, 0xFFF, ((State.reset.put XLT_STR_CFG_OWNER 127 33).put XLT_STR_STAT_STATE 127 0).put XLT_STR_PTR_HEAD 127 0, by decide +kernel⟩,
   ⟨.course 31, 127, .none, 0, sbBase + 64 * State.reset.get XLT_STR_RING_BASE 127, ((State.reset.put XLT_STR_CFG_OWNER 127 31).put XLT_STR_STAT_STATE 127 0).put XLT_STR_PTR_HEAD 127 0, by decide +kernel⟩,
   ⟨.vf 15, 127, .uncorr, 5, State.reset.put XLT_STR_CFG_OWNER 127 33, by decide +kernel⟩,
   ⟨127, (((State.reset.put STR_END 127 9).put XLT_STR_STAT_STATE 127 1).put STR_W (8 * 127 + 5) 0).put TMB_CTR (State.reset.get XLT_STR_CFG_DOM 127) 0, by decide +kernel⟩,
   ⟨127, 1, sbBase + 0x1000000, sbBase, { (((((((((State.reset.put XLT_STR_STAT_STATE 127 1).put STR_FK 127 0).put STR_END 127 0).put STR_TRB 127 0).put STR_W 1016 0x1).put STR_W 1017 0x11000000).put STR_W 1018 0).put STR_W 1019 0x10000000).put STR_W 1020 0).put XLT_STR_STAT_DONE_BYTES 127 0 with xltFaults := [] }, by decide +kernel⟩,
   ⟨none, 127, 1024, sbBase + 0x10F0, sbBase, 512, 512, { (((((((State.reset.put XLT_STR_STAT_STATE 127 2).put STR_W 1016 1024).put STR_W 1017 0x100010F0).put STR_W 1018 0).put STR_W 1019 0x10000000).put STR_W 1020 0).put XLT_STR_STAT_DONE_BYTES 127 512) with xltFaults := [] }, by decide +kernel⟩,
   ⟨[1, 2, 3, 4], 127, 63, 516, 0x123456780DFC, sbBase + 0x1000, 512, 4, 0xABCDE000, { ((((((((((State.reset.put XLT_STR_STAT_STATE 127 2).put STR_W 1016 (516 + 2 ^ 24)).put STR_W 1017 0x56780DFC).put STR_W 1018 0x1234).put STR_W 1019 0x10001000).put STR_W 1020 0).put XLT_STR_STAT_DONE_BYTES 127 512).put XLT_STR_CFG_OWNER 127 33).put XLT_STR_CFG_CTX 127 63).put XLT_CTX_CFG_PASID_EN 63 0) with xltFaults := [], tlb := [⟨63, 0, 0x123456780, 0xABCDE000, true, false⟩] }, by decide +kernel⟩,
   ⟨none, 127, 1024, sbBase + 0x10F0, sbBase, 512, { (((((((State.reset.put XLT_STR_STAT_STATE 127 2).put STR_W 1016 1024).put STR_W 1017 0x100010F0).put STR_W 1018 0).put STR_W 1019 0x10000000).put STR_W 1020 0).put XLT_STR_STAT_DONE_BYTES 127 512) with xltFaults := [] }, by decide +kernel⟩,
   ⟨none, .none, State.reset, by decide +kernel⟩,
   ⟨⟨63, 0x1FF, 1, 0x7000, [⟨207, true, 0x1FF000⟩], false⟩, ⟨207, true, 0x1FF000⟩, 0x7000, { State.reset with walks := [⟨63, 0x1FF, 1, 0x7000, [⟨207, true, 0x1FF000⟩], false⟩], replies := [] }, by decide +kernel⟩,
   ⟨⟨63, 0x1FF, 1, 0x7000, [⟨207, true, 0x1FF000⟩], false⟩, ⟨207, true, 0x1FF000⟩, 0x1009, 0x7000, { State.reset with walks := [⟨63, 0x1FF, 1, 0x7000, [⟨207, true, 0x1FF000⟩], false⟩], replies := [] }, by decide +kernel⟩,
   ⟨⟨63, 0x1FF, 0, 0x7000, [⟨207, true, 0x1FF000⟩], false⟩, ⟨207, true, 0x1FF000⟩, 0xFFFFFFFFFF005, 0xFFFFFFFFFF000, { State.reset with walks := [⟨63, 0x1FF, 0, 0x7000, [⟨207, true, 0x1FF000⟩], false⟩], replies := [], tlb := [] }, by decide +kernel⟩,
   ⟨⟨63, 0xFFFFFFFFF, 3, 0x7000, [⟨207, true, 0xFFFFFFFFF000⟩], false⟩, 0xFFFFFFFFFF001, 0xFFFFFFFFFF000, { (State.reset.put XLT_CTX_CFG_PASID_EN 63 0) with walks := [⟨63, 0xFFFFFFFFF, 3, 0x7000, [⟨207, true, 0xFFFFFFFFF000⟩], false⟩], replies := [], walkCache := [] }, by decide +kernel⟩,
   ⟨127, .none, 9, 0xFFFFFF, 32 * 15, 15, (((((((State.reset.put XLT_STR_STAT_STATE 127 2).put STR_TRB 127 0).put XLT_STR_STAT_DONE_BYTES 127 0xFFFFFF).put STR_END 127 10).put XLT_STR_PTR_HEAD 127 15).put XLT_STR_RING_BASE 127 0).put XLT_STR_RING_LOG2 127 0).put XLT_STR_PTR_TAIL 127 0, by decide +kernel⟩,
   ⟨127, .corr, State.reset, by decide +kernel⟩,
   ⟨127, ⟨⟨191, true, 0xFFFFFFFFFFFF⟩, 63, 4, 0, 0xFFFFFFFFFFFF8⟩, 63, 15, 32 * 15, { ((((((State.reset.put XLT_STR_STAT_STATE 127 2).put STR_END 127 0).put XLT_FQ_CFG_EN 63 1).put XLT_FQ_PTR_COUNT 63 15).put XLT_FQ_CFG_LOG2 63 0).put XLT_FQ_CFG_BASE 63 0).put XLT_FQ_PTR_HEAD 63 0 with walks := [], xltFaults := [⟨⟨191, true, 0xFFFFFFFFFFFF⟩, 63, 4, 0, 0xFFFFFFFFFFFF8⟩] }, by decide +kernel⟩,
   ⟨127, 63, { (((((State.reset.put XLT_STR_STAT_STATE 127 2).put STR_END 127 0).put STR_FK 127 7).put XLT_STR_CFG_OWNER 127 63).put XLT_STR_CFG_CTX 127 63).put XLT_FQ_CFG_EN 63 0 with xltFaults := [] }, by decide +kernel⟩,
   ⟨.cc, 127, .uncorr, State.reset.put XLT_STR_STAT_STATE 127 0, by decide +kernel⟩,
   ⟨.cc, 127, .none, 1024, sbBase + 0x10F0, sbBase, 512, { ((((((((State.reset.put XLT_STR_STAT_STATE 127 3).put STR_W 1016 1024).put STR_W 1017 0x100010F0).put STR_W 1018 0).put STR_W 1019 0x10000000).put STR_W 1020 0).put XLT_STR_STAT_DONE_BYTES 127 512).put STR_END 127 0).put STR_TRB 127 0 with xltFaults := [] }, by decide +kernel⟩,
   ⟨.cc, 127, .none, 7, 0xFFFFFF, 32 * 15, 15, (((((((State.reset.put XLT_STR_STAT_STATE 127 3).put STR_TRB 127 0).put XLT_STR_STAT_DONE_BYTES 127 0xFFFFFF).put XLT_STR_STAT_CAUSE 127 7).put XLT_STR_PTR_HEAD 127 15).put XLT_STR_RING_BASE 127 0).put XLT_STR_RING_LOG2 127 0).put XLT_STR_PTR_TAIL 127 0, by decide +kernel⟩,
   ⟨.cc, 2, 63, { State.reset.put XLT_INV_BUSY 0 0 with walks := [] }, by decide +kernel⟩,
   ⟨⟨63, 1, 0x200, 0, true, true⟩, { ((((State.reset.put XLT_INV_BUSY 0 1).put INV_KIND 0 2).put INV_CTX 0 63).put INV_PAGE 0 0x3FF).put INV_N 0 1 with walks := [], cmds := [], tlb := [⟨63, 1, 0x200, 0, true, true⟩] }, by decide +kernel⟩,
   ⟨State.reset.put XLT_INV_BUSY 0 0, by decide +kernel⟩,
   ⟨.pf, 63, 0x400, State.reset.put XLT_FQ_PTR_COUNT 63 0x400, by decide +kernel⟩,
   ⟨31, 63, 1, State.reset.put CRS_XLT_CTX 31 62, by decide +kernel⟩,
   ⟨63, 0x1FFFFFF, State.reset, by decide +kernel⟩⟩

theorem wit_HostRings :
    (∃ (q : Requester) (r : Fin 32) (_v : BitVec 12) (s : State), (hostFunc q = some (s.get HIF_RING_OWN_FUNC r)) ∧ (s.get RST_BOOT_STAGE 0 ≠ 6)) ∧
    (∃ (q : Requester) (r : Fin 32) (f : Nat) (_v : BitVec 12) (_w : Byte) (s : State), (hostFunc q = some f) ∧ (f ≠ s.get HIF_RING_OWN_FUNC r) ∧ (s.get RST_BOOT_STAGE 0 ≠ 6)) ∧
    (∃ (r : Fin 32) (bs : List Byte) (pa : Nat) (head : Nat) (w0 : Nat) (w1 : Nat) (s : State), (RingOpen r pa s) ∧ (s.get RST_BOOT_STAGE 0 = 5) ∧ (s.get FATAL_PATH 0 = 0) ∧ (s.fetched = []) ∧ (head = s.get HIF_RING_STAT_CMD_HEAD r) ∧ (head ≠ s.get RING_TAIL r) ∧ ((s.get RING_STS_TAIL r + stsSize s r - s.get RING_STS_HEAD r % stsSize s r) % stsSize s r + 3 ≤ stsSize s r) ∧ (64 * s.get HIF_RING_CMD_VA r + 64 * head < 2 ^ 30) ∧ (bs.length = 64) ∧ (w0 = ofBytes (bs.take 4)) ∧ (w1 = ofBytes ((bs.drop 4).take 4))) ∧
    (∃ (r : Fin 32) (pa : Nat) (s : State), (RingOpen r pa s) ∧ (s.get RST_BOOT_STAGE 0 = 5) ∧ (s.get FATAL_PATH 0 = 0) ∧ (s.get HIF_RING_STAT_CMD_HEAD r ≠ s.get RING_TAIL r) ∧ (s.walks = []) ∧ (s.fetched = []) ∧ (s.cmds = []) ∧ ((s.get RING_STS_TAIL r + stsSize s r - s.get RING_STS_HEAD r % stsSize s r) % stsSize s r + 3 ≤ stsSize s r) ∧ (64 * s.get HIF_RING_CMD_VA r + 64 * s.get HIF_RING_STAT_CMD_HEAD r < 2 ^ 30)) ∧
    (∃ (r : Fin 32) (_host : Option (List Byte)) (s : State), ((s.get HIF_RING_STAT_STATE r ≠ 1 ∨ s.get HIF_RING_STAT_CMD_HEAD r = s.get RING_TAIL r ∨ stsSize s r < (s.get RING_STS_TAIL r + stsSize s r - s.get RING_STS_HEAD r % stsSize s r) % stsSize s r + 3))) ∧
    (∃ (q : Requester) (r : Fin 32) (v : Byte) (pa : Nat) (s : State), (hostFunc q = some (s.get HIF_RING_OWN_FUNC r)) ∧ (s.get RST_BOOT_STAGE 0 = 5) ∧ (RingOpen r pa ((s.put HIF_RING_STAT_STATE r 1).put RING_STS_TAIL r 0)) ∧ (s.get HIF_RING_CTRL_EN r = 0) ∧ (v.toNat % 2 = 1)) ∧
    (∃ (q : Requester) (r : Fin 32) (v : Byte) (s : State), (hostFunc q = some (s.get HIF_RING_OWN_FUNC r)) ∧ (s.get RST_BOOT_STAGE 0 = 5) ∧ (s.get HIF_RING_CTRL_EN r = 1) ∧ (v.toNat % 2 = 0)) ∧
    (∃ (r : Fin 32) (k : Nat) (pa : Nat) (_h : HostMem) (x : AsyncCmd) (status : Nat) (detail : Nat) (s : State), (RingOpen r pa s) ∧ (s.get RST_BOOT_STAGE 0 ≠ 6) ∧ (s.get FATAL_PATH 0 = 0) ∧ (s.fetched = []) ∧ (s.cmds[k]? = some x) ∧ ((∀ y ∈ s.cmds, y.ring = r.val)) ∧ (x.mute = false) ∧ (x.done = some (status, detail, []))) ∧
    (∃ (r : Fin 32) (_k : Nat) (_h : HostMem) (s : State), ((∀ x ∈ s.cmds, x.ring ≠ r.val ∨ (x.done = none ∧ x.wait ≠ .firmware ∧ ∀ n : Nat, x.wait ≠ .step n)))) :=
  ⟨⟨.vf 15, 31, 0xFFF, (State.reset.put RST_BOOT_STAGE 0 5).put HIF_RING_OWN_FUNC 31 15, by decide +kernel⟩,
   ⟨.vf 15, 31, 15, 0, 0x41, (State.reset.put RST_BOOT_STAGE 0 5).put HIF_RING_OWN_FUNC 31 0, by decide +kernel⟩,
   ⟨31, toBytes 4 0x30903 ++ toBytes 4 0xFFFFFFFF ++ List.replicate 56 7, 0x1000, 4095, 0x30903, 0xFFFFFFFF, ({ (((((asks 31 0x1000 0 0 0 [] State.reset).put HIF_RING_CTRL_LOG2 31 12).put RING_TAIL 31 0).put HIF_RING_STAT_CMD_HEAD 31 4095).put HIF_RING_CMD_VA 31 0) with fetched := [] } : State), by decide +kernel⟩,
   ⟨31, 0x1000, ({ ((((asks 31 0x1000 0 0 0 [] State.reset).put HIF_RING_CTRL_LOG2 31 12).put RING_TAIL 31 0).put HIF_RING_STAT_CMD_HEAD 31 4095).put HIF_RING_CMD_VA 31 0 with fetched := [], walks := [] } : State), by decide +kernel⟩,
   ⟨31, none, (State.reset.put HIF_RING_STAT_CMD_HEAD 31 5).put RING_TAIL 31 5, by decide +kernel⟩,
   ⟨.pf, 31, 0xC1, 0x1000, ((asks 31 0x1000 0 0 0 [] State.reset).put HIF_RING_CTRL_EN 31 0).put HIF_RING_OWN_FUNC 31 0, by decide +kernel⟩,
   ⟨.pf, 31, 0xC0, ((asks 31 0x1000 0 0 0 [] State.reset).put HIF_RING_CTRL_EN 31 1).put HIF_RING_OWN_FUNC 31 0, by decide +kernel⟩,
   ⟨31, 0, 0x1000, .done [], ⟨31, 7, 0x0102, false, .power 3 true, some (0x0505, 3, []), [], []⟩, 0x0505, 3, { asks 31 0x1000 0 0 0 [] State.reset with fetched := [], cmds := [⟨31, 7, 0x0102, false, .power 3 true, some (0x0505, 3, []), [], []⟩] }, by decide +kernel⟩,
   ⟨31, 0, .done [], { State.reset with cmds := [⟨31, 7, 0x0102, false, .power 3 true, none, [], []⟩] }, by
     intro x hx; obtain rfl := List.mem_singleton.mp hx; exact .inr ⟨rfl, nofun, nofun⟩⟩⟩

theorem wit_HostRings_checks :
    (∃ (r : Fin 32) (c : Instr) (pa op flags tag : Nat) (ps : List Byte) (s : State), HostRow r op c ∧ Asks r pa op flags tag ps s ∧ ps.length = 56 ∧
      4 ≤ flags) ∧
    (∃ (r : Fin 32) (c : Instr) (pa op flags tag : Nat) (ps : List Byte) (s : State), HostRow r op c ∧ Asks r pa op flags tag ps s ∧ ps.length = 56 ∧
      flags < 4 ∧ op ∉ anyOps ∧ s.get HIF_RING_OWN_FUNC r ≠ 0) ∧
    (∃ (r : Fin 32) (c : Instr) (pa op flags tag : Nat) (ps : List Byte) (s : State), HostRow r op c ∧ Asks r pa op flags tag ps s ∧ ps.length = 56 ∧
      flags < 4 ∧ op ∈ secOps ∧ s.get HIF_RING_OWN_FUNC r = 0 ∧ s.get HIF_PF_SEC_SEC_EN 0 = 0) ∧
    (∃ (r : Fin 32) (c : Instr) (pa op flags tag n : Nat) (b : Byte) (bs : List Byte) (s : State), HostRow r op c ∧ op ∈ bareOps ∧ flags < 4 ∧
      b ≠ 0 ∧ n + 1 + bs.length = 56 ∧ s.get HIF_RING_OWN_FUNC r = 0 ∧ Asks r pa op flags tag (List.replicate n 0 ++ b :: bs) s) ∧
    (∃ (r : Fin 32) (c : Instr) (op : Nat) (s : State), HostRow r op c ∧ s.get RST_CMD 0 = 0 ∧ s.fetched = []) ∧
    (∃ (r : Fin 32) (c : Instr) (op : Nat) (x y : HostCmd) (s : State), HostRow r op c ∧ (s.fetched = [x, y] ∨ s.fetched = [y, x]) ∧
      x.ring < 32 ∧ y.ring = r.val ∧ x.ring ≠ y.ring ∧ x.flags = 0 ∧ y.flags = 0 ∧ s.get RST_BOOT_STAGE 0 = 5 ∧ s.get FATAL_PATH 0 = 0 ∧
      s.get RST_CMD 0 = 0 ∧ s.replies = [] ∧ s.get RING_TURN 0 < 32 ∧
      (x.ring + 32 - s.get RING_TURN 0) % 32 < (r.val + 32 - s.get RING_TURN 0) % 32) :=
  ⟨⟨31, .nop 31, 0, 0x0100, 4, 9, parsOf [], asks 31 0 0x0100 4 9 (parsOf []) State.reset, rfl, by decide +kernel⟩,
   ⟨31, .reset 31, 0, 0x0103, 3, 9, parsOf [], (asks 31 0 0x0103 3 9 (parsOf []) (State.reset.put HIF_RING_OWN_FUNC 31 15)), rfl, by decide +kernel⟩,
   ⟨31, .keyRotate 31, 0, 0x0603, 3, 9, parsOf [], (asks 31 0 0x0603 3 9 (parsOf []) (State.reset.put HIF_RING_OWN_FUNC 31 0)), rfl, by decide +kernel⟩,
   ⟨31, .energyRead 31, 0, 0x0802, 3, 9, 55, 1, [], (asks 31 0 0x0802 3 9 (List.replicate 55 0 ++ [1]) (State.reset.put HIF_RING_OWN_FUNC 31 0)), rfl,
     by decide +kernel⟩,
   ⟨31, .energyRead 31, 0x0802, State.reset, rfl, by decide +kernel⟩,
   ⟨0, .nop 0, 0x0100, ⟨31, 9, 0x0100, 0, parsOf [], false⟩, ⟨0, 9, 0x0100, 0, parsOf [], false⟩,
     { (asks 31 0 0x0100 0 9 [] State.reset).put RING_TURN 0 31 with
       fetched := [⟨0, 9, 0x0100, 0, parsOf [], false⟩, ⟨31, 9, 0x0100, 0, parsOf [], false⟩] }, rfl, by decide +kernel⟩⟩

theorem wit_Wickets :
    (∃ (q : Requester) (w : Fin 64) (d : Fin 2) (i : Fin 16) (_v : Word) (s : State), ((32 ≤ w.val ∨ s.permit q .registers (wktAddr (0x80 * d + 4 * i) w) true = .yes)) ∧ (sideOf q = some (wktSender s w d)) ∧ ((sideDown s (wktReceiver s w d) = false ∨ wktWakes s w d = true))) ∧
    (∃ (_q : Requester) (w : Fin 64) (_d : Fin 2) (_i : Fin 16) (_v : Word) (_len : BitVec 5) (_s : State), (32 ≤ w.val)) ∧
    (∃ (q : Requester) (w : Fin 64) (d : Fin 2) (_len : BitVec 5) (s : State), ((32 ≤ w.val ∨ s.permit q .registers (wktAddr (0x40 + 0x80 * d) w) true = .yes)) ∧ (sideOf q = some (wktSender s w d)) ∧ (sideOf q ≠ some (wktReceiver s w d)) ∧ (sideDown s (wktReceiver s w d) = false)) ∧
    (∃ (q : Requester) (w : Fin 64) (d : Fin 2) (_len : BitVec 5) (side : Nat) (s : State), (32 ≤ w.val) ∧ (sideOf q = some (wktSender s w d)) ∧ (side = wktReceiver s w d) ∧ (sideOf q ≠ some side) ∧ (sideDown s side = true) ∧ (wktWakes s w d = true) ∧ (s.get (wGo d) w = 0)) ∧
    (∃ (q : Requester) (w : Fin 64) (d : Fin 2) (s : State), ((32 ≤ w.val ∨ s.permit q .registers (wktAddr (0x40 + 0x80 * d) w) true = .yes)) ∧ (sideOf q = some (wktReceiver s w d)) ∧ (sideOf q ≠ some (wktSender s w d))) ∧
    (∃ (w : Fin 64) (_v : BitVec 20) (s : State), (s.permit .cc .registers (0x40F100E0 + 0x100 * w) true = .yes)) ∧
    (∃ (f : Fin 16) (s : State), ((∀ k : Fin 128, s.get XLT_STR_CFG_OWNER k ≠ 33 + f ∨ s.get XLT_STR_STAT_STATE k = 0)) ∧ (s.get RST_BOOT_STAGE 0 ≠ 6)) ∧
    (∃ (f : Fin 16) (s : State), ((∀ k : Fin 128, s.get XLT_STR_CFG_OWNER k ≠ 33 + f ∨ s.get XLT_STR_STAT_STATE k = 0)) ∧ (s.get RST_BOOT_STAGE 0 ≠ 6) ∧ (s.get FN_D3 f = 0)) ∧
    (∃ (f : Fin 16) (s : State), (s.get FN_D3 f = 1)) ∧
    (∃ (s : State), ((∀ k : Fin 128, s.get XLT_STR_STAT_STATE k = 0)) ∧ (s.get RST_BOOT_STAGE 0 ≠ 6) ∧ (s.get PCIE_UP 0 = 1)) ∧
    (∃ (s : State), (s.get PCIE_UP 0 = 0)) ∧
    (∃ (f : Fin 16) (w : Fin 64) (d : Fin 2) (s : State), (s.get PCIE_UP 0 = 1) ∧ (s.listed WKT_HELD = [(2 * w.val + d, 1)]) ∧ (wktReceiver s w d = 34 + f)) ∧
    (∃ (_f : Fin 16) (s : State), (s.get PCIE_UP 0 = 0)) ∧
    (∃ (f : Fin 16) (w : Fin 64) (d : Fin 2) (s : State), (s.get PCIE_UP 0 = 0) ∧ (s.get CLK_STAT_PCIE_REF_OK 0 = 1) ∧ (s.get RAIL_BAD 4 = 0) ∧ (s.get PERST_LOW 0 = 0) ∧ (s.listed WKT_HELD = [(2 * w.val + d, 1)]) ∧ (wktReceiver s w d = 34 + f)) ∧
    (∃ (s : State), ((s.get PCIE_UP 0 = 1 ∨ s.get CLK_STAT_PCIE_REF_OK 0 = 0 ∨ s.get RAIL_BAD 4 = 1 ∨ s.get PERST_LOW 0 = 1))) :=
  ⟨⟨.course 31, 63, 1, 15, 0xFFFFFFFF, (((State.reset.put WKT_CFG_SIDE_B 63 31).put WKT_CFG_SIDE_A 63 32).put (wGo 1) 63 1).put WKT_MODE_COMPAT 63 1, by decide +kernel⟩,
   ⟨.course 31, 63, 1, 15, 0xFFFFFFFF, 16, ((State.reset.put WKT_CFG_SIDE_B 63 31).put WKT_CFG_SIDE_A 63 31).put CRS_STAT_STATE 31 0, by decide +kernel⟩,
   ⟨.course 31, 63, 1, 16, (((State.reset.put WKT_CFG_SIDE_B 63 31).put WKT_CFG_SIDE_A 63 32).put (wGo 1) 63 0).put (wGo 0) 63 1, by decide +kernel⟩,
   ⟨.course 31, 63, 0, 31, 49, ((((((State.reset.put WKT_CFG_SIDE_A 63 31).put WKT_CFG_SIDE_B 63 49).put (wGo 0) 63 0).put WKT_MODE_WAKE_B 63 1).put PCIE_UP 0 1).put FN_D3 15 1), by decide +kernel⟩,
   ⟨.course 31, 63, 0, (((State.reset.put WKT_CFG_SIDE_B 63 31).put WKT_CFG_SIDE_A 63 32).put (wGo 0) 63 1), by decide +kernel⟩,
   ⟨63, 0xFFFFF, State.reset, by decide +kernel⟩,
   ⟨15, ((((State.reset.put XLT_STR_CFG_OWNER 127 0).put WKT_CFG_SIDE_A 63 49).put WKT_CFG_SIDE_B 63 31).put (wGo 1) 63 1).put RST_BOOT_STAGE 0 5, by decide +kernel⟩,
   ⟨15, ((((State.reset.put FN_D3 15 0).put WKT_CFG_SIDE_A 63 49).put WKT_CFG_SIDE_B 63 31).put (wGo 1) 63 1).put RST_BOOT_STAGE 0 5, by decide +kernel⟩,
   ⟨15, State.reset.put FN_D3 15 1, by decide +kernel⟩,
   ⟨(((State.reset.put PCIE_UP 0 1).put WKT_CFG_SIDE_A 63 49).put (wGo 1) 63 1).put RST_BOOT_STAGE 0 5, by decide +kernel⟩,
   ⟨State.reset.put PCIE_UP 0 0, by decide +kernel⟩,
   ⟨15, 63, 1, (((State.reset.put PCIE_UP 0 1).put WKT_CFG_SIDE_A 63 49).put WKT_HELD 127 1).put FN_D3 15 1, by decide +kernel⟩,
   ⟨15, State.reset.put PCIE_UP 0 0, by decide +kernel⟩,
   ⟨15, 63, 1, (((((State.reset.put PCIE_UP 0 0).put WKT_CFG_SIDE_A 63 49).put WKT_HELD 127 1).put FN_D3 15 0).put CLK_STAT_PCIE_REF_OK 0 1), by decide +kernel⟩,
   ⟨State.reset.put PCIE_UP 0 1, by decide +kernel⟩⟩

theorem wit_SystemCommands :
    (∃ (r : Fin 32) (pa : Nat) (flags : Nat) (tag : Nat) (s : State), (Asks r pa 0x0100 flags tag (parsOf []) s) ∧ (flags < 4)) ∧
    (∃ (r : Fin 32) (pa : Nat) (flags : Nat) (tag : Nat) (s : State), (Asks r pa 0x0101 flags tag (parsOf []) s) ∧ (flags < 4)) ∧
    (∃ (r : Fin 32) (pa : Nat) (flags : Nat) (tag : Nat) (kind : Nat) (i : Nat) (on : Nat) (s : State), (Asks r pa 0x0102 flags tag (parsOf (toBytes 1 kind ++ toBytes 1 i ++ toBytes 1 on)) s) ∧ (flags < 4) ∧ (s.get HIF_RING_OWN_FUNC r = 0) ∧ (kind < 7) ∧ (i < 256) ∧ (on < 2) ∧ ([32, 6, 32, 2, 16, 4, 1].getD kind 0 ≤ i)) ∧
    (∃ (r : Fin 32) (pa : Nat) (flags : Nat) (tag : Nat) (kind : Nat) (i : Nat) (on : Nat) (p : Fin 16) (s : State), (Asks r pa 0x0102 flags tag (parsOf (toBytes 1 kind ++ toBytes 1 i ++ toBytes 1 on)) s) ∧ (flags < 4) ∧ (s.get HIF_RING_OWN_FUNC r = 0) ∧ (kind < 7) ∧ (i < 256) ∧ (on < 2) ∧ (kind = 0) ∧ (i < 32) ∧ (s.get INST_STATE p ≠ 0) ∧ (s.bit INST_COURSES p i = true)) ∧
    (∃ (r : Fin 32) (pa : Nat) (flags : Nat) (tag : Nat) (kind : Nat) (i : Nat) (on : Nat) (k : Fin 4) (s : State), (Asks r pa 0x0102 flags tag (parsOf (toBytes 1 kind ++ toBytes 1 i ++ toBytes 1 on)) s) ∧ (flags < 4) ∧ (s.get HIF_RING_OWN_FUNC r = 0) ∧ (kind < 7) ∧ (i < 256) ∧ (on < 2) ∧ (on = 0) ∧ (((kind = 2 ∧ i < 32 ∧ s.get MAC_CFG_EN i = 1) ∨ (kind = 3 ∧ i < 2 ∧ s.get TRK_PORT_CFG_EN (4 * i + k) = 1)))) ∧
    (∃ (r : Fin 32) (pa : Nat) (flags : Nat) (tag : Nat) (kind : Nat) (i : Nat) (on : Nat) (s : State), (Asks r pa 0x0102 flags tag (parsOf (toBytes 1 kind ++ toBytes 1 i ++ toBytes 1 on)) s) ∧ (flags < 4) ∧ (s.get HIF_RING_OWN_FUNC r = 0) ∧ (kind < 7) ∧ (i < 256) ∧ (on < 2) ∧ (on = 1) ∧ (kind = 3) ∧ (i < 2) ∧ (s.domOn (domTrunk i) = false) ∧ (s.get RAIL_BAD 2 = 1)) ∧
    (∃ (r : Fin 32) (pa : Nat) (flags : Nat) (tag : Nat) (kind : Nat) (i : Nat) (on : Nat) (s : State), (Asks r pa 0x0102 flags tag (parsOf (toBytes 1 kind ++ toBytes 1 i ++ toBytes 1 on)) s) ∧ (flags < 4) ∧ (s.get HIF_RING_OWN_FUNC r = 0) ∧ (kind < 7) ∧ (i < 256) ∧ (on < 2) ∧ (on = 1) ∧ (i < [32, 6, 32, 2, 16, 4, 1].getD kind 0) ∧ ((∀ j : Fin 16, s.get INST_STATE j = 0)) ∧ (s.get RAIL_BAD 2 = 0) ∧ (s.get RAIL_BAD 3 = 0) ∧ (s.get RAIL_BAD 5 = 0) ∧ (s.domOn (powerDomain kind i) = false)) ∧
    (∃ (r : Fin 32) (pa : Nat) (flags : Nat) (tag : Nat) (kind : Nat) (i : Nat) (on : Nat) (s : State), (Asks r pa 0x0102 flags tag (parsOf (toBytes 1 kind ++ toBytes 1 i ++ toBytes 1 on)) s) ∧ (flags < 4) ∧ (s.get HIF_RING_OWN_FUNC r = 0) ∧ (kind < 7) ∧ (i < 256) ∧ (on < 2) ∧ (on = 1) ∧ (i < [32, 6, 32, 2, 16, 4, 1].getD kind 0) ∧ ((∀ j : Fin 16, s.get INST_STATE j = 0)) ∧ (s.domOn (powerDomain kind i) = true)) ∧
    (∃ (r : Fin 32) (pa : Nat) (flags : Nat) (tag : Nat) (src : Fin 4096) (v : BitVec 64) (s : State), (Asks r pa 0x0104 flags tag (parsOf (toBytes 2 src ++ toBytes 6 0 ++ toBytes 8 v.toNat)) s) ∧ (flags = 0) ∧ (s.get HIF_RING_OWN_FUNC r = 0)) ∧
    (∃ (r : Fin 32) (pa : Nat) (flags : Nat) (tag : Nat) (kind : Nat) (c : Nat) (n : Nat) (va : Nat) (ps : List Byte) (s : State), (ps = parsOf (toBytes 1 kind ++ toBytes 1 c ++ toBytes 2 0 ++ toBytes 4 n ++ toBytes 8 va)) ∧ (Asks r pa 0x0105 flags tag ps s) ∧ (flags < 4) ∧ (kind < 3) ∧ (c < 64) ∧ (n < 2 ^ 32) ∧ (va < 2 ^ 48) ∧ (s.walks = [])) ∧
    (∃ (r : Fin 32) (pa : Nat) (flags : Nat) (tag : Nat) (k : Fin 128) (act : Nat) (s : State), (Asks r pa 0x0106 flags tag (parsOf (toBytes 1 k ++ toBytes 1 act)) s) ∧ (flags < 4) ∧ (act = 1 ∨ act = 2)) ∧
    (∃ (r : Fin 32) (pa : Nat) (flags : Nat) (tag : Nat) (k : Fin 128) (len : Nat) (src : Nat) (dst : Nat) (done : Nat) (s : State), (Asks r pa 0x0106 flags tag (parsOf (toBytes 1 k ++ toBytes 1 1)) s) ∧ (flags < 4) ∧ (s.get HIF_RING_OWN_FUNC r = 0) ∧ (s.get XLT_STR_STAT_STATE k = 3) ∧ (s.get STR_UNREAD k = 0) ∧ (StreamAt k len 0 0 src dst done ((s.put XLT_STR_STAT_STATE k 2).put STR_FK k 0)) ∧ (InSoundboard src len) ∧ (InSoundboard dst len)) :=
  ⟨⟨31, 0x1000, 3, 9, asks 31 0x1000 0x0100 3 9 (parsOf []) State.reset, by decide +kernel⟩,
   ⟨31, 0x1000, 3, 9, asks 31 0x1000 0x0101 3 9 (parsOf []) State.reset, by decide +kernel⟩,
   ⟨31, 0x1000, 3, 9, 6, 1, 0, asks 31 0x1000 0x0102 3 9 (parsOf (toBytes 1 6 ++ toBytes 1 1 ++ toBytes 1 0)) (State.reset.put HIF_RING_OWN_FUNC 31 0), by decide +kernel⟩,
   ⟨31, 0x1000, 3, 9, 0, 31, 1, 15, asks 31 0x1000 0x0102 3 9 (parsOf (toBytes 1 0 ++ toBytes 1 31 ++ toBytes 1 1)) (((State.reset.put HIF_RING_OWN_FUNC 31 0).put INST_STATE 15 2).put INST_COURSES 15 0xFFFFFFFF), by decide +kernel⟩,
   ⟨31, 0x1000, 3, 9, 3, 1, 0, 3, asks 31 0x1000 0x0102 3 9 (parsOf (toBytes 1 3 ++ toBytes 1 1 ++ toBytes 1 0)) ((State.reset.put HIF_RING_OWN_FUNC 31 0).put TRK_PORT_CFG_EN 7 1), by decide +kernel⟩,
   ⟨31, 0x1000, 3, 9, 3, 1, 1, asks 31 0x1000 0x0102 3 9 (parsOf (toBytes 1 3 ++ toBytes 1 1 ++ toBytes 1 1)) (((State.reset.put HIF_RING_OWN_FUNC 31 0).put DOM_OFF (domTrunk 1) 1).put RAIL_BAD 2 1), by decide +kernel⟩,
   ⟨31, 0x1000, 3, 9, 5, 3, 1, asks 31 0x1000 0x0102 3 9 (parsOf (toBytes 1 5 ++ toBytes 1 3 ++ toBytes 1 1)) (((((({ State.reset.put HIF_RING_OWN_FUNC 31 0 with cells := [] } : State).put HIF_RING_OWN_FUNC 31 0).put DOM_OFF (powerDomain 5 3) 1).put RAIL_BAD 2 0).put RAIL_BAD 3 0).put RAIL_BAD 5 0), by decide +kernel⟩,
   ⟨31, 0x1000, 3, 9, 1, 5, 1, asks 31 0x1000 0x0102 3 9 (parsOf (toBytes 1 1 ++ toBytes 1 5 ++ toBytes 1 1)) (({ State.reset.put HIF_RING_OWN_FUNC 31 0 with cells := [] } : State).put HIF_RING_OWN_FUNC 31 0), by decide +kernel⟩,
   ⟨31, 0x1000, 0, 9, 4095, 0x123456789ABCDEF0, asks 31 0x1000 0x0104 0 9 (parsOf (toBytes 2 4095 ++ toBytes 6 0 ++ toBytes 8 0x123456789ABCDEF0)) (State.reset.put HIF_RING_OWN_FUNC 31 0), by decide +kernel⟩,
   ⟨31, 0x1000, 3, 9, 2, 63, 65536, 0xFFFFFFFFFFFF, parsOf (toBytes 1 2 ++ toBytes 1 63 ++ toBytes 2 0 ++ toBytes 4 65536 ++ toBytes 8 0xFFFFFFFFFFFF), ({ asks 31 0x1000 0x0105 3 9 (parsOf (toBytes 1 2 ++ toBytes 1 63 ++ toBytes 2 0 ++ toBytes 4 65536 ++ toBytes 8 0xFFFFFFFFFFFF)) ((State.reset.put XLT_INV_BUSY 0 0).put HIF_RING_OWN_FUNC 31 0) with walks := [] } : State), by decide +kernel⟩,
   ⟨31, 0x1000, 3, 9, 127, 1, asks 31 0x1000 0x0106 3 9 (parsOf (toBytes 1 127 ++ toBytes 1 1)) ((State.reset.put XLT_STR_STAT_STATE 127 0).put HIF_RING_OWN_FUNC 31 0), by decide +kernel⟩,
   ⟨31, 0x1000, 3, 9, 127, 1024, sbBase + 0x10F0, sbBase, 512, asks 31 0x1000 0x0106 3 9 (parsOf (toBytes 1 127 ++ toBytes 1 1)) (({ ((((((((((State.reset.put HIF_RING_OWN_FUNC 31 0).put XLT_STR_STAT_STATE 127 3).put STR_W 1016 1024).put STR_W 1017 0x100010F0).put STR_W 1018 0).put STR_W 1019 0x10000000).put STR_W 1020 0).put XLT_STR_STAT_DONE_BYTES 127 512).put STR_END 127 0).put STR_TRB 127 0) with xltFaults := [] } : State)), by decide +kernel⟩⟩

theorem wit_CycleCommands :
    (∃ (r : Fin 32) (pa : Nat) (flags : Nat) (tag : Nat) (dom : Nat) (period : Nat) (start : Nat) (num0 : Nat) (n0 : Nat) (s : State), (Asks r pa 0x0200 flags tag (parsOf (toBytes 1 dom ++ toBytes 3 0 ++ toBytes 4 period ++ toBytes 4 start ++ toBytes 4 num0)) s) ∧ (flags < 4) ∧ (s.get HIF_RING_OWN_FUNC r = 0) ∧ (dom < 16) ∧ (start < 2 ^ 32) ∧ (num0 < 2 ^ 32) ∧ (s.get LIM_STAT_RUNNING 0 = 0) ∧ (s.get LIM_CYC_CTRL_LOCK 0 = 0) ∧ ((∀ j : Fin 16, s.get INST_STATE j = 0)) ∧ (1000 * 256 ≤ (start * 256 + 2 ^ 40 - s.now dom) % 2 ^ 40) ∧ ((start * 256 + 2 ^ 40 - s.now dom) % 2 ^ 40 ≤ 2000000000 * 256) ∧ (25000 ≤ period) ∧ (period ≤ 6400000) ∧ (s.get LIM_BASE_SLOTS_K 0 = 0) ∧ (s.get DEV_LOCK_LOCK 0 = 1) ∧ (n0 = (num0 + 2 ^ 32 - 1) % 2 ^ 32)) ∧
    (∃ (r : Fin 32) (pa : Nat) (flags : Nat) (tag : Nat) (dom : Nat) (period : Nat) (start : Nat) (num0 : Nat) (ahead : Nat) (s : State), (Asks r pa 0x0200 flags tag (parsOf (toBytes 1 dom ++ toBytes 3 0 ++ toBytes 4 period ++ toBytes 4 start ++ toBytes 4 num0)) s) ∧ (flags < 4) ∧ (s.get HIF_RING_OWN_FUNC r = 0) ∧ (dom < 16) ∧ (period < 2 ^ 32) ∧ (start < 2 ^ 32) ∧ (s.get LIM_CYC_CTRL_LOCK 0 = 0) ∧ (ahead = (start * 256 + 2 ^ 40 - s.now dom) % 2 ^ 40)) ∧
    (∃ (r : Fin 32) (pa : Nat) (flags : Nat) (tag : Nat) (s : State), (Asks r pa 0x0201 flags tag (parsOf []) s) ∧ (flags < 4) ∧ (s.get HIF_RING_OWN_FUNC r = 0)) ∧
    (∃ (r : Fin 32) (pa : Nat) (flags : Nat) (tag : Nat) (at' : Nat) (period : Nat) (ahead : Nat) (i : Fin 16) (s : State), (Asks r pa 0x0202 flags tag (parsOf (toBytes 4 at' ++ toBytes 4 period)) s) ∧ (flags < 4) ∧ (s.get HIF_RING_OWN_FUNC r = 0) ∧ (at' < 2 ^ 32) ∧ (period < 2 ^ 32) ∧ (ahead = (at' + 2 ^ 32 - s.get LIM_CYC_NUM_NUM 0) % 2 ^ 32) ∧ ((∀ j : Fin 16, j < i → s.get INST_STATE j = 0))) ∧
    (∃ (r : Fin 32) (pa : Nat) (flags : Nat) (tag : Nat) (ports : Nat) (slices : Nat) (s : State), (Asks r pa 0x0203 flags tag (parsOf (toBytes 4 ports ++ toBytes 1 slices)) s) ∧ (flags < 4) ∧ (s.get HIF_RING_OWN_FUNC r = 0) ∧ (ports < 2 ^ 32) ∧ (slices < 2) ∧ (s.started = true)) ∧
    (∃ (r : Fin 32) (pa : Nat) (flags : Nat) (tag : Nat) (base : Nat) (k : Nat) (s : State), (Asks r pa 0x0204 flags tag (parsOf (toBytes 2 base ++ toBytes 1 k)) s) ∧ (flags < 4) ∧ (s.get HIF_RING_OWN_FUNC r = 0) ∧ (base < 2 ^ 10) ∧ (k < 2 ^ 8)) ∧
    (∃ (r : Fin 32) (pa : Nat) (flags : Nat) (tag : Nat) (p : Fin 32) (s : State), (Asks r pa 0x0300 flags tag (parsOf (toBytes 1 p)) s) ∧ (flags < 4) ∧ (s.get HIF_RING_OWN_FUNC r = 0) ∧ (s.get RDN_CFG_EN 0 = 0)) ∧
    (∃ (r : Fin 32) (pa : Nat) (flags : Nat) (tag : Nat) (mac : Nat) (vid : Nat) (ports : Nat) (s : State), (Asks r pa 0x0301 flags tag (parsOf (toBytes 8 mac ++ toBytes 2 vid ++ toBytes 6 0 ++ toBytes 8 ports)) s) ∧ (flags < 4) ∧ (s.get HIF_RING_OWN_FUNC r = 0) ∧ (mac < 2 ^ 48) ∧ (vid < 4096) ∧ (ports < 2 ^ 40) ∧ (s.fdb.length < 8)) ∧
    (∃ (r : Fin 32) (pa : Nat) (flags : Nat) (tag : Nat) (mac : Nat) (vid : Nat) (s : State), (Asks r pa 0x0302 flags tag (parsOf (toBytes 8 mac ++ toBytes 2 vid)) s) ∧ (flags < 4) ∧ (s.get HIF_RING_OWN_FUNC r = 0) ∧ (mac < 2 ^ 48) ∧ (vid < 4096) ∧ (s.fdb.length < 2 ^ 14)) ∧
    (∃ (r : Fin 32) (pa : Nat) (flags : Nat) (tag : Nat) (s : State), (Asks r pa 0x0303 flags tag (parsOf []) s) ∧ (flags < 4) ∧ (s.get HIF_RING_OWN_FUNC r = 0)) ∧
    (∃ (r : Fin 32) (pa : Nat) (flags : Nat) (tag : Nat) (q : Fin 40) (s : State), (Asks r pa 0x0304 flags tag (parsOf (toBytes 1 q)) s) ∧ (flags < 4) ∧ (s.get HIF_RING_OWN_FUNC r = 0)) :=
  ⟨⟨31, 0x1000, 3, 9, 15, 6400000, 4294967295, 0, 0xFFFFFFFF, asks 31 0x1000 0x0200 3 9 (parsOf (toBytes 1 15 ++ toBytes 3 0 ++ toBytes 4 6400000 ++ toBytes 4 4294967295 ++ toBytes 4 0)) (((((({ State.reset with cells := [] } : State).put HIF_RING_OWN_FUNC 31 0).put TMB_CTR 15 (4294966295 * 2 ^ 40)).put DEV_LOCK_LOCK 0 1).put LIM_STAT_RUNNING 0 0).put LIM_BASE_SLOTS_K 0 0), by decide +kernel⟩,
   ⟨31, 0x1000, 3, 9, 15, 6400001, 4294967295, 0, 256000, asks 31 0x1000 0x0200 3 9 (parsOf (toBytes 1 15 ++ toBytes 3 0 ++ toBytes 4 6400001 ++ toBytes 4 4294967295 ++ toBytes 4 0)) ((((State.reset.put HIF_RING_OWN_FUNC 31 0).put TMB_CTR 15 (4294966295 * 2 ^ 40)).put LIM_STAT_RUNNING 0 0).put LIM_CYC_CTRL_LOCK 0 0), by decide +kernel⟩,
   ⟨31, 0x1000, 3, 9, asks 31 0x1000 0x0201 3 9 (parsOf []) ((State.reset.put HIF_RING_OWN_FUNC 31 0).put LIM_STAT_RUNNING 0 1), by decide +kernel⟩,
   ⟨31, 0x1000, 3, 9, 0x7FFFFFFF, 25000, 0x7FFFFFFF, 0, asks 31 0x1000 0x0202 3 9 (parsOf (toBytes 4 0x7FFFFFFF ++ toBytes 4 25000)) ((({ State.reset with cells := [] } : State).put HIF_RING_OWN_FUNC 31 0).put LIM_CYC_NUM_NUM 0 0), by decide +kernel⟩,
   ⟨31, 0x1000, 3, 9, 0, 1, asks 31 0x1000 0x0203 3 9 (parsOf (toBytes 4 0 ++ toBytes 1 1)) (((State.reset.put HIF_RING_OWN_FUNC 31 0).put LIM_PHASE 0 2).put LIM_STAT_COMMIT_PEND 0 0), by decide +kernel⟩,
   ⟨31, 0x1000, 3, 9, 1023, 255, asks 31 0x1000 0x0204 3 9 (parsOf (toBytes 2 1023 ++ toBytes 1 255)) ((((State.reset.put HIF_RING_OWN_FUNC 31 0).put LIM_STAT_RUNNING 0 0).put LIM_CYC_CTRL_LOCK 0 0).put SBD_CTRL_EN 0 0), by decide +kernel⟩,
   ⟨31, 0x1000, 3, 9, 31, asks 31 0x1000 0x0300 3 9 (parsOf (toBytes 1 31)) ((((State.reset.put HIF_RING_OWN_FUNC 31 0).put RDN_CFG_EN 0 0).put MAC_CFG_RING_ROLE 31 1).put MAC_STAT_LINK 31 1), by decide +kernel⟩,
   ⟨31, 0x1000, 3, 9, 0xFFFFFFFFFFFF, 4095, 0xFFFFFFFFFF, asks 31 0x1000 0x0301 3 9 (parsOf (toBytes 8 0xFFFFFFFFFFFF ++ toBytes 2 4095 ++ toBytes 6 0 ++ toBytes 8 0xFFFFFFFFFF)) ({ State.reset.put HIF_RING_OWN_FUNC 31 0 with fdb := [⟨0xFFFFFFFFFFFF, 4095, 1, false, 3⟩] } : State), by decide +kernel⟩,
   ⟨31, 0x1000, 3, 9, 0xFFFFFFFFFFFF, 4095, asks 31 0x1000 0x0302 3 9 (parsOf (toBytes 8 0xFFFFFFFFFFFF ++ toBytes 2 4095)) ({ State.reset.put HIF_RING_OWN_FUNC 31 0 with fdb := [⟨0xFFFFFFFFFFFF, 4095, 1, true, 3⟩] } : State), by decide +kernel⟩,
   ⟨31, 0x1000, 3, 9, asks 31 0x1000 0x0303 3 9 (parsOf []) (((State.reset.put HIF_RING_OWN_FUNC 31 0).put LIM_PHASE 0 2).put SBD_FLOW_STAT_PEND 0 0), by decide +kernel⟩,
   ⟨31, 0x1000, 3, 9, 39, asks 31 0x1000 0x0304 3 9 (parsOf (toBytes 1 39)) (((State.reset.put HIF_RING_OWN_FUNC 31 0).put SBD_LVR_STAT_STATE 39 1).put SBD_LVR_STAT_PEND 39 0), by decide +kernel⟩⟩

theorem wit_ProfileCommands :
    (∃ (r : Fin 32) (pa : Nat) (flags : Nat) (tag : Nat) (inst : Nat) (slot : Nat) (courses : Nat) (sb : Nat) (kib : Nat) (owners : List Byte) (img : List Byte) (s : State), (Asks r pa 0x0400 flags tag (parsOf (toBytes 1 inst ++ toBytes 1 slot ++ toBytes 2 0 ++ toBytes 4 courses ++ toBytes 4 sb ++ toBytes 4 kib ++ owners)) s) ∧ (flags < 4) ∧ (s.get HIF_RING_OWN_FUNC r = 0) ∧ (inst < 16) ∧ (slot < 8) ∧ (owners = List.replicate 32 255) ∧ (img = slotImage s slot)) ∧
    (∃ (r : Fin 32) (pa : Nat) (flags : Nat) (tag : Nat) (inst : Nat) (slot : Nat) (courses : Nat) (sb : Nat) (kib : Nat) (owners : List Byte) (img : List Byte) (s : State), (Asks r pa 0x0400 flags tag (parsOf (toBytes 1 inst ++ toBytes 1 slot ++ toBytes 2 0 ++ toBytes 4 courses ++ toBytes 4 sb ++ toBytes 4 kib ++ owners)) s) ∧ (flags < 4) ∧ (s.get HIF_RING_OWN_FUNC r = 0) ∧ (inst < 16) ∧ (slot < 8) ∧ (courses < 2 ^ 32) ∧ (sb < 2 ^ 32) ∧ (kib < 2 ^ 32) ∧ (img = slotImage s slot) ∧ (slotWord s slot 0 % 4 = 2) ∧ (owners.length = 32) ∧ (imgWord img 0 7 % 2 ^ 6 ≤ (members courses).length) ∧ ((members courses).length ≤ imgWord img 0 7 / 2 ^ 8 % 2 ^ 6) ∧ ((∀ n ∈ members courses, s.get CRS_STAT_STATE n < 2 ∧ (∀ i : Fin 16, s.get INST_STATE i = 0 ∨ s.bit INST_COURSES i n = false))) ∧ (s.get INST_STATE inst = 0) ∧ ((∀ p : Fin 32, (owners.getD p 255).toNat = 255 ∨ ((owners.getD p 255).toNat ∈ members courses ∧ portOwner s p = none ∧ bitOf (imgWord img 0 8 % 2 ^ 7) (s.get MAC_CFG_MODE p) = true ∧ (s.get MAC_CFG_RING_ROLE p = 1 → bitOf (imgWord img 0 8) 8 = true) ∧ (s.get MAC_CFG_RING_ROLE p = 2 → bitOf (imgWord img 0 8) 9 = true) ∧ ((List.range 32).filter (fun k => owners.getD k 255 == owners.getD p 255)).length ≤ imgWord img 0 7 / 2 ^ 16 % 2 ^ 6))) ∧ (imgWord img 0 11 / 2 ^ 16 + (members courses).length * (imgWord img 0 11 % 2 ^ 16) ≤ kib) ∧ (sb + 1024 * kib ≤ 2 ^ 26) ∧ (s.areaReserved sb (1024 * kib) = true) ∧ (s.get LIM_STAT_RUNNING 0 = 0 ∨ (imgWord img 0 13 % 2 ^ 23 ≤ s.get LIM_CYC_PERIOD_PERIOD 0 ∧ imgWord img 0 12 ≤ s.get LIM_CYC_PERIOD_PERIOD 0))) ∧
    (∃ (i : Fin 16) (n : Fin 32) (m : Fin 32) (img : List Byte) (kind : Nat) (dest : Nat) (size : Nat) (src : Nat) (s : State), (s.get INST_STATE i = 1) ∧ (s.get INST_COURSES i = 2 ^ n.val) ∧ (img = slotImage s (s.get INST_SLOT i)) ∧ (sectionsOf img = [⟨kind, dest, size, src⟩]) ∧ (kind = 1 ∨ kind = 2) ∧ (dest + size ≤ 0x7F800) ∧ (src + size ≤ img.length) ∧ (imgWord img 0 9 < 2 ^ 19) ∧ (imgWord img 0 9 % 4 = 0) ∧ (s.get CRS_ON n = 1) ∧ (s.get CRS_STAT_STATE n = 1) ∧ (m ≠ n)) ∧
    (∃ (i : Fin 16) (s : State), (s.get INST_STATE i ≠ 1)) ∧
    (∃ (r : Fin 32) (pa : Nat) (flags : Nat) (tag : Nat) (i : Fin 16) (s : State), (Asks r pa 0x0401 flags tag (parsOf (toBytes 1 i)) s) ∧ (flags < 4) ∧ (s.get HIF_RING_OWN_FUNC r = 0) ∧ ((∀ c ∈ s.cmds, c.wait ≠ .unload i)) ∧ (s.wtb = []) ∧ (s.dir = []) ∧ (s.get TRB_STAT_LOCKED 0 = 0)) ∧
    (∃ (r : Fin 32) (pa : Nat) (flags : Nat) (tag : Nat) (at' : Nat) (ahead : Nat) (i : Fin 16) (s : State), (Asks r pa 0x0402 flags tag (parsOf (toBytes 1 i ++ toBytes 3 0 ++ toBytes 4 at')) s) ∧ (flags < 4) ∧ (s.get HIF_RING_OWN_FUNC r = 0) ∧ (at' < 2 ^ 32) ∧ (ahead = (at' + 2 ^ 32 - s.get LIM_CYC_NUM_NUM 0) % 2 ^ 32)) ∧
    (∃ (r : Fin 32) (pa : Nat) (flags : Nat) (tag : Nat) (i : Fin 16) (s : State), (Asks r pa 0x0403 flags tag (parsOf (toBytes 1 i)) s) ∧ (flags < 4)) ∧
    (∃ (r : Fin 32) (pa : Nat) (flags : Nat) (tag : Nat) (courses : Nat) (s : State), (Asks r pa 0x0404 flags tag (parsOf (toBytes 4 courses)) s) ∧ (flags < 4) ∧ (s.get HIF_RING_OWN_FUNC r = 0) ∧ (courses < 2 ^ 32) ∧ (s.wtb = []) ∧ (s.get TRB_STAT_LOCKED 0 = 0)) :=
  ⟨⟨31, 0x1000, 3, 9, 15, 7, 0xFFFFFFFF, 0, 0, List.replicate 32 255, slotImage (State.reset.put HIF_RING_OWN_FUNC 31 0) 7, asks 31 0x1000 0x0400 3 9 (parsOf (toBytes 1 15 ++ toBytes 1 7 ++ toBytes 2 0 ++ toBytes 4 0xFFFFFFFF ++ toBytes 4 0 ++ toBytes 4 0 ++ List.replicate 32 255)) (State.reset.put HIF_RING_OWN_FUNC 31 0), by decide +kernel⟩,
   ⟨31, 0x1000, 3, 9, 15, 7, 0x80000001, 0x10000, 128, [31, 0] ++ List.replicate 30 255, slotImage (inSlot 7 64 [(7, 0x20202), (8, 0x301), (11, 0x40002), (12, 0xFFFFFFFF), (13, 0x7FFFFF)] ({ State.reset with cells := [] } : State)) 7, asks 31 0x1000 0x0400 3 9 (parsOf (toBytes 1 15 ++ toBytes 1 7 ++ toBytes 2 0 ++ toBytes 4 0x80000001 ++ toBytes 4 0x10000 ++ toBytes 4 128 ++ ([31, 0] ++ List.replicate 30 255))) ((((inSlot 7 64 [(7, 0x20202), (8, 0x301), (11, 0x40002), (12, 0xFFFFFFFF), (13, 0x7FFFFF)] ({ State.reset with cells := [] } : State)).put HIF_RING_OWN_FUNC 31 0).put SBD_RSV_BASE 3 1).put SBD_RSV_SIZE 3 2), by decide +kernel⟩,
   ⟨15, 31, 0, slotImage (inSlot 7 256 [(2, 0x12345678), (9, 0x40000), (10, 0x40008), (14, 1), (15, 0xFF), (32, 1), (33, 0x7F7F8), (34, 8), (35, 0x8)] (State.reset.put INST_SLOT 15 7)) 7, 1, 0x7F7F8, 8, 8, (((((inSlot 7 256 [(2, 0x12345678), (9, 0x40000), (10, 0x40008), (14, 1), (15, 0xFF), (32, 1), (33, 0x7F7F8), (34, 8), (35, 0x8)] (State.reset.put INST_SLOT 15 7)).put INST_STATE 15 1).put INST_COURSES 15 (2 ^ 31)).put CRS_ON 31 1).put CRS_STAT_STATE 31 1).put INST_OWNERS 15 (255 - 255 + 31), by decide +kernel⟩,
   ⟨15, State.reset.put INST_STATE 15 3, by decide +kernel⟩,
   ⟨31, 0x1000, 3, 9, 15, asks 31 0x1000 0x0401 3 9 (parsOf (toBytes 1 15)) ({ (((((State.reset.put HIF_RING_OWN_FUNC 31 0).put INST_STATE 15 2).put INST_COURSES 15 0x80000001).put CRS_STAT_STATE 31 3).put TRB_STAT_LOCKED 0 0).put CRS_OWN_PORTS 31 0x80000000 with wtb := [], dir := [] } : State), by decide +kernel⟩,
   ⟨31, 0x1000, 3, 9, 0x7FFFFFFF, 0x7FFFFFFF, 15, asks 31 0x1000 0x0402 3 9 (parsOf (toBytes 1 15 ++ toBytes 3 0 ++ toBytes 4 0x7FFFFFFF)) (((((State.reset.put HIF_RING_OWN_FUNC 31 0).put INST_STATE 15 2).put INST_COURSES 15 0x80000001).put LIM_STAT_RUNNING 0 1).put LIM_CYC_NUM_NUM 0 0), by decide +kernel⟩,
   ⟨31, 0x1000, 3, 9, 15, asks 31 0x1000 0x0403 3 9 (parsOf (toBytes 1 15)) (State.reset.put INST_STATE 15 2), by decide +kernel⟩,
   ⟨31, 0x1000, 3, 9, 0xFFFFFFFF, asks 31 0x1000 0x0404 3 9 (parsOf (toBytes 4 0xFFFFFFFF)) ({ ((State.reset.put HIF_RING_OWN_FUNC 31 0).put CRS_STAT_STATE 31 2).put TRB_STAT_LOCKED 0 0 with wtb := [] } : State), by decide +kernel⟩⟩

theorem wit_StatusCommands :
    (∃ (r : Fin 32) (pa : Nat) (flags : Nat) (tag : Nat) (en : Nat) (claim : Nat) (hold : Nat) (s : State), (Asks r pa 0x0700 flags tag (parsOf (toBytes 1 en ++ toBytes 1 claim ++ toBytes 2 0 ++ toBytes 4 hold)) s) ∧ (flags < 4) ∧ (s.get HIF_RING_OWN_FUNC r = 0) ∧ (en < 2) ∧ (claim < 2 ^ 8) ∧ (hold < 2 ^ 20)) ∧
    (∃ (r : Fin 32) (pa : Nat) (flags : Nat) (tag : Nat) (claim : Nat) (s : State), (Asks r pa 0x0701 flags tag (parsOf (toBytes 1 claim)) s) ∧ (flags < 4) ∧ (s.get HIF_RING_OWN_FUNC r = 0) ∧ (claim < 2 ^ 8)) ∧
    (∃ (r : Fin 32) (pa : Nat) (flags : Nat) (tag : Nat) (s : State), (Asks r pa 0x0702 flags tag (parsOf []) s) ∧ (flags < 4)) ∧
    (∃ (r : Fin 32) (pa : Nat) (flags : Nat) (tag : Nat) (va : Nat) (_host : HostMem) (s : State), (Asks r pa 0x0800 flags tag (parsOf (toBytes 8 va)) s) ∧ (flags < 4) ∧ (va < 2 ^ 48)) ∧
    (∃ (f : Fin 4) (s : State), (s.get PWR_FEED_MV f < 2 ^ 16) ∧ (s.get PWR_FEED_MA f < 2 ^ 16) ∧ (s.get PWR_FEED_PATH f < 4) ∧ (s.get PWR_FEED_PRESENT f < 2) ∧ (s.get PWR_FEED_TEST f < 4)) ∧
    (∃ (s : State), (s.get PWR_TOTAL_POWER_MW 0 < 2 ^ 32) ∧ (s.get PWR_TOTAL_CYCLE_UJ 0 < 2 ^ 32) ∧ (s.get PWR_PF_STAT_EST_UJ 0 < 2 ^ 16) ∧ (s.get PWR_CAP_CAP_MW 0 < 2 ^ 32) ∧ (s.get RDN_CNT_SWITCHOVERS 0 < 2 ^ 32) ∧ (s.get PWR_TJ_TJ 0 < 2 ^ 32) ∧ (s.get LDG_CAP_USABLE_PAGES 0 < 2 ^ 32)) ∧
    (∃ (r : Fin 32) (pa : Nat) (flags : Nat) (tag : Nat) (mw : Nat) (s : State), (Asks r pa 0x0801 flags tag (parsOf (toBytes 4 mw)) s) ∧ (flags < 4) ∧ (s.get HIF_RING_OWN_FUNC r = 0) ∧ (mw < 2 ^ 20)) ∧
    (∃ (r : Fin 32) (pa : Nat) (flags : Nat) (tag : Nat) (s : State), (Asks r pa 0x0802 flags tag (parsOf []) s) ∧ (flags < 4)) ∧
    (∃ (r : Fin 32) (pa : Nat) (flags : Nat) (tag : Nat) (v : Nat) (s : State), (Asks r pa 0x0803 flags tag (parsOf (toBytes 2 v)) s) ∧ (flags < 4) ∧ (s.get HIF_RING_OWN_FUNC r = 0) ∧ (v < 2 ^ 16)) ∧
    (∃ (r : Fin 32) (pa : Nat) (flags : Nat) (tag : Nat) (d : Fin 16) (s : State), (Asks r pa 0x0900 flags tag (parsOf (toBytes 1 d)) s) ∧ (flags < 4)) ∧
    (∃ (r : Fin 32) (pa : Nat) (flags : Nat) (tag : Nat) (mode : Nat) (en : Nat) (port : Nat) (d : Fin 16) (s : State), (Asks r pa 0x0901 flags tag (parsOf (toBytes 1 d ++ toBytes 1 mode ++ toBytes 1 en ++ toBytes 1 port)) s) ∧ (flags < 4) ∧ (s.get HIF_RING_OWN_FUNC r = 0) ∧ (mode < 4) ∧ (en < 2) ∧ (port < 64)) ∧
    (∃ (r : Fin 32) (pa : Nat) (flags : Nat) (tag : Nat) (step : Nat) (d : Fin 16) (s : State), (Asks r pa 0x0902 flags tag (parsOf (toBytes 1 d ++ toBytes 7 0 ++ toBytes 8 step)) s) ∧ (flags < 4) ∧ (s.get HIF_RING_OWN_FUNC r = 0) ∧ (step < 2 ^ 39 ∨ (2 ^ 64 - 2 ^ 39 ≤ step ∧ step < 2 ^ 64))) ∧
    (∃ (r : Fin 32) (pa : Nat) (flags : Nat) (tag : Nat) (role : Nat) (ports : Nat) (d : Fin 16) (s : State), (Asks r pa 0x0903 flags tag (parsOf (toBytes 1 d ++ toBytes 1 role ++ toBytes 6 0 ++ toBytes 8 ports)) s) ∧ (flags < 4) ∧ (s.get HIF_RING_OWN_FUNC r = 0) ∧ (role < 2 ^ 8) ∧ (ports < 2 ^ 40)) :=
  ⟨⟨31, 0x1000, 3, 9, 1, 255, 0xFFFFF, asks 31 0x1000 0x0700 3 9 (parsOf (toBytes 1 1 ++ toBytes 1 255 ++ toBytes 2 0 ++ toBytes 4 0xFFFFF)) (((((State.reset.put HIF_RING_OWN_FUNC 31 0).put RDN_CFG_EN 0 0).put LIM_STAT_RUNNING 0 0).put RDN_CFG_LOCK 0 0).put MAC_STAT_LINK 30 0), by decide +kernel⟩,
   ⟨31, 0x1000, 3, 9, 255, asks 31 0x1000 0x0701 3 9 (parsOf (toBytes 1 255)) (State.reset.put HIF_RING_OWN_FUNC 31 0), by decide +kernel⟩,
   ⟨31, 0x1000, 3, 9, asks 31 0x1000 0x0702 3 9 (parsOf []) (State.reset.put LIM_STAT_RUNNING 0 1), by decide +kernel⟩,
   ⟨31, 0x1000, 3, 9, 0xFFFFFFFFFFFF, .fault 1, asks 31 0x1000 0x0800 3 9 (parsOf (toBytes 8 0xFFFFFFFFFFFF)) (State.reset.put LIM_STAT_RUNNING 0 1), by decide +kernel⟩,
   ⟨3, State.reset.put PWR_FEED_MV 3 24000, by decide +kernel⟩,
   ⟨State.reset.put PWR_TOTAL_POWER_MW 0 7, by decide +kernel⟩,
   ⟨31, 0x1000, 3, 9, 0xFFFFF, asks 31 0x1000 0x0801 3 9 (parsOf (toBytes 4 0xFFFFF)) (State.reset.put HIF_RING_OWN_FUNC 31 0), by decide +kernel⟩,
   ⟨31, 0x1000, 3, 9, asks 31 0x1000 0x0802 3 9 (parsOf []) State.reset, by decide +kernel⟩,
   ⟨31, 0x1000, 3, 9, 0xFFFF, asks 31 0x1000 0x0803 3 9 (parsOf (toBytes 2 0xFFFF)) (State.reset.put HIF_RING_OWN_FUNC 31 0), by decide +kernel⟩,
   ⟨31, 0x1000, 3, 9, 15, asks 31 0x1000 0x0900 3 9 (parsOf (toBytes 1 15)) State.reset, by decide +kernel⟩,
   ⟨31, 0x1000, 3, 9, 2, 1, 63, 15, asks 31 0x1000 0x0901 3 9 (parsOf (toBytes 1 15 ++ toBytes 1 2 ++ toBytes 1 1 ++ toBytes 1 63)) (State.reset.put HIF_RING_OWN_FUNC 31 0), by decide +kernel⟩,
   ⟨31, 0x1000, 3, 9, 0x7FFFFFFFFF, 15, asks 31 0x1000 0x0902 3 9 (parsOf (toBytes 1 15 ++ toBytes 7 0 ++ toBytes 8 0x7FFFFFFFFF)) (State.reset.put HIF_RING_OWN_FUNC 31 0), by decide +kernel⟩,
   ⟨31, 0x1000, 3, 9, 255, 0xFFFFFFFFFF, 15, asks 31 0x1000 0x0903 3 9 (parsOf (toBytes 1 15 ++ toBytes 1 255 ++ toBytes 6 0 ++ toBytes 8 0xFFFFFFFFFF)) (State.reset.put HIF_RING_OWN_FUNC 31 0), by decide +kernel⟩⟩

theorem wit_KeepingCommands :
    (∃ (r : Fin 32) (pa : Nat) (flags : Nat) (tag : Nat) (off : Nat) (n : Nat) (va : Nat) (_ecc : List LdgEcc) (_host : HostMem) (s : State), (Asks r pa 0x0500 flags tag (parsOf (toBytes 4 off ++ toBytes 4 n ++ toBytes 8 va)) s) ∧ (flags < 4) ∧ (s.get HIF_RING_OWN_FUNC r = 0) ∧ (off < 2 ^ 32) ∧ (1 ≤ n) ∧ (n ≤ 1048576) ∧ (va < 2 ^ 48)) ∧
    (∃ (r : Fin 32) (pa : Nat) (flags : Nat) (tag : Nat) (cls : Nat) (off : Nat) (n : Nat) (va : Nat) (_host : HostMem) (s : State), (Asks r pa 0x0501 flags tag (parsOf (toBytes 1 cls ++ toBytes 3 0 ++ toBytes 4 off ++ toBytes 4 n ++ toBytes 4 0 ++ toBytes 8 va)) s) ∧ (flags < 4) ∧ (s.get HIF_RING_OWN_FUNC r = 0) ∧ (cls < 3) ∧ (off < 2 ^ 32) ∧ (1 ≤ n) ∧ (n ≤ 1048576) ∧ (va < 2 ^ 48)) ∧
    (∃ (r : Fin 32) (pa : Nat) (flags : Nat) (tag : Nat) (cls : Nat) (off : Nat) (n : Nat) (va : Nat) (_why : Fin 5) (s : State), (Asks r pa 0x0501 flags tag (parsOf (toBytes 1 cls ++ toBytes 3 0 ++ toBytes 4 off ++ toBytes 4 n ++ toBytes 4 0 ++ toBytes 8 va)) s) ∧ (flags < 4) ∧ (s.get HIF_RING_OWN_FUNC r = 0) ∧ (cls < 3) ∧ (1 ≤ n) ∧ (n ≤ 1048576) ∧ (va < 2 ^ 48) ∧ (off + n ≤ 12544 * 4096) ∧ (off % 4096 + n ≤ 4096) ∧ (pageState s (off / 4096) ≠ 4) ∧ (s.get LDG_STAT_STATE 0 < 2)) ∧
    (∃ (r : Fin 32) (pa : Nat) (flags : Nat) (tag : Nat) (cls : Nat) (off : Nat) (n : Nat) (va : Nat) (bs : List Byte) (s : State), (Asks r pa 0x0501 flags tag (parsOf (toBytes 1 cls ++ toBytes 3 0 ++ toBytes 4 off ++ toBytes 4 n ++ toBytes 4 0 ++ toBytes 8 va)) s) ∧ (flags < 4) ∧ (s.get HIF_RING_OWN_FUNC r = 0) ∧ (cls < 3) ∧ (1 ≤ n) ∧ (off % 256 + n ≤ 256) ∧ (va < 2 ^ 48) ∧ (off + n ≤ 12544 * 4096) ∧ (pageState s (off / 4096) ≠ 4) ∧ (s.get LDG_STAT_STATE 0 < 2) ∧ (bs.length = n) ∧ (s.cmds = []) ∧ (s.ldgWait = []) ∧ (s.get RST_REQ 0 = 0) ∧ (stagedOf s (off / 256) = none) ∧ (stagedCount s cls < ldgQuota s cls) ∧ (s.get LDG_SEQ 0 + 1 < 2 ^ 64) ∧ (s.get LDG_CMD 0 + 1 < 2 ^ 64)) ∧
    (∃ (r : Fin 32) (pa : Nat) (flags : Nat) (tag : Nat) (s : State), (Asks r pa 0x0503 flags tag (parsOf []) s) ∧ (flags < 4) ∧ (s.get LDG_STAT_SPARES_EXHAUSTED 0 < 2) ∧ (s.get LDG_STAT_JOURNAL_SHORT 0 < 2) ∧ (s.get LDG_STAT_ROTATING 0 < 2)) ∧
    (∃ (r : Fin 32) (pa : Nat) (flags : Nat) (tag : Nat) (s : State), (Asks r pa 0x0504 flags tag (parsOf []) s) ∧ (flags < 4) ∧ (s.get HIF_RING_OWN_FUNC r = 0) ∧ (s.cmds = [])) ∧
    (∃ (r : Fin 32) (pa : Nat) (flags : Nat) (tag : Nat) (n : Nat) (va : Nat) (slot : Fin 8) (_host : HostMem) (s : State), (Asks r pa 0x0502 flags tag (parsOf (toBytes 1 slot ++ toBytes 3 0 ++ toBytes 4 n ++ toBytes 8 va)) s) ∧ (flags < 4) ∧ (s.get HIF_RING_OWN_FUNC r = 0) ∧ (n ≤ 1048320) ∧ (va < 2 ^ 48)) ∧
    (∃ (r : Fin 32) (pa : Nat) (flags : Nat) (tag : Nat) (va : Nat) (slot : Fin 8) (img : List Byte) (s : State), (Asks r pa 0x0502 flags tag (parsOf (toBytes 1 slot ++ toBytes 3 0 ++ toBytes 4 img.length ++ toBytes 8 va)) s) ∧ (flags < 4) ∧ (s.get HIF_RING_OWN_FUNC r = 0) ∧ (img.length ≤ 1048320) ∧ (va < 2 ^ 48) ∧ (s.get PCS_STAT_STATE 0 = 2) ∧ ((slot.val < 2 → s.get RST_BOOT_SLOT 0 ≠ slot)) ∧ ((∀ i : Fin 16, s.get INST_STATE i = 0 ∨ s.get INST_SLOT i ≠ slot)) ∧ ((∀ c ∈ s.cmds, c.opcode ≠ 0x0502)) ∧ ((∀ j : Fin 256, 4096 * j.val < 256 + img.length → pageState s (slotOff slot / 4096 + j) ≠ 4))) ∧
    (∃ (r : Fin 32) (pa : Nat) (flags : Nat) (tag : Nat) (va : Nat) (slot : Fin 8) (ws : List (Nat × List Byte)) (img : List Byte) (s : State), (Asks r pa 0x0502 flags tag (parsOf (toBytes 1 slot ++ toBytes 3 0 ++ toBytes 4 img.length ++ toBytes 8 va)) s) ∧ (flags < 4) ∧ (s.get HIF_RING_OWN_FUNC r = 0) ∧ (img.length ≤ 1048320) ∧ (va < 2 ^ 48) ∧ (s.get PCS_STAT_STATE 0 = 2) ∧ ((slot.val < 2 → s.get RST_BOOT_SLOT 0 ≠ slot)) ∧ ((∀ i : Fin 16, s.get INST_STATE i = 0 ∨ s.get INST_SLOT i ≠ slot)) ∧ (s.cmds = []) ∧ ((∀ j : Fin 256, 4096 * j.val < 256 + img.length → pageState s (slotOff slot / 4096 + j) ≠ 4)) ∧ (s.get LDG_STAT_STATE 0 < 2) ∧ (ws = [(slotOff slot, toBytes 4 (slotWord s slot 0 / 2 ^ 8 * 2 ^ 8 + 1))]) ∧ (Takes slot ws (min 2 (s.get LDG_WCLS_CC_CLASS 0)) s)) ∧
    (∃ (r : Fin 32) (pa : Nat) (flags : Nat) (tag : Nat) (n : Nat) (va : Nat) (l : Nat) (slot : Fin 8) (j : Fin 256) (_host : HostMem) (s : State), (Asks r pa 0x0502 flags tag (parsOf (toBytes 1 slot ++ toBytes 3 0 ++ toBytes 4 n ++ toBytes 8 va)) s) ∧ (flags < 4) ∧ (s.get HIF_RING_OWN_FUNC r = 0) ∧ (n ≤ 1048320) ∧ (va < 2 ^ 48) ∧ (s.get PCS_STAT_STATE 0 = 2) ∧ ((slot.val < 2 → s.get RST_BOOT_SLOT 0 ≠ slot)) ∧ ((∀ i : Fin 16, s.get INST_STATE i = 0 ∨ s.get INST_SLOT i ≠ slot)) ∧ ((∀ c ∈ s.cmds, c.opcode ≠ 0x0502)) ∧ (l = slotOff slot / 4096 + j) ∧ (4096 * j.val < 256 + n) ∧ (pageState s l = 4) ∧ ((∀ m : Fin 256, m.val < j.val → pageState s (slotOff slot / 4096 + m) ≠ 4))) ∧
    (∃ (r : Fin 32) (pa : Nat) (tag : Nat) (va : Nat) (n : Nat) (c : Nat) (slot : Fin 8) (ws : List (Nat × List Byte)) (img : List Byte) (_h : HostMem) (s : State), (RingOpen r pa s) ∧ (s.get RST_BOOT_STAGE 0 = 5) ∧ (s.get FATAL_PATH 0 = 0) ∧ (s.fetched = []) ∧ (img.length ≤ 1048320) ∧ (ws = [(slotOff slot + 256, img), (slotOff slot + 4, toBytes 4 img.length ++ toBytes 4 (slotWord s slot 2 + 1) ++ toBytes 4 (if slot.val < 2 then 0 else imgWord img 0 3 % 2 ^ 16) ++ toBytes 4 (imgWord img 0 (if slot.val < 2 then 4 else 6)) ++ sha384 img)]) ∧ (c = min 2 (s.get LDG_WCLS_PC_CLASS 0)) ∧ (Takes slot ws c s) ∧ (s.cmds = [⟨r.val, tag, 0x0502, false, .step 1, none, parsOf (toBytes 1 slot ++ toBytes 3 0 ++ toBytes 4 n ++ toBytes 8 va), img⟩])) ∧
    (∃ (r : Fin 32) (pa : Nat) (tag : Nat) (va : Nat) (n : Nat) (c : Nat) (slot : Fin 8) (ws : List (Nat × List Byte)) (img : List Byte) (_h : HostMem) (s : State), (RingOpen r pa s) ∧ (s.get RST_BOOT_STAGE 0 = 5) ∧ (s.get FATAL_PATH 0 = 0) ∧ (s.fetched = []) ∧ (img.length ≤ 1048320) ∧ (ws = [(slotOff slot, toBytes 4 (2 + 2 ^ 8 * ((topGen s slot + 1) % 2 ^ 24)))]) ∧ (c = min 2 (s.get LDG_WCLS_CC_CLASS 0)) ∧ (Takes slot ws c s) ∧ (s.cmds = [⟨r.val, tag, 0x0502, false, .step 2, none, parsOf (toBytes 1 slot ++ toBytes 3 0 ++ toBytes 4 n ++ toBytes 8 va), img⟩])) ∧
    (∃ (r : Fin 32) (pa : Nat) (tag : Nat) (va : Nat) (n : Nat) (c : Nat) (slot : Fin 8) (ws : List (Nat × List Byte)) (img : List Byte) (_h : HostMem) (s : State), (RingOpen r pa s) ∧ (s.get RST_BOOT_STAGE 0 = 5) ∧ (s.get FATAL_PATH 0 = 0) ∧ (s.fetched = []) ∧ (img.length ≤ 1048320) ∧ (ws = [(svnOff (256 * (imgWord img 0 3 % 2 ^ 8) + imgWord img 0 3 / 2 ^ 8 % 2 ^ 8), toBytes 4 (imgWord img 0 6))]) ∧ (c = min 2 (s.get LDG_WCLS_PC_CLASS 0)) ∧ (Takes slot ws c s) ∧ (2 ≤ slot.val) ∧ (svnMin s (256 * (imgWord img 0 3 % 2 ^ 8) + imgWord img 0 3 / 2 ^ 8 % 2 ^ 8) < imgWord img 0 6) ∧ (s.cmds = [⟨r.val, tag, 0x0502, false, .step 3, none, parsOf (toBytes 1 slot ++ toBytes 3 0 ++ toBytes 4 n ++ toBytes 8 va), img⟩])) ∧
    (∃ (r : Fin 32) (pa : Nat) (tag : Nat) (va : Nat) (n : Nat) (slot : Fin 8) (img : List Byte) (_h : HostMem) (s : State), (RingOpen r pa s) ∧ (s.get RST_BOOT_STAGE 0 = 5) ∧ (s.get FATAL_PATH 0 = 0) ∧ (s.fetched = []) ∧ (img.length ≤ 1048320) ∧ ((slot.val < 2 ∨ imgWord img 0 6 ≤ svnMin s (256 * (imgWord img 0 3 % 2 ^ 8) + imgWord img 0 3 / 2 ^ 8 % 2 ^ 8))) ∧ (s.cmds = [⟨r.val, tag, 0x0502, false, .step 3, none, parsOf (toBytes 1 slot ++ toBytes 3 0 ++ toBytes 4 n ++ toBytes 8 va), img⟩])) ∧
    (∃ (r : Fin 32) (pa : Nat) (flags : Nat) (tag : Nat) (n : Nat) (nva : Nat) (rva : Nat) (_host : HostMem) (s : State), (Asks r pa 0x0600 flags tag (parsOf (toBytes 2 n ++ toBytes 6 0 ++ toBytes 8 nva ++ toBytes 8 rva)) s) ∧ (flags < 4) ∧ (1 ≤ n) ∧ (n ≤ 64) ∧ (nva < 2 ^ 48) ∧ (rva < 2 ^ 48)) ∧
    (∃ (r : Fin 32) (pa : Nat) (flags : Nat) (tag : Nat) (va : Nat) (_host : HostMem) (s : State), (Asks r pa 0x0601 flags tag (parsOf (toBytes 1 0 ++ toBytes 7 0 ++ toBytes 8 va)) s) ∧ (flags < 4) ∧ (s.get HIF_RING_OWN_FUNC r = 0) ∧ (va < 2 ^ 48)) ∧
    (∃ (r : Fin 32) (pa : Nat) (tag : Nat) (va : Nat) (_h : HostMem) (s : State), (RingOpen r pa s) ∧ (s.get FATAL_PATH 0 = 0) ∧ (s.fetched = []) ∧ (s.cmds = [⟨r.val, tag, 0x0601, false, .firmware, none, parsOf (toBytes 1 0 ++ toBytes 7 0 ++ toBytes 8 va), []⟩])) ∧
    (∃ (r : Fin 32) (pa : Nat) (flags : Nat) (tag : Nat) (va : Nat) (bs : List Byte) (s : State), (Asks r pa 0x0601 flags tag (parsOf (toBytes 1 1 ++ toBytes 7 0 ++ toBytes 8 va)) s) ∧ (flags < 4) ∧ (s.get HIF_RING_OWN_FUNC r = 0) ∧ (va < 2 ^ 48) ∧ (s.get PCS_STAT_STATE 0 = 2) ∧ (bs.length = requestMax)) ∧
    (∃ (r : Fin 32) (pa : Nat) (flags : Nat) (tag : Nat) (dest : Nat) (va : Nat) (_host : HostMem) (s : State), (Asks r pa 0x0602 flags tag (parsOf (toBytes 1 dest ++ toBytes 7 0 ++ toBytes 8 va)) s) ∧ (flags < 4) ∧ (s.get HIF_RING_OWN_FUNC r = 0) ∧ (s.get HIF_PF_SEC_SEC_EN 0 = 1) ∧ (dest < 2 ^ 8) ∧ (va < 2 ^ 48) ∧ (s.get PCS_STAT_STATE 0 = 2)) ∧
    (∃ (r : Fin 32) (pa : Nat) (flags : Nat) (tag : Nat) (c : Fin 2) (s : State), (Asks r pa 0x0603 flags tag (parsOf (toBytes 1 c)) s) ∧ (flags < 4) ∧ (s.get HIF_RING_OWN_FUNC r = 0) ∧ (s.get HIF_PF_SEC_SEC_EN 0 = 1)) ∧
    (∃ (r : Fin 32) (pa : Nat) (flags : Nat) (tag : Nat) (va : Nat) (p : Fin 8) (bs : List Byte) (s : State), (Asks r pa 0x0604 flags tag (parsOf (toBytes 1 p ++ toBytes 7 0 ++ toBytes 8 va)) s) ∧ (flags < 4) ∧ (s.get HIF_RING_OWN_FUNC r = 0) ∧ (s.get HIF_PF_SEC_SEC_EN 0 = 1) ∧ (va < 2 ^ 48) ∧ (s.get PCS_STAT_STATE 0 = 2) ∧ (bs.length = 1664)) :=
  ⟨⟨31, 0x1000, 3, 9, 0x30FFFFF, 1, 0xFFFFFFFFFFFF, [.good], .done [], asks 31 0x1000 0x0500 3 9 (parsOf (toBytes 4 0x30FFFFF ++ toBytes 4 1 ++ toBytes 8 0xFFFFFFFFFFFF)) ((State.reset.put HIF_RING_OWN_FUNC 31 0).put LDG_STAT_STATE 0 1), by decide +kernel⟩,
   ⟨31, 0x1000, 3, 9, 2, 0x30FFFFF, 1, 0xFFFFFFFFFFFF, .done [7], asks 31 0x1000 0x0501 3 9 (parsOf (toBytes 1 2 ++ toBytes 3 0 ++ toBytes 4 0x30FFFFF ++ toBytes 4 1 ++ toBytes 4 0 ++ toBytes 8 0xFFFFFFFFFFFF)) ((State.reset.put HIF_RING_OWN_FUNC 31 0).put LDG_STAT_STATE 0 1), by decide +kernel⟩,
   ⟨31, 0x1000, 3, 9, 2, 0x30FFFFF, 1, 0xFFFFFFFFFFFF, 4, asks 31 0x1000 0x0501 3 9 (parsOf (toBytes 1 2 ++ toBytes 3 0 ++ toBytes 4 0x30FFFFF ++ toBytes 4 1 ++ toBytes 4 0 ++ toBytes 8 0xFFFFFFFFFFFF)) (((State.reset.put HIF_RING_OWN_FUNC 31 0).put LDG_STAT_STATE 0 1).put LDG_PAGE 12543 0), by decide +kernel⟩,
   ⟨31, 0x1000, 3, 9, 2, 0x30FFFFF, 1, 0xFFFFFFFFFFFF, [7], asks 31 0x1000 0x0501 3 9 (parsOf (toBytes 1 2 ++ toBytes 3 0 ++ toBytes 4 0x30FFFFF ++ toBytes 4 1 ++ toBytes 4 0 ++ toBytes 8 0xFFFFFFFFFFFF)) ({ (((((State.reset.put HIF_RING_OWN_FUNC 31 0).put LDG_STAT_STATE 0 1).put LDG_PAGE 12543 0).put RST_REQ 0 0).put LDG_QUOTA_CRIT 0 16).put LDG_SEQ 0 5 with ldgWait := [] } : State), by decide +kernel⟩,
   ⟨31, 0x1000, 3, 9, asks 31 0x1000 0x0503 3 9 (parsOf []) State.reset, by decide +kernel⟩,
   ⟨31, 0x1000, 3, 9, asks 31 0x1000 0x0504 3 9 (parsOf []) ((State.reset.put HIF_RING_OWN_FUNC 31 0).put LDG_STAT_STATE 0 1), by decide +kernel⟩,
   ⟨31, 0x1000, 3, 9, 1048320, 0xFFFFFFFFFFFF, 7, .done [], asks 31 0x1000 0x0502 3 9 (parsOf (toBytes 1 7 ++ toBytes 3 0 ++ toBytes 4 1048320 ++ toBytes 8 0xFFFFFFFFFFFF)) (((State.reset.put HIF_RING_OWN_FUNC 31 0).put LDG_STAT_STATE 0 1).put PCS_STAT_STATE 0 3), by decide +kernel⟩,
   ⟨31, 0x1000, 3, 9, 0xFFFFFFFFFFFF, 7, [1, 2, 3], asks 31 0x1000 0x0502 3 9 (parsOf (toBytes 1 7 ++ toBytes 3 0 ++ toBytes 4 3 ++ toBytes 8 0xFFFFFFFFFFFF)) (((State.reset.put HIF_RING_OWN_FUNC 31 0).put LDG_STAT_STATE 0 1).put PCS_STAT_STATE 0 2), by decide +kernel⟩,
   ⟨31, 0x1000, 3, 9, 0xFFFFFFFFFFFF, 7, [(slotOff 7, toBytes 4 1)], [1, 2, 3], asks 31 0x1000 0x0502 3 9 (parsOf (toBytes 1 7 ++ toBytes 3 0 ++ toBytes 4 3 ++ toBytes 8 0xFFFFFFFFFFFF)) (((State.reset.put HIF_RING_OWN_FUNC 31 0).put LDG_STAT_STATE 0 1).put PCS_STAT_STATE 0 2), by decide +kernel⟩,
   ⟨31, 0x1000, 3, 9, 3, 0xFFFFFFFFFFFF, slotOff 7 / 4096, 7, 0, .done [], asks 31 0x1000 0x0502 3 9 (parsOf (toBytes 1 7 ++ toBytes 3 0 ++ toBytes 4 3 ++ toBytes 8 0xFFFFFFFFFFFF)) ((((State.reset.put HIF_RING_OWN_FUNC 31 0).put LDG_STAT_STATE 0 1).put PCS_STAT_STATE 0 2).put LDG_PAGE (slotOff 7 / 4096) 4), by decide +kernel⟩,
   ⟨31, 0x1000, 9, 0xFFFFFFFFFFFF, 3, 0, 7, [(slotOff 7 + 256, [1, 2, 3]), (slotOff 7 + 4, toBytes 4 3 ++ toBytes 4 1 ++ toBytes 4 0 ++ toBytes 4 0 ++ sha384 [1, 2, 3])], [1, 2, 3], .done [], { asks 31 0x1000 0x0502 3 9 [] (State.reset) with fetched := [], cmds := [⟨31, 9, 0x0502, false, .step 1, none, parsOf (toBytes 1 7 ++ toBytes 3 0 ++ toBytes 4 3 ++ toBytes 8 0xFFFFFFFFFFFF), [1, 2, 3]⟩] }, by refine ⟨by decide +kernel, by decide +kernel, by decide +kernel, by decide +kernel, by decide +kernel, rfl, by decide +kernel, by decide +kernel, by decide +kernel⟩⟩,
   ⟨31, 0x1000, 9, 0xFFFFFFFFFFFF, 3, 0, 7, [(slotOff 7, toBytes 4 (2 + 2 ^ 8))], [1, 2, 3], .done [], { asks 31 0x1000 0x0502 3 9 [] (State.reset) with fetched := [], cmds := [⟨31, 9, 0x0502, false, .step 2, none, parsOf (toBytes 1 7 ++ toBytes 3 0 ++ toBytes 4 3 ++ toBytes 8 0xFFFFFFFFFFFF), [1, 2, 3]⟩] }, by decide +kernel⟩,
   ⟨31, 0x1000, 9, 0xFFFFFFFFFFFF, 3, 0, 7, [(svnOff 0, toBytes 4 5)], (List.replicate 24 0 ++ [5, 0, 0, 0]), .done [], { asks 31 0x1000 0x0502 3 9 [] (State.reset) with fetched := [], cmds := [⟨31, 9, 0x0502, false, .step 3, none, parsOf (toBytes 1 7 ++ toBytes 3 0 ++ toBytes 4 3 ++ toBytes 8 0xFFFFFFFFFFFF), (List.replicate 24 0 ++ [5, 0, 0, 0])⟩] }, by decide +kernel⟩,
   ⟨31, 0x1000, 9, 0xFFFFFFFFFFFF, 3, 7, List.replicate 28 0, .done [], { asks 31 0x1000 0x0502 3 9 [] (State.reset) with fetched := [], cmds := [⟨31, 9, 0x0502, false, .step 3, none, parsOf (toBytes 1 7 ++ toBytes 3 0 ++ toBytes 4 3 ++ toBytes 8 0xFFFFFFFFFFFF), List.replicate 28 0⟩] }, by decide +kernel⟩,
   ⟨31, 0x1000, 3, 9, 64, 0xFFFFFFFFFFFF, 0, .done [7], asks 31 0x1000 0x0600 3 9 (parsOf (toBytes 2 64 ++ toBytes 6 0 ++ toBytes 8 0xFFFFFFFFFFFF ++ toBytes 8 0)) (State.reset.put PCS_STAT_STATE 0 2), by decide +kernel⟩,
   ⟨31, 0x1000, 3, 9, 0xFFFFFFFFFFFF, .done [], asks 31 0x1000 0x0601 3 9 (parsOf (toBytes 1 0 ++ toBytes 7 0 ++ toBytes 8 0xFFFFFFFFFFFF)) ((State.reset.put HIF_RING_OWN_FUNC 31 0).put HIF_PF_SEC_SEC_EN 0 1), by decide +kernel⟩,
   ⟨31, 0x1000, 9, 0xFFFFFFFFFFFF, .done [], { asks 31 0x1000 0x0601 3 9 [] (State.reset.put HIF_PF_SEC_SEC_EN 0 1) with fetched := [], cmds := [⟨31, 9, 0x0601, false, .firmware, none, parsOf (toBytes 1 0 ++ toBytes 7 0 ++ toBytes 8 0xFFFFFFFFFFFF), []⟩] }, by decide +kernel⟩,
   ⟨31, 0x1000, 3, 9, 0xFFFFFFFFFFFF, List.replicate requestMax 0, asks 31 0x1000 0x0601 3 9 (parsOf (toBytes 1 1 ++ toBytes 7 0 ++ toBytes 8 0xFFFFFFFFFFFF)) ((State.reset.put HIF_RING_OWN_FUNC 31 0).put PCS_STAT_STATE 0 2), by decide +kernel⟩,
   ⟨31, 0x1000, 3, 9, 1, 0xFFFFFFFFFFFF, .done [], asks 31 0x1000 0x0602 3 9 (parsOf (toBytes 1 1 ++ toBytes 7 0 ++ toBytes 8 0xFFFFFFFFFFFF)) (((((State.reset.put HIF_RING_OWN_FUNC 31 0).put PCS_STAT_STATE 0 2).put HIF_PF_SEC_SEC_EN 0 1).put PCS_LC_STATE 0 0).put PCS_STAT_DRBG_OK 0 1), by decide +kernel⟩,
   ⟨31, 0x1000, 3, 9, 1, asks 31 0x1000 0x0603 3 9 (parsOf (toBytes 1 1)) (((((State.reset.put HIF_RING_OWN_FUNC 31 0).put PCS_STAT_STATE 0 2).put HIF_PF_SEC_SEC_EN 0 1).put LDG_STAT_STATE 0 1).put LDG_ROT 0 0), by decide +kernel⟩,
   ⟨31, 0x1000, 3, 9, 0xFFFFFFFFFFFF, 7, List.replicate 1664 0, asks 31 0x1000 0x0604 3 9 (parsOf (toBytes 1 7 ++ toBytes 7 0 ++ toBytes 8 0xFFFFFFFFFFFF)) (((State.reset.put HIF_RING_OWN_FUNC 31 0).put PCS_STAT_STATE 0 2).put HIF_PF_SEC_SEC_EN 0 1), by decide +kernel⟩⟩

theorem wit_TransomAccesses :
    (∃ (q : Requester) (a : Word) (_n : Fin 64) (w : Nat) (s : State), (s.permit q .transom (0x1_0000_0000 + a.toNat) false = .yes) ∧ (InWindow w a.toNat s) ∧ (FarIdle s)) ∧
    (∃ (q : Requester) (a : Word) (_n : Fin 64) (x : TrbAccess) (s : State), (s.permit q .transom (0x1_0000_0000 + a.toNat) false = .yes) ∧ ((∃ w : Nat, w < 8 ∧ InWindow w a.toNat s)) ∧ (s.trbNow = some x) ∧ (s.trbWait = [])) ∧
    (∃ (q : Requester) (a : Word) (_n : Fin 64) (_bs : List Byte) (s : State), (s.permit q .transom (0x1_0000_0000 + a.toNat) false = .yes) ∧ (s.permit q .transom (0x1_0000_0000 + a.toNat) true = .yes) ∧ (q = .cc) ∧ ((s.get TRB_CFG_EN 0 = 0 ∨ (∀ v : Nat, v < 8 → a.toNat < s.get TRB_WIN_BASE v * 0x1_0000 ∨ (s.get TRB_WIN_BASE v + s.get TRB_WIN_SIZE v) * 0x1_0000 ≤ a.toNat))) ∧ (s.get TRB_ERR_VALID 0 = 0)) ∧
    (∃ (q : Requester) (a : Word) (bs : List Byte) (w : Nat) (s : State), (s.permit q .transom (0x1_0000_0000 + a.toNat) true = .yes) ∧ (InWindow w a.toNat s) ∧ (s.trbQueue = []) ∧ (s.trbWait = []) ∧ (0 < bs.length) ∧ (bs.length ≤ 64)) ∧
    (∃ (q : Requester) (a : Word) (bs : List Byte) (w : Nat) (x : TrbAccess) (s : State), (s.permit q .transom (0x1_0000_0000 + a.toNat) true = .yes) ∧ (InWindow w a.toNat s) ∧ (0 < bs.length) ∧ (bs.length ≤ 64) ∧ (s.trbNow = some x) ∧ (s.trbWait = []) ∧ ((x :: s.trbQueue).countP (fun y => y.write && !y.lock) = 32)) ∧
    (∃ (x : TrbAccess) (w : Nat) (s : State), (s.trbNow = none) ∧ (s.trbQueue = [x]) ∧ (s.trbWait = []) ∧ (x.write = true) ∧ (x.lock = false) ∧ (x.aside = false) ∧ ((s.get TRB_STAT_LOCKED 0 = 0 ∨ s.get TRB_STAT_LOCK_OWNER 0 = x.req)) ∧ (InWindow w ((x.addr + x.done) % 2 ^ 32) s)) ∧
    (∃ (x : TrbAccess) (s : State), (s.trbNow = some x ∨ (s.trbNow = none ∧ s.trbQueue = [x] ∧ s.get TRB_STAT_LOCKED 0 = 1 ∧ s.get TRB_STAT_LOCK_OWNER 0 ≠ x.req))) ∧
    (∃ (x : TrbAccess) (_data : Word) (q : Requester) (w : Nat) (s : State), (s.trbNow = some x) ∧ (s.trbQueue = []) ∧ (s.trbWait = []) ∧ (x.write = false) ∧ (x.lock = false) ∧ (x.answer = some q) ∧ (x.done = 0) ∧ (x.bytes = []) ∧ (x.len = 4) ∧ (x.addr < 2 ^ 32) ∧ (x.addr % 4 = 0) ∧ (InWindow w x.addr s) ∧ (2 ≤ s.get TRB_WIN_CFG_WIDTH w)) ∧
    (∃ (x : TrbAccess) (_data : Word) (b0 : Byte) (b1 : Byte) (w : Nat) (s : State), (s.trbNow = some x) ∧ (s.trbQueue = []) ∧ (s.trbWait = []) ∧ (x.write = true) ∧ (x.lock = false) ∧ (x.done = 0) ∧ (x.bytes = [b0, b1]) ∧ (x.len = 2) ∧ (x.addr < 2 ^ 32) ∧ (x.addr % 2 = 0) ∧ (InWindow w x.addr s) ∧ (s.get TRB_WIN_CFG_WIDTH w = 1) ∧ (s.get TRB_WIN_CFG_BIG w = 0)) ∧
    (∃ (x : TrbAccess) (_data : Word) (q : Requester) (w : Nat) (s : State), (s.trbNow = some x) ∧ (s.trbQueue = []) ∧ (s.trbWait = []) ∧ (x.lock = false) ∧ (x.answer = some q) ∧ (q = .cc) ∧ (x.write = false) ∧ (InWindow w ((x.addr + x.done) % 2 ^ 32) s)) ∧
    (∃ (_data : Word) (_err : Bool) (s : State), (s.trbNow = none)) ∧
    (∃ (x : TrbAccess) (w : Nat) (s : State), (s.trbNow = some x) ∧ (s.trbQueue = []) ∧ (s.trbWait = []) ∧ (x.write = true) ∧ (x.lock = false) ∧ (x.answer = none) ∧ (InWindow w ((x.addr + x.done) % 2 ^ 32) s) ∧ (0 < s.get TRB_WIN_CFG_RDY_TMO w) ∧ (x.since + 800 * s.get TRB_WIN_CFG_RDY_TMO w ≤ s.get CORE_COUNT 0)) ∧
    (∃ (x : TrbAccess) (w : Nat) (s : State), (s.trbNow = some x) ∧ (InWindow w ((x.addr + x.done) % 2 ^ 32) s) ∧ ((s.get TRB_WIN_CFG_RDY_TMO w = 0 ∨ s.get CORE_COUNT 0 < x.since + 800 * s.get TRB_WIN_CFG_RDY_TMO w))) ∧
    (∃ (x : TrbAccess) (w : Nat) (s : State), (s.trbNow = some x) ∧ (s.trbQueue = []) ∧ (s.trbWait = []) ∧ (x.write = false) ∧ (InWindow w ((x.addr + x.done) % 2 ^ 32) s) ∧ (x.retries < s.get TRB_RETRY_RETRY_MAX 0)) ∧
    (∃ (x : TrbAccess) (q : Requester) (w : Nat) (s : State), (s.trbNow = some x) ∧ (s.trbQueue = []) ∧ (s.trbWait = []) ∧ (x.write = false) ∧ (x.lock = false) ∧ (x.answer = some q) ∧ (q = .cc) ∧ (InWindow w ((x.addr + x.done) % 2 ^ 32) s) ∧ (s.get TRB_RETRY_RETRY_MAX 0 ≤ x.retries)) ∧
    (∃ (x : TrbAccess) (w : Nat) (s : State), (s.trbNow = none) ∧ (s.trbQueue = [x]) ∧ (s.trbWait = []) ∧ (x.aside = true) ∧ (x.write = false) ∧ (x.lock = false) ∧ (x.done = 0) ∧ (x.addr < 2 ^ 32) ∧ (s.get TRB_STAT_LOCKED 0 = 0) ∧ (InWindow w x.addr s) ∧ (x.since + 800 * max 1 (s.get TRB_RETRY_RETRY_GAP 0) ≤ s.get CORE_COUNT 0)) ∧
    (∃ (s : State), ((∀ x ∈ s.trbQueue, x.aside = false ∨ s.get CORE_COUNT 0 < x.since + 800 * max 1 (s.get TRB_RETRY_RETRY_GAP 0)))) ∧
    (∃ (s : State), (s.trbNow = none) ∧ (s.trbQueue = []) ∧ (s.trbWait = []) ∧ (s.get TRB_STAT_LOCKED 0 = 1) ∧ (s.get TRB_LOCK_AT 0 + 800 * max 1 (s.get TRB_CFG_LOCK_TMO 0) ≤ s.get CORE_COUNT 0)) ∧
    (∃ (s : State), (s.get TRB_STAT_LOCKED 0 = 0 ∨ s.get CORE_COUNT 0 < s.get TRB_LOCK_AT 0 + 800 * max 1 (s.get TRB_CFG_LOCK_TMO 0))) ∧
    (∃ (_raw : Byte) (s : State), ((s.get TRB_POLL_AT 0 = 0 ∨ s.get TRB_POLL_AT 0 - 1 + 80 * max 1 (s.get TRB_CFG_POLL 0) ≤ s.get CORE_COUNT 0))) ∧
    (∃ (_raw : Byte) (s : State), (0 < s.get TRB_POLL_AT 0) ∧ (s.get CORE_COUNT 0 < s.get TRB_POLL_AT 0 - 1 + 80 * max 1 (s.get TRB_CFG_POLL 0))) :=
  ⟨⟨.cc, 0x20_FFFF, 63, 7, { (((State.reset.put TRB_CFG_EN 0 1).put TRB_WIN_BASE 7 0x20).put TRB_WIN_SIZE 7 1) with trbNow := none, trbQueue := [] }, by decide +kernel⟩,
   ⟨.cc, 0x20_0000, 0, ⟨32, some .cc, 0x20_0000, 4, false, [], false, false, 0, 0, 0, false, 0, 0⟩, { (((State.reset.put TRB_CFG_EN 0 1).put TRB_WIN_BASE 7 0x20).put TRB_WIN_SIZE 7 1) with trbNow := some ⟨32, some .cc, 0x20_0000, 4, false, [], false, false, 0, 0, 0, false, 0, 0⟩, trbQueue := [] }, by refine ⟨by decide +kernel, ⟨7, by decide +kernel⟩, by decide +kernel⟩⟩,
   ⟨.cc, 0x1F_FFFF, 0, [1], (((State.reset.put TRB_CFG_EN 0 1).put TRB_WIN_BASE 7 0x20).put TRB_WIN_SIZE 7 1), by decide +kernel⟩,
   ⟨.course 3, 0x20_0000, [1, 2], 7, { ((((State.reset.put TRB_CFG_EN 0 1).put TRB_WIN_BASE 7 0x20).put TRB_WIN_SIZE 7 1).put CRS_RIGHTS_TRANSOM 3 1) with trbNow := none, trbQueue := [] }, by decide +kernel⟩,
   ⟨.cc, 0x20_0000, [1], 7, ⟨32, none, 0x20_0000, 4, true, [1, 2, 3, 4], false, false, 0, 0, 0, false, 0, 0⟩, { ((State.reset.put TRB_CFG_EN 0 1).put TRB_WIN_BASE 7 0x20).put TRB_WIN_SIZE 7 1 with trbNow := some ⟨32, none, 0x20_0000, 4, true, [1, 2, 3, 4], false, false, 0, 0, 0, false, 0, 0⟩, trbQueue := List.replicate 31 ⟨32, none, 0x20_0000, 4, true, [1, 2, 3, 4], false, false, 0, 0, 0, false, 0, 0⟩ }, by decide +kernel⟩,
   ⟨⟨32, none, 0x20_0000, 4, true, [1, 2, 3, 4], false, false, 0, 0, 0, false, 0, 0⟩, 7, { (((State.reset.put TRB_CFG_EN 0 1).put TRB_WIN_BASE 7 0x20).put TRB_WIN_SIZE 7 1) with trbNow := none, trbQueue := [⟨32, none, 0x20_0000, 4, true, [1, 2, 3, 4], false, false, 0, 0, 0, false, 0, 0⟩] }, by decide +kernel⟩,
   ⟨⟨3, none, 0x20_0000, 1, true, [1], false, false, 0, 0, 0, false, 0, 0⟩, { (((State.reset.put TRB_CFG_EN 0 1).put TRB_WIN_BASE 7 0x20).put TRB_WIN_SIZE 7 1).put TRB_STAT_LOCKED 0 1 with trbNow := none, trbQueue := [⟨3, none, 0x20_0000, 1, true, [1], false, false, 0, 0, 0, false, 0, 0⟩] }, by decide +kernel⟩,
   ⟨⟨32, some .cc, 0x20_0000, 4, false, [], false, false, 0, 0, 0, false, 0, 0⟩, 0x12345678, .cc, 7, { (((((State.reset.put TRB_CFG_EN 0 1).put TRB_WIN_BASE 7 0x20).put TRB_WIN_SIZE 7 1).put TRB_WIN_CFG_WIDTH 7 2).put TRB_WIN_CFG_BIG 7 1) with trbNow := some ⟨32, some .cc, 0x20_0000, 4, false, [], false, false, 0, 0, 0, false, 0, 0⟩, trbQueue := [] }, by decide +kernel⟩,
   ⟨⟨32, none, 0x20_0000, 2, true, [5, 6], false, false, 0, 0, 0, false, 0, 0⟩, 0, 5, 6, 7, { ((((State.reset.put TRB_CFG_EN 0 1).put TRB_WIN_BASE 7 0x20).put TRB_WIN_SIZE 7 1).put TRB_WIN_CFG_WIDTH 7 1) with trbNow := some ⟨32, none, 0x20_0000, 2, true, [5, 6], false, false, 0, 0, 0, false, 0, 0⟩, trbQueue := [] }, by decide +kernel⟩,
   ⟨⟨32, some .cc, 0x20_0000, 4, false, [], false, false, 0, 0, 0, false, 0, 0⟩, 0, .cc, 7, { (((State.reset.put TRB_CFG_EN 0 1).put TRB_WIN_BASE 7 0x20).put TRB_WIN_SIZE 7 1) with trbNow := some ⟨32, some .cc, 0x20_0000, 4, false, [], false, false, 0, 0, 0, false, 0, 0⟩, trbQueue := [] }, by decide +kernel⟩,
   ⟨0, true, State.reset, by decide +kernel⟩,
   ⟨⟨32, none, 0x20_0000, 2, true, [5, 6], false, false, 0, 0, 0, false, 0, 0⟩, 7, { (((((((State.reset.put TRB_CFG_EN 0 1).put TRB_WIN_BASE 7 0x20).put TRB_WIN_SIZE 7 1).put TRB_WIN_CFG_RDY_EN 7 1).put TRB_WIN_CFG_RDY_TMO 7 255).put CORE_COUNT 0 204000).put TRB_STAT_LOCKED 0 1) with trbNow := some ⟨32, none, 0x20_0000, 2, true, [5, 6], false, false, 0, 0, 0, false, 0, 0⟩, trbQueue := [] }, by decide +kernel⟩,
   ⟨⟨32, some .cc, 0x20_0000, 4, false, [], false, false, 0, 0, 0, false, 0, 0⟩, 7, { ((((State.reset.put TRB_CFG_EN 0 1).put TRB_WIN_BASE 7 0x20).put TRB_WIN_SIZE 7 1).put TRB_WIN_CFG_RDY_EN 7 1) with trbNow := some ⟨32, some .cc, 0x20_0000, 4, false, [], false, false, 0, 0, 0, false, 0, 0⟩, trbQueue := [] }, by decide +kernel⟩,
   ⟨⟨32, some .cc, 0x20_0000, 4, false, [], false, false, 0, 0, 0, false, 0, 0⟩, 7, { ((((State.reset.put TRB_CFG_EN 0 1).put TRB_WIN_BASE 7 0x20).put TRB_WIN_SIZE 7 1).put TRB_RETRY_RETRY_MAX 0 1) with trbNow := some ⟨32, some .cc, 0x20_0000, 4, false, [], false, false, 0, 0, 0, false, 0, 0⟩, trbQueue := [] }, by decide +kernel⟩,
   ⟨⟨32, some .cc, 0x20_0000, 4, false, [], false, false, 0, 0, 8, false, 0, 0⟩, .cc, 7, { ((((State.reset.put TRB_CFG_EN 0 1).put TRB_WIN_BASE 7 0x20).put TRB_WIN_SIZE 7 1).put TRB_RETRY_RETRY_MAX 0 8) with trbNow := some ⟨32, some .cc, 0x20_0000, 4, false, [], false, false, 0, 0, 8, false, 0, 0⟩, trbQueue := [] }, by decide +kernel⟩,
   ⟨⟨32, some .cc, 0x20_0000, 4, false, [], false, false, 0, 0, 0, true, 0, 0⟩, 7, { (((((State.reset.put TRB_CFG_EN 0 1).put TRB_WIN_BASE 7 0x20).put TRB_WIN_SIZE 7 1).put TRB_RETRY_RETRY_GAP 0 2).put CORE_COUNT 0 1600) with trbNow := none, trbQueue := [⟨32, some .cc, 0x20_0000, 4, false, [], false, false, 0, 0, 0, true, 0, 0⟩] }, by decide +kernel⟩,
   ⟨{ (((State.reset.put TRB_CFG_EN 0 1).put TRB_WIN_BASE 7 0x20).put TRB_WIN_SIZE 7 1) with trbNow := none, trbQueue := [⟨32, some .cc, 0x20_0000, 4, false, [], false, false, 0, 0, 0, true, 0, 0⟩] }, by decide +kernel⟩,
   ⟨{ ((((((State.reset.put TRB_CFG_EN 0 1).put TRB_WIN_BASE 7 0x20).put TRB_WIN_SIZE 7 1).put TRB_STAT_LOCKED 0 1).put TRB_CFG_LOCK_TMO 0 255).put CORE_COUNT 0 204000) with trbNow := none, trbQueue := [] }, by decide +kernel⟩,
   ⟨State.reset, by decide +kernel⟩,
   ⟨0xA5, (State.reset.put TRB_SB_CFG_COND 0 0o54321054).put TRB_SB_CFG_FILT 0 0x0F, by decide +kernel⟩,
   ⟨1, State.reset.put TRB_POLL_AT 0 1, by decide +kernel⟩⟩

theorem wit_LedgerWrites :
    (∃ (q : Requester) (off : BitVec 26) (size : Fin 3) (_v : Word) (n : Nat) (o : Nat) (c : Nat) (s : State), (n = 2 ^ size.val) ∧ (o = off.toNat / n * n) ∧ (LedgerTakes q o s) ∧ (c = classOf q s) ∧ ((∀ e ∈ s.staged, e.sector ≠ o / 256)) ∧ (ClassRoom c s)) ∧
    (∃ (q : Requester) (off : BitVec 26) (size : Fin 3) (_v : Word) (n : Nat) (o : Nat) (c : Nat) (es : List LdgEntry) (fs : List LdgEntry) (e : LdgEntry) (s : State), (n = 2 ^ size.val) ∧ (o = off.toNat / n * n) ∧ (LedgerTakes q o s) ∧ (c = classOf q s) ∧ (s.staged = es ++ [e] ++ fs) ∧ (e.sector = o / 256) ∧ ((∀ x ∈ es ++ fs, x.sector ≠ o / 256)) ∧ (s.get RST_REQ 0 = 0) ∧ (s.get FATAL_PATH 0 = 0) ∧ ((c ≤ e.cls ∨ ClassRoom c s))) ∧
    (∃ (q : Requester) (off : BitVec 26) (size : Fin 3) (_v : Word) (n : Nat) (o : Nat) (c : Nat) (s : State), (n = 2 ^ size.val) ∧ (o = off.toNat / n * n) ∧ (LedgerTakes q o s) ∧ (c = classOf q s) ∧ ((∀ e ∈ s.staged, e.sector ≠ o / 256)) ∧ (¬ ClassRoom c s)) ∧
    (∃ (off : BitVec 26) (size : Fin 3) (_v : Word) (n : Nat) (o : Nat) (k : Nat) (s : State), (n = 2 ^ size.val) ∧ (o = off.toNat / n * n) ∧ (o < 0x3B0_0000) ∧ (k = (if 2 ≤ s.get LDG_STAT_STATE 0 then 5 else if pageState s (o / 4096) = pageSystem then 4 else if pageState s (o / 4096) = pageRetired then 3 else 0)) ∧ (k ≠ 0)) ∧
    (∃ (w : LdgWrite) (c : Nat) (s : State), (s.ldgWait = [w]) ∧ (w.cmd = none) ∧ (w.who ≠ none) ∧ (pageState s (w.off / 4096) ≠ pageRetired) ∧ (c = (match w.who with | some .cc => classOf .cc s | some .pcs => classOf .pcs s | _ => w.cls)) ∧ ((∀ e ∈ s.staged, e.sector ≠ w.off / 256)) ∧ (w.off % 256 + w.bytes.length ≤ 256) ∧ (ClassRoom c s)) ∧
    (∃ (w : LdgWrite) (s : State), (s.ldgWait = [w]) ∧ (w.cmd = none) ∧ (w.who = none) ∧ (w.off % 256 = 0) ∧ (w.cls < 3) ∧ (pageState s (w.off / 4096) ≠ pageRetired) ∧ (s.get RST_REQ 0 = 0) ∧ (s.get FATAL_PATH 0 = 0) ∧ ((∀ e ∈ s.staged, e.sector ≠ w.off / 256)) ∧ (ClassRoom w.cls s)) ∧
    (∃ (w : LdgWrite) (s : State), (s.ldgWait = [w]) ∧ (w.cmd = none) ∧ (w.who = none) ∧ (w.off % 256 = 0) ∧ (w.cls < 3) ∧ (pageState s (w.off / 4096) ≠ pageRetired) ∧ (s.get RST_REQ 0 = 0) ∧ (s.get FATAL_PATH 0 = 0) ∧ ((∃ e ∈ s.staged, e.sector = w.off / 256)) ∧ ((∀ e ∈ s.staged, e.sector = w.off / 256 → w.cls ≤ e.cls))) ∧
    (∃ (w : LdgWrite) (s : State), (s.ldgWait = [w]) ∧ (pageState s (w.off / 4096) = pageRetired) ∧ (s.get RST_REQ 0 = 0) ∧ (s.get FATAL_PATH 0 = 0) ∧ ((∀ e ∈ s.staged, e.sector ≠ w.off / 256)) ∧ (w.cmd = none) ∧ (w.who = some .cc) ∧ (ClassRoom (classOf .cc s) s)) ∧
    (∃ (w : LdgWrite) (id : Nat) (n : Nat) (x : AsyncCmd) (s : State), (s.ldgWait = [w]) ∧ (pageState s (w.off / 4096) = pageRetired) ∧ (s.get RST_REQ 0 = 0) ∧ (s.get FATAL_PATH 0 = 0) ∧ ((∀ e ∈ s.staged, e.sector ≠ w.off / 256)) ∧ (w.cmd = some id) ∧ (w.who = none) ∧ (w.cls < 3) ∧ (ClassRoom w.cls s) ∧ (s.cmds = [x]) ∧ (x.wait = .ledger id n) ∧ (x.done = none)) ∧
    (∃ (s : State), ((∀ w ∈ s.ldgWait, w.who = none ∧ ¬ ClassRoom w.cls s ∧ w.cls < 3 ∧ ∀ e ∈ s.staged, e.sector ≠ w.off / 256))) ∧
    (∃ (e : LdgEntry) (es : List LdgEntry) (s : State), (s.staged = e :: es) ∧ (s.get LDG_STAT_STATE 0 < 2) ∧ (s.journal.length < 16 * s.get LDG_CAP_JOURNAL_PAGES 0) ∧ (s.get LDG_REC_SEQ 0 + 1 < 2 ^ 64) ∧ (tblSorted e.bytes = true) ∧ ((∀ x ∈ e.bytes, x.1 < 256))) ∧
    (∃ (s : State), (s.staged = [] ∨ 2 ≤ s.get LDG_STAT_STATE 0 ∨ 16 * s.get LDG_CAP_JOURNAL_PAGES 0 ≤ s.journal.length)) ∧
    (∃ (q : Requester) (v : Word) (s : State), (s.permit q .registers 0x4110_0020 true = .yes) ∧ (v.toNat % 2 = 1) ∧ ((∃ e ∈ s.staged, e.first ≤ s.get LDG_SEQ 0 % 2 ^ 64))) ∧
    (∃ (q : Requester) (v : Word) (s : State), (s.permit q .registers 0x4110_0020 true = .yes) ∧ (v.toNat % 2 = 1) ∧ ((∀ e ∈ s.staged, s.get LDG_SEQ 0 < e.first))) ∧
    (∃ (q : Requester) (v : Word) (s : State), (s.permit q .registers 0x4110_0020 true = .yes) ∧ (v.toNat % 2 = 0)) ∧
    (∃ (v : Word) (c : Nat) (i : Nat) (r : Nat) (s : State), (s.permit .cc .registers 0x4110_0014 true = .yes) ∧ (c = v.toNat % 2 ^ 5) ∧ (i = v.toNat / 2 ^ 8 % 2 ^ 5) ∧ (r = v.toNat / 2 ^ 16 % 2 ^ 5) ∧ (0 < c) ∧ (c ≤ 16) ∧ (c + i + r ≤ 32)) ∧
    (∃ (v : Word) (s : State), (s.permit .cc .registers 0x4110_0014 true = .yes) ∧ ((16 < v.toNat % 2 ^ 5 ∨ 32 < v.toNat % 2 ^ 5 + v.toNat / 2 ^ 8 % 2 ^ 5 + v.toNat / 2 ^ 16 % 2 ^ 5))) :=
  ⟨⟨.cc, 0x30FFFFF, 2, 0x12345678, 4, 0x30FFFFC, 2, (State.reset.put LDG_STAT_STATE 0 1).put LDG_WCLS_CC_CLASS 0 3, by decide +kernel⟩,
   ⟨.pcs, 0x30FFFFF, 2, 0x12345678, 4, 0x30FFFFC, 2, [⟨0x30FFE, [(255, 3)], 0, 4⟩], [], ⟨0x30FFF, [(0, 9), (252, 8)], 1, 5⟩, { (State.reset.put LDG_STAT_STATE 0 1).put LDG_WCLS_PC_CLASS 0 2 with staged := [⟨0x30FFE, [(255, 3)], 0, 4⟩, ⟨0x30FFF, [(0, 9), (252, 8)], 1, 5⟩] }, by decide +kernel⟩,
   ⟨.cc, 0, 0, 7, 1, 0, 0, (State.reset.put LDG_STAT_STATE 0 1).put LDG_QUOTA_ROUT 0 0, by decide +kernel⟩,
   ⟨0x3900000, 0, 1, 1, 0x3900000, 4, State.reset, by decide +kernel⟩,
   ⟨⟨some .pcs, none, 0x30FFFFC, [1, 2, 3, 4], 0⟩, 1, { (State.reset.put LDG_WCLS_PC_CLASS 0 1).put LDG_QUOTA_IMP 0 1 with ldgWait := [⟨some .pcs, none, 0x30FFFFC, [1, 2, 3, 4], 0⟩] }, by decide +kernel⟩,
   ⟨⟨none, none, 0x30FFF00, List.replicate 256 7, 0⟩, { State.reset with ldgWait := [⟨none, none, 0x30FFF00, List.replicate 256 7, 0⟩] }, by decide +kernel⟩,
   ⟨⟨none, none, 0x30FFF00, List.replicate 256 7, 0⟩, { State.reset with ldgWait := [⟨none, none, 0x30FFF00, List.replicate 256 7, 0⟩], staged := [⟨0x30FFF, [(0, 9)], 0, 5⟩] }, by decide +kernel⟩,
   ⟨⟨some .cc, none, 0x30FFFFC, [1, 2, 3, 4], 0⟩, { State.reset.put LDG_PAGE (0x30FFFFC / 4096) 4 with ldgWait := [⟨some .cc, none, 0x30FFFFC, [1, 2, 3, 4], 0⟩] }, by decide +kernel⟩,
   ⟨⟨none, some 5, 0x30FFFFC, [1, 2, 3, 4], 2⟩, 5, 7, ⟨31, 9, 0x0501, false, .ledger 5 7, none, [], []⟩, { State.reset.put LDG_PAGE (0x30FFFFC / 4096) 4 with ldgWait := [⟨none, some 5, 0x30FFFFC, [1, 2, 3, 4], 2⟩], cmds := [⟨31, 9, 0x0501, false, .ledger 5 7, none, [], []⟩] }, by decide +kernel⟩,
   ⟨{ State.reset.put LDG_QUOTA_ROUT 0 0 with ldgWait := [⟨none, none, 0, [1], 0⟩] }, by decide +kernel⟩,
   ⟨⟨0x30FFF, [(0, 9), (255, 8)], 1, 5⟩, [⟨0x30FFE, [(255, 3)], 0, 4⟩], { ((State.reset.put LDG_STAT_STATE 0 1).put LDG_FLUSH_BUSY 0 1).put LDG_TARGET 0 3 with staged := [⟨0x30FFF, [(0, 9), (255, 8)], 1, 5⟩, ⟨0x30FFE, [(255, 3)], 0, 4⟩] }, by decide +kernel⟩,
   ⟨State.reset, by decide +kernel⟩,
   ⟨.pf, 1, { State.reset.put LDG_SEQ 0 4 with staged := [⟨0x30FFE, [(255, 3)], 0, 4⟩] }, by decide +kernel⟩,
   ⟨.cc, 1, State.reset, by decide +kernel⟩,
   ⟨.cc, 2, State.reset, by decide +kernel⟩,
   ⟨0x080810, 16, 8, 8, State.reset, by decide +kernel⟩,
   ⟨0x111010, State.reset, by decide +kernel⟩⟩

theorem wit_LedgerUpkeep :
    (∃ (_bad : List (Fin 15360)) (s : State), (LedgerMay .applier s)) ∧
    (∃ (_bad : List (Fin 15360)) (s : State), (¬ LedgerMay .applier s)) ∧
    (∃ (s : State), (LedgerMay .compaction s) ∧ (s.get LDG_STAT_COMPACTING 0 = 1) ∧ (s.get LDG_COMP_AT 0 + 1 < 32)) ∧
    (∃ (d : Nat) (s : State), (LedgerMay .compaction s) ∧ (s.get LDG_STAT_COMPACTING 0 = 1) ∧ (s.get LDG_COMP_AT 0 + 1 = 32) ∧ (d = (match anchorNow s with | some x => 1 - x.dir | none => 1))) ∧
    (∃ (s : State), (s.get LDG_STAT_COMPACTING 0 = 1) ∧ (s.get LDG_STAT_STATE 0 < 2) ∧ (32 ≤ s.get LDG_COMP_AT 0) ∧ (s.get LDG_FLUSH_BUSY 0 = 0)) ∧
    (∃ (s : State), (s.get LDG_STAT_COMPACTING 0 = 0 ∨ 2 ≤ s.get LDG_STAT_STATE 0 ∨ (s.get LDG_COMP_AT 0 < 32 ∧ ¬ LedgerMay .compaction s) ∨ (32 ≤ s.get LDG_COMP_AT 0 ∧ s.get LDG_FLUSH_BUSY 0 = 1))) ∧
    (∃ (p : Nat) (s : State), (LedgerMay .ledgerScrub s) ∧ ((∀ l : Nat, l < 16 → pageState s (p + l) ≠ pageFree)) ∧ ((∀ k : Nat, k < 256 → s.get LDG_SECTOR_BAD (16 * p + k) = 0)) ∧ (s.listed LDG_REREAD = []) ∧ (p = s.get LDG_SCRUB_PAGE 0) ∧ (p + 16 < 15360)) ∧
    (∃ (p : Nat) (s : State), (LedgerMay .ledgerScrub s) ∧ ((∀ l : Nat, l < 16 → pageState s (p + l) ≠ pageFree)) ∧ ((∀ k : Nat, k < 256 → s.get LDG_SECTOR_BAD (16 * p + k) = 0)) ∧ (s.listed LDG_REREAD = []) ∧ (p = s.get LDG_SCRUB_PAGE 0) ∧ (p + 16 < 15360)) ∧
    (∃ (p : Nat) (_b : Fin 4) (s : State), (LedgerMay .ledgerScrub s) ∧ ((∀ l : Nat, l < 16 → pageState s (p + l) ≠ pageFree)) ∧ ((∀ k : Nat, k < 256 → s.get LDG_SECTOR_BAD (16 * p + k) = 0)) ∧ (s.listed LDG_REREAD = []) ∧ (p = s.get LDG_SCRUB_PAGE 0) ∧ (p + 16 < 15360)) ∧
    (∃ (_finds : List LdgEcc) (_again : List LdgEcc) (s : State), (¬ LedgerMay .ledgerScrub s)) ∧
    (∃ (s : State), (s.get LDG_STAT_STATE 0 = 1) ∧ (s.get LDG_SCRUB_PAGE 0 < 15360) ∧ (s.get LDG_SCRUB_TOLD 0 = 0) ∧ (s.get LDG_SCRUB_AT 0 + 3600 * 800000000 * max 1 (s.get LDG_CTRL_SCRUB_H 0) ≤ s.get CORE_COUNT 0)) ∧
    (∃ (s : State), (s.get LDG_STAT_STATE 0 ≠ 1 ∨ 15360 ≤ s.get LDG_SCRUB_PAGE 0 ∨ s.get LDG_SCRUB_TOLD 0 = 1 ∨ s.get CORE_COUNT 0 < s.get LDG_SCRUB_AT 0 + 3600 * 800000000 * max 1 (s.get LDG_CTRL_SCRUB_H 0))) ∧
    (∃ (l : Fin 15360) (p : Fin 1024) (old : Nat) (g : Nat) (s : State), (s.get LDG_REMAP_DUE l = 1) ∧ (s.get LDG_STAT_STATE 0 < 2) ∧ (l.val < 15104) ∧ (g = s.get LDG_SPARES_GEN_FREE 0) ∧ (0 < g) ∧ (64 ≤ p.val) ∧ (s.journal.length < 16 * s.get LDG_CAP_JOURNAL_PAGES 0) ∧ (s.get LDG_PHYS_BAD (15360 + p) = 0) ∧ ((∀ e ∈ s.listed LDG_PHYS, e.2 ≠ 15360 + p.val + 1)) ∧ (old = (if s.get LDG_PHYS l = 0 then l.val else s.get LDG_PHYS l - 1))) ∧
    (∃ (l : Fin 15360) (p : Fin 1024) (s : State), (s.get LDG_REMAP_DUE l = 1) ∧ (s.get LDG_STAT_STATE 0 < 2) ∧ (15104 ≤ l.val) ∧ (0 < s.get LDG_SPARES_SEC_FREE 0) ∧ (p.val < 64) ∧ (s.journal.length < 16 * s.get LDG_CAP_JOURNAL_PAGES 0) ∧ (s.get LDG_PHYS_BAD (15360 + p) = 0) ∧ ((∀ e ∈ s.listed LDG_PHYS, e.2 ≠ 15360 + p.val + 1))) ∧
    (∃ (l : Fin 15360) (_p : Fin 1024) (s : State), (s.get LDG_REMAP_DUE l = 1) ∧ (s.get LDG_STAT_STATE 0 < 2) ∧ (s.get LDG_SPARES_GEN_FREE 0 = 0) ∧ ((l.val < 15104 ∨ s.get LDG_SPARES_SEC_FREE 0 = 0)) ∧ (pageState s l ≠ pageSystem) ∧ (pageState s l ≠ pageRetired) ∧ (s.journal.length < 16 * s.get LDG_CAP_JOURNAL_PAGES 0)) ∧
    (∃ (l : Fin 15360) (_p : Fin 1024) (s : State), (s.get LDG_REMAP_DUE l = 1) ∧ (s.get LDG_STAT_STATE 0 < 2) ∧ (s.get LDG_SPARES_GEN_FREE 0 = 0) ∧ (pageState s l = pageSystem) ∧ (l.val < 15104) ∧ (pageState s 12543 = pageFree) ∧ ((∀ e ∈ s.staged, e.sector / 16 ≠ 12543)) ∧ ((∀ w ∈ s.ldgWait, w.off / 4096 ≠ 12543)) ∧ (s.journal.length < 16 * s.get LDG_CAP_JOURNAL_PAGES 0)) ∧
    (∃ (l : Fin 15360) (p : Fin 1024) (s : State), (s.get LDG_REMAP_DUE l = 0 ∨ 2 ≤ s.get LDG_STAT_STATE 0 ∨ 16 * s.get LDG_CAP_JOURNAL_PAGES 0 ≤ s.journal.length ∨ (l.val < 15104 ∧ s.get LDG_SPARES_GEN_FREE 0 ≠ 0 ∧ p.val < 64) ∨ (15104 ≤ l.val ∧ s.get LDG_SPARES_SEC_FREE 0 ≠ 0 ∧ 64 ≤ p.val))) ∧
    (∃ (c : Nat) (k : Nat) (s : State), (s.get LDG_STAT_STATE 0 < 2) ∧ (s.get LDG_FLUSH_BUSY 0 = 0) ∧ (s.get LDG_ROT 0 = c + 1) ∧ (s.ldgWait = []) ∧ (k ∈ (s.listed LDG_SECTOR_CTR).map Prod.fst) ∧ (sectorClass k = c) ∧ (s.get LDG_SECTOR_GEN k ≠ s.get LDG_KEY_GEN c + 1) ∧ (s.get LDG_SECTOR_BAD k = 0) ∧ (pageState s (k / 16) ≠ pageRetired) ∧ (s.staged = []) ∧ (ClassRoom 0 s) ∧ ((∀ x ∈ s.listed LDG_SECTOR_CTR, x.1 = k ∨ sectorClass x.1 ≠ c)) ∧ (s.get LDG_SEQ 0 + 1 < 2 ^ 64)) ∧
    (∃ (c : Nat) (s : State), (s.get LDG_STAT_STATE 0 < 2) ∧ (s.get LDG_FLUSH_BUSY 0 = 0) ∧ (s.get LDG_ROT 0 = c + 1) ∧ (c < 2) ∧ (s.ldgWait = []) ∧ ((∀ x ∈ s.listed LDG_SECTOR_CTR, sectorClass x.1 = c → s.get LDG_SECTOR_GEN x.1 = s.get LDG_KEY_GEN c + 1 ∨ s.get LDG_SECTOR_BAD x.1 ≠ 0 ∨ pageState s (x.1 / 16) = pageRetired)) ∧ (s.staged = []) ∧ (ClassRoom (min 2 (s.get LDG_WCLS_PC_CLASS 0)) s) ∧ (s.get LDG_SEQ 0 + 1 < 2 ^ 64) ∧ (durBytes s (0x3B0_0000 + 4 * c) 4 ≠ toBytes 4 (s.get LDG_KEY_GEN c + 1))) ∧
    (∃ (c : Nat) (s : State), (s.get LDG_STAT_STATE 0 < 2) ∧ (s.get LDG_FLUSH_BUSY 0 = 0) ∧ (s.get LDG_ROT 0 = c + 1) ∧ ((∀ x ∈ s.listed LDG_SECTOR_CTR, sectorClass x.1 = c → s.get LDG_SECTOR_GEN x.1 = s.get LDG_KEY_GEN c + 1 ∨ s.get LDG_SECTOR_BAD x.1 ≠ 0 ∨ pageState s (x.1 / 16) = pageRetired)) ∧ (durBytes s (0x3B0_0000 + 4 * c) 4 = toBytes 4 (s.get LDG_KEY_GEN c + 1))) ∧
    (∃ (s : State), (2 ≤ s.get LDG_STAT_STATE 0 ∨ s.get LDG_FLUSH_BUSY 0 = 1 ∨ s.get LDG_ROT 0 = 0)) ∧
    (∃ (e : LdgEntry) (s : State), (s.get LDG_STAT_STATE 0 = 2) ∧ (s.get LDG_PF_WRITTEN 0 + 1 < s.get LDG_PF_G 0) ∧ ((s.staged.find? (fun x => x.cls = 2) = some e ∨ ((∀ x ∈ s.staged, x.cls ≠ 2) ∧ s.staged.find? (fun x => x.cls = 1) = some e) ∨ ((∀ x ∈ s.staged, x.cls ≠ 2 ∧ x.cls ≠ 1) ∧ s.staged.head? = some e))) ∧ (tblSorted e.bytes = true) ∧ ((∀ x ∈ e.bytes, x.1 < 256)) ∧ (s.get LDG_REC_SEQ 0 + 1 < 2 ^ 64)) ∧
    (∃ (s : State), (s.get LDG_STAT_STATE 0 ≠ 2 ∨ s.get LDG_PF_G 0 ≤ s.get LDG_PF_WRITTEN 0 + 1 ∨ s.staged = [])) ∧
    (∃ (s : State), (s.get LDG_STAT_STATE 0 = 2) ∧ (0 < s.get LDG_PF_G 0) ∧ ((s.get LDG_PF_G 0 ≤ s.get LDG_PF_WRITTEN 0 + 1 ∨ s.staged = []))) ∧
    (∃ (s : State), (s.get LDG_STAT_STATE 0 ≠ 2 ∨ s.get LDG_PF_G 0 = 0 ∨ (s.get LDG_PF_WRITTEN 0 + 1 < s.get LDG_PF_G 0 ∧ s.staged ≠ []))) :=
  ⟨⟨[15359, 0], { State.reset with journal := [⟨1, 0, 0, List.replicate 256 1, [], [], none, 0⟩, ⟨2, 245759, 0, List.replicate 256 2, [], [], some (2, 15359), 0⟩, ⟨3, 16, 0, [], [], [], some (2, 1), 0⟩], bgGrants := [.applier] }, by decide +kernel⟩,
   ⟨[1], State.reset.put LDG_STAT_STATE 0 2, by decide +kernel⟩,
   ⟨{ ((State.reset.put LDG_STAT_COMPACTING 0 1).put LDG_COMP_AT 0 30) with bgGrants := [.compaction] }, by decide +kernel⟩,
   ⟨0, { ((State.reset.put LDG_STAT_COMPACTING 0 1).put LDG_COMP_AT 0 31) with bgGrants := [.compaction], anchors := [(⟨0, 1, 1, 0, (⟨0, 1, 1, 0, 0⟩ : LdgAnchor).crcOf⟩ : LdgAnchor)], dirCopies := [⟨0, [(1, 2)], []⟩, ⟨1, [], [(3, 4)]⟩] }, by decide +kernel⟩,
   ⟨{ ((((State.reset.put LDG_STAT_COMPACTING 0 1).put LDG_COMP_AT 0 32).put LDG_FLUSH_BUSY 0 0).put LDG_COMP_POS 0 2) with anchors := [(⟨0, 1, 1, 0, (⟨0, 1, 1, 0, 0⟩ : LdgAnchor).crcOf⟩ : LdgAnchor)], journal := [⟨1, 0, 0, List.replicate 256 1, [], [], none, 0⟩, ⟨2, 245759, 0, List.replicate 256 2, [], [], some (2, 15359), 0⟩, ⟨3, 16, 0, [], [], [], some (2, 1), 0⟩], cmds := [⟨31, 9, 0x0504, false, .compact, none, [], []⟩] }, by decide +kernel⟩,
   ⟨State.reset, by decide +kernel⟩,
   ⟨12560, { ((State.reset.put LDG_STAT_STATE 0 1).put LDG_SCRUB_PAGE 0 12560) with bgGrants := [.ledgerScrub] }, by decide +kernel⟩,
   ⟨12560, { ((State.reset.put LDG_STAT_STATE 0 1).put LDG_SCRUB_PAGE 0 12560) with bgGrants := [.ledgerScrub] }, by decide +kernel⟩,
   ⟨12560, 3, { ((State.reset.put LDG_STAT_STATE 0 1).put LDG_SCRUB_PAGE 0 12560) with bgGrants := [.ledgerScrub] }, by decide +kernel⟩,
   ⟨[.uncorr], [], State.reset, by decide +kernel⟩,
   ⟨((State.reset.put LDG_STAT_STATE 0 1).put LDG_CTRL_SCRUB_H 0 1).put CORE_COUNT 0 (3600 * 800000000), by decide +kernel⟩,
   ⟨State.reset, by decide +kernel⟩,
   ⟨15103, 1023, 15103, 960, State.reset.put LDG_REMAP_DUE 15103 1, by decide +kernel⟩,
   ⟨15104, 0, State.reset.put LDG_REMAP_DUE 15104 1, by decide +kernel⟩,
   ⟨0, 0, (State.reset.put LDG_REMAP_DUE 0 1).put LDG_SPARES_GEN_FREE 0 0, by decide +kernel⟩,
   ⟨14658, 0, (State.reset.put LDG_REMAP_DUE 14658 1).put LDG_SPARES_GEN_FREE 0 0, by decide +kernel⟩,
   ⟨0, 0, State.reset, by decide +kernel⟩,
   ⟨1, 16 * 15104, ((State.reset.put LDG_ROT 0 2).put LDG_STAT_ROTATING 0 1).put LDG_SECTOR_CTR (16 * 15104) 7, by decide +kernel⟩,
   ⟨1, ((State.reset.put LDG_ROT 0 2).put LDG_STAT_ROTATING 0 1), by decide +kernel⟩,
   ⟨1, ((State.reset.put LDG_ROT 0 2).put LDG_STAT_ROTATING 0 1).putBytes 0x23B0_0004 [1, 0, 0, 0], by decide +kernel⟩,
   ⟨State.reset, by decide +kernel⟩,
   ⟨⟨0x30FFF, [(0, 9), (255, 8)], 1, 5⟩, { ((State.reset.put LDG_STAT_STATE 0 2).put LDG_PF_G 0 2) with staged := [⟨0x30FFE, [(255, 3)], 0, 4⟩, ⟨0x30FFF, [(0, 9), (255, 8)], 1, 5⟩] }, by decide +kernel⟩,
   ⟨State.reset, by decide +kernel⟩,
   ⟨{ ((State.reset.put LDG_STAT_STATE 0 2).put LDG_PF_G 0 1) with staged := [⟨0x30FFE, [(255, 3)], 2, 4⟩] }, by decide +kernel⟩,
   ⟨State.reset, by decide +kernel⟩⟩

theorem wit_PortcullisUnits :
    (∃ (x : TamperReads) (pins : BitVec 2) (h0 : Byte) (h1 : Byte) (v : Nat) (s : State), (v = (readTampers x + pinSensors pins h0.toNat h1.toNat s) &&& sensorsArmed s &&& (63 - s.get PCS_TMP_STAT_SEEN 0)) ∧ (v ≠ 0) ∧ (s.domOn domPortcullis = true)) ∧
    (∃ (x : TamperReads) (pins : BitVec 2) (h0 : Byte) (h1 : Byte) (v : Nat) (k : Fin 6) (i : Nat) (s : State), (v = (readTampers x + pinSensors pins h0.toNat h1.toNat s) &&& sensorsArmed s &&& (63 - s.get PCS_TMP_STAT_SEEN 0)) ∧ (v = 2 ^ k.val) ∧ (s.domOn domPortcullis = true) ∧ (i = s.get KEY_LOG_NEXT 0)) ∧
    (∃ (x : TamperReads) (pins : BitVec 2) (h0 : Byte) (h1 : Byte) (v : Nat) (s : State), (v = (readTampers x + pinSensors pins h0.toNat h1.toNat s) &&& sensorsArmed s &&& (63 - s.get PCS_TMP_STAT_SEEN 0)) ∧ (v = 0)) ∧
    (∃ (x : TamperReads) (pins : BitVec 2) (h0 : Byte) (h1 : Byte) (v : Nat) (s : State), (v = (readTampers x + pinSensors pins h0.toNat h1.toNat s) &&& sensorsArmed s &&& (63 - s.get PCS_TMP_STAT_SEEN 0)) ∧ (v ≠ 0) ∧ (s.domOn domPortcullis = false)) ∧
    (∃ (s : State), (s.get PCS_STAT_WIPING 0 = 1)) ∧
    (∃ (s : State), (s.get SPAD_CLR 0 = 1) ∧ (s.get SPAD_AT 0 + 4096 ≤ s.get CORE_COUNT 0)) ∧
    (∃ (s : State), (s.get PCS_STAT_WIPING 0 = 0) ∧ (s.get CORE_COUNT 0 < s.get SPAD_AT 0 + 4096)) ∧
    (∃ (rep : Bool) (prop : Bool) (s : State), (s.get PCS_STAT_DRBG_OK 0 = 1) ∧ ((rep = true ∨ prop = true))) ∧
    (∃ (rep : Bool) (prop : Bool) (s : State), (s.get PCS_STAT_DRBG_OK 0 = 0 ∨ (rep = false ∧ prop = false))) ∧
    (∃ (_pass : Bool) (s : State), (s.domOn domPortcullis = true) ∧ (s.get PCS_STAT_DRBG_OK 0 = 0) ∧ (s.get DRBG_NEXT 0 ≤ s.get CORE_COUNT 0)) ∧
    (∃ (_pass : Bool) (s : State), (s.domOn domPortcullis = false ∨ s.get PCS_STAT_DRBG_OK 0 = 1 ∨ s.get CORE_COUNT 0 < s.get DRBG_NEXT 0)) ∧
    (∃ (s : State), (s.get PCS_STAT_DRBG_OK 0 = 1) ∧ ((2 ^ 20 ≤ s.get DRBG_REQS 0 ∨ s.get DRBG_SEEDED 0 + 8000000000 ≤ s.get CORE_COUNT 0))) ∧
    (∃ (s : State), (s.get PCS_STAT_DRBG_OK 0 = 0 ∨ (s.get DRBG_REQS 0 < 2 ^ 20 ∧ s.get CORE_COUNT 0 < s.get DRBG_SEEDED 0 + 8000000000))) ∧
    (∃ (s : State), (s.get HIF_PF_SEC_SEC_EN 0 = 1) ∧ (s.get SESS_END 0 ≤ s.get CORE_COUNT 0)) ∧
    (∃ (s : State), (s.get HIF_PF_SEC_SEC_EN 0 = 0 ∨ s.get CORE_COUNT 0 < s.get SESS_END 0)) ∧
    (∃ (q : Requester) (_v : Word) (s : State), (s.permit q .registers 0x4120_0004 true = .yes)) ∧
    (∃ (s : State), (s.domOn domPortcullis = false) ∧ ((s.get PCS_WAKE 0 = 1 ∨ s.get TMP_LATCH 0 ≠ 0))) ∧
    (∃ (s : State), (s.domOn domPortcullis = true ∨ (s.get PCS_WAKE 0 = 0 ∧ s.get TMP_LATCH 0 = 0))) ∧
    (∃ (r : Region) (a : Nat) (wr : Bool) (s : State), (s.permit .debug r a wr = .yes)) ∧
    (∃ (a : BitVec 43) (s : State), (a.toNat < 2 ^ 40) ∧ (regionOf a.toNat = .registers) ∧ (secureOnly a.toNat = false) ∧ (a.toNat % 4 = 0) ∧ (s.get DEV_CAP_DEBUG_OPEN 0 = 0)) :=
  ⟨⟨⟨0, 0, 0, 0, 0, 0, 1800, 25, 0⟩, 3, 255, 255, 48, ((((State.reset.put PCS_TMP_EN_EN 0 63).put PCS_TMP_CFG_POL0 0 1).put PCS_TMP_CFG_POL1 0 1).put HIF_PF_SEC_SEC_EN 0 1).put PCS_TMP_CFG_KILL_SAK 0 1, by decide +kernel⟩,
   ⟨⟨0, 0, 9, 700, 0, 0, 2000, 136, 100⟩, 0, 0, 0, 8, 3, 15, ((State.reset.put PCS_LC_STATE 0 2).put KEY_LOG_NEXT 0 15), by decide +kernel⟩,
   ⟨⟨1, 1, 0, 0, 0, 0, 1800, 25, 0⟩, 0, 0, 0, 0, (State.reset.put PCS_LC_STATE 0 4).put PCS_TMP_EN_EN 0 63, by decide +kernel⟩,
   ⟨⟨1, 1, 0, 0, 0, 0, 1800, 25, 0⟩, 0, 0, 0, 1, (State.reset.put PCS_LC_STATE 0 2).put DOM_OFF 32 1, by decide +kernel⟩,
   ⟨State.reset.put PCS_STAT_WIPING 0 1, by decide +kernel⟩,
   ⟨(State.reset.put SPAD_CLR 0 1).put CORE_COUNT 0 4096, by decide +kernel⟩,
   ⟨State.reset, by decide +kernel⟩,
   ⟨false, true, State.reset.put PCS_STAT_DRBG_OK 0 1, by decide +kernel⟩,
   ⟨true, true, State.reset.put PCS_STAT_DRBG_OK 0 0, by decide +kernel⟩,
   ⟨false, State.reset.put CORE_COUNT 0 5, by decide +kernel⟩,
   ⟨true, State.reset.put DRBG_NEXT 0 1, by decide +kernel⟩,
   ⟨(State.reset.put PCS_STAT_DRBG_OK 0 1).put DRBG_REQS 0 (2 ^ 20), by decide +kernel⟩,
   ⟨State.reset, by decide +kernel⟩,
   ⟨(State.reset.put HIF_PF_SEC_SEC_EN 0 1).put CORE_COUNT 0 7, by decide +kernel⟩,
   ⟨State.reset, by decide +kernel⟩,
   ⟨.pcs, 0x80000001, State.reset, by decide +kernel⟩,
   ⟨((State.reset.put DOM_OFF 32 1).put PCS_WAKE 0 1).put TMP_LATCH 0 32, by decide +kernel⟩,
   ⟨State.reset, by decide +kernel⟩,
   ⟨.registers, 0x40000000, true, State.reset.put DEV_CAP_DEBUG_OPEN 0 1, by decide +kernel⟩,
   ⟨0x40000000, State.reset.put DEV_CAP_DEBUG_OPEN 0 0, by decide +kernel⟩⟩

theorem wit_PowerAndPlanner :
    (∃ (f : Fin 4) (mv : BitVec 16) (s : State), (s.get PWR_FEED_PRESENT f = 1) ∧ (mv.toNat < (if f.val < 2 then 18000 else 4300)) ∧ ((f.val < 2 → s.get PWR_FEED_PRESENT (1 - f) = 1))) ∧
    (∃ (f : Fin 4) (mv : BitVec 16) (s : State), (f.val < 2) ∧ (s.get PWR_FEED_PRESENT f = 1) ∧ (mv.toNat < 18000) ∧ (s.get PWR_FEED_PRESENT (1 - f) = 0) ∧ (s.get FIO_STAT_ISL_UP 0 = 1)) ∧
    (∃ (f : Fin 4) (mv : BitVec 16) (s : State), (s.get PWR_FEED_PRESENT f = 0 ∨ (if f.val < 2 then 18000 else 4300) ≤ mv.toNat)) ∧
    (∃ (f : Fin 4) (mv : BitVec 16) (s : State), (s.get PWR_FEED_PRESENT f = 0) ∧ ((if f.val < 2 then 18300 else 4400) ≤ mv.toNat)) ∧
    (∃ (f : Fin 4) (mv : BitVec 16) (s : State), (s.get PWR_FEED_PRESENT f = 1 ∨ mv.toNat < (if f.val < 2 then 18300 else 4400))) ∧
    (∃ (s : State), (s.get PWR_FEED_CFG_TEST_S 0 ≠ 0) ∧ (s.get PWR_STAT_TESTING 0 = 0) ∧ (s.get FT_AT 0 + s.get PWR_FEED_CFG_TEST_S 0 * second ≤ s.get CORE_COUNT 0 + 1) ∧ (s.get PWR_STAT_PF 0 = 0) ∧ (s.get PWR_FEED_PRESENT 0 = 1)) ∧
    (∃ (s : State), (s.get PWR_FEED_CFG_TEST_S 0 ≠ 0) ∧ (s.get PWR_STAT_TESTING 0 = 0) ∧ (s.get FT_AT 0 + s.get PWR_FEED_CFG_TEST_S 0 * second ≤ s.get CORE_COUNT 0 + 1) ∧ (s.get PWR_STAT_PF 0 = 0) ∧ ((∀ f : Fin 4, s.get PWR_FEED_PRESENT f = 0))) ∧
    (∃ (s : State), (s.get PWR_FEED_CFG_TEST_S 0 ≠ 0) ∧ (s.get PWR_STAT_TESTING 0 = 0) ∧ (s.get FT_AT 0 + s.get PWR_FEED_CFG_TEST_S 0 * second ≤ s.get CORE_COUNT 0 + 1) ∧ (s.get PWR_STAT_PF 0 = 1)) ∧
    (∃ (s : State), (s.get PWR_FEED_CFG_TEST_S 0 = 0 ∨ s.get PWR_STAT_TESTING 0 = 1 ∨ s.get CORE_COUNT 0 + 1 < s.get FT_AT 0 + s.get PWR_FEED_CFG_TEST_S 0 * second)) ∧
    (∃ (k : Nat) (_mv : BitVec 16) (_carries : Bool) (_uf : BitVec 16) (s : State), (s.get FT_STEP 0 = k) ∧ (1 ≤ k) ∧ (k ≤ 4) ∧ (FeedsThere s)) ∧
    (∃ (mv : BitVec 16) (_carries : Bool) (_uf : BitVec 16) (s : State), (s.get FT_STEP 0 = 5) ∧ (10 * s.get PWR_PF_PF_WARN 0 < mv.toNat)) ∧
    (∃ (mv : BitVec 16) (_carries : Bool) (_uf : BitVec 16) (s : State), (s.get FT_STEP 0 = 5) ∧ (mv.toNat ≤ 10 * s.get PWR_PF_PF_WARN 0)) ∧
    (∃ (_mv : BitVec 16) (_carries : Bool) (_uf : BitVec 16) (s : State), (s.get FT_STEP 0 = 0)) ∧
    (∃ (_rails : List (BitVec 16 × BitVec 16)) (_feeds : List (BitVec 16 × BitVec 16 × Bool)) (_tj : BitVec 16) (s : State), (s.get CEST_RUN 0 < 2)) ∧
    (∃ (n : Nat) (_rails : List (BitVec 16 × BitVec 16)) (_feeds : List (BitVec 16 × BitVec 16 × Bool)) (_tj : BitVec 16) (s : State), (n = min (1000 * max 1 (s.get PWR_CAP_WIN 0)) (s.powers.length + 1))) ∧
    (∃ (w : Nat) (_rails : List (BitVec 16 × BitVec 16)) (_feeds : List (BitVec 16 × BitVec 16 × Bool)) (_tj : BitVec 16) (s : State), (w = 1000 * max 1 (s.get PWR_CAP_WIN 0)) ∧ (s.get PWR_STAT_CAP_EXCEEDED 0 < 2)) ∧
    (∃ (_words : List Ecc) (s : State), (s.get PLAN_DUE 0 = 0) ∧ ((s.started = true ∨ s.get CORE_COUNT 0 / 80000 ≤ s.get PLAN_GRID 0))) ∧
    (∃ (_words : List Ecc) (s : State), ((s.get PLAN_DUE 0 = 1 ∨ (s.get PLAN_DUE 0 = 0 ∧ s.started = false ∧ s.get PLAN_GRID 0 < s.get CORE_COUNT 0 / 80000))) ∧ (s.get PWR_STAT_PF 0 = 1)) ∧
    (∃ (_words : List Ecc) (q : BgReq) (s : State), ((s.get PLAN_DUE 0 = 1 ∨ (s.get PLAN_DUE 0 = 0 ∧ s.started = false ∧ s.get PLAN_GRID 0 < s.get CORE_COUNT 0 / 80000))) ∧ (s.get PWR_STAT_PF 0 = 0) ∧ (q ∈ s.bgReqs) ∧ (bgClass q.job ≠ 0) ∧ (q.job ≠ .scrub) ∧ ((s.bgReqs.filter (fun r => r.job = q.job)) = [q]) ∧ (q.job ∉ s.bgGrants)) ∧
    (∃ (_words : List Ecc) (p : Nat) (b : Nat) (s : State), ((s.get PLAN_DUE 0 = 1 ∨ (s.get PLAN_DUE 0 = 0 ∧ s.started = false ∧ s.get PLAN_GRID 0 < s.get CORE_COUNT 0 / 80000))) ∧ (s.get PWR_STAT_PF 0 = 0) ∧ (p = (if s.get PLAN_DUE 0 = 1 then s.get LIM_CYC_PERIOD_PERIOD 0 else 80000)) ∧ (b = (if s.get PWR_CAP_CAP_MW 0 = 0 then s.get PWR_BUDGET_BG_MW 0 * p * 5 else min (s.get PWR_BUDGET_BG_MW 0 * p * 5) ((s.get PWR_CAP_CAP_MW 0 - s.get PWR_TOTAL_POWER_MW 0) * p * 5))) ∧ (((bgAskAll s).bgReqs.map (fun r => bgCost r.job)).sum ≤ b)) ∧
    (∃ (mv : BitVec 16) (s : State), (s.get PWR_STAT_PF 0 = 0) ∧ (mv.toNat < 10 * s.get PWR_PF_PF_WARN 0) ∧ ((s.get FT_STEP 0 < 3 ∨ s.get FT_FELL 0 = 1)) ∧ ((s.get FT_FELL 0 = 0 ∨ s.get FT_WHOLE_AT 0 + 16000 ≤ s.get CORE_COUNT 0))) ∧
    (∃ (mv : BitVec 16) (s : State), (s.get PWR_STAT_PF 0 = 1 ∨ 10 * s.get PWR_PF_PF_WARN 0 ≤ mv.toNat ∨ (3 ≤ s.get FT_STEP 0 ∧ s.get FT_FELL 0 = 0) ∨ (s.get FT_FELL 0 = 1 ∧ s.get CORE_COUNT 0 < s.get FT_WHOLE_AT 0 + 16000))) ∧
    (∃ (ma : BitVec 16) (mv : BitVec 16) (dv : BitVec 16) (uf : Nat) (e : Nat) (s : State), (s.get PWR_STAT_PF 0 = 1) ∧ (s.get PF_HANDED 0 = 0) ∧ (s.get PF_AT 0 + 40000 ≤ s.get CORE_COUNT 0) ∧ (uf = (if dv.toNat < 5 then s.get PWR_PF_STAT_C_EST_UF 0 else ma.toNat * 40 / dv.toNat)) ∧ (e = uf * (mv.toNat * mv.toNat - 10 * s.get PWR_PF_VHOLD_MIN 0 * (10 * s.get PWR_PF_VHOLD_MIN 0)) / 2000000)) ∧
    (∃ (_ma : BitVec 16) (_mv : BitVec 16) (_dv : BitVec 16) (s : State), (s.get PWR_STAT_PF 0 = 0 ∨ s.get PF_HANDED 0 = 1 ∨ s.get CORE_COUNT 0 < s.get PF_AT 0 + 40000)) ∧
    (∃ (tj : BitVec 16) (s : State), (10 * (s.get PWR_TJ_WARN 0 : Int) ≤ tj.toInt) ∧ (s.get TJ_HOT 0 = 0)) ∧
    (∃ (tj : BitVec 16) (s : State), (tj.toInt < 10 * (s.get PWR_TJ_WARN 0 : Int) ∨ s.get TJ_HOT 0 = 1)) ∧
    (∃ (tj : BitVec 16) (s : State), (1120 < tj.toInt) ∧ (s.get TJ_OVER 0 = 0)) ∧
    (∃ (tj : BitVec 16) (s : State), (tj.toInt ≤ 1120 ∨ s.get TJ_OVER 0 = 1)) :=
  ⟨⟨3, 4299, (State.reset.put PWR_FEED_PRESENT 3 1).put PWR_STAT_PF 0 0, by decide +kernel⟩,
   ⟨0, 17999, ((State.reset.put PWR_FEED_PRESENT 0 1).put PWR_FEED_PRESENT 1 0).put FIO_STAT_ISL_UP 0 1, by decide +kernel⟩,
   ⟨1, 18000, State.reset, by decide +kernel⟩,
   ⟨2, 4400, State.reset.put PWR_FEED_PRESENT 2 0, by decide +kernel⟩,
   ⟨0, 18299, State.reset.put PWR_FEED_PRESENT 0 0, by decide +kernel⟩,
   ⟨(State.reset.put PWR_FEED_PRESENT 0 1).put CORE_COUNT 0 (10 * second), by decide +kernel⟩,
   ⟨((((State.reset.put CORE_COUNT 0 (10 * second)).put PWR_FEED_PRESENT 0 0).put PWR_FEED_PRESENT 1 0).put PWR_FEED_PRESENT 2 0).put PWR_FEED_PRESENT 3 0, by decide +kernel⟩,
   ⟨(State.reset.put PWR_STAT_PF 0 1).put CORE_COUNT 0 (10 * second), by decide +kernel⟩,
   ⟨State.reset.put CORE_COUNT 0 (10 * second - 2), by decide +kernel⟩,
   ⟨4, 4499, true, 0, ((((State.reset.put FT_STEP 0 4).put PWR_FEED_PRESENT 0 1).put PWR_FEED_PRESENT 1 1).put PWR_FEED_PRESENT 2 1).put PWR_FEED_PRESENT 3 1, by decide +kernel⟩,
   ⟨4401, true, 4000, (State.reset.put FT_STEP 0 5).put PWR_RAIL_MV 14 5000, by decide +kernel⟩,
   ⟨4400, true, 4000, State.reset.put FT_STEP 0 5, by decide +kernel⟩,
   ⟨1, true, 2, State.reset, by decide +kernel⟩,
   ⟨[(3, 4), (5, 6)], [(1, 2, true), (3, 4, false)], 65000, ((State.reset.put CEST_RUN 0 1).put PWR_PF_STAT_C_EST_UF 0 4000).put PWR_RAIL_MV 14 5000, by decide +kernel⟩,
   ⟨3, [(3, 4)], [], 900, { State.reset with powers := [7000, 9000] }, by decide +kernel⟩,
   ⟨10000, [(1000, 1)], [], 900, { ((State.reset.put WIN_US 0 9999).put PWR_CAP_CAP_MW 0 1).put PWR_CAP_WIN 0 10 with powers := [7000, 9000000] }, by decide +kernel⟩,
   ⟨[], State.reset, by decide +kernel⟩,
   ⟨[], ((State.reset.put PLAN_DUE 0 1).put PWR_STAT_PF 0 1).put RAIL_ACC 3 7000000, by decide +kernel⟩,
   ⟨[], ⟨.flow, 64⟩, { ((State.reset.put PLAN_DUE 0 1).put PWR_BUDGET_BG_MW 0 0) with bgReqs := [⟨.table 3, 2⟩, ⟨.flow, 64⟩] }, by decide +kernel⟩,
   ⟨[], 80000, 1500 * 80000 * 5, { ((State.reset.put CORE_COUNT 0 160000).put PLAN_GRID 0 1) with bgReqs := [⟨.table 3, 2⟩, ⟨.applier, 4⟩] }, by decide +kernel⟩,
   ⟨4399, State.reset.put CORE_COUNT 0 9, by decide +kernel⟩,
   ⟨4399, (State.reset.put FT_FELL 0 1).put CORE_COUNT 0 15999, by decide +kernel⟩,
   ⟨4000, 4360, 40, 4000, 20019, ((State.reset.put PWR_STAT_PF 0 1).put CORE_COUNT 0 40000).put LDG_STAT_STATE 0 2, by decide +kernel⟩,
   ⟨1, 2, 3, State.reset, by decide +kernel⟩,
   ⟨1050, State.reset, by decide +kernel⟩,
   ⟨1000, State.reset.put TJ_HOT 0 1, by decide +kernel⟩,
   ⟨1121, State.reset, by decide +kernel⟩,
   ⟨1120, State.reset, by decide +kernel⟩⟩

theorem wit_RedundantPair :
    (∃ (v : Nat) (l : Nat) (s : State), (s.get RDN_CFG_EN 0 = 1) ∧ (s.get RST_BOOT_STAGE 0 = 5) ∧ (v = claimNow s % 2 ^ 8 + (if s.get RDN_STAT_ROLE 0 = 1 then 2 ^ 8 else 0) + (if s.flag RDN_STAT_OWN_FIT 0 then 2 ^ 9 else 0) + (if s.flag PWR_STAT_PF 0 then 2 ^ 10 else 0) + 2 ^ 12 * (s.get CLAIM_SEQ 0 % 2 ^ 4)) ∧ (l = (if s.bit RDN_STAT_LINK 0 0 then 30 else 31)) ∧ (s.get RDN_CLAIM_CLAIM 0 < 2 ^ 8) ∧ (s.get CLAIM_SEQ 0 < 2 ^ 4)) ∧
    (∃ (s : State), (s.get RDN_CFG_EN 0 = 0 ∨ s.get RST_BOOT_STAGE 0 ≠ 5)) ∧
    (∃ (p : Fin 2) (w : Word) (o : Nat) (s : State), (s.get RDN_CFG_EN 0 = 1) ∧ (crc8 16 (w.toNat % 2 ^ 16) 0 = w.toNat / 2 ^ 16 % 2 ^ 8) ∧ (o = s.get PEER_WORD (1 - p))) ∧
    (∃ (_p : Fin 2) (w : Word) (s : State), (s.get RDN_CFG_EN 0 = 1) ∧ (¬ crc8 16 (w.toNat % 2 ^ 16) 0 = w.toNat / 2 ^ 16 % 2 ^ 8)) ∧
    (∃ (_p : Fin 2) (_w : Word) (s : State), (s.get RDN_CFG_EN 0 = 0)) ∧
    (∃ (p : Fin 2) (s : State), (s.bit RDN_STAT_PATHS 0 p = true) ∧ (s.get PEER_AT p + 4800 < s.get CORE_COUNT 0)) ∧
    (∃ (p : Fin 2) (s : State), (s.bit RDN_STAT_PATHS 0 p = false ∨ s.get CORE_COUNT 0 ≤ s.get PEER_AT p + 4800)) ∧
    (∃ (s : State), (s.get RDN_CFG_EN 0 = 1) ∧ (s.get LIM_PHASE 0 ≠ 0) ∧ (s.get LATCH_DONE 0 = 0) ∧ (s.reached (s.get LIM_CYC_CTRL_DOM 0) ((s.get LIM_NEXT 0 + 2 ^ 40 - 4000 * 256) % 2 ^ 40) = true)) ∧
    (∃ (s : State), (s.get RDN_CFG_EN 0 = 0 ∨ s.get LIM_PHASE 0 = 0 ∨ s.get LATCH_DONE 0 = 1 ∨ s.reached (s.get LIM_CYC_CTRL_DOM 0) ((s.get LIM_NEXT 0 + 2 ^ 40 - 4000 * 256) % 2 ^ 40) = false)) ∧
    (∃ (s : State), (s.get RDN_CFG_EN 0 = 1) ∧ (s.get HOLD_OUT 0 = 0) ∧ (s.get OWNER_AT 0 + max 1 (s.get RDN_HOLD_HOLD 0) * 800 ≤ s.get CORE_COUNT 0)) ∧
    (∃ (s : State), (s.get RDN_CFG_EN 0 = 0 ∨ s.get HOLD_OUT 0 = 1 ∨ s.get CORE_COUNT 0 < s.get OWNER_AT 0 + max 1 (s.get RDN_HOLD_HOLD 0) * 800)) ∧
    (∃ (_torn : List (Fin 253952)) (_i : Fin 8) (s : State), (s.get RDN_CFG_EN 0 = 1) ∧ (s.get RDN_CFG_MIRROR_EN 0 = 1) ∧ (s.get RDN_STAT_ROLE 0 = 1) ∧ (s.get LIM_PHASE 0 = 2) ∧ (s.get MIR_READ 0 = 0) ∧ (s.get PASS_PHASE 0 = 0) ∧ (s.get RDN_STAT_LINK 0 ≠ 0) ∧ (s.get RDN_STAT_LINK 0 < 4) ∧ (PastBoundary (s.get RDN_MIR_CFG_OFFSET 0) s)) ∧
    (∃ (_torn : List (Fin 253952)) (s : State), (s.get RDN_CFG_EN 0 = 0 ∨ s.get RDN_CFG_MIRROR_EN 0 = 0 ∨ s.get RDN_STAT_ROLE 0 ≠ 1 ∨ s.get LIM_PHASE 0 ≠ 2 ∨ s.get MIR_READ 0 = 1 ∨ s.get PASS_PHASE 0 ≠ 0 ∨ ¬ PastBoundary (s.get RDN_MIR_CFG_OFFSET 0) s ∨ s.get RDN_STAT_LINK 0 = 0)) ∧
    (∃ (i : Fin 8) (first : Fin 4096) (x : List Byte × Byte) (n : Nat) (a : Nat) (st : Nat) (s : State), (Mirrors s) ∧ (s.get RDN_MIR_VALID i = 1) ∧ (first.val < s.get RDN_MIR_NSLOTS i) ∧ (x.1.length = 32) ∧ (n = s.get RDN_MIR_FIRST_SLOT i + first) ∧ (n < s.slots) ∧ (a = s.slotAddr s.fillHalf (32 * n)) ∧ (st = s.statusAddr s.fillHalf n)) ∧
    (∃ (i : Fin 8) (first : Fin 4096) (xs : List (List Byte × Byte)) (j : Nat) (n : Nat) (s : State), (Mirrors s) ∧ (s.get RDN_MIR_VALID i = 1) ∧ (first.val + xs.length ≤ s.get RDN_MIR_NSLOTS i) ∧ (xs.length ≤ 480) ∧ ((∀ x ∈ xs, x.1.length = 32)) ∧ (j < xs.length) ∧ (n = s.get RDN_MIR_FIRST_SLOT i + first + j) ∧ (s.get RDN_MIR_FIRST_SLOT i + first + xs.length ≤ s.slots) ∧ (mappedRx s = [])) ∧
    (∃ (_i : Fin 8) (_first : Fin 4096) (_xs : List (List Byte × Byte)) (s : State), (¬ Mirrors s) ∧ (s.get RDN_CFG_EN 0 < 2) ∧ (s.get RDN_CFG_MIRROR_EN 0 < 2) ∧ (s.get MIR_OVER 0 < 2)) ∧
    (∃ (r : RxFrame) (l : Fin 2) (s : State), (s.get RDN_CFG_EN 0 = 1) ∧ (r.port.val = 30 + l.val) ∧ (r.fcsOk = true) ∧ (octet r.bytes 19 = 1) ∧ (s.bit RDN_STAT_LINK 0 l = false)) ∧
    (∃ (r : RxFrame) (l : Fin 2) (s : State), (s.get RDN_CFG_EN 0 = 1) ∧ (r.port.val = 30 + l.val) ∧ (r.fcsOk = true) ∧ (octet r.bytes 19 = 1) ∧ (s.bit RDN_STAT_LINK 0 l = true) ∧ (octet r.bytes 18 = 0x5F)) ∧
    (∃ (r : RxFrame) (l : Fin 2) (i : Fin 8) (first : Fin 4096) (s : State), (s.get RDN_CFG_EN 0 = 1) ∧ (r.port.val = 30 + l.val) ∧ (r.fcsOk = true) ∧ (octet r.bytes 19 = 1) ∧ (s.bit RDN_STAT_LINK 0 l = true) ∧ (octet r.bytes 18 = 0x5D) ∧ (payloadWord r.bytes 0 / 2 ^ 16 = s.get DEV_HUB_LINE_ID 0) ∧ (payloadWord r.bytes 1 / 2 ^ 24 % 8 = i.val) ∧ (payloadWord r.bytes 3 % 2 ^ 18 = first.val)) ∧
    (∃ (n : Nat) (s : State), (Mirrors s) ∧ (PastBoundary (s.get RDN_MIR_CFG_MIRROR_END 0) s) ∧ (n = ((((List.range 8).filter (fun i => s.flag RDN_MIR_VALID i)).flatMap (fun i => (List.range (s.get RDN_MIR_NSLOTS i)).map (fun j => s.get RDN_MIR_FIRST_SLOT i + j))).filter (fun k => k < s.slots ∧ s.flag MIR_GOT k = false ∧ k ∉ mappedRx s)).length)) ∧
    (∃ (s : State), (s.get RDN_CFG_EN 0 = 0 ∨ s.get RDN_CFG_MIRROR_EN 0 = 0 ∨ s.get RDN_STAT_ROLE 0 ≠ 2 ∨ s.get LIM_PHASE 0 ≠ 2 ∨ s.get MIR_OVER 0 = 1 ∨ ¬ PastBoundary (s.get RDN_MIR_CFG_MIRROR_END 0) s)) ∧
    (∃ (_rs : BitVec 6) (s : State), (s.get RDN_CFG_EN 0 = 1) ∧ (s.get RDN_STAT_ROLE 0 = 2) ∧ (s.get SBT_STEP 0 = 0) ∧ (s.get RDN_TEST_PERIOD_S 0 ≠ 0) ∧ (s.get SBT_AT 0 + s.get RDN_TEST_PERIOD_S 0 * 800000000 ≤ s.get CORE_COUNT 0 + 1)) ∧
    (∃ (_rs : BitVec 6) (k : Nat) (s : State), (s.get RDN_CFG_EN 0 = 1) ∧ (s.get RDN_STAT_ROLE 0 = 2) ∧ (s.get SBT_STEP 0 = k + 1) ∧ (k < 6) ∧ (.selfTest ∈ s.bgGrants) ∧ (s.get RDN_TEST_RESULT 0 < 2 ^ 6) ∧ (s.get RDN_CLAIM_CLAIM 0 < 2 ^ 8)) ∧
    (∃ (_rs : BitVec 6) (s : State), (s.get RDN_CFG_EN 0 = 0 ∨ s.get RDN_STAT_ROLE 0 ≠ 2 ∨ (s.get SBT_STEP 0 = 0 ∧ (s.get RDN_TEST_PERIOD_S 0 = 0 ∨ s.get CORE_COUNT 0 + 1 < s.get SBT_AT 0 + s.get RDN_TEST_PERIOD_S 0 * 800000000)) ∨ (s.get SBT_STEP 0 ≠ 0 ∧ .selfTest ∉ s.bgGrants))) ∧
    (∃ (l : Fin 2) (s : State), (s.get RDN_CFG_EN 0 = 1) ∧ (s.bit RDN_STAT_LINK 0 l = false) ∧ (s.get RDN_STAT_LINK 0 < 4) ∧ (s.domOn (domSerdes (30 + l)) = true) ∧ (s.get CLK_STAT_SERDES_REF_OK 0 = 1) ∧ (s.get RAIL_BAD 4 = 0)) ∧
    (∃ (l : Fin 2) (s : State), (s.get RDN_CFG_EN 0 = 0 ∨ s.bit RDN_STAT_LINK 0 l = true ∨ s.domOn (domSerdes (30 + l)) = false ∨ s.get CLK_STAT_SERDES_REF_OK 0 = 0 ∨ s.get RAIL_BAD 4 = 1)) ∧
    (∃ (l : Fin 2) (s : State), (s.get RDN_CFG_EN 0 = 1) ∧ (s.bit RDN_STAT_LINK 0 l = true) ∧ (s.get RDN_STAT_LINK 0 < 4)) ∧
    (∃ (l : Fin 2) (s : State), (s.get RDN_CFG_EN 0 = 0 ∨ s.bit RDN_STAT_LINK 0 l = false)) :=
  ⟨⟨200 + 256 + 512 + 4096 * 15, 30, (((((((State.reset.put RDN_CFG_EN 0 1).put RST_BOOT_STAGE 0 5).put RDN_CLAIM_CLAIM 0 200).put RDN_STAT_ROLE 0 1).put LIM_STAT_RUNNING 0 1).put RDN_STAT_OWN_FIT 0 1).put CLAIM_SEQ 0 15).put RDN_STAT_LINK 0 3, by decide +kernel⟩,
   ⟨State.reset, by decide +kernel⟩,
   ⟨1, BitVec.ofNat 32 (claimWordOf 0x1164), 0x2078, (((((State.reset.put RDN_CFG_EN 0 1).put PEER_WORD 0 0x2078).put RDN_STAT_PATHS 0 1).put CORE_COUNT 0 9).put RDN_STAT_ROLE 0 1).put RDN_STAT_PEER_FIT 0 1, by decide +kernel⟩,
   ⟨0, 1, State.reset.put RDN_CFG_EN 0 1, by decide +kernel⟩,
   ⟨0, 1, State.reset, by decide +kernel⟩,
   ⟨0, (State.reset.put RDN_STAT_PATHS 0 1).put CORE_COUNT 0 4801, by decide +kernel⟩,
   ⟨0, (State.reset.put RDN_STAT_PATHS 0 1).put CORE_COUNT 0 4800, by decide +kernel⟩,
   ⟨(((State.reset.put RDN_CFG_EN 0 1).put LIM_PHASE 0 2).put LIM_NEXT 0 1024000).put SENT_CLAIM 0 3, by decide +kernel⟩,
   ⟨(State.reset.put RDN_CFG_EN 0 1).put LIM_PHASE 0 2 |>.put LIM_NEXT 0 1024001, by decide +kernel⟩,
   ⟨((State.reset.put RDN_CFG_EN 0 1).put FIO_GATE 0 1).put RDN_HOLD_HOLD 0 1 |>.put CORE_COUNT 0 800, by decide +kernel⟩,
   ⟨State.reset.put RDN_CFG_EN 0 1, by decide +kernel⟩,
   ⟨[4], 2, ((((((((State.reset.put RDN_CFG_EN 0 1).put RDN_CFG_MIRROR_EN 0 1).put RDN_STAT_ROLE 0 1).put LIM_PHASE 0 2).put RDN_STAT_LINK 0 2).put RDN_MIR_VALID 2 1).put RDN_MIR_FIRST_SLOT 2 3).put RDN_MIR_NSLOTS 2 3).put RDN_MIR_VALID 5 1 |>.put RDN_MIR_NSLOTS 5 2, by decide +kernel⟩,
   ⟨[], State.reset, by decide +kernel⟩,
   ⟨3, 4, (List.replicate 32 7, 5), 14, sbBase + 448, sbBase + 32768 + 14, ((((((((State.reset.put RDN_CFG_EN 0 1).put RDN_CFG_MIRROR_EN 0 1).put RDN_STAT_ROLE 0 2).put LIM_PHASE 0 2).put RDN_MIR_VALID 3 1).put RDN_MIR_FIRST_SLOT 3 10).put RDN_MIR_NSLOTS 3 9).put LIM_BASE_SLOTS_K 0 1).put LIM_BASE_BASE 0 0 |>.put LIM_STAT_FILL_HALF 0 0, by decide +kernel⟩,
   ⟨3, 4, [(List.replicate 32 7, 5), (List.replicate 32 8, 0)], 1, 15, (((((((State.reset.put RDN_CFG_EN 0 1).put RDN_CFG_MIRROR_EN 0 1).put RDN_STAT_ROLE 0 2).put LIM_PHASE 0 2).put RDN_MIR_VALID 3 1).put RDN_MIR_FIRST_SLOT 3 10).put RDN_MIR_NSLOTS 3 6).put LIM_BASE_SLOTS_K 0 1, by decide +kernel⟩,
   ⟨0, 0, [], State.reset, by decide +kernel⟩,
   ⟨⟨31, List.replicate 18 0 ++ [0x5F, 1, 0, 0] ++ [5, 0, 0, 0] ++ [3, 0, 0, 0] ++ [0, 0, 4, 0] ++ List.replicate 56 7, true, 0, 0, false, 0, 0, false⟩, 1, (State.reset.put RDN_CFG_EN 0 1).put RDN_STAT_LINK 0 1, by decide +kernel⟩,
   ⟨⟨31, List.replicate 18 0 ++ [0x5F, 1, 0, 0] ++ [5, 0, 0, 0] ++ [3, 0, 0, 0] ++ [0, 0, 4, 0] ++ List.replicate 56 7, true, 0, 0, false, 0, 0, false⟩, 1, ((State.reset.put RDN_CFG_EN 0 1).put RDN_STAT_LINK 0 2), by decide +kernel⟩,
   ⟨⟨31, List.replicate 18 0 ++ [0x5D, 1, 0, 0] ++ [5, 0, 0, 7] ++ [3, 0, 0, 0] ++ [255, 15, 4, 0] ++ List.replicate 56 7, true, 0, 0, false, 0, 0, false⟩, 1, 7, 4095, ((State.reset.put RDN_CFG_EN 0 1).put RDN_STAT_LINK 0 2).put DEV_HUB_LINE_ID 0 0, by decide +kernel⟩,
   ⟨2, (((((((((State.reset.put RDN_CFG_EN 0 1).put RDN_CFG_MIRROR_EN 0 1).put LIM_BASE_SLOTS_K 0 1).put RDN_STAT_ROLE 0 2).put LIM_PHASE 0 2).put RDN_MIR_VALID 3 1).put RDN_MIR_FIRST_SLOT 3 10).put RDN_MIR_NSLOTS 3 3).put MIR_GOT 11 1).put RDN_MIR_CFG_MIRROR_END 0 0, by decide +kernel⟩,
   ⟨State.reset, by decide +kernel⟩,
   ⟨0, (((State.reset.put RDN_CFG_EN 0 1).put RDN_STAT_ROLE 0 2).put RDN_TEST_PERIOD_S 0 1).put CORE_COUNT 0 799999999, by decide +kernel⟩,
   ⟨62, 5, { ((((State.reset.put RDN_CFG_EN 0 1).put RDN_STAT_ROLE 0 2).put SBT_STEP 0 6).put RDN_TEST_RESULT 0 31) with bgGrants := [.flow, .selfTest] }, by decide +kernel⟩,
   ⟨0, State.reset, by decide +kernel⟩,
   ⟨1, (State.reset.put RDN_CFG_EN 0 1).put RDN_STAT_LINK 0 1, by decide +kernel⟩,
   ⟨1, State.reset, by decide +kernel⟩,
   ⟨1, (State.reset.put RDN_CFG_EN 0 1).put RDN_STAT_LINK 0 3, by decide +kernel⟩,
   ⟨1, State.reset, by decide +kernel⟩⟩

theorem wit_ResetsAndWatchdog :
    (∃ (s : State), (s.get TMP_LATCH 0 = 0) ∧ (s.get FUSE_OP 0 = 0)) ∧
    (∃ (s : State), (s.get TMP_LATCH 0 = 0) ∧ (s.get FUSE_OP 0 ≠ 0)) ∧
    (∃ (s : State), (s.get TMP_LATCH 0 < 2 ^ 6) ∧ (s.get FUSE_OP 0 = 0)) ∧
    (∃ (s : State), (s.get RST_REQ 0 = 1) ∧ (s.get RST_CMD 0 = 0) ∧ (s.get PWR_STAT_PF 0 = 0) ∧ (s.get TMP_LATCH 0 = 0) ∧ ((s.get LDG_FLUSH_BUSY 0 = 0 ∨ s.get RST_REQ_AT 0 + 8000000 ≤ s.get CORE_COUNT 0)) ∧ (s.get RST_REQ_SRC 0 < 16) ∧ (s.get FUSE_OP 0 = 0)) ∧
    (∃ (s : State), (s.get RST_REQ 0 = 2) ∧ (s.get RST_CMD 0 = 0) ∧ (s.get PWR_STAT_PF 0 = 0) ∧ (s.get TMP_LATCH 0 = 0) ∧ ((s.get LDG_FLUSH_BUSY 0 = 0 ∨ s.get RST_REQ_AT 0 + 8000000 ≤ s.get CORE_COUNT 0)) ∧ (s.get RST_REQ_SRC 0 < 16)) ∧
    (∃ (s : State), (s.get RST_CMD 0 = 0) ∧ (s.get RST_REQ 0 = 0 ∨ s.get PWR_STAT_PF 0 = 1 ∨ (s.get LDG_FLUSH_BUSY 0 = 1 ∧ s.get CORE_COUNT 0 < s.get RST_REQ_AT 0 + 8000000))) ∧
    (∃ (mv : BitVec 16) (s : State), (s.get PWR_STAT_PF 0 = 1) ∧ (s.get LDG_STAT_STATE 0 = 3) ∧ (10 * s.get PWR_PF_PF_OK 0 < mv.toNat) ∧ (s.get TMP_LATCH 0 = 0) ∧ (s.get FUSE_OP 0 = 0)) ∧
    (∃ (mv : BitVec 16) (s : State), (s.get PWR_STAT_PF 0 = 0 ∨ s.get LDG_STAT_STATE 0 ≠ 3 ∨ mv.toNat ≤ 10 * s.get PWR_PF_PF_OK 0)) ∧
    (∃ (s : State), (s.get FATAL_PATH 0 = 2) ∧ (s.get CLK_STAT_REF_OK 0 = 1) ∧ (s.get PWR_STAT_PF 0 = 0) ∧ (s.get CLK_REF_AT 0 + 800000 ≤ s.get CORE_COUNT 0) ∧ (s.get TMP_LATCH 0 = 0) ∧ (s.get FUSE_OP 0 = 0)) ∧
    (∃ (s : State), (s.get FATAL_PATH 0 ≠ 2 ∨ s.get CLK_STAT_REF_OK 0 = 0 ∨ s.get PWR_STAT_PF 0 = 1 ∨ s.get CORE_COUNT 0 < s.get CLK_REF_AT 0 + 800000)) ∧
    (∃ (s : State), (s.get PWR_STAT_PF 0 = 0) ∧ (s.get RST_REQ 0 = 0)) ∧
    (∃ (s : State), (s.get PWR_STAT_PF 0 = 1 ∨ s.get RST_REQ 0 ≠ 0)) ∧
    (∃ (s : State), (s.permit .cc .registers 0x40100004 true = .yes)) ∧
    (∃ (q : Requester) (s : State), (q ≠ .cc) ∧ (s.permit q .registers 0x40100004 true = .no)) ∧
    (∃ (s : State), (s.permit .cc .registers 0x40100004 true = .yes)) ∧
    (∃ (q : Requester) (s : State), (q ≠ .cc) ∧ (s.permit q .registers 0x40100004 true = .no)) ∧
    (∃ (q : Requester) (v : Word) (s : State), ((q = .pf ∨ q = .cc)) ∧ (s.permit q .registers 0x40100008 true = .yes) ∧ (v.toNat / 2 ^ 16 ≠ 0xD0A1)) ∧
    (∃ (q : Requester) (v : Word) (s : State), ((q = .pf ∨ q = .cc)) ∧ (s.permit q .registers 0x40100008 true = .yes) ∧ (v.toNat / 2 ^ 16 = 0xD0A1)) ∧
    (∃ (q : Requester) (_v : Word) (_s : State), (q ≠ .pf) ∧ (q ≠ .cc)) ∧
    (∃ (r : Fin 32) (pa : Nat) (flags : Nat) (tag : Nat) (k : Nat) (s : State), (Asks r pa 0x0103 flags tag (parsOf (toBytes 1 k)) s) ∧ (flags < 4) ∧ (s.get HIF_RING_OWN_FUNC r = 0) ∧ (k < 2)) ∧
    (∃ (r : Fin 32) (pa : Nat) (flags : Nat) (tag : Nat) (s : State), (Asks r pa 0x0103 flags tag (parsOf (toBytes 1 2)) s) ∧ (flags < 4) ∧ (s.get HIF_RING_OWN_FUNC r = 0) ∧ (s.get PWR_STAT_PF 0 = 0) ∧ (s.get RST_REQ 0 = 0)) ∧
    (∃ (r : Fin 32) (pa : Nat) (flags : Nat) (tag : Nat) (k : Nat) (s : State), (Asks r pa 0x0103 flags tag (parsOf (toBytes 1 k)) s) ∧ (flags < 4) ∧ (s.get HIF_RING_OWN_FUNC r = 0) ∧ (2 < k) ∧ (k < 256)) ∧
    (∃ (_v : Word) (s : State), (s.permit .cc .registers 0x40100018 true = .yes)) ∧
    (∃ (q : Requester) (_v : Word) (s : State), (q ≠ .cc) ∧ (s.permit q .registers 0x40100018 true = .no)) ∧
    (∃ (s : State), (s.get RST_WDOG_TIMEOUT_MS 0 ≠ 0) ∧ (s.get RST_WDOG_SAID 0 = 0) ∧ (s.get RST_WDOG_AT 0 + s.get RST_WDOG_TIMEOUT_MS 0 * 400000 ≤ s.get CORE_COUNT 0)) ∧
    (∃ (s : State), (s.get RST_WDOG_TIMEOUT_MS 0 = 0 ∨ s.get RST_WDOG_SAID 0 = 1 ∨ s.get CORE_COUNT 0 < s.get RST_WDOG_AT 0 + s.get RST_WDOG_TIMEOUT_MS 0 * 400000)) ∧
    (∃ (s : State), (s.get RST_WDOG_TIMEOUT_MS 0 ≠ 0) ∧ (s.get RST_WDOG_AT 0 + s.get RST_WDOG_TIMEOUT_MS 0 * 800000 ≤ s.get CORE_COUNT 0) ∧ (s.get FATAL_PATH 0 = 0)) ∧
    (∃ (s : State), (s.get RST_WDOG_TIMEOUT_MS 0 = 0 ∨ s.get CORE_COUNT 0 < s.get RST_WDOG_AT 0 + s.get RST_WDOG_TIMEOUT_MS 0 * 800000)) :=
  ⟨⟨((State.reset.put LDG_PAGE 5 2).put TMB_CTR 0 77).put KEY_EPOCH 0 9 |>.put LIM_STAT_RUNNING 0 1, by decide +kernel⟩,
   ⟨State.reset.put FUSE_OP 0 2, by decide +kernel⟩,
   ⟨(State.reset.put TMP_LATCH 0 3).put KEY_EPOCH 0 9, by decide +kernel⟩,
   ⟨((State.reset.put RST_REQ 0 1).put LDG_FLUSH_BUSY 0 1).put CORE_COUNT 0 8000000 |>.put RST_REQ_SRC 0 4, by decide +kernel⟩,
   ⟨((((State.reset.put RST_REQ 0 2).put RST_REQ_SRC 0 9).put TMB_CTR 0 77).put FRT_CFG_SAFE 3 5).put CRS_ON 4 1, by decide +kernel⟩,
   ⟨State.reset, by decide +kernel⟩,
   ⟨4701, (State.reset.put PWR_STAT_PF 0 1).put LDG_STAT_STATE 0 3 |>.put LDG_NV_PF 0 2, by decide +kernel⟩,
   ⟨4700, (State.reset.put PWR_STAT_PF 0 1).put LDG_STAT_STATE 0 3, by decide +kernel⟩,
   ⟨((State.reset.put FATAL_PATH 0 2).put CLK_STAT_REF_OK 0 1).put CORE_COUNT 0 800000, by decide +kernel⟩,
   ⟨State.reset, by decide +kernel⟩,
   ⟨((State.reset.put PCIE_UP 0 1).put FN_D3 3 1).put MSIX_EN 0 1, by decide +kernel⟩,
   ⟨State.reset.put RST_REQ 0 2, by decide +kernel⟩,
   ⟨(State.reset.put RST_REQ 0 2).put RST_REQ_SRC 0 9, by decide +kernel⟩,
   ⟨.course 3, State.reset, by decide +kernel⟩,
   ⟨{ State.reset.put LDG_SEQ 0 5 with staged := [⟨7, [(0, 1)], 1, 5⟩] }, by decide +kernel⟩,
   ⟨.course 3, State.reset, by decide +kernel⟩,
   ⟨.pf, 0xD0A00001, State.reset, by decide +kernel⟩,
   ⟨.cc, 0xD0A10002, State.reset.put PCIE_UP 0 1, by decide +kernel⟩,
   ⟨.course 3, 0xD0A10000, State.reset, by decide +kernel⟩,
   ⟨31, 0x1000, 3, 9, 1, asks 31 0x1000 0x0103 3 9 (parsOf (toBytes 1 1)) (State.reset.put HIF_RING_OWN_FUNC 31 0), by decide +kernel⟩,
   ⟨31, 0x1000, 3, 9, asks 31 0x1000 0x0103 3 9 (parsOf (toBytes 1 2)) (State.reset.put HIF_RING_OWN_FUNC 31 0), by decide +kernel⟩,
   ⟨31, 0x1000, 3, 9, 3, asks 31 0x1000 0x0103 3 9 (parsOf (toBytes 1 3)) (State.reset.put HIF_RING_OWN_FUNC 31 0), by decide +kernel⟩,
   ⟨0x10005, (State.reset.put RST_WDOG_TIMEOUT_MS 0 9).put CORE_COUNT 0 4, by decide +kernel⟩,
   ⟨.course 3, 1, State.reset, by decide +kernel⟩,
   ⟨(State.reset.put RST_WDOG_TIMEOUT_MS 0 1).put CORE_COUNT 0 400000, by decide +kernel⟩,
   ⟨(State.reset.put RST_WDOG_TIMEOUT_MS 0 1).put CORE_COUNT 0 399999, by decide +kernel⟩,
   ⟨((State.reset.put RST_WDOG_TIMEOUT_MS 0 1).put CORE_COUNT 0 800000).put FRT_STAT_RUN 3 1 |>.put LIM_STAT_RUNNING 0 1, by decide +kernel⟩,
   ⟨State.reset, by decide +kernel⟩⟩

theorem wit_BootAndRails :
    (∃ (s : State), (s.get RST_BOOT_STAGE 0 = 0) ∧ (s.get RESET_N_LOW 0 = 0) ∧ (s.get CLK_STAT_ROOT_LOCK 0 = 1) ∧ (s.get RAIL_BAD 0 = 0) ∧ (s.get RAIL_BAD 1 = 0) ∧ (s.get RAIL_BAD 13 = 0)) ∧
    (∃ (s : State), (s.get RST_BOOT_STAGE 0 ≠ 0 ∨ s.get RESET_N_LOW 0 = 1 ∨ s.get CLK_STAT_ROOT_LOCK 0 = 0 ∨ s.get RAIL_BAD 0 = 1 ∨ s.get RAIL_BAD 1 = 1 ∨ s.get RAIL_BAD 13 = 1)) ∧
    (∃ (f : Nat) (s : State), (s.get RST_BOOT_STAGE 0 = 1) ∧ (s.get PCS_LC_STATE 0 ≠ 4) ∧ (s.get RST_BOOT_FAILS 0 < 4) ∧ (s.get BOOT_TRIED 0 = 0) ∧ (f = firstSlot s)) ∧
    (∃ (s : State), (s.get RST_BOOT_STAGE 0 = 1) ∧ (s.get PCS_LC_STATE 0 = 4 ∨ 4 ≤ s.get RST_BOOT_FAILS 0)) ∧
    (∃ (s : State), (s.get RST_BOOT_STAGE 0 ≠ 1)) ∧
    (∃ (k : Nat) (img : List Byte) (s : State), (s.get RST_BOOT_STAGE 0 = 2) ∧ (s.get BOOT_PICK 0 = k + 1) ∧ (k < 2) ∧ (img = slotImage s k)) ∧
    (∃ (s : State), (s.get RST_BOOT_STAGE 0 ≠ 2 ∨ s.get BOOT_PICK 0 = 0)) ∧
    (∃ (s : State), (s.get RST_BOOT_STAGE 0 = 3) ∧ (s.get LDG_STAT_STATE 0 = 0) ∧ (s.staged = []) ∧ (GoodRing s)) ∧
    (∃ (s : State), (s.get RST_BOOT_STAGE 0 ≠ 3)) ∧
    (∃ (s : State), (s.get RST_BOOT_STAGE 0 = 4)) ∧
    (∃ (s : State), (s.get RST_BOOT_STAGE 0 ≠ 4)) ∧
    (∃ (s : State), (s.get RST_BOOT_STAGE 0 = 2) ∧ (s.get BOOT_PICK 0 = 0)) ∧
    (∃ (s : State), (s.get RST_BOOT_STAGE 0 ≠ 2 ∨ s.get BOOT_PICK 0 ≠ 0)) ∧
    (∃ (s : State), (s.permit .cc .registers 0x40100010 true = .yes)) ∧
    (∃ (q : Requester) (s : State), (q ≠ .cc) ∧ (s.permit q .registers 0x40100010 true = .no)) ∧
    (∃ (r : Fin 16) (s : State), (s.get RAIL_BAD r = 0)) ∧
    (∃ (r : Fin 16) (s : State), (s.get RAIL_BAD r = 1)) ∧
    (∃ (r : Fin 16) (s : State), (s.get RAIL_BAD r = 1)) ∧
    (∃ (r : Fin 16) (s : State), (s.get RAIL_BAD r = 0)) ∧
    (∃ (img : List Byte) (s : State), (s.get PCS_STAT_STATE 0 = 1) ∧ (s.domOn domPortcullis = true) ∧ (3 ≤ s.get RST_BOOT_STAGE 0) ∧ (s.get RST_BOOT_STAGE 0 ≤ 5) ∧ (img = slotImage s (s.get RST_BOOT_SLOT 0))) ∧
    (∃ (s : State), (s.get PCS_STAT_STATE 0 ≠ 1 ∨ s.domOn domPortcullis = false ∨ s.get RST_BOOT_STAGE 0 < 3 ∨ 5 < s.get RST_BOOT_STAGE 0)) :=
  ⟨⟨State.reset.put CLK_STAT_ROOT_LOCK 0 1, by decide +kernel⟩,
   ⟨State.reset.put RAIL_BAD 13 1, by decide +kernel⟩,
   ⟨0, ((State.reset.putWord 0x23100000 0x102).putWord 0x23200000 0x202).put RST_BOOT_STAGE 0 1 |>.put RST_BOOT_FAILS 0 3, by decide +kernel⟩,
   ⟨(State.reset.put RST_BOOT_STAGE 0 1).put RST_BOOT_FAILS 0 4, by decide +kernel⟩,
   ⟨State.reset, by decide +kernel⟩,
   ⟨1, toBytes 4 7, ((State.reset.putWord 0x23200004 4).putWord 0x23200100 7).put RST_BOOT_STAGE 0 2 |>.put BOOT_PICK 0 2, by decide +kernel⟩,
   ⟨State.reset, by decide +kernel⟩,
   ⟨{ (((((State.reset.put RST_BOOT_STAGE 0 3).put LDG_NV_PF 0 2).put LDG_NV_LOST 2 9).put KEY_LC_OPEN 0 1).putWord 0x23300000 0x301).putWord 0x23300100 7 |>.putWord 0x23100010 5 with journal := [(⟨1, 16, 0, [], [], [], some (2, 1), (⟨1, 16, 0, [], [], [], some (2, 1), 0⟩ : LdgRecord).crcOf⟩ : LdgRecord)] }, by decide +kernel⟩,
   ⟨State.reset, by decide +kernel⟩,
   ⟨State.reset.put RST_BOOT_STAGE 0 4, by decide +kernel⟩,
   ⟨State.reset, by decide +kernel⟩,
   ⟨(State.reset.put RST_BOOT_STAGE 0 2).put HIF_RING_OWN_CTX 0 5, by decide +kernel⟩,
   ⟨State.reset, by decide +kernel⟩,
   ⟨State.reset.put RST_BOOT_FAILS 0 3, by decide +kernel⟩,
   ⟨.course 3, State.reset, by decide +kernel⟩,
   ⟨4, (State.reset.put RAIL_BAD 4 0).put MAC_STAT_LINK 3 1, by decide +kernel⟩,
   ⟨5, State.reset.put RAIL_BAD 5 1, by decide +kernel⟩,
   ⟨4, (State.reset.put RAIL_BAD 4 1).put MAC_STAT_LINK 3 1, by decide +kernel⟩,
   ⟨5, State.reset.put RAIL_BAD 5 0, by decide +kernel⟩,
   ⟨toBytes 4 7, ((State.reset.putWord 0x23100004 4).putWord 0x23100100 7).put RST_BOOT_STAGE 0 5 |>.put PCS_STAT_STATE 0 1, by decide +kernel⟩,
   ⟨State.reset, by decide +kernel⟩⟩

end Sys2Proof.Tests
end

section
/-! PROOFS. The Tablatures (O14) and the cycle timer (O12) of spec/03_line_cycle_shutter_tablature.md: first what a change of a cell, a
raised event and a copied run of cells leave as they were, then the commands of the Tablatures, then the boundary that refutes O12. -/

namespace Sys2Proof.Machine.LineCycle

/-! ### Cells: flags, bits, and what a change leaves as it was -/

/-- A write to a register that its requester may make is performed. -/
theorem gate_of_permit {s : State} {q : Requester} {a : Nat} (k : State → State)
    (h : s.permit q .registers a true = .yes) : s.gate q a k = k s := by
  simp [State.gate, h]

theorem flag_of_get_one {s : State} {F : Fld} {i : Nat} (h : s.get F i = 1) : s.flag F i = true := by
  simp [State.flag, h]

theorem flag_of_get_zero {s : State} {F : Fld} {i : Nat} (h : s.get F i = 0) : s.flag F i = false := by
  simp [State.flag, h]

/-- Two values that agree within the field's width are written alike. -/
theorem put_congr (s : State) {F : Fld} (i : Nat) {v w : Nat} (h : v % 2 ^ F.w = w % 2 ^ F.w) : s.put F i v = s.put F i w := by
  simp [State.put, h]

theorem bitOf_eq_testBit (v k : Nat) : bitOf v k = v.testBit k := by
  rw [Nat.testBit_eq_decide_div_mod_eq, bitOf]
  rfl

/-- A bit set within the field's width reads 1. -/
theorem bit_putBit_same (s : State) (F : Fld) (i : Nat) {k : Nat} (h : k < F.w) : (s.putBit F i k true).bit F i k = true := by
  simp only [State.putBit, State.bit, if_true, get_put_same, bitOf_eq_testBit, Nat.testBit_mod_two_pow, h, decide_true,
    Bool.true_and]
  by_cases hb : (s.get F i).testBit k
  · simp [hb]
  · simp [hb, Nat.add_comm _ (2 ^ k), Nat.testBit_two_pow_add_eq]

section Frames
variable {s t u : State} {cs : List (Fld × Nat)} {Fs : List Fld}

theorem cellsBut_refl (s : State) : CellsBut s s cs Fs := fun _ _ _ _ => rfl

theorem cellsBut_of_cells (h : t.cells = s.cells) : CellsBut s t cs Fs := fun F i _ _ => by simp [State.get, h]

theorem cellsBut_trans (h : CellsBut s t cs Fs) (h' : CellsBut t u cs Fs) : CellsBut s u cs Fs :=
  fun F i hc hF => (h' F i hc hF).trans (h F i hc hF)

theorem cellsBut_mono {cs' : List (Fld × Nat)} {Fs' : List Fld} (hc : cs ⊆ cs') (hF : Fs ⊆ Fs') (h : CellsBut s t cs Fs) :
    CellsBut s t cs' Fs' :=
  fun F i h1 h2 => h F i (fun e he => h1 e (hc he)) (fun G hG => h2 G (hF hG))

/-- A write of a listed copy. -/
theorem cellsBut_put_copy {F : Fld} {i : Nat} (v : Nat) (h : CellsBut s t cs Fs) (hm : (F, i) ∈ cs) :
    CellsBut s (t.put F i v) cs Fs :=
  cellsBut_trans h fun _ _ hc _ => get_put_other _ _ (hc _ hm).symm

/-- A write of any copy of a listed field. -/
theorem cellsBut_put_field {F : Fld} (i v : Nat) (h : CellsBut s t cs Fs) (hm : F ∈ Fs) : CellsBut s (t.put F i v) cs Fs :=
  cellsBut_trans h fun _ _ _ hF => get_put_field _ _ _ _ (hF _ hm).symm

theorem cellsBut_overList {α : Type} {f : α → State → State} (hf : ∀ x t, CellsBut t (f x t) cs Fs) (xs : List α) (s : State) :
    CellsBut s (overList f xs s) cs Fs := by
  induction xs generalizing s with
  | nil => exact cellsBut_refl s
  | cons x xs ih => exact cellsBut_trans (hf x s) (ih _)

theorem cellsBut_overRange {f : Nat → State → State} (hf : ∀ k t, CellsBut t (f k t) cs Fs) (n : Nat) (s : State) :
    CellsBut s (overRange f n s) cs Fs := by
  induction n with
  | zero => exact cellsBut_refl s
  | succ n ih => exact cellsBut_trans ih (hf n _)

theorem quiet_trans (h : Quiet s t) (h' : Quiet t u) : Quiet s u := by
  have hu : ({ u with cells := s.cells } : State) = { ({ u with cells := t.cells } : State) with cells := s.cells } := rfl
  rw [Quiet] at h h' ⊢
  rw [hu, h', h]

theorem quiet_put (s : State) (F : Fld) (i v : Nat) : Quiet s (s.put F i v) := rfl

theorem quiet_overList {α : Type} {f : α → State → State} (hf : ∀ x t, Quiet t (f x t)) (xs : List α) (s : State) :
    Quiet s (overList f xs s) := by
  induction xs generalizing s with
  | nil => rfl
  | cons x xs ih => exact quiet_trans (hf x s) (ih _)

end Frames

/-! ### A raised event (13 R301, R305) -/

/-- The numbered state of the MSI-X vectors. -/
def vecCells : List Fld := [VEC_K, VEC_FIRST, VEC_DUE, VEC_BND]

theorem vecDue_cellsBut (s : State) (v : Nat) : CellsBut s (s.vecDue v) [] vecCells :=
  cellsBut_put_field _ _ (cellsBut_put_field _ _ (cellsBut_refl s) (by simp [vecCells])) (by simp [vecCells])

theorem vecBoundary_cellsBut (s : State) (v : Nat) : CellsBut s (s.vecBoundary v) [] vecCells :=
  cellsBut_put_field _ _ (vecDue_cellsBut s v) (by simp [vecCells])

theorem collect_cellsBut (s : State) (v : Nat) : CellsBut s (s.collect v) [] vecCells := by
  have hfirst : CellsBut s (if s.get VEC_K v + 1 = 1 then s.put VEC_FIRST v (s.get CORE_COUNT 0) else s) [] vecCells := by
    split
    · exact cellsBut_put_field _ _ (cellsBut_refl s) (by simp [vecCells])
    · exact cellsBut_refl s
  unfold State.collect
  split
  · exact cellsBut_refl s
  extract_lets k t
  refine cellsBut_trans hfirst (?_ : CellsBut t _ _ _)
  split
  · exact vecDue_cellsBut t v
  split
  · exact vecBoundary_cellsBut t v
  · exact cellsBut_put_field _ _ (cellsBut_refl t) (by simp [vecCells])

theorem routeMsix_cellsBut (s : State) (r : Route) : CellsBut s (s.routeMsix r) [] vecCells := by
  unfold State.routeMsix
  split
  · exact collect_cellsBut s _
  · exact cellsBut_refl s

/-- Beyond its EVT_SEEN bit, a raised event changes the state of the MSI-X vectors alone. -/
theorem raise_cellsBut_seen (s : State) (n detail : Nat) (own : Option (Nat × Nat)) :
    CellsBut (s.putBit EVT_SEEN_SEEN (n / 32) (n % 32) true) (s.raise n detail own) [] vecCells := by
  unfold State.raise
  extract_lets seen c
  split
  · exact cellsBut_refl seen
  rename_i a b queued routed _
  have hrouted : CellsBut seen routed [] vecCells :=
    cellsBut_trans (t := queued) (cellsBut_of_cells rfl) (routeMsix_cellsBut queued a)
  split
  · exact hrouted
  · exact cellsBut_trans hrouted (routeMsix_cellsBut routed b)

theorem raise_cellsBut (s : State) (n detail : Nat) (own : Option (Nat × Nat)) (cs : List (Fld × Nat)) :
    CellsBut s (s.raise n detail own) cs evtCells :=
  cellsBut_trans (cellsBut_put_field _ _ (cellsBut_refl s) (by simp [evtCells]))
    (cellsBut_mono (by simp) (by simp [vecCells, evtCells]) (raise_cellsBut_seen s n detail own))

/-- The EVT_SEEN bit of a raised event is set. -/
theorem raise_seen (s : State) (n detail : Nat) (own : Option (Nat × Nat)) :
    (s.raise n detail own).bit EVT_SEEN_SEEN (n / 32) (n % 32) = true := by
  have h := raise_cellsBut_seen s n detail own EVT_SEEN_SEEN (n / 32) (by simp) (by decide)
  rw [State.bit, h]
  exact bit_putBit_same s _ _ (Nat.mod_lt n (by decide))

/-- A field that no event touches reads as before an event was raised. -/
theorem get_raise {F : Fld} (h : ∀ G ∈ evtCells, G.id % 4096 ≠ F.id % 4096) (s : State) (n detail : Nat)
    (own : Option (Nat × Nat)) (i : Nat) : (s.raise n detail own).get F i = s.get F i :=
  raise_cellsBut s n detail own [] F i (by simp) h

end Sys2Proof.Machine.LineCycle
end

section
namespace Sys2Proof.Machine.LineCycle

/-! ### Copying a run of a field's copies -/

/-- A listed key of a sorted table reads the value listed with it. -/
theorem tblGet_of_mem {d : Nat} {t : List (Nat × Nat)} (hs : tblSorted t = true) {k v : Nat} (h : (k, v) ∈ t) :
    tblGet d t k = v := by
  induction t with
  | nil => cases h
  | cons e r ih =>
    obtain ⟨a, x⟩ := e
    rw [tblSorted_cons, Bool.and_eq_true] at hs
    rcases List.mem_cons.mp h with heq | hr
    · obtain ⟨rfl, rfl⟩ := Prod.mk.inj heq
      simp [tblGet]
    · have hak : a ≠ k := Nat.ne_of_lt (tblAbove_all hs.2 hs.1 _ hr)
      simp [tblGet, hak, ih hs.2 hr]

/-- A key that does not read the default is listed. -/
theorem mem_of_tblGet_ne {d : Nat} {t : List (Nat × Nat)} {k : Nat} (h : tblGet d t k ≠ d) : ∃ v, (k, v) ∈ t := by
  induction t with
  | nil => exact absurd rfl h
  | cons e r ih =>
    obtain ⟨a, x⟩ := e
    by_cases ha : a = k
    · exact ⟨x, by simp [ha]⟩
    · rw [tblGet, if_neg ha] at h
      obtain ⟨v, hv⟩ := ih h
      exact ⟨v, List.mem_cons_of_mem _ hv⟩

/-- A field's copies are listed with the values they read, where the numbered state is in canonical form. -/
theorem get_of_mem_listed {s : State} (hs : tblSorted s.cells = true) {F : Fld} {e : Nat × Nat} (h : e ∈ s.listed F) :
    s.get F e.1 = e.2 := by
  obtain ⟨⟨k, v⟩, hm, hk⟩ := List.mem_filterMap.mp h
  split at hk
  · next hid =>
    cases hk
    have hkey : cellKey F (k / 4096) = k := by
      unfold cellKey
      omega
    rw [State.get, hkey]
    exact tblGet_of_mem hs hm
  · cases hk

/-- A copy that is not at its cold value is listed. -/
theorem mem_listed_of_get_ne {s : State} {F : Fld} {i : Nat} (h : s.get F i ≠ F.cold) : ∃ e ∈ s.listed F, e.1 = i := by
  obtain ⟨v, hv⟩ := mem_of_tblGet_ne h
  refine ⟨(i, v), List.mem_filterMap.mpr ⟨_, hv, ?_⟩, rfl⟩
  have hid : cellKey F i % 4096 = F.id % 4096 := by
    unfold cellKey
    omega
  have hix : cellKey F i / 4096 = i := by
    unfold cellKey
    omega
  simp [hid, hix]

/-- Copies written one after the other, each with the value that `g` names for it. -/
theorem get_overList_put {α : Type} (F : Fld) (at' val : α → Nat) (g : Nat → Nat) {es : List α}
    (hg : ∀ e ∈ es, val e = g (at' e)) (s : State) (j : Nat) :
    (overList (fun e t => t.put F (at' e) (val e)) es s).get F j =
      if ∃ e ∈ es, at' e = j then g j % 2 ^ F.w else s.get F j := by
  induction es generalizing s with
  | nil => simp [overList]
  | cons e es ih =>
    rw [overList, ih (fun x hx => hg x (by simp [hx]))]
    by_cases hes : ∃ x ∈ es, at' x = j
    · rw [if_pos hes, if_pos (by obtain ⟨x, hx, hj⟩ := hes; exact ⟨x, by simp [hx], hj⟩)]
    · rw [if_neg hes]
      by_cases he : at' e = j
      · subst he
        rw [if_pos ⟨e, by simp, rfl⟩, get_put_same, hg e (by simp)]
      · rw [get_put_copy _ _ _ (Ne.symm he), if_neg]
        rintro ⟨x, hx, hj⟩
        rcases List.mem_cons.mp hx with rfl | hx
        · exact he hj
        · exact hes ⟨x, hx, hj⟩

/-- The listed copies that lie in a run. -/
theorem mem_filter_run {es : List (Nat × Nat)} {e : Nat × Nat} {lo n : Nat} :
    e ∈ es.filter (fun e => decide (lo ≤ e.1) && decide (e.1 < lo + n)) ↔ e ∈ es ∧ lo ≤ e.1 ∧ e.1 < lo + n := by
  simp

/-- The copies of a field before a run is written over them: its listed copies there are cleared. -/
theorem get_overList_clear (s : State) {F : Fld} (hF : F.cold < 2 ^ F.w) (dst n j : Nat) :
    (overList (fun (e : Nat × Nat) (t : State) => t.clear F e.1)
      ((s.listed F).filter (fun e => decide (dst ≤ e.1) && decide (e.1 < dst + n))) s).get F j =
      if dst ≤ j ∧ j < dst + n then F.cold else s.get F j := by
  have h := get_overList_put F (fun e : Nat × Nat => e.1) (fun _ => F.cold) (fun _ => F.cold)
    (es := (s.listed F).filter (fun e => decide (dst ≤ e.1) && decide (e.1 < dst + n))) (fun _ _ => rfl) s j
  refine h.trans ?_
  rw [Nat.mod_eq_of_lt hF]
  by_cases hr : dst ≤ j ∧ j < dst + n
  · rw [if_pos hr]
    by_cases hc : s.get F j = F.cold
    · rw [hc, ite_self]
    · obtain ⟨e, he, rfl⟩ := mem_listed_of_get_ne hc
      exact if_pos ⟨e, mem_filter_run.mpr ⟨he, hr⟩, rfl⟩
  · rw [if_neg hr, if_neg]
    rintro ⟨e, he, rfl⟩
    exact hr (mem_filter_run.mp he).2

/-- What a copied run reads afterwards; every other copy of the field reads as before. -/
theorem get_copyRange {s : State} (hs : tblSorted s.cells = true) {F : Fld} (hF : F.cold < 2 ^ F.w) (dst src n j : Nat) :
    (s.copyRange F dst src n).get F j =
      if dst ≤ j ∧ j < dst + n then s.get F (src + (j - dst)) % 2 ^ F.w else s.get F j := by
  unfold State.copyRange
  extract_lets gone come cleared
  have hval : ∀ e ∈ come, e.2 = s.get F (src + (dst + (e.1 - src) - dst)) := by
    intro e he
    obtain ⟨hl, hlo, -⟩ := mem_filter_run.mp he
    rw [Nat.add_sub_cancel_left, Nat.add_sub_cancel' hlo]
    exact (get_of_mem_listed hs hl).symm
  refine (get_overList_put F (fun e : Nat × Nat => dst + (e.1 - src)) (fun e => e.2)
    (fun j => s.get F (src + (j - dst))) hval cleared j).trans ?_
  rw [get_overList_clear s hF dst n j]
  by_cases hr : dst ≤ j ∧ j < dst + n
  · rw [if_pos hr, if_pos hr]
    by_cases hc : s.get F (src + (j - dst)) = F.cold
    · rw [hc, Nat.mod_eq_of_lt hF, ite_self]
    · obtain ⟨e, he, hej⟩ := mem_listed_of_get_ne hc
      exact if_pos ⟨e, mem_filter_run.mpr ⟨he, by omega⟩, by omega⟩
  · rw [if_neg hr, if_neg hr, if_neg]
    rintro ⟨e, he, rfl⟩
    obtain ⟨-, hin⟩ := mem_filter_run.mp he
    omega

theorem copyRange_cellsBut (s : State) (F : Fld) (dst src n : Nat) (cs : List (Fld × Nat)) :
    CellsBut s (s.copyRange F dst src n) cs [F] :=
  cellsBut_trans (cellsBut_overList (fun _ t => cellsBut_put_field _ _ (cellsBut_refl t) (by simp)) _ s)
    (cellsBut_overList (fun _ t => cellsBut_put_field _ _ (cellsBut_refl t) (by simp)) _ _)

theorem copyRange_quiet (s : State) (F : Fld) (dst src n : Nat) : Quiet s (s.copyRange F dst src n) := by
  unfold State.copyRange
  extract_lets gone come cleared
  have hclear (e : Nat × Nat) (t : State) : Quiet t (t.clear F e.1) := quiet_put t F _ _
  have hput (e : Nat × Nat) (t : State) : Quiet t (t.put F (dst + (e.1 - src)) e.2) := quiet_put t F _ _
  exact quiet_trans (quiet_overList hclear gone s) (quiet_overList hput come cleared)

/-! ### Tablatures: the shadow's states and its copy (03 R71) -/

/-- A table that leaves OPEN, or returns to it: the state, and DONE with it. -/
theorem setTab_open (t : Nat) (s : State) : setTab t 0 s = (s.put LIM_TAB_STAT_STATE t 0).put LIM_TAB_CTRL_DONE t 0 := rfl

theorem setTab_closed (t : Nat) {st : Nat} (h : st ≠ 0) (s : State) :
    setTab t st s = (s.put LIM_TAB_STAT_STATE t st).put LIM_TAB_CTRL_DONE t 1 := by
  simp [setTab, h]

theorem get_setTab_state (t : Nat) {st : Nat} (h : st < 8) (s : State) : (setTab t st s).get LIM_TAB_STAT_STATE t = st := by
  rw [setTab, get_put_field _ _ _ _ (by decide), get_put_same]
  exact Nat.mod_eq_of_lt h

theorem get_setTab_state_other {t v : Nat} (h : v ≠ t) (st : Nat) (s : State) :
    (setTab t st s).get LIM_TAB_STAT_STATE v = s.get LIM_TAB_STAT_STATE v := by
  rw [setTab, get_put_field _ _ _ _ (by decide), get_put_copy _ _ _ h]

/-- A field that is neither the state nor DONE reads as before. -/
theorem get_setTab_field {F : Fld} (h : ∀ G ∈ [LIM_TAB_STAT_STATE, LIM_TAB_CTRL_DONE], F.id % 4096 ≠ G.id % 4096) (t st : Nat)
    (s : State) (i : Nat) : (setTab t st s).get F i = s.get F i := by
  rw [setTab, get_put_field _ _ _ _ (h _ (by simp)), get_put_field _ _ _ _ (h _ (by simp))]

theorem tabDone_open {s : State} {t : Nat} (ho : s.get LIM_TAB_STAT_STATE t = 0) (hc : s.get TAB_COPYING t = 0) :
    tabDone t s = ((s.put LIM_TAB_STAT_STATE t 1).put LIM_TAB_CTRL_DONE t 1).bgAsk (.table t) := by
  rw [tabDone, if_neg (by simp [ho]), flag_of_get_zero hc, if_neg (by decide), setTab_closed t (by decide)]

theorem tabDone_copying {s : State} {t : Nat} (ho : s.get LIM_TAB_STAT_STATE t = 0) (hc : s.get TAB_COPYING t = 1) :
    tabDone t s = s.put TAB_DONE_WAIT t 1 := by
  rw [tabDone, if_neg (by simp [ho]), if_pos (flag_of_get_one hc)]

theorem inGroup_eq_false {s : State} {t : Nat} (h : s.get LIM_STAT_COMMIT_PEND 0 = 0 ∨ bitOf (s.get TAB_GROUP 0) t = false) :
    s.inGroup t = false := by
  rcases h with h | h
  · simp [State.inGroup, flag_of_get_zero h]
  · simp [State.inGroup, State.bit, h]

theorem tabReopen_closed {s : State} {t : Nat} (hc : s.get LIM_TAB_STAT_STATE t ≠ 0)
    (hg : s.get LIM_STAT_COMMIT_PEND 0 = 0 ∨ bitOf (s.get TAB_GROUP 0) t = false) :
    tabReopen t s = ((s.put LIM_TAB_STAT_STATE t 0).put LIM_TAB_CTRL_DONE t 0).bgDrop (.table t) := by
  rw [tabReopen, if_neg (by simp [hc, inGroup_eq_false hg]), setTab_open]

theorem tabReopen_ignored {s : State} {t : Nat}
    (h : s.get LIM_TAB_STAT_STATE t = 0 ∨ (s.get LIM_STAT_COMMIT_PEND 0 = 1 ∧ bitOf (s.get TAB_GROUP 0) t = true)) :
    tabReopen t s = s := by
  refine if_pos (h.imp id ?_)
  rintro ⟨hp, hb⟩
  simp [State.inGroup, flag_of_get_one hp, State.bit, hb]

/-- The copy, where no DONE waits for it. -/
theorem tabCopyComplete_copying {s : State} {t : Nat} (hc : s.get TAB_COPYING t = 1) (hd : s.get TAB_DONE_WAIT t = 0) :
    tabCopyComplete t s = (s.copyRange LIM_TW ((t * 2 + (1 - s.get TAB_BANK t)) * 2048) ((t * 2 + s.get TAB_BANK t) * 2048)
      (tabWords t)).put TAB_COPYING t 0 := by
  have hwait : (((s.copyRange LIM_TW ((t * 2 + (1 - s.get TAB_BANK t)) * 2048) ((t * 2 + s.get TAB_BANK t) * 2048)
      (tabWords t)).put TAB_COPYING t 0)).flag TAB_DONE_WAIT t = false := by
    refine flag_of_get_zero ?_
    rw [get_put_field _ _ _ _ (by decide), copyRange_cellsBut _ _ _ _ _ [] _ _ (by simp) (by decide), hd]
  rw [tabCopyComplete, if_pos (flag_of_get_one hc)]
  exact if_neg (by simp [State.active, hwait])

theorem tabWords_le (t : Nat) : tabWords t ≤ 2048 := by
  unfold tabWords
  split <;> omega

/-- The shadow's words after the copy are those of the active copy. -/
theorem tabWord_copied {s : State} (hs : tblSorted s.cells = true) {t w : Nat} (hw : w < tabWords t) :
    ((s.copyRange LIM_TW ((t * 2 + (1 - s.get TAB_BANK t)) * 2048) ((t * 2 + s.get TAB_BANK t) * 2048)
      (tabWords t)).put TAB_COPYING t 0).tabWord t (1 - s.get TAB_BANK t) w = s.tabWord t (s.get TAB_BANK t) w % 2 ^ 32 := by
  rw [State.tabWord, get_put_field _ _ _ _ (by decide), get_copyRange hs (by decide), if_pos (by omega),
    Nat.add_sub_cancel_left]
  rfl

/-- No word outside the table's shadow changes. -/
theorem tabWord_copy_other {s : State} (hs : tblSorted s.cells = true) {t v b w : Nat} (hb : b < 2) (hw : w < 2048)
    (ha : s.get TAB_BANK t < 2) (h : v ≠ t ∨ b = s.get TAB_BANK t) :
    ((s.copyRange LIM_TW ((t * 2 + (1 - s.get TAB_BANK t)) * 2048) ((t * 2 + s.get TAB_BANK t) * 2048)
      (tabWords t)).put TAB_COPYING t 0).tabWord v b w = s.tabWord v b w := by
  have hn := tabWords_le t
  rw [State.tabWord, get_put_field _ _ _ _ (by decide), get_copyRange hs (by decide), if_neg (by omega)]
  rfl

/-! ### A write of LIM_BASE (03 R71) -/

/-- What a change of the line image does to table `k`: a VERIFIED one must be verified again. -/
def unverify (k : Nat) (u : State) : State := if u.get LIM_TAB_STAT_STATE k = 2 then (setTab k 1 u).bgAsk (.table k) else u

theorem limBaseWrite_ignored {s : State} (v : Nat)
    (h : s.get LIM_STAT_RUNNING 0 = 1 ∨ s.get SBD_CTRL_EN 0 = 1 ∨ s.get LIM_CYC_CTRL_LOCK 0 = 1) : limBaseWrite v s = s := by
  refine if_pos ?_
  rcases h with h | h | h <;> simp [flag_of_get_one h]

/-- BASE and SLOTS_K as a write leaves them. -/
def withBase (v : Nat) (s : State) : State := (s.put LIM_BASE_BASE 0 v).put LIM_BASE_SLOTS_K 0 (bitsOf v 16 8)

theorem get_withBase_base (v : Nat) (s : State) : (withBase v s).get LIM_BASE_BASE 0 = v % 2 ^ 10 := by
  rw [withBase, get_put_field _ _ _ _ (by decide), get_put_same]
  rfl

theorem get_withBase_slots (v : Nat) (s : State) : (withBase v s).get LIM_BASE_SLOTS_K 0 = v / 2 ^ 16 % 2 ^ 8 := by
  rw [withBase, get_put_same]
  exact Nat.mod_mod _ _

theorem limBaseWrite_changed {s : State} {v : Nat} (hr : s.get LIM_STAT_RUNNING 0 = 0) (he : s.get SBD_CTRL_EN 0 = 0)
    (hl : s.get LIM_CYC_CTRL_LOCK 0 = 0) (hb : s.get LIM_BASE_BASE 0 ≠ v % 2 ^ 10) :
    limBaseWrite v s = overRange unverify 33 (withBase v s) := by
  have hne : (withBase v s).get LIM_BASE_BASE 0 ≠ s.get LIM_BASE_BASE 0 := by
    rw [get_withBase_base]
    exact hb.symm
  refine (if_neg (by simp [flag_of_get_zero hr, flag_of_get_zero he, flag_of_get_zero hl])).trans ?_
  exact if_neg fun h => hne h.1

theorem bgAsk_cells (s : State) (j : BgJob) : (s.bgAsk j).cells = s.cells := by
  unfold State.bgAsk
  split <;> rfl

theorem get_bgAsk (s : State) (j : BgJob) (F : Fld) (i : Nat) : (s.bgAsk j).get F i = s.get F i := by
  simp [State.get, bgAsk_cells]

theorem unverify_cellsBut (k : Nat) (u : State) (cs : List (Fld × Nat)) :
    CellsBut u (unverify k u) cs [LIM_TAB_STAT_STATE, LIM_TAB_CTRL_DONE] := by
  unfold unverify
  split
  · exact cellsBut_trans (t := setTab k 1 u)
      (cellsBut_put_field _ _ (cellsBut_put_field _ _ (cellsBut_refl u) (by simp)) (by simp)) (cellsBut_of_cells (bgAsk_cells _ _))
  · exact cellsBut_refl u

/-- The state of each table after every VERIFIED one among the first `n` has returned to DONE. -/
theorem get_state_unverified (n t : Nat) (s : State) : (overRange unverify n s).get LIM_TAB_STAT_STATE t =
    if t < n ∧ s.get LIM_TAB_STAT_STATE t = 2 then 1 else s.get LIM_TAB_STAT_STATE t := by
  induction n with
  | zero => simp [overRange]
  | succ n ih =>
    rw [overRange, unverify]
    by_cases hnt : t = n
    · subst hnt
      have hsame : (overRange unverify t s).get LIM_TAB_STAT_STATE t = s.get LIM_TAB_STAT_STATE t := by simp [ih]
      rw [hsame]
      split
      · next h2 => rw [get_bgAsk, get_setTab_state t (by decide), if_pos ⟨by omega, h2⟩]
      · next h2 => rw [hsame, if_neg (fun h => h2 h.2)]
    · have hlt : t < n + 1 ↔ t < n := by omega
      simp only [hlt]
      rw [← ih]
      split
      · rw [get_bgAsk, get_setTab_state_other hnt]
      · rfl

/-- Two states that differ in numbered state and in the requests to the planner alone. -/
def QuietPlan (s t : State) : Prop := { t with cells := s.cells, bgReqs := s.bgReqs } = s

theorem quietPlan_trans {s t u : State} (h : QuietPlan s t) (h' : QuietPlan t u) : QuietPlan s u := by
  have hu : ({ u with cells := s.cells, bgReqs := s.bgReqs } : State) =
      { ({ u with cells := t.cells, bgReqs := t.bgReqs } : State) with cells := s.cells, bgReqs := s.bgReqs } := rfl
  rw [QuietPlan] at h h' ⊢
  rw [hu, h', h]

theorem unverify_quietPlan (k : Nat) (u : State) : QuietPlan u (unverify k u) := by
  unfold unverify State.bgAsk
  split
  · split <;> rfl
  · rfl

theorem unverified_quietPlan (n : Nat) (s : State) : QuietPlan s (overRange unverify n s) := by
  induction n with
  | zero => rfl
  | succ n ih => exact quietPlan_trans ih (unverify_quietPlan n _)

/-! ### Verification and the group commit (03 R72, R73) -/

/-- Verification judges the numbered state alone. -/
theorem tabVerify_bgEnd (s : State) (j : BgJob) (t : Nat) : tabVerify (s.bgEnd j) t = tabVerify s t := rfl

theorem tabVerify_le_two (s : State) (t : Nat) : tabVerify s t ≤ 2 := by
  unfold tabVerify
  dsimp only
  repeat' split
  all_goals omega

/-- While no commit is pending, the end of a verification commits nothing. -/
theorem commitIdle_of_none_pending {s : State} (h : s.get LIM_STAT_COMMIT_PEND 0 = 0) : commitIdle s = s := by
  simp [commitIdle, tryCommit, commitReady, flag_of_get_zero h]

/-- A pass's verdict entered: VERIFIED, or FAILED with its reason and the event. -/
def verdict (t why : Nat) (s : State) : State :=
  if why = 0 then setTab t 2 (s.put LIM_TAB_STAT_FAIL_WHY t 0) else (setTab t 3 (s.put LIM_TAB_STAT_FAIL_WHY t why)).raise 2058

theorem get_verdict_pend (t why : Nat) (s : State) :
    (verdict t why s).get LIM_STAT_COMMIT_PEND 0 = s.get LIM_STAT_COMMIT_PEND 0 := by
  unfold verdict
  split
  · rw [get_setTab_field (by decide), get_put_field _ _ _ _ (by decide)]
  · rw [get_raise (by decide), get_setTab_field (by decide), get_put_field _ _ _ _ (by decide)]

theorem get_verdict_state (t why : Nat) (s : State) :
    (verdict t why s).get LIM_TAB_STAT_STATE t = if why = 0 then 2 else 3 := by
  unfold verdict
  split
  · exact get_setTab_state t (by decide) _
  · rw [get_raise (by decide), get_setTab_state t (by decide)]

theorem get_verdict_why {why : Nat} (h : why ≤ 2) (t : Nat) (s : State) :
    (verdict t why s).get LIM_TAB_STAT_FAIL_WHY t = why := by
  unfold verdict
  split
  · next h0 => rw [get_setTab_field (by decide), get_put_same, h0, Nat.zero_mod]
  · rw [get_raise (by decide), get_setTab_field (by decide), get_put_same]
    exact Nat.mod_eq_of_lt (Nat.lt_of_le_of_lt h (by decide))

theorem get_verdict_done (t why : Nat) (s : State) : (verdict t why s).get LIM_TAB_CTRL_DONE t = 1 := by
  unfold verdict
  split
  · rw [setTab_closed t (by decide), get_put_same]
    rfl
  · rw [get_raise (by decide), setTab_closed t (by decide), get_put_same]
    rfl

theorem verdict_cellsBut (t why : Nat) (s : State) : CellsBut s (verdict t why s)
    [(LIM_TAB_STAT_STATE, t), (LIM_TAB_STAT_FAIL_WHY, t), (LIM_TAB_CTRL_DONE, t)] evtCells := by
  have hset (st w : Nat) : CellsBut s (setTab t st (s.put LIM_TAB_STAT_FAIL_WHY t w))
      [(LIM_TAB_STAT_STATE, t), (LIM_TAB_STAT_FAIL_WHY, t), (LIM_TAB_CTRL_DONE, t)] evtCells :=
    cellsBut_put_copy _ (cellsBut_put_copy _ (cellsBut_put_copy _ (cellsBut_refl s) (by simp)) (by simp)) (by simp)
  unfold verdict
  split
  · exact hset 2 0
  · exact cellsBut_trans (hset 3 why) (raise_cellsBut _ _ _ _ _)

theorem tabVerificationEnd_granted {s : State} {t : Nat} (hg : s.bgGranted (.table t) = true)
    (hd : s.get LIM_TAB_STAT_STATE t = 1) (hp : s.get LIM_STAT_COMMIT_PEND 0 = 0) :
    tabVerificationEnd t s = verdict t (tabVerify s t) (s.bgEnd (.table t)) := by
  have hp' : (verdict t (tabVerify s t) (s.bgEnd (.table t))).get LIM_STAT_COMMIT_PEND 0 = 0 :=
    (get_verdict_pend _ _ _).trans hp
  rw [tabVerificationEnd, if_pos hg]
  refine (if_pos hd).trans ?_
  rw [tabVerify_bgEnd]
  exact commitIdle_of_none_pending hp'

/-- The tables that GO names, a bit each. -/
def goMask (ports : Word) (slices : Bool) : Nat := ports.toNat + (if slices then 2 ^ 32 else 0)

theorem goMask_lt (ports : Word) (slices : Bool) : goMask ports slices < 2 ^ 33 := by
  have := ports.isLt
  unfold goMask
  split <;> omega

theorem goMask_ne_zero {ports : Word} {slices : Bool} (h : ports ≠ 0 ∨ slices = true) : goMask ports slices ≠ 0 := by
  rcases h with h | rfl
  · have : ports.toNat ≠ 0 := fun h0 => h (BitVec.eq_of_toNat_eq h0)
    unfold goMask
    omega
  · simp [goMask]

theorem tabNames_goMask (ports : Word) (slices : Bool) (s : State) : tabNames (goMask ports slices) s =
    (s.put LIM_TAB_COMMIT_PORTS 0 ports.toNat).put LIM_TAB_COMMIT_SLICES 0 (if slices then 1 else 0) := by
  have hlt := ports.isLt
  have hports : goMask ports slices % 2 ^ 32 = ports.toNat % 2 ^ 32 := by
    unfold goMask
    split <;> omega
  have hslices : bitsOf (goMask ports slices) 32 1 = if slices then 1 else 0 := by
    unfold goMask bitsOf
    split <;> omega
  rw [tabNames, hslices, put_congr s 0 (F := LIM_TAB_COMMIT_PORTS) hports]

theorem tabGo_ignored {s : State} {ports : Word} {slices : Bool}
    (h : s.get LIM_STAT_COMMIT_PEND 0 = 1 ∨ (ports = 0 ∧ slices = false)) : tabGo (goMask ports slices) s = s := by
  refine if_pos ?_
  rcases h with h | ⟨rfl, rfl⟩
  · simp [goIgnored, flag_of_get_one h]
  · simp [goIgnored, goMask]

/-- The request that GO makes of a group. -/
def requested (ports : Word) (slices : Bool) (s : State) : State :=
  (((s.put LIM_TAB_COMMIT_PORTS 0 ports.toNat).put LIM_TAB_COMMIT_SLICES 0 (if slices then 1 else 0)).put TAB_GROUP 0
    (goMask ports slices)).put LIM_STAT_COMMIT_PEND 0 1

theorem tabGo_requests {s : State} {ports : Word} {slices : Bool} (hp : s.get LIM_STAT_COMMIT_PEND 0 = 0)
    (h : ports ≠ 0 ∨ slices = true) : tabGo (goMask ports slices) s = commitIdle (requested ports slices s) := by
  have hn : goIgnored (goMask ports slices) s = false := by
    rw [goIgnored, flag_of_get_zero hp, Bool.false_or, Nat.mod_eq_of_lt (goMask_lt ports slices)]
    exact beq_false_of_ne (goMask_ne_zero h)
  rw [tabGo, if_neg (by simp [hn]), tabNames_goMask]
  rfl

/-- A field that a request does not write reads as before. -/
theorem get_requested {F : Fld} (h : ∀ G ∈ [LIM_TAB_COMMIT_PORTS, LIM_TAB_COMMIT_SLICES, TAB_GROUP, LIM_STAT_COMMIT_PEND],
    F.id % 4096 ≠ G.id % 4096) (ports : Word) (slices : Bool) (s : State) (i : Nat) :
    (requested ports slices s).get F i = s.get F i := by
  rw [requested, get_put_field _ _ _ _ (h _ (by simp)), get_put_field _ _ _ _ (h _ (by simp)),
    get_put_field _ _ _ _ (h _ (by simp)), get_put_field _ _ _ _ (h _ (by simp))]

theorem mem_group_requested {ports : Word} {slices : Bool} {s : State} {t : Nat} :
    t ∈ (requested ports slices s).group ↔ t < 33 ∧ bitOf (goMask ports slices) t = true := by
  have hget : (requested ports slices s).get TAB_GROUP 0 = goMask ports slices := by
    rw [requested, get_put_field _ _ _ _ (by decide), get_put_same]
    exact Nat.mod_eq_of_lt (goMask_lt ports slices)
  simp [State.group, State.bit, hget]

theorem group_nodup (s : State) : s.group.Nodup := List.nodup_range.filter _

/-- A group wholly VERIFIED is ready. -/
theorem commitReady_requested {ports : Word} {slices : Bool} {s : State}
    (h : ∀ t : Fin 33, bitOf (goMask ports slices) t = true → s.get LIM_TAB_STAT_STATE t = 2) :
    commitReady (requested ports slices s) = true := by
  have hp : (requested ports slices s).flag LIM_STAT_COMMIT_PEND 0 = true := by
    refine flag_of_get_one ?_
    rw [requested, get_put_same]
    rfl
  rw [commitReady, hp, Bool.true_and, List.all_eq_true]
  intro t ht
  obtain ⟨hlt, hb⟩ := mem_group_requested.mp ht
  rw [get_requested (by decide), h ⟨t, hlt⟩ hb]
  rfl

/-- One table's copies swap, and its new shadow is OPEN. -/
def swapTab (t : Nat) (u : State) : State := setTab t 0 (u.put TAB_BANK t (1 - u.get TAB_BANK t))

theorem get_bank_swapTab (t v : Nat) (u : State) :
    (swapTab t u).get TAB_BANK v = if v = t then 1 - u.get TAB_BANK t else u.get TAB_BANK v := by
  rw [swapTab, get_setTab_field (by decide)]
  by_cases h : v = t
  · rw [if_pos h, h, get_put_same]
    exact Nat.mod_eq_of_lt (Nat.lt_of_le_of_lt (Nat.sub_le 1 _) (by decide))
  · rw [if_neg h, get_put_copy _ _ _ h]

theorem get_state_swapTab (t v : Nat) (u : State) :
    (swapTab t u).get LIM_TAB_STAT_STATE v = if v = t then 0 else u.get LIM_TAB_STAT_STATE v := by
  rw [swapTab]
  by_cases h : v = t
  · rw [if_pos h, h, get_setTab_state t (by decide)]
  · rw [if_neg h, get_setTab_state_other h, get_put_field _ _ _ _ (by decide)]

/-- The tables of a list, each once, swap; the others do not. -/
theorem get_bank_swapped {ts : List Nat} (hn : ts.Nodup) (v : Nat) (s : State) :
    (overList swapTab ts s).get TAB_BANK v = if v ∈ ts then 1 - s.get TAB_BANK v else s.get TAB_BANK v := by
  induction ts generalizing s with
  | nil => rfl
  | cons t ts ih =>
    obtain ⟨ht, hts⟩ := List.nodup_cons.mp hn
    rw [overList, ih hts, get_bank_swapTab]
    by_cases h : v = t
    · simp [h, ht]
    · simp [h]

theorem get_state_swapped (ts : List Nat) (v : Nat) (s : State) :
    (overList swapTab ts s).get LIM_TAB_STAT_STATE v = if v ∈ ts then 0 else s.get LIM_TAB_STAT_STATE v := by
  induction ts generalizing s with
  | nil => rfl
  | cons t ts ih =>
    rw [overList, ih, get_state_swapTab]
    by_cases h : v = t
    · simp [h]
    · simp [h]

/-- A pending commit ended with an outcome for its command. -/
def commitOver (status why : Nat) (res : List Nat) (s : State) : State :=
  ((s.put LIM_STAT_COMMIT_PEND 0 0).put TAB_GROUP 0 0).settle .tabCommit status why res

theorem get_settle (s : State) (w : CmdWait) (status detail : Nat) (res : List Nat) (F : Fld) (i : Nat) :
    (s.settle w status detail res).get F i = s.get F i := rfl

theorem get_commitOver_pend (status why : Nat) (res : List Nat) (s : State) :
    (commitOver status why res s).get LIM_STAT_COMMIT_PEND 0 = 0 := by
  rw [commitOver, get_settle, get_put_field _ _ _ _ (by decide), get_put_same]
  rfl

theorem commitOver_cellsBut (status why : Nat) (res : List Nat) (s : State) :
    CellsBut s (commitOver status why res s) [(LIM_STAT_COMMIT_PEND, 0), (TAB_GROUP, 0)] [] :=
  cellsBut_trans (t := (s.put LIM_STAT_COMMIT_PEND 0 0).put TAB_GROUP 0 0)
    (cellsBut_put_copy _ (cellsBut_put_copy _ (cellsBut_refl s) (by simp)) (by simp)) (cellsBut_of_cells rfl)

/-- A field that the end of a commit does not write reads as before. -/
theorem get_commitOver {F : Fld} (h : ∀ G ∈ [LIM_STAT_COMMIT_PEND, TAB_GROUP], F.id % 4096 ≠ G.id % 4096) (status why : Nat)
    (res : List Nat) (s : State) (i : Nat) : (commitOver status why res s).get F i = s.get F i := by
  rw [commitOver, get_settle, get_put_field _ _ _ _ (h _ (by simp)), get_put_field _ _ _ _ (h _ (by simp))]

theorem doCommit_eq (s : State) : doCommit s =
    (commitOver 0 0 [s.get LIM_CYC_NUM_NUM 0] (overList swapTab s.group s)).raise 2056 (s.get LIM_CYC_NUM_NUM 0) := rfl

theorem get_bank_doCommit (v : Nat) (s : State) :
    (doCommit s).get TAB_BANK v = if v ∈ s.group then 1 - s.get TAB_BANK v else s.get TAB_BANK v := by
  rw [doCommit_eq, get_raise (by decide), get_commitOver (by decide), get_bank_swapped (group_nodup s)]

theorem get_state_doCommit (v : Nat) (s : State) :
    (doCommit s).get LIM_TAB_STAT_STATE v = if v ∈ s.group then 0 else s.get LIM_TAB_STAT_STATE v := by
  rw [doCommit_eq, get_raise (by decide), get_commitOver (by decide), get_state_swapped]

theorem get_pend_doCommit (s : State) : (doCommit s).get LIM_STAT_COMMIT_PEND 0 = 0 := by
  rw [doCommit_eq, get_raise (by decide), get_commitOver_pend]

/-- Before cycling has started a ready commit takes place at once. -/
theorem commitIdle_ready {s : State} (hs : s.get LIM_PHASE 0 ≠ 2) (hr : commitReady s = true) : commitIdle s = doCommit s := by
  rw [commitIdle, if_neg (by simpa [State.started] using hs), tryCommit, if_pos hr]

theorem commitIdle_started {s : State} (hs : s.get LIM_PHASE 0 = 2) : commitIdle s = s :=
  if_pos (by simp [State.started, hs])

/-! ### The commands of the register block: a permitted write acts -/

theorem exec_limTabDone {q : Requester} {t : Fin 33} {s : State} (h : s.permit q .registers (tabAddr t) true = .yes) :
    exec (.limTabDone q t) s = .next (tabDone t s) := congrArg Host.Outcome.next (gate_of_permit _ h)

theorem exec_limTabCopy {q : Requester} {t : Fin 33} {s : State} (h : s.permit q .registers (tabAddr t) true = .yes) :
    exec (.limTabCopy q t) s = .next (tabCopy t s) := congrArg Host.Outcome.next (gate_of_permit _ h)

theorem exec_limTabReopen {q : Requester} {t : Fin 33} {s : State} (h : s.permit q .registers (tabAddr t) true = .yes) :
    exec (.limTabReopen q t) s = .next (tabReopen t s) := congrArg Host.Outcome.next (gate_of_permit _ h)

theorem exec_limBaseWrite {q : Requester} {v : Word} {s : State} (h : s.permit q .registers 0x4040_0030 true = .yes) :
    exec (.limBaseWrite q v) s = .next (limBaseWrite v.toNat s) := congrArg Host.Outcome.next (gate_of_permit _ h)

theorem exec_limTabCommitGo {q : Requester} {ports : Word} {slices : Bool} {s : State}
    (h : s.permit q .registers 0x4040_0100 true = .yes) :
    exec (.limTabCommitGo q ports slices) s = .next (tabGo (goMask ports slices) s) :=
  congrArg Host.Outcome.next (gate_of_permit _ h)

theorem exec_limTabCommitCancel {q : Requester} {s : State} (h : s.permit q .registers 0x4040_0100 true = .yes) :
    exec (.limTabCommitCancel q) s = .next (tabCancel s) := congrArg Host.Outcome.next (gate_of_permit _ h)

/-! ### The clauses that say several things at once -/

/-- A completed copy (R71). -/
theorem tabCopyComplete_gives {t : Fin 33} {s : State} (hc : s.get TAB_COPYING t = 1) (hd : s.get TAB_DONE_WAIT t = 0)
    (hb : s.get TAB_BANK t < 2) (hs : tblSorted s.cells = true) : Gives (.tabCopyComplete t) s (fun u => u.get TAB_COPYING t = 0 ∧
      (∀ w : Nat, w < tabWords t → u.tabWord t (1 - s.get TAB_BANK t) w = s.tabWord t (s.get TAB_BANK t) w % 2 ^ 32) ∧
      (∀ (v : Fin 33) (b : Fin 2) (w : Nat), w < 2048 → (v ≠ t ∨ b.val = s.get TAB_BANK t) → u.tabWord v b w = s.tabWord v b w) ∧
      Quiet s u ∧ CellsBut s u [(TAB_COPYING, t)] [LIM_TW]) := by
  refine ⟨_, congrArg Host.Outcome.next (tabCopyComplete_copying hc hd), ?_, fun w hw => tabWord_copied hs hw, ?_, ?_, ?_⟩
  · rw [get_put_same]
    rfl
  · intro v b w hw h
    exact tabWord_copy_other hs b.isLt hw hb (h.imp (fun hv he => hv (Fin.ext he)) id)
  · exact quiet_trans (copyRange_quiet _ _ _ _ _) rfl
  · exact cellsBut_put_copy _ (copyRange_cellsBut _ _ _ _ _ _) (by simp)

/-- A write of LIM_BASE that changes BASE (R71). -/
theorem limBaseWrite_gives {q : Requester} {v : Word} {s : State} (hq : s.permit q .registers 0x4040_0030 true = .yes)
    (hr : s.get LIM_STAT_RUNNING 0 = 0) (he : s.get SBD_CTRL_EN 0 = 0) (hl : s.get LIM_CYC_CTRL_LOCK 0 = 0)
    (hb : s.get LIM_BASE_BASE 0 ≠ v.toNat % 2 ^ 10) : Gives (.limBaseWrite q v) s (fun u =>
      u.get LIM_BASE_BASE 0 = v.toNat % 2 ^ 10 ∧ u.get LIM_BASE_SLOTS_K 0 = v.toNat / 2 ^ 16 % 2 ^ 8 ∧
      (∀ t : Fin 33, u.get LIM_TAB_STAT_STATE t = if s.get LIM_TAB_STAT_STATE t = 2 then 1 else s.get LIM_TAB_STAT_STATE t) ∧
      CellsBut s u [(LIM_BASE_BASE, 0), (LIM_BASE_SLOTS_K, 0)] [LIM_TAB_STAT_STATE, LIM_TAB_CTRL_DONE] ∧
      { u with cells := s.cells, bgReqs := s.bgReqs } = s) := by
  have hframe (cs : List (Fld × Nat)) : CellsBut (withBase v.toNat s) (overRange unverify 33 (withBase v.toNat s)) cs
      [LIM_TAB_STAT_STATE, LIM_TAB_CTRL_DONE] := cellsBut_overRange (fun k u => unverify_cellsBut k u cs) 33 _
  have hbase : CellsBut s (withBase v.toNat s) [(LIM_BASE_BASE, 0), (LIM_BASE_SLOTS_K, 0)] [LIM_TAB_STAT_STATE, LIM_TAB_CTRL_DONE] :=
    cellsBut_put_copy _ (cellsBut_put_copy _ (cellsBut_refl s) (by simp)) (by simp)
  refine ⟨_, (exec_limBaseWrite hq).trans (congrArg Host.Outcome.next (limBaseWrite_changed hr he hl hb)), ?_, ?_, ?_, ?_, ?_⟩
  · exact (hframe [] _ _ (by simp) (by decide)).trans (get_withBase_base _ _)
  · exact (hframe [] _ _ (by simp) (by decide)).trans (get_withBase_slots _ _)
  · intro t
    have ht : (withBase v.toNat s).get LIM_TAB_STAT_STATE t = s.get LIM_TAB_STAT_STATE t := by
      rw [withBase, get_put_field _ _ _ _ (by decide), get_put_field _ _ _ _ (by decide)]
    simp [get_state_unverified, ht, t.isLt]
  · exact cellsBut_trans hbase (hframe _)
  · exact quietPlan_trans (t := withBase v.toNat s) rfl (unverified_quietPlan 33 _)

/-- GO of a group wholly VERIFIED, before cycling has started (R73). -/
theorem limTabCommitGo_swaps {q : Requester} {ports : Word} {slices : Bool} {s : State}
    (hq : s.permit q .registers 0x4040_0100 true = .yes) (hp : s.get LIM_STAT_COMMIT_PEND 0 = 0)
    (hm : ports ≠ 0 ∨ slices = true) (hs : s.get LIM_PHASE 0 ≠ 2)
    (hv : ∀ t : Fin 33, bitOf (goMask ports slices) t = true → s.get LIM_TAB_STAT_STATE t = 2) :
    Gives (.limTabCommitGo q ports slices) s (fun u => u.get LIM_STAT_COMMIT_PEND 0 = 0 ∧
      (∀ t : Fin 33, bitOf (goMask ports slices) t = true →
        u.get TAB_BANK t = 1 - s.get TAB_BANK t ∧ u.get LIM_TAB_STAT_STATE t = 0) ∧
      (∀ t : Fin 33, bitOf (goMask ports slices) t = false →
        u.get TAB_BANK t = s.get TAB_BANK t ∧ u.get LIM_TAB_STAT_STATE t = s.get LIM_TAB_STAT_STATE t) ∧
      u.bit EVT_SEEN_SEEN 64 8 = true) := by
  have hgo : tabGo (goMask ports slices) s = doCommit (requested ports slices s) :=
    (tabGo_requests hp hm).trans
      (commitIdle_ready (by rw [get_requested (by decide)]; exact hs) (commitReady_requested hv))
  have hgroup (t : Fin 33) : (t : Nat) ∈ (requested ports slices s).group ↔ bitOf (goMask ports slices) t = true :=
    mem_group_requested.trans (and_iff_right t.isLt)
  refine ⟨_, (exec_limTabCommitGo hq).trans (congrArg Host.Outcome.next hgo), get_pend_doCommit _, ?_, ?_, raise_seen _ 2056 _ _⟩
  · intro t ht
    rw [get_bank_doCommit, get_state_doCommit, if_pos ((hgroup t).mpr ht), if_pos ((hgroup t).mpr ht), get_requested (by decide)]
    exact ⟨rfl, rfl⟩
  · intro t ht
    have hout : (t : Nat) ∉ (requested ports slices s).group := by simp [hgroup t, ht]
    rw [get_bank_doCommit, get_state_doCommit, if_neg hout, if_neg hout, get_requested (by decide), get_requested (by decide)]
    exact ⟨rfl, rfl⟩

/-- CANCEL of a pending commit (R73). -/
theorem limTabCommitCancel_abandons {q : Requester} {s : State} (hq : s.permit q .registers 0x4040_0100 true = .yes)
    (hp : s.get LIM_STAT_COMMIT_PEND 0 = 1) : Gives (.limTabCommitCancel q) s (fun u => u.get LIM_STAT_COMMIT_PEND 0 = 0 ∧
      (∀ t : Fin 33, u.get LIM_TAB_STAT_STATE t = s.get LIM_TAB_STAT_STATE t ∧ u.get TAB_BANK t = s.get TAB_BANK t) ∧
      CellsBut s u [(LIM_STAT_COMMIT_PEND, 0), (TAB_GROUP, 0)] []) := by
  have hcancel : tabCancel s = commitOver 0x0207 (s.fresh % 2 ^ 16) [s.used.get LIM_CYC_NUM_NUM 0] s.used :=
    if_pos (flag_of_get_one hp)
  refine ⟨_, (exec_limTabCommitCancel hq).trans (congrArg Host.Outcome.next hcancel), get_commitOver_pend _ _ _ _, ?_, ?_⟩
  · exact fun t => ⟨get_commitOver (by decide) _ _ _ _ _, get_commitOver (by decide) _ _ _ _ _⟩
  · exact cellsBut_trans (cellsBut_of_cells rfl) (commitOver_cellsBut _ _ _ _)

/-- Settles O14: each command of the Tablatures by the lemmas on what it does, the copy by what a copied run of words reads, the
commit by what a swapped list of tables reads. -/
theorem tabTables : Obligations.TabTables := by
  unfold Obligations.TabTables
  refine ⟨?done, ?doneCopying, ?outsideOpen, ?copy, ?copied, ?noCopy, ?reopen, ?reopenIgnored, ?baseIgnored, ?baseChanged,
    ?verified, ?goIgnored, ?goPends, ?goSwaps, ?cancel, ?cancelNone⟩
  case done => exact fun q t s hq ho hc => (exec_limTabDone hq).trans (congrArg _ (tabDone_open ho hc))
  case doneCopying => exact fun q t s hq ho hc => (exec_limTabDone hq).trans (congrArg _ (tabDone_copying ho hc))
  case outsideOpen =>
    exact fun q t s hq ho => ⟨(exec_limTabDone hq).trans (congrArg _ (if_pos ho)), (exec_limTabCopy hq).trans (congrArg _ (if_neg ho))⟩
  case copy => exact fun q t s hq ho => (exec_limTabCopy hq).trans (congrArg _ (if_pos ho))
  case copied => exact fun t s hc hd hb ⟨hs, _, _⟩ => tabCopyComplete_gives hc hd hb hs
  case noCopy => exact fun t s hc => congrArg Host.Outcome.next (if_neg (by simp [flag_of_get_zero hc]))
  case reopen => exact fun q t s hq hc hg => (exec_limTabReopen hq).trans (congrArg _ (tabReopen_closed hc hg))
  case reopenIgnored => exact fun q t s hq h => (exec_limTabReopen hq).trans (congrArg _ (tabReopen_ignored h))
  case baseIgnored => exact fun q v s hq h => (exec_limBaseWrite hq).trans (congrArg _ (limBaseWrite_ignored _ h))
  case baseChanged => exact fun q v s hq hr he hl hb => limBaseWrite_gives hq hr he hl hb
  case verified =>
    intro t s hg hd hp
    refine ⟨_, congrArg Host.Outcome.next (tabVerificationEnd_granted hg hd hp), ?_, ?_, get_verdict_done _ _ _, ?_⟩
    · rw [get_verdict_state, get_verdict_why (tabVerify_le_two s t)]
    · exact get_verdict_why (tabVerify_le_two s t) t _
    · exact cellsBut_trans (cellsBut_of_cells rfl) (verdict_cellsBut _ _ _)
  case goIgnored => exact fun q ports slices s hq h => (exec_limTabCommitGo hq).trans (congrArg _ (tabGo_ignored h))
  case goPends =>
    intro q ports slices s hq hp hm hs
    have hs' : (requested ports slices s).get LIM_PHASE 0 = 2 := by rw [get_requested (by decide), hs]
    exact (exec_limTabCommitGo hq).trans (congrArg _ ((tabGo_requests hp hm).trans (commitIdle_started hs')))
  case goSwaps => exact fun q ports slices s hq hp hm hs hv => limTabCommitGo_swaps hq hp hm hs hv
  case cancel => exact fun q s hq hp => limTabCommitCancel_abandons hq hp
  case cancelNone =>
    exact fun q s hq hp => (exec_limTabCommitCancel hq).trans (congrArg _ (if_neg (by simp [flag_of_get_zero hp])))

end Sys2Proof.Machine.LineCycle
end

section
namespace Sys2Proof.Machine.LineCycle

/-! ### A boundary that itself writes to the half it has just closed (03 R59, R60, 12 R293, R297)

The boundary begins a cycle in which no write to the out half has been counted yet. It also triggers the sequences with TRIG = 4, and
one of them with POLICY = RESTART that still runs ends at once with its header written to its slot of the Soundboard. Where that slot
lies in the out half, the write is discarded and counts, so a discarded write of the new cycle has been seen when the boundary ends. -/

/-- A first boundary is due, with SLOTS_K = 1; the switch is off, and the reserved window of 64 KiB at offset 0 lies
in half 0. Sequence 0, with its ring in that window, runs, and restarts at a boundary. -/
def restarting : State :=
  let line := (((State.reset.put LIM_PHASE 0 1).put LIM_STAT_RUNNING 0 1).put LIM_BASE_SLOTS_K 0 1).put SBD_RSV_SIZE 0 1
  let seq := ((line.put MKC_SEQ_CFG_EN 0 1).put MKC_SEQ_CFG_TRIG 0 4).put MKC_SEQ_CFG_POLICY 0 2
  ((seq.put MKC_SEQ_CFG_MASK 0 1).put MKC_SEQ_RING_SLOT_K 0 1).put MKC_SEQ_STAT_STATE 0 2

/-- The state is in canonical form, and the sequence is configured as EN = 1 demands (12 R299). -/
theorem restarting_admissible : restarting.Inv ∧ seqBad restarting 0 = false := by decide +kernel

/-- The boundary is due, no stop waits, and no change of period is armed. -/
theorem restarting_due : restarting.get LIM_PHASE 0 ≠ 0 ∧
    restarting.reached (restarting.get LIM_CYC_CTRL_DOM 0) (restarting.get LIM_NEXT 0) = true ∧ restarting.get LIM_STOP 0 = 0 ∧
    restarting.get LIM_CYC_CHG_NEW_PERIOD 0 < 2 ^ 23 ∧
    restarting.get LIM_STAT_CHG_PEND 0 < 2 := by decide +kernel

/-- The boundary's own header write is discarded, counts in OUT_WR and is seen in the new cycle. -/
theorem restarting_boundary_counts : Gives .boundary restarting (fun t =>
    t.get LIM_CNT0_OUT_WR 0 = 1 ∧ t.get LIM_OUT_SEEN 0 = 1) := ⟨_, rfl, by decide +kernel⟩

/-- Refutes O12: after a boundary the statement wants no discarded out-half write counted in the new cycle (`LIM_OUT_SEEN` 0), but
at the boundary of `restarting` the header of the sequence that restarts is such a write. -/
theorem not_cycleTimer : ¬ Obligations.CycleTimer := by
  unfold Obligations.CycleTimer
  rintro ⟨-, -, -, -, -, -, hboundary, -, -⟩
  obtain ⟨hphase, hreached, hstop, hnew, hpend⟩ := restarting_due
  obtain ⟨t, ht, -, -, -, -, -, -, -, -, hseen⟩ :=
    hboundary _ _ restarting hphase hreached hstop rfl hnew rfl hpend
  obtain ⟨u, hu, -, hone⟩ := restarting_boundary_counts
  have htu : t = u := Host.Outcome.next.inj (ht.symm.trans hu)
  rw [htu, hone] at hseen
  exact absurd hseen (by decide)

end Sys2Proof.Machine.LineCycle
end

section
/-! PROOFS. The Louvre schedules (O16) of spec/04_soundboard_switch.md: a start on one port that ends a held fragment on another
refutes the statement. -/

namespace Sys2Proof.Machine.Louvres

/-! ### A start on one port while another port's hold is in force (04 R95, R99, R104)

EGRESS_START first does what is due on the wires of every port: a frame whose last octet has left is released, and under a hold a
preemptable fragment that has reached its minimum length ends, on whatever port it is. The statement asks that the wires of the other
ports carry no frame that has ended, not that no hold is in force there, and wants those wires unchanged. -/

/-- A frame of the control core, bridged nowhere and without a stream: it leaves as it is stored. -/
def plainFrame (id : Nat) : Frame :=
  ⟨id, [1, 2, 3], 1, 1, 72, 0, ⟨0, 0, 0, 0, 0, none, false, false, false, false, false, false, none⟩, none, 0, none, none, false, 0⟩

/-- Frame 8, of the preemptable class 0, on the wire of port 34 since core clock count 0, and until 200. -/
def heldWire : OnWire := ⟨34, 0, 8, 200, none, 0⟩

/-- At core clock count 100 a hold is in force on port 34, which began before the fragment of `heldWire` there had its minimum length;
port 33 is idle and ready, its list off, with a frame in its class 5. -/
def holding : State :=
  let hold := (((State.reset.put SBD_LVR_CTRL_EN 34 1).put LVR_HAVE 34 1).put SBD_LVR_STAT_ACTIVE 34 1).put LVR_HOLD 34 1
  let list := hold.put LVR_W (34 * 2 * 2048) 0x1FF
  let merge := (list.put SBD_PORT_PREEMPT_STATUS 34 2).put SBD_PORT_PREEMPT_PREEMPTABLE 34 1
  let idle := ((merge.put TRK_PORT_STAT_LINK 1 1).put TRK_PORT_STAT_TX_READY 1 1).put CORE_COUNT 0 100
  { idle with queues := [⟨33, 5, 7⟩], frames := [plainFrame 7, plainFrame 8], wires := [heldWire] }

/-- The state is in canonical form, and the entry in force on port 34 is a hold with every gate open. -/
theorem holding_admissible : holding.Inv ∧ gateWord holding 34 = some 0x1FF := by decide +kernel

/-- No frame on a wire has ended, and none is on the wire of port 33. -/
theorem holding_wires : ∀ w ∈ holding.wires, w.port ≠ 33 ∧ (w.paused = none → holding.get CORE_COUNT 0 < w.until') := by
  decide +kernel

/-- Port 33 is up and ready, in no ring, its list off, its gate open, without preemption and without an age limit. -/
theorem holding_port : portLink holding 33 = true ∧ portReady holding 33 = true ∧ holding.get MAC_CFG_RING_ROLE 33 = 0 ∧
    holding.get SBD_LVR_STAT_ACTIVE 33 = 0 ∧ holding.get SBD_LVR_CTRL_EN 33 = 0 ∧
    holding.bit SBD_LVR_CTRL_ADMIN_GATES 33 5 = true ∧ holding.get SBD_PORT_PREEMPT_STATUS 33 = 0 ∧
    (∀ k : Nat, k < 8 → holding.get SBD_QCLASS_RES_LIMIT (33 * 8 + k) = 0) := by decide +kernel

/-- Pair operation, cycling, mirroring and MACsec are off. -/
theorem holding_blocks_off : holding.get RDN_CFG_EN 0 = 0 ∧ holding.get LIM_PHASE 0 = 0 ∧
    (∀ k : Nat, k < 4 → holding.get SBD_MIR_CFG_EN k = 0) ∧ (∀ l : Nat, l < 8 → holding.get TRK_MSEC_CFG_EN l = 0) := by
  decide +kernel

/-- The start on port 33 ends the held fragment on port 34, of which 100 core clock cycles are left. -/
theorem holding_egress_pauses : Gives (.egressStart 33 false .none .none) holding (fun t =>
    t.wires.head? = some { heldWire with paused := some 100 }) := ⟨_, rfl, by decide +kernel⟩

/-- Refutes O16: after EGRESS_START the statement wants the wires of the other ports as they were, but the start on port 33 of
`holding` ends the fragment that port 34 sends under a hold. -/
theorem not_louvreSchedules : ¬ Obligations.LouvreSchedules := by
  unfold Obligations.LouvreSchedules
  rintro ⟨-, -, -, -, -, -, -, -, -, -, -, -, -, -, -, hstart, -, -⟩
  obtain ⟨hlink, hready, hring, hactive, hen, hgate, hpreempt, hage⟩ := holding_port
  obtain ⟨hpair, hphase, hmirror, hmacsec⟩ := holding_blocks_off
  obtain ⟨t, ht, -, -, hwires, -⟩ := hstart 33 5 _ (plainFrame 7) [] [] holding rfl (by decide) (by simp) (by simp) (by simp) rfl rfl
    rfl rfl rfl (by decide) rfl holding_wires hlink hready hring hpair hactive hen hgate hpreempt hage rfl hphase hmirror hmacsec
  obtain ⟨u, hu, hpaused⟩ := holding_egress_pauses
  have htu : t = u := Host.Outcome.next.inj (ht.symm.trans hu)
  have hkept : t.wires.head? = some heldWire := congrArg List.head? hwires
  rw [← htu, hkept] at hpaused
  exact absurd hpaused (by decide)

end Sys2Proof.Machine.Louvres
end

section
/-! PROOFS. Trunk ports and lanes (O21) of spec/06_trunk_lanes.md: a retrain of a lane that was DEGRADED when its window began refutes
the statement. -/

namespace Sys2Proof.Machine.TrunkLanes

open LineCycle (flag_of_get_zero get_raise cellsBut_refl cellsBut_trans cellsBut_mono cellsBut_put_field raise_cellsBut)

/-- A raised event changes numbered state that `Fs` lists, where it lists that of events. -/
theorem raise_cellsBut_listed {Fs : List Fld} (h : evtCells ⊆ Fs) (s : State) (n detail : Nat) (own : Option (Nat × Nat)) :
    CellsBut s (s.raise n detail own) [] Fs :=
  cellsBut_mono (List.Subset.refl _) h (raise_cellsBut s n detail own [])

/-! ### A retrain that ends on a lane that was DEGRADED (06 R142, R143)

A lane that is DEGRADED asks for a window like one that is UP, and RETRAIN_WINDOW notes what it was. R143 lets it return to UP after
RECOVER_N good measurements alone, so it is DEGRADED again when the retrain ends, however its margin measures then. The statement asks
of a lane in RETRAIN nothing about what it was, and wants it UP wherever the margin measures good at the end. -/

/-- A lane that enters a state shows it. -/
theorem get_lane_setLane {k st : Nat} (h : st < 8) (s : State) : (setLane k st s).get TRK_LANE_STAT_LANE k = st := by
  have hport (u : State) (l i : Nat) : (refreshPort l u).get TRK_LANE_STAT_LANE i = u.get TRK_LANE_STAT_LANE i := by
    simp only [refreshPort, State.putFlag]
    rw [get_put_field _ _ _ _ (by decide), get_put_field _ _ _ _ (by decide)]
  rw [setLane, hport, get_put_same]
  exact Nat.mod_eq_of_lt h

/-- Beyond the event, the check of a port's variable parts changes its own note alone (02 R44). -/
theorem asymCheck_cellsBut (p : Nat) (s : State) : CellsBut s (asymCheck p s) [] (ASYM_OUT :: evtCells) := by
  have hnote (v : Nat) : CellsBut s (s.put ASYM_OUT p v) [] (ASYM_OUT :: evtCells) :=
    cellsBut_put_field _ _ (cellsBut_refl s) (by simp)
  unfold asymCheck
  extract_lets thr out
  split
  · split
    · exact cellsBut_refl s
    · exact cellsBut_trans (hnote 1) (raise_cellsBut_listed (List.subset_cons_self _ _) _ _ _ _)
  · exact hnote 0

/-- The variable parts of a port are tracked; its lanes stay as they are. -/
theorem get_lane_varTrack (p tx rx : Nat) (s : State) (i : Nat) :
    (varTrack p tx rx s).get TRK_LANE_STAT_LANE i = s.get TRK_LANE_STAT_LANE i := by
  unfold varTrack varMoved
  split
  · rw [asymCheck_cellsBut _ _ _ _ (by simp) (by decide), get_put_field _ _ _ _ (by decide), get_put_field _ _ _ _ (by decide),
      get_put_field _ _ _ _ (by decide)]
  · rfl

/-- A retrain that ends on a lane that was DEGRADED when its window began leaves it DEGRADED, whatever its margin (06 R143). -/
theorem trkRetrainDone_keeps_degraded {s : State} {k : Nat} (hl : s.get TRK_LANE_STAT_LANE k = laneRetrain)
    (hr : s.get RATE_RUN k = 0) (hw : s.get LANE_WAS (32 + k) = laneDegraded) (deg : Bool) (neg tx rx : Nat) :
    (trkRetrainDone k deg neg tx rx s).get TRK_LANE_STAT_LANE k = laneDegraded := by
  have hwas : (((s.put RATE_RUN k 0).put LANE_GOOD (32 + k) 0).put TRAIN_FAILS k 0).get LANE_WAS (32 + k) = laneDegraded := by
    rw [get_put_field _ _ _ _ (by decide), get_put_field _ _ _ _ (by decide), get_put_field _ _ _ _ (by decide), hw]
  simp only [trkRetrainDone, hl, true_or, if_true, flag_of_get_zero hr, Bool.false_eq_true, if_false, hwas]
  rw [get_lane_varTrack, get_raise (by decide), State.sat, get_put_field _ _ _ _ (by decide), get_lane_setLane (by decide)]

/-- Single-lane port 0 is up, its lane UP, with the thresholds of a cold reset. -/
def upLane : State :=
  ((((State.reset.put TRK_GRP_CFG_EN 0 1).put TRK_PORT_CFG_EN 0 1).put TRK_PORT_STAT_LINK 0 1).put TRK_PORT_STAT_FEC_LOCK 0 1).put
    TRK_LANE_STAT_LANE 0 laneUp

/-- A margin of 0 is measured: the lane is DEGRADED and asks for a window. -/
def degradedLane : State := trkMargin 0 0 0 0 upLane

/-- The window is granted. -/
def retraining : State := trkWindow 0 degradedLane

/-- Two commands lead from the lane that is UP to the one in RETRAIN, by way of DEGRADED. -/
theorem retraining_reached : exec (.trkMarginMeasure 0 0 0 0) upLane = .next degradedLane ∧
    exec (.trkRetrainWindow 0) degradedLane = .next retraining ∧ degradedLane.get TRK_LANE_STAT_LANE 0 = laneDegraded :=
  ⟨rfl, rfl, by decide +kernel⟩

/-- The state is in canonical form; the lane is in RETRAIN, for no rate change, and was DEGRADED. -/
theorem retraining_lane : retraining.Inv ∧ retraining.get TRK_GRP_CFG_SPLIT 0 = 0 ∧
    retraining.get TRK_LANE_STAT_LANE 0 = laneRetrain ∧ retraining.get RATE_RUN 0 = 0 ∧
    retraining.get LANE_WAS 32 = laneDegraded := by decide +kernel

/-- Refutes O21: a retrain that ends with a good margin is to leave the lane UP, but the lane of `retraining`, which a measurement
below FLOOR and the window it asked for have led to, was DEGRADED and stays so. -/
theorem not_trunkPortsAndLanes : ¬ Obligations.TrunkPortsAndLanes := by
  unfold Obligations.TrunkPortsAndLanes
  rintro ⟨-, -, -, -, -, -, -, -, -, -, -, -, -, -, -, -, -, -, -, -, -, -, -, hdone, -⟩
  obtain ⟨-, hsplit, hlane, hrate, hwas⟩ := retraining_lane
  obtain ⟨t, ht, hup, -⟩ := hdone 0 false 2 0 0 retraining hsplit hlane
  have htu : trkRetrainDone 0 false 2 0 0 retraining = t := Host.Outcome.next.inj ht
  have hkept := trkRetrainDone_keeps_degraded hlane hrate hwas false 2 0 0
  rw [htu] at hkept
  exact absurd (hkept.symm.trans hup) (by decide)

end Sys2Proof.Machine.TrunkLanes
end

section
/-! PROOFS. Time transfer (O23) of spec/06_trunk_lanes.md: a request on a port whose link is down refutes the statement. -/

namespace Sys2Proof.Machine.TimeTransfer

open LineCycle (flag_of_get_one flag_of_get_zero get_raise cellsBut_refl cellsBut_trans cellsBut_put_field cellsBut_overRange
  cellsBut_overList)
open TrunkLanes (raise_cellsBut_listed)

/-! ### A request on a port whose link is down (06 R144, R153)

R153 sends a request whenever time transfer is on, a slave domain is named and the interval has passed. The link is no condition: a
request to a port whose link is down takes its sequence number and its copy is dropped at the queue (R144, 04 R105). The statement
wants such a command to change nothing. -/

/-- Without its link a trunk port is closed, to MKA and time-transfer frames too. -/
theorem portClosed_of_link_down {s : State} {l : Nat} (hl : l < 8) (h : s.get TRK_PORT_STAT_LINK l = 0) (mka : Bool) :
    portClosed s mka (32 + l) = true := by
  have hp : portLink s (32 + l) = false := by
    rw [portLink, if_neg (by omega), if_pos (by omega), Nat.add_sub_cancel_left]
    exact flag_of_get_zero h
  simp [portClosed, hp]

/-- A time-transfer frame for a closed trunk port is dropped, and counts in LINK_DROP. -/
theorem ttSend_closed {s : State} {ch : Nat} (hch : ch < 8) (h : portClosed s true (32 + ch) = true) (payload : List Byte) :
    ttSend ch payload s = s.count1 SBD_PCNT_LINK_DROP (32 + ch) (1031 + 8 * (32 + ch)) := by
  rw [ttSend, if_neg (by simp only [ttPair]; omega)]
  simp [linkFilter, h, overList, storeFrame]

/-- The numbered state that the end of an interval without a response may change (06 R155). -/
def missCells : List Fld := [TT_MISS, TRK_TT_CNT_LOST, TT_LOST_SAID] ++ evtCells

theorem ttLose_cellsBut (ch d : Nat) (s : State) : CellsBut s (ttLose ch d s) [] missCells := by
  have hlost : CellsBut s (s.sat TRK_TT_CNT_LOST ch) [] missCells :=
    cellsBut_put_field _ _ (cellsBut_refl s) (by simp [missCells])
  unfold ttLose
  extract_lets u
  split
  · exact hlost
  · exact cellsBut_trans (cellsBut_put_field _ _ hlost (by simp [missCells]))
      (raise_cellsBut_listed (List.subset_append_right _ _) _ _ _ _)

theorem ttMissed_cellsBut (ch : Nat) (s : State) : CellsBut s (ttMissed ch s) [] missCells := by
  have hcount : CellsBut s
      (overRange (fun d t => if bitOf (ttSlave t ch) d then t.sat TT_MISS (ch * 16 + d) else t) 16 s) [] missCells := by
    refine cellsBut_overRange (fun d t => ?_) 16 s
    split
    · exact cellsBut_put_field _ _ (cellsBut_refl t) (by simp [missCells])
    · exact cellsBut_refl t
  unfold ttMissed
  extract_lets lost counted
  split
  · exact hcount
  · exact cellsBut_trans hcount (cellsBut_overList (ttLose_cellsBut ch) lost counted)

/-- A first count and its event change no field but the counter and those of events. -/
theorem get_count1 {F G : Fld} (hF : G.id % 4096 ≠ F.id % 4096) (h : ∀ E ∈ evtCells, E.id % 4096 ≠ G.id % 4096) (s : State)
    (i n detail j : Nat) : (s.count1 F i n detail).get G j = s.get G j := by
  unfold State.count1
  split
  · rw [get_raise h, State.sat, get_put_field _ _ _ _ hF]
  · rw [State.sat, get_put_field _ _ _ _ hF]

/-- A request that is due takes the next sequence number, on a port whose link is down too (06 R153). -/
theorem ttRequest_link_down_takes_number {s : State} {ch : Nat} (hch : ch < 8) (hon : s.get TRK_TT_CFG_EN ch = 1)
    (hslave : s.get TRK_TT_DOM_SLAVE ch ≠ 0) (hdue : s.get TT_DUE ch ≤ s.get CORE_COUNT 0)
    (hlink : s.get TRK_PORT_STAT_LINK ch = 0) :
    (ttRequest ch s).get TT_SEQ ch = (s.get TT_SEQ ch + 1) % 2 ^ 16 := by
  have hne : ch ≠ ttPair := by
    simp only [ttPair]
    omega
  have hmiss {F : Fld} (h : ∀ G ∈ missCells, G.id % 4096 ≠ F.id % 4096) (i : Nat) : (ttMissed ch s).get F i = s.get F i :=
    ttMissed_cellsBut ch s F i (by simp) h
  have hgo : ttOn s ch = true ∧ ttSlave s ch ≠ 0 ∧ s.get TT_DUE ch ≤ s.get CORE_COUNT 0 := by
    simp only [ttOn, ttSlave, if_neg hne]
    exact ⟨flag_of_get_one hon, hslave, hdue⟩
  rw [ttRequest, if_pos hgo]
  extract_lets u n t
  have htlink : t.get TRK_PORT_STAT_LINK ch = 0 := by
    rw [get_put_field _ _ _ _ (by decide), get_put_field _ _ _ _ (by decide), hmiss (by decide), hlink]
  rw [ttSend_closed hch (portClosed_of_link_down hch htlink true), get_count1 (by decide) (by decide),
    get_put_field _ _ _ _ (by decide), get_put_same]
  exact congrArg (fun m => (m + 1) % 2 ^ 16) (hmiss (by decide) ch)

/-- Time transfer of port 0 is on, the port slave for domain 0, and its first request due; its link is down. -/
def slaveLinkDown : State := (State.reset.put TRK_TT_CFG_EN 0 1).put TRK_TT_DOM_SLAVE 0 1

/-- Two register writes of the control core lead there from reset: TRK_TT_CFG with EN = 1 and the rest as at reset, then TRK_TT_DOM. -/
theorem slaveLinkDown_reached :
    Gives (.registerWrite .cc 0x4070_4040 2 0x671) State.reset (fun t => t = State.reset.put TRK_TT_CFG_EN 0 1) ∧
    Gives (.registerWrite .cc 0x4070_4044 2 1) (State.reset.put TRK_TT_CFG_EN 0 1) (fun t => t = slaveLinkDown) :=
  ⟨⟨_, rfl, by decide +kernel⟩, ⟨_, rfl, by decide +kernel⟩⟩

/-- The state is in canonical form; its request is due, its link down, and no request was sent yet. -/
theorem slaveLinkDown_port : slaveLinkDown.Inv ∧ slaveLinkDown.get TRK_TT_CFG_EN 0 = 1 ∧
    slaveLinkDown.get TRK_TT_DOM_SLAVE 0 ≠ 0 ∧ slaveLinkDown.get TT_DUE 0 ≤ slaveLinkDown.get CORE_COUNT 0 ∧
    slaveLinkDown.get TRK_PORT_STAT_LINK 0 = 0 ∧ slaveLinkDown.get TT_SEQ 0 = 0 := by decide +kernel

/-- Refutes O23: TT_REQUEST_SEND is to change nothing on a port whose link is down, but the request of `slaveLinkDown`, which is
due, takes sequence number 1. -/
theorem not_timeTransfer : ¬ Obligations.TimeTransfer := by
  unfold Obligations.TimeTransfer
  rintro ⟨-, -, hnothing, -⟩
  obtain ⟨-, hon, hslave, hdue, hlink, hseq⟩ := slaveLinkDown_port
  have hsame : ttRequest 0 slaveLinkDown = slaveLinkDown :=
    Host.Outcome.next.inj (hnothing 0 slaveLinkDown (by decide) (.inr (.inr (.inl hlink))))
  have hnumber := ttRequest_link_down_takes_number (by decide) hon hslave hdue hlink
  rw [hsame, hseq] at hnumber
  exact absurd hnumber (by decide)

end Sys2Proof.Machine.TimeTransfer
end

section
/-! PROOFS. The directory of the L1 caches (O26) of spec/07_courses_protocol_engines.md: what a grant makes of the directory, line by
line, then what a round does with the requests that wait, then the commands. -/

namespace Sys2Proof.Machine.CacheDirectory

/-! ### Saturating counters -/

theorem get_sat_same (s : State) (F : Fld) (i : Nat) : (s.sat F i).get F i = min (s.get F i + 1) (2 ^ F.w - 1) := by
  have hpos : 0 < 2 ^ F.w := Nat.two_pow_pos F.w
  rw [State.sat, get_put_same]
  exact Nat.mod_eq_of_lt (by omega)

/-- A cell of another field reads as before the count. -/
theorem get_sat_field (s : State) {F G : Fld} (i j : Nat) (h : G.id % 4096 ≠ F.id % 4096) : (s.sat F i).get G j = s.get G j :=
  get_put_field s i j _ h

/-! ### Entries and holders -/

/-- The entry of the one line that the directory lists. -/
theorem dirEntry_of_singleton {s : State} {e : DirEntry} (h : s.dir = [e]) : s.dirEntry e.line = some e := by
  simp [State.dirEntry, h]

theorem dirEntry_eq_none {s : State} {L : Nat} (h : ∀ e ∈ s.dir, e.line ≠ L) : s.dirEntry L = none := by
  simpa [State.dirEntry] using h

theorem holdersOf_of_owned {s : State} {L j : Nat} {d : Bool} (h : s.dir = [⟨L, some j, d, []⟩]) : s.holdersOf L = [j] := by
  rw [State.holdersOf, dirEntry_of_singleton h]
  rfl

theorem holdersOf_of_shared {s : State} {L : Nat} {ks : List Nat} (h : s.dir = [⟨L, none, false, ks⟩]) : s.holdersOf L = ks := by
  rw [State.holdersOf, dirEntry_of_singleton h]
  rfl

theorem holdersOf_eq_nil {s : State} {L : Nat} (h : s.dirEntry L = none) : s.holdersOf L = [] := by
  simp [State.holdersOf, h]

/-- An L1 that holds no line has room. -/
theorem l1Room_of_holds_none {s : State} {k : Nat} (L : Nat) (h : ∀ e ∈ s.dir, k ∉ e.holders) : l1Room k L s = s := by
  have hset : s.dir.filter (fun e => e.holders.contains k && Config.l1Set e.line = Config.l1Set L) = [] := by
    simpa using fun e he hk => absurd hk (h e he)
  unfold l1Room
  split
  · rfl
  · rw [hset]
    rfl

/-- A directory of less than 16 entries has room (R184). -/
theorem dirRoom_of_short {s : State} (L : Nat) (h : s.dir.length < 16) : dirRoom L s = s := by
  unfold dirRoom
  split
  · rfl
  · exact if_pos (Nat.lt_of_le_of_lt (List.length_filter_le _ _) h)

/-- An L1 that loses a line loses the reservation on it (08 R218). -/
theorem loseLine_of_reserved {s : State} {k L : Nat} (h : s.resvs = [⟨k, 64 * L, 64⟩] ∨ s.resvs = []) :
    loseLine k L s = { s with resvs := [] } := by
  rcases h with h | h <;> simp [loseLine, h]

/-- The one entry of the directory becomes another of the same line. -/
theorem putDir_of_line {s : State} {e : DirEntry} (h : ∀ x ∈ s.dir, x.line = e.line) :
    putDir e s = { s with dir := if e.holders = [] then [] else [e] } := by
  have hrest : s.dir.filter (fun x => x.line ≠ e.line) = [] := by simpa using h
  simp only [putDir, hrest, List.nil_append]

/-! ### Grants (07 R182, 08 R218) -/

/-- A read of a line that no L1 holds. -/
theorem grantRd_unheld {s : State} {L : Nat} (k : Nat) (h : s.dir = []) :
    grantRd k L s = { s with dir := [⟨L, none, false, [k]⟩] } := by
  have hentry : s.dirEntry L = none := dirEntry_eq_none (by simp [h])
  rw [grantRd, l1Room_of_holds_none L (by simp [h]), dirRoom_of_short L (by simp [h]), hentry]
  exact putDir_of_line (by simp [h])

/-- A read of a line that another L1 owns recalls it. -/
theorem grantRd_owned {s : State} {L j k : Nat} {d : Bool} (h : s.dir = [⟨L, some j, d, []⟩]) (hj : j ≠ k)
    (hr : s.resvs = [⟨j, 64 * L, 64⟩] ∨ s.resvs = []) :
    grantRd k L s = { s with dir := [⟨L, none, false, [k]⟩], resvs := [] } := by
  rw [grantRd, l1Room_of_holds_none L (by simp [h, DirEntry.holders, hj.symm]), dirRoom_of_short L (by simp [h]),
    dirEntry_of_singleton h]
  simp only [if_neg hj, loseLine_of_reserved hr]
  exact putDir_of_line (by simp [h])

/-- A read of a line that another L1 shares joins it. -/
theorem grantRd_shared {s : State} {L j k : Nat} (h : s.dir = [⟨L, none, false, [j]⟩]) (hj : j ≠ k) :
    grantRd k L s = { s with dir := [⟨L, none, false, [j, k]⟩] } := by
  rw [grantRd, l1Room_of_holds_none L (by simp [h, DirEntry.holders, hj.symm]), dirRoom_of_short L (by simp [h]),
    dirEntry_of_singleton h]
  simp only [List.contains_eq_mem, List.mem_singleton, hj.symm, decide_false, Bool.false_eq_true, if_false]
  exact putDir_of_line (by simp [h])

/-- Ownership of a line that no L1 holds. -/
theorem grantOwn_unheld {s : State} {L : Nat} (k : Nat) (h : s.dir = []) :
    grantOwn k L true s = { s with dir := [⟨L, some k, !s.imageLine L, []⟩] } := by
  have hentry : s.dirEntry L = none := dirEntry_eq_none (by simp [h])
  rw [grantOwn, l1Room_of_holds_none L (by simp [h]), dirRoom_of_short L (by simp [h]), holdersOf_eq_nil hentry]
  exact putDir_of_line (by simp [overList, h])

/-- Ownership of a line that another L1 owns: that one loses it. -/
theorem grantOwn_owned {s : State} {L j k : Nat} {d : Bool} (h : s.dir = [⟨L, some j, d, []⟩]) (hj : j ≠ k)
    (hr : s.resvs = [⟨j, 64 * L, 64⟩] ∨ s.resvs = []) :
    grantOwn k L true s = { s with dir := [⟨L, some k, !s.imageLine L, []⟩], resvs := [] } := by
  have hothers : (s.holdersOf L).filter (fun x => x ≠ k) = [j] := by
    simp [holdersOf_of_owned h, hj]
  rw [grantOwn, l1Room_of_holds_none L (by simp [h, DirEntry.holders, hj.symm]), dirRoom_of_short L (by simp [h])]
  simp only [hothers, overList, loseLine_of_reserved hr]
  exact putDir_of_line (by simp [h])

/-- A grant by the kind of its request. -/
def grantLine (k : Nat) (kd : DirKind) (L : Nat) (s : State) : State :=
  if kd = .rd then grantRd k L s else grantOwn k L true s

theorem dirGranted_eq (r : DirReq) (s : State) : dirGranted r s = grantLine r.who r.kind r.line (dirLeaves r.who r.line s) := by
  obtain ⟨L, k, kd, tk, at'⟩ := r
  cases kd <;> rfl

/-- What a grant of a line that no L1 holds makes of its entry. -/
theorem grantLine_unheld {s : State} {L : Nat} (k : Nat) (kd : DirKind) (h : s.dir = []) : grantLine k kd L s =
    { s with dir := [if kd = .rd then ⟨L, none, false, [k]⟩ else ⟨L, some k, !s.imageLine L, []⟩] } := by
  unfold grantLine
  split
  · exact grantRd_unheld k h
  · exact grantOwn_unheld k h

/-! ### Rounds (07 R182, R183) -/

theorem dirRound_of_mem {s : State} {L : Nat} (h : L ∈ s.dirRounds) : dirRound L s = s := by
  simp [dirRound, h]

theorem dirRound_of_no_request {s : State} (L : Nat) (h : s.dirReqs = []) : dirRound L s = s := by
  simp [dirRound, dirFirst, h]

/-- Where no request holds back, no ticket is given. -/
theorem giveTickets_of_none_held {s : State} {L : Nat}
    (h : s.dirReqs.filter (fun r => r.line = L && r.ticket.isNone && !r.atDir) = []) (n : Nat) : giveTickets L n s = s := by
  cases n with
  | zero => rfl
  | succ n => simp only [giveTickets, h, dirFirst, ite_self]

/-- The one request that holds back takes ticket 1. -/
theorem giveTickets_one {s : State} {L k : Nat} {kd : DirKind} (h : s.dirReqs = [⟨L, k, kd, none, false⟩]) (n : Nat) :
    giveTickets L (n + 1) s = { s with dirReqs := [⟨L, k, kd, some 1, false⟩] } := by
  have hfree : ticketsOf s L = 0 := by simp [ticketsOf, h]
  have hfirst : dirFirst s (s.dirReqs.filter (fun r => r.line = L && r.ticket.isNone && !r.atDir)) =
      some ⟨L, k, kd, none, false⟩ := by simp [h, dirFirst]
  rw [giveTickets, hfree, if_neg (by decide), hfirst]
  simp only [h, List.map_cons, if_true, List.map_nil]
  exact giveTickets_of_none_held (by simp) n

/-- A Course's request that got a ticket counts in RETRY. -/
theorem countRetry_of_ticket {s : State} {L k n : Nat} {kd : DirKind} {r : DirReq} (hr : r.line = L ∧ r.who = k) (hk : k < 32)
    (h : s.dirReqs = [⟨L, k, kd, some n, false⟩]) : countRetry r s = (s.sat CRS_DIR_CNT_RETRY 0).sat CRS_STALL_RETRY k := by
  obtain ⟨rfl, rfl⟩ := hr
  have hany : (s.sat CRS_DIR_CNT_RETRY 0).dirReqs.any (fun x => x.line = r.line && x.who = r.who && x.ticket.isSome) = true := by
    simp [State.sat, h]
  rw [countRetry, if_neg (by omega), if_pos hany]

/-- A request that is the only one leaves none. -/
theorem dirLeaves_alone {s : State} {L k : Nat} {kd : DirKind} {tk : Option Nat} {b : Bool}
    (h : s.dirReqs = [⟨L, k, kd, tk, b⟩]) : dirLeaves k L s = { s with dirReqs := [] } := by
  simp [dirLeaves, h]

/-- A round with one request that waits: it is granted, and the rotation moves past it. -/
theorem dirRound_alone {s : State} {L k : Nat} {kd : DirKind} {tk : Option Nat} {d : List DirEntry} {rs : List Resv}
    (hq : s.dirReqs = [⟨L, k, kd, tk, true⟩]) (hr : L ∉ s.dirRounds)
    (hg : grantLine k kd L { s with dirReqs := [] } = { s with dirReqs := [], dir := d, resvs := rs }) :
    dirRound L s = { s.put DIR_ROT 0 ((k + 1) % 33) with
      dir := d, resvs := rs, dirReqs := [], dirRounds := s.dirRounds ++ [L] } := by
  have hgranted : dirGranted ⟨L, k, kd, tk, true⟩ s = { s with dirReqs := [], dir := d, resvs := rs } := by
    rw [dirGranted_eq, dirLeaves_alone hq, hg]
  simp only [dirRound, hq, List.contains_eq_mem, hr, decide_false, Bool.false_eq_true, if_false, decide_true, Bool.and_self,
    List.filter_cons_of_pos, List.filter_nil, dirFirst, ne_eq, not_true_eq_false, Bool.and_false, ite_self, not_false_eq_true,
    List.filter_cons_of_neg, overList, hgranted, List.map_nil]
  exact giveTickets_of_none_held rfl 33

/-- A lone request reaches the directory and waits there. -/
theorem dirRequest_alone {s : State} {L k : Nat} (kd : DirKind) (hk : l1On s k = true) (hq : s.dirReqs = []) :
    dirRequest L [(k, kd)] s = dirRound L { s with dirReqs := [⟨L, k, kd, none, true⟩] } := by
  simp [dirRequest, hk, hq]

/-- A lone request for a line without a round is granted. -/
theorem dirRequest_granted {s : State} {L k : Nat} {kd : DirKind} {d : List DirEntry} {rs : List Resv} (hk : l1On s k = true)
    (hq : s.dirReqs = []) (hr : s.dirRounds = []) (hg : grantLine k kd L s = { s with dir := d, resvs := rs }) :
    dirRequest L [(k, kd)] s = { s.put DIR_ROT 0 ((k + 1) % 33) with dir := d, resvs := rs, dirRounds := [L] } := by
  have hs : ({ s with dirReqs := [] } : State) = s := by rw [← hq]
  have hgrant : grantLine k kd L { s with dirReqs := [] } = { s with dirReqs := [], dir := d, resvs := rs } := by
    rw [hs, hg, hq]
  have hround := dirRound_alone (s := { s with dirReqs := [⟨L, k, kd, none, true⟩] }) rfl (by simp [hr]) hgrant
  refine (dirRequest_alone kd hk hq).trans (hround.trans ?_)
  simp only [hr, List.nil_append, put_dirReqs, hq]
  rfl

/-- Two requests of different L1s reach the directory in one cycle. -/
theorem dirRequest_two {s : State} {L j k : Nat} (kd : DirKind) (hj : l1On s j = true) (hk : l1On s k = true) (hq : s.dirReqs = []) :
    dirRequest L [(j, kd), (k, kd)] s =
      dirRound L { s with dirReqs := [⟨L, j, kd, none, true⟩, ⟨L, k, kd, none, true⟩] } := by
  simp [dirRequest, hj, hk, hq]

/-- Of two requests without tickets the one first in the rotation comes first (R183). -/
theorem dirFirst_two (s : State) (L j k : Nat) (kd : DirKind) :
    dirFirst s [⟨L, j, kd, none, true⟩, ⟨L, k, kd, none, true⟩] =
      some ⟨L, if rotation s k < rotation s j then k else j, kd, none, true⟩ := by
  simp only [dirFirst, dirBefore, decide_eq_true_eq, Option.some.injEq]
  split <;> rfl

/-- Two reads of a line that no L1 holds, `w` first in the rotation: both are granted in one round. -/
theorem dirRound_two_reads {s : State} {L w o : Nat} (hne : w ≠ o) (hd : s.dir = []) (hr : s.dirRounds = [])
    (hq : s.dirReqs = [⟨L, w, .rd, none, true⟩, ⟨L, o, .rd, none, true⟩] ∨
      s.dirReqs = [⟨L, o, .rd, none, true⟩, ⟨L, w, .rd, none, true⟩])
    (hf : dirFirst s s.dirReqs = some ⟨L, w, .rd, none, true⟩) :
    dirRound L s = { s.put DIR_ROT 0 ((w + 1) % 33) with
      dir := [⟨L, none, false, [w, o]⟩], dirReqs := [], dirRounds := [L] } := by
  have hwait : s.dirReqs.filter (fun r => r.line = L && r.atDir) = s.dirReqs := by
    rcases hq with h | h <;> simp [h]
  have hwith : s.dirReqs.filter (fun r => r.line = L && r.atDir && r.kind = .rd && r ≠ (⟨L, w, .rd, none, true⟩ : DirReq)) =
      [⟨L, o, .rd, none, true⟩] := by
    rcases hq with h | h <;> simp [h, hne.symm]
  have hlosers : (s.dirReqs.filter (fun r => r.line = L && r.atDir && r ≠ (⟨L, w, .rd, none, true⟩ : DirReq))) =
      [⟨L, o, .rd, none, true⟩] := by
    rcases hq with h | h <;> simp [h, hne.symm]
  have hleaves : dirLeaves w L s = { s with dirReqs := [⟨L, o, .rd, none, true⟩] } := by
    rcases hq with h | h <;> simp [dirLeaves, h, hne.symm]
  have hfirst : dirGranted ⟨L, w, .rd, none, true⟩ s =
      { s with dirReqs := [⟨L, o, .rd, none, true⟩], dir := [⟨L, none, false, [w]⟩] } := by
    rw [dirGranted_eq, hleaves]
    exact grantRd_unheld w hd
  have hboth : dirGranted ⟨L, o, .rd, none, true⟩ (dirGranted ⟨L, w, .rd, none, true⟩ s) =
      { s with dirReqs := [], dir := [⟨L, none, false, [w, o]⟩] } := by
    rw [hfirst, dirGranted_eq, dirLeaves_alone rfl]
    exact grantRd_shared rfl hne
  simp only [dirRound, hr, List.contains_nil, Bool.false_eq_true, if_false, hwait, hf, if_true, hwith, hlosers, overList, hboth]
  simp only [List.contains_cons, BEq.rfl, Bool.true_or, Bool.not_true, Bool.false_eq_true, not_false_eq_true,
    List.filter_cons_of_neg, List.filter_nil, overList]
  exact giveTickets_of_none_held rfl 33

/-- Two requests for ownership of a line that no L1 holds, `w` first in the rotation: the other gets RETRY and ticket 1. -/
theorem dirRound_two_owns {s : State} {L w o : Nat} (hne : w ≠ o) (ho : o < 32) (hd : s.dir = []) (hr : s.dirRounds = [])
    (hq : s.dirReqs = [⟨L, o, .own, none, true⟩, ⟨L, w, .own, none, true⟩]) (hw : rotation s w < rotation s o) :
    dirRound L s = (({ s.put DIR_ROT 0 ((w + 1) % 33) with
      dir := [⟨L, some w, !s.imageLine L, []⟩], dirReqs := [⟨L, o, .own, some 1, false⟩], dirRounds := [L] }.sat
        CRS_DIR_CNT_RETRY 0).sat CRS_STALL_RETRY o) := by
  have hretry (u : State) (hu : u.dirReqs = [⟨L, o, .own, none, false⟩]) :
      countRetry ⟨L, o, .own, none, true⟩ (giveTickets L 33 u) =
        ({ u with dirReqs := [⟨L, o, .own, some 1, false⟩] }.sat CRS_DIR_CNT_RETRY 0).sat CRS_STALL_RETRY o := by
    rw [giveTickets_one hu 32, countRetry_of_ticket ⟨rfl, rfl⟩ ho rfl]
  have hf : dirFirst s s.dirReqs = some ⟨L, w, .own, none, true⟩ := by
    rw [hq, dirFirst_two, if_pos hw]
  have hwait : s.dirReqs.filter (fun r => r.line = L && r.atDir) = s.dirReqs := by simp [hq]
  have hlosers : (s.dirReqs.filter (fun r => r.line = L && r.atDir && r ≠ (⟨L, w, .own, none, true⟩ : DirReq))) =
      [⟨L, o, .own, none, true⟩] := by
    simp [hq, hne.symm]
  have hleaves : dirLeaves w L s = { s with dirReqs := [⟨L, o, .own, none, true⟩] } := by
    simp [dirLeaves, hq, hne.symm]
  have hgranted : dirGranted ⟨L, w, .own, none, true⟩ s =
      { s with dirReqs := [⟨L, o, .own, none, true⟩], dir := [⟨L, some w, !s.imageLine L, []⟩] } := by
    rw [dirGranted_eq, hleaves]
    exact grantOwn_unheld w hd
  simp only [dirRound, hr, List.contains_nil, Bool.false_eq_true, if_false, hwait, hf, reduceCtorEq, hlosers, Bool.not_false,
    List.filter_cons_of_pos, List.filter_nil, overList, hgranted, List.map_cons, if_true, List.map_nil]
  exact hretry _ rfl

/-! ### The ends of rounds, and requests issued again -/

theorem dirRoundEnd_of_no_request {s : State} (L : Nat) (h : s.dirReqs = []) :
    dirRoundEnd L s = { s with dirRounds := s.dirRounds.erase L } := by
  unfold dirRoundEnd
  split
  · exact dirRound_of_no_request L h
  · next hL => rw [List.erase_of_not_mem (by simpa using hL)]

theorem dirRoundEnd_of_not_mem {s : State} {L : Nat} (h : L ∉ s.dirRounds) : dirRoundEnd L s = s :=
  if_neg (by simpa using h)

/-- The end of a line's one round begins its next. -/
theorem dirRoundEnd_of_singleton {s : State} {L : Nat} (h : s.dirRounds = [L]) :
    dirRoundEnd L s = dirRound L { s with dirRounds := [] } := by
  simp [dirRoundEnd, h]

/-- The end of a round while one request waits: it is granted in a new round. -/
theorem dirRoundEnd_granted {s : State} {L k : Nat} {kd : DirKind} {tk : Option Nat} {d : List DirEntry} {rs : List Resv}
    (hq : s.dirReqs = [⟨L, k, kd, tk, true⟩]) (hr : s.dirRounds = [L])
    (hg : grantLine k kd L { s with dirRounds := [], dirReqs := [] } =
      { s with dirRounds := [], dirReqs := [], dir := d, resvs := rs }) :
    dirRoundEnd L s = { s.put DIR_ROT 0 ((k + 1) % 33) with dir := d, resvs := rs, dirReqs := [] } := by
  have hround := dirRound_alone (s := { s with dirRounds := [] }) hq List.not_mem_nil hg
  refine (dirRoundEnd_of_singleton hr).trans (hround.trans ?_)
  simp only [List.nil_append, put_dirRounds, hr]
  rfl

/-- The kind that a request has when it is issued again: an upgrade whose Shared copy is gone asks for ownership. -/
def reissuedKind (s : State) (L k : Nat) (kd : DirKind) : DirKind :=
  if kd = .upg ∧ (s.holdersOf L).contains k = false then .own else kd

theorem reissuedKind_of_held {s : State} {L k : Nat} (kd : DirKind) (h : k ∈ s.holdersOf L) : reissuedKind s L k kd = kd := by
  simp [reissuedKind, h]

theorem reissuedKind_of_gone {s : State} {L k : Nat} {kd : DirKind} (h : kd = .upg → k ∉ s.holdersOf L) :
    reissuedKind s L k kd = if kd = .upg then .own else kd := by
  by_cases hkd : kd = .upg
  · simp [reissuedKind, hkd, h hkd]
  · simp [reissuedKind, hkd]

/-- During a round a request that is issued again waits at the directory. -/
theorem dirReissue_alone {s : State} {L k : Nat} {kd : DirKind} {tk : Option Nat} (hq : s.dirReqs = [⟨L, k, kd, tk, false⟩])
    (hr : s.dirRounds = [L]) : dirReissue k L s = { s with dirReqs := [⟨L, k, reissuedKind s L k kd, tk, true⟩] } := by
  simp only [dirReissue, hq, List.map_cons, List.map_nil, and_self, if_true]
  exact dirRound_of_mem (by simp [hr])

/-! ### Lines given up (07 R182, R184) -/

theorem dirWriteback_of_unlisted {s : State} {L : Nat} (k : Nat) (h : ∀ e ∈ s.dir, e.line ≠ L) : dirWriteback k L s = s := by
  rw [dirWriteback, dirEntry_eq_none h]

/-- The owner's line becomes uncached. -/
theorem dirWriteback_owner {s : State} {L k : Nat} {d : Bool} (h : s.dir = [⟨L, some k, d, []⟩])
    (hr : s.resvs = [⟨k, 64 * L, 64⟩]) : dirWriteback k L s = { s with dir := [], resvs := [] } := by
  rw [dirWriteback, dirEntry_of_singleton h]
  simp only [if_true, loseLine_of_reserved (.inl hr)]
  exact putDir_of_line (by simp [h])

/-- One of two sharers leaves. -/
theorem dirWriteback_sharer {s : State} {L j k : Nat} (hj : j ≠ k) (h : s.dir = [⟨L, none, false, [j, k]⟩]) (hr : s.resvs = []) :
    dirWriteback k L s = { s with dir := [⟨L, none, false, [j]⟩] } := by
  have hrest : [j, k].filter (fun x => x ≠ k) = [j] := by simp [hj]
  have hlose : loseLine k L s = s := (loseLine_of_reserved (.inr hr)).trans (by rw [← hr])
  rw [dirWriteback, dirEntry_of_singleton h]
  simp only [hrest, hlose]
  exact putDir_of_line (by simp [h])

/-! ### The clauses that say several things at once -/

/-- Two reads in one cycle (R182). -/
theorem directoryRequest_reads {line : BitVec 20} {j k : Fin 33} {L : Nat} {s : State} (hL : L = sbBase / 64 + line.toNat)
    (hk : l1On s k = true) (hj : l1On s j = true) (hjk : j ≠ k) (hd : s.dir = []) (hq : s.dirReqs = []) (hr : s.dirRounds = []) :
    Gives (.directoryRequest line [(j, .rd), (k, .rd)]) s (fun t =>
      (t.holdersOf L = [j.val, k.val] ∨ t.holdersOf L = [k.val, j.val]) ∧ t.dirReqs = [] ∧ t.dirRounds = [L]) := by
  subst hL
  have hne : j.val ≠ k.val := Fin.val_ne_of_ne hjk
  have hreq := dirRequest_two (L := sbBase / 64 + line.toNat) .rd hj hk hq
  have hfirst := dirFirst_two { s with dirReqs := [⟨sbBase / 64 + line.toNat, j, .rd, none, true⟩,
    ⟨sbBase / 64 + line.toNat, k, .rd, none, true⟩] } (sbBase / 64 + line.toNat) j k .rd
  split at hfirst
  · refine ⟨_, congrArg Host.Outcome.next (hreq.trans (dirRound_two_reads hne.symm hd hr (.inr rfl) hfirst)), .inr ?_, rfl, rfl⟩
    exact holdersOf_of_shared rfl
  · refine ⟨_, congrArg Host.Outcome.next (hreq.trans (dirRound_two_reads hne hd hr (.inl rfl) hfirst)), .inl ?_, rfl, rfl⟩
    exact holdersOf_of_shared rfl

/-- Two requests for ownership in one cycle (R183). -/
theorem directoryRequest_owns {line : BitVec 20} {j k : Fin 33} {L : Nat} {s : State} (hk32 : k.val < 32)
    (hL : L = sbBase / 64 + line.toNat) (hk : l1On s k = true) (hj : l1On s j = true) (hjk : j ≠ k) (hd : s.dir = [])
    (hq : s.dirReqs = []) (hr : s.dirRounds = []) (hrot : rotation s j < rotation s k) :
    Gives (.directoryRequest line [(k, .own), (j, .own)]) s (fun t => t.dir = [⟨L, some j.val, !s.imageLine L, []⟩] ∧
      t.dirReqs = [⟨L, k, .own, some 1, false⟩] ∧ t.dirRounds = [L] ∧ t.get DIR_ROT 0 = (j + 1) % 33 ∧
      t.get CRS_STALL_RETRY k = min (s.get CRS_STALL_RETRY k + 1) (2 ^ 16 - 1) ∧
      t.get CRS_STALL_RETRY_WAIT k = s.get CRS_STALL_RETRY_WAIT k) := by
  subst hL
  have hround := (dirRequest_two .own hk hj hq).trans
    (dirRound_two_owns (L := sbBase / 64 + line.toNat) (Fin.val_ne_of_ne hjk) hk32 hd hr rfl hrot)
  refine ⟨_, congrArg Host.Outcome.next hround, rfl, rfl, rfl, ?_, ?_, ?_⟩
  · rw [get_sat_field _ _ _ (by decide), get_sat_field _ _ _ (by decide)]
    refine (get_put_same s DIR_ROT 0 _).trans (Nat.mod_eq_of_lt ?_)
    exact Nat.lt_trans (Nat.mod_lt _ (by decide)) (by decide)
  · rw [get_sat_same, get_sat_field _ _ _ (by decide)]
    exact congrArg (fun v => min (v + 1) (2 ^ 16 - 1)) (get_put_field s 0 k _ (by decide))
  · rw [get_sat_field _ _ _ (by decide), get_sat_field _ _ _ (by decide)]
    exact get_put_field s 0 k _ (by decide)

/-- Settles O26: each request by what a grant makes of the line's one entry, each round by its first request. -/
theorem directory : Obligations.Directory := by
  unfold Obligations.Directory
  refine ⟨?lone, ?owned, ?reads, ?owns, ?waits, ?endIdle, ?endNext, ?endNone, ?upgrade, ?held, ?owner, ?sharer, ?unlisted⟩
  case lone =>
    rintro line k kd _ s rfl hk hd hq hr
    exact congrArg Host.Outcome.next (dirRequest_granted hk hq hr (grantLine_unheld k kd hd))
  case owned =>
    rintro line k j d _ s rfl hk hjk hd hq hr hv
    have hne : j.val ≠ k.val := Fin.val_ne_of_ne hjk
    exact ⟨congrArg Host.Outcome.next (dirRequest_granted (kd := .own) hk hq hr (grantOwn_owned hd hne (.inl hv))),
      congrArg Host.Outcome.next (dirRequest_granted (kd := .rd) hk hq hr (grantRd_owned hd hne (.inl hv)))⟩
  case reads =>
    intro line j k L s hL hk hj hjk hd hq hr
    obtain ⟨t, ht, hholders, hrest⟩ := directoryRequest_reads hL hk hj hjk hd hq hr
    exact ⟨⟨t, ht, hholders⟩, t, ht, hrest⟩
  case owns =>
    exact fun line j k L s hk32 hL hk hj hjk hd hq hr _ hrot => directoryRequest_owns hk32 hL hk hj hjk hd hq hr hrot
  case waits =>
    rintro line k kd _ s rfl hk hq hr
    exact congrArg Host.Outcome.next ((dirRequest_alone kd hk hq).trans (dirRound_of_mem (by simp [hr])))
  case endIdle =>
    rintro line _ s rfl hq
    exact congrArg Host.Outcome.next (dirRoundEnd_of_no_request _ hq)
  case endNext =>
    rintro line k j tk _ s rfl hq hr hd hjk hv
    have hgrant := dirRoundEnd_granted (kd := .own) hq hr (grantOwn_owned hd (Fin.val_ne_of_ne hjk) (.inr hv))
    exact congrArg Host.Outcome.next (hgrant.trans (by rw [← hv]; rfl))
  case endNone =>
    rintro line _ s rfl hr
    exact congrArg Host.Outcome.next (dirRoundEnd_of_not_mem hr)
  case upgrade =>
    rintro line k kd tk _ s rfl hq hr hgone
    exact congrArg Host.Outcome.next ((dirReissue_alone hq hr).trans (by rw [reissuedKind_of_gone hgone]))
  case held =>
    rintro line k tk _ s rfl hq hr hheld
    exact congrArg Host.Outcome.next ((dirReissue_alone hq hr).trans (by rw [reissuedKind_of_held .upg hheld]))
  case owner =>
    rintro line k d _ s rfl hd hr
    exact congrArg Host.Outcome.next (dirWriteback_owner hd hr)
  case sharer =>
    rintro line j k _ s rfl hjk hd hr
    exact congrArg Host.Outcome.next (dirWriteback_sharer (Fin.val_ne_of_ne hjk) hd hr)
  case unlisted =>
    rintro line k _ s rfl hL
    exact congrArg Host.Outcome.next (dirWriteback_of_unlisted k hL)

end Sys2Proof.Machine.CacheDirectory
end

section
/-! PROOFS. The states of the Courses (O24) of spec/07_courses_protocol_engines.md: first what a written bit, a raised event, a drained
write-through buffer and a broken lock leave as they were, then the group start, the halt and the software events, then the commands. -/

namespace Sys2Proof.Machine.CourseControl

open LineCycle (gate_of_permit flag_of_get_one flag_of_get_zero bitOf_eq_testBit bit_putBit_same cellsBut_refl cellsBut_of_cells
  cellsBut_trans cellsBut_mono cellsBut_put_copy cellsBut_put_field cellsBut_overList cellsBut_overRange quiet_trans quiet_put
  raise_cellsBut raise_seen get_raise)
open TrunkLanes (raise_cellsBut_listed)

/-! ### Written bits -/

/-- A clear bit that is set by addition leaves the other bits as they were. -/
theorem testBit_add_two_pow {v j k : Nat} (hj : bitOf v j = false) (hk : k ≠ j) : (v + 2 ^ j).testBit k = v.testBit k := by
  have hclear : v / 2 ^ j % 2 = 0 := by
    have := Nat.mod_lt (v / 2 ^ j) (show 0 < 2 by decide)
    have hne : v / 2 ^ j % 2 ≠ 1 := by simpa [bitOf] using hj
    omega
  have hlow : v % 2 ^ (j + 1) < 2 ^ j := by
    rw [Nat.mod_pow_succ, hclear, Nat.mul_zero, Nat.add_zero]
    exact Nat.mod_lt _ (Nat.two_pow_pos j)
  have hsum : v % 2 ^ (j + 1) + 2 ^ j < 2 ^ (j + 1) := by
    have hpow : 2 ^ (j + 1) = 2 ^ j * 2 := Nat.pow_succ 2 j
    omega
  rcases Nat.lt_or_gt_of_ne hk with h | h
  · rw [Nat.add_comm, Nat.testBit_two_pow_add_gt h]
  · have hv := Nat.div_add_mod v (2 ^ (j + 1))
    rw [← hv, Nat.add_assoc, Nat.testBit_two_pow_mul_add _ hsum, Nat.testBit_two_pow_mul_add _ (by omega), if_neg (by omega),
      if_neg (by omega)]

/-- A bit within the field's width reads as before another one was set. -/
theorem bit_putBit_other (s : State) (F : Fld) (i : Nat) {j k : Nat} (hk : k < F.w) (h : k ≠ j) :
    (s.putBit F i j true).bit F i k = s.bit F i k := by
  simp only [State.putBit, State.bit, if_true, get_put_same]
  rw [bitOf_eq_testBit _ k, bitOf_eq_testBit _ k, Nat.testBit_mod_two_pow, decide_eq_true hk, Bool.true_and]
  split
  · rfl
  · next hj => exact testBit_add_two_pow (by simpa using hj) h

/-- A set bit stays set while bits of its field are set. -/
theorem bit_putBit_stays {s : State} {F : Fld} {i k : Nat} (hk : k < F.w) (h : s.bit F i k = true) (i' j : Nat) :
    (s.putBit F i' j true).bit F i k = true := by
  by_cases hi : i = i'
  · subst hi
    by_cases hj : k = j
    · subst hj
      exact bit_putBit_same s F i hk
    · rw [bit_putBit_other s F i hk hj, h]
  · rw [State.bit, State.putBit, get_put_copy _ _ _ hi]
    exact h

/-! ### A raised event (13 R301) -/

theorem collect_quiet (s : State) (v : Nat) : Quiet s (s.collect v) := by
  unfold State.collect
  dsimp only
  repeat' split
  all_goals rfl

theorem routeMsix_quiet (s : State) (r : Route) : Quiet s (s.routeMsix r) := by
  unfold State.routeMsix
  split
  · exact collect_quiet s _
  · rfl

theorem quietE_trans {s t u : State} (h : QuietE s t) (h' : QuietE t u) : QuietE s u := by
  have hu : ({ u with cells := s.cells, events := s.events } : State) =
      { ({ u with cells := t.cells, events := t.events } : State) with cells := s.cells, events := s.events } := rfl
  rw [QuietE] at h h' ⊢
  rw [hu, h', h]

theorem quietE_of_quiet {s t : State} (h : Quiet s t) : QuietE s t := by
  have ht : ({ t with cells := s.cells, events := s.events } : State) =
      { ({ t with cells := s.cells } : State) with events := s.events } := rfl
  rw [Quiet] at h
  rw [QuietE, ht, h]

theorem quietE_overRange {f : Nat → State → State} (hf : ∀ k t, QuietE t (f k t)) (n : Nat) (s : State) :
    QuietE s (overRange f n s) := by
  induction n with
  | zero => rfl
  | succ n ih => exact quietE_trans ih (hf n _)

theorem quiet_overRange {f : Nat → State → State} (hf : ∀ k t, Quiet t (f k t)) (n : Nat) (s : State) :
    Quiet s (overRange f n s) := by
  induction n with
  | zero => rfl
  | succ n ih => exact quiet_trans ih (hf n _)

/-- A raised event changes numbered state and the waiting events alone. -/
theorem raise_quietE (s : State) (n detail : Nat) (own : Option (Nat × Nat)) : QuietE s (s.raise n detail own) := by
  unfold State.raise
  extract_lets seen c
  have hseen : QuietE s seen := rfl
  split
  · exact hseen
  rename_i a b queued routed _
  have hrouted : QuietE s routed :=
    quietE_trans (t := queued) (quietE_trans hseen rfl) (quietE_of_quiet (routeMsix_quiet queued a))
  split
  · exact hrouted
  · exact quietE_trans hrouted (quietE_of_quiet (routeMsix_quiet routed b))

theorem wtb_raise (s : State) (n detail : Nat) (own : Option (Nat × Nat)) : (s.raise n detail own).wtb = s.wtb := by
  have h := congrArg State.wtb (show _ = s from raise_quietE s n detail own)
  exact h

/-- An event that was seen stays seen when another is raised. -/
theorem raise_keeps_seen {s : State} {m : Nat} (h : s.bit EVT_SEEN_SEEN (m / 32) (m % 32) = true) (n detail : Nat)
    (own : Option (Nat × Nat)) : (s.raise n detail own).bit EVT_SEEN_SEEN (m / 32) (m % 32) = true := by
  have hget := LineCycle.raise_cellsBut_seen s n detail own EVT_SEEN_SEEN (m / 32) (by simp) (by decide)
  rw [State.bit, hget]
  exact bit_putBit_stays (Nat.mod_lt m (by decide)) h _ _

/-! ### The write-through buffers (03 R60, R61) -/

theorem overList_keeps {α β : Type} {g : State → β} {f : α → State → State} (hf : ∀ x t, g (f x t) = g t) (xs : List α)
    (s : State) :
    g (overList f xs s) = g s := by
  induction xs generalizing s with
  | nil => rfl
  | cons x xs ih => exact (ih _).trans (hf x s)

/-- The numbered state that a write to the Soundboard may change. -/
def boardCells : List Fld := [SBD_STAT_POOL_WR, LIM_CNT0_OUT_WR, LIM_OUT_SEEN] ++ evtCells

/-- A write that met the out half counts, and is told once in a cycle (R60). -/
def outCounted (s : State) : State :=
  if (s.sat LIM_CNT0_OUT_WR 0).flag LIM_OUT_SEEN 0 then s.sat LIM_CNT0_OUT_WR 0
  else ((s.sat LIM_CNT0_OUT_WR 0).put LIM_OUT_SEEN 0 1).raise 2050

theorem outCounted_cellsBut (s : State) : CellsBut s (outCounted s) [] boardCells := by
  have hsat : CellsBut s (s.sat LIM_CNT0_OUT_WR 0) [] boardCells :=
    cellsBut_put_field _ _ (cellsBut_refl s) (by simp [boardCells])
  unfold outCounted
  split
  · exact hsat
  · exact cellsBut_trans (cellsBut_put_field _ _ hsat (by simp [boardCells]))
      (raise_cellsBut_listed (List.subset_append_right _ _) _ _ _ _)

theorem wtb_outCounted (s : State) : (outCounted s).wtb = s.wtb := by
  unfold outCounted
  split
  · rfl
  · exact wtb_raise _ _ _ _

theorem soundboardWrite_cellsBut (off : Nat) (bs : List Byte) (s : State) :
    CellsBut s (soundboardWrite off bs s) [] boardCells := by
  unfold soundboardWrite
  extract_lets outHalf cells anyOut anyPool written pooled
  have hwritten : CellsBut s written [] boardCells := by
    refine cellsBut_overList (fun e t => ?_) cells s
    split
    · exact cellsBut_refl t
    · exact cellsBut_of_cells rfl
  have hpooled : CellsBut s pooled [] boardCells := by
    simp only [pooled]
    split
    · exact cellsBut_put_field _ _ hwritten (by simp [boardCells])
    · exact hwritten
  split
  · exact cellsBut_trans hpooled (outCounted_cellsBut pooled)
  · exact hpooled

/-- A write to the Soundboard changes no write-through buffer. -/
theorem wtb_soundboardWrite (off : Nat) (bs : List Byte) (s : State) : (soundboardWrite off bs s).wtb = s.wtb := by
  unfold soundboardWrite
  extract_lets outHalf cells anyOut anyPool written pooled
  have hwritten : written.wtb = s.wtb := by
    refine overList_keeps (fun e t => ?_) cells s
    split <;> rfl
  have hpooled : pooled.wtb = s.wtb := by
    simp only [pooled]
    split <;> exact hwritten
  split
  · exact (wtb_outCounted pooled).trans hpooled
  · exact hpooled

/-- The stores that wait in the buffer of Course `n`. -/
def waiting (n : Nat) (s : State) : List Landing := s.wtb.filter (fun l => l.who = n)

theorem length_filter_wtbRest (n : Nat) (ls : List Landing) :
    ((wtbRest n ls).filter (fun l => l.who = n)).length = (ls.filter (fun l => l.who = n)).length - 1 := by
  induction ls with
  | nil => rfl
  | cons l ls ih =>
    by_cases h : l.who = n
    · simp [wtbRest, h]
    · simp [wtbRest, h, ih]

theorem wtbRest_of_first_none {n : Nat} {ls : List Landing} (h : wtbFirst n ls = none) : wtbRest n ls = ls := by
  induction ls with
  | nil => rfl
  | cons l ls ih =>
    by_cases hl : l.who = n
    · simp [wtbFirst, hl] at h
    · simp [wtbFirst, hl] at h
      simp [wtbRest, hl, ih h]

theorem wtb_writeThroughDrain (n : Nat) (s : State) : (writeThroughDrain n s).wtb = wtbRest n s.wtb := by
  unfold writeThroughDrain
  split
  · next h => rw [wtbRest_of_first_none h]
  · exact wtb_soundboardWrite _ _ _

theorem writeThroughDrain_cellsBut (n : Nat) (s : State) : CellsBut s (writeThroughDrain n s) [] boardCells := by
  unfold writeThroughDrain
  split
  · exact cellsBut_refl s
  · next l _ =>
    exact cellsBut_trans (cellsBut_of_cells rfl)
      (cellsBut_trans (soundboardWrite_cellsBut (l.addr - sbBase) l.bytes { s with wtb := wtbRest n s.wtb }) (cellsBut_of_cells rfl))

/-- A drained buffer is empty. -/
theorem waiting_drainThrough (n : Nat) (s : State) : waiting n (drainThrough n s) = [] := by
  have hcount (m : Nat) : (waiting n (overRange (fun _ t => writeThroughDrain n t) m s)).length = (waiting n s).length - m := by
    induction m with
    | zero => rfl
    | succ m ih => rw [overRange, waiting, wtb_writeThroughDrain, length_filter_wtbRest, ← waiting, ih, Nat.sub_sub]
  exact List.length_eq_zero_iff.mp ((hcount _).trans (Nat.sub_self _))

theorem drainThrough_cellsBut (n : Nat) (s : State) : CellsBut s (drainThrough n s) [] boardCells :=
  cellsBut_overRange (fun _ t => writeThroughDrain_cellsBut n t) _ s

theorem drainThrough_of_empty {s : State} (n : Nat) (h : s.wtb = []) : drainThrough n s = s := by
  simp [drainThrough, h, overRange]

/-! ### The Transom's lock (15 R348) -/

theorem lockLost_of_unlocked {s : State} (n : Nat) (h : s.get TRB_STAT_LOCKED 0 = 0) : lockLost n s = s := by
  simp [lockLost, flag_of_get_zero h]

/-- The numbered state that a broken lock may change. -/
def lockCells : List Fld := [TRB_STAT_LOCKED, TRB_CNT_LOCK_TO] ++ evtCells

theorem lockLost_cellsBut (n : Nat) (s : State) : CellsBut s (lockLost n s) [] lockCells := by
  have hbroken : CellsBut s (lockBroken n s) [] lockCells :=
    cellsBut_trans (t := s.put TRB_STAT_LOCKED 0 0)
      (cellsBut_put_field _ _ (cellsBut_refl s) (by simp [lockCells])) (cellsBut_of_cells rfl)
  unfold lockLost
  split
  · exact cellsBut_trans (cellsBut_put_field (F := TRB_CNT_LOCK_TO) _ _ hbroken (by simp [lockCells]))
      (raise_cellsBut_listed (List.subset_append_right _ _) _ _ _ _)
  · exact cellsBut_refl s

theorem wtb_lockLost (n : Nat) (s : State) : (lockLost n s).wtb = s.wtb := by
  unfold lockLost
  split
  · exact wtb_raise _ _ _ _
  · rfl

/-! ### STOP (07 R161) -/

theorem courseStop_eq {s : State} {n : Nat} (h : s.get CRS_STAT_STATE n = 2 ∨ s.get CRS_STAT_STATE n = 3) :
    courseStop n s = lockLost n (((drainThrough n s).put CRS_STAT_STATE n 1).put CORE_BLOCK n 0) := if_pos h

theorem courseStop_ignored {s : State} {n : Nat} (h : s.get CRS_STAT_STATE n = 0 ∨ s.get CRS_STAT_STATE n = 1) :
    courseStop n s = s := by
  refine if_neg ?_
  simp only [crsRun, crsHalted]
  omega

theorem get_courseStop_state {s : State} {n : Nat} (h : s.get CRS_STAT_STATE n = 2 ∨ s.get CRS_STAT_STATE n = 3) :
    (courseStop n s).get CRS_STAT_STATE n = 1 := by
  rw [courseStop_eq h, lockLost_cellsBut n _ _ _ (by simp) (by decide), get_put_field _ _ _ _ (by decide), get_put_same]
  rfl

theorem get_courseStop_why {s : State} {n : Nat} (h : s.get CRS_STAT_STATE n = 2 ∨ s.get CRS_STAT_STATE n = 3) :
    (courseStop n s).get CRS_STAT_HALT_WHY n = s.get CRS_STAT_HALT_WHY n := by
  rw [courseStop_eq h, lockLost_cellsBut n _ _ _ (by simp) (by decide), get_put_field _ _ _ _ (by decide),
    get_put_field _ _ _ _ (by decide), drainThrough_cellsBut n s _ _ (by simp) (by decide)]

theorem waiting_courseStop {s : State} {n : Nat} (h : s.get CRS_STAT_STATE n = 2 ∨ s.get CRS_STAT_STATE n = 3) :
    waiting n (courseStop n s) = [] := by
  rw [courseStop_eq h, waiting, wtb_lockLost]
  exact waiting_drainThrough n s

/-- With an empty buffer and no lock, STOP ends the Course and its block instruction alone. -/
theorem courseStop_idle {s : State} {n : Nat} (h : s.get CRS_STAT_STATE n = 2 ∨ s.get CRS_STAT_STATE n = 3) (hw : s.wtb = [])
    (hl : s.get TRB_STAT_LOCKED 0 = 0) : courseStop n s = (s.put CRS_STAT_STATE n 1).put CORE_BLOCK n 0 := by
  rw [courseStop_eq h, drainThrough_of_empty n hw, lockLost_of_unlocked]
  rw [get_put_field _ _ _ _ (by decide), get_put_field _ _ _ _ (by decide), hl]

/-! ### Group start (07 R174) -/

theorem courseStart_cellsBut (n : Nat) (s : State) : CellsBut s (courseStart n s) [] [CRS_STAT_STATE] := by
  unfold courseStart
  split
  · exact cellsBut_put_field _ _ (cellsBut_refl s) (by simp)
  · exact cellsBut_refl s

theorem courseStart_quiet (n : Nat) (s : State) : Quiet s (courseStart n s) := by
  unfold courseStart
  split <;> rfl

theorem get_courseStart (n k : Nat) (s : State) : (courseStart n s).get CRS_STAT_STATE k =
    if k = n ∧ s.get CRS_STAT_STATE k = 1 then 2 else s.get CRS_STAT_STATE k := by
  unfold courseStart crsStopped crsRun
  by_cases hk : k = n
  · subst hk
    by_cases h : s.get CRS_STAT_STATE k = 1
    · rw [if_pos h, if_pos ⟨rfl, h⟩, get_put_same]
      rfl
    · rw [if_neg h, if_neg (fun hc => h hc.2)]
  · have hno : ¬ (k = n ∧ s.get CRS_STAT_STATE k = 1) := fun hc => hk hc.1
    rw [if_neg hno]
    split
    · exact get_put_copy _ _ _ hk
    · rfl

/-- One Course of a group start. -/
def groupStep (mask n : Nat) (s : State) : State := if bitOf mask n then courseStart n s else s

theorem groupStart_eq (mask : Nat) (s : State) : groupStart mask s = overRange (groupStep mask) 32 s := rfl

theorem groupStart_cellsBut (mask : Nat) (s : State) : CellsBut s (groupStart mask s) [] [CRS_STAT_STATE] := by
  refine cellsBut_overRange (fun n t => ?_) 32 s
  split
  · exact courseStart_cellsBut n t
  · exact cellsBut_refl t

theorem groupStart_quiet (mask : Nat) (s : State) : Quiet s (groupStart mask s) := by
  refine quiet_overRange (fun n t => ?_) 32 s
  split
  · exact courseStart_quiet n t
  · rfl

/-- The states after the Courses below `m` have taken their part in a group start. -/
theorem get_groupSteps (mask m k : Nat) (s : State) : (overRange (groupStep mask) m s).get CRS_STAT_STATE k =
    if k < m ∧ bitOf mask k = true ∧ s.get CRS_STAT_STATE k = 1 then 2 else s.get CRS_STAT_STATE k := by
  induction m with
  | zero => simp [overRange]
  | succ m ih =>
    rw [overRange, groupStep]
    by_cases hk : k = m
    · subst hk
      have hsame : (overRange (groupStep mask) k s).get CRS_STAT_STATE k = s.get CRS_STAT_STATE k := by simp [ih]
      split
      · next hb => simp [get_courseStart, hsame, hb]
      · next hb => simp [hsame, hb]
    · have hlt : k < m + 1 ↔ k < m := by omega
      simp only [hlt]
      rw [← ih]
      split
      · rw [get_courseStart, if_neg (fun hc => hk hc.1)]
      · rfl

/-- MASK and AT as a write of CRS_GSTART leaves them. -/
def withGroup (mask at' : Nat) (s : State) : State := (s.put CRS_GSTART_MASK 0 mask).put CRS_GSTART_AT 0 at'

/-- The cycles from the present one to AT. -/
def cyclesAhead (at' : Nat) (s : State) : Nat := (at' + 2 ^ 32 - s.get LIM_CYC_NUM_NUM 0) % 2 ^ 32

theorem gstartArm_arms {s : State} {at' : Nat} (mask : Nat) (hr : s.get LIM_STAT_RUNNING 0 = 1) (h1 : 1 ≤ cyclesAhead at' s)
    (h2 : cyclesAhead at' s < 2 ^ 31) : gstartArm mask at' s = (withGroup mask at' s).put GST_ARMED 0 1 := by
  have hrun : (withGroup mask at' s).flag LIM_STAT_RUNNING 0 = true := by
    refine flag_of_get_one ?_
    rw [withGroup, get_put_field _ _ _ _ (by decide), get_put_field _ _ _ _ (by decide), hr]
  have hahead : cyclesAhead at' (withGroup mask at' s) = cyclesAhead at' s := by
    rw [cyclesAhead, withGroup, get_put_field _ _ _ _ (by decide), get_put_field _ _ _ _ (by decide), cyclesAhead]
  refine if_neg (?_ : ¬ (!(withGroup mask at' s).flag LIM_STAT_RUNNING 0 || cyclesAhead at' (withGroup mask at' s) == 0 ||
    decide (2 ^ 31 ≤ cyclesAhead at' (withGroup mask at' s))) = true)
  rw [hrun, hahead]
  simp only [Bool.not_true, Bool.false_or, Bool.or_eq_true, beq_iff_eq, decide_eq_true_eq]
  omega

theorem gstartArm_starts {s : State} {at' : Nat} (mask : Nat) (h : s.get LIM_STAT_RUNNING 0 = 0 ∨ cyclesAhead at' s = 0 ∨
    2 ^ 31 ≤ cyclesAhead at' s) : gstartArm mask at' s = groupStart mask ((withGroup mask at' s).put GST_ARMED 0 0) := by
  have hget {F : Fld} (hF : F.id % 4096 ≠ CRS_GSTART_MASK.id % 4096 ∧ F.id % 4096 ≠ CRS_GSTART_AT.id % 4096) :
      (withGroup mask at' s).get F 0 = s.get F 0 := by
    rw [withGroup, get_put_field _ _ _ _ hF.2, get_put_field _ _ _ _ hF.1]
  have hahead : cyclesAhead at' (withGroup mask at' s) = cyclesAhead at' s := by
    rw [cyclesAhead, hget (by decide), cyclesAhead]
  refine if_pos (?_ : (!(withGroup mask at' s).flag LIM_STAT_RUNNING 0 || cyclesAhead at' (withGroup mask at' s) == 0 ||
    decide (2 ^ 31 ≤ cyclesAhead at' (withGroup mask at' s))) = true)
  rw [hahead]
  rcases h with h | h | h
  · simp [State.flag, hget (F := LIM_STAT_RUNNING) (by decide), h]
  · simp [h]
  · simp only [h, decide_true, Bool.or_true]

/-! ### The watchdog (07 R162) -/

theorem wdogWarning_warns {s : State} {n : Nat} (h0 : 0 < s.get CRS_CTRL_WDOG_N n) (h : s.get CRS_CTRL_WDOG_N n ≤ s.get WDOG_CNT n)
    (hs : s.get WDOG_SAID n = 0) : wdogWarning n s = crsInput n 63 (s.put WDOG_SAID n 1) :=
  if_pos ⟨Nat.ne_of_gt h0, h, hs⟩

theorem wdogWarning_early {s : State} {n : Nat} (h : s.get CRS_CTRL_WDOG_N n = 0 ∨ s.get WDOG_CNT n < s.get CRS_CTRL_WDOG_N n) :
    wdogWarning n s = s := by
  refine if_neg ?_
  rintro ⟨h0, hle, -⟩
  omega

theorem wdogExpiry_early {s : State} {n : Nat} (h : s.get CRS_CTRL_WDOG_N n = 0 ∨ s.get WDOG_CNT n < s.get CRS_CTRL_WDOG_N n) :
    wdogExpiry n s = s := by
  refine if_neg ?_
  rintro ⟨h0, hle, -⟩
  omega

theorem wdogExpiry_halts {s : State} {n : Nat} (h0 : 0 < s.get CRS_CTRL_WDOG_N n)
    (h : 2 * s.get CRS_CTRL_WDOG_N n ≤ s.get WDOG_CNT n) (hr : s.get CRS_STAT_STATE n = 2) :
    wdogExpiry n s = courseHalt n 2 (wdogKick n (wdogWarning n s)) := if_pos ⟨Nat.ne_of_gt h0, h, hr⟩

/-- An input of a Course, by what was pending before. -/
theorem crsInput_put {F : Fld} (hF : CRS_EVT_PEND_PEND.id % 4096 ≠ F.id % 4096) (s : State) (n i j v : Nat) :
    crsInput n i (s.put F j v) = if s.bit CRS_EVT_PEND_PEND n i then (s.put F j v).putBit CRS_EVT_DUP_DUP n i true
      else (s.put F j v).putBit CRS_EVT_PEND_PEND n i true := by
  rw [crsInput, State.bit, get_put_field _ _ _ _ hF, ← State.bit]

/-- The numbered state of its Course that the watchdog may change. -/
def wdogFields : List Fld := [WDOG_CNT, WDOG_SAID, CRS_EVT_PEND_PEND, CRS_EVT_DUP_DUP]

def wdogCells (n : Nat) : List (Fld × Nat) := wdogFields.map (fun F => (F, n))

theorem wdogWarning_cellsBut (n : Nat) (s : State) : CellsBut s (wdogWarning n s) (wdogCells n) [] := by
  have hsaid : CellsBut s (s.put WDOG_SAID n 1) (wdogCells n) [] :=
    cellsBut_put_copy _ (cellsBut_refl s) (by simp [wdogCells, wdogFields])
  unfold wdogWarning crsInput
  dsimp only
  split
  · split
    · exact cellsBut_put_copy _ hsaid (by simp [wdogCells, wdogFields])
    · exact cellsBut_put_copy _ hsaid (by simp [wdogCells, wdogFields])
  · exact cellsBut_refl s

theorem wdogWarning_quiet (n : Nat) (s : State) : Quiet s (wdogWarning n s) := by
  unfold wdogWarning crsInput
  dsimp only
  split
  · split <;> rfl
  · rfl

/-- The warning and the kick that an expiry begins with. -/
theorem wdogKick_warned_cellsBut (n : Nat) (s : State) : CellsBut s (wdogKick n (wdogWarning n s)) (wdogCells n) [] :=
  cellsBut_put_copy _ (cellsBut_put_copy _ (wdogWarning_cellsBut n s) (by simp [wdogCells, wdogFields])) (by simp [wdogCells, wdogFields])

theorem wdogKick_warned_quiet (n : Nat) (s : State) : Quiet s (wdogKick n (wdogWarning n s)) :=
  quiet_trans (wdogWarning_quiet n s) (quiet_trans (quiet_put _ WDOG_CNT n 0) (quiet_put _ WDOG_SAID n 0))

/-- A field that the watchdog does not write reads as before. -/
theorem get_warned {F : Fld} (h : ∀ G ∈ wdogFields, G.id % 4096 ≠ F.id % 4096) (n i : Nat) (s : State) :
    (wdogKick n (wdogWarning n s)).get F i = s.get F i := by
  refine wdogKick_warned_cellsBut n s F i (fun e he => ?_) (by simp)
  obtain ⟨G, hG, rfl⟩ := List.mem_map.mp he
  exact cellKey_ne (.inl (h G hG))

/-! ### HALTED (07 R161) -/

/-- One port of HALT_PORTS. -/
def haltPort (n p : Nat) (s : State) : State := if s.bit CRS_OWN_PORTS n p then s.put MAC_CYC_HALT p 1 else s

theorem haltPort_cellsBut (n p : Nat) (s : State) : CellsBut s (haltPort n p s) [] [MAC_CYC_HALT] := by
  unfold haltPort
  split
  · exact cellsBut_put_field _ _ (cellsBut_refl s) (by simp)
  · exact cellsBut_refl s

theorem haltPort_quiet (n p : Nat) (s : State) : Quiet s (haltPort n p s) := by
  unfold haltPort
  split <;> rfl

theorem haltPorts_eq (n : Nat) (s : State) :
    haltPorts n s = if s.flag CRS_CTRL_HALT_PORTS n then overRange (haltPort n) 32 s else s := rfl

theorem haltPorts_cellsBut (n : Nat) (s : State) : CellsBut s (haltPorts n s) [] [MAC_CYC_HALT] := by
  rw [haltPorts_eq]
  split
  · exact cellsBut_overRange (haltPort_cellsBut n) 32 s
  · exact cellsBut_refl s

theorem haltPorts_quiet (n : Nat) (s : State) : Quiet s (haltPorts n s) := by
  rw [haltPorts_eq]
  split
  · exact quiet_overRange (haltPort_quiet n) 32 s
  · rfl

/-- The lists marked to stop after the ports below `m` have been judged. -/
theorem get_halt_overRange (n m p : Nat) (s : State) : (overRange (haltPort n) m s).get MAC_CYC_HALT p =
    if p < m ∧ s.bit CRS_OWN_PORTS n p = true then 1 else s.get MAC_CYC_HALT p := by
  induction m with
  | zero => simp [overRange]
  | succ m ih =>
    have hown : (overRange (haltPort n) m s).bit CRS_OWN_PORTS n m = s.bit CRS_OWN_PORTS n m := by
      rw [State.bit, cellsBut_overRange (haltPort_cellsBut n) m s _ _ (by simp) (by decide), State.bit]
    rw [overRange, haltPort, hown]
    by_cases hp : p = m
    · subst hp
      split
      · next h => simp [h, MAC_CYC_HALT]
      · next h => simp [ih, h]
    · have hlt : p < m + 1 ↔ p < m := by omega
      simp only [hlt]
      rw [← ih]
      split
      · exact get_put_copy _ _ _ hp
      · rfl

theorem get_halt_haltPorts (n : Nat) (p : Fin 32) (s : State) : (haltPorts n s).get MAC_CYC_HALT p =
    if s.get CRS_CTRL_HALT_PORTS n ≠ 0 ∧ s.bit CRS_OWN_PORTS n p = true then 1 else s.get MAC_CYC_HALT p := by
  rw [haltPorts_eq]
  by_cases h : s.get CRS_CTRL_HALT_PORTS n = 0
  · simp [State.flag, h]
  · simp [State.flag, h, get_halt_overRange]

/-- The Course's own state at a halt. -/
def halted (n why : Nat) (s : State) : State :=
  ((s.put CRS_STAT_STATE n crsHalted).put CRS_STAT_HALT_WHY n why).put CORE_BLOCK n 0

/-- Without a lock a halt marks the ports, enters the state, and raises its event. -/
theorem courseHalt_unlocked {s : State} (n why : Nat) (hl : s.get TRB_STAT_LOCKED 0 = 0) :
    courseHalt n why s = (halted n why (haltPorts n s)).raise (3971 + 4 * n) := by
  have hopen : (halted n why (haltPorts n s)).get TRB_STAT_LOCKED 0 = 0 := by
    rw [halted, get_put_field _ _ _ _ (by decide), get_put_field _ _ _ _ (by decide), get_put_field _ _ _ _ (by decide),
      haltPorts_cellsBut n s _ _ (by simp) (by decide), hl]
  exact congrArg (fun t => State.raise t (3971 + 4 * n)) (lockLost_of_unlocked n hopen)

theorem halted_cellsBut (n why : Nat) (s : State) :
    CellsBut s (halted n why s) [(CRS_STAT_STATE, n), (CRS_STAT_HALT_WHY, n), (CORE_BLOCK, n)] [] :=
  cellsBut_put_copy _ (cellsBut_put_copy _ (cellsBut_put_copy _ (cellsBut_refl s) (by simp)) (by simp)) (by simp)

theorem get_halted_state (n why : Nat) (s : State) : (halted n why s).get CRS_STAT_STATE n = 3 := by
  rw [halted, get_put_field _ _ _ _ (by decide), get_put_field _ _ _ _ (by decide), get_put_same]
  rfl

theorem get_halted_why {why : Nat} (h : why < 4) (n : Nat) (s : State) : (halted n why s).get CRS_STAT_HALT_WHY n = why := by
  rw [halted, get_put_field _ _ _ _ (by decide), get_put_same]
  exact Nat.mod_eq_of_lt h

theorem halted_quiet (n why : Nat) (s : State) : Quiet s (halted n why s) := rfl

/-- The cells of its Course that an expiry may change. -/
def haltCells (n : Nat) : List (Fld × Nat) :=
  [(CRS_STAT_STATE, n), (CRS_STAT_HALT_WHY, n), (WDOG_CNT, n), (WDOG_SAID, n), (CRS_EVT_PEND_PEND, n), (CRS_EVT_DUP_DUP, n),
    (CORE_BLOCK, n)]

/-- The expiry of a running Course's watchdog (R161, R162). -/
theorem courseWatchdogExpiry_halts {n : Fin 32} {s : State} (h0 : 0 < s.get CRS_CTRL_WDOG_N n)
    (h : 2 * s.get CRS_CTRL_WDOG_N n ≤ s.get WDOG_CNT n) (hr : s.get CRS_STAT_STATE n = 2) (hl : s.get TRB_STAT_LOCKED 0 = 0) :
    Gives (.courseWatchdogExpiry n) s (fun t => t.get CRS_STAT_STATE n = 3 ∧ t.get CRS_STAT_HALT_WHY n = 2 ∧
      t.bit EVT_SEEN_SEEN ((3971 + 4 * n) / 32) ((3971 + 4 * n) % 32) = true ∧ QuietE s t ∧
      CellsBut s t (haltCells n) (MAC_CYC_HALT :: evtCells) ∧
      (∀ p : Fin 32, t.get MAC_CYC_HALT p =
        if s.get CRS_CTRL_HALT_PORTS n ≠ 0 ∧ s.bit CRS_OWN_PORTS n p = true then 1 else s.get MAC_CYC_HALT p)) := by
  let u := wdogKick n (wdogWarning n s)
  have hexpiry : wdogExpiry n s = (halted n 2 (haltPorts n u)).raise (3971 + 4 * n) :=
    (wdogExpiry_halts h0 h hr).trans (courseHalt_unlocked n 2 ((get_warned (by decide) n 0 s).trans hl))
  refine ⟨_, congrArg Host.Outcome.next hexpiry, ?state, ?why, raise_seen _ _ _ _, ?quiet, ?cells, fun p => ?ports⟩
  case state => exact (get_raise (by decide) _ _ _ _ _).trans (get_halted_state n 2 _)
  case why => exact (get_raise (by decide) _ _ _ _ _).trans (get_halted_why (by decide) n _)
  case quiet =>
    have hmarked : Quiet s (haltPorts n u) := quiet_trans (wdogKick_warned_quiet n s) (haltPorts_quiet n u)
    have hhalted : Quiet s (halted n 2 (haltPorts n u)) := quiet_trans hmarked (halted_quiet n 2 _)
    exact quietE_trans (quietE_of_quiet hhalted) (raise_quietE _ _ _ _)
  case cells =>
    have hwarned := cellsBut_mono (cs' := haltCells n) (Fs' := MAC_CYC_HALT :: evtCells) (by simp [wdogCells, wdogFields, haltCells])
      (List.nil_subset _) (wdogKick_warned_cellsBut n s)
    have hmarked := cellsBut_mono (cs' := haltCells n) (Fs' := MAC_CYC_HALT :: evtCells) (List.nil_subset _) (by simp)
      (haltPorts_cellsBut n u)
    have hhalted := cellsBut_mono (cs' := haltCells n) (Fs' := MAC_CYC_HALT :: evtCells) (by simp [haltCells])
      (List.nil_subset _) (halted_cellsBut n 2 (haltPorts n u))
    exact cellsBut_trans hwarned (cellsBut_trans hmarked (cellsBut_trans hhalted (cellsBut_mono (List.Subset.refl _)
      (List.subset_cons_self _ _) (raise_cellsBut _ _ _ _ _))))
  case ports =>
    have hhalt (i : Nat) : (halted n 2 (haltPorts n u)).get MAC_CYC_HALT i = (haltPorts n u).get MAC_CYC_HALT i := by
      rw [halted, get_put_field _ _ _ _ (by decide), get_put_field _ _ _ _ (by decide), get_put_field _ _ _ _ (by decide)]
    rw [get_raise (by decide), hhalt, get_halt_haltPorts, State.bit, State.bit]
    rw [get_warned (by decide), get_warned (by decide), get_warned (by decide)]

/-! ### Time compares (07 R171) -/

/-- A write of a compare with ARM = 1 and CLR_FIRED = 0. -/
theorem tcmpWrite_arm {ns frac dom : Nat} (hn : ns < 2 ^ 32) (hf : frac < 2 ^ 8) (hd : dom < 2 ^ 4) (n i : Nat) (s : State) :
    tcmpWrite n i (ns + frac * 2 ^ 32 + dom * 2 ^ 40 + 2 ^ 44) s =
      (((s.put CRS_TCMP_NS (4 * n + i) ns).put CRS_TCMP_FRAC (4 * n + i) frac).put CRS_TCMP_DOM (4 * n + i) dom).put
        CRS_TCMP_ARM (4 * n + i) 1 := by
  have hns : bitsOf (ns + frac * 2 ^ 32 + dom * 2 ^ 40 + 2 ^ 44) 0 32 = ns := by
    unfold bitsOf
    omega
  have hfrac : bitsOf (ns + frac * 2 ^ 32 + dom * 2 ^ 40 + 2 ^ 44) 32 8 = frac := by
    unfold bitsOf
    omega
  have hdom : bitsOf (ns + frac * 2 ^ 32 + dom * 2 ^ 40 + 2 ^ 44) 40 4 = dom := by
    unfold bitsOf
    omega
  have harm : bitsOf (ns + frac * 2 ^ 32 + dom * 2 ^ 40 + 2 ^ 44) 44 1 = 1 := by
    unfold bitsOf
    omega
  have hclr : bitOf (ns + frac * 2 ^ 32 + dom * 2 ^ 40 + 2 ^ 44) 45 = false := by
    have : (ns + frac * 2 ^ 32 + dom * 2 ^ 40 + 2 ^ 44) / 2 ^ 45 % 2 = 0 := by omega
    simp only [bitOf, this]
    rfl
  simp only [tcmpWrite, hns, hfrac, hdom, harm, hclr, Bool.false_eq_true, if_false]

/-- An armed compare, its input not pending, by whether its domain has reached the value. -/
theorem tcmpMatch_armed {s : State} {n i : Nat} (ha : s.get CRS_TCMP_ARM (4 * n + i) = 1)
    (hn : s.get CRS_TCMP_NS (4 * n + i) < 2 ^ 32) (hf : s.get CRS_TCMP_FRAC (4 * n + i) < 2 ^ 8)
    (hp : s.bit CRS_EVT_PEND_PEND n (56 + i) = false) :
    tcmpMatch n i s = if (s.get TMB_CTR (s.get CRS_TCMP_DOM (4 * n + i)) / 2 ^ 32 + 2 ^ 40 -
        (s.get CRS_TCMP_NS (4 * n + i) * 256 + s.get CRS_TCMP_FRAC (4 * n + i))) % 2 ^ 40 < 2 ^ 39 then
      ((s.put CRS_TCMP_ARM (4 * n + i) 0).put CRS_TCMP_FIRED (4 * n + i) 1).putBit CRS_EVT_PEND_PEND n (56 + i) true else s := by
  have hvalue : (s.get CRS_TCMP_NS (4 * n + i) * 256 + s.get CRS_TCMP_FRAC (4 * n + i)) % 2 ^ 40 =
      s.get CRS_TCMP_NS (4 * n + i) * 256 + s.get CRS_TCMP_FRAC (4 * n + i) := Nat.mod_eq_of_lt (by omega)
  have hfire : crsInput n (56 + i) ((s.put CRS_TCMP_ARM (4 * n + i) 0).put CRS_TCMP_FIRED (4 * n + i) 1) =
      ((s.put CRS_TCMP_ARM (4 * n + i) 0).put CRS_TCMP_FIRED (4 * n + i) 1).putBit CRS_EVT_PEND_PEND n (56 + i) true := by
    rw [crsInput_put (by decide), State.bit, get_put_field _ _ _ _ (by decide), ← State.bit, hp, if_neg (by decide)]
  simp only [tcmpMatch, flag_of_get_one ha, Bool.true_and, State.reached, State.now, hvalue, decide_eq_true_eq, hfire]

theorem tcmpMatch_unarmed {s : State} {n i : Nat} (h : s.get CRS_TCMP_ARM (4 * n + i) = 0) : tcmpMatch n i s = s := by
  simp [tcmpMatch, flag_of_get_zero h]

/-! ### Software events (07 R180) -/

/-- One software event of a write. -/
def swEvent (n v k : Nat) (s : State) : State := if bitOf v k then s.raise (3968 + 4 * n + k) else s

theorem swEvents_eq (n v : Nat) (s : State) : swEvents n v s = overRange (swEvent n v) 3 s := rfl

theorem swEvents_zero (n : Nat) (s : State) : swEvents n 0 s = s := rfl

theorem swEvents_quietE (n v : Nat) (s : State) : QuietE s (swEvents n v s) := by
  refine quietE_overRange (fun k t => ?_) 3 s
  split
  · exact raise_quietE _ _ _ _
  · rfl

theorem swEvents_cellsBut (n v : Nat) (s : State) : CellsBut s (swEvents n v s) [] evtCells := by
  refine cellsBut_overRange (fun k t => ?_) 3 s
  split
  · exact raise_cellsBut _ _ _ _ _
  · exact cellsBut_refl t

/-- Every event that the first `m` bits ask for has been seen. -/
theorem swEvents_seen {v k : Nat} (n : Nat) (hk : bitOf v k = true) (s : State) (m : Nat) (h : k < m) :
    (overRange (swEvent n v) m s).bit EVT_SEEN_SEEN ((3968 + 4 * n + k) / 32) ((3968 + 4 * n + k) % 32) = true := by
  induction m with
  | zero => exact absurd h (Nat.not_lt_zero k)
  | succ m ih =>
    rw [overRange, swEvent]
    by_cases hkm : k = m
    · subst hkm
      rw [if_pos hk]
      exact raise_seen _ _ _ _
    · have hseen := ih (by omega)
      split
      · exact raise_keeps_seen hseen _ _ _
      · exact hseen

/-! ### The commands of the register block: a permitted write acts -/

theorem gateCC_of_permit {s : State} {a : Nat} (k : State → State) (h : s.permit .cc .registers a true = .yes) :
    s.gateCC .cc a k = k s := (if_pos rfl).trans (gate_of_permit k h)

theorem exec_crsStart {n : Fin 32} {s : State} (h : s.permit .cc .registers (crsAddr 0 n) true = .yes) :
    exec (.crsStart .cc n) s = .next (courseStart n s) := congrArg Host.Outcome.next (gate_of_permit _ h)

theorem exec_crsStop {n : Fin 32} {s : State} (h : s.permit .cc .registers (crsAddr 0 n) true = .yes) :
    exec (.crsStop .cc n) s = .next (courseStop n s) := congrArg Host.Outcome.next (gate_of_permit _ h)

theorem exec_crsGstartArm {mask at' : Word} {s : State} (h : s.permit .cc .registers 0x4088_1000 true = .yes) :
    exec (.crsGstartArm .cc mask at') s = .next (gstartArm mask.toNat at'.toNat s) :=
  congrArg Host.Outcome.next (gateCC_of_permit _ h)

/-- A group start that happens at once (R174). -/
theorem crsGstartArm_starts {mask at' : Word} {s : State} (hq : s.permit .cc .registers 0x4088_1000 true = .yes)
    (h : s.get LIM_STAT_RUNNING 0 = 0 ∨ cyclesAhead at'.toNat s = 0 ∨ 2 ^ 31 ≤ cyclesAhead at'.toNat s) :
    Gives (.crsGstartArm .cc mask at') s (fun t => (∀ n : Fin 32, t.get CRS_STAT_STATE n =
        if mask.getLsbD n = true ∧ s.get CRS_STAT_STATE n = 1 then 2 else s.get CRS_STAT_STATE n) ∧ t.get GST_ARMED 0 = 0 ∧
      Quiet s t ∧ CellsBut s t [(CRS_GSTART_MASK, 0), (CRS_GSTART_AT, 0), (GST_ARMED, 0)] [CRS_STAT_STATE]) := by
  let u := (withGroup mask.toNat at'.toNat s).put GST_ARMED 0 0
  refine ⟨_, (exec_crsGstartArm hq).trans (congrArg _ (gstartArm_starts mask.toNat h)), fun n => ?_, ?_, ?_, ?_⟩
  · have hu : u.get CRS_STAT_STATE n = s.get CRS_STAT_STATE n := by
      simp only [u, withGroup]
      rw [get_put_field _ _ _ _ (by decide), get_put_field _ _ _ _ (by decide), get_put_field _ _ _ _ (by decide)]
    rw [groupStart_eq, get_groupSteps, hu, bitOf_eq_testBit, BitVec.testBit_toNat]
    simp [n.isLt]
  · rw [groupStart_cellsBut mask.toNat u _ _ (by simp) (by decide), get_put_same]
    rfl
  · exact quiet_trans (t := u) rfl (groupStart_quiet _ _)
  · have hu : CellsBut s u [(CRS_GSTART_MASK, 0), (CRS_GSTART_AT, 0), (GST_ARMED, 0)] [CRS_STAT_STATE] :=
      cellsBut_put_copy _ (cellsBut_put_copy _ (cellsBut_put_copy _ (cellsBut_refl s) (by simp)) (by simp)) (by simp)
    exact cellsBut_trans hu (cellsBut_mono (List.nil_subset _) (List.Subset.refl _) (groupStart_cellsBut _ _))

/-- Settles O24: each command by what its operation does; the group start, the marked ports and the software events by induction on the
Courses, ports and bits judged so far; STOP by the count of the stores that still wait. -/
theorem courseStates : Obligations.CourseStates := by
  unfold Obligations.CourseStates
  refine ⟨?start, ?stop, ?stopIdle, ?stopIgnored, ?armed, ?group, ?kick, ?warning, ?early, ?expiry, ?tcmpArm, ?tcmpMatch, ?tcmpOff,
    ?swevt⟩
  case start => exact fun n s hq => exec_crsStart hq
  case stop =>
    exact fun n s hq h => ⟨_, exec_crsStop hq, get_courseStop_state h, waiting_courseStop h, get_courseStop_why h⟩
  case stopIdle => exact fun n s hq h hw hl => (exec_crsStop hq).trans (congrArg _ (courseStop_idle h hw hl))
  case stopIgnored => exact fun n s hq h => (exec_crsStop hq).trans (congrArg _ (courseStop_ignored h))
  case armed =>
    exact fun mask at' s hq hr _ h1 h2 => (exec_crsGstartArm hq).trans (congrArg _ (gstartArm_arms mask.toNat hr h1 h2))
  case group => exact fun mask at' s hq h => crsGstartArm_starts hq h
  case kick => exact fun q n s hq => congrArg Host.Outcome.next (gate_of_permit _ hq)
  case warning =>
    exact fun n s h0 h hs => congrArg Host.Outcome.next ((wdogWarning_warns h0 h hs).trans (crsInput_put (by decide) _ _ _ _ _))
  case early =>
    exact fun n s h => ⟨congrArg Host.Outcome.next (wdogWarning_early h), congrArg Host.Outcome.next (wdogExpiry_early h)⟩
  case expiry => exact fun n s h0 h hr hl => courseWatchdogExpiry_halts h0 h hr hl
  case tcmpArm =>
    exact fun q n i ns frac dom s hq => congrArg Host.Outcome.next
      ((gate_of_permit _ hq).trans (tcmpWrite_arm ns.isLt frac.isLt dom.isLt n i s))
  case tcmpMatch =>
    rintro n i _ s ha rfl - hn hf hp
    exact congrArg Host.Outcome.next (tcmpMatch_armed ha hn hf hp)
  case tcmpOff => exact fun n i s h => congrArg Host.Outcome.next (tcmpMatch_unarmed h)
  case swevt =>
    intro q n v s hq
    refine ⟨_, congrArg Host.Outcome.next (gate_of_permit _ hq), fun k hk => ?_, ?_, swEvents_quietE _ _ _, swEvents_cellsBut _ _ _⟩
    · have hbit : bitOf v.toNat k = true := by
        rw [bitOf_eq_testBit, BitVec.testBit_toNat]
        exact hk
      exact swEvents_seen n hbit s 3 k.isLt
    · rintro rfl
      exact swEvents_zero n s

end Sys2Proof.Machine.CourseControl
end
